-- ==== Sys2Proof/Word.lean ====
section
/-! DEFINITION. The word types of the NV6400 model: bytes, the 32-bit words of registers and AX32 registers, byte
strings in memory order, and the small index types. -/

namespace Sys2Proof

/-- One byte. -/
abbrev Byte := BitVec 8

/-- A 32-bit word: a control block register (R15) or an AX32 register. -/
abbrev Word := BitVec 32

/-- A byte string, the byte at the lowest address (or first on the wire) first. -/
abbrev Bytes := List Byte

/-- A vat number, 0 to 63 (R17). -/
abbrev Vat := Fin 64

/-- A deckle number, 0 to 15. -/
abbrev Deckle := Fin 16

/-- An AX32 core: 0 to 63 the vat cores, 64 the primary and 65 the service warden pair, each pair one core in lockstep
(R18, R498). -/
abbrev Core := Fin 66

/-- A general register number of AX32. -/
abbrev Gpr := Fin 32

/-- A felt stop, 0 to 83 (R21). -/
abbrev Stop := Fin 84

end Sys2Proof
end

