-- ==== Sys2Proof/Syntax.lean ====
section
/-! DEFINITION. The commands of the NV6400: one constructor per row of the spec's opcode table, with the operands the
event carries (notes/assumptions/1.md). -/

namespace Sys2Proof

/-- The width of a register access (R15). -/
inductive Size where
  | byte | half | word
  deriving DecidableEq, Repr

/-- Who sends an access on the felt: a core at its level, host software through BAR0 of a function (0 the physical
function, f the virtual function of deckle f - 1), or a fixed-function block at its felt stop (R21). -/
inductive Sender where
  | core (c : Core) (priv : Bool)
  | host (f : Fin 17)
  | unit (stop : Stop)
  deriving DecidableEq, Repr

/-- Where a descriptor comes from: a queue of a host function, or a port with its sender's address, UDP port and
SOURCE_ID (R231). -/
inductive Source where
  | host (f : Fin 17) (q : Fin 8)
  | net (port : Fin 64) (ip : Nat) (udp : Nat) (sid : Nat)
  deriving DecidableEq, Repr

/-- Where a datagram came from and went to: source MAC address, VLAN and DSCP, family, addresses and UDP ports (R773, R776). -/
structure NetMeta where
  mac  : Nat
  vlan : Nat
  dscp : Nat
  v6   : Bool
  sip  : Nat
  dip  : Nat
  sudp : Nat
  dudp : Nat
  deriving DecidableEq, Repr

/-- An item of a start that is attempted up to three times (R684): an external rail, a power domain, a PLL, a PMBus regulator, or the
training of an HBM stack. -/
inductive StartItem where
  | rail (r : Fin 6)
  | domain (n : Fin 68)
  | pll (n : Fin 16)
  | regulator (r : Fin 6)
  | hbm (n : Fin 2)
  deriving DecidableEq, Repr

/-- A message of a slot frame (R813): its ORIGIN, its type in the order of R813, its sequence number and its bytes, header included. -/
structure PondMsg where
  origin : Fin 16
  type   : Fin 9
  seq    : Nat
  data   : Bytes
  deriving DecidableEq, Repr

/-- A record as a message of another pond member carries it (R353, R356). -/
structure KeyMsg where
  handle  : Nat
  gen     : Nat
  state   : Nat
  ktype   : Nat
  usage   : Nat
  mode    : Nat
  expo    : Nat
  kvn     : Nat
  ikId    : Bytes
  counter : Nat
  created : Nat
  key     : Bytes
  pub     : Bytes
  deriving DecidableEq, Repr

/-- The commands. -/
inductive Instr where
  /-- REGISTER_WRITE: A write to a register field that has no row of its own, applied according to its access type, lock and range rules (R11) -/
  | registerWrite (who : Sender) (size : Size) (addr : Nat) (v : Word)
  /-- SERVICE_PAIR_MISMATCH: The service pair's compare logic finds a mismatch; the pair is held in reset and a warden fault event is raised (R19) -/
  | servicePairMismatch
  /-- PRIMARY_PAIR_MISMATCH: The primary pair's compare logic finds a mismatch; admission stops at the next edge, admitted jobs release, and a warm reset follows (R20) -/
  | primaryPairMismatch
  /-- FELT_TRANSFER: A target receives a felt transfer and checks its tag and sequence number before it acts on it (R22) -/
  | feltTransfer (src dst : Stop) (addr seq : Nat) (tagOk : Bool)
  /-- FELT_REPEAT: A fixed-function sender that gets no acknowledgement within 500 ns repeats its transfer once (R636) -/
  | feltRepeat (src dst : Stop) (addr seq : Nat) (tagOk : Bool) (job : Nat)
  /-- BEAT_EDGE: The beat generator produces an edge, BEAT_COUNT rises by one, and the edge's admissions and releases take place (R49) -/
  | beatEdge
  /-- BEAT_TICK: Every BEAT_TICK_DIV beats, event 240 is raised at the edge (R66) -/
  | beatTick
  /-- REAM_CLOSE: BEAT_CLOSE felt cycles before an edge, admission closes the ream and places waiting jobs on the deckle's vats (R71) -/
  | reamClose
  /-- BEAT_START: A write of BEAT_CTRL.START starts the generator, at once or at the next TIME_PPS edge (R55) -/
  | beatStart (who : Sender) (v : Word)
  /-- BEAT_PERIOD_WRITE: A write of BEAT_PERIOD takes effect at the next edge, or is refused while admission is open or a job is outstanding (R64) -/
  | beatPeriodWrite (who : Sender) (v : Word)
  /-- BEAT_TQ_SEL_WRITE: A write of BEAT_TQ_SEL updates BEAT_TQ_VALUE and BEAT_TQ_SURCHARGE for the queried deckle, algorithm and verb (R65) -/
  | beatTqSelWrite (who : Sender) (v : Word)
  /-- REFERENCE_LOST: The felt PLL loses its reference; it enters holdover and event 243 is raised (R54) -/
  | referenceLost
  /-- TIME_PPS_EDGE: A TIME_PPS edge arrives and is accepted or ignored according to its spacing (R802) -/
  | timePpsEdge (at_ : Nat)
  /-- PPS_LOSS: After 1.1 s without an accepted PPS edge, PPS_PRESENT clears and event 235 is raised (R803) -/
  | ppsLoss
  /-- TIME_10M_CHECK: Each second the TIME block measures TIME_10M against REFCLK to decide whether it is present (R801) -/
  | time10mCheck (ppb : Int)
  /-- DESCRIPTOR_RECEIVED: Admission receives a descriptor, checks it in the order of R240 and queues it or answers MALFORMED or BUSY (R240) -/
  | descriptorReceived (src : Source) (d : Deckle) (desc input : Bytes)
  /-- WAIT_LIMIT_EXPIRY: A descriptor not placed within its deckle's wait limit is released BUSY (R74) -/
  | waitLimitExpiry (job : Nat)
  /-- COUCH_RELEASE: At a job's due edge the couch releases its completion, with its output, to the requester (R85) -/
  | couchRelease (job : Nat)
  /-- OUTPUT_COPY_FAIL: A PCIe write of a host job's output fails; the completion is posted FAULT 0x0505 (R251) -/
  | outputCopyFail (job : Nat)
  /-- MISSED_EDGE: A job's result or record is not ready by the commit deadline; it is released FAULT and its vat may be parked (R87) -/
  | missedEdge (job : Nat) (vatCause : Bool)
  /-- VAT_POWER_GATE: A parked vat is power-gated once its admitted jobs have released (R48) -/
  | vatPowerGate (v : Vat)
  /-- RESERVOIR_READ_SET: 2,000 ns after the admission edge, a surcharged job makes its read set of data block and tree blocks (R410) -/
  | reservoirReadSet (job : Nat)
  /-- RESERVOIR_READ_COMPLETE: A reservoir block read completes and is checked against the tree before use (R408) -/
  | reservoirReadComplete (job : Nat) (rbn : Nat) (ok : Bool)
  /-- PIN_TRANSLATE: Deciphers a PIN block under KEY_A and re-enciphers the PIN under KEY_B (R112) -/
  | pinTranslate (job : Nat)
  /-- PIN_VERIFY: Checks a customer PIN against the expected PIN from a decimalised offset (R114) -/
  | pinVerify (job : Nat)
  /-- MAC_GENERATE: Computes a MAC over the message under KEY_A (R118) -/
  | macGenerate (job : Nat)
  /-- MAC_VERIFY: Computes a MAC and compares it with the given one (R119) -/
  | macVerify (job : Nat)
  /-- CRYPTOGRAM_VERIFY: Checks an EMV ARQC and optionally produces an ARPC (R124) -/
  | cryptogramVerify (job : Nat)
  /-- DUKPT_DERIVE: Derives an AES DUKPT working key and exports it as a key block (R132) -/
  | dukptDerive (job : Nat)
  /-- TOKENIZE: Replaces a digit string by an FF1 token of the same length (R136) -/
  | tokenize (job : Nat)
  /-- DETOKENIZE: Recovers the digit string from a token and checks the vault entry (R138) -/
  | detokenize (job : Nat)
  /-- DATA_TRANSLATE: Deciphers data under KEY_A and enciphers it under KEY_B inside the vat (R144) -/
  | dataTranslate (job : Nat)
  /-- SEAL: Enciphers and authenticates data with AES-GCM (R149) -/
  | seal (job : Nat)
  /-- OPEN: Checks the GCM tag and deciphers data (R152) -/
  | openV (job : Nat)
  /-- HASH: Computes the digest that ALG selects (R153) -/
  | hash (job : Nat)
  /-- RANDOM: Draws random bytes from the deckle lane, with optional prediction resistance (R155) -/
  | random (job : Nat)
  /-- NOOP: Returns the BEAT_COUNT of its admission edge (R242) -/
  | noop (job : Nat)
  /-- SIGN: Signs a message or digest under KEY_A's key pair (R180) -/
  | sign (job : Nat)
  /-- VERIFY: Verifies a signature under a recorded or inline public key (R185) -/
  | verify (job : Nat)
  /-- KEYPAIR: Generates a key pair, keeps its private half in a new record and returns the public key (R189) -/
  | keypair (job : Nat)
  /-- AGREE: Reaches a shared secret with a peer key or ciphertext and returns a derived key block (R198) -/
  | agree (job : Nat)
  /-- ENCAPSULATE: Makes an ML-KEM ciphertext to a recipient key and returns it with a derived key block (R201) -/
  | encapsulate (job : Nat)
  /-- PKE_START: A write of PKE_CMD.START starts the job in the job block, or is ignored and recorded (R216) -/
  | pkeStart (who : Sender) (v : Vat) (w : Word)
  /-- PKE_WIPE: A write of PKE_CMD.WIPE wipes all 16 KiB of operand memory (R228) -/
  | pkeWipe (who : Sender) (v : Vat) (w : Word)
  /-- PKE_WORK_END: A PKE job's work ends; stream buffers, secret workspace and randomness pool are wiped and read back (R217) -/
  | pkeWorkEnd (v : Vat) (readBack check : Bool)
  /-- PKE_DONE_EDGE: At edge b + t − 1 the PKE raises its done event and hands over the result (R168) -/
  | pkeDoneEdge (v : Vat) (readBack : Bool)
  /-- SYM_LOCK_WRITE: A write of SYM_LOCK locks every RWL register of the symmetric engine until vat reset (R156) -/
  | symLockWrite (who : Sender) (v : Vat) (w : Word)
  /-- PKE_LOCK_WRITE: A write of PKE_LOCK locks every RWL register of the PKE until vat reset (R224) -/
  | pkeLockWrite (who : Sender) (v : Vat) (w : Word)
  /-- CANCEL: Removes or marks matching jobs of one host queue (R261) -/
  | cancel (job : Nat)
  /-- ABORT: Stops targeted jobs and wipes every touched vat (R267) -/
  | abort (job : Nat)
  /-- ABORT_RELEASE: At edge e0 + 1 the couch releases every targeted and collateral job ABORTED (R269) -/
  | abortRelease (job : Nat)
  /-- ABORT_COMPLETE: At edge e0 + 2 touched vats rejoin and the ABORT completes OK (R270) -/
  | abortComplete (job : Nat)
  /-- DRAIN: Closes a queue or deckle to new work (R275) -/
  | drain (job : Nat)
  /-- DRAIN_COMPLETE: A DRAIN completes at the first edge at which no job of its scope remains (R277) -/
  | drainComplete (job : Nat)
  /-- DRAIN_LIMIT_EXPIRY: LIMIT beats pass without completion; remaining jobs are ended as by an ABORT (R278) -/
  | drainLimitExpiry (job : Nat)
  /-- RESUME: Reopens a drained scope at its completion edge (R279) -/
  | resume (job : Nat)
  /-- SEQ_SETTINGS: Applies new payment sequencer settings to every vat of the deckle from the next edge (R280) -/
  | seqSettings (job : Nat)
  /-- PKE_SETTINGS: Applies new PKE policy and algorithm enables to every vat of the deckle from the next edge (R281) -/
  | pkeSettings (job : Nat)
  /-- ADMIT_OPEN_WRITE: A write of ADMIT_CTRL.OPEN opens or closes admission from the next edge (R286) -/
  | admitOpenWrite (who : Sender) (v : Word)
  /-- ADMIT_WAIT_LIMIT_WRITE: A write of a deckle's wait limit takes effect at the next edge for every waiting descriptor (R288) -/
  | admitWaitLimitWrite (who : Sender) (d : Deckle) (v : Word)
  /-- FRAME_RECEIVED: A transaction frame on a route reaches admission, which receives its descriptors in frame order (R255) -/
  | frameReceived (port : Fin 64) (m : NetMeta) (payload : Bytes)
  /-- SQ_TAIL_WRITE: A doorbell write of SQ_TAIL lets the device fetch descriptors up to the new tail (R782) -/
  | sqTailWrite (who : Sender) (f : Fin 17) (q : Fin 8) (v : Word)
  /-- CQ_HEAD_WRITE: A write of CQ_HEAD frees completion-ring entries and may allow further fetches (R782) -/
  | cqHeadWrite (who : Sender) (f : Fin 17) (q : Fin 8) (v : Word)
  /-- DQ_HEAD_WRITE: A write of DQ_HEAD frees diagnostic-ring entries (R782) -/
  | dqHeadWrite (who : Sender) (f : Fin 17) (v : Word)
  /-- HOST_DESCRIPTOR_RECEIVED: A host descriptor and its input have been copied into staging and count as received (R235) -/
  | hostDescriptorReceived (f : Fin 17) (q : Fin 8) (desc input : Bytes)
  /-- HOST_QUEUE_ENABLE: Setting Q_ENABLE or the diagnostic ring's ENABLE starts the ring at entry 0 with phase 1 (R961) -/
  | hostQueueEnable (who : Sender) (f : Fin 17) (q : Fin 8) (diag : Bool) (v : Word)
  /-- HOST_QUEUE_CLOSE: Clearing Q_ENABLE closes the queue and removes or marks its jobs (R785) -/
  | hostQueueClose (who : Sender) (f : Fin 17) (q : Fin 8) (v : Word)
  /-- FUNCTION_LEVEL_RESET: A Function Level Reset ends the function's jobs as an ABORT would and disables its queues (R786) -/
  | functionLevelReset (f : Fin 17)
  /-- HOST_CONVENTIONAL_RESET: A hot reset, link disable or PERST_N clears VF Enable and acts on every function (R786) -/
  | hostConventionalReset
  /-- BUS_MASTER_DISABLE: With Bus Master Enable 0 or the link down, the device fetches and writes nothing for the function (R787) -/
  | busMasterDisable (f : Fin 17)
  /-- KEY_IMPORT: Imports a key block or public key into a new record or terminal context (R326) -/
  | keyImport (job : Nat)
  /-- KEY_EXPORT: Exports a record as a key block or its public key in clear (R330) -/
  | keyExport (job : Nat)
  /-- KEY_GENERATE: Creates a symmetric key from the vat's DRBG, optionally exporting it (R332) -/
  | keyGenerate (job : Nat)
  /-- KEY_UPDATE: Replaces, renews or restricts a record and steps its generation (R334) -/
  | keyUpdate (job : Nat)
  /-- KEY_RETIRE: Retires a record or empties a terminal context for ever (R339) -/
  | keyRetire (job : Nat)
  /-- KEY_CHANGE_COMMIT: In beat b + t − 1 a key verb's commit record commits and the KEYS block installs the change (R954) -/
  | keyChangeCommit (job : Nat)
  /-- VAT_INVALIDATION: A vat receives an invalidation and discards older entries of the handle (R315) -/
  | vatInvalidation (v : Vat) (handle : Nat) (gen : Nat)
  /-- SYNC_PREPARE_RECEIVED: A peer receives a synchronous PREPARE, journals it and acknowledges or refuses it (R356) -/
  | syncPrepareReceived (d : Deckle) (origin : Fin 16) (m : KeyMsg)
  /-- SYNC_ACK_RECEIVED: The origin receives an acknowledgement of its prepare (R355) -/
  | syncAckReceived (d : Deckle) (peer : Fin 16) (handle gen : Nat) (ok decision : Bool)
  /-- SYNC_COMMIT_DECISION: At edge b + 9 the origin counts acknowledgements and commits or rolls back (R355) -/
  | syncCommitDecision (job : Nat)
  /-- SYNC_DECISION_RECEIVED: A peer receives the COMMIT or ABORT of a synchronous change and applies or discards it (R357) -/
  | syncDecisionReceived (d : Deckle) (origin : Fin 16) (handle gen : Nat) (commit : Bool)
  /-- SYNC_DECISION_TIMEOUT: After 64 beats without acknowledgement the origin removes the peer from mirroring (R357) -/
  | syncDecisionTimeout (d : Deckle) (peer : Fin 16) (handle gen : Nat)
  /-- MIRROR_APPLY_RECEIVED: A peer receives a mirrored record and applies it if its generation is higher (R353) -/
  | mirrorApplyReceived (d : Deckle) (origin : Fin 16) (m : KeyMsg)
  /-- MIRROR_COUNTERS_RECEIVED: A member receives mirrored counter values and merges them (R352) -/
  | mirrorCountersReceived (d : Deckle) (origin : Fin 16) (values : List (Nat × Nat))
  /-- MIRROR_RESYNC: Joining members exchange generations and each applies the highest committed one (R358) -/
  | mirrorResync (d : Deckle) (member : Fin 16) (recs : List KeyMsg)
  /-- KEYS_MIRROR_LIST_WRITE: A write to KEYS_MIRROR_LIST may only remove peers; additions are refused and recorded (R359) -/
  | keysMirrorListWrite (who : Sender) (d : Deckle) (v : Word)
  /-- SEAL_EPOCH_ROTATE: After 16,777,216 records or 1,048,576 beats a chain starts a new seal epoch (R373) -/
  | sealEpochRotate (k : Fin 17)
  /-- JOURNAL_BLOCK_CLOSE: A chain's open block is closed, when full or after 64 beats, and written to its ring (R390) -/
  | journalBlockClose (k : Fin 17)
  /-- JOURNAL_BLOCK_DURABLE: The NVMe write of a journal block completes and its lines become durable (R382) -/
  | journalBlockDurable (k : Fin 18) (jbn : Nat)
  /-- JOURNAL_BLOCK_RELEASE: A journal block whose release conditions all hold is released for overwrite (R391) -/
  | journalBlockRelease (k : Fin 17)
  /-- JOURNAL_READ: Reads journal blocks or root log entries, or moves the archive mark (R394) -/
  | journalRead (job : Nat)
  /-- VAULT_SET: Sets a vault entry active or suspended (R399) -/
  | vaultSet (job : Nat)
  /-- NVME_COMMAND_TIMEOUT: A reservoir command not complete within TIMEOUT is aborted (R793) -/
  | nvmeCommandTimeout (q : Fin 16)
  /-- NVME_ABORT_TIMEOUT: A command still incomplete 100 ms after its Abort causes a controller reset (R793) -/
  | nvmeAbortTimeout (q : Fin 16)
  /-- NVME_READY_TIMEOUT: A controller not ready 2 s after a reset is marked FAILED (R793) -/
  | nvmeReadyTimeout (q : Fin 16)
  /-- NVME_COMPLETION: A reservoir port polls the completion of an NVMe command (R791) -/
  | nvmeCompletion (q : Fin 16) (n : Nat) (ok : Bool)
  /-- RESERVOIR_LINK_LOSS: A surprise removal or link loss fails every pending command of the port (R794) -/
  | reservoirLinkLoss (q : Fin 16) (removed : Bool)
  /-- MOULD_LOAD: Stages and checks a mould image (R454) -/
  | mouldLoad (job : Nat)
  /-- MOULD_LOAD_COMPLETE: The load's checks end and its completion is released at the first edge after them (R453) -/
  | mouldLoadComplete (job : Nat)
  /-- MOULD_COMMIT: Commits a staged full mould or deckle part (R459) -/
  | mouldCommit (job : Nat)
  /-- DECKLE_REOPEN: The deckle reopens at the first edge at which every vat has rejoined, releasing the commit (R464) -/
  | deckleReopen
  /-- FULL_REMOULD_RESET: At the edge after a full commit's completion the device stops admission and warm-resets (R462) -/
  | fullRemouldReset
  /-- MOULD_ABANDON: Empties the named staging area (R455) -/
  | mouldAbandon (job : Nat)
  /-- ADD: gd := ga + gb (R485) -/
  | add (c : Core) (gd ga gb : Gpr)
  /-- SUB: gd := ga − gb (R485) -/
  | sub (c : Core) (gd ga gb : Gpr)
  /-- AND: gd := ga AND gb (R485) -/
  | andR (c : Core) (gd ga gb : Gpr)
  /-- OR: gd := ga OR gb (R485) -/
  | orR (c : Core) (gd ga gb : Gpr)
  /-- XOR: gd := ga XOR gb (R485) -/
  | xorR (c : Core) (gd ga gb : Gpr)
  /-- NOR: gd := NOT (ga OR gb) (R485) -/
  | nor (c : Core) (gd ga gb : Gpr)
  /-- SLT: Signed set-less-than (R485) -/
  | slt (c : Core) (gd ga gb : Gpr)
  /-- SLTU: Unsigned set-less-than (R485) -/
  | sltu (c : Core) (gd ga gb : Gpr)
  /-- SLL: Shift left by register (R485) -/
  | sll (c : Core) (gd ga gb : Gpr)
  /-- SRL: Logical shift right by register (R485) -/
  | srl (c : Core) (gd ga gb : Gpr)
  /-- SRA: Arithmetic shift right by register (R485) -/
  | sra (c : Core) (gd ga gb : Gpr)
  /-- ROR: Rotate right by register (R485) -/
  | ror (c : Core) (gd ga gb : Gpr)
  /-- MUL: Low 32 bits of the product (R485) -/
  | mul (c : Core) (gd ga gb : Gpr)
  /-- MULH: High 32 bits of the signed product (R485) -/
  | mulh (c : Core) (gd ga gb : Gpr)
  /-- MULHU: High 32 bits of the unsigned product (R485) -/
  | mulhu (c : Core) (gd ga gb : Gpr)
  /-- DIV: Signed division, never raising an exception (R486) -/
  | div (c : Core) (gd ga gb : Gpr)
  /-- DIVU: Unsigned division (R486) -/
  | divu (c : Core) (gd ga gb : Gpr)
  /-- REM: Signed remainder (R486) -/
  | rem (c : Core) (gd ga gb : Gpr)
  /-- REMU: Unsigned remainder (R486) -/
  | remu (c : Core) (gd ga gb : Gpr)
  /-- ADDI: gd := ga + sext(IMM16) (R484) -/
  | addi (c : Core) (gd ga : Gpr) (imm : BitVec 16)
  /-- ANDI: gd := ga AND zext(IMM16) (R484) -/
  | andi (c : Core) (gd ga : Gpr) (imm : BitVec 16)
  /-- ORI: gd := ga OR zext(IMM16) (R484) -/
  | ori (c : Core) (gd ga : Gpr) (imm : BitVec 16)
  /-- XORI: gd := ga XOR zext(IMM16) (R484) -/
  | xori (c : Core) (gd ga : Gpr) (imm : BitVec 16)
  /-- SLTI: Signed compare with immediate (R484) -/
  | slti (c : Core) (gd ga : Gpr) (imm : BitVec 16)
  /-- SLTIU: Unsigned compare with sign-extended immediate (R484) -/
  | sltiu (c : Core) (gd ga : Gpr) (imm : BitVec 16)
  /-- LUI: gd := IMM16 × 65,536 (R484) -/
  | lui (c : Core) (gd : Gpr) (imm : BitVec 16)
  /-- SLLI: Shift left by immediate (R484) -/
  | slli (c : Core) (gd ga : Gpr) (sh : BitVec 5)
  /-- SRLI: Logical shift right by immediate (R484) -/
  | srli (c : Core) (gd ga : Gpr) (sh : BitVec 5)
  /-- SRAI: Arithmetic shift right by immediate (R484) -/
  | srai (c : Core) (gd ga : Gpr) (sh : BitVec 5)
  /-- RORI: Rotate right by immediate (R484) -/
  | rori (c : Core) (gd ga : Gpr) (sh : BitVec 5)
  /-- AUIPC: gd := PC + IMM16 × 65,536 (R484) -/
  | auipc (c : Core) (gd : Gpr) (imm : BitVec 16)
  /-- LB: Load a sign-extended byte, with a load-delay slot (R479) -/
  | lb (c : Core) (gd ga : Gpr) (imm : BitVec 16)
  /-- LBU: Load a zero-extended byte (R479) -/
  | lbu (c : Core) (gd ga : Gpr) (imm : BitVec 16)
  /-- LH: Load a sign-extended half-word (R479) -/
  | lh (c : Core) (gd ga : Gpr) (imm : BitVec 16)
  /-- LHU: Load a zero-extended half-word (R479) -/
  | lhu (c : Core) (gd ga : Gpr) (imm : BitVec 16)
  /-- LW: Load a word (R479) -/
  | lw (c : Core) (gd ga : Gpr) (imm : BitVec 16)
  /-- LOAD_RESPONSE: The data of an outstanding aperture load returns and is written to its destination (R492) -/
  | loadResponse (c : Core)
  /-- SB: Store a byte through the store buffer (R479) -/
  | sb (c : Core) (gs ga : Gpr) (imm : BitVec 16)
  /-- SH: Store a half-word (R479) -/
  | sh (c : Core) (gs ga : Gpr) (imm : BitVec 16)
  /-- SW: Store a word (R479) -/
  | sw (c : Core) (gs ga : Gpr) (imm : BitVec 16)
  /-- SWAP: Atomic exchange at an accepting target (R489) -/
  | swap (c : Core) (gd ga gb : Gpr)
  /-- CAS: Atomic compare-and-swap at an accepting target (R489) -/
  | cas (c : Core) (gd ga gb : Gpr)
  /-- BEQ: Branch if equal (R487) -/
  | beq (c : Core) (ga gb : Gpr) (imm : BitVec 16)
  /-- BNE: Branch if not equal (R487) -/
  | bne (c : Core) (ga gb : Gpr) (imm : BitVec 16)
  /-- BLT: Branch if less, signed (R487) -/
  | blt (c : Core) (ga gb : Gpr) (imm : BitVec 16)
  /-- BGE: Branch if greater or equal, signed (R487) -/
  | bge (c : Core) (ga gb : Gpr) (imm : BitVec 16)
  /-- BLTU: Branch if less, unsigned (R487) -/
  | bltu (c : Core) (ga gb : Gpr) (imm : BitVec 16)
  /-- BGEU: Branch if greater or equal, unsigned (R487) -/
  | bgeu (c : Core) (ga gb : Gpr) (imm : BitVec 16)
  /-- JAL: Jump and link (R484) -/
  | jal (c : Core) (gd : Gpr) (imm : BitVec 21)
  /-- JR: Jump to register plus offset (R488) -/
  | jr (c : Core) (ga : Gpr) (imm : BitVec 16)
  /-- JALR: Jump to register plus offset and link (R488) -/
  | jalr (c : Core) (gd ga : Gpr) (imm : BitVec 16)
  /-- SRR: Read a system register (R490) -/
  | srr (c : Core) (gd : Gpr) (srn : BitVec 12)
  /-- SRW: Write a system register, non-speculatively, affecting every younger instruction (R500) -/
  | srw (c : Core) (ga : Gpr) (srn : BitVec 12)
  /-- TRAP: Enter vector 8 with number n (R490) -/
  | trap (c : Core) (n : BitVec 8)
  /-- XRET: Return from the current exception (R532) -/
  | xret (c : Core)
  /-- FENCE: Order all older accesses before younger ones (R516) -/
  | fence (c : Core)
  /-- FENCEI: Synchronise instruction fetch with earlier stores (R518) -/
  | fencei (c : Core)
  /-- WFE: Stop issuing until an interrupt is pending (R533) -/
  | wfe (c : Core)
  /-- INTERRUPT_ENTRY: A pending interrupt is taken at an instruction boundary (R533) -/
  | interruptEntry (c : Core)
  /-- REFUSED_STORE: A target refuses a retired store; younger stores are discarded and the fault is entered (R535) -/
  | refusedStore (c : Core)
  /-- FELT_TIMEOUT: A felt access receives no response within 4,000 ns; vector 9 is entered (R524) -/
  | feltTimeout (c : Core) (addr : Word)
  /-- BUDGET_EXPIRY: XBUDGET reaches zero at user level and vector 11 is entered (R543) -/
  | budgetExpiry (c : Core)
  /-- USER_VERB: Runs a customer user verb at user level on a vat (R447) -/
  | userVerb (job : Nat)
  /-- SLUICE_ATTR_WRITE: A write of SLUICE_ATTR or VSL_ATTR validates the entry before it takes part in matching (R552) -/
  | sluiceAttrWrite (who : Sender) (own : Option Vat) (n : Fin 4736) (v : Word)
  /-- SLUICE_BASE_WRITE: A write of an entry's base registers, refused while the entry is valid or locked (R553) -/
  | sluiceBaseWrite (who : Sender) (own : Option Vat) (n : Fin 4736) (high : Bool) (v : Word)
  /-- SLUICE_CLEAR: Invalidates and unlocks every entry of an owner, only while that owner is applying or restarting (R556) -/
  | sluiceClear (who : Sender) (v : Word)
  /-- SEED_COMPLETE: A cell's run of 640 samples is conditioned into a seed and enters the store (R568) -/
  | seedComplete (c : Fin 128) (samples : Bytes)
  /-- CELL_HEALTH_FAILURE: A cell fails the RCT or APT and leaves service (R572) -/
  | cellHealthFailure (c : Fin 128) (apt : Bool)
  /-- CELL_RETEST: 1 ms after a failure the spring runs the cell's start-up test again (R572) -/
  | cellRetest (c : Fin 128)
  /-- CELL_STARTUP_COMPLETE: A cell's 1,024-sample start-up test ends and the cell enters service if both tests pass (R571) -/
  | cellStartupComplete (c : Fin 128) (pass apt : Bool)
  /-- PERIODIC_RESEED: A vat instance or lane is due for its periodic reseed at its edge (R580) -/
  | periodicReseed (v : Vat)
  /-- DEVICE_DRBG_RESEED: The device DRBG reseeds itself at least once every 1,024 beats (R581) -/
  | deviceDrbgReseed
  /-- DEVICE_DRBG_RESEED_TIMEOUT: A commanded reseed finds no seed within 1 ms; the device DRBG enters its error state (R583) -/
  | deviceDrbgReseedTimeout
  /-- SPRING_RESEED: A write of SPRING_CMD.RESEED reseeds the device DRBG with additional input (R581) -/
  | springReseed (who : Sender)
  /-- SPRING_REINST_LANE: A write of SPRING_CMD.REINST_LANE instantiates a vat's lane again from the next edge (R601) -/
  | springReinstLane (who : Sender) (v : Vat)
  /-- SPRING_ENABLE: A write of SPRING_CTRL.ENABLE starts the spring and its start-up tests (R599) -/
  | springEnable (who : Sender)
  /-- SPRING_RAW_ENTER: A write of 1 to SPRING_CTRL.RAW enters raw mode when admission is closed (R589) -/
  | springRawEnter (who : Sender)
  /-- SPRING_RAW_EXIT: A write of 0 to SPRING_CTRL.RAW retests the cells and rebuilds the store (R592) -/
  | springRawExit (who : Sender)
  /-- SPRING_TEST: A write of SPRING_CTRL.TEST sets the factory test pattern in the blank state (R593) -/
  | springTest (who : Sender)
  /-- SPRING_OUT_READ: A read of SPRING_OUT consumes 4 bytes of device DRBG output (R598) -/
  | springOutRead (who : Sender)
  /-- SPRING_RAW_READ: A read of SPRING_RAW consumes 32 raw samples (R590) -/
  | springRawRead (who : Sender)
  /-- VDR_OUT_READ: A read of VDR_OUT consumes 4 bytes of the vat instance's queue (R603) -/
  | vdrOutRead (who : Sender) (v : Vat)
  /-- MONITOR_ASSERT: A physical monitor's voted state becomes asserted and counts an excursion (R611) -/
  | monitorAssert (m : Fin 5) (sensors : BitVec 3) (low : Bool) (temp : BitVec 16)
  /-- MONITOR_HELD: A monitor still asserted after each further 100 ms counts another excursion (R611) -/
  | monitorHeld (m : Fin 5) (low : Bool)
  /-- EVIDENCE_BURN_PENDING: A burn that waited for charge is carried out once the charge store holds a charge (R630) -/
  | evidenceBurnPending
  /-- SENSOR_DISSENT: A sensor disagrees with its two partners for 10 ms and a dissent is counted (R610) -/
  | sensorDissent (m : Fin 5) (sensors : BitVec 3)
  /-- BATTERY_SAMPLE: On battery alone, a monitor is sampled at its period and trips after COUNT consecutive asserted samples (R613) -/
  | batterySample (m : Fin 5) (asserted : Bool)
  /-- CLEAR_RESPONSE_DONE: The CLEAR response's drain and zeroisation end; CLEAR_DONE is set and a warm reset follows (R619) -/
  | clearResponseDone
  /-- ERASE_RESPONSE_DONE: The ERASE response's erasure ends; ERASE_DONE is set and a warm reset follows (R620) -/
  | eraseResponseDone
  /-- TAMPER_ACK: A write of TAMPER_ACK clears PENDING and the latch's done flags (R625) -/
  | tamperAck (who : Sender) (v : Word)
  /-- VBAT_LOW: VBAT falls below 2.4 V and VBAT_LOW is set (R638) -/
  | vbatLow
  /-- POWER_ON_RESET: VIN_CORE and VDD_IO18 exceed 1.60 V and the always-on domain leaves power-on reset (R650) -/
  | powerOnReset
  /-- VIN_CORE_GOOD: VIN_CORE has stayed at or above 1.71 V for 1 ms and rail sequencing begins (R650) -/
  | vinCoreGood
  /-- RAIL_READY: A rail's PG_RAIL has been high for 100 µs and the next rail is enabled (R651) -/
  | railReady (r : Fin 6)
  /-- RAIL_ATTEMPT_TIMEOUT: A rail, domain, PLL, regulator or HBM stack misses its attempt timeout (R684) -/
  | railAttemptTimeout (item : StartItem) (detail : Fin 6)
  /-- RETRY_PAUSE_END: 1 ms after a failed attempt the device tries the item again (R685) -/
  | retryPauseEnd (item : StartItem)
  /-- DOMAIN_READY: An integrated regulator domain reports ready (R654) -/
  | domainReady (n : Fin 68)
  /-- PLL_LOCK: A PLL reports lock (R684) -/
  | pllLock (n : Fin 16) (onRc : Bool)
  /-- HBM_TRAINING_DONE: Training of an HBM stack completes (R684) -/
  | hbmTrainingDone (n : Fin 2)
  /-- RAIL_LOST: A ready rail's PG_RAIL falls or its regulator reports a fault in service (R652) -/
  | railLost (r : Fin 6)
  /-- PMB_ALERT: PMB_ALERT_N falls or telemetry fails; the device reads STATUS_WORD from every regulator (R657) -/
  | pmbAlert (fault : Option (Fin 6))
  /-- PMBUS_TELEMETRY_POLL: Every 1 ms the device reads each regulator's telemetry (R656) -/
  | pmbusTelemetryPoll (ok : Bool) (fault : Option (Fin 6))
  /-- VAT_TEMP_SAMPLE: Every 100 µs each vat's temperature is sampled; three hot samples park the vat (R660) -/
  | vatTempSample (v : Vat) (t : Int)
  /-- THERMAL_UNPARK: A vat's samples have stayed cool for 100 ms and it is unparked (R660) -/
  | thermalUnpark (v : Vat)
  /-- THERMAL_STOP_RELEASE: Every sensor has stayed cool for 1 s and the thermal stop ends (R661) -/
  | thermalStopRelease
  /-- PMU_POWER_SAMPLE: Every 1 ms the PMU measures VIN_CORE power and applies the backstop (R664) -/
  | pmuPowerSample (mv da : Fin 4096)
  /-- PMU_PWR_LIMIT_WRITE: A write of PMU_PWR_LIMIT recomputes the vat cap and parks or unparks vats (R709) -/
  | pmuPwrLimitWrite (who : Sender) (v : Word)
  /-- VAT_JOIN: An unparked vat has been loaded and tested and joins admission at the next edge (R662) -/
  | vatJoin (v : Vat) (ok : Bool)
  /-- RESET_N_ASSERTED: The board drives RESET_N low for at least 1 µs, a reset source (R667) -/
  | resetNAsserted
  /-- RESET_RELEASE: 2 ms after the last source ends and RESET_N reads high, the device reset ends (R666) -/
  | resetRelease
  /-- DEVICE_START: The device runs its quick, full or warm start up to first admission (R680) -/
  | deviceStart (fwOk : Bool) (kat : BitVec 64) (late : Bool)
  /-- RESET_CMD_WARM: A write of RESET_CMD.WARM causes a warm reset (R707) -/
  | resetCmdWarm (who : Sender) (key : Byte)
  /-- RESET_CMD_COLD: A write of RESET_CMD.COLD causes a cold reset (R707) -/
  | resetCmdCold (who : Sender) (key : Byte)
  /-- RESET_CMD_VAT_RESET: A write of RESET_CMD.VAT_RESET resets one parked, idle vat (R670) -/
  | resetCmdVatReset (who : Sender) (key : Byte) (v : Vat)
  /-- RESET_CMD_SERVICE_PAIR: A write of RESET_CMD.SERVICE_PAIR restarts the service pair (R671) -/
  | resetCmdServicePair (who : Sender) (key : Byte)
  /-- RESET_CMD_CLR_FAIL: A write of RESET_CMD.CLR_FAIL clears the start-failure registers (R690) -/
  | resetCmdClrFail (who : Sender) (key : Byte)
  /-- POWER_FAIL: PWRFAIL_N falls and the device runs its power-fail sequence (R694) -/
  | powerFail
  /-- POWER_FAIL_DRAIN_DONE: The journal is durable, the tree root and the state block are committed (R415) -/
  | powerFailDrainDone
  /-- HOLDUP_END: 3,000 µs after PWRFAIL_N the device zeroises the rest, drives RESET_N and releases the rails (R694) -/
  | holdupEnd
  /-- PWRFAIL_RISE: PWRFAIL_N rises again while VIN_CORE is present (R689) -/
  | pwrfailRise
  /-- HELD_SELF_RESET: A held device performs its own cold reset once PWRFAIL_N has stayed high for 10 ms (R689) -/
  | heldSelfReset
  /-- SHUTDOWN: Stops admission, drains, zeroises, optionally self-tests, writes the certificate and holds (R697) -/
  | shutdown (job : Nat)
  /-- SELF_TEST_COMPLETE: Self-test ends and its results enter the certificate (R699) -/
  | selfTestComplete (pass : BitVec 64) (fails : BitVec 3) (block : Nat) (cells : BitVec 128)
  /-- SELF_TEST_CONDITIONS_TIMEOUT: At a full start the self-test conditions are not met within 1 s; start without self-test (R698) -/
  | selfTestConditionsTimeout
  /-- WATCHDOG_KICK: A write of 0x4B to EVT_WDOG_KICK restarts the writer's pair's watchdog (R892) -/
  | watchdogKick (who : Sender) (v : Word)
  /-- WATCHDOG_WARNING: Half a watchdog period passes without a kick; event 488 (R892) -/
  | watchdogWarning (p : Fin 2)
  /-- WATCHDOG_EXPIRY: A full period passes without a kick; warm reset or service pair held in reset (R892) -/
  | watchdogExpiry (p : Fin 2)
  /-- WMARK_EXTEND: A write of WMARK_EXTEND extends a watermark register with WMARK_EXT_DATA (R722) -/
  | wmarkExtend (who : Sender) (v : Word)
  /-- WMARK_ADVANCE: A write of WMARK_ADVANCE raises the stage, deriving the CDI and alias key at 1 to 2 (R715) -/
  | wmarkAdvance (v : Word)
  /-- GET_VERSION: SPDM request answered with version 1.2 (R724) -/
  | getVersion (vdm : Bool) (m : Bytes)
  /-- GET_CAPABILITIES: SPDM request answered with the supported capabilities (R724) -/
  | getCapabilities (vdm : Bool) (m : Bytes)
  /-- NEGOTIATE_ALGORITHMS: SPDM request negotiating P-384 and SHA-384 (R724) -/
  | negotiateAlgorithms (vdm : Bool) (m : Bytes)
  /-- GET_DIGESTS: SPDM request for certificate chain digests (R724) -/
  | getDigests (vdm : Bool) (m : Bytes)
  /-- GET_CERTIFICATE: SPDM request for the slot 0 certificate chain (R724) -/
  | getCertificate (vdm : Bool) (m : Bytes)
  /-- CHALLENGE: SPDM challenge answered under the alias key with the device state block (R725) -/
  | challenge (vdm : Bool) (m : Bytes)
  /-- GET_MEASUREMENTS: SPDM request for measurement blocks, signed under the alias key (R726) -/
  | getMeasurements (vdm : Bool) (m : Bytes)
  /-- SPDM_UNSUPPORTED_REQUEST: Any other SPDM request receives ERROR (R724) -/
  | spdmUnsupportedRequest (vdm : Bool) (m : Bytes)
  /-- IDENTITY: Reads the device identity or installs the vendor chain in the blank state (R720) -/
  | identity (job : Nat)
  /-- LIFE_CHALLENGE: Draws and returns a lifecycle challenge nonce (R739) -/
  | lifeChallenge (job : Nat)
  /-- LIFE_CHALLENGE_EXPIRY: A held challenge lapses 60 s after its issue (R740) -/
  | lifeChallengeExpiry
  /-- LIFE_CHANGE: Checks and carries out a lifecycle operation (R742) -/
  | lifeChange (job : Nat)
  /-- TAP_INSTRUCTION_LOAD: A test port instruction selects its data register, or bypass where the state forbids it (R743) -/
  | tapInstructionLoad (ir : BitVec 8) (dr : BitVec 85)
  /-- LIFE_AUTH_NEW_CHALLENGE: LIFE_AUTH command 0x1 issues a new challenge (R744) -/
  | lifeAuthNewChallenge
  /-- LIFE_AUTH_READ_WORD: LIFE_AUTH command 0x2 returns the next challenge word (R744) -/
  | lifeAuthReadWord
  /-- LIFE_AUTH_APPEND: LIFE_AUTH command 0x3 appends a word to the token buffer (R744) -/
  | lifeAuthAppend (w : Word)
  /-- LIFE_AUTH_SUBMIT: LIFE_AUTH command 0x4 checks and carries out the buffered token (R744) -/
  | lifeAuthSubmit
  /-- LIFE_AUTH_EMPTY: LIFE_AUTH command 0x5 empties the token buffer (R744) -/
  | lifeAuthEmpty
  /-- DEBUG_HALT: DBG_DATA command 0x1 halts the selected core or pair (R745) -/
  | debugHalt
  /-- DEBUG_RESUME: DBG_DATA command 0x2 resumes it (R745) -/
  | debugResume
  /-- DEBUG_STEP: DBG_DATA command 0x3 executes one instruction, or a load with its slot, then halts (R745) -/
  | debugStep
  /-- DEBUG_READ_REGISTER: DBG_DATA command 0x4 reads a general register or PC (R745) -/
  | debugReadRegister (n : BitVec 12)
  /-- DEBUG_WRITE_REGISTER: DBG_DATA command 0x5 writes a general register or PC (R745) -/
  | debugWriteRegister (n : BitVec 12) (v : Word)
  /-- DEBUG_READ_SYSTEM_REGISTER: DBG_DATA command 0x6 reads a system register (R745) -/
  | debugReadSystemRegister (n : BitVec 12)
  /-- DEBUG_WRITE_SYSTEM_REGISTER: DBG_DATA command 0x7 writes a system register under its access rules (R745) -/
  | debugWriteSystemRegister (n : BitVec 12) (v : Word)
  /-- DEBUG_SET_ADDRESS: DBG_DATA command 0x8 sets the debug load address (R745) -/
  | debugSetAddress (a : Word)
  /-- DEBUG_LOAD: DBG_DATA command 0x9 loads a word as the halted core would (R746) -/
  | debugLoad
  /-- DEBUG_STORE: DBG_DATA command 0xA stores a word as the halted core would (R746) -/
  | debugStore (v : Word)
  /-- DEBUG_BREAKPOINT: A breakpoint matches and the core halts or enters vector 10 (R747) -/
  | debugBreakpoint (c : Core)
  /-- REPLAY_QUARANTINE: Takes a vat of the deckle out of admission for replay (R753) -/
  | replayQuarantine (job : Nat)
  /-- REPLAY_QUARANTINE_READY: The vat has released its jobs, been reset and reloaded, and the quarantine completes (R753) -/
  | replayQuarantineReady (v : Vat)
  /-- REPLAY_RUN: Checks and starts a replay of a recorded span on the quarantined vat (R758) -/
  | replayRun (job : Nat)
  /-- REPLAY_RUN_COMPLETE: The run's last recomputed release passes and its comparison is released (R760) -/
  | replayRunComplete (v : Vat)
  /-- REPLAY_RELEASE: Resets a quarantined vat and returns it to admission or to fault parking (R753) -/
  | replayRelease (job : Nat)
  /-- NETWORK_LINK_CHANGE: A network port's link comes up or goes down (R769) -/
  | networkLinkChange (port : Fin 64) (up : Bool)
  /-- MKA_FRAME: An EAPOL-MKA frame is received and processed by the port's MKA participant (R771) -/
  | mkaFrame (port : Fin 64) (icvOk live : Bool) (sa : Option (Fin 4))
  /-- NETWORK_FRAME_RECEIVED: A frame passes MACsec, VLAN and IP/UDP checks and goes to route lookup (R773) -/
  | networkFrameReceived (port : Fin 64) (frame : Bytes) (fcsOk macsecOk : Bool)
  /-- PAUSE_FRAME: A PAUSE or PFC frame is counted and discarded (R769) -/
  | pauseFrame (port : Fin 64)
  /-- ARP_REQUEST: The port answers an ARP request for its IPv4 address (R774) -/
  | arpRequest (port : Fin 64) (mac ip target : Nat)
  /-- NEIGHBOR_SOLICITATION: The port answers a Neighbor Solicitation for its IPv6 addresses (R774) -/
  | neighborSolicitation (port : Fin 64) (mac ip target : Nat)
  /-- RESPONSE_FRAME_TRANSMIT: NETW_EGRESS after the release edge the port starts transmitting the edge's response frames (R777) -/
  | responseFrameTransmit (port : Fin 64)
  /-- SET_ENDPOINT_ID: MCTP control command assigning the endpoint ID (R788) -/
  | setEndpointId (vdm : Bool) (inst : BitVec 5) (op : Fin 4) (eid : BitVec 8)
  /-- GET_ENDPOINT_ID: MCTP control command returning the endpoint ID (R788) -/
  | getEndpointId (vdm : Bool) (inst : BitVec 5)
  /-- GET_ENDPOINT_UUID: MCTP control command returning the endpoint UUID (R788) -/
  | getEndpointUuid (vdm : Bool) (inst : BitVec 5)
  /-- GET_MCTP_VERSION_SUPPORT: MCTP control command returning supported versions (R788) -/
  | getMctpVersionSupport (vdm : Bool) (inst : BitVec 5) (type : BitVec 8)
  /-- GET_MESSAGE_TYPE_SUPPORT: MCTP control command returning supported message types (R788) -/
  | getMessageTypeSupport (vdm : Bool) (inst : BitVec 5)
  /-- MCTP_PACKET_DROP: Any other MCTP packet is discarded and counted (R788) -/
  | mctpPacketDrop (vdm : Bool)
  /-- UART_TRANSMIT_WRITE: A write of MGMT_UART_DATA queues a byte for the console, or drops it when the FIFO is full (R790) -/
  | uartTransmitWrite (who : Sender) (v : Word)
  /-- UART_RECEIVE_READ: A read of MGMT_UART_DATA takes a byte from the receive FIFO (R790) -/
  | uartReceiveRead (who : Sender)
  /-- UART_BYTE_RECEIVED: A console character is received into the receive FIFO (R790) -/
  | uartByteReceived (b : Byte)
  /-- HBM_LINE_MAC_FAIL: An HBM line fails its MAC; it is read again, then delivered or poisoned (R798) -/
  | hbmLineMacFail (n : Fin 2) (line : Nat) (again : Bool) (who : Sender)
  /-- HBM_STACK_HOT: A stack reports 95 °C or more; at 105 °C the thermal stop applies (R800) -/
  | hbmStackHot (n : Fin 2) (t : Int)
  /-- ULOON_LINK_UP: A Uloon link comes up and the ends exchange identities and agree a link key (R805) -/
  | uloonLinkUp (u : Fin 8) (peer : Fin 16) (pondId : Word) (rootOk : Bool) (halfUs : Nat) (life : Fin 5) (hops delay : Nat)
  /-- ULOON_LEADER_WAIT_EXPIRY: A leader hears no BEAT message within 2 s and starts its own beat (R807) -/
  | uloonLeaderWaitExpiry
  /-- ULOON_SLOT_TRANSMIT: At its slot start a member sends its slot frame on every link that is up (R809) -/
  | uloonSlotTransmit
  /-- ULOON_SLOT_FRAME_RECEIVED: A slot frame is received and accepted or discarded by its timing (R810) -/
  | uloonSlotFrameReceived (u : Fin 8) (sender : Fin 16) (start : Nat) (tagOk sync : Bool) (beat : Nat) (offset : Int) (msgs : List PondMsg)
  /-- TRANSPORT_KEY_DISTRIBUTE: The lowest member draws and floods a deckle transport key at each membership change (R815) -/
  | transportKeyDistribute (d : Deckle)
  /-- CARD_INSERTED: CARDs_DET_N stays low for the debounce time and the slot activates the card (R827) -/
  | cardInserted (n : Fin 2)
  /-- CARD_ATR_RECEIVED: A slot receives and checks the card's answer to reset (R829) -/
  | cardAtrReceived (n : Fin 2) (atr : Bytes) (timely : Bool)
  /-- CARD_ATR_TIMEOUT: No acceptable ATR arrives; the slot retries or deactivates (R830) -/
  | cardAtrTimeout (n : Fin 2) (ts : Bool)
  /-- CARD_RETRY_DELAY_END: 10 ms after deactivation the slot activates the card again (R830) -/
  | cardRetryDelayEnd (n : Fin 2)
  /-- CARD_PPS_RESPONSE: The card echoes the PPS request and the slot switches parameters (R832) -/
  | cardPpsResponse (n : Fin 2) (echo : Bytes)
  /-- CARD_PPS_TIMEOUT: No PPS echo within 9,600 etu; the slot reactivates without PPS (R832) -/
  | cardPpsTimeout (n : Fin 2)
  /-- CARD_ACTIVATE: A write of CARD_CMD.ACTIVATE activates the card (R828) -/
  | cardActivate (who : Sender) (n : Fin 2)
  /-- CARD_DEACTIVATE: A write of CARD_CMD.DEACTIVATE deactivates the card in order (R840) -/
  | cardDeactivate (who : Sender) (n : Fin 2)
  /-- CARD_SEND: A write of CARD_CMD.SEND carries the command APDU to the card (R834) -/
  | cardSend (who : Sender) (n : Fin 2)
  /-- CARD_BLOCK_RECEIVED: A procedure byte, T=1 block or response arrives from the card (R835) -/
  | cardBlockReceived (n : Fin 2) (data : Bytes) (ok : Bool)
  /-- CARD_WAIT_TIMEOUT: A character or block waiting time expires and the slot retries or deactivates (R836) -/
  | cardWaitTimeout (n : Fin 2)
  /-- CARD_EXCHANGE_TIMEOUT: An exchange exceeds CARD_APDU_MAX and ends with ERR TIMEOUT (R837) -/
  | cardExchangeTimeout (n : Fin 2)
  /-- CARD_CLOCK_STOP: 1,860 clock cycles after an exchange the slot stops the card clock (R838) -/
  | cardClockStop (n : Fin 2)
  /-- CARD_REMOVED: CARDs_DET_N rises for 100 µs and the slot deactivates the card (R839) -/
  | cardRemoved (n : Fin 2)
  /-- CLESS_PING: Every CLESS_PING ms the reader pings the antenna and polls on detuning (R843) -/
  | clessPing (amp : Nat) (cards : List (Bytes × Nat))
  /-- CLESS_FRAME_RECEIVED: A frame arrives from a Type A card (R848) -/
  | clessFrameReceived (data : Bytes) (ok : Bool)
  /-- CLESS_FWT_TIMEOUT: A frame waiting time expires and the reader repeats or ends the exchange (R850) -/
  | clessFwtTimeout
  /-- CLESS_EXCHANGE_TIMEOUT: An exchange exceeds CLESS_APDU_MAX and ends with ERR TIMEOUT (R850) -/
  | clessExchangeTimeout
  /-- CLESS_SEND: A write of CLESS_CMD.SEND sends the command APDU to the card in hand (R848) -/
  | clessSend (who : Sender)
  /-- CLESS_DESELECT: A write of CLESS_CMD.DESELECT deselects the card and adds it to the list (R846) -/
  | clessDeselect (who : Sender)
  /-- CLESS_UID_EXPIRY: A list entry not seen for CLESS_MEMORY seconds is removed (R847) -/
  | clessUidExpiry
  /-- QUORUM_OPEN: Opens a quorum session for the requested groups (R857) -/
  | quorumOpen (job : Nat)
  /-- QUORUM_LIST: Commits a new custodian list (R854) -/
  | quorumList (job : Nat)
  /-- QUORUM_APPROVAL: A custodian card's signature verification ends and the approval is counted (R858) -/
  | quorumApproval (src : Fin 3) (pub sig : Bytes) (ok : Bool)
  /-- QUORUM_TIMEOUT: The session reaches TIMEOUT without a grant (R859) -/
  | quorumTimeout
  /-- QUORUM_GRANT_LAPSE: Live grants lapse after GRANT_TIME (R859) -/
  | quorumGrantLapse
  /-- QUORUM_GUARD_WRITE: A write of QUORUM_GUARD sets guarded groups until reset (R862) -/
  | quorumGuardWrite (who : Sender) (v : Word)
  /-- EVT_DOORBELL: A write of EVT_DOORBELL raises event 576 + n (R873) -/
  | evtDoorbell (who : Sender) (v : Word)
  /-- EVT_PEND_CLEAR: A W1C write of EVT_PEND clears pending bits and their weir counts (R876) -/
  | evtPendClear (who : Sender) (k : Fin 20) (v : Word)
  /-- VEV_RING: A warden write of VEV_RING raises vat-local event 32 + n (R874) -/
  | vevRing (who : Sender) (u : Vat) (v : Word)
  /-- EVT_TRACE_PUT: A write of EVT_TRACE_PUT writes a trace entry or counts its loss (R888) -/
  | evtTracePut (who : Sender) (v : Word)
  /-- ERRC_CLEAR: A write of ERRC_CLEAR clears a source's count and first entry (R886) -/
  | errcClear (who : Sender) (k : Fin 128) (v : Word)
  /-- ERRC_Q_POP: A write of ERRC_Q_POP removes the head entry of the error queue (R899) -/
  | errcQPop (who : Sender) (v : Word)
  /-- ILLEGAL_INSTRUCTION: The core issues an instruction word whose opcode, FUNC or FN is unassigned, or whose zero fields are not zero, and enters vector 0 (R483) -/
  | illegalInstruction (c : Core) (w : Word)
  /-- INSTRUCTION_FETCH_FAULT: The fetch of the next instruction from an address the core may not fetch from, or one a sluice refuses, raises vector 2 (R481) -/
  | instructionFetchFault (c : Core)
  /-- STORE_ACKNOWLEDGED: A store that left the store buffer is performed at its target and acknowledged, freeing its buffer entry and letting a waiting FENCE or atomic proceed (R516) -/
  | storeAcknowledged (c : Core) (n : Fin 8)
  /-- LOSS_OF_MAIN_POWER: VIN_CORE falls away, the volatile state and the tarn are lost, and the battery domain changes to running from VBAT alone, which clears every source's excursion count (R615) -/
  | lossOfMainPower
  /-- VBAT_FIRST_APPLIED: VBAT is first applied; the battery domain sets its alive pattern, starts the real-time clock and takes the first-application values of its settings (R626) -/
  | vbatFirstApplied
  /-- VBAT_REMOVED: VBAT is removed while VIN_CORE is absent, and the battery domain loses its alive pattern, clock, latch and settings (R626) -/
  | vbatRemoved
  /-- MONITOR_DEASSERT: A physical monitor's voted state returns to clear, its ASSERT bit clears, and it stops counting further excursions (R643) -/
  | monitorDeassert (m : Fin 5) (sensors : BitVec 3) (temp : BitVec 16)
  /-- RAW_SAMPLE_WORD: In raw mode, a run of 32 samples of the selected cell enters the 256-word FIFO, or is discarded and counted when the FIFO is full (R590) -/
  | rawSampleWord (c : Fin 128) (w : Word)
  /-- MKA_LIVE_PEER_LOST: A port's MKA live peer expires, the port drops its secure association, and it discards received frames and drops response frames (R772) -/
  | mkaLivePeerLost (port : Fin 64)
  /-- HOST_LINK_UP: The host port's PCIe link comes up and the device resumes fetching and writing for functions whose Bus Master Enable is 1 (R787) -/
  | hostLinkUp (bme : BitVec 17)
  /-- RESERVOIR_LINK_UP: A reservoir port's link comes up and its controller becomes ready, after which the port issues commands again (R794) -/
  | reservoirLinkUp (q : Fin 16) (gen : Fin 6) (width : Fin 3) (ident : Word)
  /-- ULOON_LINK_DOWN: A Uloon link goes down; its peer falls silent for mirroring, and a follower that loses every path to the leader enters holdover (R808) -/
  | uloonLinkDown (u : Fin 8)
  /-- SMBUS_CLOCK_LOW_TIMEOUT: The SMBus or PMBus clock is held low for 25 ms to 35 ms, and the device releases the bus (R922) -/
  | smbusClockLowTimeout (pmbus : Bool)
  deriving DecidableEq, Repr

end Sys2Proof
end

