-- ==== Sys2Proof/Decode.lean ====
section
/-! DEFINITION. The spec's opcode table gives no row any bits: its rows are commands and events of a block, not encoded
words. -/

namespace Sys2Proof

/-- The command a word spells by the table's bits: none, since no row of the table gives bits. -/
def decodeTableWord (_nbits _w : Nat) : Option Instr := none

end Sys2Proof
end

