-- ==== Sys2Proof/Config.lean ====
section
/-! DEFINITION. What one part or board fixes, and the free values: constants without a body, of which nothing can be
proved, for every value the spec leaves open. -/

namespace Sys2Proof.Config

/-- The n-th byte that the device draws from noise (R566 to R604): entropy, of which the spec fixes nothing. FREE VALUE. -/
opaque freeByte : Nat → Byte

/-- The n-th otherwise unspecified word (a value the spec calls undefined). FREE VALUE. -/
opaque freeWord : Nat → Word

/-- How many blocks of 256 bytes, beyond the first, one refill of the device DRBG's queue makes: the spec gives the queue no
size (R598). FREE VALUE. -/
opaque devRefill : Nat

/-- The device fuse key (R292), the n-th byte. FREE VALUE: the part's fuse map holds it. -/
opaque fuseKey : Nat → Byte

/-- The n-th byte of the key that the ladder derives from the fuse key for the MAC of deep-store copies (R348), whose label the
spec does not give. FREE VALUE. -/
opaque deepMacKey : Nat → Byte

/-- What a wrapped key of the deep store reads as (R347): key, generation and byte. FREE VALUE: the spec gives no wrap. -/
opaque deepWrap : Bytes → Nat → Nat → Byte

/-- The bytes that a journal record of a kind holds after its header where the spec names what the record carries and not where
it stands (R370, R371): kind, what it carries, and byte. FREE VALUE. -/
opaque recByte : Nat → Bytes → Nat → Byte

/-- The bytes of a counter checkpoint block (R413), whose layout the spec does not give: what it holds, and byte. FREE VALUE. -/
opaque checkpointByte : Bytes → Nat → Byte

/-- The MSI-X vector of a diagnostic ring (R783), for which the spec gives no field. FREE VALUE. -/
opaque diagVector : Nat

/-- Bytes that a PKE job of a verb and ALG draws into its randomness pool (R211): the spec fixes the quantity and does not give it.
FREE VALUE. -/
opaque pkeBlind : Nat → Nat → Nat

/-- The primes that an RSA KEYPAIR finds within its budget (R192, R193), if it does, from ALG, public exponent and what it drew:
the spec gives no order of candidates. FREE VALUE. -/
opaque rsaPrimes : Nat → Nat → Bytes → Option (Nat × Nat)

/-- Rejection rounds that the dummy key of R100 needs, from ALG and what was drawn: the spec does not give that key. FREE VALUE. -/
opaque dummyRounds : Nat → Bytes → Nat

/-- Exportability and KVN in the header of a key block that AGREE or ENCAPSULATE writes (R197), which the spec does not give.
FREE VALUES. -/
opaque agreeExport : Nat
opaque agreeKvn : Nat

/-- First line of a record's sections in the deckle's extension area (R300), by deckle, handle and generation: the spec gives no
rule of allocation. FREE VALUE. -/
opaque extIndex : Nat → Nat → Nat → Nat

/-- Whether the reservations of a device part's FELT section fit every felt link (R83): the section's layout is set by Tahus, and the
spec does not give it. FREE VALUE. -/
opaque feltFits : Bytes → Bool

/-- Evidence bits that fail their verification when they are burned (R629): the part's own. FREE VALUE. -/
opaque evidenceBad : Nat → Bool

/-- Size of a deckle's input staging area (R236), which firmware places in the deckle's HBM range: the spec gives none. FREE VALUE. -/
opaque stagingBytes : Nat → Nat

/-- Reason in the sealed part of a JOB record that a drain writes as FAULT and withheld (R415, R619): the spec names none. FREE VALUE. -/
opaque withheldReason : Nat

/-- The n-th byte of the endpoint UUID (R788), which the spec does not give. FREE VALUE. -/
opaque endpointUuid : Nat → Byte

/-- Payload bytes of a pond message after its 8-byte header (R813): its facts, and byte. FREE VALUE: the spec gives the header's fields
and no layout. -/
opaque pondByte : Bytes → Nat → Byte

/-- The bytes to be signed of a certificate that the identity signer issues (R718, R719), from its facts: how many, and each. FREE VALUES. -/
opaque tbsLen : Bytes → Nat
opaque tbsByte : Bytes → Nat → Byte

/-- Whether a certificate of the vendor's chain signed with an algorithm that the device itself does not sign with verifies (R720): the
signer's public key, what is signed, and the rest of the certificate. FREE VALUE. -/
opaque chainSig : Bytes → Bytes → Bytes → Bool

/-- SHA-384 of the firmware images (R722), by watermark register and byte: the spec gives no image. FREE VALUE. -/
opaque fwDigest : Nat → Nat → Byte

/-- What a boundary scan cell captures of a pin whose level the spec gives no rule for (R945): the n-th capture, and cell. FREE VALUE. -/
opaque boundaryCell : Nat → Nat → Bool

/-- Whether VOUT, in mV, lies in the fuse-set window of rail `r` (R709); the windows are fuse values the spec does not give. -/
opaque voutOk (r mv : Nat) : Bool

/-- The branch predictor's entry for a branch at an address (R507): how the 256 entries are indexed, the spec leaves open. FREE VALUE. -/
opaque predIndex (pc : Word) : Nat

/-- Where vat firmware places the areas of a user verb job (R446, R541, R542): by the job's descriptor, and area. FREE VALUE. -/
opaque userPlace : List Byte → Nat → Nat

end Sys2Proof.Config
end

