-- ==== Sys2Proof/Machine/RegAddr.lean ====
section
/-! DEFINITION. The address of every register of the spec, one name per row of the register tables
of 02 to 17, at the fabric addresses R25, R30 and R31 give. Array registers take their indices, outermost first. -/

namespace Sys2Proof.Machine.R

/-! ### BEAT block (R60, 02_beat.md) -/

abbrev BEAT_CTRL : Nat := 0x100000000
abbrev BEAT_STATUS : Nat := 0x100000004
abbrev BEAT_PERIOD : Nat := 0x100000008
abbrev BEAT_CLOSE : Nat := 0x10000000c
abbrev BEAT_COUNT_LO : Nat := 0x100000010
abbrev BEAT_COUNT_HI : Nat := 0x100000014
abbrev BEAT_PHASE : Nat := 0x100000018
abbrev BEAT_TICK_DIV : Nat := 0x10000001c
abbrev BEAT_PPS_COUNT_LO : Nat := 0x100000020
abbrev BEAT_PPS_COUNT_HI : Nat := 0x100000024
abbrev BEAT_PPS_PHASE : Nat := 0x100000028
abbrev BEAT_PPS_LIMIT : Nat := 0x10000002c
abbrev BEAT_ADMIT_LO : Nat := 0x100000030
abbrev BEAT_ADMIT_HI : Nat := 0x100000034
abbrev BEAT_PKE_BUSY_LO : Nat := 0x100000038
abbrev BEAT_PKE_BUSY_HI : Nat := 0x10000003c
abbrev BEAT_BULK_BUSY_LO : Nat := 0x100000040
abbrev BEAT_BULK_BUSY_HI : Nat := 0x100000044
abbrev BEAT_TQ_SEL : Nat := 0x100000048
abbrev BEAT_TQ_VALUE : Nat := 0x10000004c
abbrev BEAT_OVERRUN_COUNT : Nat := 0x100000050
abbrev BEAT_MISS_COUNT : Nat := 0x100000054
abbrev BEAT_TQ_SURCHARGE : Nat := 0x100000058

/-! ### SYM block (R156, 03_payment_verbs.md) -/

abbrev SYM_POLICY (a : Nat) : Nat := 0x1000300000 + 0x1000000 * a
abbrev SYM_LOCK (a : Nat) : Nat := 0x1000300004 + 0x1000000 * a
abbrev SYM_MAC_LEN (a : Nat) : Nat := 0x1000300008 + 0x1000000 * a
abbrev SYM_STATUS (a : Nat) : Nat := 0x100030000c + 0x1000000 * a
abbrev SYM_JOBS_LO (a : Nat) : Nat := 0x1000300010 + 0x1000000 * a
abbrev SYM_JOBS_HI (a : Nat) : Nat := 0x1000300014 + 0x1000000 * a
abbrev SYM_REFUSED (a : Nat) : Nat := 0x1000300018 + 0x1000000 * a
abbrev SYM_DECTAB_LO (a b : Nat) : Nat := 0x1000300040 + 0x1000000 * a + 0x8 * b
abbrev SYM_DECTAB_HI (a b : Nat) : Nat := 0x1000300044 + 0x1000000 * a + 0x8 * b
abbrev SYM_TOKPROF (a b : Nat) : Nat := 0x10003000c0 + 0x1000000 * a + 0x4 * b

/-! ### PKE block (R224, 04_public_key.md) -/

abbrev PKE_POLICY (a : Nat) : Nat := 0x1000204000 + 0x1000000 * a
abbrev PKE_ALG_EN (a : Nat) : Nat := 0x1000204004 + 0x1000000 * a
abbrev PKE_LOCK (a : Nat) : Nat := 0x1000204008 + 0x1000000 * a
abbrev PKE_STATUS (a : Nat) : Nat := 0x100020400c + 0x1000000 * a
abbrev PKE_CMD (a : Nat) : Nat := 0x1000204010 + 0x1000000 * a
abbrev PKE_JOB (a : Nat) : Nat := 0x1000204014 + 0x1000000 * a
abbrev PKE_DONE_EDGE (a : Nat) : Nat := 0x1000204018 + 0x1000000 * a
abbrev PKE_ROUNDS (a : Nat) : Nat := 0x100020401c + 0x1000000 * a
abbrev PKE_EVT_STATUS (a : Nat) : Nat := 0x1000204020 + 0x1000000 * a
abbrev PKE_EVT_EN (a : Nat) : Nat := 0x1000204024 + 0x1000000 * a
abbrev PKE_JOBS (a : Nat) : Nat := 0x1000204028 + 0x1000000 * a
abbrev PKE_FAULTS (a : Nat) : Nat := 0x100020402c + 0x1000000 * a

/-! ### ADMIT block (R285, 05_queues_framing.md) -/

abbrev ADMIT_CTRL : Nat := 0x100100000
abbrev ADMIT_STATUS : Nat := 0x100100004
abbrev ADMIT_DECKLE_OPEN : Nat := 0x100100008
abbrev ADMIT_DRAINING : Nat := 0x10010000c
abbrev ADMIT_QCAP : Nat := 0x100100010
abbrev ADMIT_ABORT_EDGE : Nat := 0x100100014
abbrev ADMIT_WAIT_LIMIT (a : Nat) : Nat := 0x100100100 + 0x20 * a
abbrev ADMIT_DEPTH (a : Nat) : Nat := 0x100100104 + 0x20 * a
abbrev ADMIT_PK_DEPTH (a : Nat) : Nat := 0x100100108 + 0x20 * a
abbrev ADMIT_PLACED_LO (a : Nat) : Nat := 0x10010010c + 0x20 * a
abbrev ADMIT_PLACED_HI (a : Nat) : Nat := 0x100100110 + 0x20 * a
abbrev ADMIT_BUSY (a : Nat) : Nat := 0x100100114 + 0x20 * a
abbrev ADMIT_MALFORMED (a : Nat) : Nat := 0x100100118 + 0x20 * a
abbrev ADMIT_CANCELLED (a : Nat) : Nat := 0x10010011c + 0x20 * a

/-! ### COUCH block (R289, 05_queues_framing.md) -/

abbrev COUCH_STATUS : Nat := 0x100200000
abbrev COUCH_COPY_FAIL : Nat := 0x100200004
abbrev COUCH_HELD (a : Nat) : Nat := 0x100200100 + 0x20 * a
abbrev COUCH_RELEASED_LO (a : Nat) : Nat := 0x100200104 + 0x20 * a
abbrev COUCH_RELEASED_HI (a : Nat) : Nat := 0x100200108 + 0x20 * a
abbrev COUCH_REFUSED (a : Nat) : Nat := 0x10020010c + 0x20 * a
abbrev COUCH_FAULT (a : Nat) : Nat := 0x100200110 + 0x20 * a
abbrev COUCH_DIAG_LOST (a : Nat) : Nat := 0x100200114 + 0x20 * a
abbrev COUCH_LAST_EDGE (a : Nat) : Nat := 0x100200118 + 0x20 * a
abbrev COUCH_DIAG (a : Nat) : Nat := 0x10020011c + 0x20 * a

/-! ### KEYS block (R361, 06_keys.md) -/

abbrev KEYS_CTRL : Nat := 0x100500000
abbrev KEYS_STATUS : Nat := 0x100500004
abbrev KEYS_MEMBER : Nat := 0x100500008
abbrev KEYS_DS_REPAIRS : Nat := 0x10050000c
abbrev KEYS_SLOT_REPAIRS : Nat := 0x100500010
abbrev KEYS_CONFLICTS : Nat := 0x100500014
abbrev KEYS_INVAL_LOST : Nat := 0x100500018
abbrev KEYS_SYNC_PENDING : Nat := 0x10050001c
abbrev KEYS_DCFG (a : Nat) : Nat := 0x100500100 + 0x40 * a
abbrev KEYS_KT_LIMIT (a : Nat) : Nat := 0x100500104 + 0x40 * a
abbrev KEYS_KT_NEXT0 (a : Nat) : Nat := 0x100500108 + 0x40 * a
abbrev KEYS_KT_NEXT1 (a : Nat) : Nat := 0x10050010c + 0x40 * a
abbrev KEYS_KT_NEXT2 (a : Nat) : Nat := 0x100500110 + 0x40 * a
abbrev KEYS_KT_ACTIVE (a : Nat) : Nat := 0x100500114 + 0x40 * a
abbrev KEYS_TR_BASE (a : Nat) : Nat := 0x100500118 + 0x40 * a
abbrev KEYS_TR_COUNT (a : Nat) : Nat := 0x10050011c + 0x40 * a
abbrev KEYS_TR_SPACE (a : Nat) : Nat := 0x100500120 + 0x40 * a
abbrev KEYS_MIRROR_LIST (a : Nat) : Nat := 0x100500124 + 0x40 * a
abbrev KEYS_SYNC_FAIL (a : Nat) : Nat := 0x100500128 + 0x40 * a
abbrev KEYS_STALE_USE (a : Nat) : Nat := 0x10050012c + 0x40 * a

/-! ### JOURNAL block (R419, 07_journal_reservoir.md) -/

abbrev JOURNAL_CTRL : Nat := 0x100300000
abbrev JOURNAL_STATUS : Nat := 0x100300004
abbrev JOURNAL_FILL : Nat := 0x100300008
abbrev JOURNAL_FILL_PEAK : Nat := 0x10030000c
abbrev JOURNAL_CAPACITY : Nat := 0x100300010
abbrev JOURNAL_GATE_LEVEL : Nat := 0x100300014
abbrev JOURNAL_EPOCH : Nat := 0x100300018
abbrev JOURNAL_RLN_LO : Nat := 0x10030001c
abbrev JOURNAL_RLN_HI : Nat := 0x100300020
abbrev JOURNAL_UNSIGNED : Nat := 0x100300024
abbrev JOURNAL_GAPS : Nat := 0x100300028
abbrev JOURNAL_EVFIFO : Nat := 0x10030002c
abbrev JOURNAL_PUB (a : Nat) : Nat := 0x100300030 + 0x4 * a
abbrev JOURNAL_SEQ_LO (a : Nat) : Nat := 0x100300100 + 0x20 * a
abbrev JOURNAL_SEQ_HI (a : Nat) : Nat := 0x100300104 + 0x20 * a
abbrev JOURNAL_JBN_LO (a : Nat) : Nat := 0x100300108 + 0x20 * a
abbrev JOURNAL_JBN_HI (a : Nat) : Nat := 0x10030010c + 0x20 * a
abbrev JOURNAL_DUR (a : Nat) : Nat := 0x100300110 + 0x20 * a
abbrev JOURNAL_ARCH (a : Nat) : Nat := 0x100300114 + 0x20 * a
abbrev JOURNAL_REL (a : Nat) : Nat := 0x100300118 + 0x20 * a
abbrev JOURNAL_RING (a : Nat) : Nat := 0x10030011c + 0x20 * a

/-! ### RESV block (R422, 07_journal_reservoir.md) -/

abbrev RESV_CTRL : Nat := 0x100400000
abbrev RESV_STATUS : Nat := 0x100400004
abbrev RESV_BLOCKS_LO : Nat := 0x100400008
abbrev RESV_BLOCKS_HI : Nat := 0x10040000c
abbrev RESV_ROOT_GEN : Nat := 0x100400010
abbrev RESV_INTEG_FAIL : Nat := 0x100400014
abbrev RESV_LATE : Nat := 0x100400018
abbrev RESV_IO_ERR : Nat := 0x10040001c
abbrev RESV_READS_LO : Nat := 0x100400020
abbrev RESV_READS_HI : Nat := 0x100400024
abbrev RESV_WRITES_LO : Nat := 0x100400028
abbrev RESV_WRITES_HI : Nat := 0x10040002c
abbrev RESV_NS_CFG (a : Nat) : Nat := 0x100400100 + 0x20 * a
abbrev RESV_NS_PORTS (a : Nat) : Nat := 0x100400104 + 0x20 * a
abbrev RESV_NS_NSID (a : Nat) : Nat := 0x100400108 + 0x20 * a
abbrev RESV_NS_LBA_LO (a : Nat) : Nat := 0x10040010c + 0x20 * a
abbrev RESV_NS_LBA_HI (a : Nat) : Nat := 0x100400110 + 0x20 * a
abbrev RESV_NS_RBN_LO (a : Nat) : Nat := 0x100400114 + 0x20 * a
abbrev RESV_NS_RBN_HI (a : Nat) : Nat := 0x100400118 + 0x20 * a
abbrev RESV_NS_BLOCKS (a : Nat) : Nat := 0x10040011c + 0x20 * a
abbrev RESV_DCFG (a : Nat) : Nat := 0x100400900 + 0x10 * a
abbrev RESV_BUDGET (a : Nat) : Nat := 0x100400904 + 0x10 * a
abbrev RESV_SWEEP (a : Nat) : Nat := 0x100400908 + 0x10 * a
abbrev RESV_DLATE (a : Nat) : Nat := 0x10040090c + 0x10 * a

/-! ### MOULD block (R470, 08_mould.md) -/

abbrev MOULD_CTRL : Nat := 0x100600000
abbrev MOULD_STATUS : Nat := 0x100600004
abbrev MOULD_GEN : Nat := 0x100600008
abbrev MOULD_ID_LO : Nat := 0x10060000c
abbrev MOULD_ID_HI : Nat := 0x100600010
abbrev MOULD_SVN : Nat := 0x100600014
abbrev MOULD_FLOOR : Nat := 0x100600018
abbrev MOULD_SIZE : Nat := 0x10060001c
abbrev MOULD_PRESENT : Nat := 0x100600020
abbrev MOULD_LAST_REASON : Nat := 0x100600024
abbrev MOULD_COMMITS : Nat := 0x100600028
abbrev MOULD_D_ID_LO (a : Nat) : Nat := 0x100600100 + 0x20 * a
abbrev MOULD_D_ID_HI (a : Nat) : Nat := 0x100600104 + 0x20 * a
abbrev MOULD_D_SVN (a : Nat) : Nat := 0x100600108 + 0x20 * a
abbrev MOULD_D_FLOOR (a : Nat) : Nat := 0x10060010c + 0x20 * a
abbrev MOULD_D_CFG (a : Nat) : Nat := 0x100600110 + 0x20 * a
abbrev MOULD_D_UVERBS (a : Nat) : Nat := 0x100600114 + 0x20 * a
abbrev MOULD_D_APPLY (a : Nat) : Nat := 0x100600118 + 0x20 * a

/-! ### SLUICE_CFG block (R561, 10_exceptions_sluices.md) -/

abbrev SLUICE_CLEAR : Nat := 0x100f00000
abbrev SLUICE_FAULTS : Nat := 0x100f00004
abbrev SLUICE_OVERLAPS : Nat := 0x100f00008
abbrev SLUICE_LAST_ADDR_LO : Nat := 0x100f0000c
abbrev SLUICE_LAST_ADDR_HI : Nat := 0x100f00010
abbrev SLUICE_LAST_INFO : Nat := 0x100f00014
abbrev SLUICE_TABLE (a : Nat) : Nat := 0x100f00100 + 0x4 * a
abbrev SLUICE_BASE (a : Nat) : Nat := 0x100f10000 + 0x10 * a
abbrev SLUICE_BASEH (a : Nat) : Nat := 0x100f10004 + 0x10 * a
abbrev SLUICE_ATTR (a : Nat) : Nat := 0x100f10008 + 0x10 * a

/-! ### VSL block (R563, 10_exceptions_sluices.md) -/

abbrev VSL_FAULTS (a : Nat) : Nat := 0x1000600000 + 0x1000000 * a
abbrev VSL_LAST_ADDR (a : Nat) : Nat := 0x1000600004 + 0x1000000 * a
abbrev VSL_LAST_INFO (a : Nat) : Nat := 0x1000600008 + 0x1000000 * a
abbrev VSL_STATE (a : Nat) : Nat := 0x100060000c + 0x1000000 * a
abbrev VSL_LOCKUP_EPC (a : Nat) : Nat := 0x1000600010 + 0x1000000 * a
abbrev VSL_LOCKUP_CAUSE (a : Nat) : Nat := 0x1000600014 + 0x1000000 * a
abbrev VSL_LOCKUP_ADDR (a : Nat) : Nat := 0x1000600018 + 0x1000000 * a
abbrev VSL_LOCKUP_XSP (a : Nat) : Nat := 0x100060001c + 0x1000000 * a
abbrev VSL_BASE (a b : Nat) : Nat := 0x1000600100 + 0x1000000 * a + 0x10 * b
abbrev VSL_ATTR (a b : Nat) : Nat := 0x1000600104 + 0x1000000 * a + 0x10 * b

/-! ### SPRING block (R597, 11_spring.md) -/

abbrev SPRING_CTRL : Nat := 0x100700000
abbrev SPRING_STATUS : Nat := 0x100700004
abbrev SPRING_CMD : Nat := 0x100700008
abbrev SPRING_OUT : Nat := 0x10070000c
abbrev SPRING_RAW : Nat := 0x100700010
abbrev SPRING_RAW_SEL : Nat := 0x100700014
abbrev SPRING_STORE : Nat := 0x100700018
abbrev SPRING_MIN_CELLS : Nat := 0x10070001c
abbrev SPRING_RCT_CUT : Nat := 0x100700020
abbrev SPRING_APT_CUT : Nat := 0x100700024
abbrev SPRING_RESEED_INT : Nat := 0x100700028
abbrev SPRING_ADDIN_LEN : Nat := 0x10070002c
abbrev SPRING_RCT_FAILS : Nat := 0x100700030
abbrev SPRING_APT_FAILS : Nat := 0x100700034
abbrev SPRING_RAW_LOST : Nat := 0x100700038
abbrev SPRING_SEED_LOST : Nat := 0x10070003c
abbrev SPRING_CELL_OK (a : Nat) : Nat := 0x100700040 + 0x4 * a
abbrev SPRING_VAT_ERR_LO : Nat := 0x100700050
abbrev SPRING_VAT_ERR_HI : Nat := 0x100700054
abbrev SPRING_LANE_ERR_LO : Nat := 0x100700058
abbrev SPRING_LANE_ERR_HI : Nat := 0x10070005c
abbrev SPRING_PERSO (a : Nat) : Nat := 0x100700060 + 0x4 * a
abbrev SPRING_ADDIN (a : Nat) : Nat := 0x100700080 + 0x4 * a
abbrev SPRING_PATTERN (a : Nat) : Nat := 0x1007000a0 + 0x4 * a

/-! ### VDR block (R603, 11_spring.md) -/

abbrev VDR_STATUS (a : Nat) : Nat := 0x1000400000 + 0x1000000 * a
abbrev VDR_OUT (a : Nat) : Nat := 0x1000400004 + 0x1000000 * a
abbrev VDR_QUEUE (a : Nat) : Nat := 0x1000400008 + 0x1000000 * a
abbrev VDR_LAST_RESEED (a : Nat) : Nat := 0x100040000c + 0x1000000 * a
abbrev VDR_LANE_RESEED (a : Nat) : Nat := 0x1000400010 + 0x1000000 * a
abbrev VDR_DRAWS (a : Nat) : Nat := 0x1000400014 + 0x1000000 * a
abbrev VDR_RANDOM (a : Nat) : Nat := 0x1000400018 + 0x1000000 * a

/-! ### TAMPER block (R642, 12_tamper.md) -/

abbrev TAMPER_CTRL : Nat := 0x100800000
abbrev TAMPER_STATUS : Nat := 0x100800004
abbrev TAMPER_LATCH : Nat := 0x100800008
abbrev TAMPER_LATCH_TIME : Nat := 0x10080000c
abbrev TAMPER_ACK : Nat := 0x100800010
abbrev TAMPER_EVID_COUNT : Nat := 0x100800014
abbrev TAMPER_TAG_FAILS : Nat := 0x100800018
abbrev TAMPER_TAG_LAST : Nat := 0x10080001c
abbrev TAMPER_TAG_ADDR_LO : Nat := 0x100800020
abbrev TAMPER_TAG_ADDR_HI : Nat := 0x100800024
abbrev TAMPER_TEMP : Nat := 0x100800028
abbrev TAMPER_TEMP_LIMITS : Nat := 0x10080002c
abbrev TAMPER_LIGHT_LIMIT : Nat := 0x100800030
abbrev TAMPER_EVID (a : Nat) : Nat := 0x100800040 + 0x4 * a
abbrev TAMPER_SRC_CFG (a : Nat) : Nat := 0x100800100 + 0x10 * a
abbrev TAMPER_SRC_EXC (a : Nat) : Nat := 0x100800104 + 0x10 * a
abbrev TAMPER_SRC_DISSENT (a : Nat) : Nat := 0x100800108 + 0x10 * a
abbrev TAMPER_SRC_STATE (a : Nat) : Nat := 0x10080010c + 0x10 * a

/-! ### RESET block (R704, 13_startup.md) -/

abbrev RESET_CAUSE : Nat := 0x100900000
abbrev RESET_STATUS : Nat := 0x100900004
abbrev RESET_CMD : Nat := 0x100900008
abbrev RESET_CTRL : Nat := 0x10090000c
abbrev RESET_WARM_COUNT : Nat := 0x100900010
abbrev RESET_START_MS : Nat := 0x100900014
abbrev RESET_RTC_SEC : Nat := 0x100900018
abbrev RESET_ATTEMPTS : Nat := 0x10090001c
abbrev RESET_BKP (a : Nat) : Nat := 0x100900100 + 0x4 * a

/-! ### PMU block (R708, 13_startup.md) -/

abbrev PMU_CTRL : Nat := 0x100a00000
abbrev PMU_STATUS : Nat := 0x100a00004
abbrev PMU_PWR_LIMIT : Nat := 0x100a00008
abbrev PMU_BASE_W : Nat := 0x100a0000c
abbrev PMU_VAT_W : Nat := 0x100a00010
abbrev PMU_VAT_CAP : Nat := 0x100a00014
abbrev PMU_TJ_PARK : Nat := 0x100a00018
abbrev PMU_TJ_SHUT : Nat := 0x100a0001c
abbrev PMU_PARK_THERM_LO : Nat := 0x100a00020
abbrev PMU_PARK_THERM_HI : Nat := 0x100a00024
abbrev PMU_PARK_PWR_LO : Nat := 0x100a00028
abbrev PMU_PARK_PWR_HI : Nat := 0x100a0002c
abbrev PMU_PARK_FAULT_LO : Nat := 0x100a00030
abbrev PMU_PARK_FAULT_HI : Nat := 0x100a00034
abbrev PMU_VIN_MV : Nat := 0x100a00040
abbrev PMU_VIN_DA : Nat := 0x100a00044
abbrev PMU_TJ_MAX : Nat := 0x100a00048
abbrev PMU_RAIL_STATUS : Nat := 0x100a0004c
abbrev PMU_RAIL_CFG (a : Nat) : Nat := 0x100a00060 + 0x4 * a
abbrev PMU_DOM_STATE (a : Nat) : Nat := 0x100a00100 + 0x4 * a

/-! ### WMARK block (R763, 14_watermark.md) -/

abbrev WMARK_STAGE : Nat := 0x100b00000
abbrev WMARK_ADVANCE : Nat := 0x100b00004
abbrev WMARK_EXTEND : Nat := 0x100b00008
abbrev WMARK_STATUS : Nat := 0x100b0000c
abbrev WMARK_EXT_DATA (a : Nat) : Nat := 0x100b00040 + 0x4 * a
abbrev WMARK_VALUE (a : Nat) : Nat := 0x100b00100 + 0x4 * a
abbrev WMARK_COUNT (a : Nat) : Nat := 0x100b00400 + 0x4 * a

/-! ### LIFE block (R764, 14_watermark.md) -/

abbrev LIFE_STATUS : Nat := 0x100c00000
abbrev LIFE_GEN : Nat := 0x100c00004
abbrev LIFE_AUTH_FAILS : Nat := 0x100c00008
abbrev LIFE_CHAL_EXP : Nat := 0x100c0000c
abbrev LIFE_VATS_LO : Nat := 0x100c00010
abbrev LIFE_VATS_HI : Nat := 0x100c00014
abbrev LIFE_IDCODE : Nat := 0x100c00018
abbrev LIFE_UID (a : Nat) : Nat := 0x100c00020 + 0x4 * a
abbrev LIFE_OWNER_MOULD (a : Nat) : Nat := 0x100c00040 + 0x4 * a
abbrev LIFE_OWNER_SVC (a : Nat) : Nat := 0x100c00080 + 0x4 * a
abbrev LIFE_VENDOR_SVC (a : Nat) : Nat := 0x100c000c0 + 0x4 * a

/-! ### REPLAY block (R766, 14_watermark.md) -/

abbrev REPLAY_STATUS : Nat := 0x101900000
abbrev REPLAY_QUAR_LO : Nat := 0x101900004
abbrev REPLAY_QUAR_HI : Nat := 0x101900008
abbrev REPLAY_RUNS : Nat := 0x10190000c
abbrev REPLAY_MISMATCH : Nat := 0x101900010
abbrev REPLAY_BAD_SEQ_LO : Nat := 0x101900014
abbrev REPLAY_BAD_SEQ_HI : Nat := 0x101900018
abbrev REPLAY_R0 : Nat := 0x10190001c

/-! ### NETW block (R817, 15_links.md) -/

abbrev NETW_STATUS (a : Nat) : Nat := 0x101000000 + 0x4000 * a
abbrev NETW_EGRESS (a : Nat) : Nat := 0x101000004 + 0x4000 * a
abbrev NETW_MODE (a : Nat) : Nat := 0x101000008 + 0x4000 * a
abbrev NETW_MAC_LO (a : Nat) : Nat := 0x10100000c + 0x4000 * a
abbrev NETW_MAC_HI (a : Nat) : Nat := 0x101000010 + 0x4000 * a
abbrev NETW_IPV4 (a : Nat) : Nat := 0x101000014 + 0x4000 * a
abbrev NETW_IPV6 (a b : Nat) : Nat := 0x101000018 + 0x4000 * a + 0x4 * b
abbrev NETW_RX_OK_LO (a : Nat) : Nat := 0x101000040 + 0x4000 * a
abbrev NETW_RX_OK_HI (a : Nat) : Nat := 0x101000044 + 0x4000 * a
abbrev NETW_TX_OK_LO (a : Nat) : Nat := 0x101000048 + 0x4000 * a
abbrev NETW_TX_OK_HI (a : Nat) : Nat := 0x10100004c + 0x4000 * a
abbrev NETW_RX_FCS (a : Nat) : Nat := 0x101000050 + 0x4000 * a
abbrev NETW_RX_MACSEC (a : Nat) : Nat := 0x101000054 + 0x4000 * a
abbrev NETW_RX_L3 (a : Nat) : Nat := 0x101000058 + 0x4000 * a
abbrev NETW_RX_NOROUTE (a : Nat) : Nat := 0x10100005c + 0x4000 * a
abbrev NETW_RX_FRAMEHDR (a : Nat) : Nat := 0x101000060 + 0x4000 * a
abbrev NETW_RX_PAUSE (a : Nat) : Nat := 0x101000064 + 0x4000 * a
abbrev NETW_TX_DROP (a : Nat) : Nat := 0x101000068 + 0x4000 * a
abbrev NETW_TX_PEAK (a : Nat) : Nat := 0x10100006c + 0x4000 * a
abbrev NETW_EVT_STATUS (a : Nat) : Nat := 0x101000070 + 0x4000 * a
abbrev NETW_EVT_EN (a : Nat) : Nat := 0x101000074 + 0x4000 * a
abbrev NETW_RX_VLAN (a : Nat) : Nat := 0x101000078 + 0x4000 * a
abbrev NETW_ROUTE (a b c : Nat) : Nat := 0x101001000 + 0x4000 * a + 0x20 * b + 0x4 * c

/-! ### HOSTIF block (R819, 15_links.md) -/

abbrev HOSTIF_STATUS (a : Nat) : Nat := 0x101100000 + 0x8000 * a
abbrev HOSTIF_WIN_BASE_LO (a : Nat) : Nat := 0x101100004 + 0x8000 * a
abbrev HOSTIF_WIN_BASE_HI (a : Nat) : Nat := 0x101100008 + 0x8000 * a
abbrev HOSTIF_WIN_SIZE (a : Nat) : Nat := 0x10110000c + 0x8000 * a
abbrev HOSTIF_LOST (a : Nat) : Nat := 0x101100010 + 0x8000 * a
abbrev HOSTIF_FETCH_ERR (a : Nat) : Nat := 0x101100014 + 0x8000 * a
abbrev HOSTIF_Q_CTRL (a b : Nat) : Nat := 0x101100100 + 0x8000 * a + 0x40 * b
abbrev HOSTIF_SQ_BASE_LO (a b : Nat) : Nat := 0x101100104 + 0x8000 * a + 0x40 * b
abbrev HOSTIF_SQ_BASE_HI (a b : Nat) : Nat := 0x101100108 + 0x8000 * a + 0x40 * b
abbrev HOSTIF_CQ_BASE_LO (a b : Nat) : Nat := 0x10110010c + 0x8000 * a + 0x40 * b
abbrev HOSTIF_CQ_BASE_HI (a b : Nat) : Nat := 0x101100110 + 0x8000 * a + 0x40 * b
abbrev HOSTIF_SQ_TAIL (a b : Nat) : Nat := 0x101100114 + 0x8000 * a + 0x40 * b
abbrev HOSTIF_SQ_HEAD (a b : Nat) : Nat := 0x101100118 + 0x8000 * a + 0x40 * b
abbrev HOSTIF_CQ_HEAD (a b : Nat) : Nat := 0x10110011c + 0x8000 * a + 0x40 * b
abbrev HOSTIF_CQ_TAIL (a b : Nat) : Nat := 0x101100120 + 0x8000 * a + 0x40 * b
abbrev HOSTIF_DQ_BASE_LO (a : Nat) : Nat := 0x101108124 + 0x8000 * a
abbrev HOSTIF_DQ_BASE_HI (a : Nat) : Nat := 0x101108128 + 0x8000 * a
abbrev HOSTIF_DQ_CTRL (a : Nat) : Nat := 0x10110812c + 0x8000 * a
abbrev HOSTIF_DQ_HEAD (a : Nat) : Nat := 0x101108130 + 0x8000 * a
abbrev HOSTIF_DQ_TAIL (a : Nat) : Nat := 0x101108134 + 0x8000 * a

/-! ### MGMT block (R820, 15_links.md) -/

abbrev MGMT_SMB_CTRL : Nat := 0x101700000
abbrev MGMT_EID : Nat := 0x101700004
abbrev MGMT_MCTP_DROPS : Nat := 0x101700008
abbrev MGMT_UART_CTRL : Nat := 0x101780000
abbrev MGMT_UART_STATUS : Nat := 0x101780004
abbrev MGMT_UART_DATA : Nat := 0x101780008
abbrev MGMT_UART_TX_LOST : Nat := 0x10178000c

/-! ### RESPORT block (R821, 15_links.md) -/

abbrev RESPORT_STATUS (a : Nat) : Nat := 0x101200000 + 0x10000 * a
abbrev RESPORT_CFG (a : Nat) : Nat := 0x101200004 + 0x10000 * a
abbrev RESPORT_IDENT (a : Nat) : Nat := 0x101200008 + 0x10000 * a
abbrev RESPORT_TIMEOUTS (a : Nat) : Nat := 0x10120000c + 0x10000 * a
abbrev RESPORT_ERRORS (a : Nat) : Nat := 0x101200010 + 0x10000 * a
abbrev RESPORT_RESETS (a : Nat) : Nat := 0x101200014 + 0x10000 * a
abbrev RESPORT_INBOUND_UR (a : Nat) : Nat := 0x101200018 + 0x10000 * a
abbrev RESPORT_LAT_MAX (a : Nat) : Nat := 0x10120001c + 0x10000 * a
abbrev RESPORT_EVT_STATUS (a : Nat) : Nat := 0x101200020 + 0x10000 * a
abbrev RESPORT_EVT_EN (a : Nat) : Nat := 0x101200024 + 0x10000 * a

/-! ### ULOON block (R822, 15_links.md) -/

abbrev ULOON_POND_CFG : Nat := 0x101300000
abbrev ULOON_POND_ID : Nat := 0x101300004
abbrev ULOON_POND_STATUS : Nat := 0x101300008
abbrev ULOON_MIRROR_MASK : Nat := 0x10130000c
abbrev ULOON_UNITS : Nat := 0x101300010
abbrev ULOON_OFFSET : Nat := 0x101300014
abbrev ULOON_REMOVALS : Nat := 0x101300018
abbrev ULOON_LINK_STATUS (a : Nat) : Nat := 0x101300100 + 0x20000 * a
abbrev ULOON_LINK_DELAY (a : Nat) : Nat := 0x101300104 + 0x20000 * a
abbrev ULOON_LINK_RX_FRAMES (a : Nat) : Nat := 0x101300108 + 0x20000 * a
abbrev ULOON_LINK_RX_BAD (a : Nat) : Nat := 0x10130010c + 0x20000 * a
abbrev ULOON_LINK_RX_LATE (a : Nat) : Nat := 0x101300110 + 0x20000 * a
abbrev ULOON_LINK_TX_FRAMES (a : Nat) : Nat := 0x101300114 + 0x20000 * a

/-! ### TIME block (R823, 15_links.md) -/

abbrev TIME_CTRL : Nat := 0x101600000
abbrev TIME_STATUS : Nat := 0x101600004
abbrev TIME_REF10_PPB : Nat := 0x101600008
abbrev TIME_PPS_PERIOD : Nat := 0x10160000c
abbrev TIME_PPS_BAD : Nat := 0x101600010
abbrev TIME_PPS_MISSING : Nat := 0x101600014
abbrev TIME_SEC_LO : Nat := 0x101600018
abbrev TIME_SEC_HI : Nat := 0x10160001c

/-! ### HBMC block (R824, 15_links.md) -/

abbrev HBMC_STATUS (a : Nat) : Nat := 0x101800000 + 0x80000 * a
abbrev HBMC_TEMP (a : Nat) : Nat := 0x101800004 + 0x80000 * a
abbrev HBMC_MAC_FAILS (a : Nat) : Nat := 0x101800008 + 0x80000 * a
abbrev HBMC_RETRIES (a : Nat) : Nat := 0x10180000c + 0x80000 * a
abbrev HBMC_FAIL_ADDR_LO (a : Nat) : Nat := 0x101800010 + 0x80000 * a
abbrev HBMC_FAIL_ADDR_HI (a : Nat) : Nat := 0x101800014 + 0x80000 * a
abbrev HBMC_POISONED (a : Nat) : Nat := 0x101800018 + 0x80000 * a
abbrev HBMC_QUOTA (a : Nat) : Nat := 0x10180001c + 0x80000 * a
abbrev HBMC_FREE_LINES (a : Nat) : Nat := 0x101800020 + 0x80000 * a

/-! ### CARD block (R864, 16_cards.md) -/

abbrev CARD_CTRL (a : Nat) : Nat := 0x101400000 + 0x80000 * a
abbrev CARD_STATUS (a : Nat) : Nat := 0x101400004 + 0x80000 * a
abbrev CARD_CMD (a : Nat) : Nat := 0x101400008 + 0x80000 * a
abbrev CARD_PROTO (a : Nat) : Nat := 0x10140000c + 0x80000 * a
abbrev CARD_PARAM (a : Nat) : Nat := 0x101400010 + 0x80000 * a
abbrev CARD_TX_LEN (a : Nat) : Nat := 0x101400014 + 0x80000 * a
abbrev CARD_RX_LEN (a : Nat) : Nat := 0x101400018 + 0x80000 * a
abbrev CARD_SW (a : Nat) : Nat := 0x10140001c + 0x80000 * a
abbrev CARD_APDU_MAX (a : Nat) : Nat := 0x101400020 + 0x80000 * a
abbrev CARD_DEBOUNCE (a : Nat) : Nat := 0x101400024 + 0x80000 * a
abbrev CARD_ERRORS (a : Nat) : Nat := 0x101400028 + 0x80000 * a
abbrev CARD_REMOVALS (a : Nat) : Nat := 0x10140002c + 0x80000 * a
abbrev CARD_EVT_STATUS (a : Nat) : Nat := 0x101400030 + 0x80000 * a
abbrev CARD_EVT_EN (a : Nat) : Nat := 0x101400034 + 0x80000 * a
abbrev CARD_ATR (a b : Nat) : Nat := 0x101400040 + 0x80000 * a + 0x4 * b
abbrev CARD_TXBUF (a b : Nat) : Nat := 0x101401000 + 0x80000 * a + 0x4 * b
abbrev CARD_RXBUF (a b : Nat) : Nat := 0x101401200 + 0x80000 * a + 0x4 * b
abbrev QUORUM_STATUS : Nat := 0x101440000
abbrev QUORUM_GUARD : Nat := 0x101440004
abbrev QUORUM_GRANT : Nat := 0x101440008
abbrev QUORUM_EXPIRE : Nat := 0x10144000c
abbrev QUORUM_FAILS : Nat := 0x101440010
abbrev QUORUM_NONCE (a : Nat) : Nat := 0x101440040 + 0x4 * a

/-! ### CLESS block (R868, 16_cards.md) -/

abbrev CLESS_CTRL : Nat := 0x101500000
abbrev CLESS_STATUS : Nat := 0x101500004
abbrev CLESS_CMD : Nat := 0x101500008
abbrev CLESS_PING : Nat := 0x10150000c
abbrev CLESS_DETUNE : Nat := 0x101500010
abbrev CLESS_MEMORY : Nat := 0x101500014
abbrev CLESS_APDU_MAX : Nat := 0x101500018
abbrev CLESS_UID_LO : Nat := 0x10150001c
abbrev CLESS_UID_HI : Nat := 0x101500020
abbrev CLESS_ATS : Nat := 0x101500024
abbrev CLESS_TX_LEN : Nat := 0x101500028
abbrev CLESS_RX_LEN : Nat := 0x10150002c
abbrev CLESS_SW : Nat := 0x101500030
abbrev CLESS_POLLS : Nat := 0x101500034
abbrev CLESS_ERRORS : Nat := 0x101500038
abbrev CLESS_EVT_STATUS : Nat := 0x10150003c
abbrev CLESS_EVT_EN : Nat := 0x101500040
abbrev CLESS_TXBUF (a : Nat) : Nat := 0x101501000 + 0x4 * a
abbrev CLESS_RXBUF (a : Nat) : Nat := 0x101501200 + 0x4 * a

/-! ### EVT block (R896, 17_events.md) -/

abbrev EVT_CTRL : Nat := 0x100d00000
abbrev EVT_STATUS : Nat := 0x100d00004
abbrev EVT_TOP_P : Nat := 0x100d00008
abbrev EVT_TOP_S : Nat := 0x100d0000c
abbrev EVT_DOORBELL : Nat := 0x100d00010
abbrev EVT_WDOG_CTRL : Nat := 0x100d00020
abbrev EVT_WDOG_KICK : Nat := 0x100d00024
abbrev EVT_WDOG_LEFT_P : Nat := 0x100d00028
abbrev EVT_WDOG_LEFT_S : Nat := 0x100d0002c
abbrev EVT_TRACE_BASE : Nat := 0x100d00040
abbrev EVT_TRACE_SIZE : Nat := 0x100d00044
abbrev EVT_TRACE_WR : Nat := 0x100d00048
abbrev EVT_TRACE_RD : Nat := 0x100d0004c
abbrev EVT_TRACE_LOST : Nat := 0x100d00050
abbrev EVT_TRACE_PUT : Nat := 0x100d00054
abbrev EVT_PEND (a : Nat) : Nat := 0x100d00100 + 0x4 * a
abbrev EVT_JNL (a : Nat) : Nat := 0x100d00180 + 0x4 * a
abbrev EVT_JHELD (a : Nat) : Nat := 0x100d00200 + 0x4 * a
abbrev EVT_ROUTE (a : Nat) : Nat := 0x100d01000 + 0x4 * a
abbrev EVT_WEIR (a : Nat) : Nat := 0x100d02000 + 0x4 * a

/-! ### ERRC block (R899, 17_events.md) -/

abbrev ERRC_Q_FILL : Nat := 0x100e00000
abbrev ERRC_Q_FLAGS : Nat := 0x100e00004
abbrev ERRC_Q_LOST : Nat := 0x100e00008
abbrev ERRC_Q_POP : Nat := 0x100e0000c
abbrev ERRC_Q_HEAD (a : Nat) : Nat := 0x100e00010 + 0x4 * a
abbrev ERRC_ACTIVE (a : Nat) : Nat := 0x100e00040 + 0x4 * a
abbrev ERRC_FIRST (a b : Nat) : Nat := 0x100e01000 + 0x40 * a + 0x4 * b
abbrev ERRC_LAST (a b : Nat) : Nat := 0x100e01010 + 0x40 * a + 0x4 * b
abbrev ERRC_COUNT (a : Nat) : Nat := 0x100e01020 + 0x40 * a
abbrev ERRC_CLEAR (a : Nat) : Nat := 0x100e01024 + 0x40 * a

/-! ### VEV block (R900, 17_events.md) -/

abbrev VEV_PEND_LO (a : Nat) : Nat := 0x1000700000 + 0x1000000 * a
abbrev VEV_PEND_HI (a : Nat) : Nat := 0x1000700004 + 0x1000000 * a
abbrev VEV_TOP (a : Nat) : Nat := 0x1000700008 + 0x1000000 * a
abbrev VEV_RING (a : Nat) : Nat := 0x100070000c + 0x1000000 * a
abbrev VEV_CFG (a b : Nat) : Nat := 0x1000700100 + 0x1000000 * a + 0x4 * b

end Sys2Proof.Machine.R
end

