-- ==== Sys2Proof/Machine/RegTable.lean ====
section
/-! DEFINITION. The register tables of the spec as data: for every register its address, the strides and
counts of its indices, which bits are RW, RWL, W1C and WO (R11), its reset value and the bit that locks it.
Bits in no mask are RO or reserved (R14). A reset value the spec gives as Fuse, Mould or Undef stands here as 0
(notes/assumptions/3.md). -/

namespace Sys2Proof.Machine

/-- One row of a register table: `key` is the address of its first instance, `dims` the (stride, count) of each
index, outermost first, the masks say how each bit behaves on a write (R11), and `lock` the register and bit that
lock its RWL bits (R12). -/
structure RegRow where
  key : Nat
  dims : List (Nat × Nat) := []
  rw : Nat := 0
  rwl : Nat := 0
  w1c : Nat := 0
  wo : Nat := 0
  reset : Nat := 0
  lock : Option (Nat × Nat) := none
  deriving DecidableEq, Repr

/-- Whether the offset `off` from a row's first instance is that of one of its instances. -/
def dimsMatch : List (Nat × Nat) → Nat → Bool
  | [], off => off == 0
  | (s, c) :: ds, off => decide (off / s < c) && dimsMatch ds (off % s)

/-- Registers of the BEAT block (R60 of 02_beat.md). -/
def rowsBeat : List RegRow :=
  [{ key := 0x100000000, rwl := 0x80000038, wo := 0x1, lock := some (0x100000000, 31) },
   { key := 0x100000004 },
   { key := 0x100000008, rw := 0x7f, reset := 0x14 },
   { key := 0x10000000c, reset := 0x1f4 },
   { key := 0x100000010 },
   { key := 0x100000014 },
   { key := 0x100000018 },
   { key := 0x10000001c, rw := 0xffff },
   { key := 0x100000020 },
   { key := 0x100000024 },
   { key := 0x100000028 },
   { key := 0x10000002c, rw := 0xffff, reset := 0x64 }] ++
  [{ key := 0x100000030 },
   { key := 0x100000034 },
   { key := 0x100000038 },
   { key := 0x10000003c },
   { key := 0x100000040 },
   { key := 0x100000044 },
   { key := 0x100000048, rw := 0xfffffff },
   { key := 0x10000004c },
   { key := 0x100000050 },
   { key := 0x100000054 },
   { key := 0x100000058 }]

/-- Registers of the SYM block (R156 of 03_payment_verbs.md). -/
def rowsSym : List RegRow :=
  [{ key := 0x1000300000, dims := [(0x1000000, 64)], rwl := 0x7c, lock := some (0x1000300004, 0) },
   { key := 0x1000300004, dims := [(0x1000000, 64)], rwl := 0x1, lock := some (0x1000300004, 0) },
   { key := 0x1000300008, dims := [(0x1000000, 64)], rwl := 0xffffff, lock := some (0x1000300004, 0) },
   { key := 0x100030000c, dims := [(0x1000000, 64)] },
   { key := 0x1000300010, dims := [(0x1000000, 64)] },
   { key := 0x1000300014, dims := [(0x1000000, 64)] },
   { key := 0x1000300018, dims := [(0x1000000, 64)] },
   { key := 0x1000300040, dims := [(0x1000000, 64), (0x8, 16)], rwl := 0xffffffff, lock := some (0x1000300004, 0) },
   { key := 0x1000300044, dims := [(0x1000000, 64), (0x8, 16)], rwl := 0xffffffff, lock := some (0x1000300004, 0) },
   { key := 0x10003000c0, dims := [(0x1000000, 64), (0x4, 8)], rwl := 0x800003ff, lock := some (0x1000300004, 0) }]

/-- Registers of the PKE block (R224 of 04_public_key.md). -/
def rowsPke : List RegRow :=
  [{ key := 0x1000204000, dims := [(0x1000000, 64)], rwl := 0x7f0, lock := some (0x1000204008, 0) },
   { key := 0x1000204004, dims := [(0x1000000, 64)], rwl := 0x3f03ff, lock := some (0x1000204008, 0) },
   { key := 0x1000204008, dims := [(0x1000000, 64)], rwl := 0x1, lock := some (0x1000204008, 0) },
   { key := 0x100020400c, dims := [(0x1000000, 64)] },
   { key := 0x1000204010, dims := [(0x1000000, 64)], wo := 0x3 },
   { key := 0x1000204014, dims := [(0x1000000, 64)] },
   { key := 0x1000204018, dims := [(0x1000000, 64)] },
   { key := 0x100020401c, dims := [(0x1000000, 64)] },
   { key := 0x1000204020, dims := [(0x1000000, 64)], w1c := 0x7 },
   { key := 0x1000204024, dims := [(0x1000000, 64)], rw := 0x7, reset := 0x7 },
   { key := 0x1000204028, dims := [(0x1000000, 64)] },
   { key := 0x100020402c, dims := [(0x1000000, 64)] }]

/-- Registers of the ADMIT block (R285 of 05_queues_framing.md). -/
def rowsAdmit : List RegRow :=
  [{ key := 0x100100000, rw := 0x1, rwl := 0x80000000, lock := some (0x100100000, 31) },
   { key := 0x100100004 },
   { key := 0x100100008 },
   { key := 0x10010000c },
   { key := 0x100100010, reset := 0x2000 },
   { key := 0x100100014 },
   { key := 0x100100100, dims := [(0x20, 16)], rwl := 0xfff, lock := some (0x100100000, 31) },
   { key := 0x100100104, dims := [(0x20, 16)] },
   { key := 0x100100108, dims := [(0x20, 16)] },
   { key := 0x10010010c, dims := [(0x20, 16)] },
   { key := 0x100100110, dims := [(0x20, 16)] },
   { key := 0x100100114, dims := [(0x20, 16)] }] ++
  [{ key := 0x100100118, dims := [(0x20, 16)] },
   { key := 0x10010011c, dims := [(0x20, 16)] }]

/-- Registers of the COUCH block (R289 of 05_queues_framing.md). -/
def rowsCouch : List RegRow :=
  [{ key := 0x100200000 },
   { key := 0x100200004 },
   { key := 0x100200100, dims := [(0x20, 16)] },
   { key := 0x100200104, dims := [(0x20, 16)] },
   { key := 0x100200108, dims := [(0x20, 16)] },
   { key := 0x10020010c, dims := [(0x20, 16)] },
   { key := 0x100200110, dims := [(0x20, 16)] },
   { key := 0x100200114, dims := [(0x20, 16)] },
   { key := 0x100200118, dims := [(0x20, 16)] },
   { key := 0x10020011c, dims := [(0x20, 16)] }]

/-- Registers of the KEYS block (R361 of 06_keys.md). -/
def rowsKeys : List RegRow :=
  [{ key := 0x100500000, rwl := 0x8000007f, reset := 0x40, lock := some (0x100500000, 31) },
   { key := 0x100500004 },
   { key := 0x100500008 },
   { key := 0x10050000c },
   { key := 0x100500010 },
   { key := 0x100500014 },
   { key := 0x100500018 },
   { key := 0x10050001c },
   { key := 0x100500100, dims := [(0x40, 16)] },
   { key := 0x100500104, dims := [(0x40, 16)] },
   { key := 0x100500108, dims := [(0x40, 16)], reset := 0x1 },
   { key := 0x10050010c, dims := [(0x40, 16)] }] ++
  [{ key := 0x100500110, dims := [(0x40, 16)] },
   { key := 0x100500114, dims := [(0x40, 16)] },
   { key := 0x100500118, dims := [(0x40, 16)] },
   { key := 0x10050011c, dims := [(0x40, 16)] },
   { key := 0x100500120, dims := [(0x40, 16)] },
   { key := 0x100500124, dims := [(0x40, 16)], rwl := 0xffff, lock := some (0x100500000, 31) },
   { key := 0x100500128, dims := [(0x40, 16)] },
   { key := 0x10050012c, dims := [(0x40, 16)] }]

/-- Registers of the JOURNAL block (R419 of 07_journal_reservoir.md). -/
def rowsJournal : List RegRow :=
  [{ key := 0x100300000, rwl := 0x80000fff, lock := some (0x100300000, 31) },
   { key := 0x100300004 },
   { key := 0x100300008 },
   { key := 0x10030000c },
   { key := 0x100300010, reset := 0x100000 },
   { key := 0x100300014, reset := 0xe6667 },
   { key := 0x100300018 },
   { key := 0x10030001c },
   { key := 0x100300020 },
   { key := 0x100300024 },
   { key := 0x100300028 },
   { key := 0x10030002c }] ++
  [{ key := 0x100300030, dims := [(0x4, 8)] },
   { key := 0x100300100, dims := [(0x20, 17)] },
   { key := 0x100300104, dims := [(0x20, 17)] },
   { key := 0x100300108, dims := [(0x20, 17)] },
   { key := 0x10030010c, dims := [(0x20, 17)] },
   { key := 0x100300110, dims := [(0x20, 17)] },
   { key := 0x100300114, dims := [(0x20, 17)] },
   { key := 0x100300118, dims := [(0x20, 17)] },
   { key := 0x10030011c, dims := [(0x20, 17)] }]

/-- Registers of the RESV block (R422 of 07_journal_reservoir.md). -/
def rowsResv : List RegRow :=
  [{ key := 0x100400000, rwl := 0x80000001, lock := some (0x100400000, 31) },
   { key := 0x100400004 },
   { key := 0x100400008 },
   { key := 0x10040000c },
   { key := 0x100400010 },
   { key := 0x100400014 },
   { key := 0x100400018 },
   { key := 0x10040001c },
   { key := 0x100400020 },
   { key := 0x100400024 },
   { key := 0x100400028 },
   { key := 0x10040002c }] ++
  [{ key := 0x100400100, dims := [(0x20, 64)] },
   { key := 0x100400104, dims := [(0x20, 64)] },
   { key := 0x100400108, dims := [(0x20, 64)] },
   { key := 0x10040010c, dims := [(0x20, 64)] },
   { key := 0x100400110, dims := [(0x20, 64)] },
   { key := 0x100400114, dims := [(0x20, 64)] },
   { key := 0x100400118, dims := [(0x20, 64)] },
   { key := 0x10040011c, dims := [(0x20, 64)] },
   { key := 0x100400900, dims := [(0x10, 16)] },
   { key := 0x100400904, dims := [(0x10, 16)] },
   { key := 0x100400908, dims := [(0x10, 16)] },
   { key := 0x10040090c, dims := [(0x10, 16)] }]

/-- Registers of the MOULD block (R470 of 08_mould.md). -/
def rowsMould : List RegRow :=
  [{ key := 0x100600000, rwl := 0x80000003, reset := 0x3, lock := some (0x100600000, 31) },
   { key := 0x100600004 },
   { key := 0x100600008 },
   { key := 0x10060000c },
   { key := 0x100600010 },
   { key := 0x100600014 },
   { key := 0x100600018 },
   { key := 0x10060001c },
   { key := 0x100600020 },
   { key := 0x100600024 },
   { key := 0x100600028 },
   { key := 0x100600100, dims := [(0x20, 16)] }] ++
  [{ key := 0x100600104, dims := [(0x20, 16)] },
   { key := 0x100600108, dims := [(0x20, 16)] },
   { key := 0x10060010c, dims := [(0x20, 16)] },
   { key := 0x100600110, dims := [(0x20, 16)] },
   { key := 0x100600114, dims := [(0x20, 16)] },
   { key := 0x100600118, dims := [(0x20, 16)] }]

/-- Registers of the SLUICE_CFG block (R561 of 10_exceptions_sluices.md). -/
def rowsSluicecfg : List RegRow :=
  [{ key := 0x100f00000, wo := 0x8000001f },
   { key := 0x100f00004 },
   { key := 0x100f00008 },
   { key := 0x100f0000c },
   { key := 0x100f00010 },
   { key := 0x100f00014 },
   { key := 0x100f00100, dims := [(0x4, 37)] },
   { key := 0x100f10000, dims := [(0x10, 4736)], rwl := 0xffffffe0 },
   { key := 0x100f10004, dims := [(0x10, 4736)], rwl := 0xfff },
   { key := 0x100f10008, dims := [(0x10, 4736)], rwl := 0xffff3f3f }]

/-- Registers of the VSL block (R563 of 10_exceptions_sluices.md). -/
def rowsVsl : List RegRow :=
  [{ key := 0x1000600000, dims := [(0x1000000, 64)] },
   { key := 0x1000600004, dims := [(0x1000000, 64)] },
   { key := 0x1000600008, dims := [(0x1000000, 64)] },
   { key := 0x100060000c, dims := [(0x1000000, 64)] },
   { key := 0x1000600010, dims := [(0x1000000, 64)] },
   { key := 0x1000600014, dims := [(0x1000000, 64)] },
   { key := 0x1000600018, dims := [(0x1000000, 64)] },
   { key := 0x100060001c, dims := [(0x1000000, 64)] },
   { key := 0x1000600100, dims := [(0x1000000, 64), (0x10, 32)], rwl := 0x3ffe0 },
   { key := 0x1000600104, dims := [(0x1000000, 64), (0x10, 32)], rwl := 0xffff3f3f }]

/-- Registers of the SPRING block (R597 of 11_spring.md). -/
def rowsSpring : List RegRow :=
  [{ key := 0x100700000, rw := 0x7, rwl := 0x803f0000, lock := some (0x100700000, 31) },
   { key := 0x100700004 },
   { key := 0x100700008, wo := 0x3f03 },
   { key := 0x10070000c },
   { key := 0x100700010 },
   { key := 0x100700014, rw := 0xff },
   { key := 0x100700018 },
   { key := 0x10070001c, rwl := 0xff, reset := 0x60, lock := some (0x100700000, 31) },
   { key := 0x100700020, rwl := 0xff, reset := 0x29, lock := some (0x100700000, 31) },
   { key := 0x100700024, rwl := 0x7ff, reset := 0x31b, lock := some (0x100700000, 31) },
   { key := 0x100700028, rwl := 0x1ffff, reset := 0x1000, lock := some (0x100700000, 31) },
   { key := 0x10070002c, rw := 0x3f }] ++
  [{ key := 0x100700030 },
   { key := 0x100700034 },
   { key := 0x100700038 },
   { key := 0x10070003c },
   { key := 0x100700040, dims := [(0x4, 4)] },
   { key := 0x100700050 },
   { key := 0x100700054 },
   { key := 0x100700058 },
   { key := 0x10070005c },
   { key := 0x100700060, dims := [(0x4, 8)], rwl := 0xffffffff, lock := some (0x100700000, 31) },
   { key := 0x100700080, dims := [(0x4, 8)], rw := 0xffffffff },
   { key := 0x1007000a0, dims := [(0x4, 8)], rw := 0xffffffff }]

/-- Registers of the VDR block (R603 of 11_spring.md). -/
def rowsVdr : List RegRow :=
  [{ key := 0x1000400000, dims := [(0x1000000, 64)] },
   { key := 0x1000400004, dims := [(0x1000000, 64)] },
   { key := 0x1000400008, dims := [(0x1000000, 64)] },
   { key := 0x100040000c, dims := [(0x1000000, 64)] },
   { key := 0x1000400010, dims := [(0x1000000, 64)] },
   { key := 0x1000400014, dims := [(0x1000000, 64)] },
   { key := 0x1000400018, dims := [(0x1000000, 64)] }]

/-- Registers of the TAMPER block (R642 of 12_tamper.md). -/
def rowsTamper : List RegRow :=
  [{ key := 0x100800000, rwl := 0x80000001, reset := 0x1, lock := some (0x100800000, 31) },
   { key := 0x100800004 },
   { key := 0x100800008 },
   { key := 0x10080000c },
   { key := 0x100800010, wo := 0x1 },
   { key := 0x100800014 },
   { key := 0x100800018 },
   { key := 0x10080001c },
   { key := 0x100800020 },
   { key := 0x100800024 },
   { key := 0x100800028 },
   { key := 0x10080002c, rwl := 0xff00ff, lock := some (0x100800000, 31) }] ++
  [{ key := 0x100800030, rwl := 0x7f, reset := 0xa, lock := some (0x100800000, 31) },
   { key := 0x100800040, dims := [(0x4, 8)] },
   { key := 0x100800100, dims := [(0x10, 8)], rwl := 0x3f0f03, lock := some (0x100800000, 31) },
   { key := 0x100800104, dims := [(0x10, 8)] },
   { key := 0x100800108, dims := [(0x10, 8)] },
   { key := 0x10080010c, dims := [(0x10, 8)] }]

/-- Registers of the RESET block (R704 of 13_startup.md). -/
def rowsReset : List RegRow :=
  [{ key := 0x100900000, reset := 0x1 },
   { key := 0x100900004 },
   { key := 0x100900008, wo := 0xff3f001f },
   { key := 0x10090000c, rwl := 0x80000003, reset := 0x3, lock := some (0x10090000c, 31) },
   { key := 0x100900010 },
   { key := 0x100900014 },
   { key := 0x100900018 },
   { key := 0x10090001c },
   { key := 0x100900100, dims := [(0x4, 32)], rw := 0xffffffff }]

/-- Registers of the PMU block (R708 of 13_startup.md). -/
def rowsPmu : List RegRow :=
  [{ key := 0x100a00000, rwl := 0x80000001, reset := 0x1, lock := some (0x100a00000, 31) },
   { key := 0x100a00004 },
   { key := 0x100a00008, rwl := 0x3ff, lock := some (0x100a00000, 31) },
   { key := 0x100a0000c },
   { key := 0x100a00010 },
   { key := 0x100a00014, reset := 0x40 },
   { key := 0x100a00018, rwl := 0xffff, reset := 0x564, lock := some (0x100a00000, 31) },
   { key := 0x100a0001c, rwl := 0xff, reset := 0x70, lock := some (0x100a00000, 31) },
   { key := 0x100a00020 },
   { key := 0x100a00024 },
   { key := 0x100a00028 },
   { key := 0x100a0002c }] ++
  [{ key := 0x100a00030 },
   { key := 0x100a00034 },
   { key := 0x100a00040 },
   { key := 0x100a00044 },
   { key := 0x100a00048 },
   { key := 0x100a0004c },
   { key := 0x100a00060, dims := [(0x4, 6)], rwl := 0x7fffff, lock := some (0x100a00000, 31) },
   { key := 0x100a00100, dims := [(0x4, 68)] }]

/-- Registers of the WMARK block (R763 of 14_watermark.md). -/
def rowsWmark : List RegRow :=
  [{ key := 0x100b00000 },
   { key := 0x100b00004, wo := 0x1 },
   { key := 0x100b00008, wo := 0x8000000f },
   { key := 0x100b0000c },
   { key := 0x100b00040, dims := [(0x4, 12)], rw := 0xffffffff },
   { key := 0x100b00100, dims := [(0x4, 192)] },
   { key := 0x100b00400, dims := [(0x4, 16)] }]

/-- Registers of the LIFE block (R764 of 14_watermark.md). -/
def rowsLife : List RegRow :=
  [{ key := 0x100c00000 },
   { key := 0x100c00004 },
   { key := 0x100c00008 },
   { key := 0x100c0000c },
   { key := 0x100c00010 },
   { key := 0x100c00014 },
   { key := 0x100c00018 },
   { key := 0x100c00020, dims := [(0x4, 4)] },
   { key := 0x100c00040, dims := [(0x4, 12)] },
   { key := 0x100c00080, dims := [(0x4, 12)] },
   { key := 0x100c000c0, dims := [(0x4, 12)] }]

/-- Registers of the REPLAY block (R766 of 14_watermark.md). -/
def rowsReplay : List RegRow :=
  [{ key := 0x101900000 },
   { key := 0x101900004 },
   { key := 0x101900008 },
   { key := 0x10190000c },
   { key := 0x101900010 },
   { key := 0x101900014 },
   { key := 0x101900018 },
   { key := 0x10190001c }]

/-- Registers of the NETW block (R817 of 15_links.md). -/
def rowsNetw : List RegRow :=
  [{ key := 0x101000000, dims := [(0x4000, 64)] },
   { key := 0x101000004, dims := [(0x4000, 64)] },
   { key := 0x101000008, dims := [(0x4000, 64)] },
   { key := 0x10100000c, dims := [(0x4000, 64)] },
   { key := 0x101000010, dims := [(0x4000, 64)] },
   { key := 0x101000014, dims := [(0x4000, 64)] },
   { key := 0x101000018, dims := [(0x4000, 64), (0x4, 4)] },
   { key := 0x101000040, dims := [(0x4000, 64)] },
   { key := 0x101000044, dims := [(0x4000, 64)] },
   { key := 0x101000048, dims := [(0x4000, 64)] },
   { key := 0x10100004c, dims := [(0x4000, 64)] },
   { key := 0x101000050, dims := [(0x4000, 64)] }] ++
  [{ key := 0x101000054, dims := [(0x4000, 64)] },
   { key := 0x101000058, dims := [(0x4000, 64)] },
   { key := 0x10100005c, dims := [(0x4000, 64)] },
   { key := 0x101000060, dims := [(0x4000, 64)] },
   { key := 0x101000064, dims := [(0x4000, 64)] },
   { key := 0x101000068, dims := [(0x4000, 64)] },
   { key := 0x10100006c, dims := [(0x4000, 64)] },
   { key := 0x101000070, dims := [(0x4000, 64)], w1c := 0x7 },
   { key := 0x101000074, dims := [(0x4000, 64)], rw := 0x7, reset := 0x7 },
   { key := 0x101000078, dims := [(0x4000, 64)] },
   { key := 0x101001000, dims := [(0x4000, 64), (0x20, 64), (0x4, 8)] }]

/-- Registers of the HOSTIF block (R819 of 15_links.md). -/
def rowsHostif : List RegRow :=
  [{ key := 0x101100000, dims := [(0x8000, 17)] },
   { key := 0x101100004, dims := [(0x8000, 17)], rw := 0xfffff000 },
   { key := 0x101100008, dims := [(0x8000, 17)], rw := 0xffffffff },
   { key := 0x10110000c, dims := [(0x8000, 17)], rw := 0x1fffff },
   { key := 0x101100010, dims := [(0x8000, 17)] },
   { key := 0x101100014, dims := [(0x8000, 17)] },
   { key := 0x101100100, dims := [(0x8000, 17), (0x40, 8)], rw := 0xf0f0001 },
   { key := 0x101100104, dims := [(0x8000, 17), (0x40, 8)], rw := 0xfffff000 },
   { key := 0x101100108, dims := [(0x8000, 17), (0x40, 8)], rw := 0xffffffff },
   { key := 0x10110010c, dims := [(0x8000, 17), (0x40, 8)], rw := 0xfffff000 },
   { key := 0x101100110, dims := [(0x8000, 17), (0x40, 8)], rw := 0xffffffff },
   { key := 0x101100114, dims := [(0x8000, 17), (0x40, 8)], rw := 0xfff }] ++
  [{ key := 0x101100118, dims := [(0x8000, 17), (0x40, 8)] },
   { key := 0x10110011c, dims := [(0x8000, 17), (0x40, 8)], rw := 0xfff },
   { key := 0x101100120, dims := [(0x8000, 17), (0x40, 8)] },
   { key := 0x101108124, dims := [(0x8000, 16)], rw := 0xfffff000 },
   { key := 0x101108128, dims := [(0x8000, 16)], rw := 0xffffffff },
   { key := 0x10110812c, dims := [(0x8000, 16)], rw := 0xf0001 },
   { key := 0x101108130, dims := [(0x8000, 16)], rw := 0xfff },
   { key := 0x101108134, dims := [(0x8000, 16)] }]

/-- Registers of the MGMT block (R820 of 15_links.md). -/
def rowsMgmt : List RegRow :=
  [{ key := 0x101700000 },
   { key := 0x101700004 },
   { key := 0x101700008 },
   { key := 0x101780000, rw := 0x30fff },
   { key := 0x101780004 },
   { key := 0x101780008 },
   { key := 0x10178000c }]

/-- Registers of the RESPORT block (R821 of 15_links.md). -/
def rowsResport : List RegRow :=
  [{ key := 0x101200000, dims := [(0x10000, 16)] },
   { key := 0x101200004, dims := [(0x10000, 16)] },
   { key := 0x101200008, dims := [(0x10000, 16)] },
   { key := 0x10120000c, dims := [(0x10000, 16)] },
   { key := 0x101200010, dims := [(0x10000, 16)] },
   { key := 0x101200014, dims := [(0x10000, 16)] },
   { key := 0x101200018, dims := [(0x10000, 16)] },
   { key := 0x10120001c, dims := [(0x10000, 16)] },
   { key := 0x101200020, dims := [(0x10000, 16)], w1c := 0xf },
   { key := 0x101200024, dims := [(0x10000, 16)], rw := 0xf, reset := 0xf }]

/-- Registers of the ULOON block (R822 of 15_links.md). -/
def rowsUloon : List RegRow :=
  [{ key := 0x101300000 },
   { key := 0x101300004 },
   { key := 0x101300008 },
   { key := 0x10130000c },
   { key := 0x101300010 },
   { key := 0x101300014 },
   { key := 0x101300018 },
   { key := 0x101300100, dims := [(0x20000, 8)] },
   { key := 0x101300104, dims := [(0x20000, 8)] },
   { key := 0x101300108, dims := [(0x20000, 8)] },
   { key := 0x10130010c, dims := [(0x20000, 8)] },
   { key := 0x101300110, dims := [(0x20000, 8)] }] ++
  [{ key := 0x101300114, dims := [(0x20000, 8)] }]

/-- Registers of the TIME block (R823 of 15_links.md). -/
def rowsTime : List RegRow :=
  [{ key := 0x101600000 },
   { key := 0x101600004 },
   { key := 0x101600008 },
   { key := 0x10160000c },
   { key := 0x101600010 },
   { key := 0x101600014 },
   { key := 0x101600018, rw := 0xffffffff },
   { key := 0x10160001c, rw := 0xffffffff }]

/-- Registers of the HBMC block (R824 of 15_links.md). -/
def rowsHbmc : List RegRow :=
  [{ key := 0x101800000, dims := [(0x80000, 2)] },
   { key := 0x101800004, dims := [(0x80000, 2)] },
   { key := 0x101800008, dims := [(0x80000, 2)] },
   { key := 0x10180000c, dims := [(0x80000, 2)] },
   { key := 0x101800010, dims := [(0x80000, 2)] },
   { key := 0x101800014, dims := [(0x80000, 2)] },
   { key := 0x101800018, dims := [(0x80000, 2)] },
   { key := 0x10180001c, dims := [(0x80000, 2)] },
   { key := 0x101800020, dims := [(0x80000, 2)] }]

/-- Registers of the CARD block (R864 of 16_cards.md). -/
def rowsCard : List RegRow :=
  [{ key := 0x101400000, dims := [(0x80000, 2)], rw := 0x3d, reset := 0x3c },
   { key := 0x101400004, dims := [(0x80000, 2)] },
   { key := 0x101400008, dims := [(0x80000, 2)], wo := 0x7 },
   { key := 0x10140000c, dims := [(0x80000, 2)] },
   { key := 0x101400010, dims := [(0x80000, 2)] },
   { key := 0x101400014, dims := [(0x80000, 2)], rw := 0x1ff },
   { key := 0x101400018, dims := [(0x80000, 2)] },
   { key := 0x10140001c, dims := [(0x80000, 2)] },
   { key := 0x101400020, dims := [(0x80000, 2)], rw := 0xffff, reset := 0x1388 },
   { key := 0x101400024, dims := [(0x80000, 2)], rw := 0xff, reset := 0x32 },
   { key := 0x101400028, dims := [(0x80000, 2)] },
   { key := 0x10140002c, dims := [(0x80000, 2)] }] ++
  [{ key := 0x101400030, dims := [(0x80000, 2)], w1c := 0x1f },
   { key := 0x101400034, dims := [(0x80000, 2)], rw := 0x1f, reset := 0x1f },
   { key := 0x101400040, dims := [(0x80000, 2), (0x4, 9)] },
   { key := 0x101401000, dims := [(0x80000, 2), (0x4, 128)], rw := 0xffffffff },
   { key := 0x101401200, dims := [(0x80000, 2), (0x4, 128)] },
   { key := 0x101440000 },
   { key := 0x101440004, rw := 0xffff },
   { key := 0x101440008 },
   { key := 0x10144000c },
   { key := 0x101440010 },
   { key := 0x101440040, dims := [(0x4, 8)] }]

/-- Registers of the CLESS block (R868 of 16_cards.md). -/
def rowsCless : List RegRow :=
  [{ key := 0x101500000, rw := 0x1 },
   { key := 0x101500004 },
   { key := 0x101500008, wo := 0x6 },
   { key := 0x10150000c, rw := 0xfff, reset := 0xc8 },
   { key := 0x101500010, rw := 0x1f, reset := 0x4 },
   { key := 0x101500014, rw := 0x3f, reset := 0x3 },
   { key := 0x101500018, rw := 0xffff, reset := 0x1388 },
   { key := 0x10150001c },
   { key := 0x101500020 },
   { key := 0x101500024 },
   { key := 0x101500028, rw := 0x1ff },
   { key := 0x10150002c }] ++
  [{ key := 0x101500030 },
   { key := 0x101500034 },
   { key := 0x101500038 },
   { key := 0x10150003c, w1c := 0xf },
   { key := 0x101500040, rw := 0xf, reset := 0xf },
   { key := 0x101501000, dims := [(0x4, 128)], rw := 0xffffffff },
   { key := 0x101501200, dims := [(0x4, 128)] }]

/-- Registers of the EVT block (R896 of 17_events.md). -/
def rowsEvt : List RegRow :=
  [{ key := 0x100d00000, rwl := 0x80000000, lock := some (0x100d00000, 31) },
   { key := 0x100d00004 },
   { key := 0x100d00008 },
   { key := 0x100d0000c },
   { key := 0x100d00010, wo := 0x3f },
   { key := 0x100d00020, rwl := 0x800003ff, reset := 0x12c, lock := some (0x100d00020, 31) },
   { key := 0x100d00024, wo := 0xff },
   { key := 0x100d00028 },
   { key := 0x100d0002c },
   { key := 0x100d00040, rwl := 0xffffffff, lock := some (0x100d00000, 31) },
   { key := 0x100d00044, rwl := 0xffffffff, lock := some (0x100d00000, 31) },
   { key := 0x100d00048 }] ++
  [{ key := 0x100d0004c, rw := 0xfffffff0 },
   { key := 0x100d00050 },
   { key := 0x100d00054, wo := 0xffffffff },
   { key := 0x100d00100, dims := [(0x4, 20)], w1c := 0xffffffff },
   { key := 0x100d00180, dims := [(0x4, 20)], rwl := 0xffffffff, lock := some (0x100d00000, 31) },
   { key := 0x100d00200, dims := [(0x4, 20)] },
   { key := 0x100d01000, dims := [(0x4, 640)], rw := 0x131f, reset := 0x110 },
   { key := 0x100d02000, dims := [(0x4, 640)] }]

/-- Registers of the ERRC block (R899 of 17_events.md). -/
def rowsErrc : List RegRow :=
  [{ key := 0x100e00000 },
   { key := 0x100e00004, w1c := 0x1 },
   { key := 0x100e00008 },
   { key := 0x100e0000c, wo := 0x1 },
   { key := 0x100e00010, dims := [(0x4, 4)] },
   { key := 0x100e00040, dims := [(0x4, 4)] },
   { key := 0x100e01000, dims := [(0x40, 128), (0x4, 4)] },
   { key := 0x100e01010, dims := [(0x40, 128), (0x4, 4)] },
   { key := 0x100e01020, dims := [(0x40, 128)] },
   { key := 0x100e01024, dims := [(0x40, 128)], wo := 0x1 }]

/-- Registers of the VEV block (R900 of 17_events.md). -/
def rowsVev : List RegRow :=
  [{ key := 0x1000700000, dims := [(0x1000000, 64)], w1c := 0xffffffff },
   { key := 0x1000700004, dims := [(0x1000000, 64)], w1c := 0xffffffff },
   { key := 0x1000700008, dims := [(0x1000000, 64)] },
   { key := 0x100070000c, dims := [(0x1000000, 64)], wo := 0x1f },
   { key := 0x1000700100, dims := [(0x1000000, 64), (0x4, 64)], rw := 0x11f }]

/-- The rows of the control block with index `i` (R30). -/
def controlRows : Nat → List RegRow
  | 0 => rowsBeat
  | 1 => rowsAdmit
  | 2 => rowsCouch
  | 3 => rowsJournal
  | 4 => rowsResv
  | 5 => rowsKeys
  | 6 => rowsMould
  | 7 => rowsSpring
  | 8 => rowsTamper
  | 9 => rowsReset
  | 10 => rowsPmu
  | 11 => rowsWmark
  | 12 => rowsLife
  | 13 => rowsEvt
  | 14 => rowsErrc
  | 15 => rowsSluicecfg
  | 16 => rowsNetw
  | 17 => rowsHostif
  | 18 => rowsResport
  | 19 => rowsUloon
  | 20 => rowsCard
  | 21 => rowsCless
  | 22 => rowsTime
  | 23 => rowsMgmt
  | 24 => rowsHbmc
  | 25 => rowsReplay
  | _ => []

/-- The rows of the vat-local region with index `i`, the local address divided by 1 MiB (R31). -/
def vatRows : Nat → List RegRow
  | 2 => rowsPke
  | 3 => rowsSym
  | 4 => rowsVdr
  | 6 => rowsVsl
  | 7 => rowsVev
  | _ => []

/-- The register row that holds the address `k`, if any: control blocks from 0x001_0000_0000 (R30), the local
registers of vat v in its window (R31). -/
def regRow? (k : Nat) : Option RegRow :=
  if 0x100000000 ≤ k ∧ k < 0x110000000 then
    (controlRows ((k - 0x100000000) / 0x100000)).find? fun r => decide (r.key ≤ k) && dimsMatch r.dims (k - r.key)
  else if 0x1000000000 ≤ k ∧ k < 0x1040000000 then
    (vatRows (k % 0x1000000 / 0x100000)).find? fun r => decide (r.key ≤ k) && dimsMatch r.dims (k - r.key)
  else none

end Sys2Proof.Machine
end

