-- ==== Sys2Proof/Machine/RegReset.lean ====
section
/-! DEFINITION. What each register reads as after power-on reset: its row's Reset value, and the values the spec gives
elsewhere (R617, R778, R877, R547) or that the fuse map of the modelled part holds (notes/assumptions/3.md). -/

namespace Sys2Proof.Machine

/-- Entries of sluice table `t`: 128 for those of the HBM stacks, 32 for the others (R547). -/
def sluiceEntries (t : Nat) : Nat := if t < 0x1A ∨ (0x20 ≤ t ∧ t ≤ 0x22) then 32 else if t = 0x23 ∨ t = 0x24 then 128 else 0

/-- Level, COUNT and WINDOW of tamper source `m` when VBAT is first applied (R617). -/
def tamperSrcCfg (m : Nat) : Nat :=
  match m with
  | 4 => 0x010102
  | 5 => 0x010301
  | 6 => 0x010100
  | 7 => 0x010300
  | _ => 0x010301

/-- Registers whose value after reset is not their row's: fixed event bits, and the fuse map of an NV6400-C64. -/
def resetValues : List (Nat × Nat) :=
  [(R.EVT_JNL 7, 0x00000700), (R.EVT_JNL 9, 0x4FFFFF3F), (R.EVT_JNL 12, 0x00001C41), (R.EVT_JNL 15, 0x00000300),
   (R.LIFE_VATS_LO, 0xFFFFFFFF), (R.LIFE_VATS_HI, 0xFFFFFFFF), (R.PMU_PWR_LIMIT, 648), (R.PMU_BASE_W, 3960),
   (R.PMU_VAT_W, 444), (R.PMU_RAIL_CFG 0, 1800), (R.PMU_RAIL_CFG 1, 1100), (R.PMU_RAIL_CFG 2, 400),
   (R.PMU_RAIL_CFG 3, 750), (R.PMU_RAIL_CFG 4, 1200), (R.PMU_RAIL_CFG 5, 3300), (R.TAMPER_TEMP_LIMITS, 0x007D00DD)]

/-- The registers of an array whose value after reset depends on the index: egress times (R778), tamper sources (R617)
and sluice table sizes (R547). -/
def resetArray (k : Nat) : Option Nat :=
  if 0x101000000 ≤ k ∧ k < 0x101100000 then
    if k % 0x4000 = 4 then
      let p := (k - 0x101000000) / 0x4000
      some (if p < 16 ∨ 48 ≤ p then 1180 else 1140)
    else none
  else if 0x100800100 ≤ k ∧ k < 0x100800180 then
    if k % 0x10 = 0 then some (tamperSrcCfg ((k - 0x100800100) / 0x10)) else none
  else if 0x100f00100 ≤ k ∧ k < 0x100f00194 then some (sluiceEntries ((k - 0x100f00100) / 4))
  else none

/-- The value after reset that stands in no row, if register `k` has one. -/
def resetSpecial (k : Nat) : Option Nat :=
  match resetValues.lookup k with
  | some v => some v
  | none => resetArray k

/-- What register `k` reads as when nothing has changed it since reset. -/
def regReset (k : Nat) : Word :=
  match resetSpecial k with
  | some v => BitVec.ofNat 32 v
  | none =>
    match regRow? k with
    | some r => BitVec.ofNat 32 r.reset
    | none => 0

end Sys2Proof.Machine
end

