-- ==== Sys2Proof/Machine/Sparse.lean ====
section
/-! DEFINITION. Sparse maps in one canonical form: a list of (key, value) pairs, keys strictly rising, no entry equal to
what an unlisted key reads as. Memory (R25) and the register file are such maps. -/

namespace Sys2Proof.Machine

/-- What `k` reads as in the map `m`, unlisted keys reading as `d` says. -/
def spGet {α : Type} (d : Nat → α) : List (Nat × α) → Nat → α
  | [], k => d k
  | (a, v) :: m, k => if k = a then v else spGet d m k

/-- The entries of `m` without the key `k`. -/
def spDel {α : Type} : List (Nat × α) → Nat → List (Nat × α)
  | [], _ => []
  | (a, v) :: m, k => if k = a then spDel m k else (a, v) :: spDel m k

/-- `m` with `v` put at the key `k` in its place. -/
def spIns {α : Type} : List (Nat × α) → Nat → α → List (Nat × α)
  | [], k, v => [(k, v)]
  | (a, w) :: m, k, v =>
    if k < a then (k, v) :: (a, w) :: m
    else if k = a then (k, v) :: m
    else (a, w) :: spIns m k v

/-- `m` with the key `k` reading as `v`: an entry equal to the default is removed. -/
def spSet {α : Type} [DecidableEq α] (d : Nat → α) (m : List (Nat × α)) (k : Nat) (v : α) : List (Nat × α) :=
  if v = d k then spDel m k else spIns m k v

/-- The canonical form: keys strictly rising and no entry equal to its default. -/
def spWf {α : Type} [DecidableEq α] (d : Nat → α) (m : List (Nat × α)) : Bool :=
  (m.map (·.1)).Pairwise (· < ·) && m.all fun e => decide (e.2 ≠ d e.1)

end Sys2Proof.Machine
end

