-- ==== Sys2Proof/Machine/Bits.lean ====
section
/-! DEFINITION. Bit fields, sign extension, byte order and byte-string helpers. All data of the device is
little-endian unless a published format fixes another order (R9). -/

namespace Sys2Proof.Machine

/-- Field [hi:lo] of a word, as a number. -/
def field (w : Word) (hi lo : Nat) : Nat := w.toNat / 2 ^ lo % 2 ^ (hi + 1 - lo)

/-- Bit `i` of a word. -/
def bit (w : Word) (i : Nat) : Bool := w.getLsbD i

/-- `w` with field [hi:lo] holding the low bits of `v`. -/
def setField (w : Word) (hi lo v : Nat) : Word :=
  let m : Word := BitVec.ofNat 32 ((2 ^ (hi + 1 - lo) - 1) * 2 ^ lo)
  (w &&& ~~~m) ||| (BitVec.ofNat 32 (v * 2 ^ lo) &&& m)

/-- `w` with bit `i` set to `b`. -/
def setBit (w : Word) (i : Nat) (b : Bool) : Word := setField w i i (if b then 1 else 0)

/-- A Boolean as the number 0 or 1. -/
def b2n (b : Bool) : Nat := if b then 1 else 0

/-- A natural number as a word. -/
abbrev w32 (n : Nat) : Word := BitVec.ofNat 32 n

/-- A natural number as a byte. -/
abbrev by8 (n : Nat) : Byte := BitVec.ofNat 8 n

/-- The number of `k` bytes, lowest first, that spell `n` (R9). -/
def leBytes : Nat → Nat → Bytes
  | 0, _ => []
  | k + 1, n => by8 n :: leBytes k (n / 256)

/-- The number a little-endian byte string spells. -/
def leNat : Bytes → Nat
  | [] => 0
  | b :: bs => b.toNat + 256 * leNat bs

/-- `k` bytes, highest first, that spell `n`. -/
def beBytes (k n : Nat) : Bytes := (leBytes k n).reverse

/-- The number a big-endian byte string spells. -/
def beNat (bs : Bytes) : Nat := leNat bs.reverse

/-- `n` zero bytes. -/
abbrev zeros (n : Nat) : Bytes := List.replicate n 0

/-- `n` bytes from offset `off`; bytes past the end read as zero. -/
def slice (bs : Bytes) (off n : Nat) : Bytes :=
  let got := (bs.drop off).take n
  got ++ zeros (n - got.length)

/-- The little-endian number in `n` bytes from offset `off`. -/
def leAt (bs : Bytes) (off n : Nat) : Nat := leNat (slice bs off n)

/-- The byte at offset `off`, zero past the end. -/
def byteAt (bs : Bytes) (off : Nat) : Nat := (bs.getD off 0).toNat

/-- Whether every byte is zero. -/
def allZero (bs : Bytes) : Bool := bs.all (· == 0)

/-- `bs` with the bytes from offset `off` replaced by `new`, its length kept. -/
def patch (bs : Bytes) (off : Nat) (new : Bytes) : Bytes :=
  (bs.take off ++ new ++ bs.drop (off + new.length)).take (max bs.length (off + new.length))

/-- `bs` cut to `n` bytes, or filled to `n` with zero bytes. -/
def padTo (n : Nat) (bs : Bytes) : Bytes := slice bs 0 n

/-- Bytewise exclusive or, as long as the shorter string. -/
def xorBytes (a b : Bytes) : Bytes := List.zipWith (· ^^^ ·) a b

/-- `bs` in chunks of `k` bytes; `fuel` bounds the number of chunks. -/
def chunksAux (k : Nat) : Nat → Bytes → List Bytes
  | 0, _ => []
  | _, [] => []
  | f + 1, bs => bs.take k :: chunksAux k f (bs.drop k)

/-- `bs` in chunks of `k` bytes, the last one possibly shorter. -/
def chunks (k : Nat) (bs : Bytes) : List Bytes := chunksAux k (bs.length + 1) bs

/-- The bytes of an ASCII string. -/
def ascii (s : String) : Bytes := s.toList.map fun c => by8 c.toNat

/-- A byte string from a list of numbers. -/
def bytes (l : List Nat) : Bytes := l.map by8

/-- `n` rounded up to a whole number of `k`. -/
def ceilDiv (n k : Nat) : Nat := (n + k - 1) / k

/-- `v` sign-extended from its low `k` bits, as a word. -/
def sext (k : Nat) (v : Nat) : Word :=
  let u := v % 2 ^ k
  if u < 2 ^ (k - 1) then w32 u else w32 (2 ^ 32 - 2 ^ k + u)

/-- Saturating count: one more, stopping at 0xFFFF_FFFF. -/
def satInc (w : Word) : Word := if w = 0xFFFFFFFF#32 then w else w + 1

/-- Saturating addition of `n`, stopping at 0xFFFF_FFFF. -/
def satAdd (w : Word) (n : Nat) : Word := w32 (min 0xFFFFFFFF (w.toNat + n))

end Sys2Proof.Machine
end

