-- ==== Sys2Proof/Machine/Sha.lean ====
section
/-! DEFINITION. SHA-2 (FIPS 180-4), SHA-3 (FIPS 202) and HMAC (FIPS 198-1), which the spec names and does not restate
(notes/assumptions/5.md). -/

namespace Sys2Proof.Machine

/-- SHA-256 round constants. -/
def sha256K : List (BitVec 32) :=
  [0x428a2f98, 0x71374491, 0xb5c0fbcf, 0xe9b5dba5, 0x3956c25b, 0x59f111f1, 0x923f82a4, 0xab1c5ed5,
   0xd807aa98, 0x12835b01, 0x243185be, 0x550c7dc3, 0x72be5d74, 0x80deb1fe, 0x9bdc06a7, 0xc19bf174,
   0xe49b69c1, 0xefbe4786, 0x0fc19dc6, 0x240ca1cc, 0x2de92c6f, 0x4a7484aa, 0x5cb0a9dc, 0x76f988da,
   0x983e5152, 0xa831c66d, 0xb00327c8, 0xbf597fc7, 0xc6e00bf3, 0xd5a79147, 0x06ca6351, 0x14292967] ++
  [0x27b70a85, 0x2e1b2138, 0x4d2c6dfc, 0x53380d13, 0x650a7354, 0x766a0abb, 0x81c2c92e, 0x92722c85,
   0xa2bfe8a1, 0xa81a664b, 0xc24b8b70, 0xc76c51a3, 0xd192e819, 0xd6990624, 0xf40e3585, 0x106aa070,
   0x19a4c116, 0x1e376c08, 0x2748774c, 0x34b0bcb5, 0x391c0cb3, 0x4ed8aa4a, 0x5b9cca4f, 0x682e6ff3,
   0x748f82ee, 0x78a5636f, 0x84c87814, 0x8cc70208, 0x90befffa, 0xa4506ceb, 0xbef9a3f7, 0xc67178f2]

/-- SHA-512 round constants. -/
def sha512K : List (BitVec 64) :=
  [0x428a2f98d728ae22, 0x7137449123ef65cd, 0xb5c0fbcfec4d3b2f, 0xe9b5dba58189dbbc,
   0x3956c25bf348b538, 0x59f111f1b605d019, 0x923f82a4af194f9b, 0xab1c5ed5da6d8118,
   0xd807aa98a3030242, 0x12835b0145706fbe, 0x243185be4ee4b28c, 0x550c7dc3d5ffb4e2,
   0x72be5d74f27b896f, 0x80deb1fe3b1696b1, 0x9bdc06a725c71235, 0xc19bf174cf692694,
   0xe49b69c19ef14ad2, 0xefbe4786384f25e3, 0x0fc19dc68b8cd5b5, 0x240ca1cc77ac9c65] ++
  [0x2de92c6f592b0275, 0x4a7484aa6ea6e483, 0x5cb0a9dcbd41fbd4, 0x76f988da831153b5,
   0x983e5152ee66dfab, 0xa831c66d2db43210, 0xb00327c898fb213f, 0xbf597fc7beef0ee4,
   0xc6e00bf33da88fc2, 0xd5a79147930aa725, 0x06ca6351e003826f, 0x142929670a0e6e70,
   0x27b70a8546d22ffc, 0x2e1b21385c26c926, 0x4d2c6dfc5ac42aed, 0x53380d139d95b3df,
   0x650a73548baf63de, 0x766a0abb3c77b2a8, 0x81c2c92e47edaee6, 0x92722c851482353b] ++
  [0xa2bfe8a14cf10364, 0xa81a664bbc423001, 0xc24b8b70d0f89791, 0xc76c51a30654be30,
   0xd192e819d6ef5218, 0xd69906245565a910, 0xf40e35855771202a, 0x106aa07032bbd1b8,
   0x19a4c116b8d2d0c8, 0x1e376c085141ab53, 0x2748774cdf8eeb99, 0x34b0bcb5e19b48a8,
   0x391c0cb3c5c95a63, 0x4ed8aa4ae3418acb, 0x5b9cca4f7763e373, 0x682e6ff3d6b2b8a3,
   0x748f82ee5defb2fc, 0x78a5636f43172f60, 0x84c87814a1f0ab72, 0x8cc702081a6439ec] ++
  [0x90befffa23631e28, 0xa4506cebde82bde9, 0xbef9a3f7b2c67915, 0xc67178f2e372532b,
   0xca273eceea26619c, 0xd186b8c721c0c207, 0xeada7dd6cde0eb1e, 0xf57d4f7fee6ed178,
   0x06f067aa72176fba, 0x0a637dc5a2c898a6, 0x113f9804bef90dae, 0x1b710b35131c471b,
   0x28db77f523047d84, 0x32caab7b40c72493, 0x3c9ebe0a15c9bebc, 0x431d67c49c100d4c,
   0x4cc5d4becb3e42b6, 0x597f299cfc657e2a, 0x5fcb6fab3ad6faec, 0x6c44198c4a475817]

/-- SHA-256 initial value. -/
def sha256H : List (BitVec 32) :=
  [0x6a09e667, 0xbb67ae85, 0x3c6ef372, 0xa54ff53a, 0x510e527f, 0x9b05688c, 0x1f83d9ab, 0x5be0cd19]

/-- SHA-512 initial value. -/
def sha512H : List (BitVec 64) :=
  [0x6a09e667f3bcc908, 0xbb67ae8584caa73b, 0x3c6ef372fe94f82b, 0xa54ff53a5f1d36f1,
   0x510e527fade682d1, 0x9b05688c2b3e6c1f, 0x1f83d9abfb41bd6b, 0x5be0cd19137e2179]

/-- SHA-384 initial value. -/
def sha384H : List (BitVec 64) :=
  [0xcbbb9d5dc1059ed8, 0x629a292a367cd507, 0x9159015a3070dd17, 0x152fecd8f70e5939,
   0x67332667ffc00b31, 0x8eb44a8768581511, 0xdb0c2e0d64f98fa7, 0x47b5481dbefa4fa4]

/-- Rotations and shifts of a small or big sigma. -/
def rr {w : Nat} (a b c : Nat) (x : BitVec w) : BitVec w := x.rotateRight a ^^^ x.rotateRight b ^^^ x.rotateRight c

/-- Two rotations and a shift. -/
def rs {w : Nat} (a b c : Nat) (x : BitVec w) : BitVec w := x.rotateRight a ^^^ x.rotateRight b ^^^ (x >>> c)

/-- The rotation amounts of one SHA-2 word size: Σ0, Σ1, σ0, σ1. -/
structure Sha2Rot where
  s0 : Nat × Nat × Nat
  s1 : Nat × Nat × Nat
  l0 : Nat × Nat × Nat
  l1 : Nat × Nat × Nat

/-- SHA-256's amounts. -/
def rot256 : Sha2Rot := ⟨(2, 13, 22), (6, 11, 25), (7, 18, 3), (17, 19, 10)⟩

/-- SHA-512's amounts. -/
def rot512 : Sha2Rot := ⟨(28, 34, 39), (14, 18, 41), (1, 8, 7), (19, 61, 6)⟩

/-- The message schedule, latest word first, extended by `n` words. -/
def sha2Sched {w : Nat} (r : Sha2Rot) : Nat → List (BitVec w) → List (BitVec w)
  | 0, ws => ws
  | n + 1, ws =>
    let g (i : Nat) := ws.getD i 0
    sha2Sched r n ((rs r.l1.1 r.l1.2.1 r.l1.2.2 (g 1) + g 6 + rs r.l0.1 r.l0.2.1 r.l0.2.2 (g 14) + g 15) :: ws)

/-- One round of SHA-2 on the eight working words. -/
def sha2Round {w : Nat} (r : Sha2Rot) (h : List (BitVec w)) (kw : BitVec w) : List (BitVec w) :=
  match h with
  | [a, b, c, d, e, f, g, h] =>
    let t1 := h + rr r.s1.1 r.s1.2.1 r.s1.2.2 e + ((e &&& f) ^^^ (~~~e &&& g)) + kw
    let t2 := rr r.s0.1 r.s0.2.1 r.s0.2.2 a + ((a &&& b) ^^^ (a &&& c) ^^^ (b &&& c))
    [t1 + t2, a, b, c, d + t1, e, f, g]
  | h => h

/-- The compression of one block. -/
def sha2Block {w : Nat} (r : Sha2Rot) (k : List (BitVec w)) (h : List (BitVec w)) (blk : Bytes) : List (BitVec w) :=
  let w0 := ((chunks (w / 8) blk).map fun c => BitVec.ofNat w (beNat c)).reverse
  let ws := (sha2Sched r (k.length - 16) w0).reverse
  List.zipWith (· + ·) h ((List.zipWith (· + ·) k ws).foldl (sha2Round r) h)

/-- SHA-2 padding to blocks of `b` bytes. -/
def sha2Pad (b : Nat) (m : Bytes) : Bytes :=
  let l := b / 8
  let z := (b - (m.length + 1 + l) % b) % b
  m ++ [0x80] ++ zeros z ++ beBytes l (8 * m.length)

/-- SHA-2 of a message. -/
def sha2 {w : Nat} (r : Sha2Rot) (k h : List (BitVec w)) (m : Bytes) : Bytes :=
  (((chunks (2 * w) (sha2Pad (2 * w) m)).foldl (sha2Block r k) h).map fun x => beBytes (w / 8) x.toNat).flatten

/-- SHA-256. -/
def sha256 (m : Bytes) : Bytes := sha2 rot256 sha256K sha256H m

/-- SHA-512. -/
def sha512 (m : Bytes) : Bytes := sha2 rot512 sha512K sha512H m

/-- SHA-384. -/
def sha384 (m : Bytes) : Bytes := (sha2 rot512 sha512K sha384H m).take 48

/-- Round constants of Keccak-f[1600]. -/
def keccakRC : List (BitVec 64) :=
  [0x0000000000000001, 0x0000000000008082, 0x800000000000808a, 0x8000000080008000,
   0x000000000000808b, 0x0000000080000001, 0x8000000080008081, 0x8000000000008009,
   0x000000000000008a, 0x0000000000000088, 0x0000000080008009, 0x000000008000000a] ++
  [0x000000008000808b, 0x800000000000008b, 0x8000000000008089, 0x8000000000008003,
   0x8000000000008002, 0x8000000000000080, 0x000000000000800a, 0x800000008000000a,
   0x8000000080008081, 0x8000000000008080, 0x0000000080000001, 0x8000000080008008]

/-- Rotation offsets of Keccak lanes, lane x + 5y. -/
def keccakRot : List Nat := [0, 1, 62, 28, 27, 36, 44, 6, 55, 20, 3, 10, 43, 25, 39, 41, 45, 15, 21, 8, 18, 2, 61, 56, 14]

/-- One round of Keccak-f[1600] on the 25 lanes. -/
def keccakRound (a : List (BitVec 64)) (rc : BitVec 64) : List (BitVec 64) :=
  let g (l : List (BitVec 64)) (i : Nat) := l.getD i 0
  let c := (List.range 5).map fun x => g a x ^^^ g a (x + 5) ^^^ g a (x + 10) ^^^ g a (x + 15) ^^^ g a (x + 20)
  let d := (List.range 5).map fun x => g c ((x + 4) % 5) ^^^ (g c ((x + 1) % 5)).rotateLeft 1
  let a := (List.range 25).map fun i => g a i ^^^ g d (i % 5)
  -- lane (x, y) of b is lane (x + 3y mod 5, x) of a, rotated
  let b := (List.range 25).map fun i =>
    let j := (i % 5 + 3 * (i / 5)) % 5 + 5 * (i % 5)
    (g a j).rotateLeft (keccakRot.getD j 0)
  (List.range 25).map fun i =>
    let r := 5 * (i / 5)
    (g b i ^^^ (~~~(g b (r + (i + 1) % 5)) &&& g b (r + (i + 2) % 5))) ^^^ (if i = 0 then rc else 0)

/-- Keccak-f[1600]. -/
def keccakF (a : List (BitVec 64)) : List (BitVec 64) := keccakRC.foldl keccakRound a

/-- One block of `rate` bytes absorbed. -/
def keccakAbsorb (a : List (BitVec 64)) (blk : Bytes) : List (BitVec 64) :=
  let ls := (chunks 8 (padTo 200 blk)).map fun c => BitVec.ofNat 64 (leNat c)
  keccakF (List.zipWith (· ^^^ ·) a ls)

/-- `n` blocks of `rate` bytes squeezed. -/
def keccakSqueeze (rate : Nat) : Nat → List (BitVec 64) → Bytes
  | 0, _ => []
  | n + 1, a => ((a.map fun x => leBytes 8 x.toNat).flatten).take rate ++ keccakSqueeze rate n (keccakF a)

/-- The sponge: rate in bytes, domain byte, output length. -/
def keccak (rate : Nat) (dom : Byte) (out : Nat) (m : Bytes) : Bytes :=
  let z := (rate - (m.length + 1) % rate) % rate
  let p := m ++ [dom] ++ zeros z
  let p := p.dropLast ++ [(p.getLastD 0) ||| 0x80]
  let a := (chunks rate p).foldl keccakAbsorb (List.replicate 25 0)
  (keccakSqueeze rate (out / rate + 1) a).take out

/-- SHA3-256. -/
def sha3_256 (m : Bytes) : Bytes := keccak 136 0x06 32 m

/-- SHA3-384. -/
def sha3_384 (m : Bytes) : Bytes := keccak 104 0x06 48 m

/-- SHA3-512. -/
def sha3_512 (m : Bytes) : Bytes := keccak 72 0x06 64 m

/-- SHAKE128. -/
def shake128 (out : Nat) (m : Bytes) : Bytes := keccak 168 0x1f out m

/-- SHAKE256. -/
def shake256 (out : Nat) (m : Bytes) : Bytes := keccak 136 0x1f out m

/-- HMAC over a hash with blocks of `b` bytes. -/
def hmac (hash : Bytes → Bytes) (b : Nat) (key m : Bytes) : Bytes :=
  let k := padTo b (if b < key.length then hash key else key)
  hash (k.map (· ^^^ 0x5c) ++ hash (k.map (· ^^^ 0x36) ++ m))

end Sys2Proof.Machine
end

