-- ==== Sys2Proof/Machine/Modes.lean ====
section
/-! DEFINITION. Block cipher modes: CBC, CTR, CMAC (SP 800-38B), GCM (SP 800-38D), XTS (IEEE 1619), FF1 (SP 800-38G),
ISO/IEC 9797-1 MACs and CTR_DRBG (SP 800-90A), which the spec names and does not restate (notes/assumptions/5.md). -/

namespace Sys2Proof.Machine

/-- A block cipher direction with its key applied. -/
abbrev BlockFn := Bytes → Bytes

/-- CBC encryption over whole blocks of `b` bytes. -/
def cbcEnc (b : Nat) (e : BlockFn) (iv m : Bytes) : Bytes :=
  ((chunks b m).foldl (fun (p : Bytes × Bytes) blk => let c := e (xorBytes p.1 blk); (c, p.2 ++ c)) (iv, [])).2

/-- CBC decryption over whole blocks. -/
def cbcDec (b : Nat) (d : BlockFn) (iv m : Bytes) : Bytes :=
  ((chunks b m).foldl (fun (p : Bytes × Bytes) blk => (blk, p.2 ++ xorBytes (d blk) p.1)) (iv, [])).2

/-- ECB over whole blocks. -/
def ecb (b : Nat) (e : BlockFn) (m : Bytes) : Bytes := ((chunks b m).map e).flatten

/-- Counter mode: the key stream from the big-endian counter block `ctr`, whose low `w` bytes count. -/
def ctrMode (w : Nat) (e : BlockFn) (ctr m : Bytes) : Bytes :=
  (((chunks 16 m).zipIdx).map fun c =>
    let hi := ctr.take (16 - w)
    let n := (beNat (ctr.drop (16 - w)) + c.2) % 256 ^ w
    xorBytes c.1 (e (hi ++ beBytes w n))).flatten

/-- Doubling in GF(2^128) or GF(2^64) with a big-endian block, as CMAC uses it. -/
def cmacDouble (blk : Bytes) : Bytes :=
  let n := blk.length
  let v := 2 * beNat blk
  let v := if v < 256 ^ n then v else (v % 256 ^ n) ^^^ (if n = 16 then 0x87 else 0x1b)
  beBytes n v

/-- CMAC with blocks of `b` bytes. -/
def cmac (b : Nat) (e : BlockFn) (m : Bytes) : Bytes :=
  let k1 := cmacDouble (e (zeros b))
  let n := ceilDiv m.length b
  let full := m.length = b * n ∧ n ≠ 0
  let body := m.take (b * (n - 1))
  let last := m.drop (b * (n - 1))
  let last := if full then xorBytes last k1 else xorBytes (padTo b (last ++ [0x80])) (cmacDouble k1)
  e (xorBytes ((chunks b body).foldl (fun c blk => e (xorBytes c blk)) (zeros b)) last)

/-- AES-CMAC. -/
def aesCmac (key m : Bytes) : Bytes := cmac 16 (aesEnc key) m

/-- TDES-CMAC. -/
def tdesCmac (key m : Bytes) : Bytes := cmac 8 (tdesEnc key) m

/-- ISO/IEC 9797-1 padding method 2: 0x80 and zeros to whole blocks of `b`. -/
def pad2 (b : Nat) (m : Bytes) : Bytes :=
  let m := m ++ [0x80]
  m ++ zeros ((b - m.length % b) % b)

/-- ISO/IEC 9797-1 MAC algorithm 3 (retail MAC) over a padded message with a double-length key. -/
def macAlg3 (key m : Bytes) : Bytes :=
  let h := (chunks 8 m).foldl (fun c blk => desEnc (key.take 8) (xorBytes c blk)) (zeros 8)
  desEnc (key.take 8) (desDec ((key.drop 8).take 8) h)

/-- Multiplication in GF(2^128) of GCM, bits most significant first. -/
def gcmMul (x y : Nat) : Nat :=
  ((List.range 128).foldl (fun (p : Nat × Nat) i =>
    let z := if x / 2 ^ (127 - i) % 2 = 1 then p.1 ^^^ p.2 else p.1
    let v := if p.2 % 2 = 1 then (p.2 / 2) ^^^ (0xe1 * 2 ^ 120) else p.2 / 2
    (z, v)) (0, y)).1

/-- GHASH of whole blocks. -/
def ghash (h : Nat) (m : Bytes) : Bytes :=
  beBytes 16 ((chunks 16 m).foldl (fun y blk => gcmMul (y ^^^ beNat blk) h) 0)

/-- Zero bytes up to a multiple of 16. -/
def pad16 (m : Bytes) : Bytes := m ++ zeros ((16 - m.length % 16) % 16)

/-- The tag of GCM with a 96-bit IV. -/
def gcmTag (key iv aad c : Bytes) : Bytes :=
  let h := beNat (aesEnc key (zeros 16))
  let s := ghash h (pad16 aad ++ pad16 c ++ beBytes 8 (8 * aad.length) ++ beBytes 8 (8 * c.length))
  xorBytes s (aesEnc key (iv ++ beBytes 4 1))

/-- GCM encryption with a 96-bit IV: ciphertext and tag. -/
def gcmEnc (key iv aad m : Bytes) : Bytes × Bytes :=
  let c := ctrMode 4 (aesEnc key) (iv ++ beBytes 4 2) m
  (c, gcmTag key iv aad c)

/-- GCM decryption: the text if the tag matches. -/
def gcmDec (key iv aad c tag : Bytes) : Option Bytes :=
  if gcmTag key iv aad c = tag then some (ctrMode 4 (aesEnc key) (iv ++ beBytes 4 2) c) else none

/-- Doubling of an XTS tweak, little-endian. -/
def xtsDouble (t : Bytes) : Bytes :=
  let v := 2 * leNat t
  leBytes 16 (if v < 2 ^ 128 then v else (v - 2 ^ 128) ^^^ 0x87)

/-- AES-XTS over whole blocks. -/
def xts (e : BlockFn) (key2 tweak m : Bytes) : Bytes :=
  ((chunks 16 m).foldl (fun (p : Bytes × Bytes) blk =>
    (xtsDouble p.1, p.2 ++ xorBytes (e (xorBytes blk p.1)) p.1)) (aesEnc key2 tweak, [])).2

/-! ### FF1 -/

/-- The number a string of digits in radix `r` spells, most significant first. -/
def numRadix (r : Nat) (x : List Nat) : Nat := x.foldl (fun a d => a * r + d) 0

/-- `m` digits in radix `r`, most significant first, that spell `n`. -/
def strRadix (r : Nat) : Nat → Nat → List Nat
  | 0, _ => []
  | m + 1, n => strRadix r m (n / r) ++ [n % r]

/-- Bytes needed for numbers below `r ^ v`. -/
def ff1B (r v : Nat) : Nat := ceilDiv (Nat.log2 (r ^ v - 1) + 1) 8

/-- One round value of FF1. -/
def ff1Y (key : Bytes) (r n : Nat) (tweak : Bytes) (i : Nat) (b : List Nat) : Nat :=
  let v := n - n / 2
  let bl := ff1B r v
  let d := 4 * ceilDiv bl 4 + 4
  let p := [1, 2, 1] ++ beBytes 3 r ++ [10, by8 (n / 2)] ++ beBytes 4 n ++ beBytes 4 tweak.length
  let z := (16 - (tweak.length + bl + 1) % 16) % 16
  let q := tweak ++ zeros z ++ [by8 i] ++ beBytes bl (numRadix r b)
  let rb := (chunks 16 (p ++ q)).foldl (fun c blk => aesEnc key (xorBytes c blk)) (zeros 16)
  let s := (rb ++ ((List.range (ceilDiv d 16)).drop 1).flatMap fun j => aesEnc key (xorBytes rb (beBytes 16 j))).take d
  beNat s

/-- FF1 encryption of a digit string. -/
def ff1Enc (key : Bytes) (r : Nat) (tweak : Bytes) (x : List Nat) : List Nat :=
  let n := x.length
  let u := n / 2
  let ab := (List.range 10).foldl (fun (p : List Nat × List Nat) i =>
    let m := if i % 2 = 0 then u else n - u
    let c := (numRadix r p.1 + ff1Y key r n tweak i p.2) % r ^ m
    (p.2, strRadix r m c)) (x.take u, x.drop u)
  ab.1 ++ ab.2

/-- FF1 decryption of a digit string. -/
def ff1Dec (key : Bytes) (r : Nat) (tweak : Bytes) (x : List Nat) : List Nat :=
  let n := x.length
  let u := n / 2
  let ab := (List.range 10).reverse.foldl (fun (p : List Nat × List Nat) i =>
    let m := if i % 2 = 0 then u else n - u
    let y := ff1Y key r n tweak i p.1 % r ^ m
    let c := (numRadix r p.2 + r ^ m - y) % r ^ m
    (strRadix r m c, p.1)) (x.take u, x.drop u)
  ab.1 ++ ab.2

/-! ### CTR_DRBG -/

/-- The working state of a CTR_DRBG with AES-256. -/
structure Drbg where
  key     : Bytes
  v       : Bytes
  counter : Nat
  deriving DecidableEq, Repr

/-- `n` counter blocks enciphered after `v`. -/
def drbgBlocks (key : Bytes) : Nat → Nat → Bytes
  | 0, _ => []
  | n + 1, v => let v := (v + 1) % 2 ^ 128; aesEnc key (beBytes 16 v) ++ drbgBlocks key n v

/-- CTR_DRBG_Update with 48 bytes of provided data. -/
def drbgUpdate (d : Drbg) (data : Bytes) : Drbg :=
  let t := xorBytes (drbgBlocks d.key 3 (beNat d.v)) (padTo 48 data)
  { d with key := t.take 32, v := t.drop 32 }

/-- BCC of the derivation function: a CBC-MAC under the fixed key 00 01 … 1F. -/
def drbgBcc (key m : Bytes) : Bytes := (chunks 16 m).foldl (fun c blk => aesEnc key (xorBytes c blk)) (zeros 16)

/-- Block_Cipher_df to 48 bytes (SP 800-90A, 10.3.2). -/
def drbgDf (input : Bytes) : Bytes :=
  let s := beBytes 4 input.length ++ beBytes 4 48 ++ input ++ [0x80]
  let s := s ++ zeros ((16 - s.length % 16) % 16)
  let k := bytes (List.range 32)
  let t := ([0, 1, 2].map fun i => drbgBcc k (beBytes 4 i ++ zeros 12 ++ s)).flatten
  let k := t.take 32
  let x1 := aesEnc k (t.drop 32)
  let x2 := aesEnc k x1
  x1 ++ x2 ++ aesEnc k x2

/-- Instantiation from entropy input, nonce and personalisation string (R578). -/
def drbgNew (seed : Bytes) : Drbg :=
  { drbgUpdate { key := zeros 32, v := zeros 16, counter := 0 } (drbgDf seed) with counter := 1 }

/-- Reseed from entropy input with additional input. -/
def drbgReseed (d : Drbg) (entropy add : Bytes) : Drbg := { drbgUpdate d (drbgDf (entropy ++ add)) with counter := 1 }

/-- `n` bytes generated, with additional input. -/
def drbgGenerate (d : Drbg) (n : Nat) (add : Bytes) : Bytes × Drbg :=
  let add := if add = [] then [] else drbgDf add
  let d := if add = [] then d else drbgUpdate d add
  let k := ceilDiv n 16
  let out := (drbgBlocks d.key k (beNat d.v)).take n
  let d := { d with v := beBytes 16 (beNat d.v + k) }
  (out, { drbgUpdate d add with counter := d.counter + 1 })

end Sys2Proof.Machine
end

