-- ==== Sys2Proof/Machine/Types.lean ====
section
/-! DEFINITION. The pieces of state that are not registers, each as the type that says what it is, and each one's value
after reset. -/

namespace Sys2Proof.Machine

/-! ### Events and errors (17) -/

/-- One arrival in the journal's event FIFO (R388, R879). -/
structure EvEntry where
  event : Nat
  stop  : Nat
  phase : Nat
  beat  : Nat
  data  : Nat
  deriving DecidableEq, Repr

/-- The weir's journal count of one held event (R878, R880): a 48-bit count and the beats of its first and last arrival. -/
structure HeldEvent where
  event : Nat
  count : Nat
  first : Nat
  last  : Nat
  deriving DecidableEq, Repr

/-- An entry of error capture: its four words (R883). -/
structure ErrEntry where
  info  : Word
  addr  : Word
  beat  : Word
  phase : Word
  deriving DecidableEq, Repr

/-! ### Deckle settings and jobs (02, 05) -/

/-- The settings of a deckle that admission checks against and its vats run under (R75, R157 to R161, R225, R226). -/
structure DSet where
  symPolicy : Word
  macLen    : Word
  pkePolicy : Word
  pkeAlgEn  : Word
  dectab    : List (Word × Word)
  tokprof   : List Word
  deriving DecidableEq, Repr

/-- How a job travelled: the rest of a frame's return address (R252, R257, R776). -/
structure FrameRef where
  seq  : Nat
  net  : NetMeta
  /-- Number of the request frame since start: responses are built per request frame. -/
  req  : Nat
  deriving DecidableEq, Repr

/-- Where a job stands between receipt and release. -/
inductive Stage where
  /-- In its deckle's symmetric or public-key queue. -/
  | waiting
  /-- Placed at a close on a vat, for the edge given (R71). -/
  | placed (v : Nat) (edge : Nat)
  /-- Admitted on a vat at the edge given (R68). -/
  | admitted (v : Nat) (edge : Nat)
  /-- Never to be placed: answered at the edge in `due` (MALFORMED, BUSY, CANCELLED, ABORTED). -/
  | answered
  /-- A host-only verb, settings command or warden command, acting outside the reams. -/
  | command
  deriving DecidableEq, Repr

/-- One job: a descriptor with its input, from receipt to release. -/
structure Job where
  id       : Nat
  src      : Source
  deckle   : Nat
  desc     : Bytes
  input    : Bytes
  frame    : Option FrameRef
  /-- Felt time, and the BEAT_COUNT, of receipt. -/
  recvAt   : Nat
  recvBeat : Nat
  /-- The first edge it is eligible for (R67). -/
  eligible : Nat
  stage    : Stage
  /-- Effective tariff, without surcharge, and the surcharge (R76 to R80). -/
  tariff   : Nat
  surcharge : Nat
  /-- The edge at which it is to be released, once fixed. -/
  due      : Option Nat
  /-- The settings in force at its admission edge. -/
  set      : DSet
  /-- The outcome: whether it is known, its class and reason (R244, R250), RESULT and output. -/
  ready    : Bool
  cls      : Nat
  reason   : Nat
  result   : Bytes
  output   : Bytes
  /-- The keys used, with the generation of each (R318), and the counter after the use (R369). -/
  keyA     : Nat × Nat
  keyB     : Nat × Nat
  counter  : Nat
  newHandle : Nat
  detail   : Bytes
  /-- Its journal record is committed (R86). -/
  committed : Bool
  /-- Marked by CANCEL after admission (R263). -/
  marked   : Bool
  /-- Its ABORT came after admission; the vat it ran on, for the journal and diagnostics. -/
  vat      : Option Nat
  admitEdge : Nat
  /-- Its read set: not made, made, checked and right, failed (R410, R408). -/
  readSet  : Nat
  /-- Blocks of its read set still to come. -/
  reads    : List Nat
  /-- A felt tag mismatch lost one of its transfers (R23). -/
  feltLost : Bool
  /-- Lines of its journal reservation not yet used (R383). -/
  lines    : Nat
  deriving DecidableEq, Repr

/-- A DRAIN, pending or complete, that closes its scope (R275). -/
structure Drain where
  job     : Nat
  deckle  : Nat
  /-- An ordinary queue, or none for the whole deckle. -/
  queue   : Option Nat
  flush   : Bool
  /-- The first edge after its receipt, and its LIMIT. -/
  since   : Nat
  limit   : Nat
  done    : Bool
  flushed : Nat
  ended   : Nat
  deriving DecidableEq, Repr

/-- An ABORT under way (R267 to R270). -/
structure Abort where
  job     : Nat
  deckle  : Nat
  e0      : Nat
  vats    : List Nat
  targets : Nat
  collateral : Nat
  /-- The jobs it ends, each with its reason. -/
  ends    : List (Nat × Nat)
  /-- The DRAIN that reached its limit, when the abort is that DRAIN's. -/
  drain   : Option Nat
  deriving DecidableEq, Repr

/-- A settings command that applies at an edge (R283). -/
structure Settings where
  edge   : Nat
  deckle : Nat
  pke    : Bool
  groups : Nat
  block  : Bytes
  deriving DecidableEq, Repr

/-! ### Spring and DRBG instances (11) -/

/-- One noise cell. -/
structure NoiseCell where
  inService : Bool
  fails     : Nat
  excluded  : Bool
  /-- Its start-up test runs (R571). -/
  testing   : Bool
  /-- Felt time at which it left service, for its next start-up test. -/
  leftAt    : Nat
  deriving DecidableEq, Repr

/-- The DRBG unit of a vat: its two instances, output queue and seed slots (R574 to R586). -/
structure DrbgUnit where
  vatInst  : Option Drbg
  queue    : Bytes
  lane     : Option Drbg
  seeds    : List Bytes
  /-- The edge since which a periodic reseed waits for a seed. -/
  vatWait  : Option Nat
  laneWait : Option Nat
  deriving DecidableEq, Repr

/-- The spring, beside its registers. -/
structure SpringState where
  cells    : List NoiseCell
  /-- The seed store, oldest first (R568). -/
  store    : List Bytes
  device   : Option Drbg
  devQueue : Bytes
  /-- Vat last topped up in full (R574). -/
  lastVat  : Nat
  /-- Seeds of the test pattern so far (R593). -/
  pattern  : Nat
  rawFifo  : List Word
  units    : List DrbgUnit
  /-- Edge of the device DRBG's last reseed (R581), and felt time of a commanded reseed that waits for a seed (R583). -/
  devEdge  : Nat
  cmdAt    : Option Nat
  /-- Lanes to be instantiated again at the next edge (R601). -/
  reinst   : List Nat
  /-- The store held 256 seeds or more at the last edge. -/
  wasHigh  : Bool
  /-- RAW mode ended and SPRING_OUT waits for the reseed from a new seed (R592). -/
  outHeld  : Bool
  deriving DecidableEq, Repr

/-! ### The public-key engine (04) -/

/-- The PKE of a vat, beside its registers and its operand memory: the job it holds from its start to its done edge. -/
structure PkeUnit where
  job    : Option Nat
  /-- Its result is known: class and reason, RESULT, output and rejection rounds; it leaves the engine at the done edge. -/
  done   : Bool
  vd     : Nat × Nat
  result : Bytes
  output : Bytes
  rounds : Nat
  /-- Its work has ended, and the secret wipe read back (R217). -/
  ended  : Bool
  /-- A fault check, pairwise test or wipe that failed: the reason. -/
  bad    : Option Nat
  deriving DecidableEq, Repr

/-! ### Keys and the vault (06, 07) -/

/-- A key table record or terminal context (R300, R306): its fields, with the key material and sections in clear
(notes/assumptions/6.md). -/
structure KeyRec where
  deckle  : Nat
  handle  : Nat
  gen     : Nat
  salt    : Nat
  /-- STATE: 0 EMPTY, 1 ACTIVE, 2 PENDING, 3 RETIRED, 4 CONFLICT (R301). -/
  state   : Nat
  ktype   : Nat
  usage   : Nat
  mode    : Nat
  expo    : Nat
  kvn     : Nat
  extIdx  : Nat
  kcv     : Bytes
  counter : Nat
  created : Nat
  key     : Bytes
  pub     : Bytes
  /-- Terminal contexts: initial key ID and last accepted counter. -/
  ikId    : Bytes
  lastCtr : Nat
  /-- The edge from which jobs see this generation (R316). -/
  since   : Nat
  /-- The HBM copy's tag is broken (R345). -/
  badTag  : Bool
  deriving DecidableEq, Repr

/-- Where a change to a record stands (R340, R355). -/
inductive ChangeStage where
  | admitted | prepared | committed | rolledBack
  deriving DecidableEq, Repr

/-- A change that a key verb makes, from its admission to its due edge (R334, R954). -/
structure KeyChange where
  job    : Nat
  deckle : Nat
  handle : Nat
  record : KeyRec
  /-- Admission edge and due edge. -/
  edge   : Nat
  due    : Nat
  sync   : Bool
  /-- Peers listed at admission, and those that acknowledged or refused. -/
  peers  : List Nat
  acks   : List Nat
  nacks  : List Nat
  stage  : ChangeStage
  deriving DecidableEq, Repr

/-- A prepare of another member (R356). -/
structure PeerPrepare where
  deckle : Nat
  origin : Nat
  record : KeyRec
  deriving DecidableEq, Repr

/-- A decision that the origin repeats until each peer acknowledges it (R357). -/
structure Decision where
  deckle : Nat
  handle : Nat
  gen    : Nat
  commit : Bool
  since  : Nat
  waiting : List Nat
  deriving DecidableEq, Repr

/-- A message to the other members, waiting for a slot (R813): its type in the order of R813, and what it carries. -/
structure Mail where
  /-- 3 acknowledgement, refusal, commit or abort; 4 prepare; 5 transport key; 6 counters; 7 apply; 8 generation list. -/
  order  : Nat
  /-- Of order 3: 0 acknowledge, 1 refuse, 2 commit, 3 abort; whether an acknowledgement is of a decision. -/
  what   : Nat
  origin : Nat
  /-- The member meant, 16 for all. -/
  dest   : Nat
  deckle : Nat
  handle : Nat
  gen    : Nat
  body   : Bytes
  deriving DecidableEq, Repr

/-- An entry of a vat's key window (R313). -/
structure WindowEntry where
  vat    : Nat
  handle : Nat
  gen    : Nat
  edge   : Nat
  deriving DecidableEq, Repr

/-- A token vault entry (R139, R397): CREATED and CHANGED as R397 lays them out. -/
structure VaultEntry where
  deckle : Nat
  handle : Nat
  token  : List Nat
  domain : Nat
  /-- 1 active, 2 suspended. -/
  state  : Nat
  created : Nat
  changed : Nat
  /-- The edge from which jobs see it, and the vat and edge whose ream sees it at once (R948). -/
  since  : Nat
  ream   : Nat × Nat
  deriving DecidableEq, Repr

/-- A counter value written by a job of a ream, visible to that ream at once and to others from an edge (R948). -/
structure CounterWrite where
  deckle : Nat
  handle : Nat
  value  : Nat
  since  : Nat
  ream   : Nat × Nat
  deriving DecidableEq, Repr

/-- Key custody, beside its registers. -/
structure KeysState where
  /-- Working copies in HBM, every generation still visible to some job, latest first (R316). -/
  recs    : List KeyRec
  /-- The durable slots A and B (R340, R341). -/
  slotA   : List KeyRec
  slotB   : List KeyRec
  changes : List KeyChange
  prepares : List PeerPrepare
  decisions : List Decision
  window  : List WindowEntry
  /-- Invalidations on their way to vats: vat, handle, generation (R315). -/
  invals  : List (Nat × Nat × Nat)
  vault   : List VaultEntry
  ctrs    : List CounterWrite
  /-- DRK and the DMK of each deckle, in clear inside the key ladder (R292). -/
  drk     : Option Bytes
  dmk     : List (Nat × Bytes)
  /-- Pond transport keys by deckle (R815). -/
  transport : List (Nat × Nat × Bytes)
  /-- Messages waiting for this member's slot. -/
  mail    : List Mail
  deriving DecidableEq, Repr

/-! ### Deep store (06) -/

/-- One copy of a deep-store record: its bytes, header included, at a deep-store offset (R347, R348). -/
structure DeepCopy where
  off   : Nat
  image : Bytes
  deriving DecidableEq, Repr

/-- The deep store: record copies and the commit area (R349). -/
structure DeepStore where
  copies  : List DeepCopy
  commits : List (Nat × Nat)
  deriving DecidableEq, Repr

/-! ### Journal and reservoir (07) -/

/-- A record waiting to be committed: everything but its SEQ and BEAT (R387). -/
structure PendRec where
  /-- 0 ABORT and the jobs it ends, 1 device chain, 2 handed over by a vat, 3 every other (R386, R387). -/
  rank   : Nat
  vat    : Nat
  chain  : Nat
  kind   : Nat
  flags  : Nat
  /-- Bytes from 0x20 on: the part in clear and the part to be sealed. -/
  clear  : Bytes
  sealed : Bytes
  /-- The job whose record it is, and whose reservation it uses (R383). -/
  job    : Option Nat
  /-- The record or vault entry that it carries, for write-back and recovery (R342, R391, R417). -/
  key    : Option KeyRec
  entry  : Option VaultEntry
  /-- The digests or seeds of the replay line, in clear; empty when it has none (R749, R751). -/
  replay : Bytes
  deriving DecidableEq, Repr

/-- A journal block, closed and not yet released (R389 to R391). -/
structure JBlock where
  jbn     : Nat
  image   : Bytes
  /-- Lines of records. -/
  lines   : Nat
  /-- Its NVMe write has been issued, and has completed. -/
  written : Bool
  durable : Bool
  lastBeat : Nat
  /-- Records of its KEY_COMMIT records, and entries of its VAULT_CHANGE records. -/
  keys    : List KeyRec
  entries : List VaultEntry
  deriving DecidableEq, Repr

/-- A chain (R366). -/
structure Chain where
  present  : Bool
  head     : Bytes
  /-- Records of the current beat, in SEQ order. -/
  beatRecs : List Bytes
  /-- Records of the open block, oldest first, with the beat, boot epoch and SEQ of the first and the beat of the last. -/
  openRecs : List Bytes
  openBeat : Nat
  openEpoch : Nat
  openSeq  : Nat
  lastBeat : Nat
  openKeys : List KeyRec
  openEntries : List VaultEntry
  /-- Blocks closed and not released, lowest number first. -/
  blocks   : List JBlock
  /-- Seal epoch number, its key, its first SEQ and beat, and the key of an epoch whose record is queued (R373). -/
  epoch    : Nat
  sealKey  : Bytes
  sealSeq  : Nat
  sealBeat : Nat
  nextKey  : Option Bytes
  /-- The ring is full and the chain does not drain (R392). -/
  stalled  : Bool
  deriving DecidableEq, Repr

/-- A REJECT summary in the making (R371): deckle, source as R369 numbers it, class, reason, count, tags, edge. -/
structure Reject where
  deckle : Nat
  srcKind : Nat
  source : Nat
  cls    : Nat
  reason : Nat
  count  : Nat
  first  : Nat
  last   : Nat
  edge   : Nat
  deriving DecidableEq, Repr

/-- The journal engine and the reservoir, beside their registers. -/
structure JournalState where
  chains  : List Chain
  queue   : List PendRec
  /-- Ed25519 seed of the journal signing key (R379). -/
  signKey : Option Bytes
  /-- Root log entries, latest first: number, durability and bytes. -/
  rootlog : List (Nat × Bool × Bytes)
  /-- Next root log block to be written. -/
  rootBlk : Nat
  /-- REJECT summaries of the answers at coming edges (R371). -/
  rejects : List Reject
  /-- The fill was at or above half of capacity at the last edge (event 256). -/
  halfFull : Bool
  /-- Reservoir blocks written: block number, version, contents in clear (R406). -/
  blocks  : List (Nat × Nat × Bytes)
  /-- Nodes of the reservoir tree that differ from those of an empty reservoir: level, index, node (R405). -/
  nodes   : List (Nat × Nat × Bytes)
  /-- Vault buckets changed since their last write, oldest first: deckle and bucket (R413). -/
  dirty   : List (Nat × Nat)
  /-- Next block of each deckle's counter checkpoint, and sweeps begun. -/
  sweepPos : List Nat
  /-- Beat at which the current full cycle of the counter sweep of each deckle began (R391). -/
  sweepBeat : List Nat
  /-- What the counter checkpoints in the reservoir hold (R413): deckle, handle and value. -/
  saved   : List (Nat × Nat × Nat)
  /-- NVMe writes not yet durable wait for a Flush at the next edge (R403). -/
  unflushed : Bool
  /-- A tree root commit still runs (event 266). -/
  treeBusy : Bool
  deriving DecidableEq, Repr

/-! ### Mould (08) -/

/-- A mould: the device part and the deckle parts, each with its deckle number. -/
structure MouldSet where
  device : Bytes
  parts  : List (Nat × Bytes)
  deriving DecidableEq, Repr

/-- The mould in force and what is staged (R453). -/
structure MouldState where
  /-- The mould committed in record 0x0200, and the mould in force: what admission and the blocks loaded. -/
  committed : Option MouldSet
  inForce   : Option MouldSet
  /-- Verified images, full or of a deckle. -/
  stagedFull : Option Bytes
  staged    : List (Nat × Bytes)
  /-- MOULD_LOADs whose checks run: job, target (16 for a full image), the reason they end with (0 for none) and the image. -/
  loads     : List (Nat × Nat × Nat × Bytes)
  /-- The commit that is applying: its job, and deckle (none for full), and the MOULD_COMMIT jobs received. -/
  commit    : Option (Nat × Option Nat)
  /-- Deckles whose privileged queue a commit's receipt closed (R458). -/
  closed    : List Nat
  /-- The settings admission holds for each deckle. -/
  sets      : List DSet
  deriving DecidableEq, Repr

/-! ### Tamper and power (12, 13) -/

/-- The tamper monitors, beside their registers. The battery domain holds all of it. -/
structure TamperState where
  /-- Felt times of each source's excursions within its window, latest first (R612). -/
  times   : List (List Nat)
  /-- Consecutive asserted samples of each source on battery (R613). -/
  samples : List Nat
  /-- Felt time of the last excursion counted of a monitor that stays asserted (R611). -/
  heldAt  : List (Option Nat)
  /-- Level of the response in progress, 0 for none (R623). -/
  resp    : Nat
  /-- Burns that the charge store still holds (R630). -/
  charge  : Nat
  /-- The alive pattern is present (R626). -/
  alive   : Bool
  /-- The battery domain runs from VBAT alone. -/
  onBat   : Bool
  /-- Felt time at which the real-time clock started (R626). -/
  rtcAt   : Nat
  /-- The lifecycle state is not blank (R618). -/
  armed   : Bool
  /-- A response found the counter full: the lifecycle moves to scrapped (R631). -/
  scrap   : Bool
  deriving DecidableEq, Repr

/-- Power, reset and start, beside their registers (13). -/
structure PowerState where
  /-- A device reset is in progress; felt time at which its last source ended (R666). -/
  inReset  : Bool
  endAt    : Nat
  /-- Held after a start failure, a power failure or a shutdown (R688, R689, R697). -/
  held     : Bool
  /-- The start after the reset has run up to its first admission (R680). -/
  started  : Bool
  /-- VIN_CORE is good (R650). -/
  good     : Bool
  /-- Failed attempts of each item of the start, and the items in their pause with the felt time of the failure (R684, R685). -/
  fails    : List (StartItem × Nat)
  pauses   : List (StartItem × Nat)
  /-- PLLs locked and HBM stacks trained. -/
  plls     : Nat
  hbm      : Nat
  /-- Self-test: 0 not called for, 1 called for, 2 ended. -/
  selfTest : Nat
  /-- Vats that passed the last self-test. -/
  passMask : Nat
  /-- Felt times of the last fall and rise of PWRFAIL_N, while they matter (R689, R694). -/
  fallAt   : Option Nat
  riseAt   : Option Nat
  /-- The power-fail drain has completed. -/
  drained  : Bool
  /-- Consecutive hot samples of each vat, and felt time since which a thermally parked vat has been cool (R660). -/
  hot      : List Nat
  cool     : List (Option Nat)
  /-- Felt time since which every sensor has been cool during a thermal stop (R661). -/
  stopCool : Option Nat
  /-- Consecutive power samples over the limit, and how far the cap is lowered; felt time since which power has been below (R664). -/
  overs    : Nat
  lowered  : Nat
  underAt  : Option Nat
  /-- Vats that the PMU has decided to unpark and that come up (R662). -/
  coming   : List Nat
  /-- The SHUTDOWN that proceeds, with whether its self-test is asked for (R697). -/
  shut     : Option (Nat × Bool)
  /-- Regulators are read this often without an answer (R657). -/
  pmbFails : Nat
  /-- EPOCH and MOULD_GEN of the certificate found valid at the last cold reset (R679). -/
  certSeen : Option (Nat × Nat)
  deriving DecidableEq, Repr

/-! ### Links (15) -/

/-- What an NVMe command does. -/
inductive NvmeKind where
  | read | write | flush
  deriving DecidableEq, Repr

/-- An NVMe command issued and not complete (R791, R793): its port, what it does, its LBA, reservoir block and data, the felt times of
its issue and of its Abort. -/
structure NvmeCmd where
  port    : Nat
  kind    : NvmeKind
  lba     : Nat
  rbn     : Nat
  data    : Bytes
  issued  : Nat
  aborted : Option Nat
  deriving DecidableEq, Repr

/-- The links, beside their registers. -/
structure LinkState where
  /-- NVMe commands at work, oldest first. -/
  nvme      : List NvmeCmd
  /-- Ports whose controller is being reset, with the felt time of the reset. -/
  nvmeReset : List (Nat × Nat)
  /-- Console FIFOs, oldest byte first (R790): what waits for TX_EN, what has been received; the felt time at which the bytes being
  transmitted will all have left. -/
  uartTx    : Bytes
  uartUntil : Nat
  uartRx    : Bytes
  /-- Poisoned HBM lines: stack and line number (R798). -/
  poison    : List (Nat × Nat)
  /-- Consecutive slot frames of each member discarded, and accepted since its removal (R811). -/
  late      : List Nat
  good      : List Nat
  /-- Felt time at which the first Uloon link came up while the generator waits for BEAT messages (R807). -/
  leadWait  : Option Nat
  /-- Link keys by Uloon link (R805). -/
  linkKeys  : List (Nat × Bytes)
  /-- Messages to be relayed: the link each came in on, its type and its bytes (R814). -/
  relay     : List (Nat × Nat × Bytes)
  /-- Sequence number of the next message (R813). -/
  msgSeq    : Nat
  /-- The member at the other end of each link, and the messages already received: ORIGIN and sequence number. -/
  peers     : List (Nat × Nat)
  seen      : List (Nat × Nat)
  /-- Links on which messages of the leader come in (R808). -/
  leadPaths : List Nat
  /-- BEAT_CTRL.START was written while a pond leader waits for BEAT messages (R807). -/
  startWanted : Bool
  /-- Felt tag: the digest from which this start's hash and pad keys derive (R633), and the last sequence number each target has
  accepted from each sender (R634). -/
  feltKey   : Bytes
  feltSeq   : List ((Nat × Nat) × Nat)
  deriving DecidableEq, Repr

/-! ### AX32 cores (09, 10, 14) -/

/-- A store in a core's store buffer (R505, R514): its local and fabric address, size, data, level and the PC of its instruction. -/
structure StoreEntry where
  addr  : Word
  fab   : Nat
  size  : Size
  data  : Word
  priv  : Bool
  deriving DecidableEq, Repr

/-- An aperture load whose data has not returned: its destination, size, sign extension, addresses and level (R492). -/
structure OutLoad where
  gd     : Gpr
  size   : Size
  signed : Bool
  addr   : Word
  fab    : Nat
  priv   : Bool
  deriving DecidableEq, Repr

/-- What waits at issue until older accesses have completed (R516 to R518). -/
inductive Waiting where
  | fence
  | fencei
  /-- Destination, address, the word to be stored, and whether a source was key-tainted. -/
  | swap (gd : Gpr) (addr data : Word) (taint : Bool)
  /-- The same, with the word compared with. -/
  | cas (gd : Gpr) (addr data cmp : Word) (taint : Bool)
  deriving DecidableEq, Repr

/-- A refused store that awaits its report at the next boundary (R535): vector, sub-cause, address, stores discarded behind it. -/
structure StoreReport where
  vector : Nat
  sub    : Nat
  addr   : Word
  lost   : Nat
  deriving DecidableEq, Repr

/-- One AX32 core; a warden pair is one core in lockstep (R18). Instructions take effect in program order, each when it completes. -/
structure CoreState where
  /-- Held in reset; the felt time at which its last reset ended. -/
  inReset : Bool
  since   : Nat
  pc      : Word
  /-- g0 to g31; the entry of g0 is never read. -/
  gpr     : List Word
  /-- CORE_TAINT (R510). -/
  taint   : Word
  /-- A load has completed and its slot instruction comes next: destination, value and key taint (R492). -/
  slot    : Option (Gpr × Word × Bool)
  load    : Option OutLoad
  /-- The store buffer, oldest first. -/
  sb      : List StoreEntry
  wait    : Option Waiting
  report  : Option StoreReport
  /-- WFE has stopped issue; the core is locked up. -/
  wfe     : Bool
  locked  : Bool
  /-- System registers 0x004 to 0x009, with the two shadows of R497. -/
  retired : Nat
  cycleHi : Word
  retiredHi : Word
  spec    : Word
  squash  : Word
  /-- System registers 0x100 to 0x109 (R526). -/
  vbar    : Word
  xstatus : Word
  xcause  : Word
  xaddr   : Word
  xepc    : Word
  xsp     : Word
  xsplim  : Word
  xdepth  : Word
  xscratch : Word
  xbudget : Word
  /-- APER_BASE and APER_CTRL of each aperture (R34, R35). -/
  aper    : List (Word × Word)
  /-- Branch predictor: its 256 two-bit counters, and its return stack, latest first (R507). -/
  predictor : List Nat
  returns : List Word
  /-- Debug extension (R747), a halt request and a single step under way. -/
  dbgCtrl : Word
  dbgStatus : Word
  bkpt    : List Word
  haltReq : Bool
  stepping : Bool
  /-- XBUDGET has reached zero at user level, and vector 11 is to be entered at the next boundary (R543). -/
  budgetDue : Bool
  deriving DecidableEq, Repr

/-- Apertures after a core's reset (R36, R37). -/
def aperReset (warden : Bool) : List (Word × Word) :=
  if warden then [(0, 1), (1, 1), (2, 1), (0x10, 1)] ++ List.replicate 12 (0, 0) else List.replicate 8 (0, 0)

/-- A core after its reset (R478), still held in reset or not. -/
def CoreState.reset (warden held : Bool) (since : Nat) : CoreState where
  inReset := held
  since := since
  pc := 0
  gpr := List.replicate 32 0
  taint := 0
  slot := none
  load := none
  sb := []
  wait := none
  report := none
  wfe := false
  locked := false
  retired := 0
  cycleHi := 0
  retiredHi := 0
  spec := 6
  squash := 0
  vbar := 0
  xstatus := 1
  xcause := 0
  xaddr := 0
  xepc := 0
  xsp := 0
  xsplim := 0
  xdepth := 0
  xscratch := 0
  xbudget := 0
  aper := aperReset warden
  predictor := List.replicate 256 0
  returns := []
  dbgCtrl := 0
  dbgStatus := 0
  bkpt := [0, 0, 0, 0]
  haltReq := false
  stepping := false
  budgetDue := false

/-! ### Identity, lifecycle, test port and replay (14) -/

/-- A replay run on a quarantined vat (R758): its job, vat, the felt first edge, last release edge, and the comparison it will release. -/
structure ReplayRun where
  job   : Nat
  vat   : Nat
  r0    : Nat
  last  : Nat
  result : Bytes
  output : Bytes
  /-- Compared jobs without a match. -/
  misses : Nat
  /-- Verb area fields and counts for its REPLAY_RUN record. -/
  facts  : Bytes
  deriving DecidableEq, Repr

/-- A lifecycle operation with a cold reset under way (R735): the job to be answered, none from the test port; the operation and its
token or input; its changes are made. -/
structure LifeMove where
  job   : Option Nat
  op    : Nat
  input : Bytes
  done  : Bool
  deriving DecidableEq, Repr

/-- An SPDM conversation on a binding (R724): how far it has been negotiated (1 version, 2 capabilities, 3 algorithms), whether
OpaqueDataFmt1 was selected, and the messages that its signatures cover: up to the algorithms, of certificates, of measurements. -/
structure SpdmConv where
  step : Nat
  fmt1 : Bool
  vca  : Bytes
  cert : Bytes
  meas : Bytes
  deriving DecidableEq, Repr

/-- Identity, lifecycle and test port, beside their registers. -/
structure LifeState where
  /-- The challenge held: its nonce and expiry (R740). -/
  challenge : Option (Bytes × Nat)
  /-- Token buffer of the test port, its words in order; the challenge word that the next read returns; the word and the result that
  Capture-DR shows (R744). -/
  token     : List Word
  readIdx   : Nat
  word      : Word
  tapDone   : Bool
  tapCause  : Nat
  /-- Test port instruction, and the core that DBG_SEL names (R743). -/
  tapIr     : Nat
  dbgSel    : Nat
  /-- Result of the last DBG_DATA command: data and code; the debug load address (R745, R746). -/
  dbgData   : Word
  dbgCode   : Nat
  dbgAddr   : Word
  /-- CDI of this start (R715); the alias certificate (R718). -/
  cdi       : Option Bytes
  aliasCert : Bytes
  /-- SPDM conversations over SMBus and PCIe VDM. -/
  spdm      : SpdmConv × SpdmConv
  /-- The lifecycle operation under way (R735). -/
  moving    : Option LifeMove
  /-- Boundary scan register, cell 0 in bit 0 (R945). -/
  boundary  : Nat
  /-- Replay runs in progress, and the vats to be quarantined with the job that asked for it (R753, R758). -/
  runs      : List ReplayRun
  quarantine : List (Nat × Nat)
  deriving DecidableEq, Repr

/-- No conversation. -/
def SpdmConv.reset : SpdmConv := ⟨0, false, [], [], []⟩

/-- Identity, lifecycle and test port after reset. -/
def LifeState.reset : LifeState where
  challenge := none
  token := []
  readIdx := 0
  word := 0
  tapDone := false
  tapCause := 0
  tapIr := 0xFF
  dbgSel := 0
  dbgData := 0
  dbgCode := 0
  dbgAddr := 0
  cdi := none
  aliasCert := []
  spdm := (SpdmConv.reset, SpdmConv.reset)
  moving := none
  boundary := 0
  runs := []
  quarantine := []

/-! ### Card interfaces and the quorum (16) -/

/-- What a slot waits for from the card beyond the STATE of CARD_STATUS. -/
inductive CardStep where
  | idle
  /-- The answer to reset (R829). -/
  | atr
  /-- The echo of a PPS request (R832). -/
  | pps
  /-- The answer to S(IFS request) (R833). -/
  | ifs
  /-- An exchange under T=0 or T=1 (R834, R835). -/
  | exchange
  /-- The answer to S(RESYNCH request) (R836). -/
  | resynch
  deriving DecidableEq, Repr

/-- A contact slot, beside its registers. -/
structure CardSlot where
  step    : CardStep
  /-- Class in use, 0 C and 1 B, and the class of the next activation; a warm reset was made in this class; PPS is not to be tried. -/
  cls     : Nat
  next    : Nat
  warm    : Bool
  noPps   : Bool
  /-- Felt time of a deactivation after which the slot activates again (R830). -/
  retryAt : Option Nat
  /-- Clock stop indicator of the ATR: 0 none, 1 low, 2 high, 3 no preference (R838). -/
  clkStop : Nat
  /-- CARDs_CLK is stopped. -/
  clkOff  : Bool
  /-- Command APDU, and how much of it the card has taken; response so far; last block or characters sent. -/
  tx      : Bytes
  sent    : Nat
  rx      : Bytes
  last    : Bytes
  /-- T=1: next N(S), next N(R), the length in the I-block under way; consecutive errors and resynchs; extension of the next wait. -/
  ns      : Nat
  nr      : Nat
  part    : Nat
  tries   : Nat
  resyncs : Nat
  wtx     : Nat
  /-- Felt times of SEND and of the insertion of the card. -/
  startAt : Nat
  inserted : Nat
  deriving DecidableEq, Repr

/-- A slot with nothing going on. -/
def CardSlot.idle : CardSlot where
  step := .idle
  cls := 0
  next := 0
  warm := false
  noPps := false
  retryAt := none
  clkStop := 0
  clkOff := false
  tx := []
  sent := 0
  rx := []
  last := []
  ns := 0
  nr := 0
  part := 0
  tries := 0
  resyncs := 0
  wtx := 1
  startAt := 0
  inserted := 0

/-- What the reader waits for from the card. -/
inductive ClessStep where
  | idle | ats | pps | exchange | deselect
  deriving DecidableEq, Repr

/-- The contactless reader, beside its registers. -/
structure ClessState where
  step    : ClessStep
  /-- Amplitudes of the last 16 pings that found no card, latest first. -/
  pings   : List Nat
  /-- Consecutive polls in which no card answered; felt time at which the field went off. -/
  empty   : Nat
  offAt   : Nat
  /-- Cards that a poll resolved and that are still to be handled: UID and SAK. -/
  queue   : List (Bytes × Nat)
  /-- The card in hand: its UID, and the felt time at which it was detected; whether it was in the list then. -/
  uid     : Bytes
  seenAt  : Nat
  known   : Bool
  /-- The list of UIDs, each with the felt time it was last seen. -/
  list    : List (Bytes × Nat)
  /-- Largest frame the card takes; block number; command, how much of it is sent, response, last frame, consecutive failures, WTX. -/
  fsc     : Nat
  blk     : Nat
  tx      : Bytes
  sent    : Nat
  part    : Nat
  rx      : Bytes
  last    : Bytes
  tries   : Nat
  wtx     : Nat
  startAt : Nat
  deriving DecidableEq, Repr

/-- The reader after reset. -/
def ClessState.reset : ClessState where
  step := .idle
  pings := []
  empty := 0
  offAt := 0
  queue := []
  uid := []
  seenAt := 0
  known := false
  list := []
  fsc := 256
  blk := 0
  tx := []
  sent := 0
  part := 0
  rx := []
  last := []
  tries := 0
  wtx := 1
  startAt := 0

/-- A quorum session (R857 to R859): its QUORUM_OPEN, groups, felt times of its opening and of its timeout. -/
structure Session where
  job    : Nat
  groups : Nat
  opened : Nat
  ends   : Nat
  deriving DecidableEq, Repr

/-- Slots, reader and quorum, beside their registers. -/
structure CardState where
  slots   : List CardSlot
  cless   : ClessState
  session : Option Session
  /-- Felt time of the last grant. -/
  granted : Nat
  deriving DecidableEq, Repr

/-- Card interfaces after reset. -/
def CardState.reset : CardState := ⟨List.replicate 2 CardSlot.idle, ClessState.reset, none, 0⟩

/-! ### Outputs -/

/-- Where an output leaves the device. -/
inductive OutPort where
  | completionRing (f q : Nat)   -- a 32-byte completion written by PCIe (R233)
  | diagnosticRing (f : Nat)     -- a 32-byte diagnostic entry (R246)
  | hostData (f q off : Nat)     -- output copied into the data window (R102)
  | msix (f vector : Nat)        -- an MSI-X message (R783)
  | hostFetch (f q entry : Nat)  -- the read of a descriptor (R234)
  | network (port : Nat)                           -- an Ethernet frame, before MACsec (R776)
  | reservoir (port lba : Nat)   -- an NVMe write of a block (R402)
  | reservoirRead (port lba : Nat)
  | nvme (port : Nat)            -- any other NVMe command
  | uloon (link : Nat)
  | mctp (bus : Nat)
  | console
  | card (slot : Nat)
  | antenna
  | testPort
  | pmbus
  deriving DecidableEq, Repr

/-- One thing the device sent out: where, at which BEAT_COUNT, and its bytes. -/
structure Output where
  port  : OutPort
  edge  : Nat
  data  : Bytes
  deriving DecidableEq, Repr

/-! ### Event controller, beat -/

/-- The event controller and error capture, beside their registers (17). -/
structure EvState where
  fifo      : List EvEntry
  held      : List HeldEvent
  /-- Trace entries are being discarded since the last one written (R889). -/
  traceDrop : Bool
  /-- Error queue: source and entry, head first (R885). -/
  errQ      : List (Nat × ErrEntry)
  /-- Felt time at which each pair's watchdog last started, none while it stands still (R892, R893). -/
  wdogP     : Option Nat
  wdogS     : Option Nat
  /-- The warning of each pair's watchdog has been given since then. -/
  warned    : Bool × Bool
  deriving DecidableEq, Repr

/-- The response frame in the making to one request frame, for one edge (R257). -/
structure Response where
  src   : Source
  frame : FrameRef
  edge  : Nat
  /-- Completions and outputs, in couch order. -/
  items : List (Bytes × Bytes)
  deriving DecidableEq, Repr

/-- Beat generator, admission and couch, beside their registers (02, 05). -/
structure BeatState where
  /-- Felt time of the last edge, and length of the current beat in felt cycles. -/
  edgeAt  : Nat
  period  : Nat
  /-- The ream for the next edge is closed (R67). -/
  closed  : Bool
  /-- What the close for the next edge found of the journal gate (R384). -/
  gate    : Bool
  /-- Jobs from receipt to release, oldest first, and the next receipt number. -/
  jobs    : List Job
  nextJob : Nat
  nextReq : Nat
  drains  : List Drain
  aborts  : List Abort
  settings : List Settings
  /-- Vats that ABORT took out of admission, with the edge at which they rejoin (R268, R270). -/
  blocked : List (Nat × Nat)
  /-- Vats to be parked, and vats that join admission, each with its edge (R662). -/
  parking : List (Nat × Nat)
  joining : List (Nat × Nat)
  /-- Vats powered, with firmware loaded, tests passed and instances up (R662). -/
  up      : List Nat
  /-- RESUME commands at work: job, deckle, queue, and the first edge at which the scope may reopen (R279). -/
  resumes : List (Nat × Nat × Option Nat × Nat)
  /-- Stop admission for good from the next edge (R20, R661, R694), and the cause of the warm reset that follows once no admitted job is
  left (R20, R892). -/
  stop    : Bool
  resetAfter : Option Nat
  /-- Felt time of the last accepted TIME_PPS edge (R802). -/
  ppsAt   : Option Nat
  /-- Wait limits in force (R288). -/
  waits   : List Nat
  /-- Host rings that write PHASE 0 at present: function and queue, 8 for the diagnostic ring (R238, R961). -/
  inverted : List (Nat × Nat)
  /-- Host rings whose every entry is written and not yet consumed, named in the same way (R234, R248). -/
  full : List (Nat × Nat)
  /-- Descriptors whose read has been issued and that have not been received: function and queue, oldest first (R234). -/
  inflight : List (Nat × Nat)
  /-- Response frames to be sent, oldest first. -/
  responses : List Response
  /-- Felt time of the last device reset (R683), and whether admission has opened since. -/
  resetAt : Nat
  deriving DecidableEq, Repr

/-! ### Pins -/

/-- The pins whose level the spec gives a rule for: those the device drives, each true while asserted, and those the board drives. -/
structure Pins where
  /-- FAULT_N, LOCKUP_N and PWROFF_N are driven low. -/
  fault  : Bool
  lockup : Bool
  pwroff : Bool
  /-- The device drives RESET_N low; the board does. -/
  resetDrv : Bool
  resetIn : Bool
  /-- EN_RAIL[5:0]; PG_RAIL[5:0]. -/
  enRail : Nat
  pgRail : Nat
  /-- PWRFAIL_N is low; VIN_CORE and VBAT are present. -/
  pwrfail : Bool
  vin    : Bool
  vbat   : Bool
  /-- PMB_ALERT_N is low. -/
  pmbAlert : Bool
  deriving DecidableEq, Repr

/-- Settings that no mould has loaded. -/
def DSet.none : DSet := ⟨0, 0, 0, 0, List.replicate 16 (0, 0), List.replicate 8 0⟩

/-- Pins at the power-on reset: VIN_CORE and VBAT present, nothing enabled yet. -/
def Pins.reset : Pins where
  fault := false
  lockup := false
  pwroff := false
  resetDrv := true
  resetIn := false
  enRail := 0
  pgRail := 0
  pwrfail := false
  vin := true
  vbat := true
  pmbAlert := false

/-- The event controller after reset. -/
def EvState.reset : EvState where
  fifo := []
  held := []
  traceDrop := false
  errQ := []
  wdogP := none
  wdogS := none
  warned := (false, false)

/-- Beat generator, admission and couch after reset. -/
def BeatState.reset : BeatState where
  edgeAt := 0
  period := 10000
  closed := false
  gate := false
  jobs := []
  nextJob := 0
  nextReq := 0
  drains := []
  aborts := []
  settings := []
  blocked := []
  parking := []
  joining := []
  up := []
  resumes := []
  stop := false
  resetAfter := none
  ppsAt := none
  waits := List.replicate 16 100
  inverted := []
  full := []
  inflight := []
  responses := []
  resetAt := 0

/-- A DRBG unit after reset: no instance, nothing queued, no seed (R595). -/
def DrbgUnit.reset : DrbgUnit := ⟨none, [], none, [], none, none⟩

/-- A PKE after reset. -/
def PkeUnit.idle : PkeUnit := ⟨none, false, (0, 0), [], [], 0, false, none⟩

/-- The spring after reset. -/
def SpringState.reset : SpringState where
  cells := List.replicate 128 ⟨false, 0, false, false, 0⟩
  store := []
  device := none
  devQueue := []
  lastVat := 63
  pattern := 0
  rawFifo := []
  units := List.replicate 64 DrbgUnit.reset
  devEdge := 0
  cmdAt := none
  reinst := []
  wasHigh := false
  outHeld := false

/-- Key custody on a device that has never been provisioned. -/
def KeysState.reset : KeysState where
  recs := []
  slotA := []
  slotB := []
  changes := []
  prepares := []
  decisions := []
  window := []
  invals := []
  vault := []
  ctrs := []
  drk := none
  dmk := []
  transport := []
  mail := []

/-- A chain that no mould has created. -/
def Chain.none : Chain where
  present := false
  head := zeros 48
  beatRecs := []
  openRecs := []
  openBeat := 0
  openEpoch := 0
  openSeq := 0
  lastBeat := 0
  openKeys := []
  openEntries := []
  blocks := []
  epoch := 0
  sealKey := zeros 32
  sealSeq := 0
  sealBeat := 0
  nextKey := Option.none
  stalled := false

/-- Journal engine and reservoir of a device that has never been provisioned. -/
def JournalState.reset : JournalState where
  chains := List.replicate 17 Chain.none
  queue := []
  signKey := none
  rootlog := []
  rootBlk := 0
  rejects := []
  halfFull := false
  blocks := []
  nodes := []
  dirty := []
  sweepPos := List.replicate 16 0
  sweepBeat := List.replicate 16 0
  saved := []
  unflushed := false
  treeBusy := false

/-- The tamper monitors of a device whose VBAT is applied, in the blank state. -/
def TamperState.reset : TamperState where
  times := List.replicate 8 []
  samples := List.replicate 8 0
  heldAt := List.replicate 8 none
  resp := 0
  charge := 2
  alive := true
  onBat := false
  rtcAt := 0
  armed := false
  scrap := false

/-- Power and reset at power-on reset. -/
def PowerState.reset : PowerState where
  inReset := true
  endAt := 0
  held := false
  started := false
  good := false
  fails := []
  pauses := []
  plls := 0
  hbm := 0
  selfTest := 0
  passMask := 0
  fallAt := none
  riseAt := none
  drained := false
  hot := List.replicate 64 0
  cool := List.replicate 64 none
  stopCool := none
  overs := 0
  lowered := 0
  underAt := none
  coming := []
  shut := none
  pmbFails := 0
  certSeen := none

/-- The links after reset. -/
def LinkState.reset : LinkState where
  nvme := []
  nvmeReset := []
  uartTx := []
  uartUntil := 0
  uartRx := []
  poison := []
  late := List.replicate 16 0
  good := List.replicate 16 0
  leadWait := none
  linkKeys := []
  relay := []
  msgSeq := 0
  peers := []
  seen := []
  leadPaths := []
  startWanted := false
  feltKey := []
  feltSeq := []

/-- No mould (R468). -/
def MouldState.reset : MouldState where
  committed := none
  inForce := none
  stagedFull := none
  staged := []
  loads := []
  commit := none
  closed := []
  sets := List.replicate 16 DSet.none

end Sys2Proof.Machine
end

