-- ==== Sys2Proof/Machine/State.lean ====
section
/-! DEFINITION. The state of the machine, its faults and refusals, and the state right after reset. Registers live in one
sparse register file, keyed by fabric address; what no register shows has a field of its own. -/

namespace Sys2Proof.Machine

/-- Why the machine stops. -/
inductive Fault where
  /-- Raised by nothing at present. Safe. -/
  | none
  deriving DecidableEq, Repr

/-- Why a command has no next state. -/
inductive Refusal where
  /-- Raised by exec's arm of a command that has no meaning yet. Safe. -/
  | notModelled (mnemonic : String)
  deriving DecidableEq, Repr

-- STATE-BEGIN
/-- The state of the NV6400. -/
structure State where
  /-- The commands that wait, first in, first out (the model's queue). -/
  pending : List Instr
  /-- Felt cycles of 1 ns (R43) since power-on. -/
  now     : Nat
  /-- The registers that differ from what they read after reset (R11), by fabric address. -/
  regs    : List (Nat × Word)
  /-- The high words latched for each felt sender, keyed by stop and address of the high word (R16). -/
  shadows : List (Nat × Word)
  /-- Memory by fabric address: boot ROM, warden SRAM and tarn, deep store window, vat windows, HBM (R25, R31). -/
  mem     : List Host.Cell
  /-- How many free values have been taken (the model's own counter). -/
  freeCtr : Nat
  /-- What the device has sent out, latest first. -/
  out     : List Output
  ev      : EvState
  bt      : BeatState
  spr     : SpringState
  pk      : List PkeUnit
  ks      : KeysState
  deep    : DeepStore
  jn      : JournalState
  md      : MouldState
  pins    : Pins
  lk      : LinkState
  tm      : TamperState
  pw      : PowerState
  /-- Cores 0 to 63 of the vats, 64 the primary and 65 the service warden pair. -/
  cores   : List CoreState
  lf      : LifeState
  cd      : CardState
  deriving DecidableEq, Repr

/-- The machine right after power-on reset (R650, R669). -/
def State.reset : State where
  pending := []
  now := 0
  regs := []
  shadows := []
  mem := []
  freeCtr := 0
  out := []
  ev := EvState.reset
  bt := BeatState.reset
  spr := SpringState.reset
  pk := List.replicate 64 PkeUnit.idle
  ks := KeysState.reset
  deep := ⟨[], []⟩
  jn := JournalState.reset
  md := MouldState.reset
  pins := Pins.reset
  lk := LinkState.reset
  tm := TamperState.reset
  pw := PowerState.reset
  cores := List.replicate 64 (CoreState.reset false true 0) ++ List.replicate 2 (CoreState.reset true true 0)
  lf := LifeState.reset
  cd := CardState.reset
-- STATE-END

end Sys2Proof.Machine
end

