-- ==== Sys2Proof/Machine/Ops.lean ====
section
/-! DEFINITION. The named operations over registers, memory, events, error capture and outputs, that every meaning uses. -/

namespace Sys2Proof.Machine

/-- A command that changes the state and does not stop. -/
abbrev Res := Host.Outcome State Fault Refusal

/-! ### Registers -/

/-- The register at address `k`. -/
def State.reg (s : State) (k : Nat) : Word := spGet regReset s.regs k

/-- The register at `k` given the value `v`. -/
def State.setReg (s : State) (k : Nat) (v : Word) : State := { s with regs := spSet regReset s.regs k v }

/-- Bit `i` of the register at `k`. -/
def State.regBit (s : State) (k i : Nat) : Bool := bit (s.reg k) i

/-- Field [hi:lo] of the register at `k`. -/
def State.regField (s : State) (k hi lo : Nat) : Nat := field (s.reg k) hi lo

/-- Field [hi:lo] of the register at `k` given the value `v`. -/
def State.setRegField (s : State) (k hi lo v : Nat) : State := s.setReg k (setField (s.reg k) hi lo v)

/-- Bit `i` of the register at `k` set or cleared. -/
def State.setRegBit (s : State) (k i : Nat) (b : Bool) : State := s.setReg k (setBit (s.reg k) i b)

/-- A counter register one higher, stopping at 0xFFFF_FFFF. -/
def State.bump (s : State) (k : Nat) : State := s.setReg k (satInc (s.reg k))

/-- A counter register `n` higher, stopping at 0xFFFF_FFFF. -/
def State.bumpBy (s : State) (k n : Nat) : State := s.setReg k (satAdd (s.reg k) n)

/-- The 64-bit register whose low word is at `k` (R16). -/
def State.reg64 (s : State) (k : Nat) : Nat := (s.reg k).toNat + 2 ^ 32 * (s.reg (k + 4)).toNat

/-- The 64-bit register whose low word is at `k`, given the value `v`. -/
def State.setReg64 (s : State) (k v : Nat) : State := (s.setReg k (w32 v)).setReg (k + 4) (w32 (v / 2 ^ 32))

/-- A 64-bit counter `n` higher. -/
def State.bump64 (s : State) (k n : Nat) : State := s.setReg64 k (s.reg64 k + n)

/-- Bit `v` of the 64-bit mask held in the words at `lo` and `lo + 4`. -/
def State.maskBit (s : State) (lo v : Nat) : Bool := s.regBit (lo + 4 * (v / 32)) (v % 32)

/-- Bit `v` of the mask at `lo` set to `b`. -/
def State.setMaskBit (s : State) (lo v : Nat) (b : Bool) : State := s.setRegBit (lo + 4 * (v / 32)) (v % 32) b

/-- The bytes of `n` words from `k`, lowest first. -/
def State.regBytes (s : State) (k : Nat) : Nat → Bytes
  | 0 => []
  | n + 1 => leBytes 4 (s.reg k).toNat ++ s.regBytes (k + 4) n

/-- The words from `k` given the bytes of `bs`, four to a word. -/
def State.setRegBytes (s : State) (k : Nat) (bs : Bytes) : State :=
  ((chunks 4 bs).zipIdx).foldl (fun s c => s.setReg (k + 4 * c.2) (w32 (leNat c.1))) s

/-- Several registers set, in order. -/
def State.setRegs (s : State) (l : List (Nat × Nat)) : State := l.foldl (fun s p => s.setReg p.1 (w32 p.2)) s

/-! ### Memory -/

/-- What a byte of memory that nothing has written reads as: zero (notes/assumptions/4.md). -/
def memReset (_ : Nat) : Byte := 0

/-- The byte at fabric address `a`. -/
def State.byte (s : State) (a : Nat) : Byte := spGet memReset s.mem a

/-- The byte at `a` given the value `v`. -/
def State.setByte (s : State) (a : Nat) (v : Byte) : State := { s with mem := spSet memReset s.mem a v }

/-- Memory in its canonical form. -/
def memWf (m : List Host.Cell) : Bool := spWf memReset m

/-- `n` bytes of memory from `a`. -/
def State.read (s : State) (a : Nat) : Nat → Bytes
  | 0 => []
  | n + 1 => s.byte a :: s.read (a + 1) n

/-- The bytes `bs` written from `a`. -/
def State.write (s : State) (a : Nat) : Bytes → State
  | [] => s
  | b :: bs => (s.setByte a b).write (a + 1) bs

/-- `n` bytes from `a` written with zero: every entry of that range goes. -/
def State.wipe (s : State) (a n : Nat) : State :=
  { s with mem := s.mem.filter fun c => decide (c.1 < a) || decide (a + n ≤ c.1) }

/-- A change to the identity, lifecycle, test port and replay state. -/
def State.mapLf (s : State) (f : LifeState → LifeState) : State := { s with lf := f s.lf }

/-! ### Free values and outputs -/

/-- The next `n` bytes of entropy (Config.freeByte). -/
def State.freeBytes (s : State) (n : Nat) : Bytes := (List.range n).map fun i => Config.freeByte (s.freeCtr + i)

/-- The state after `n` free values have been taken. -/
def State.tookFree (s : State) (n : Nat) : State := { s with freeCtr := s.freeCtr + n }

/-- BEAT_COUNT (R52). -/
def State.beat (s : State) : Nat := s.reg64 R.BEAT_COUNT_LO

/-- Felt cycles since the last edge. -/
def State.phase (s : State) : Nat := s.now - s.bt.edgeAt

/-- Outputs that a tamper response stops at once: completions, diagnostic entries, output, interrupts and frames (R619). -/
def OutPort.stops : OutPort → Bool
  | .completionRing _ _ => true
  | .diagnosticRing _ => true
  | .hostData _ _ _ => true
  | .msix _ _ => true
  | .network _ => true
  | _ => false

/-- The device sends `bs` at `p`. -/
def State.emit (s : State) (p : OutPort) (bs : Bytes) : State :=
  if (s.tm.resp ≠ 0 ∨ s.regBit R.PMU_STATUS 4) ∧ p.stops then s else { s with out := (⟨p, s.beat, bs⟩ : Output) :: s.out }

/-! ### The event controller and the weir (R870 to R880) -/

/-- The weir's count of one more arrival of event `n` while it is held (R878): 48 bits, beats of first and last arrival. -/
def heldAdd (l : List HeldEvent) (n beat : Nat) : List HeldEvent :=
  match l with
  | [] => [{ event := n, count := 1, first := beat, last := beat }]
  | h :: t =>
    if h.event = n then ({ h with count := min (2 ^ 48 - 1) (h.count + 1), last := beat } : HeldEvent) :: t
    else if n < h.event then ⟨n, 1, beat, beat⟩ :: h :: t
    else h :: heldAdd t n beat

/-- The journal's view of an arrival of event `n`: into the FIFO, or held by the weir (R878, R388). -/
def State.journalEvent (s : State) (n stop data : Nat) : State :=
  if s.regBit (R.EVT_JNL (n / 32)) (n % 32) then
    if s.regBit (R.EVT_JHELD (n / 32)) (n % 32) ∨ 1024 ≤ s.ev.fifo.length then
      let s := { s with ev := { s.ev with held := heldAdd s.ev.held n s.beat } }
      s.setRegBit (R.EVT_JHELD (n / 32)) (n % 32) true
    else
      let s := { s with ev := { s.ev with fifo := s.ev.fifo ++
        [(⟨n, stop, s.phase, s.beat, data⟩ : EvEntry)] } }
      let d := s.ev.fifo.length
      s.setReg R.JOURNAL_EVFIFO (w32 (d + 65536 * max d (s.regField R.JOURNAL_EVFIFO 26 16)))
  else s

/-- The pending bit of event `n` is set, or one more counted in its weir (R870, R875). -/
def State.pendEvent (s : State) (n : Nat) : State :=
  if s.regBit (R.EVT_PEND (n / 32)) (n % 32) then s.bump (R.EVT_WEIR n)
  else s.setRegBit (R.EVT_PEND (n / 32)) (n % 32) true

/-- An arrival of event `n` at the controller and in the journal; a source that the weir begins to hold raises event 261
(R426). -/
def State.arrive (s : State) (n stop data : Nat) : State :=
  let t := (s.pendEvent n).journalEvent n stop data
  if t.regBit (R.EVT_JHELD (n / 32)) (n % 32) ∧ ¬ s.regBit (R.EVT_JHELD (n / 32)) (n % 32) then
    (t.pendEvent 261).journalEvent 261 83 0
  else t

/-- One trace entry (R888): discarded and counted when it would fill the ring (R889). Answers whether event 487 is due. -/
def State.traceEntry (s : State) (n stop data : Nat) : State × Bool :=
  let size := (s.reg R.EVT_TRACE_SIZE).toNat
  let wr := (s.reg R.EVT_TRACE_WR).toNat
  if size = 0 then (s, false)
  else
    let wr' := (wr + 16) % size
    if wr' = (s.reg R.EVT_TRACE_RD).toNat then
      let was := s.ev.traceDrop
      let s := { s with ev := { s.ev with traceDrop := true } }
      (s.bump R.EVT_TRACE_LOST, !was)
    else
      let base := 0x10000000 + (s.reg R.EVT_TRACE_BASE).toNat + wr
      let e := leBytes 2 n ++ leBytes 1 stop ++ [0] ++ leBytes 4 s.beat ++ leBytes 4 s.phase ++ leBytes 4 data
      let s := { s with ev := { s.ev with traceDrop := false } }
      ((s.write base e).setReg R.EVT_TRACE_WR (w32 wr'), false)

/-- Event `n` enters the controller, the journal and the trace (R870 to R889). -/
def State.raiseOnly (s : State) (n : Nat) (stop : Nat := 83) (data : Nat := 0) : State :=
  let s := s.arrive n stop data
  if s.regBit (R.EVT_ROUTE n) 12 then
    let r := s.traceEntry n stop data
    if r.2 then r.1.arrive 487 83 0 else r.1
  else s

/-! ### Excursions and trips (R606 to R623, R628 to R631) -/

def State.mapTm (s : State) (f : TamperState → TamperState) : State := { s with tm := f s.tm }

/-- A response is in progress: nothing leaves the device and no core runs (R619). -/
def State.tripped (s : State) : Bool := s.tm.resp != 0

/-- Nothing is released any more: a response is in progress, or the power-fail sequence runs (R619, R694). -/
def State.quiet (s : State) : Bool := s.tripped || s.regBit R.PMU_STATUS 4

/-- RESET_RTC_SEC (R704). -/
def State.rtcSec (s : State) : Nat := (s.now - s.tm.rtcAt) / 1000000000

/-- Bit `i` is the first from `i` on that verifies; those skipped raise event 312 (R629). -/
def State.burnFrom (s : State) : Nat → Nat → State
  | 0, _ => s
  | f + 1, i =>
    if 256 ≤ i then s
    else if Config.evidenceBad i then (s.raiseOnly 312).burnFrom f (i + 1)
    else
      let s := ((s.setRegBit (R.TAMPER_EVID (i / 32)) (i % 32) true).setReg R.TAMPER_EVID_COUNT (w32 (i + 1))).raiseOnly 311
      if 240 ≤ i + 1 then s.raiseOnly 313 else s

/-- The next evidence bit is burned, or waits for charge (R628 to R630). -/
def State.burn (s : State) : State :=
  if s.tm.charge = 0 then s.setRegBit R.TAMPER_LATCH 28 true
  else
    let s := s.mapTm fun t => { t with charge := t.charge - 1 }
    (s.setRegBit R.TAMPER_LATCH 28 false).burnFrom 256 (s.reg R.TAMPER_EVID_COUNT).toNat

/-- The latch of a response at level `l` of source `m` (R622, R623). -/
def State.latch (s : State) (m l : Nat) : State :=
  let w := s.reg R.TAMPER_LATCH
  let s := if bit w 31 then s else s.setReg R.TAMPER_LATCH_TIME (w32 s.rtcSec)
  let trips := min 255 (field w 23 16 + 1)
  s.setReg R.TAMPER_LATCH (w32 (2 ^ 31 + field w 28 28 * 2 ^ 28 + trips * 65536 + m * 256 + max l (if bit w 31 then field w 1 0 else 0)))

/-- Both card slots are deactivated at once (R840). -/
def State.cardsOff (s : State) : State :=
  let off (s : State) (k : Nat) : State := s.setReg k (setField (setField (s.reg k) 0 0 0) 6 4 0)
  let s := off (off s (R.CARD_STATUS 0)) (R.CARD_STATUS 1)
  { s with cd := { s.cd with slots := s.cd.slots.map fun x => { CardSlot.idle with inserted := x.inserted } } }

/-- A trip at CLEAR or ERASE: a new response, a higher one in place of the one in progress, or only a count (R619, R620, R623, R631). -/
def State.respond (s : State) (m level : Nat) : State :=
  let full := decide (256 ≤ (s.reg R.TAMPER_EVID_COUNT).toNat)
  let l := if full then 2 else level
  let s := if full then (s.raiseOnly 314).mapTm fun t => { t with scrap := true } else s
  if s.tm.resp = 0 ∨ s.tm.resp < l then
    let s := (s.latch m l).mapTm fun t => { t with resp := l }
    let s := ({ s with pins := { s.pins with fault := true }, bt := { s.bt with stop := true } } : State).cardsOff
    if full then s else s.burn
  else s.setRegField R.TAMPER_LATCH 23 16 (min 255 (s.regField R.TAMPER_LATCH 23 16 + 1))

/-- The list with the element at `i` replaced. -/
def listSet {α : Type} (l : List α) (i : Nat) (a : α) : List α := l.set i a

/-- Source `m` trips (R615, R616, R618): its count is cleared; ALARM raises its event. -/
def State.trip (s : State) (m : Nat) : State :=
  let s := s.mapTm fun t => { t with times := listSet t.times m [] }
  let s := s.setRegField (R.TAMPER_SRC_STATE m) 27 24 0
  let l := if s.tm.armed then s.regField (R.TAMPER_SRC_CFG m) 1 0 else 0
  if l = 0 then s.raiseOnly (296 + m) else s.respond m l

/-- One excursion of source `m` with VIN_CORE present (R611, R612, R648). -/
def State.excursion (s : State) (m : Nat) : State :=
  let s := s.bump (R.TAMPER_SRC_EXC m)
  let s := if m ≤ 5 ∧ s.regBit R.TAMPER_CTRL 0 then s.raiseOnly (288 + m) else s
  let w := s.regField (R.TAMPER_SRC_CFG m) 21 16 * 1000000000
  let l := s.now :: (s.tm.times.getD m []).filter fun t => decide (s.now < t + w)
  let s := s.mapTm fun t => { t with times := listSet t.times m l }
  let s := s.setRegField (R.TAMPER_SRC_STATE m) 27 24 (min 15 l.length)
  if s.regField (R.TAMPER_SRC_CFG m) 11 8 ≤ l.length then s.trip m else s

/-- Event `n` is raised by the block at felt stop `stop` with its detail `data`; events 318, 263 and 269 are excursions of sources 6
and 7 as well (R607). -/
def State.raise (s : State) (n : Nat) (stop : Nat := 83) (data : Nat := 0) : State :=
  let s := s.raiseOnly n stop data
  if n = 318 then s.excursion 6 else if n = 263 ∨ n = 269 then s.excursion 7 else s

/-- Every event of a list is raised, in order. -/
def State.raiseAll (s : State) (l : List Nat) : State := l.foldl (fun s n => s.raise n) s

/-- Local event `e` of vat `v` is raised: its pending bit, merging when already set (R874). -/
def State.raiseLocal (s : State) (v e : Nat) : State :=
  s.setRegBit ((if e < 32 then R.VEV_PEND_LO v else R.VEV_PEND_HI v)) (e % 32) true

/-! ### Cores -/

/-- Core `c`: a vat's, or 64 and 65 for the warden pairs. -/
def State.core (s : State) (c : Nat) : CoreState := s.cores.getD c (CoreState.reset (decide (64 ≤ c)) true 0)

def State.setCore (s : State) (c : Nat) (x : CoreState) : State := { s with cores := s.cores.set c x }

def State.updCore (s : State) (c : Nat) (f : CoreState → CoreState) : State := s.setCore c (f (s.core c))

/-- Core `c` is reset, and held or released (R478). -/
def State.resetCore (s : State) (c : Nat) (held : Bool) : State := s.setCore c (CoreState.reset (decide (64 ≤ c)) held s.now)

/-! ### Error capture (R882 to R887) -/

/-- The felt stop of a sender (R21); a pair's two cores act as one at its first stop. -/
def stopOf : Sender → Nat
  | .core c _ => if c.val < 64 then c.val else if c.val = 64 then 64 else 68
  | .host _ => 81
  | .unit st => st.val

/-- Whether an access is made at privileged level; fixed-function blocks and the host have none. -/
def privOf : Sender → Bool
  | .core _ p => p
  | _ => false

/-- Kinds of access in an error entry (R883). -/
inductive Kind where
  | load | store | atomic | fetch
  deriving DecidableEq, Repr

/-- A kind's code. -/
def Kind.code : Kind → Nat
  | .load => 0 | .store => 1 | .atomic => 2 | .fetch => 3

/-- An entry of CODE `code` from `who` about address `a`, built as R883 gives. -/
def State.errEntry (s : State) (code : Nat) (who : Sender) (k : Kind) (a : Nat) : ErrEntry where
  info := w32 (code * 2 ^ 24 + stopOf who * 2 ^ 17 + b2n (privOf who) * 2 ^ 16 + k.code * 2 ^ 14 + a / 2 ^ 32 % 4096)
  addr := w32 a
  beat := w32 s.beat
  phase := w32 (s.phase % 65536)

/-- The four words of an entry. -/
def ErrEntry.words (e : ErrEntry) : List Nat := [e.info.toNat, e.addr.toNat, e.beat.toNat, e.phase.toNat]

/-- The entry as the shared queue holds it: its source in place of the sender stop (R885). -/
def ErrEntry.forQueue (e : ErrEntry) (src : Nat) : ErrEntry := { e with info := setField e.info 23 17 src }

/-- Error capture records entry `e` of source `src`: first, last and count, the shared queue, and the source's event on its
first entry (R882, R885, R887). -/
def State.capture (s : State) (src : Nat) (e : ErrEntry) : State :=
  let first := s.reg (R.ERRC_COUNT src) = 0
  let put (s : State) (k : Nat) : State := s.setRegs ((e.words.zipIdx).map fun p => (k + 4 * p.2, p.1))
  let s := if first then put s (R.ERRC_FIRST src 0) else s
  let s := put s (R.ERRC_LAST src 0)
  let s := s.bump (R.ERRC_COUNT src)
  let s :=
    if s.ev.errQ.length < 64 then { s with ev := { s.ev with errQ := s.ev.errQ ++ [(src, e.forQueue src)] } }
    else
      let was := s.regBit R.ERRC_Q_FLAGS 0
      let s := (s.setRegBit R.ERRC_Q_FLAGS 0 true).bump R.ERRC_Q_LOST
      if was then s else s.raise 490
  if first then s.raise (if src < 0x26 then 448 + src else 486) else s

/-- The error source of address `a`: its control block, its sluiced region, or its vat (R882). -/
def errSource (a : Nat) : Nat :=
  if 0x100000000 ≤ a ∧ a < 0x110000000 then
    let i := (a - 0x100000000) / 0x100000
    if i < 0x1A then i else 0x25
  else if 0x1000000000 ≤ a ∧ a < 0x1040000000 then 0x40 + (a - 0x1000000000) / 0x1000000
  else if a < 0x40000 then 0x20
  else if 0x10000000 ≤ a ∧ a < 0x10800000 then 0x21
  else if 0x20000000 ≤ a ∧ a < 0x20400000 then 0x22
  else if 0x8000000000 ≤ a ∧ a < 0x8400000000 then 0x23
  else if 0x8400000000 ≤ a ∧ a < 0x8800000000 then 0x24
  else 0x25

/-- The address an entry shows: vat-local for vat sources (R883). -/
def errAddr (a : Nat) : Nat := if 0x1000000000 ≤ a ∧ a < 0x1040000000 then a % 0x1000000 else a

/-- An error about address `a` is recorded against the block that holds it. -/
def State.errAt (s : State) (code : Nat) (who : Sender) (k : Kind) (a : Nat) : State :=
  s.capture (errSource a) (s.errEntry code who k (errAddr a))

/-- CODE values (R884). -/
abbrev errAccess : Nat := 1
abbrev errSluice : Nat := 2
abbrev errLocked : Nat := 3
abbrev errRange : Nat := 4
abbrev errIgnored : Nat := 5
abbrev errTimeout : Nat := 6
abbrev errOutput : Nat := 7
abbrev errPoison : Nat := 8

end Sys2Proof.Machine
end

