-- ==== Sys2Proof/Machine/PayCrypto.lean ====
section
/-! DEFINITION. The payment sequencer's algorithms: PIN blocks (R107), PIN verification (R114), MACs (R116), EMV
cryptograms (R124), AES DUKPT (R127, R132), key blocks (R319) and key check values (R305). What the spec takes from
ANSI X9.24-3, ANSI X9.143, EMV Book 2 and ISO 9564-1 without restating is logged in notes/assumptions/5.md. -/

namespace Sys2Proof.Machine

/-- The nibbles of a byte string, high nibble first. -/
def nibbles (bs : Bytes) : List Nat := bs.flatMap fun b => [b.toNat / 16, b.toNat % 16]

/-- The bytes of a nibble string, high nibble first. -/
def unnibble : List Nat → Bytes
  | a :: b :: r => by8 (16 * a + b) :: unnibble r
  | [a] => [by8 (16 * a)]
  | [] => []

/-- `l` filled with `d` at its end, or cut, to `n` entries. -/
def fillTo (n d : Nat) (l : List Nat) : List Nat := (l ++ List.replicate (n - l.length) d).take n

/-- `l` filled with zeros at its start, or cut there, to `n` entries. -/
def rightmost (n : Nat) (l : List Nat) : List Nat :=
  let l := List.replicate (n - l.length) 0 ++ l
  l.drop (l.length - n)

/-- The first failing check, in order: the reason of the first pair whose condition fails. -/
def firstFail : List (Bool × Nat) → Option Nat
  | [] => none
  | (ok, r) :: t => if ok then firstFail t else some r

/-! ### PIN blocks -/

/-- Whether a format works with AES blocks of 16 bytes (R107). -/
def fmtAes (f : Nat) : Bool := f == 4

/-- The length of a PIN block of format `f`. -/
def fmtLen (f : Nat) : Nat := if fmtAes f then 16 else 8

/-- Whether format `f` uses the PAN. -/
def fmtPan (f : Nat) : Bool := f != 1

/-- Whether a PAN field of `n` digits is well formed: digits, then 0xF nibbles to 10 bytes (R108). -/
def panOk (pan : Bytes) (n : Nat) : Bool :=
  let ns := nibbles pan
  (ns.take n).all (· < 10) && (ns.drop n).all (· == 15)

/-- The PAN field that a format combines with the PIN field (R107). -/
def panField (f : Nat) (pan : Bytes) (n : Nat) : Bytes :=
  let ds := (nibbles pan).take n
  match f with
  | 1 => zeros 8
  | 4 => unnibble (fillTo 32 0 ((n - 12) :: ds))
  | _ => unnibble ([0, 0, 0, 0] ++ rightmost 12 ds.dropLast)

/-- A random fill nibble of 0xA to 0xF from a drawn byte. -/
def fillAF (b : Byte) : Nat := 10 + b.toNat % 6

/-- The clear PIN field of format `f` for PIN digits `pin`, with drawn bytes `rnd` (R107). -/
def pinField (f : Nat) (pin : List Nat) (rnd : Bytes) : Bytes :=
  let n := pin.length
  let head := f :: n :: pin
  match f with
  | 0 => unnibble (fillTo 16 15 head)
  | 1 => unnibble ((head ++ (nibbles rnd)).take 16)
  | 3 => unnibble ((head ++ rnd.map fillAF).take 16)
  | _ => unnibble (fillTo 16 10 head) ++ rnd.take 8

/-- How many bytes the destination block of a format draws. -/
def pinDraw (f : Nat) : Nat :=
  match f with
  | 0 => 0
  | 1 => 7
  | 3 => 14
  | _ => 8

/-- A PIN block enciphered (R107). -/
def pinEncipher (f : Nat) (e : BlockFn) (field pan : Bytes) : Bytes :=
  match f with
  | 1 => e field
  | 4 => e (xorBytes (e field) pan)
  | _ => e (xorBytes field pan)

/-- A PIN block deciphered to its PIN field. -/
def pinDecipher (f : Nat) (d : BlockFn) (blk pan : Bytes) : Bytes :=
  match f with
  | 1 => d blk
  | 4 => d (xorBytes (d blk) pan)
  | _ => xorBytes (d blk) pan

/-- The checks of R107 on a deciphered PIN field, in order. -/
def pinChecks (f : Nat) (field : Bytes) : Option Nat :=
  let ns := nibbles field
  let n := ns.getD 1 0
  let lenOk := decide (4 ≤ n) && decide (n ≤ 12)
  let fill := (ns.take 16).drop (2 + n)
  let fillOk := match f with
    | 0 => fill.all (· == 15)
    | 3 => fill.all (10 ≤ ·)
    | 4 => fill.all (· == 10)
    | _ => true
  firstFail [(ns.getD 0 0 == f, 0x1101), (lenOk, 0x1102), (((ns.drop 2).take n).all (· < 10), 0x1103), (fillOk, 0x1104)]

/-- The PIN digits of a deciphered field. -/
def pinDigits (field : Bytes) : List Nat :=
  let ns := nibbles field
  (ns.drop 2).take (ns.getD 1 0)

/-- The expected PIN of PIN_VERIFY from 8 enciphered bytes (R114). -/
def expectedPin (dec : Nat → Nat) (blk offset : Bytes) (n : Nat) : List Nat :=
  (List.zipWith (fun d o => (dec d + o) % 10) (nibbles (blk.take 8)) (nibbles offset)).take n

/-! ### SHA-1, for EMV card keys of long account numbers -/

/-- The message schedule of SHA-1, latest word first. -/
def sha1Sched : Nat → List Word → List Word
  | 0, ws => ws
  | n + 1, ws =>
    let g (i : Nat) := ws.getD i 0
    sha1Sched n ((g 2 ^^^ g 7 ^^^ g 13 ^^^ g 15).rotateLeft 1 :: ws)

/-- One round of SHA-1. -/
def sha1Round (h : List Word) (wt : Word × Nat) : List Word :=
  match h with
  | [a, b, c, d, e] =>
    let fk : Word × Word :=
      if wt.2 < 20 then ((b &&& c) ||| (~~~b &&& d), 0x5A827999)
      else if wt.2 < 40 then (b ^^^ c ^^^ d, 0x6ED9EBA1)
      else if wt.2 < 60 then ((b &&& c) ||| (b &&& d) ||| (c &&& d), 0x8F1BBCDC)
      else (b ^^^ c ^^^ d, 0xCA62C1D6)
    [a.rotateLeft 5 + fk.1 + e + fk.2 + wt.1, a, b.rotateLeft 30, c, d]
  | h => h

/-- SHA-1. -/
def sha1 (m : Bytes) : Bytes :=
  let blk (h : List Word) (b : Bytes) : List Word :=
    let w0 := ((chunks 4 b).map fun c => w32 (beNat c)).reverse
    List.zipWith (· + ·) h (((sha1Sched 64 w0).reverse.zipIdx).foldl sha1Round h)
  (((chunks 64 (sha2Pad 64 m)).foldl blk [0x67452301, 0xEFCDAB89, 0x98BADCFE, 0x10325476, 0xC3D2E1F0]).map
    fun x => beBytes 4 x.toNat).flatten

/-! ### Keys by type -/

/-- Whether a key type is TDES, AES or HMAC (R303). -/
def ktTdes (kt : Nat) : Bool := kt == 1 || kt == 2
def ktAes (kt : Nat) : Bool := kt == 0x11 || kt == 0x12 || kt == 0x13
def ktHmac (kt : Nat) : Bool := kt == 0x21

/-- Encryption of one block with a TDES or AES key. -/
def keyEnc (kt : Nat) (key : Bytes) : BlockFn := if ktTdes kt then tdesEnc key else aesEnc key

/-- Decryption of one block. -/
def keyDec (kt : Nat) (key : Bytes) : BlockFn := if ktTdes kt then tdesDec key else aesDec key

/-- Block size of a key type. -/
def ktBlock (kt : Nat) : Nat := if ktTdes kt then 8 else 16

/-- Key length of a symmetric key type. -/
def ktLen (kt : Nat) : Nat :=
  match kt with
  | 1 => 16
  | 2 => 24
  | 0x11 => 16
  | 0x12 => 24
  | 0x13 => 32
  | _ => 0

/-- Key check value (R305). -/
def kcvOf (kt : Nat) (key pub : Bytes) : Bytes :=
  (if ktTdes kt then tdesEnc key (zeros 8)
   else if ktAes kt then aesCmac key (zeros 16)
   else if ktHmac kt then hmac sha256 64 key []
   else sha256 pub).take 3

/-! ### MACs (R116) -/

/-- A full MAC under ALG. -/
def macFull (alg : Nat) (key m : Bytes) : Bytes :=
  match alg with
  | 1 => aesCmac key m
  | 2 => macAlg3 key (if m = [] then zeros 8 else m ++ zeros ((8 - m.length % 8) % 8))
  | 3 => macAlg3 key (pad2 8 m)
  | 4 => hmac sha256 64 key m
  | 5 => hmac sha384 128 key m
  | 6 => hmac sha512 128 key m
  | 7 => hmac sha3_256 136 key m
  | 8 => hmac sha3_384 104 key m
  | _ => hmac sha3_512 72 key m

/-- Range of MAC_LEN for ALG. -/
def macRange (alg : Nat) : Nat × Nat :=
  match alg with
  | 1 => (4, 16)
  | 2 => (4, 8)
  | 3 => (4, 8)
  | 4 => (8, 32)
  | 5 => (8, 48)
  | 6 => (8, 64)
  | 7 => (8, 32)
  | 8 => (8, 48)
  | _ => (8, 64)

/-- Range of the HMAC key length for ALG 0x04 to 0x09. -/
def hmacKeyMax (alg : Nat) : Nat :=
  match alg with
  | 4 => 64
  | 5 => 128
  | 6 => 128
  | 7 => 136
  | 8 => 104
  | _ => 72

/-! ### EMV (R124) -/

/-- The key from a master key and a 16-digit or 32-digit block: TDES gives two halves, AES as many blocks as the key
needs. -/
def emvDerive (kt : Nat) (mk a b : Bytes) : Bytes :=
  if ktTdes kt then tdesEnc mk a ++ tdesEnc mk b
  else if mk.length = 16 then aesEnc mk a
  else (aesEnc mk a ++ aesEnc mk b).take mk.length

/-- The 16 decimal digits that option B takes from a hash: its digits in order, then its letters A to F as 0 to 5. -/
def emvDecimals (h : Bytes) : List Nat :=
  let ns := nibbles h
  (ns.filter (· < 10) ++ (ns.filter (10 ≤ ·)).map (· - 10)).take 16

/-- The card master key from the issuer master key, PAN digits and PSN. -/
def emvCardKey (kt : Nat) (mk : Bytes) (pan : List Nat) (psn : Byte) : Bytes :=
  let x := pan ++ nibbles [psn]
  if ktTdes kt then
    let y :=
      if pan.length ≤ 16 then unnibble (rightmost 16 x)
      else unnibble (emvDecimals (sha1 (unnibble (rightmost (x.length + x.length % 2) x))))
    emvDerive kt mk y (y.map (· ^^^ 0xFF))
  else
    let y := unnibble (rightmost 32 x)
    emvDerive kt mk y (y.map (· ^^^ 0xFF))

/-- The session key from the card master key and the ATC: EMV common session key derivation. -/
def emvSessionKey (kt : Nat) (ck atc : Bytes) : Bytes :=
  let n := ktBlock kt
  let r (b : Nat) := padTo n (atc ++ [by8 b])
  if ktTdes kt then emvDerive kt ck (r 0xF0) (r 0x0F)
  else if ck.length = 16 then aesEnc ck (r 0)
  else emvDerive kt ck (r 0xF0) (r 0x0F)

/-- The MAC of an application cryptogram: TDES MAC algorithm 3 with padding method 2 or 1, or AES-CMAC. -/
def emvMac (kt pad : Nat) (sk m : Bytes) : Bytes :=
  if ktTdes kt then macFull (if pad = 1 then 2 else 3) sk m else aesCmac sk m

/-- The ARPC of a method. -/
def emvArpc (kt method : Nat) (sk arqc arc prop : Bytes) : Bytes :=
  match method with
  | 1 =>
    let y := xorBytes arqc (padTo 8 (arc.take 2))
    if ktTdes kt then tdesEnc sk y else (aesEnc sk (padTo 16 y)).take 8
  | 2 => (emvMac kt 0 sk (arqc ++ arc ++ prop)).take 4
  | _ => []

/-! ### AES DUKPT -/

/-- The derivation data of ANSI X9.24-3 for block `i`. -/
def dukptData (i usage alg bits : Nat) (ctx : Bytes) : Bytes :=
  [1, by8 i] ++ beBytes 2 usage ++ beBytes 2 alg ++ beBytes 2 bits ++ ctx

/-- Algorithm indicator and length in bytes of WK_TYPE: 1 to 3 AES, 4 and 5 TDES. -/
def dukptType (t : Nat) : Nat × Nat :=
  match t with
  | 1 => (2, 16)
  | 2 => (3, 24)
  | 3 => (4, 32)
  | 4 => (0, 16)
  | _ => (1, 24)

/-- WK_TYPE of an AES key of `n` bytes. -/
def dukptAesType (n : Nat) : Nat := if n ≤ 16 then 1 else if n ≤ 24 then 2 else 3

/-- A key of type `t` derived from `key`. -/
def dukptDeriveKey (key : Bytes) (usage t : Nat) (ctx : Bytes) : Bytes :=
  let al := dukptType t
  (((List.range (ceilDiv al.2 16)).map fun i => aesEnc key (dukptData (i + 1) usage al.1 (8 * al.2) ctx)).flatten).take al.2

/-- The initial key of a terminal from the base derivation key (R127). -/
def dukptInitial (bdk ikid : Bytes) : Bytes := dukptDeriveKey bdk 0x8001 (dukptAesType bdk.length) ikid

/-- The working key of usage `usage` and type `t` for a KSN, from the terminal's initial key. -/
def dukptWorking (ik ksn : Bytes) (usage t : Nat) : Bytes :=
  let dev := (ksn.drop 4).take 4
  let ctr := beNat (ksn.drop 8)
  let kt := dukptAesType ik.length
  let dk := ((List.range 32).foldl (fun (p : Bytes × Nat) i =>
    let m := 2 ^ (31 - i)
    if ctr / m % 2 = 1 then
      let w := p.2 + m
      (dukptDeriveKey p.1 0x8000 kt (dev ++ beBytes 4 w), w)
    else p) (ik, 0)).1
  dukptDeriveKey dk usage t (dev ++ beBytes 4 ctr)

/-- The key usage indicator of WK_USAGE. -/
def dukptUsage (u : Nat) : Nat :=
  match u with
  | 1 => 0x1000
  | 2 => 0x2000
  | 3 => 0x2001
  | 4 => 0x2002
  | 5 => 0x3000
  | 6 => 0x3001
  | _ => 0x3002

/-- Whether a KSN is not all zero. -/
def ksnPresent (ksn : Bytes) : Bool := !allZero ksn

/-- The counter of a KSN. -/
def ksnCounter (ksn : Bytes) : Nat := beNat (ksn.drop 8)

/-- Bits set in a number, of its low 32. -/
def popcount32 (n : Nat) : Nat := ((List.range 32).map fun i => n / 2 ^ i % 2).sum

/-- Whether a KSN's counter is neither zero nor has more than 16 bits set (R126). -/
def ksnCounterOk (ksn : Bytes) : Bool := ksnCounter ksn != 0 && decide (popcount32 (ksnCounter ksn) ≤ 16)

/-! ### Key blocks (R319) -/

/-- Upper-case hexadecimal. -/
def hexBytes (bs : Bytes) : Bytes := (nibbles bs).map fun n => if n < 10 then by8 (48 + n) else by8 (55 + n)

/-- A hexadecimal digit's value. -/
def hexVal (b : Byte) : Option Nat :=
  let n := b.toNat
  if 48 ≤ n ∧ n ≤ 57 then some (n - 48) else if 65 ≤ n ∧ n ≤ 70 then some (n - 55)
  else if 97 ≤ n ∧ n ≤ 102 then some (n - 87) else none

/-- The bytes that hexadecimal text spells. -/
def unhex (bs : Bytes) : Option Bytes := (bs.mapM hexVal).map unnibble

/-- `n` in `k` decimal digits, as ASCII. -/
def decimal (k n : Nat) : Bytes := (strRadix 10 k n).map fun d => by8 (48 + d)

/-- The number that ASCII decimal digits spell. -/
def undecimal (bs : Bytes) : Option Nat :=
  (bs.mapM fun b => let n := b.toNat; if 48 ≤ n ∧ n ≤ 57 then some (n - 48) else none).map (numRadix 10)

/-- Key block encryption (purpose 0) or MAC key (purpose 1) derived from the key block protection key. -/
def kbDerive (kt : Nat) (kbpk : Bytes) (purpose : Nat) : Bytes :=
  let n := kbpk.length
  if ktTdes kt then
    let alg := if n = 16 then 0 else 1
    ((List.range (n / 8)).map fun i => tdesCmac kbpk ([by8 (i + 1)] ++ beBytes 2 purpose ++ [0] ++ beBytes 2 alg ++ beBytes 2 (8 * n))).flatten
  else
    let alg := if n = 16 then 2 else if n = 24 then 3 else 4
    (((List.range (ceilDiv n 16)).map fun i =>
      aesCmac kbpk ([by8 (i + 1)] ++ beBytes 2 purpose ++ [0] ++ beBytes 2 alg ++ beBytes 2 (8 * n))).flatten).take n

/-- A key block: header with optional blocks, and key data, wrapped under a KBPK. -/
def kbWrap (kt : Nat) (kbpk header data : Bytes) : Bytes :=
  let ke := kbDerive kt kbpk 0
  let km := kbDerive kt kbpk 1
  let mac := if ktTdes kt then tdesCmac km (header ++ data) else aesCmac km (header ++ data)
  header ++ hexBytes (cbcEnc (ktBlock kt) (keyEnc kt ke) mac data) ++ hexBytes mac

/-- The key data of a wrapped block with header length `h`, if its MAC holds. -/
def kbUnwrap (kt : Nat) (kbpk block : Bytes) (h : Nat) : Option Bytes :=
  let m := if ktTdes kt then 16 else 32
  let enc := (block.drop h).take (block.length - h - m)
  match unhex enc, unhex (block.drop (block.length - m)) with
  | some c, some mac =>
    let data := cbcDec (ktBlock kt) (keyDec kt (kbDerive kt kbpk 0)) mac c
    let km := kbDerive kt kbpk 1
    let got := if ktTdes kt then tdesCmac km (block.take h ++ data) else aesCmac km (block.take h ++ data)
    if got = mac then some data else none
  | _, _ => none

/-- Largest key length of a type, to which key data is padded (R319). -/
def kbMaxLen (kt n : Nat) : Nat :=
  if ktTdes kt then 24 else if ktAes kt then 32 else if ktHmac kt then 136 else n

/-- Length of the key data before encryption: 2 plus the padded key length, rounded up to 16 (R320). -/
def kbDataLen (kt n : Nat) : Nat := 16 * ceilDiv (2 + kbMaxLen kt n) 16

/-- The X9.143 algorithm code of a type (R319). -/
def kbAlg (kt : Nat) : Byte :=
  if ktTdes kt then 0x54 else if ktAes kt then 0x41 else if ktHmac kt then 0x48
  else
    let a := kt % 256
    if a = 0x41 ∨ a = 0x42 ∨ a = 0x43 ∨ a = 0x51 ∨ a = 0x52 ∨ a = 0x53 then 0x45
    else if 0x44 ≤ a ∧ a ≤ 0x46 then 0x52 else 0x39

/-- An exported key block (R319, R320): version D with optional blocks 10 and PB, under an AES-256 KBPK. -/
def kbExport (kbpk key : Bytes) (kt usage mode expo kvn : Nat) (pad : Bytes) : Bytes :=
  let n := kbDataLen kt key.length
  let data := (beBytes 2 (8 * key.length) ++ key ++ pad).take n
  let header := [0x44] ++ decimal 4 (64 + 2 * n) ++ beBytes 2 usage ++ [kbAlg kt, by8 mode] ++ beBytes 2 kvn ++
    [by8 expo] ++ ascii "0200" ++ ascii "1008" ++ hexBytes (beBytes 2 kt) ++ ascii "PB080000"
  kbWrap 0x13 kbpk header data

end Sys2Proof.Machine
end

