-- ==== Sys2Proof/Machine/MouldRead.lean ====
section
/-! DEFINITION. Reading a mould image: parts, sections and records at the offsets of R427 to R444, and what the mould in force
says of each deckle. -/

namespace Sys2Proof.Machine

/-! ### Parts and sections (R429, R430) -/

/-- A section: its type, COUNT and data. -/
structure Section where
  type  : Nat
  count : Nat
  data  : Bytes
  deriving DecidableEq, Repr

/-- `n` rounded up to a multiple of `k`. -/
def roundUp (k n : Nat) : Nat := k * ceilDiv n k

/-- The first `n` sections of the bytes `b`. -/
def sectionsAux : Nat → Bytes → List Section
  | 0, _ => []
  | n + 1, b =>
    let len := leAt b 4 4
    ⟨leAt b 0 2, leAt b 8 4, slice b 16 len⟩ :: sectionsAux n (b.drop (16 + roundUp 16 len))

/-- The sections of a part. -/
def partSections (p : Bytes) : List Section := sectionsAux (leAt p 6 2) (p.drop 0x80)

/-- The data of the section of type `t` of a part, empty when it is absent. -/
def partSection (p : Bytes) (t : Nat) : Bytes :=
  match (partSections p).find? (fun x => x.type == t) with
  | some x => x.data
  | none => []

/-- Whether a part has a section of type `t`. -/
def hasSection (p : Bytes) (t : Nat) : Bool := (partSections p).any (fun x => x.type == t)

/-- Fields of a part's header. -/
def partType (p : Bytes) : Nat := byteAt p 4
def partDeckle (p : Bytes) : Nat := byteAt p 5
def partSvn (p : Bytes) : Nat := leAt p 0x0C 4
def partId (p : Bytes) : Bytes := slice p 0x10 8
def partSigOff (p : Bytes) : Nat := leAt p 0x1C 4
def partBind (p : Bytes) : Bytes := slice p 0x20 48

/-! ### Images (R427) -/

/-- The parts of an image, in the order of its directory. -/
def imageParts (im : Bytes) : List Bytes :=
  (List.range (byteAt im 7)).map fun i => slice im (leAt im (0x20 + 16 * i + 4) 4) (leAt im (0x20 + 16 * i + 8) 4)

/-- The parts of an image as a mould: the device part and the deckle parts. -/
def imageMould (im : Bytes) : MouldSet :=
  { device := ((imageParts im).find? fun p => partType p == 1).getD []
    parts := ((imageParts im).filter fun p => partType p == 2).map fun p => (partDeckle p, p) }

/-! ### The device part -/

/-- The allocation record of deckle `d` (R435). -/
def allocRec (dev : Bytes) (d : Nat) : Bytes := slice (partSection dev 0x0102) (128 * d) 128

def allocPresent (r : Bytes) : Bool := byteAt r 1 % 2 == 1
def allocSelf (r : Bytes) : Bool := byteAt r 1 / 2 % 2 == 1
def allocVats (r : Bytes) : Nat := leAt r 8 8
def allocPorts (r : Bytes) : Nat := leAt r 0x10 8
def allocNs (r : Bytes) : Nat := leAt r 0x18 8
def allocHbmBase (r : Bytes) : Nat := leAt r 0x20 8
def allocHbmSize (r : Bytes) : Nat := leAt r 0x28 8
def allocTrBase (r : Bytes) : Nat := leAt r 0x30 4
def allocTrCount (r : Bytes) : Nat := leAt r 0x34 4
def allocSigner (r : Bytes) : Bytes := slice r 0x40 48

/-- A reservoir namespace (R436). -/
structure Ns where
  idx    : Nat
  kind   : Nat
  owner  : Nat
  ports  : Nat
  nsid   : Nat
  lba    : Nat
  rbn    : Nat
  blocks : Nat
  deriving DecidableEq, Repr

/-- The namespace in entry `i`. -/
def nsOf (i : Nat) (e : Bytes) : Ns :=
  ⟨i, byteAt e 0, byteAt e 1, leAt e 2 2, leAt e 4 4, leAt e 8 8, leAt e 16 8, leAt e 24 4⟩

/-- The namespaces of a device part, those with blocks. -/
def namespaces (dev : Bytes) : List Ns :=
  (((chunks 32 (partSection dev 0x0103)).zipIdx).map fun p => nsOf p.2 p.1).filter fun n => n.blocks != 0

/-- RESV_BLOCKS, RD_DELAY and STALE_LIMIT (R434). -/
def devBlocks (dev : Bytes) : Nat := leAt (partSection dev 0x0104) 0 8
def devRdDelay (dev : Bytes) : Nat := leAt (partSection dev 0x0104) 8 2
def devStale (dev : Bytes) : Nat := byteAt (partSection dev 0x0104) 10

/-- The beat period in half microseconds, 0 meaning 20 (R434). -/
def devHalfUs (dev : Bytes) : Nat := if byteAt (partSection dev 0x0101) 0 = 0 then 20 else byteAt (partSection dev 0x0101) 0

/-- The pond section: member number, member mask and link mask (R804). -/
def pondMember (dev : Bytes) : Nat := byteAt (partSection dev 0x0105) 0

/-! ### Deckle parts -/

/-- Fields of POLICY (R440). -/
def polSym (p : Bytes) : Nat := leAt (partSection p 0x0201) 0 4
def polMacLen (p : Bytes) : Nat := leAt (partSection p 0x0201) 4 4
def polPke (p : Bytes) : Nat := leAt (partSection p 0x0201) 8 4
def polAlgEn (p : Bytes) : Nat := leAt (partSection p 0x0201) 12 4
def polWait (p : Bytes) : Nat := if leAt (partSection p 0x0201) 16 2 = 0 then 100 else leAt (partSection p 0x0201) 16 2
def polExpert (p : Bytes) : Nat := byteAt (partSection p 0x0201) 0x12
def polDiag (p : Bytes) : Nat := byteAt (partSection p 0x0201) 0x13
def polReplay (p : Bytes) : Bool := byteAt (partSection p 0x0201) 0x14 % 2 == 1

/-- Fields of RESERVOIR (R441). -/
def rsvFlags (p : Bytes) : Nat := byteAt (partSection p 0x0204) 0
def rsvSurcharge (p : Bytes) : Nat := leAt (partSection p 0x0204) 2 2
def rsvBudget (p : Bytes) : Nat := leAt (partSection p 0x0204) 4 2
def rsvSweep (p : Bytes) : Nat := byteAt (partSection p 0x0204) 6
def rsvTrSpace (p : Bytes) : Nat := leAt (partSection p 0x0204) 8 4
def rsvKtLimit (p : Bytes) : Nat := leAt (partSection p 0x0204) 12 4
def rsvBuckets (p : Bytes) : Nat := leAt (partSection p 0x0204) 16 4

/-- MIRROR (R439). -/
def mirFlags (p : Bytes) : Nat := byteAt (partSection p 0x0205) 0
def mirList (p : Bytes) : Nat := leAt (partSection p 0x0205) 2 2

/-- A user verb (R444). -/
structure UserVerb where
  code    : Nat
  slots   : Nat
  flags   : Nat
  tariff  : Nat
  cycles  : Nat
  lines   : Nat
  inMax   : Nat
  outBase : Nat
  outPerIn : Nat
  entry   : Nat
  stack   : Nat
  digest  : Bytes
  prog    : Bytes
  data    : Bytes
  deriving DecidableEq, Repr

/-- The first `n` user verb records of the bytes `b`. -/
def userVerbsAux : Nat → Bytes → List UserVerb
  | 0, _ => []
  | n + 1, b =>
    let cl := leAt b 0x1C 4
    let dl := leAt b 0x20 4
    { code := leAt b 0 2, slots := byteAt b 2, flags := byteAt b 3, tariff := leAt b 4 4, cycles := leAt b 8 4,
      lines := leAt b 12 2, inMax := leAt b 0x10 4, outBase := leAt b 0x14 4, outPerIn := leAt b 0x18 4,
      entry := leAt b 0x24 4, stack := leAt b 0x28 4, digest := slice b 0x30 48, prog := slice b 96 cl,
      data := slice b (96 + cl) dl } :: userVerbsAux n (b.drop (roundUp 16 (96 + cl + dl)))

/-- The user verbs of a deckle part. -/
def userVerbs (p : Bytes) : List UserVerb :=
  match (partSections p).find? (fun x => x.type == 0x0209) with
  | some x => userVerbsAux x.count x.data
  | none => []

/-- The code and data of user verbs as a vat's firmware places them from vat-local 0x0002_0000 on (R446): in the order of their records, each
code at a multiple of 4 with its data behind it, as its record has them. -/
def userImage (l : List UserVerb) : Bytes := (l.map fun u => padTo (roundUp 4 (u.prog.length + u.data.length)) (u.prog ++ u.data)).flatten

/-- Vat-local address of the code of verb `c`. -/
def userBase (l : List UserVerb) (c : Nat) : Nat :=
  0x20000 + ((l.takeWhile fun u => u.code != c).map fun u => roundUp 4 (u.prog.length + u.data.length)).sum

/-- A route of a deckle part (R442): the 32 bytes of its entry. -/
def routes (p : Bytes) : List Bytes := chunks 32 (partSection p 0x0206)

/-- The tariff entries of a deckle part (R443): verb, algorithm, tariff. -/
def tariffs (p : Bytes) : List (Nat × Nat × Nat) :=
  (chunks 8 (partSection p 0x0207)).map fun e => (leAt e 0 2, byteAt e 2, leAt e 4 4)

/-- The settings that a deckle part loads (R463); the EXPERT bits stand where R157 and R225 give. -/
def partSet (p : Bytes) : DSet :=
  let sym := polSym p + 0x80 * b2n (polExpert p % 2 == 1)
  let pke := polPke p + (if polExpert p / 2 % 2 = 1 then 2 ^ 11 else 0)
  { symPolicy := w32 sym, macLen := w32 (polMacLen p), pkePolicy := w32 pke, pkeAlgEn := w32 (polAlgEn p)
    dectab := (chunks 8 (partSection p 0x0202)).map fun e => (w32 (leAt e 0 4), w32 (leAt e 4 4))
    tokprof := (chunks 4 (partSection p 0x0203)).map fun e => w32 (leNat e) }

/-! ### The mould in force -/

/-- The device part in force, empty when the device is unmoulded. -/
def State.dev (s : State) : Bytes :=
  match s.md.inForce with
  | some m => m.device
  | none => []

/-- The part of deckle `d` in force. -/
def State.part? (s : State) (d : Nat) : Option Bytes :=
  match s.md.inForce with
  | some m => m.parts.lookup d
  | none => none

/-- The part of deckle `d`, empty when there is none. -/
def State.part (s : State) (d : Nat) : Bytes := (s.part? d).getD []

/-- The allocation record of deckle `d`. -/
def State.alloc (s : State) (d : Nat) : Bytes := allocRec s.dev d

/-- Bit `i` of a number. -/
def nbit (n i : Nat) : Bool := n / 2 ^ i % 2 == 1

/-- The vats of deckle `d`, ascending. -/
def State.vatsOf (s : State) (d : Nat) : List Nat :=
  let r := s.alloc d
  if allocPresent r then (List.range 64).filter fun v => nbit (allocVats r) v else []

/-- The deckle to which vat `v` is allocated. -/
def State.deckleOfVat (s : State) (v : Nat) : Option Nat := (List.range 16).find? fun d => (s.vatsOf d).contains v

/-- The deckle that owns network port `p`. -/
def State.deckleOfPort (s : State) (p : Nat) : Option Nat :=
  (List.range 16).find? fun d => allocPresent (s.alloc d) && nbit (allocPorts (s.alloc d)) p

/-- The settings admission holds for deckle `d`. -/
def State.dset (s : State) (d : Nat) : DSet := s.md.sets.getD d DSet.none

/-- The user verb of deckle `d` with code `c`. -/
def State.userVerb (s : State) (d c : Nat) : Option UserVerb := (userVerbs (s.part d)).find? fun u => u.code == c

/-- Vat `v` is present in the vat-present mask (R4). -/
def State.present (s : State) (v : Nat) : Bool := s.maskBit R.LIFE_VATS_LO v

/-- Vat `v` is in admission (R60). -/
def State.inAdmission (s : State) (v : Nat) : Bool := s.maskBit R.BEAT_ADMIT_LO v

/-- Fields of the deckle's settings. -/
def symBit (t : DSet) (i : Nat) : Bool := bit t.symPolicy i
def pkeBit (t : DSet) (i : Nat) : Bool := bit t.pkePolicy i

/-! ### Jobs -/

def State.mapBt (s : State) (f : BeatState → BeatState) : State := { s with bt := f s.bt }

def State.mapJn (s : State) (f : JournalState → JournalState) : State := { s with jn := f s.jn }

def State.mapMd (s : State) (f : MouldState → MouldState) : State := { s with md := f s.md }

/-- The job with receipt number `i`, between receipt and release. -/
def State.job? (s : State) (i : Nat) : Option Job := s.bt.jobs.find? fun j => j.id == i

/-- Job `i` changed by `f`. -/
def State.updJob (s : State) (i : Nat) (f : Job → Job) : State :=
  s.mapBt fun b => { b with jobs := b.jobs.map fun j => if j.id = i then f j else j }

/-- The job has been handed to a vat and not released: its vat and admission edge. -/
def Job.onVat (j : Job) : Option (Nat × Nat) :=
  match j.stage with
  | .admitted v e => some (v, e)
  | _ => none

/-! ### Records for the journal (R367, R370) -/

/-- A record joins the queue of those to be committed; a chain that no mould defines has none (R419). -/
def State.queueRec (s : State) (p : PendRec) : State :=
  if (s.jn.chains.getD p.chain Chain.none).present then { s with jn := { s.jn with queue := s.jn.queue ++ [p] } } else s

/-- `n` bytes of a record that carries `facts`, where the spec gives no offsets. -/
def recBody (kind n : Nat) (facts : Bytes) : Bytes := (List.range n).map (Config.recByte kind facts)

/-- A record of `lines` lines that carries `facts` in clear and, when `hidden` is not empty, that as its sealed part. -/
def plainRec (rank chain kind lines : Nat) (facts hidden : Bytes) : PendRec where
  rank := rank
  vat := 0
  chain := chain
  kind := kind
  flags := 0
  clear := recBody kind (64 * lines - 32 - (if hidden = [] then 0 else 32)) facts
  sealed := if hidden = [] then [] else recBody (256 + kind) 16 hidden
  job := none
  key := none
  entry := none
  replay := []

/-- Deckle `d` is replay-enabled (R440). -/
def State.replays (s : State) (d : Nat) : Bool := (s.part? d).isSome && polReplay (s.part d)

end Sys2Proof.Machine
end

