-- ==== Sys2Proof/Machine/Spring.lean ====
section
/-! DEFINITION. The spring and the DRBG instances (11): seeds, health, reseeds, draws, raw mode and the test pattern, and the
commands of their events. -/

namespace Sys2Proof.Machine

/-! ### Access to the parts of the spring -/

def State.mapSpr (s : State) (f : SpringState → SpringState) : State := { s with spr := f s.spr }

/-- The DRBG unit of vat `v`. -/
def State.unit (s : State) (v : Nat) : DrbgUnit := s.spr.units.getD v DrbgUnit.reset

def State.setUnit (s : State) (v : Nat) (u : DrbgUnit) : State := s.mapSpr fun p => { p with units := p.units.set v u }

def State.setCell (s : State) (c : Nat) (x : NoiseCell) : State := s.mapSpr fun p => { p with cells := p.cells.set c x }

/-- A cell that does not exist. -/
def NoiseCell.none : NoiseCell := ⟨false, 0, true, false, 0⟩

/-- Cells in service. -/
def State.cellsUp (s : State) : Nat := (s.spr.cells.filter fun c => c.inService).length

/-- Fields of SPRING_CTRL and SPRING_STATUS (R599, R600). -/
def State.springOn (s : State) : Bool := s.regBit R.SPRING_CTRL 0
def State.springRaw (s : State) : Bool := s.regBit R.SPRING_CTRL 1
def State.springTest (s : State) : Bool := s.regBit R.SPRING_CTRL 2
def State.springFault (s : State) : Bool := s.regBit R.SPRING_STATUS 2
def State.springStarting (s : State) : Bool := s.regBit R.SPRING_STATUS 1
def State.devErr (s : State) : Bool := s.regBit R.SPRING_STATUS 6

/-- The vat instance, or the lane, of vat `v` is in its error state (R583). -/
def State.vatErr (s : State) (v : Nat) : Bool := s.maskBit R.SPRING_VAT_ERR_LO v
def State.laneErr (s : State) (v : Nat) : Bool := s.maskBit R.SPRING_LANE_ERR_LO v

/-- The device identifier (R720). -/
def State.uid (s : State) : Bytes := s.regBytes (R.LIFE_UID 0) 4

/-- The lifecycle state (R765). -/
def State.life (s : State) : Nat := s.regField R.LIFE_STATUS 2 0

/-! ### Parking (R48, R662, R663) -/

/-- Vat `v` is to leave admission at the edge `e`, if no edge is set for it yet. -/
def State.parkAt (s : State) (v e : Nat) : State :=
  if s.bt.parking.any fun p => p.1 == v then s else { s with bt := { s.bt with parking := s.bt.parking ++ [(v, e)] } }

/-- Vat `v` is to leave admission at the next edge whose close has not passed (R662). -/
def State.parkNext (s : State) (v : Nat) : State :=
  s.parkAt v (if s.regBit R.BEAT_STATUS 0 then s.beat + (if s.bt.closed then 2 else 1) else 0)

/-- Vat `v` is parked for a fault (R663). -/
def State.parkFault (s : State) (v : Nat) : State := (s.setMaskBit R.PMU_PARK_FAULT_LO v true).parkNext v

/-- Vat `v` is parked for a fault of a job that is released at the edge `e`: from the edge after it (R87). -/
def State.parkMiss (s : State) (v e : Nat) : State := (s.setMaskBit R.PMU_PARK_FAULT_LO v true).parkAt v (e + 1)

/-! ### The device DRBG (R578 to R582) -/

/-- The personalisation string of the device DRBG. -/
def State.devPerso (s : State) : Bytes :=
  ascii "NV64 DEV" ++ s.uid ++ (s.regBytes (R.SPRING_PERSO 0) 8).take (s.regField R.SPRING_CTRL 21 16)

/-- The spring raises event 357 when its store falls below 256 seeds after an edge at which it held more (R605). -/
def State.lowSeeds (s : State) : State :=
  if s.spr.wasHigh ∧ s.spr.store.length < 256 then (s.mapSpr fun p => { p with wasHigh := false }).raise 357 else s

/-- The oldest seed of the store, taken (R569). -/
def State.takeSeed (s : State) : Option (Bytes × State) :=
  match s.spr.store with
  | [] => none
  | x :: xs => some (x, (s.mapSpr fun p => { p with store := xs }).lowSeeds)

/-- The device DRBG reseeds from the store, with additional input; unchanged without a seed. -/
def State.devReseed (s : State) (add : Bytes) : State :=
  match s.spr.device, s.takeSeed with
  | some d, some (x, t) => t.mapSpr fun p => { p with device := some (drbgReseed d x add), devEdge := s.beat }
  | _, _ => s

/-- The additional input of a commanded reseed (R581). -/
def State.addin (s : State) : Bytes := (s.regBytes (R.SPRING_ADDIN 0) 8).take (s.regField R.SPRING_ADDIN_LEN 5 0)

/-- The device DRBG is instantiated once STARTING has cleared and the store holds 64 seeds (R579). -/
def State.devInstantiate (s : State) : State :=
  if s.spr.device = none ∧ s.springOn ∧ ¬ s.springStarting ∧ ¬ s.springRaw ∧ ¬ s.devErr ∧ 64 ≤ s.spr.store.length then
    match s.spr.store with
    | a :: b :: rest =>
      (s.mapSpr fun p =>
        { p with device := some (drbgNew (a ++ b.take 16 ++ s.devPerso)), store := rest, devEdge := s.beat }).lowSeeds
    | _ => s
  else s

/-- `n` bytes of device DRBG output, from its queue, refilled as it empties. -/
def State.drawDev (s : State) : Nat → Bytes × State
  | 0 => ([], s)
  | n + 1 =>
    let s :=
      match s.spr.devQueue, s.spr.device with
      | [], some d =>
        let r := drbgGenerate d (256 * (1 + Config.devRefill % 16)) []
        s.mapSpr fun p => { p with device := some r.2, devQueue := r.1 }
      | _, _ => s
    let b := s.spr.devQueue.headD 0
    let r := (s.mapSpr fun p => { p with devQueue := p.devQueue.drop 1 }).drawDev n
    (b :: r.1, r.2)

/-! ### Vat instances and lanes (R578, R579, R584) -/

/-- The output queue of a vat instance is refilled by calls of 256 bytes while 256 bytes are free (R584). -/
def refill : Nat → DrbgUnit → DrbgUnit
  | 0, u => u
  | n + 1, u =>
    match u.vatInst with
    | some d =>
      if u.queue.length + 256 ≤ 4096 then
        let r := drbgGenerate d 256 []
        refill n { u with vatInst := some r.2, queue := u.queue ++ r.1 }
      else u
    | none => u

/-- The REPLAY_SEED record of an instantiation in a replay-enabled deckle (R751): instance 0 the vat's, 1 the lane; cause 0 join, 1
periodic, 2 prediction resistance. -/
def State.replaySeed (s : State) (v inst cause : Nat) (seeds : Bytes) : State :=
  match s.deckleOfVat v with
  | some d =>
    if s.replays d then
      let held := (s.bt.jobs.filter fun j => match j.onVat with | some p => p.1 == v && decide (p.2 < s.beat) | none => false).length
      s.queueRec { plainRec 2 d 0x20 1 [] [] with
        vat := v
        clear := [by8 v, by8 inst, by8 cause, by8 (min 255 held)] ++ zeros 4 ++ leBytes 8 s.beat ++ partId (s.part d) ++ zeros 8
        replay := seeds }
    else s
  | none => s

/-- Vat `v` belongs to a replay-enabled deckle. -/
def State.replayVat (s : State) (v : Nat) : Bool :=
  match s.deckleOfVat v with
  | some d => s.replays d
  | none => false

/-- The vat instance of vat `v` is instantiated from 48 bytes of device DRBG output. -/
def State.instVat (s : State) (v : Nat) (n : Nat := 16) (cause : Nat := 0) : State :=
  if s.spr.device = none then s
  else
    let r := s.drawDev 48
    let t := r.2.replaySeed v 0 cause r.1
    let d := drbgNew (r.1 ++ ascii "NV64 VAT" ++ [by8 v] ++ s.uid)
    let t := t.setUnit v (refill n { t.unit v with vatInst := some d, queue := [], vatWait := none })
    let t := t.setMaskBit R.SPRING_VAT_ERR_LO v false
    (t.setReg (R.VDR_DRAWS v) 0).setReg (R.VDR_LAST_RESEED v) (w32 s.beat)

/-- The lane of vat `v` for deckle `d` is instantiated. -/
def State.instLane (s : State) (v d : Nat) (cause : Nat := 0) : State :=
  if s.spr.device = none then s
  else
    let r := s.drawDev 48
    let t := r.2.replaySeed v 1 cause r.1
    let x := drbgNew (r.1 ++ ascii "NV64 DKL" ++ [by8 d, by8 v] ++ partId (s.part d) ++ s.uid)
    let t := t.setUnit v { t.unit v with lane := some x, laneWait := none }
    let t := t.setMaskBit R.SPRING_LANE_ERR_LO v false
    (t.setReg (R.VDR_RANDOM v) 0).setReg (R.VDR_LANE_RESEED v) (w32 s.beat)

/-- The lane of a vat that leaves its deckle is written with zero (R579). -/
def State.dropLane (s : State) (v : Nat) : State := s.setUnit v { s.unit v with lane := none, laneWait := none }

/-- `n` bytes drawn from the vat instance of vat `v`, in chunks of at most 256; none in its error state (R583 to R585). -/
def State.drawVatAux (v : Nat) : Nat → State → Nat → Bytes × State
  | 0, s, _ => ([], s)
  | k + 1, s, n =>
    if n = 0 then ([], s)
    else
      let m := min n 256
      let u := s.unit v
      let t := s.setUnit v (refill 16 { u with queue := u.queue.drop m })
      let r := State.drawVatAux v k t (n - m)
      (padTo m u.queue ++ r.1, r.2)

/-- `n` bytes from the vat instance of vat `v`, if it is instantiated and not in its error state. -/
def State.drawVat (s : State) (v n : Nat) : Option (Bytes × State) :=
  if s.vatErr v ∨ (s.unit v).vatInst = none then none
  else
    let r := State.drawVatAux v (n / 256 + 1) s n
    some (r.1, r.2.bumpBy (R.VDR_DRAWS v) n)

/-- One generate call on the lane of vat `v` (R586): with prediction resistance, the lane first takes a seed from a slot.
Answers the bytes, none in the error state, or a missing seed. -/
def State.drawLane (s : State) (v n : Nat) (pr : Bool) (add : Bytes) : Except Nat (Bytes × State) :=
  let u := s.unit v
  match u.lane with
  | none => .error 0x1801
  | some d =>
    if s.laneErr v then .error 0x1801
    else if pr ∧ s.replayVat v then
      let t := s.instLane v ((s.deckleOfVat v).getD 0) 2
      match (t.unit v).lane with
      | some d =>
        let r := drbgGenerate d n add
        .ok (r.1, (t.setUnit v { t.unit v with lane := some r.2 }).bump (R.VDR_RANDOM v))
      | none => .error 0x1801
    else if pr then
      match u.seeds with
      | [] => .error 0x0502
      | x :: xs =>
        let r := drbgGenerate (drbgReseed d x add) n []
        let t := s.setUnit v { u with lane := some r.2, seeds := xs, laneWait := none }
        .ok (r.1, (t.setReg (R.VDR_LANE_RESEED v) (w32 s.beat)).bump (R.VDR_RANDOM v))
    else
      let r := drbgGenerate d n add
      .ok (r.1, (s.setUnit v { u with lane := some r.2 }).bump (R.VDR_RANDOM v))

/-! ### Seeds (R566 to R569, R574) -/

/-- A seed enters the store, or is discarded when the store is full (R568); what waits for a seed proceeds. -/
def State.seedIn (s : State) (x : Bytes) : State :=
  if 1024 ≤ s.spr.store.length then s
  else
    let s := s.mapSpr fun p => { p with store := p.store ++ [x], wasHigh := p.wasHigh || decide (256 ≤ p.store.length + 1) }
    let s := s.devInstantiate
    let s :=
      if s.spr.cmdAt ≠ none ∧ s.spr.device ≠ none then (s.devReseed s.addin).mapSpr fun p => { p with cmdAt := none }
      else s
    if s.spr.outHeld ∧ s.spr.device ≠ none then (s.devReseed []).mapSpr fun p => { p with outHeld := false } else s

/-- Seeds that vat `v` lacks, as far as the store and `k` reach, are moved to its slots. -/
def State.topUp (s : State) (v : Nat) : Nat → State
  | 0 => s
  | k + 1 =>
    if 3 ≤ (s.unit v).seeds.length then s
    else
      match s.takeSeed with
      | none => s
      | some (x, t) => (t.setUnit v { t.unit v with seeds := (t.unit v).seeds ++ [x] }).topUp v k

/-- The allotment at a close (R574): vats in admission, ascending from the one after the last topped up in full. -/
def State.allotSeeds (s : State) : State :=
  if s.springRaw ∨ s.spr.store = [] then s
  else
    let order := (List.range 64).map fun i => (s.spr.lastVat + 1 + i) % 64
    (order.filter s.inAdmission).foldl (fun s v =>
      let t := s.topUp v 3
      if 3 ≤ (t.unit v).seeds.length then t.mapSpr fun p => { p with lastVat := v } else t) s

/-! ### Health (R570 to R573) -/

/-- Cells in service have changed: FAULT, and events 355 and 356 (R573). -/
def State.serviceCheck (s : State) : State :=
  if s.springStarting then s
  else
    let low := decide (s.cellsUp < (s.reg R.SPRING_MIN_CELLS).toNat)
    if low ∧ ¬ s.springFault then (s.setRegBit R.SPRING_STATUS 2 true).raise 355
    else if ¬ low ∧ s.springFault then (s.setRegBit R.SPRING_STATUS 2 false).raise 356
    else s

/-- Cell `c` fails the RCT, or the APT: counted, out of service, excluded at its fourth failure (R572). In raw mode it is
counted only (R591). -/
def State.cellFail (s : State) (c : Nat) (apt : Bool) : State :=
  let x := s.spr.cells.getD c NoiseCell.none
  let s := (s.bump (if apt then R.SPRING_APT_FAILS else R.SPRING_RCT_FAILS)).raise (if apt then 353 else 352)
  if s.springRaw then s
  else
    let n := x.fails + 1
    let s := s.setCell c { x with inService := false, testing := false, fails := n, excluded := decide (4 ≤ n), leftAt := s.now }
    let s := if 4 ≤ n then s.raise 354 else s
    s.serviceCheck

/-- Every cell that is not excluded begins its start-up test. -/
def State.startCells (s : State) : State :=
  s.mapSpr fun p => { p with cells := p.cells.map fun c =>
    if c.excluded then c else { c with inService := false, testing := true } }

/-- The end of start-up tests: when none runs any more, STARTING clears with event 365 (R571, R579). -/
def State.startDone (s : State) : State :=
  if s.springStarting ∧ ¬ s.spr.cells.any (fun c => c.testing) then
    ((s.setRegBit R.SPRING_STATUS 1 false).raise 365).serviceCheck.devInstantiate
  else s

/-! ### Control writes (R588 to R594, R599, R601) -/

/-- ENABLE is set (R571). -/
def State.springEnable (s : State) : State := ((s.setRegBit R.SPRING_STATUS 1 true).startCells).setRegBit R.SPRING_CTRL 0 true

/-- Raw mode may begin (R588). -/
def State.rawAllowed (s : State) : Bool :=
  !s.regBit R.ADMIT_STATUS 0 && decide (s.life ≠ 4) &&
    s.bt.jobs.all fun j => match j.stage with | .admitted _ _ => false | _ => true

/-- Raw mode begins (R589). -/
def State.rawEnter (s : State) : State :=
  ((s.setRegBit R.SPRING_CTRL 1 true).mapSpr fun p => { p with store := [], devQueue := [], rawFifo := [] }).raise 361

/-- Raw mode ends (R592). -/
def State.rawExit (s : State) : State :=
  (((s.setRegBit R.SPRING_CTRL 1 false).mapSpr fun p => { p with rawFifo := [], store := [], outHeld := true }).startCells).raise 361

/-- The test pattern is set (R593). -/
def State.testEnter (s : State) : State :=
  ((s.setRegBit R.SPRING_CTRL 2 true).mapSpr fun p => { p with pattern := 0 }).raise 363

/-- Seed `k` of the test pattern (R593). -/
def State.patternSeed (s : State) (k : Nat) : Bytes := sha256 (s.regBytes (R.SPRING_PATTERN 0) 8 ++ leBytes 8 k)

/-- The spring's part of leaving the blank state (R594). -/
def State.springLeaveBlank (s : State) : State :=
  let s := s.setRegBit R.SPRING_CTRL 2 false
  let s := s.mapSpr fun p => { p with store := [], device := none, devQueue := [], units := List.replicate 64 DrbgUnit.reset }
  (s.setRegBit R.SPRING_STATUS 1 true).startCells

/-- Seeds, slots, instances and queues are written with zero (R595). -/
def State.springClear (s : State) : State :=
  s.mapSpr fun p => { p with store := [], device := none, devQueue := [], units := List.replicate 64 DrbgUnit.reset, rawFifo := [],
                             cmdAt := none, reinst := [], wasHigh := false }

/-- The part of a write of SPRING_CTRL that acts beyond the plain fields: ENABLE, RAW and TEST, each on its change. -/
def State.springCtrl (s : State) (who : Sender) (w : Word) : State :=
  let s := if bit w 0 ∧ ¬ s.springOn then s.springEnable else s
  let s :=
    if bit w 1 ∧ ¬ s.springRaw then
      if s.rawAllowed then s.rawEnter else s.errAt errIgnored who .store R.SPRING_CTRL
    else if ¬ bit w 1 ∧ s.springRaw then s.rawExit
    else s
  if bit w 2 ∧ ¬ s.springTest then
    if s.life = 0 then s.testEnter else s.errAt errIgnored who .store R.SPRING_CTRL
  else if ¬ bit w 2 ∧ s.springTest then s.setRegBit R.SPRING_CTRL 2 false
  else s

/-- A write of SPRING_CMD (R581, R583, R589, R601, R602). -/
def State.springCmd (s : State) (who : Sender) (w : Word) : State :=
  if s.springRaw then s.errAt errIgnored who .store R.SPRING_CMD
  else
    let s :=
      if bit w 0 ∧ s.spr.device ≠ none ∧ ¬ s.devErr then
        if s.spr.store = [] then s.mapSpr fun p => { p with cmdAt := some (p.cmdAt.getD s.now) }
        else s.devReseed s.addin
      else s
    if bit w 1 then
      let v := field w 13 8
      match s.deckleOfVat v with
      | some _ => s.mapSpr fun p => { p with reinst := p.reinst ++ [v] }
      | none => s.errAt errRange who .store R.SPRING_CMD
    else s

/-- Lanes commanded to be instantiated again are, at the edge (R583); the device DRBG reseeds first (R579). -/
def State.reinstLanes (s : State) : State :=
  if s.spr.reinst = [] then s
  else
    let t := s.devReseed []
    (s.spr.reinst.foldl (fun t v =>
      match t.deckleOfVat v with
      | some d => t.instLane v d
      | none => t) t).mapSpr fun p => { p with reinst := [] }

/-! ### Reads with effects -/

/-- A read of SPRING_OUT: the next four bytes, none where R598 gives an access error. -/
def State.springOut (s : State) : Option (Word × State) :=
  if s.springRaw ∨ s.devErr ∨ s.spr.outHeld ∨ s.spr.device = none then none
  else
    let r := s.drawDev 4
    some (w32 (leNat r.1), r.2)

/-- A read of SPRING_RAW: the next word of the FIFO in raw mode (R590). -/
def State.springRawRead (s : State) : Word × State :=
  match s.springRaw, s.spr.rawFifo with
  | true, x :: xs => (x, s.mapSpr fun p => { p with rawFifo := xs })
  | _, _ => (0, s)

/-- A read of VDR_OUT of vat `v`: four bytes of its queue, none in the error state (R603). -/
def State.vdrOut (s : State) (v : Nat) : Option (Word × State) :=
  match s.drawVat v 4 with
  | some r => some (w32 (leNat r.1), r.2)
  | none => none

/-! ### Periodic reseeds (R575, R580, R583) -/

/-- The edge is one at which vat `v`'s reseeds fall due (R580). -/
def State.reseedDue (s : State) (v : Nat) : Bool :=
  let n := (s.reg R.SPRING_RESEED_INT).toNat
  decide (0 < n) && s.beat % n == v * n / 64

/-- A RANDOM with prediction resistance admitted on vat `v` at this edge, and not yet run. -/
def State.prOn (s : State) (v : Nat) (ran : Bool) : Bool :=
  s.bt.jobs.any fun j =>
    (match j.stage with | .admitted u e => u == v && e == s.beat | _ => false) &&
    leAt j.desc 0 2 == 0x0501 && byteAt j.desc 0x20 % 2 == 1 && (ran || !j.ready)

/-- One periodic reseed of vat `v`: of its vat instance, or of its lane. The seed of a RANDOM that has not yet run stays
untouched (R575). Without a seed it is postponed, and after 16 intervals the instance enters its error state. -/
def State.periodicOne (s : State) (v : Nat) (lane : Bool) : State :=
  let u := s.unit v
  let keep := if s.prOn v false then 1 else 0
  if s.replayVat v ∧ s.spr.device ≠ none then
    if lane then (if u.lane.isSome then s.instLane v ((s.deckleOfVat v).getD 0) 1 else s)
    else if u.vatInst.isSome then s.instVat v 8 1 else s
  else
  match u.seeds.drop keep with
  | x :: xs =>
    let seeds := u.seeds.take keep ++ xs
    if lane then
      match u.lane with
      | some d => (s.setUnit v { u with lane := some (drbgReseed d x []), seeds, laneWait := none }).setReg (R.VDR_LANE_RESEED v) (w32 s.beat)
      | none => s
    else
      match u.vatInst with
      | some d => (s.setUnit v { u with vatInst := some (drbgReseed d x []), seeds, vatWait := none }).setReg (R.VDR_LAST_RESEED v) (w32 s.beat)
      | none => s
  | [] =>
    let since := (if lane then u.laneWait else u.vatWait).getD s.beat
    let u := if lane then { u with laneWait := some since } else { u with vatWait := some since }
    let s := (s.setUnit v u).raise 364
    if s.beat < since + 16 * (s.reg R.SPRING_RESEED_INT).toNat then s
    else if lane then if s.laneErr v then s else ((s.setMaskBit R.SPRING_LANE_ERR_LO v true).raise 359).raiseLocal v 4
    else if s.vatErr v then s else (((s.setMaskBit R.SPRING_VAT_ERR_LO v true).raise 358).raiseLocal v 4).parkFault v

/-! ### The commands -/

/-- SEED_COMPLETE: a run of 640 samples of a cell in service becomes a seed (R567, R568); with the test pattern set, the next
seed of the pattern (R593). -/
def execSeedComplete (c : Fin 128) (samples : Bytes) (s : State) : Res :=
  .next <|
    if ¬ s.springOn ∨ s.springRaw then s
    else if s.springTest then (s.mapSpr fun p => { p with pattern := p.pattern + 1 }).seedIn (s.patternSeed s.spr.pattern)
    else if (s.spr.cells.getD c.val NoiseCell.none).inService ∧ ¬ s.springFault ∧ samples.length = 80 then s.seedIn (sha256 samples)
    else s

/-- CELL_HEALTH_FAILURE: a cell in service fails the RCT or the APT (R572). -/
def execCellHealthFailure (c : Fin 128) (apt : Bool) (s : State) : Res :=
  .next <| if s.springOn ∧ ¬ s.springTest ∧ (s.spr.cells.getD c.val NoiseCell.none).inService then s.cellFail c.val apt else s

/-- CELL_RETEST: 1 ms after its failure a cell that is not excluded begins its start-up test again (R572). -/
def execCellRetest (c : Fin 128) (s : State) : Res :=
  let x := s.spr.cells.getD c.val NoiseCell.none
  .next <|
    if s.springOn ∧ ¬ s.springRaw ∧ ¬ x.inService ∧ ¬ x.excluded ∧ ¬ x.testing then
      ({ s with now := max s.now (x.leftAt + 1000000) }).setCell c.val { x with testing := true }
    else s

/-- CELL_STARTUP_COMPLETE: a cell's start-up test ends; on a pass the cell enters service (R571). -/
def execCellStartupComplete (c : Fin 128) (pass apt : Bool) (s : State) : Res :=
  let x := s.spr.cells.getD c.val NoiseCell.none
  .next <|
    if x.testing then
      if pass then ((s.setCell c.val { x with testing := false, inService := true }).serviceCheck).startDone
      else (s.cellFail c.val apt).startDone
    else s

/-- PERIODIC_RESEED: the vat instance and the lane of vat `v` take the reseeds that are due or postponed (R575, R580). A RANDOM
with prediction resistance at this edge serves as the lane's. -/
def execPeriodicReseed (v : Vat) (s : State) : Res :=
  let u := s.unit v.val
  let due := s.reseedDue v.val
  let t := if u.vatInst.isSome && (due || u.vatWait.isSome) && !s.vatErr v.val then s.periodicOne v.val false else s
  .next <| if u.lane.isSome && (due || u.laneWait.isSome) && !s.laneErr v.val && !s.prOn v.val true then t.periodicOne v.val true else t

/-- DEVICE_DRBG_RESEED: the device DRBG reseeds itself from a seed (R581). -/
def execDeviceDrbgReseed (s : State) : Res := .next <| if s.springRaw ∨ s.devErr then s else s.devReseed []

/-- DEVICE_DRBG_RESEED_TIMEOUT: a commanded reseed found no seed within 1 ms; the device DRBG enters its error state (R583). -/
def execDeviceDrbgReseedTimeout (s : State) : Res :=
  .next <|
    match s.spr.cmdAt with
    | some t =>
      (({ s with now := max s.now (t + 1000000) }.mapSpr fun p => { p with cmdAt := none }).setRegBit R.SPRING_STATUS 6 true).raise 360
    | none => s

/-- RAW_SAMPLE_WORD: 32 samples of a cell enter the FIFO of raw mode, or are discarded and counted when it is full (R590). -/
def execRawSampleWord (c : Fin 128) (w : Word) (s : State) : Res :=
  let sel := s.reg R.SPRING_RAW_SEL
  let chosen := if bit sel 7 then (s.spr.cells.getD c.val NoiseCell.none).inService else field sel 6 0 == c.val
  .next <|
    if s.springRaw ∧ chosen then
      if s.spr.rawFifo.length < 256 then s.mapSpr fun p => { p with rawFifo := p.rawFifo ++ [w] }
      else (s.bump R.SPRING_RAW_LOST).raise 362
    else s

end Sys2Proof.Machine
end

