-- ==== Sys2Proof/Machine/KeyStore.lean ====
section
/-! DEFINITION. Key custody as the verbs see it (06): handles, records visible at an edge, the checks of R103, counters, the key
ladder, wrapped records, and the deep store's record copies. -/

namespace Sys2Proof.Machine

/-! ### Descriptors (R239) -/

def dVerb (b : Bytes) : Nat := leAt b 0 2
def dAlg (b : Bytes) : Nat := byteAt b 2
def dKeyA (b : Bytes) : Nat := leAt b 4 4
def dInLen (b : Bytes) : Nat := leAt b 8 4
def dOutLen (b : Bytes) : Nat := leAt b 12 4
def dInOff (b : Bytes) : Nat := leAt b 16 4
def dOutOff (b : Bytes) : Nat := leAt b 20 4
def dTag (b : Bytes) : Nat := leAt b 24 4

/-! ### Handles (R296) -/

def hTerm (h : Nat) : Bool := h / 2 ^ 23 % 2 == 1
def hClass (h : Nat) : Nat := h / 2 ^ 21 % 4
def hIndex (h : Nat) : Nat := if hTerm h then h % 2 ^ 23 else h % 2 ^ 21

/-- Key usages, as two ASCII characters. -/
abbrev uP0 : Nat := 0x5030
abbrev uB0 : Nat := 0x4230
abbrev uB1 : Nat := 0x4231
abbrev uD0 : Nat := 0x4430
abbrev uE0 : Nat := 0x4530
abbrev uK0 : Nat := 0x4B30
abbrev uK1 : Nat := 0x4B31
abbrev uK3 : Nat := 0x4B33
abbrev uM3 : Nat := 0x4D33
abbrev uM6 : Nat := 0x4D36
abbrev uM7 : Nat := 0x4D37
abbrev uV0 : Nat := 0x5630
abbrev uV1 : Nat := 0x5631
abbrev uTok : Nat := 0x3931
abbrev uS0 : Nat := 0x5330
abbrev uS1 : Nat := 0x5331

/-- Modes of use and exportability, as ASCII characters. -/
abbrev mB : Nat := 0x42
abbrev mC : Nat := 0x43
abbrev mD : Nat := 0x44
abbrev mE : Nat := 0x45
abbrev mG : Nat := 0x47
abbrev mN : Nat := 0x4E
abbrev mS : Nat := 0x53
abbrev mV : Nat := 0x56
abbrev mX : Nat := 0x58

/-- The combinations of usage, mode and type that a record may have (R305); B1 for terminal contexts only. -/
def keyCombo (usage mode kt : Nat) : Bool :=
  let enc := [mE, mD, mB].contains mode
  let mac := [mG, mV, mC].contains mode
  let hi := kt / 256
  let a := kt % 256
  if usage = uP0 ∨ usage = uD0 ∨ usage = uK0 ∨ usage = uK1 then enc && (ktTdes kt || ktAes kt)
  else if usage = uB0 ∨ usage = uB1 then mode == mX && ktAes kt
  else if usage = uE0 then mode == mX && (kt == 1 || ktAes kt)
  else if usage = uM3 then mac && kt == 1
  else if usage = uM6 then mac && ktAes kt
  else if usage = uM7 then mac && ktHmac kt
  else if usage = uV0 ∨ usage = uV1 then [mC, mV].contains mode && (ktTdes kt || ktAes kt)
  else if usage = uTok then enc && ktAes kt
  else if usage = uS0 ∨ usage = uS1 then
    decide (0x41 ≤ a) && decide (a ≤ 0x4A) && ((hi == 1 && [mS, mN].contains mode) || (hi == 2 && [mV, mN].contains mode))
  else if usage = uK3 then mode == mX && decide (0x51 ≤ a) && decide (a ≤ 0x56) && (hi == 1 || hi == 2)
  else false

/-! ### Public-key encodings (R164) -/

/-- Length of the R164 encoding of a public key of algorithm `a`. -/
def pubLen (a : Nat) : Nat :=
  match a with
  | 0x41 | 0x51 => 65
  | 0x42 | 0x52 => 97
  | 0x43 | 0x53 => 32
  | 0x44 => 260
  | 0x45 => 388
  | 0x46 => 516
  | 0x47 => 1312
  | 0x48 => 1952
  | 0x49 => 2592
  | 0x4A => 2017
  | 0x54 => 800
  | 0x55 => 1184
  | 0x56 => 1568
  | _ => 0

/-- Lines of the private and public sections of a key type, header included (R303, R304). -/
def secLines (n : Nat) : Nat := if n = 0 then 0 else 1 + ceilDiv n 64

/-- Whether the material of a type goes into a private section, and how much inline (R303). -/
def inlineLen (r : KeyRec) : Nat := if r.ktype = 0x144 ∨ r.ktype = 0x145 ∨ r.ktype = 0x146 then 0 else min 64 r.key.length

/-- Lines of the sections of a record (R303). -/
def extLines (r : KeyRec) : Nat :=
  (if r.key.length ≤ inlineLen r then 0 else secLines (if r.ktype = 0x21 then r.key.length - 64 else r.key.length)) + secLines r.pub.length

/-! ### The key ladder (R292, R295) -/

/-- The SP 800-108 KDF in counter mode with AES-256-CMAC. -/
def kdf108 (key label ctx : Bytes) (bits : Nat) : Bytes :=
  (((List.range (ceilDiv bits 128)).map fun i =>
    aesCmac key (beBytes 4 (i + 1) ++ label ++ [0] ++ ctx ++ beBytes 4 bits)).flatten).take (bits / 8)

/-- DMK of deckle `d`, zero when there is none. -/
def State.dmk (s : State) (d : Nat) : Bytes := (s.ks.dmk.lookup d).getD (zeros 32)

/-- A working key of deckle `d`. -/
def State.ladder (s : State) (d : Nat) (label : String) (bits : Nat) : Bytes := kdf108 (s.dmk d) (ascii label) [by8 d] bits

/-! ### Wrapped records (R300, R302, R306) -/

/-- The 128 bytes of a record at rest, wrapped under RWK or TWK. -/
def State.wrapRec (s : State) (r : KeyRec) : Bytes :=
  let term := hTerm r.handle
  let hdr := leBytes 4 r.handle ++ leBytes 4 r.gen ++ leBytes 4 r.salt ++ [by8 r.state, by8 r.key.length] ++ leBytes 2 r.ktype ++
    beBytes 2 r.usage ++ [by8 r.mode, by8 r.expo] ++ beBytes 2 r.kvn ++
    (if term then zeros 2 ++ padTo 8 r.ikId else leBytes 2 (extLines r) ++ leBytes 4 r.extIdx ++ padTo 3 r.kcv ++ [0])
  let ctr := if term then leBytes 4 r.lastCtr ++ zeros 4 else leBytes 8 r.counter
  let created := leBytes 8 r.created
  let key := s.ladder r.deckle (if term then "NV64 TWK" else "NV64 RWK") 256
  let c := gcmEnc key (leBytes 4 r.handle ++ leBytes 4 r.gen ++ leBytes 4 r.salt) (hdr ++ created) (padTo 64 (r.key.take (inlineLen r)))
  hdr ++ ctr ++ created ++ c.1 ++ c.2

/-- A section of a record (R304), empty when there is nothing to hold. -/
def State.wrapSection (s : State) (r : KeyRec) (kind : Nat) (data : Bytes) : Bytes :=
  if data = [] then []
  else
    let hdr := leBytes 4 r.handle ++ leBytes 4 r.gen ++ [by8 kind] ++ zeros 3 ++ leBytes 4 data.length ++ zeros 32
    let c := gcmEnc (s.ladder r.deckle "NV64 RWK" 256) (leBytes 4 r.handle ++ leBytes 4 r.gen ++ leBytes 4 (r.salt + kind)) hdr data
    hdr ++ c.2 ++ c.1 ++ zeros ((64 - data.length % 64) % 64)

/-- A record with its sections. -/
def State.wrapAll (s : State) (r : KeyRec) : Bytes :=
  s.wrapRec r ++ s.wrapSection r 1 (r.key.drop (inlineLen r)) ++ s.wrapSection r 2 r.pub

/-! ### Records and what a job sees (R301, R316) -/

/-- The empty record of a handle. -/
def KeyRec.empty (d h : Nat) : KeyRec where
  deckle := d
  handle := h
  gen := 0
  salt := 0
  state := 0
  ktype := 0
  usage := 0
  mode := 0
  expo := 0
  kvn := 0
  extIdx := 0
  kcv := []
  counter := 0
  created := 0
  key := []
  pub := []
  ikId := zeros 8
  lastCtr := 0
  since := 0
  badTag := false

/-- The versions of a handle, latest first. -/
def State.keyVersions (s : State) (d h : Nat) : List KeyRec := s.ks.recs.filter fun r => r.deckle == d && r.handle == h

/-- The version of handle `h` that a job admitted at edge `e` sees (R316). -/
def State.keyAt (s : State) (d h e : Nat) : KeyRec :=
  ((s.keyVersions d h).find? fun r => decide (r.since ≤ e)).getD (KeyRec.empty d h)

/-- The committed version of a handle: the newest. -/
def State.keyNow (s : State) (d h : Nat) : KeyRec := (s.keyVersions d h).headD (KeyRec.empty d h)

def State.mapKs (s : State) (f : KeysState → KeysState) : State := { s with ks := f s.ks }

/-- A new version of a record is installed as the working copy in HBM. -/
def State.install (s : State) (r : KeyRec) : State := s.mapKs fun k => { k with recs := r :: k.recs }

/-- A version of a record in place of the one of the same handle and generation. -/
def State.replaceRec (s : State) (r : KeyRec) : State :=
  s.mapKs fun k => { k with recs := k.recs.map fun x =>
    if x.deckle = r.deckle ∧ x.handle = r.handle ∧ x.gen = r.gen then r else x }

/-- Versions that no unreleased job can see any more go (R316). -/
def State.pruneKeys (s : State) : State :=
  let edges := s.bt.jobs.filterMap fun j => match j.stage with | .admitted _ e => some e | _ => none
  let low := edges.foldl min s.beat
  s.mapKs fun k => { k with recs := k.recs.filter fun r =>
    !(k.recs.any fun n => n.deckle == r.deckle && n.handle == r.handle && decide (r.gen < n.gen) && decide (n.since ≤ low)) ||
      (k.window.any fun w => s.deckleOfVat w.vat == some r.deckle && w.handle == r.handle && w.gen == r.gen) }

/-! ### The checks of R103 -/

/-- Steps 1 to 3 of R103 on a record. -/
def State.keyAlive (s : State) (d h : Nat) (r : KeyRec) : List (Bool × Nat) :=
  let inSpace := !hTerm h || decide (hIndex h < (s.reg (R.KEYS_TR_SPACE d)).toNat)
  [(r.state != 0 && inSpace, 0x1001), (r.state != 4 && !r.badTag, 0x1002), (r.state == 1, 0x1003)]

/-- Steps 1 to 6 of R103. -/
def State.keyChecks (s : State) (d h : Nat) (r : KeyRec) (usages modes : List Nat) (algOk : Bool) : List (Bool × Nat) :=
  s.keyAlive d h r ++ [(usages.contains r.usage, 0x1004), (modes.contains r.mode, 0x1005), (algOk, 0x1006)]

/-- A symmetric type that the deckle's policy accepts (R105). -/
def tdesOk (t : DSet) (kt : Nat) : Bool := !ktTdes kt || symBit t 4

/-! ### Counters (R128, R309, R948) -/

/-- The latest counter of a handle that a job on vat `v`, admitted at `b` and working at `w`, sees (R129, R948). -/
def State.counterSeen (s : State) (d h v b w start : Nat) : Nat :=
  match s.ks.ctrs.find? fun c => c.deckle == d && c.handle == h && (c.ream == (v, b) || decide (c.since ≤ w)) with
  | some c => c.value
  | none => start

/-- The last counter written for a handle, or what its record started with. -/
def State.counterNow (s : State) (d h start : Nat) : Nat :=
  match s.ks.ctrs.find? fun c => c.deckle == d && c.handle == h with
  | some c => c.value
  | none => start

/-- A counter written by a job, visible as R948 gives. -/
def State.writeCounter (s : State) (c : CounterWrite) : State := s.mapKs fun k => { k with ctrs := c :: k.ctrs }

/-- Counter writes that a later write hides from every job go. -/
def State.pruneCounters (s : State) : State :=
  let edges := s.bt.jobs.filterMap fun j => match j.stage with | .admitted _ e => some e | _ => none
  let low := edges.foldl min s.beat
  s.mapKs fun k => { k with ctrs :=
    ((k.ctrs.zipIdx).filter fun p => !((k.ctrs.take p.2).any fun n => n.deckle == p.1.deckle && n.handle == p.1.handle && decide (n.since ≤ low))).map (·.1) }

/-! ### Vault entries (R139, R397) -/

/-- The entry of a key handle and token that a job on vat `v` admitted at `b` sees (R141, R948). -/
def State.vaultSeen (s : State) (d h : Nat) (token : List Nat) (v b : Nat) : Option VaultEntry :=
  s.ks.vault.find? fun e => e.deckle == d && e.handle == h && e.token == token && (e.ream == (v, b) || decide (e.since ≤ b))

/-- Digits packed two to a byte, padded with 0xF to 16 bytes. -/
def packToken (t : List Nat) : Bytes := unnibble (fillTo 32 15 t)

/-- The bucket of an entry (R397). -/
def State.vaultBucket (s : State) (d h : Nat) (token : List Nat) : Nat :=
  beNat (aesCmac (s.ladder d "NV64 VLT" 256) (leBytes 4 h ++ packToken token)) % rsvBuckets (s.part d)

/-- The latest entries of a deckle, one for each handle and token. -/
def State.vaultLatest (s : State) (d : Nat) : List VaultEntry :=
  (s.ks.vault.filter fun e => e.deckle == d).foldl (fun l e =>
    if l.any fun x => x.handle == e.handle && x.token == e.token then l else l ++ [e]) []

/-- The bucket holds 64 entries (R397). -/
def State.bucketFull (s : State) (d k : Nat) : Bool :=
  decide (64 ≤ ((s.vaultLatest d).filter fun e => s.vaultBucket d e.handle e.token == k).length)

/-- The 64 bytes of an entry (R397). -/
def vaultBytes (e : VaultEntry) : Bytes :=
  leBytes 4 e.handle ++ [by8 e.state, by8 e.token.length] ++ leBytes 2 e.domain ++ packToken e.token ++
    leBytes 8 e.created ++ leBytes 8 e.changed ++ zeros 24

/-! ### The deep store (R347 to R351) -/

/-- Bank offset of a deep-store record. -/
def deepOff (id : Nat) : Nat :=
  if 0x10 ≤ id ∧ id < 0x20 then 0x100 + (id - 0x10) * 0x100
  else match id with
    | 0x0001 => 0
    | 0x0100 => 0x2000
    | 0x0101 => 0x3000
    | 0x0103 => 0x4000
    | 0x0105 => 0x6000
    | 0x0106 => 0x7000
    | 0x0104 => 0x8000
    | _ => 0x10000

/-- Deep-store offset of copy `k` of a record; the state block has an area of its own (R414). -/
def deepAt (id k : Nat) : Nat := if id = 0x0102 then 0x3F0000 + 0x4000 * k else 0x140000 * k + deepOff id

/-- The MAC of a copy (R348). -/
def deepMac (hdr data : Bytes) : Bytes := aesCmac ((List.range 32).map Config.deepMacKey) (hdr.take 16 ++ data)

/-- A copy as stored, with its STATE. -/
def deepImage (id st gen : Nat) (data : Bytes) : Bytes :=
  let hdr := leBytes 2 id ++ [by8 st, 0] ++ leBytes 4 data.length ++ leBytes 4 gen ++ zeros 4
  hdr ++ deepMac hdr data ++ data

/-- The copy at an offset. -/
def DeepStore.at (p : DeepStore) (off : Nat) : Option Bytes := (p.copies.find? fun c => c.off == off).map (·.image)

/-- A copy written at an offset. -/
def DeepStore.put (p : DeepStore) (off : Nat) (im : Bytes) : DeepStore :=
  { p with copies := ⟨off, im⟩ :: p.copies.filter fun c => c.off != off }

/-- Fields of a copy. -/
def deepGen (im : Bytes) : Nat := leAt im 8 4
def deepData (im : Bytes) : Bytes := slice im 32 (leAt im 4 4)

/-- A copy passes integrity: its ID, STATE and MAC are right (R348). -/
def deepOk (id : Nat) (im : Bytes) : Bool :=
  leAt im 0 2 == id && (byteAt im 2 == 0x5A || byteAt im 2 == 0xA5) && slice im 16 16 == deepMac im (deepData im)

/-- A copy counts as committed (R350). -/
def DeepStore.committed (p : DeepStore) (id : Nat) (im : Bytes) : Bool :=
  byteAt im 2 == 0x5A || p.commits.contains (id, deepGen im)

/-- The copies of a record that pass integrity and are committed. -/
def DeepStore.valid (p : DeepStore) (id : Nat) : List Bytes :=
  ([0, 1, 2].filterMap fun k => p.at (deepAt id k)).filter fun im => deepOk id im && p.committed id im

/-- Two valid copies of one generation differ (R351). -/
def DeepStore.conflict (p : DeepStore) (id : Nat) : Bool :=
  let l := p.valid id
  l.any fun a => l.any fun b => deepGen a == deepGen b && deepData a != deepData b

/-- The winner among a record's copies (R350). -/
def DeepStore.choose (p : DeepStore) (id : Nat) : Option Bytes :=
  if p.conflict id then none
  else (p.valid id).foldl (fun o im =>
    match o with
    | some x => if deepGen x < deepGen im then some im else o
    | none => some im) none

/-- The data of a record, if it has a committed copy. -/
def State.deepData (s : State) (id : Nat) : Option Bytes := (s.deep.choose id).map Machine.deepData

/-- The generation of a record, 0 when there is none. -/
def State.deepGen (s : State) (id : Nat) : Nat :=
  match s.deep.choose id with
  | some im => Machine.deepGen im
  | none => 0

/-- A record written by the whole sequence of R349: three pending copies, the commit entry with its DEEP_COMMIT record, three
committed copies. -/
def State.deepWrite (s : State) (id : Nat) (data : Bytes) : State :=
  let g := s.deepGen id + 1
  let im := deepImage id 0x5A g data
  let p := [0, 1, 2].foldl (fun p k => DeepStore.put p (deepAt id k) im) s.deep
  ({ s with deep := { p with commits := (id, g) :: p.commits.filter fun c => c.1 != id } }).queueRec
    (plainRec 1 16 0x13 1 (leBytes 2 id ++ leBytes 4 g) [])

/-- The copies of a record written with zero. -/
def State.deepErase (s : State) (id : Nat) : State :=
  let offs := [0, 1, 2].map (deepAt id)
  { s with deep := { copies := s.deep.copies.filter (fun c => !offs.contains c.off), commits := s.deep.commits.filter fun c => c.1 != id } }

/-- The copies of a record that are not the winner are written from it; answers how many (R350). -/
def State.deepRepair (s : State) (id : Nat) : State × Nat :=
  match s.deep.choose id with
  | none => (s, 0)
  | some im =>
    let w := deepImage id 0x5A (Machine.deepGen im) (Machine.deepData im)
    let bad := [0, 1, 2].filter fun k => s.deep.at (deepAt id k) != some w
    ({ s with deep := bad.foldl (fun p k => DeepStore.put p (deepAt id k) w) s.deep }, bad.length)

/-- A wrapped key as the deep store holds it: what the wrap gives, the spec leaves open (notes/assumptions/6.md). -/
def deepWrapped (key : Bytes) (gen : Nat) : Bytes := (List.range 48).map (Config.deepWrap key gen)

end Sys2Proof.Machine
end

