-- ==== Sys2Proof/Machine/Resv.lean ====
section
/-! DEFINITION. The reservoir (R401 to R413): namespaces and striping, block encryption and versions, the Merkle tree, the
commit of its root, and the sweep. -/

namespace Sys2Proof.Machine

/-! ### Namespaces (R401, R402) -/

/-- The namespace of a kind and owner (16 for the device). -/
def State.nsFind (s : State) (kind owner : Nat) : Option Ns :=
  (namespaces s.dev).find? fun n => n.kind == kind && n.owner == owner

/-- The namespace that holds a block. -/
def State.nsOfRbn (s : State) (rbn : Nat) : Option Ns :=
  (namespaces s.dev).find? fun n => decide (n.rbn ≤ rbn) && decide (rbn < n.rbn + n.blocks)

/-- The ports of a mask, ascending. -/
def maskPorts (m : Nat) : List Nat := (List.range 16).filter fun p => nbit m p

/-- Port and LBA of block `j` of a namespace (R402). -/
def Ns.place (n : Ns) (j : Nat) : Nat × Nat :=
  let ports := maskPorts n.ports
  let k := ports.length
  (ports.getD (j / 16 % k) 0, n.lba + j / 16 / k * 16 + j % 16)

/-- Reservoir service runs (R423). -/
def State.resvReady (s : State) : Bool := s.regBit R.RESV_STATUS 0

/-- RESV_BLOCKS of the mould in force (R422). -/
def State.resvBlocks (s : State) : Nat := devBlocks s.dev

/-! ### The tree (R405 to R407) -/

/-- Nodes of a level. -/
def nodeCount (blocks k : Nat) : Nat := ceilDiv blocks (16 ^ k)

/-- First node number of level `k + 1` (R407). -/
def nodeBase (blocks : Nat) : Nat → Nat
  | 0 => 0
  | k + 1 => nodeBase blocks k + nodeCount blocks (k + 1)

/-- The node of level `k + 1` over blocks that all exist and were never written. -/
def fullNode : Nat → Bytes
  | 0 => zeros 512
  | k + 1 => let h := (sha384 (fullNode k)).take 32; (List.replicate 16 h).flatten

/-- Node `i` of level `k + 1` over blocks never written: entries without a child are zero. -/
def emptyNode (blocks : Nat) : Nat → Nat → Bytes
  | 0, _ => zeros 512
  | k + 1, i =>
    if 16 ^ (k + 2) * (i + 1) ≤ blocks then fullNode (k + 1)
    else
      ((List.range 16).map fun j =>
        let c := 16 * i + j
        if nodeCount blocks (k + 1) ≤ c then zeros 32
        else if 16 ^ (k + 1) * (c + 1) ≤ blocks then (sha384 (fullNode k)).take 32
        else (sha384 (emptyNode blocks k c)).take 32).flatten

/-- Node `i` of level `k`. -/
def State.node (s : State) (k i : Nat) : Bytes :=
  match s.jn.nodes.find? fun n => n.1 == k && n.2.1 == i with
  | some n => n.2.2
  | none => emptyNode s.resvBlocks (k - 1) i

/-- Node `i` of level `k` given the bytes `b`. -/
def State.setNode (s : State) (k i : Nat) (b : Bytes) : State :=
  { s with jn := { s.jn with nodes := (k, i, b) :: s.jn.nodes.filter fun n => !(n.1 == k && n.2.1 == i) } }

/-- The tree root (R405). -/
def State.treeRoot (s : State) : Bytes := sha384 (s.node 9 0)

/-- The version of a block (R406). -/
def State.blockVersion (s : State) (rbn : Nat) : Nat := leNat (slice (s.node 1 (rbn / 16)) (32 * (rbn % 16)) 8)

/-- The entries above node `i` of level `k` follow its new contents, through `f` levels. -/
def State.treeUp (s : State) (k i : Nat) : Nat → State
  | 0 => s
  | f + 1 =>
    let h := (sha384 (s.node k i)).take 32
    (s.setNode (k + 1) (i / 16) (patch (s.node (k + 1) (i / 16)) (32 * (i % 16)) h)).treeUp (k + 1) (i / 16) f

/-! ### NVMe commands (R791 to R794) -/

def State.mapLk (s : State) (f : LinkState → LinkState) : State := { s with lk := f s.lk }

/-- A reservoir port can issue commands: its link is up and its controller ready. -/
def State.portReady (s : State) (q : Nat) : Bool := s.regBit (R.RESPORT_STATUS q) 0 && s.regBit (R.RESPORT_STATUS q) 8

/-- An NVMe command ends in error (R422, event 265). -/
def State.ioError (s : State) : State := (s.bump R.RESV_IO_ERR).raise 265

/-- Port `q` issues a command, or it fails without reaching the link (R794). -/
def State.nvmeIssue (s : State) (q : Nat) (kind : NvmeKind) (lba rbn : Nat) (data : Bytes) : State :=
  if s.portReady q then
    let s := s.mapLk fun k => { k with nvme := k.nvme ++ [⟨q, kind, lba, rbn, data, s.now, none⟩] }
    match kind with
    | .write => s.emit (.reservoir q lba) data
    | .read => s.emit (.reservoirRead q lba) []
    | .flush => s.emit (.nvme q) []
  else s.ioError

/-! ### Blocks (R403, R404, R406) -/

/-- The 512-bit key of a namespace's owner (R404). -/
def State.resvKey (s : State) (owner : Nat) : Bytes :=
  if owner < 16 then s.ladder owner "NV64 RSV" 512 else kdf108 (s.ks.drk.getD (zeros 32)) (ascii "NV64 DRS") [] 512

/-- A block as it lies in NVMe (R404). -/
def State.resvCipher (s : State) (n : Ns) (rbn version : Nat) (data : Bytes) : Bytes :=
  if n.kind = 6 then data
  else
    let k := s.resvKey n.owner
    xts (aesEnc (k.take 32)) (k.drop 32) (leBytes 8 rbn ++ leBytes 8 version) data

/-- The TREE blocks that hold the level 1 and level 2 nodes of a block (R407). -/
def State.treeBlocks (s : State) (rbn : Nat) : List Nat :=
  [(nodeBase s.resvBlocks 0 + rbn / 16) / 8, (nodeBase s.resvBlocks 1 + rbn / 256) / 8]

/-- Block `t` of the TREE namespace is written as its nodes stand. -/
def State.writeTreeBlock (s : State) (t : Nat) : State :=
  match s.nsFind 6 16 with
  | none => s
  | some n =>
    let l1 := nodeCount s.resvBlocks 1
    let img := ((List.range 8).map fun i =>
      let m := 8 * t + i
      if m < l1 then s.node 1 m else s.node 2 (m - l1)).flatten
    let p := n.place t
    (s.nvmeIssue p.1 .write p.2 (n.rbn + t) img).bump64 R.RESV_WRITES_LO 1

/-- Block `j` of a namespace is written with `data`: version raised, ciphertext written, the tree updated (R406). -/
def State.resvWrite (s : State) (n : Ns) (j : Nat) (data : Bytes) : State :=
  let rbn := n.rbn + j
  let v := s.blockVersion rbn + 1
  let c := s.resvCipher n rbn v data
  let p := n.place j
  let entry := leBytes 8 v ++ (sha384 (leBytes 8 rbn ++ leBytes 8 v ++ c)).take 24
  let s := (s.nvmeIssue p.1 .write p.2 rbn c).bump64 R.RESV_WRITES_LO 1
  let s := { s with jn := { s.jn with blocks := (rbn, v, data) :: s.jn.blocks.filter fun b => b.1 != rbn } }
  let s := (s.setNode 1 (rbn / 16) (patch (s.node 1 (rbn / 16)) (32 * (rbn % 16)) entry)).treeUp 1 (rbn / 16) 8
  (s.treeBlocks rbn).foldl State.writeTreeBlock s

/-- What block `rbn` holds in clear. -/
def State.resvClear (s : State) (rbn : Nat) : Option Bytes := (s.jn.blocks.find? fun b => b.1 == rbn).map (·.2.2)

/-- The read of block `rbn` leaves on its port (R402). -/
def State.resvIssueRead (s : State) (rbn : Nat) : State :=
  match s.nsOfRbn rbn with
  | some n =>
    let p := n.place (rbn - n.rbn)
    (s.nvmeIssue p.1 .read p.2 rbn []).bump64 R.RESV_READS_LO 1
  | none => s

/-- A block fails verification: counted, INTEG_SEEN, event 263 (R408, R423). -/
def State.integFail (s : State) : State := ((s.bump R.RESV_INTEG_FAIL).setRegBit R.RESV_STATUS 2 true).raise 263

/-! ### The root's commit (R409) -/

/-- The tree root is committed to record 0x0101 with the edge's BEAT_COUNT and boot epoch. -/
def State.commitTree (s : State) : State :=
  if s.resvReady then
    let s := s.deepWrite 0x0101 (s.treeRoot ++ leBytes 8 s.beat ++ leBytes 4 (s.reg R.JOURNAL_EPOCH).toNat)
    s.setReg R.RESV_ROOT_GEN (w32 (s.deepGen 0x0101))
  else s

/-! ### The sweep (R413) -/

/-- A deckle whose vault or terminal contexts make it sweep. -/
def State.sweeps (s : State) (d : Nat) : Bool :=
  (s.part? d).isSome && (nbit (polSym (s.part d)) 1 || decide (allocTrCount (s.alloc d) ≠ 0))

/-- The 4 KiB of vault bucket `k` of deckle `d` (R397). -/
def State.bucketImage (s : State) (d k : Nat) : Bytes :=
  padTo 4096 (((s.vaultLatest d).filter fun e => s.vaultBucket d e.handle e.token == k).map vaultBytes).flatten

/-- What the counter checkpoint of deckle `d` holds at block `j`: every counter, for the opaque layout. -/
def State.checkpointFacts (s : State) (d j : Nat) : Bytes :=
  leBytes 8 j ++ ((s.ks.ctrs.filter fun c => c.deckle == d).map fun c => leBytes 4 c.handle ++ leBytes 8 c.value).flatten

/-- Block `j` of the `n` of a deckle's checkpoint has been written. Which counters a block holds is open: here those whose handle leaves
`j` modulo `n` (DEDUCED, notes/assumptions/24.md). -/
def State.saveCounters (s : State) (d j n : Nat) : State :=
  let mine (h : Nat) : Bool := h % n == j
  let new := (s.ks.ctrs.filter fun c => c.deckle == d && mine c.handle).map fun c => (d, c.handle, c.value)
  let first := new.foldl (fun acc c => if acc.any (fun x => x.2.1 == c.2.1) then acc else acc ++ [c]) []
  { s with jn := { s.jn with saved := first ++ s.jn.saved.filter fun x => !(first.any fun y => y.1 == x.1 && y.2.1 == x.2.1) } }

/-- One block of a deckle's sweep: its oldest dirty bucket, or the next block of its checkpoint. -/
def State.sweepOne (s : State) (d : Nat) : State :=
  match s.jn.dirty.find? fun b => b.1 == d with
  | some b =>
    let s := { s with jn := { s.jn with dirty := s.jn.dirty.filter fun x => x != b } }
    match s.nsFind 3 d with
    | some n => s.resvWrite n b.2 (s.bucketImage d b.2)
    | none => s
  | none =>
    match s.nsFind 4 d with
    | some n =>
      let j := s.jn.sweepPos.getD d 0
      let s := s.resvWrite n (j % n.blocks) ((List.range 4096).map (Config.checkpointByte (s.checkpointFacts d (j % n.blocks))))
      let s := s.saveCounters d (j % n.blocks) n.blocks
      let beat := if j % n.blocks = 0 then s.beat + 1 else s.jn.sweepBeat.getD d 0
      { s with jn := { s.jn with sweepPos := s.jn.sweepPos.set d ((j + 1) % n.blocks), sweepBeat := s.jn.sweepBeat.set d beat } }
    | none => s

/-- A Flush of every ready port, while writes without Force Unit Access have completed and are not yet durable (R403). -/
def State.flushPorts (s : State) : State :=
  if s.jn.unflushed then
    let s := { s with jn := { s.jn with unflushed := false } }
    (List.range 16).foldl (fun s q => if s.portReady q then s.nvmeIssue q .flush 0 0 [] else s) s
  else s

/-- The sweep of one beat: RESV_SWEEP blocks of every deckle that sweeps. -/
def State.sweep (s : State) : State :=
  if s.resvReady then
    let s := s.flushPorts
    (List.range 16).foldl (fun s d =>
      if s.sweeps d then (List.range (rsvSweep (s.part d))).foldl (fun s _ => s.sweepOne d) s else s) s
  else s

end Sys2Proof.Machine
end

