-- ==== Sys2Proof/Machine/Ec.lean ====
section
/-! DEFINITION. Elliptic curves as the published standards define them: P-256 and P-384 with ECDSA and ECDH, Ed25519 and X25519
(R163 to R166; notes/assumptions/5.md). -/

namespace Sys2Proof.Machine

/-! ### Arithmetic modulo a prime -/

/-- `b` to the power `e` modulo `m`, over the low `k` bits of `e`. -/
def powModAux (m : Nat) : Nat → Nat → Nat → Nat → Nat
  | 0, _, _, acc => acc
  | k + 1, b, e, acc => powModAux m k (b * b % m) (e / 2) (if e % 2 = 1 then acc * b % m else acc)

/-- `b` to the power `e` modulo `m`. -/
def powMod (b e m : Nat) : Nat := powModAux m (Nat.log2 e + 1) (b % m) e (1 % m)

/-- The inverse modulo a prime. -/
def invMod (a p : Nat) : Nat := powMod a (p - 2) p

/-- `a - b` modulo `p`, for residues. -/
def subMod (a b p : Nat) : Nat := (a + (p - b % p)) % p

/-! ### Short Weierstrass curves with a = -3 -/

/-- A curve: field prime, coefficient b, generator, order, and bytes of a coordinate. -/
structure Curve where
  p : Nat
  b : Nat
  gx : Nat
  gy : Nat
  n : Nat
  len : Nat
  deriving DecidableEq, Repr

/-- P-256. -/
def p256 : Curve where
  p := 0xffffffff00000001000000000000000000000000ffffffffffffffffffffffff
  b := 0x5ac635d8aa3a93e7b3ebbd55769886bc651d06b0cc53b0f63bce3c3e27d2604b
  gx := 0x6b17d1f2e12c4247f8bce6e563a440f277037d812deb33a0f4a13945d898c296
  gy := 0x4fe342e2fe1a7f9b8ee7eb4a7c0f9e162bce33576b315ececbb6406837bf51f5
  n := 0xffffffff00000000ffffffffffffffffbce6faada7179e84f3b9cac2fc632551
  len := 32

/-- P-384. -/
def p384 : Curve where
  p := 0xfffffffffffffffffffffffffffffffffffffffffffffffffffffffffffffffeffffffff0000000000000000ffffffff
  b := 0xb3312fa7e23ee7e4988e056be3f82d19181d9c6efe8141120314088f5013875ac656398d8a2ed19d2a85c8edd3ec2aef
  gx := 0xaa87ca22be8b05378eb1c71ef320ad746e1d3b628ba79b9859f741e082542a385502f25dbf55296c3a545e3872760ab7
  gy := 0x3617de4a96262c6f5d9e98bf9292dc29f8f41dbd289a147ce9da3113b5f0b8c00a60b1ce1d7e819d7a431d7c90ea0e5f
  n := 0xffffffffffffffffffffffffffffffffffffffffffffffffc7634d81f4372ddf581a0db248b0a77aecec196accc52973
  len := 48

/-- A point in Jacobian coordinates; z = 0 is the point at infinity. -/
structure JPoint where
  x : Nat
  y : Nat
  z : Nat
  deriving DecidableEq, Repr

def jDouble (c : Curve) (q : JPoint) : JPoint :=
  let p := c.p
  let zz := q.z * q.z % p
  let yy := q.y * q.y % p
  let s := 4 * q.x * yy % p
  let m := 3 * (subMod q.x zz p) * (q.x + zz) % p
  let x := subMod (m * m % p) (2 * s) p
  ⟨x, subMod (m * subMod s x p % p) (8 * yy * yy % p) p, 2 * q.y * q.z % p⟩

def jAdd (c : Curve) (a b : JPoint) : JPoint :=
  if a.z = 0 then b
  else if b.z = 0 then a
  else
    let p := c.p
    let z1 := a.z * a.z % p
    let z2 := b.z * b.z % p
    let u1 := a.x * z2 % p
    let u2 := b.x * z1 % p
    let s1 := a.y * z2 % p * b.z % p
    let s2 := b.y * z1 % p * a.z % p
    if u1 = u2 then if s1 = s2 then jDouble c a else ⟨1, 1, 0⟩
    else
      let h := subMod u2 u1 p
      let r := subMod s2 s1 p
      let hh := h * h % p
      let hhh := h * hh % p
      let v := u1 * hh % p
      let x := subMod (subMod (r * r % p) hhh p) (2 * v) p
      ⟨x, subMod (r * subMod v x p % p) (s1 * hhh % p) p, h * a.z % p * b.z % p⟩

/-- `k` times a point, over the low `i` bits of `k`. -/
def jMulAux (c : Curve) : Nat → Nat → JPoint → JPoint → JPoint
  | 0, _, _, acc => acc
  | i + 1, k, q, acc => jMulAux c i (k / 2) (jDouble c q) (if k % 2 = 1 then jAdd c acc q else acc)

def jMul (c : Curve) (k : Nat) (q : JPoint) : JPoint := jMulAux c (Nat.log2 k + 1) k q ⟨1, 1, 0⟩

/-- Affine coordinates, none at infinity. -/
def jAffine (c : Curve) (q : JPoint) : Option (Nat × Nat) :=
  if q.z = 0 then none
  else
    let i := invMod q.z c.p
    let ii := i * i % c.p
    some (q.x * ii % c.p, q.y * ii % c.p * i % c.p)

def Curve.gen (c : Curve) : JPoint := ⟨c.gx, c.gy, 1⟩

/-- The SEC 1 uncompressed encoding. -/
def ecEncode (c : Curve) (xy : Nat × Nat) : Bytes := [4] ++ beBytes c.len xy.1 ++ beBytes c.len xy.2

/-- A point of an uncompressed encoding that lies on the curve. -/
def ecDecode (c : Curve) (b : Bytes) : Option (Nat × Nat) :=
  let x := beNat (slice b 1 c.len)
  let y := beNat (slice b (1 + c.len) c.len)
  if b.length = 1 + 2 * c.len ∧ b.headD 0 = 4 ∧ x < c.p ∧ y < c.p ∧
     y * y % c.p = (x * x % c.p * x + (c.p - 3) * x + c.b) % c.p then some (x, y) else none

/-- The public key of a scalar. -/
def ecPublic (c : Curve) (d : Nat) : Bytes :=
  match jAffine c (jMul c d c.gen) with
  | some xy => ecEncode c xy
  | none => []

/-- The leftmost bits of a digest as ECDSA takes them. -/
def ecDigest (c : Curve) (h : Bytes) : Nat := beNat (h.take c.len)

/-- An ECDSA signature with nonce `k`: r then s; none when r or s is zero. -/
def ecdsaSign (c : Curve) (d k : Nat) (h : Bytes) : Option Bytes :=
  match jAffine c (jMul c k c.gen) with
  | none => none
  | some xy =>
    let r := xy.1 % c.n
    let s := invMod k c.n * (ecDigest c h + r * d) % c.n
    if r = 0 ∨ s = 0 then none else some (beBytes c.len r ++ beBytes c.len s)

/-- Whether an ECDSA signature is right. -/
def ecdsaVerify (c : Curve) (pub h sig : Bytes) : Bool :=
  let r := beNat (slice sig 0 c.len)
  let s := beNat (slice sig c.len c.len)
  match ecDecode c pub with
  | none => false
  | some xy =>
    if sig.length ≠ 2 * c.len ∨ r = 0 ∨ c.n ≤ r ∨ s = 0 ∨ c.n ≤ s then false
    else
      let w := invMod s c.n
      match jAffine c (jAdd c (jMul c (ecDigest c h * w % c.n) c.gen) (jMul c (r * w % c.n) ⟨xy.1, xy.2, 1⟩)) with
      | some p => p.1 % c.n == r
      | none => false

/-- The ECDH shared secret: the x-coordinate. -/
def ecdh (c : Curve) (d : Nat) (pub : Bytes) : Option Bytes :=
  match ecDecode c pub with
  | some xy => (jAffine c (jMul c d ⟨xy.1, xy.2, 1⟩)).map fun p => beBytes c.len p.1
  | none => none

/-! ### RFC 6979 nonces with additional input (the HMAC_DRBG construction) -/

/-- HMAC with the digest of a HASH_ALG (R153). -/
def hmacOf (alg : Nat) : Bytes → Bytes → Bytes :=
  match alg with
  | 0x21 => hmac sha256 64
  | 0x22 => hmac sha384 128
  | 0x23 => hmac sha512 128
  | 0x24 => hmac sha3_256 136
  | 0x25 => hmac sha3_384 104
  | _ => hmac sha3_512 72

/-- Output length of a HASH_ALG. -/
def hashLen (alg : Nat) : Nat := if alg = 0x21 ∨ alg = 0x24 then 32 else if alg = 0x22 ∨ alg = 0x25 then 48 else 64

/-- Digests of at least `n` bytes of the RFC 6979 generator; `f` bounds their number. -/
def rfc6979Bytes (hm : Bytes → Bytes → Bytes) (k : Bytes) (n : Nat) : Nat → Bytes → Bytes → Bytes × Bytes
  | 0, v, t => (t, v)
  | f + 1, v, t =>
    if n ≤ t.length then (t, v)
    else let v := hm k v; rfc6979Bytes hm k n f v (t ++ v)

def rfc6979Aux (c : Curve) (hm : Bytes → Bytes → Bytes) : Nat → Bytes → Bytes → Nat
  | 0, _, _ => 1
  | i + 1, k, v =>
    let r := rfc6979Bytes hm k c.len 4 v []
    let t := beNat (r.1.take c.len)
    if 1 ≤ t ∧ t < c.n then t
    else
      let k := hm k (r.2 ++ [0])
      rfc6979Aux c hm i k (hm k r.2)

/-- The nonce for private key `d`, digest `h` and additional input `add`, with HASH_ALG `alg` (R180). -/
def rfc6979 (c : Curve) (alg d : Nat) (h add : Bytes) : Nat :=
  let hm := hmacOf alg
  let x := beBytes c.len d ++ beBytes c.len (ecDigest c h % c.n) ++ add
  let k0 := zeros (hashLen alg)
  let v0 := List.replicate (hashLen alg) (1 : Byte)
  let k := hm k0 (v0 ++ [0] ++ x)
  let v := hm k v0
  let k := hm k (v ++ [1] ++ x)
  rfc6979Aux c hm 64 k (hm k v)

/-! ### Curve25519 and Ed25519 -/

abbrev q25519 : Nat := 2 ^ 255 - 19
abbrev l25519 : Nat := 2 ^ 252 + 27742317777372353535851937790883648493
/-- The Edwards constant d. -/
def edD : Nat := 37095705934669439343138083508754565189542113879843219016388785533085940283555
/-- A square root of -1. -/
def edI : Nat := 19681161376707505956807079304988542015446066515923890162744021073123829784752

/-- A point in extended coordinates. -/
structure EdPoint where
  x : Nat
  y : Nat
  z : Nat
  t : Nat
  deriving DecidableEq, Repr

def edAdd (a b : EdPoint) : EdPoint :=
  let p := q25519
  let u := subMod a.y a.x p * subMod b.y b.x p % p
  let v := (a.y + a.x) * (b.y + b.x) % p
  let w := 2 * a.t * b.t % p * edD % p
  let z := 2 * a.z * b.z % p
  let e := subMod v u p
  let f := subMod z w p
  let g := (z + w) % p
  let h := (v + u) % p
  ⟨e * f % p, g * h % p, f * g % p, e * h % p⟩

def edMulAux : Nat → Nat → EdPoint → EdPoint → EdPoint
  | 0, _, _, acc => acc
  | i + 1, k, q, acc => edMulAux i (k / 2) (edAdd q q) (if k % 2 = 1 then edAdd acc q else acc)

def edMul (k : Nat) (q : EdPoint) : EdPoint := edMulAux (Nat.log2 k + 1) k q ⟨0, 1, 1, 0⟩

/-- The base point. -/
def edBase : EdPoint :=
  let x := 15112221349535400772501151409588531511454012693041857206046113283949847762202
  let y := 46316835694926478169428394003475163141307993866256225615783033603165251855960
  ⟨x, y, 1, x * y % q25519⟩

def edEncode (a : EdPoint) : Bytes :=
  let i := invMod a.z q25519
  leBytes 32 (a.y * i % q25519 + 2 ^ 255 * (a.x * i % q25519 % 2))

def edDecode (b : Bytes) : Option EdPoint :=
  let n := leNat b
  let p := q25519
  let y := n % 2 ^ 255
  if b.length ≠ 32 ∨ p ≤ y then none
  else
    let u := subMod (y * y % p) 1 p
    let v := (edD * (y * y % p) + 1) % p
    let x0 := u * powMod v 3 p % p * powMod (u * powMod v 7 p % p) ((p - 5) / 8) p % p
    let vx := v * (x0 * x0 % p) % p
    let root := if vx = u then some x0 else if vx = (p - u) % p then some (x0 * edI % p) else none
    match root with
    | none => none
    | some x =>
      if x = 0 ∧ n / 2 ^ 255 = 1 then none
      else
        let x := if x % 2 = n / 2 ^ 255 then x else p - x
        some ⟨x, y, 1, x * y % p⟩

/-- A scalar clamped as RFC 8032 and RFC 7748 do. -/
def clamp25519 (b : Bytes) : Nat := let n := leNat (b.take 32); n % 2 ^ 254 / 8 * 8 + 2 ^ 254

def ed25519Public (seed : Bytes) : Bytes := edEncode (edMul (clamp25519 (sha512 seed)) edBase)

def ed25519Sign (seed m : Bytes) : Bytes :=
  let h := sha512 seed
  let a := clamp25519 h
  let pub := edEncode (edMul a edBase)
  let r := leNat (sha512 (h.drop 32 ++ m)) % l25519
  let rb := edEncode (edMul r edBase)
  let k := leNat (sha512 (rb ++ pub ++ m)) % l25519
  rb ++ leBytes 32 ((r + k * a) % l25519)

/-- The cofactored check of R186. -/
def ed25519Verify (pub m sig : Bytes) : Bool :=
  let s := leNat (sig.drop 32)
  match edDecode pub, edDecode (sig.take 32) with
  | some a, some r =>
    if sig.length ≠ 64 ∨ l25519 ≤ s then false
    else
      let k := leNat (sha512 (sig.take 32 ++ pub ++ m)) % l25519
      edEncode (edMul 8 (edMul s edBase)) == edEncode (edMul 8 (edAdd r (edMul k a)))
  | _, _ => false

/-- One ladder step of X25519 over bit `b`. -/
def x25519Step (u : Nat) (st : Nat × Nat × Nat × Nat) (b : Nat) : Nat × Nat × Nat × Nat :=
  let p := q25519
  let (x2, z2, x3, z3) := if b = 1 then (st.2.2.1, st.2.2.2, st.1, st.2.1) else st
  let a := (x2 + z2) % p
  let aa := a * a % p
  let s := subMod x2 z2 p
  let bb := s * s % p
  let e := subMod aa bb p
  let c := (x3 + z3) % p
  let d := subMod x3 z3 p
  let da := d * a % p
  let cb := c * s % p
  let x5 := (da + cb) * (da + cb) % p
  let t := subMod da cb p
  let z5 := u * (t * t % p) % p
  let x4 := aa * bb % p
  let z4 := e * ((aa + 121665 * e) % p) % p
  if b = 1 then (x5, z5, x4, z4) else (x4, z4, x5, z5)

/-- X25519 (RFC 7748). -/
def x25519 (k u : Bytes) : Bytes :=
  let n := clamp25519 k
  let x := leNat u % 2 ^ 255 % q25519
  let r := ((List.range 255).reverse.map fun i => n / 2 ^ i % 2).foldl (x25519Step x) (1, 0, x, 1)
  leBytes 32 (r.1 * invMod r.2.1 q25519 % q25519)

def x25519Public (k : Bytes) : Bytes := x25519 k ([9] ++ zeros 31)

end Sys2Proof.Machine
end

