-- ==== Sys2Proof/Machine/Rsa.lean ====
section
/-! DEFINITION. RSA as RFC 8017 defines it: PSS and PKCS #1 v1.5 signatures with keys in the forms of R164 and R166. -/

namespace Sys2Proof.Machine

/-- The digest that a HASH_ALG names (R153). -/
def hashOf (alg : Nat) (m : Bytes) : Bytes :=
  match alg with
  | 0x21 => sha256 m
  | 0x22 => sha384 m
  | 0x23 => sha512 m
  | 0x24 => sha3_256 m
  | 0x25 => sha3_384 m
  | _ => sha3_512 m

/-- Last byte of the object identifier of a HASH_ALG. -/
def hashOid (alg : Nat) : Nat :=
  match alg with
  | 0x21 => 1
  | 0x22 => 2
  | 0x23 => 3
  | 0x24 => 8
  | 0x25 => 9
  | _ => 10

/-- The DER encoding of that identifier. -/
def oidBytes (alg : Nat) : Bytes := bytes [0x06, 0x09, 0x60, 0x86, 0x48, 0x01, 0x65, 0x03, 0x04, 0x02, hashOid alg]

/-- MGF1. -/
def mgf1 (alg n : Nat) (seed : Bytes) : Bytes :=
  (((List.range (ceilDiv n (hashLen alg))).map fun i => hashOf alg (seed ++ beBytes 4 i)).flatten).take n

/-- The inverse of `a` modulo `m`, coprime to it. -/
def invCoprime (a m : Nat) : Nat := ((Nat.gcdA a m) % (m : Int)).toNat

/-- Bytes of the modulus of an ALG. -/
def rsaLen (alg : Nat) : Nat := if alg = 0x44 then 256 else if alg = 0x45 then 384 else 512

/-- EMSA-PSS encoding to the length of the modulus, with one bit less. -/
def pssEncode (len alg : Nat) (h salt : Bytes) : Bytes :=
  let hh := hashOf alg (zeros 8 ++ h ++ salt)
  let dl := len - hh.length - 1
  let db := zeros (dl - salt.length - 1) ++ [1] ++ salt
  let masked := xorBytes db (mgf1 alg dl hh)
  (masked.take 1).map (· &&& 0x7F) ++ masked.drop 1 ++ hh ++ [0xBC]

/-- EMSA-PSS verification for a salt of `sl` bytes. -/
def pssVerify (len alg sl : Nat) (h em : Bytes) : Bool :=
  let hl := hashLen alg
  let dl := len - hl - 1
  let hh := (em.drop dl).take hl
  let db0 := xorBytes (em.take dl) (mgf1 alg dl hh)
  let db := (db0.take 1).map (· &&& 0x7F) ++ db0.drop 1
  byteAt em (len - 1) == 0xBC && byteAt em 0 / 128 == 0 && allZero (db.take (dl - sl - 1)) && byteAt db (dl - sl - 1) == 1 &&
    decide (hl + sl + 2 ≤ len) && hashOf alg (zeros 8 ++ h ++ db.drop (dl - sl)) == hh

/-- EMSA-PKCS1-v1_5 encoding. -/
def pkcs1Encode (len alg : Nat) (h : Bytes) : Bytes :=
  let t := bytes [0x30, 0x11 + h.length, 0x30, 0x0D] ++ oidBytes alg ++ bytes [0x05, 0x00, 0x04, h.length] ++ h
  [0, 1] ++ List.replicate (len - t.length - 3) 0xFF ++ [0] ++ t

/-- A field of the private form of R166: p, q, dp, dq, qInv. -/
def rsaPart (alg i : Nat) (key : Bytes) : Nat := let n := rsaLen alg / 2; beNat (slice key (n * i) n)

/-- The private operation, by the Chinese remainder theorem. -/
def rsaPrivate (alg : Nat) (key : Bytes) (m : Nat) : Nat :=
  let p := rsaPart alg 0 key
  let q := rsaPart alg 1 key
  let a := powMod m (rsaPart alg 2 key) p
  let b := powMod m (rsaPart alg 3 key) q
  b + q * (subMod a b p * rsaPart alg 4 key % p)

/-- The public operation. -/
def rsaPublic (alg : Nat) (pub : Bytes) (s : Nat) : Nat :=
  powMod s (beNat (slice pub (rsaLen alg) 4)) (beNat (pub.take (rsaLen alg)))

/-- The private form of two primes and a public exponent. -/
def rsaKey (alg e : Nat) (pq : Nat × Nat) : Bytes :=
  let n := rsaLen alg / 2
  beBytes n pq.1 ++ beBytes n pq.2 ++ beBytes n (invCoprime e (pq.1 - 1)) ++ beBytes n (invCoprime e (pq.2 - 1)) ++
    beBytes n (invCoprime pq.2 pq.1) ++ beBytes 4 e

/-- The public key of a private form. -/
def rsaPub (alg : Nat) (key : Bytes) : Bytes :=
  beBytes (rsaLen alg) (rsaPart alg 0 key * rsaPart alg 1 key) ++ slice key (5 * (rsaLen alg / 2)) 4

/-- A signature over a digest: PSS with `salt`, or PKCS #1 v1.5. -/
def rsaSign (alg hash : Nat) (pkcs : Bool) (key h salt : Bytes) : Bytes :=
  let len := rsaLen alg
  let em := if pkcs then pkcs1Encode len hash h else pssEncode len hash h salt
  beBytes len (rsaPrivate alg key (beNat em))

/-- Whether a signature over a digest is right. -/
def rsaVerify (alg hash : Nat) (pkcs : Bool) (sl : Nat) (pub h sig : Bytes) : Bool :=
  let len := rsaLen alg
  let em := beBytes len (rsaPublic alg pub (beNat sig))
  if pkcs then em == pkcs1Encode len hash h else pssVerify len hash sl h em

end Sys2Proof.Machine
end

