-- ==== Sys2Proof/Machine/Journal.lean ====
section
/-! DEFINITION. The journal engine (R366 to R400, R414): records and their commit, chains, beat roots and the root log, blocks
and rings, the state block, and the commands of its events. -/

namespace Sys2Proof.Machine

/-! ### Chains -/

def State.chain (s : State) (k : Nat) : Chain := s.jn.chains.getD k Chain.none

def State.setChain (s : State) (k : Nat) (c : Chain) : State := s.mapJn fun j => { j with chains := j.chains.set k c }

/-- Lines of the records of an open block. -/
def Chain.openLines (c : Chain) : Nat := (c.openRecs.map fun r => r.length / 64).sum

/-- Next SEQ and next JBN of a chain (R419). -/
def State.nextSeq (s : State) (k : Nat) : Nat := s.reg64 (R.JOURNAL_SEQ_LO k)
def State.nextJbn (s : State) (k : Nat) : Nat := s.reg64 (R.JOURNAL_JBN_LO k)

/-- Lowest unreleased block, and lowest block not yet durable. -/
def State.lowUnreleased (s : State) (k : Nat) : Nat :=
  match (s.chain k).blocks with
  | [] => s.nextJbn k
  | b :: _ => b.jbn

def State.lowNotDurable (s : State) (k : Nat) : Nat :=
  match (s.chain k).blocks.find? fun b => !b.durable with
  | some b => b.jbn
  | none => s.nextJbn k

/-- JOURNAL_DUR and JOURNAL_REL follow the chain's blocks. -/
def State.refreshChain (s : State) (k : Nat) : State :=
  s.setRegs [(R.JOURNAL_DUR k, s.lowNotDurable k), (R.JOURNAL_REL k, s.lowUnreleased k)]

/-- The fill (R382): lines committed and not durable, and lines reserved and not used. -/
def State.journalFill (s : State) : Nat :=
  (s.jn.chains.map fun c => c.openLines + ((c.blocks.filter fun b => !b.durable).map (·.lines)).sum).sum +
    16 * (s.jn.rootlog.filter fun e => !e.2.1).length + (s.bt.jobs.map (·.lines)).sum

/-- JOURNAL_FILL_PEAK follows the fill. -/
def State.fillPeak (s : State) : State :=
  s.setReg R.JOURNAL_FILL_PEAK (w32 (max (s.reg R.JOURNAL_FILL_PEAK).toNat s.journalFill))

abbrev journalGate : Nat := 943719

/-! ### Blocks and rings (R389 to R392) -/

/-- A FILLER record of chain `k`. -/
def State.fillerRec (s : State) (k : Nat) : Bytes :=
  [0, 1, by8 k, 0] ++ leBytes 4 (s.reg R.JOURNAL_EPOCH).toNat ++ zeros 8 ++ leBytes 8 s.beat ++ zeros 40

/-- The image of the open block of chain `k` (R389). -/
def State.blockImage (s : State) (k : Nat) : Bytes :=
  let c := s.chain k
  leBytes 8 (s.nextJbn k) ++ [by8 k, by8 c.openLines] ++ leBytes 2 c.openRecs.length ++ leBytes 4 c.openEpoch ++ leBytes 8 c.openSeq ++
    leBytes 8 c.openBeat ++ leBytes 8 c.lastBeat ++ zeros 24 ++ c.openRecs.flatten ++
    (List.replicate (63 - c.openLines) (s.fillerRec k)).flatten

/-- The owner of chain `k`'s namespace. -/
def chainOwner (k : Nat) : Nat := if k < 16 then k else 16

/-- RING_FULL: some chain has stopped draining (R421). -/
def State.ringFull (s : State) : State := s.setRegBit R.JOURNAL_STATUS 3 (s.jn.chains.any fun c => c.stalled)

/-- The oldest block of chain `k` not yet written is written to its ring position when that is free; when it holds a block that is
not released, the chain stops draining with event 258 (R390, R392). -/
def State.drainOne (s : State) (k : Nat) : State :=
  let c := s.chain k
  match c.blocks.find? fun b => !b.written with
  | none => s
  | some b =>
    let ring := (s.reg (R.JOURNAL_RING k)).toNat
    if b.jbn < s.lowUnreleased k + ring then
      match s.nsFind 0 (chainOwner k), s.resvReady with
      | some n, true =>
        if ¬ s.portReady (n.place (b.jbn % ring)).1 then
          if c.stalled then s else ((s.setChain k { c with stalled := true }).ringFull).raise 258
        else
        let c := { c with stalled := false, blocks := c.blocks.map fun x => if x.jbn = b.jbn then { x with written := true } else x }
        ((s.setChain k c).resvWrite n (b.jbn % ring) b.image).ringFull
      | _, _ => s
    else if c.stalled then s
    else ((s.setChain k { c with stalled := true }).ringFull).raise 258

/-- Every block of chain `k` that can be written is. -/
def State.drainChain (s : State) (k : Nat) : State :=
  (List.range (s.chain k).blocks.length).foldl (fun s _ => s.drainOne k) s

/-- The open block of chain `k` is closed and written to its ring (R390); event 257 as the ring passes 90 %. -/
def State.closeBlock (s : State) (k : Nat) : State :=
  let c := s.chain k
  if c.openRecs = [] then s
  else
    let b : JBlock := ⟨s.nextJbn k, s.blockImage k, c.openLines, false, false, c.lastBeat, c.openKeys, c.openEntries⟩
    let ring := (s.reg (R.JOURNAL_RING k)).toNat
    let s := s.setChain k { c with openRecs := [], openKeys := [], openEntries := [], blocks := c.blocks ++ [b] }
    let s := s.setReg64 (R.JOURNAL_JBN_LO k) (b.jbn + 1)
    let n := c.blocks.length
    let s := if 10 * n ≤ 9 * ring ∧ 9 * ring < 10 * (n + 1) then s.raise 257 else s
    (s.drainChain k).refreshChain k

/-! ### Records (R367 to R373) -/

/-- HKDF of RFC 5869 with an empty salt. -/
def hkdf (alg : Nat) (z info : Bytes) (n : Nat) : Bytes :=
  let hm := hmacOf alg
  let prk := hm (zeros (hashLen alg)) z
  (((List.range (ceilDiv n (hashLen alg))).foldl (fun (p : Bytes × Bytes) i =>
    let t := hm prk (p.1 ++ info ++ [by8 (i + 1)])
    (t, p.2 ++ t)) ([], [])).2).take n

/-- The encryption key and the digest key of a deckle's replay key (R748). -/
def State.replayKeys (s : State) (d : Nat) : Bytes × Bytes :=
  let k := s.ladder d "NV64 RPL" 256
  (hkdf 0x22 k (ascii "NV64 RPL ENC") 32, hkdf 0x22 k (ascii "NV64 RPL MAC") 32)

/-- The replay line that a record ends with: 48 bytes enciphered under the replay key, and the tag (R749, R751). -/
def State.replayLine (s : State) (p : PendRec) (seq : Nat) (m : Bytes) : Bytes :=
  let g := gcmEnc (s.replayKeys p.chain).1 (leBytes 8 seq ++ [by8 p.chain, if p.kind = 1 then 0x52 else 0x53, 0, 0]) m p.replay
  m ++ g.1 ++ g.2

/-- The record that `p` becomes with SEQ `seq` in chain `c` (R367, R372). -/
def State.recordBytes (s : State) (c : Chain) (p : PendRec) (seq : Nat) : Bytes :=
  let clear := if p.kind = 0x10 then recBody 0x10 (19 * 64 - 32) (leBytes 4 (c.epoch + 1) ++ leBytes 8 (seq + 1) ++ p.clear) else p.clear
  let off := 32 + clear.length
  let sl := p.sealed.length
  let hidden := decide (sl ≠ 0)
  let lines := ceilDiv (off + if hidden then sl + 16 else 0) 64
  let aad := [by8 p.kind, by8 (lines + b2n (p.replay != [])), by8 p.chain, by8 (p.flags + b2n hidden)] ++ leBytes 4 (s.reg R.JOURNAL_EPOCH).toNat ++
    leBytes 8 seq ++ leBytes 8 s.beat ++ leBytes 2 (if hidden then off else 0) ++ leBytes 2 (if hidden then sl + 16 else 0) ++
    zeros 4 ++ clear
  let g := gcmEnc c.sealKey (leBytes 8 seq ++ [by8 p.chain, 0, 0, 0]) aad p.sealed
  let m := if hidden then padTo (64 * lines) (aad ++ g.1 ++ g.2) else padTo (64 * lines) aad
  if p.replay = [] then m else s.replayLine p seq m

/-- A record is committed (R381): SEQ assigned, its lines in the buffer, in the open block or, when it does not fit, in the next;
its lines come from its job's reservation, and a SEAL_EPOCH record puts its key into use (R373). -/
def State.commitRec (s : State) (p : PendRec) : State :=
  let k := p.chain
  let seq := s.nextSeq k
  let r := s.recordBytes (s.chain k) p seq
  let s := if 63 < (s.chain k).openLines + r.length / 64 then s.closeBlock k else s
  let c := s.chain k
  let fresh := decide (c.openRecs = [])
  let c := { c with
    beatRecs := c.beatRecs ++ [r]
    openRecs := c.openRecs ++ [r]
    openBeat := if fresh then s.beat else c.openBeat
    openEpoch := if fresh then (s.reg R.JOURNAL_EPOCH).toNat else c.openEpoch
    openSeq := if fresh then seq else c.openSeq
    lastBeat := s.beat
    openKeys := c.openKeys ++ p.key.toList
    openEntries := c.openEntries ++ p.entry.toList }
  let c :=
    match p.kind, c.nextKey with
    | 0x10, some x => { c with epoch := c.epoch + 1, sealKey := x, sealSeq := seq + 1, sealBeat := s.beat, nextKey := none }
    | _, _ => c
  let s := (s.setChain k c).setReg64 (R.JOURNAL_SEQ_LO k) (seq + 1)
  match p.job with
  | some i => s.updJob i fun j => { j with committed := j.committed || p.kind == 1, lines := j.lines - r.length / 64 }
  | none => s

/-- The queue in the order of R386 and R387. -/
def rankOrder (l : List PendRec) : List PendRec :=
  let r (k : Nat) := l.filter fun p => p.rank == k
  r 0 ++ r 1 ++ (List.range 64).flatMap (fun v => (r 2).filter fun p => p.vat == v) ++ r 3

/-- Every record of the queue is committed while the engine runs. -/
def State.commitQueue (s : State) : State :=
  if s.regBit R.JOURNAL_STATUS 0 then (rankOrder s.jn.queue).foldl State.commitRec (s.mapJn fun j => { j with queue := [] }) else s

/-! ### Answers without placement (R371) -/

/-- The kind and number of a source as R369 gives them. -/
def srcKind : Source → Nat
  | .host _ _ => 0
  | .net _ _ _ _ => 1

def srcNum : Source → Nat
  | .host f q => 256 * f.val + q.val
  | .net p _ _ _ => p.val

def srcId : Source → Nat
  | .host _ _ => 0
  | .net _ _ _ sid => sid

/-- One more answer to be released at edge `e` without placement. -/
def State.rejectAt (s : State) (src : Source) (d cls reason tag e : Nat) : State :=
  let same (r : Reject) : Bool :=
    r.deckle == d && r.srcKind == srcKind src && r.source == srcNum src && r.cls == cls && r.reason == reason && r.edge == e
  s.mapJn fun j =>
    if j.rejects.any same then
      { j with rejects := j.rejects.map fun r => if same r then { r with count := r.count + 1, last := tag } else r }
    else { j with rejects := j.rejects ++ [⟨d, srcKind src, srcNum src, cls, reason, 1, tag, tag, e⟩] }

/-- The REJECT records of the answers released at the edge that ends this beat are queued; those of an ABORT come first (R386). -/
def State.queueRejects (s : State) : State :=
  let due := s.jn.rejects.filter fun r => r.edge == s.beat + 1
  let s := s.mapJn fun j => { j with rejects := j.rejects.filter fun r => r.edge != s.beat + 1 }
  due.foldl (fun s r => s.queueRec (plainRec (if r.cls = 4 then 0 else 3) r.deckle 0x02 2
    ([by8 r.srcKind, by8 r.cls] ++ leBytes 2 r.source ++ leBytes 4 r.count ++ leBytes 4 r.first ++ leBytes 4 r.last ++ leBytes 4 r.edge)
    (leBytes 2 r.reason))) s

/-! ### Events (R388, R878 to R880) -/

/-- The EVENT record of an entry (R879). -/
def eventRec (e : EvEntry) : PendRec :=
  { plainRec 1 16 0x11 1 [] [] with
    clear := leBytes 2 e.event ++ leBytes 1 e.stop ++ [0] ++ leBytes 4 e.phase ++ leBytes 8 e.beat ++ leBytes 8 e.data ++ zeros 8 }

/-- A COALESCED record of up to nine held sources (R880). -/
def coalescedRec (l : List HeldEvent) : PendRec :=
  let first := (l.map (·.first)).foldl min ((l.map (·.first)).headD 0)
  let last := (l.map (·.last)).foldl max 0
  { plainRec 1 16 0x12 2 [] [] with
    clear := padTo 96 (leBytes 8 first ++ leBytes 8 last ++ leBytes 1 l.length ++ zeros 7 ++
      (l.map fun h => leBytes 2 h.event ++ leBytes 6 h.count).flatten) }

/-- The COALESCED records of every held source are queued and the weir's counts cleared. -/
def State.queueHeld (s : State) : State :=
  let l := s.ev.held
  let s := { s with ev := { s.ev with held := [] } }
  let s := l.foldl (fun s h => s.setRegBit (R.EVT_JHELD (h.event / 32)) (h.event % 32) false) s
  (List.range (ceilDiv l.length 9)).foldl (fun s i => s.queueRec (coalescedRec ((l.drop (9 * i)).take 9))) s

/-- Up to `n` entries leave the event FIFO for EVENT records. -/
def State.takeEvents (s : State) (n : Nat) : State :=
  let l := s.ev.fifo.take n
  let s := { s with ev := { s.ev with fifo := s.ev.fifo.drop n } }
  let s := l.foldl (fun s e => s.queueRec (eventRec e)) s
  s.setRegField R.JOURNAL_EVFIFO 10 0 s.ev.fifo.length

/-- The event FIFO's part of a beat: at most 256 entries, and the held counts once it has fallen below 512 entries. -/
def State.drainEvents (s : State) : State :=
  if s.regBit R.JOURNAL_STATUS 0 then
    let s := s.takeEvents 256
    if s.ev.fifo.length < 512 ∧ s.ev.held ≠ [] then s.queueHeld else s
  else s

/-! ### Beat roots and the root log (R375 to R380) -/

/-- One level of the tree of R375. -/
def merklePairs : List Bytes → List Bytes
  | l :: r :: rest => sha384 ([1] ++ l ++ r) :: merklePairs rest
  | l => l

/-- merkle() of R375; `fuel` bounds the levels. -/
def merkleAux : Nat → List Bytes → Bytes
  | 0, l => l.headD (zeros 48)
  | f + 1, l =>
    match l with
    | [] => zeros 48
    | [h] => h
    | l => merkleAux f (merklePairs l)

def merkle (l : List Bytes) : Bytes := merkleAux (Nat.log2 l.length + 1) l

/-- The head of chain `k` at the close of the current beat (R375). -/
def State.headOf (s : State) (k : Nat) : Bytes :=
  let c := s.chain k
  let n := c.beatRecs.length
  sha384 ([2] ++ c.head ++ [by8 k] ++ leBytes 4 (s.reg R.JOURNAL_EPOCH).toNat ++ leBytes 8 s.beat ++ leBytes 8 (s.nextSeq k - n) ++
    leBytes 4 n ++ merkle (c.beatRecs.map fun r => sha384 ([0] ++ r)))

/-- Every chain's head moves on, and the records of the beat are counted off. -/
def State.closeHeads (s : State) : State :=
  (List.range 17).foldl (fun s k =>
    let c := s.chain k
    if c.present then s.setChain k { c with head := s.headOf k, beatRecs := [] } else s) s

/-- The device beat root (R376). -/
def State.beatRoot (s : State) : Bytes :=
  merkle ((List.range 32).map fun k =>
    if (s.chain k).present then sha384 ([3, by8 k] ++ (s.chain k).head) else zeros 48)

/-- The signed message of R377. -/
def State.rootMessage (s : State) : Bytes :=
  ascii "NV64 ROOT" ++ leBytes 4 (s.reg R.JOURNAL_EPOCH).toNat ++ leBytes 8 s.beat ++ s.beatRoot

/-- The root log's namespace and its ring in entries. -/
def State.rootRing (s : State) : Nat :=
  match s.nsFind 5 16 with
  | some n => 4 * n.blocks
  | none => 0

/-- The root log entry of the current beat (R378). -/
def State.rootEntry (s : State) (sig : Option Bytes) : Bytes :=
  leBytes 4 (s.reg R.JOURNAL_EPOCH).toNat ++ leBytes 4 (b2n sig.isSome) ++ leBytes 8 s.beat ++ s.beatRoot ++ sig.getD (zeros 64) ++
    ((List.range 17).map fun k => (s.chain k).head).flatten ++ zeros 80

/-- The beat's root is signed and its entry written; an entry without a signature is counted, with event 259 (R377, R380). -/
def State.signRoot (s : State) : State :=
  let n := s.reg64 R.JOURNAL_RLN_LO
  let sig := s.jn.signKey.map fun k => ed25519Sign k s.rootMessage
  let e := s.rootEntry sig
  let s := s.mapJn fun j => { j with rootlog := (n, false, e) :: j.rootlog.filter fun x => !(x.2.1 && decide (x.1 + s.rootRing ≤ n)) }
  let s := (s.setReg64 R.JOURNAL_RLN_LO (n + 1)).setRegBit R.JOURNAL_STATUS 2 sig.isNone
  if sig.isNone then (s.bump R.JOURNAL_UNSIGNED).raise 259 else s

/-- Full root log blocks are written to their ring, four entries to a block. -/
def State.drainRoot (s : State) : State :=
  match s.nsFind 5 16, s.resvReady with
  | some n, true =>
    let last := s.reg64 R.JOURNAL_RLN_LO / 4
    let todo := (List.range (last - s.jn.rootBlk)).map fun i => s.jn.rootBlk + i
    let s := todo.foldl (fun s b =>
      let img := ((List.range 4).map fun i => ((s.jn.rootlog.find? fun e => e.1 == 4 * b + i).map (·.2.2)).getD (zeros 1024)).flatten
      s.resvWrite n (b % n.blocks) img) s
    s.mapJn fun j => { j with rootBlk := max j.rootBlk last }
  | _, _ => s

/-- Events 256 as the fill passes half of capacity after an edge below it (R426). -/
def State.halfCheck (s : State) : State :=
  let high := decide (524288 < s.journalFill)
  let was := s.jn.halfFull
  let s := s.mapJn fun j => { j with halfFull := high }
  if high ∧ ¬ was then s.raise 256 else s

/-- The engine's part at the end of a beat: events, REJECT records, the commit of the queue, heads, root and root log. -/
def State.journalBeat (s : State) : State :=
  let s := (s.drainEvents.queueRejects).commitQueue
  let s := if s.regBit R.JOURNAL_STATUS 0 then s.closeHeads.signRoot else s
  let s := (List.range 17).foldl State.drainChain s
  (s.drainRoot.halfCheck).fillPeak

/-! ### Seal epochs (R373) -/

/-- A seal epoch of chain `k` is started: the key and ciphertext that the wardens prepared, and the SEAL_EPOCH record (R373,
event 262). -/
def State.startEpoch (s : State) (k : Nat) : State :=
  let c := s.chain k
  let bs := s.freeBytes (32 + 1088)
  let s := (s.setChain k { c with nextKey := some (bs.take 32) }).tookFree (32 + 1088)
  (s.queueRec { plainRec (if k = 16 then 1 else 3) k 0x10 19 [] [] with clear := bs.drop 32 }).raise 262

/-- SEAL_EPOCH_ROTATE: a chain starts a new seal epoch after 16,777,216 records or 1,048,576 beats (R373). -/
def execSealEpochRotate (k : Fin 17) (s : State) : Res :=
  let c := s.chain k.val
  .next <|
    if c.present ∧ c.nextKey = none ∧ (16777216 ≤ s.nextSeq k.val - c.sealSeq ∨ 1048576 ≤ s.beat - c.sealBeat) then s.startEpoch k.val else s

/-! ### The commands of blocks -/

/-- JOURNAL_BLOCK_CLOSE: the open block of chain `k` is closed when full, or 64 beats after its first record (R390). -/
def execJournalBlockClose (k : Fin 17) (s : State) : Res :=
  let c := s.chain k.val
  .next <| if c.openRecs ≠ [] ∧ (c.openLines = 63 ∨ c.openBeat + 64 ≤ s.beat) then s.closeBlock k.val else s

/-- JOURNAL_BLOCK_DURABLE: the write of a block of chain `k`, or of the root log for k = 17, completes and its lines become durable
(R382). -/
def execJournalBlockDurable (k : Fin 18) (jbn : Nat) (s : State) : Res :=
  .next <|
    if k.val = 17 then
      if jbn < s.jn.rootBlk then
        s.mapJn fun j => { j with rootlog := j.rootlog.map fun e => if e.1 / 4 = jbn then (e.1, true, e.2.2) else e }
      else s
    else
      let c := s.chain k.val
      if c.blocks.any fun b => b.jbn == jbn && b.written then
        (s.setChain k.val { c with blocks := c.blocks.map fun b => if b.jbn = jbn then { b with durable := true } else b }).refreshChain k.val
      else s

/-- A record's write-back is complete: a durable slot holds its generation or a later one (R342). -/
def State.writtenBack (s : State) (r : KeyRec) : Bool :=
  (s.ks.slotA ++ s.ks.slotB).any fun x => x.deckle == r.deckle && x.handle == r.handle && decide (r.gen ≤ x.gen)

/-- The conditions of R391 on the lowest unreleased block of chain `k`; the sweep's holds of a chain whose deckle sweeps. -/
def State.releasable (s : State) (k : Nat) (b : JBlock) : Bool :=
  b.durable && decide (b.jbn < (s.reg (R.JOURNAL_ARCH k)).toNat) && b.keys.all s.writtenBack &&
    b.entries.all (fun e => !s.jn.dirty.contains (e.deckle, s.vaultBucket e.deckle e.handle e.token)) &&
    (!(decide (k < 16) && s.sweeps k) || decide (b.lastBeat + 1 < s.jn.sweepBeat.getD k 0))

/-- JOURNAL_BLOCK_RELEASE: the lowest unreleased block of chain `k` is released when all conditions of R391 hold; a chain that had
stopped goes on draining. -/
def execJournalBlockRelease (k : Fin 17) (s : State) : Res :=
  let c := s.chain k.val
  .next <|
    match c.blocks with
    | b :: rest =>
      if s.releasable k.val b then ((s.setChain k.val { c with blocks := rest }).drainChain k.val).refreshChain k.val else s
    | [] => s

/-! ### The state block (R414) -/

/-- The state block, with FLAGS and the last beat covered. -/
def State.stateBlock (s : State) (orderly : Bool) : Bytes :=
  padTo 16352 (leBytes 4 (s.reg R.JOURNAL_EPOCH).toNat ++ leBytes 4 (b2n orderly) ++ leBytes 8 s.beat ++
    leBytes 8 (s.reg64 R.JOURNAL_RLN_LO) ++ zeros 8 ++
    ((List.range 17).map fun k =>
      padTo 0x80 ((s.chain k).head ++ leBytes 8 (s.nextSeq k) ++ leBytes 8 (s.nextJbn k) ++
        leBytes 8 (s.reg (R.JOURNAL_ARCH k)).toNat ++ leBytes 4 (s.chain k).epoch)).flatten)

/-- The state block is written to record 0x0102. -/
def State.writeStateBlock (s : State) (orderly : Bool) : State := s.deepWrite 0x0102 (s.stateBlock orderly)

end Sys2Proof.Machine
end

