-- ==== Sys2Proof/Machine/KeyUse.lean ====
section
/-! DEFINITION. How a job of a vat works with keys (R97 to R105, R297, R309 to R318, R341 to R346): the record a vat uses, the key
window and invalidations, the checks of keys and of KSNs, recovery of a record from its slots, and how a job ends. -/

namespace Sys2Proof.Machine

/-! ### Handles at admission (R97, R297) -/

/-- The deckle's mould enables mirroring (R439). -/
def mirrored (p : Bytes) : Bool := nbit (mirFlags p) 0

/-- The checks of a key field that must name a key. -/
def handleChecks (p : Bytes) (h : Nat) : List (Bool × Nat) :=
  [(h != 0 && decide (h < 2 ^ 24) && (hTerm h || hClass h != 3), 0x10E6), (hTerm h || hClass h == 0 || mirrored p, 0x10E5)]

/-- A field must be one of a range of numbers; reserved bytes must be zero. -/
def inRange (n lo hi r : Nat) : Bool × Nat := (decide (lo ≤ n) && decide (n ≤ hi), r)
def resv (b : Bytes) (off n : Nat) : Bool × Nat := (allZero (slice b off n), 0x10E2)

/-! ### The work of a job -/

/-- A job that its vat works on: the vat, its admission edge and the edge of the beat it works in. -/
structure Work where
  j : Job
  v : Nat
  b : Nat
  w : Nat
  deriving DecidableEq, Repr

/-- The job `i` of verb `verb`, when a vat may work on it now: admitted, in the beat its surcharge gives or later (R80), its read
set in, and no outcome yet. -/
def State.work (s : State) (i verb : Nat) : Option Work :=
  match s.job? i with
  | some j =>
    match j.stage with
    | .admitted v b =>
      if ¬ s.tripped ∧ dVerb j.desc = verb ∧ ¬ j.ready ∧ b + j.surcharge ≤ s.beat ∧ s.beat < j.due.getD 0 ∧ (j.surcharge = 0 ∨ 2 ≤ j.readSet) then
        some ⟨j, v, b, b + j.surcharge⟩
      else none
    | _ => none
  | none => none

/-- The same for a job whose work has not been done, whatever the beat: what its key use would have been (R130, R271). -/
def Job.asWork (j : Job) : Option Work := j.onVat.map fun p => ⟨j, p.1, p.2, p.2 + j.surcharge⟩

/-! ### The record a vat uses (R313 to R316) -/

/-- KEYS_STALE_LIMIT. -/
def State.staleLimit (s : State) : Nat := s.regField R.KEYS_CTRL 6 0

/-- The version of handle `h` that the job uses: the one visible at its admission edge, or an older one that its vat's window still
holds. -/
def State.keyFor (s : State) (x : Work) (h : Nat) : KeyRec :=
  let r := s.keyAt x.j.deckle h x.b
  match s.ks.window.find? fun e => e.vat == x.v && e.handle == h && decide (x.b ≤ e.edge + s.staleLimit) && decide (e.gen < r.gen) with
  | some e => ((s.keyVersions x.j.deckle h).find? fun k => k.gen == e.gen).getD r
  | none => r

/-- The vat unwraps a record into its key window. -/
def State.loadWindow (s : State) (v : Nat) (r : KeyRec) : State :=
  if r.state = 0 ∨ (s.ks.window.any fun e => e.vat == v && e.handle == r.handle && e.gen == r.gen) then s
  else s.mapKs fun k => { k with window := ⟨v, r.handle, r.gen, s.beat⟩ :: k.window }

/-- A vat discards its entries of a handle with a lower generation (R315), with local event 5 (R874). -/
def State.invalidate (s : State) (v h g : Nat) : State :=
  (s.raiseLocal v 5).mapKs fun k =>
    { k with window := k.window.filter fun e => !(e.vat == v && e.handle == h && decide (e.gen < g))
             invals := k.invals.filter fun e => e != (v, h, g) }

/-- Invalidations leave for every vat of the deckle. -/
def State.sendInvals (s : State) (d h g : Nat) : State :=
  s.mapKs fun k => { k with invals := k.invals ++ (s.vatsOf d).map fun v => (v, h, g) }

/-- Entries that no job may use any more go, with the invalidations that have arrived by the edge. -/
def State.windowEdge (s : State) : State :=
  let s := s.ks.invals.foldl (fun s e => s.invalidate e.1 e.2.1 e.2.2) s
  s.mapKs fun k => { k with window := k.window.filter fun e => decide (s.beat ≤ e.edge + s.staleLimit) }

/-- The key window of vat `v` is written with zero. -/
def State.wipeWindow (s : State) (v : Nat) : State := s.mapKs fun k => { k with window := k.window.filter fun e => e.vat != v }

/-! ### Slots (R341, R344, R401) -/

/-- Namespace block and pair number of a handle. -/
def slotPair (h : Nat) : Nat := if hTerm h then hIndex h else hClass h * 2097152 + hIndex h

/-- The 4 KiB of slot block `k` of deckle `d`. -/
def State.slotImage (s : State) (d k : Nat) (term : Bool) : Bytes :=
  ((List.range 16).map fun i =>
    let at_ (l : List KeyRec) : Bytes :=
      match l.find? fun r => r.deckle == d && hTerm r.handle == term && slotPair r.handle == 16 * k + i with
      | some r => s.wrapRec r
      | none => zeros 128
    at_ s.ks.slotA ++ at_ s.ks.slotB).flatten

/-- The slot block of a handle is written to the reservoir. -/
def State.writeSlotBlock (s : State) (d h : Nat) : State :=
  match s.nsFind (if hTerm h then 2 else 1) d, s.resvReady with
  | some n, true => s.resvWrite n (slotPair h / 16) (s.slotImage d (slotPair h / 16) (hTerm h))
  | _, _ => s

/-- The slots of a handle. -/
def slotOf (l : List KeyRec) (d h : Nat) : Option KeyRec := l.find? fun r => r.deckle == d && r.handle == h

/-- A slot given a record. -/
def putSlot (l : List KeyRec) (r : KeyRec) : List KeyRec := r :: l.filter fun x => !(x.deckle == r.deckle && x.handle == r.handle)

/-- Generation of a slot, 0 when it holds nothing. -/
def slotGen (o : Option KeyRec) : Nat := (o.map (·.gen)).getD 0

/-- A record's new generation is written to the slot holding the older one (R341). -/
def State.writeBack (s : State) (r : KeyRec) : State :=
  let a := slotGen (slotOf s.ks.slotA r.deckle r.handle)
  let b := slotGen (slotOf s.ks.slotB r.deckle r.handle)
  let s := if a ≤ b then s.mapKs fun k => { k with slotA := putSlot k.slotA r } else s.mapKs fun k => { k with slotB := putSlot k.slotB r }
  s.writeSlotBlock r.deckle r.handle

/-- The records of a handle in commit records of unreleased segments. -/
def State.journalled (s : State) (d h : Nat) : List KeyRec :=
  let c := s.chain d
  (c.openKeys ++ (c.blocks.map (·.keys)).flatten).filter fun r => r.deckle == d && r.handle == h

/-- The newest of some records. -/
def newest (l : List KeyRec) : Option KeyRec :=
  l.foldl (fun o r => match o with | some x => if x.gen < r.gen then some r else o | none => some r) none

/-- The procedure of R344 for one handle: the working copy from the slots and the newest commit record, or CONFLICT with event 318;
a slot that is behind is rewritten, with event 281. -/
def State.recoverKey (s : State) (d h : Nat) : State :=
  let a := slotOf s.ks.slotA d h
  let b := slotOf s.ks.slotB d h
  let cand := a.toList ++ b.toList ++ (newest (s.journalled d h)).toList
  let drop (s : State) : State := s.mapKs fun k => { k with recs := k.recs.filter fun r => !(r.deckle == d && r.handle == h) }
  match newest cand with
  | none => (((drop s).install { KeyRec.empty d h with state := 4 }).bump R.KEYS_CONFLICTS).raise 318
  | some top =>
    let tops := cand.filter fun r => r.gen == top.gen
    if tops.any fun r => s.wrapAll r != s.wrapAll top then
      (((drop s).install { top with state := 4 }).bump R.KEYS_CONFLICTS).raise 318
    else
      let s := (drop s).install { top with badTag := false }
      let ga := slotGen a
      let gb := slotGen b
      let s := if ga < gb ∧ ga < top.gen then (((s.mapKs fun k => { k with slotA := putSlot k.slotA top }).writeSlotBlock d h).bump R.KEYS_SLOT_REPAIRS).raise 281 else s
      if gb < ga ∧ gb < top.gen then (((s.mapKs fun k => { k with slotB := putSlot k.slotB top }).writeSlotBlock d h).bump R.KEYS_SLOT_REPAIRS).raise 281 else s

/-- A tag that fails in HBM: the record is recovered from its slots, event 280, and an invalidation goes out (R345). -/
def State.tagFail (s : State) (d h : Nat) : State :=
  let s := (s.recoverKey d h).raise 280
  s.sendInvals d h (s.keyNow d h).gen

/-! ### Key serial numbers (R126 to R130) -/

/-- The checks of a KSN on the record of KEY_A: a terminal context's initial key ID and, where the deckle's policy says so, its
last accepted counter. -/
def State.ksnChecks (s : State) (x : Work) (r : KeyRec) (ksn : Bytes) : List (Bool × Nat) :=
  let last := s.counterSeen x.j.deckle r.handle x.v x.b x.w r.lastCtr
  [(r.usage != uB1 || r.ikId == ksn.take 8, 0x1402),
   (r.usage != uB1 || !symBit x.j.set 5 || decide (last < ksnCounter ksn), 0x1401)]

/-- The initial key that a KSN names (R127). -/
def initialKey (r : KeyRec) (ksn : Bytes) : Bytes := if r.usage = uB1 then r.key else dukptInitial r.key (ksn.take 8)

/-- The last accepted counter after the use of a KSN (R128), for a terminal context. -/
def State.ksnAccept (s : State) (x : Work) (r : KeyRec) (ksn : Bytes) : State :=
  if r.usage = uB1 then
    let last := s.counterSeen x.j.deckle r.handle x.v x.b x.w r.lastCtr
    let n := if symBit x.j.set 5 then ksnCounter ksn else max last (ksnCounter ksn)
    (s.writeCounter ⟨x.j.deckle, r.handle, n, x.j.due.getD 0, (x.v, x.b)⟩).updJob x.j.id fun j => { j with counter := n }
  else s

/-! ### Ends of a job -/

/-- The keys a job used are noted, and unwrapped into the vat's window; a tag that fails sends its record to recovery. -/
def State.useKeys (s : State) (x : Work) (a b : Option KeyRec) : State :=
  let one (s : State) (r : KeyRec) : State :=
    let s := if r.gen < (s.keyAt x.j.deckle r.handle x.b).gen then s.bump (R.KEYS_STALE_USE x.j.deckle) else s
    if r.badTag then s.tagFail x.j.deckle r.handle else s.loadWindow x.v r
  let s := s.updJob x.j.id fun j => { j with
    keyA := ((a.map fun r => (r.handle, r.gen)).getD (0, 0)), keyB := ((b.map fun r => (r.handle, r.gen)).getD (0, 0)) }
  (a.toList ++ b.toList).foldl one s

/-- The class and reason of a job: a device fault first, then the first failing check (R100, R949). -/
def verdict (j : Job) (faults checks : List (Bool × Nat)) : Nat × Nat :=
  match firstFail ((j.readSet != 3, 0x4002) :: faults) with
  | some r => (6, r)
  | none =>
    match firstFail checks with
    | some r => (1, r)
    | none => (0, 0)

/-- A job's outcome is known: RESULT and output only when OK (R101). -/
def State.finish (s : State) (x : Work) (vd : Nat × Nat) (result output : Bytes) : State :=
  s.updJob x.j.id fun j => { j with ready := true, cls := vd.1, reason := vd.2
                                    result := if vd.1 = 0 then result else [], output := if vd.1 = 0 then output else [] }

/-- The symmetric engine's counters at the end of one of its jobs (R156), with local event 2 (R874). -/
def State.symDone (s : State) (x : Work) (vd : Nat × Nat) : State :=
  let s := (s.raiseLocal x.v 2).bump64 (R.SYM_JOBS_LO x.v) 1
  if vd.1 = 1 then s.bump (R.SYM_REFUSED x.v) else s

/-- `n` bytes from the vat's instance for a job, zeros when it is in its error state; and whether it could draw (R949). -/
def State.jobDraw (s : State) (v n : Nat) : Bytes × Bool × State :=
  if n = 0 then ([], true, s)
  else
    match s.drawVat v n with
    | some r => (r.1, true, r.2)
    | none => (zeros n, false, s)

end Sys2Proof.Machine
end

