-- ==== Sys2Proof/Machine/Couch.lean ====
section
/-! DEFINITION. The couch (R85 to R92, R238, R243 to R251, R257, R783 to R787): completions, diagnostic entries, response frames
and interrupts, JOB records, and the commands that release a job. -/

namespace Sys2Proof.Machine

/-! ### Classes (R244) -/

abbrev clsOk : Nat := 0
abbrev clsRefused : Nat := 1
abbrev clsMalformed : Nat := 2
abbrev clsBusy : Nat := 3
abbrev clsAborted : Nat := 4
abbrev clsCancelled : Nat := 5
abbrev clsFault : Nat := 6
abbrev clsOverrun : Nat := 7

/-! ### Rings of the host (R233, R238, R961) -/

/-- The function can be reached: Bus Master Enable and the link (R787). -/
def State.hostReach (s : State) (f : Nat) : Bool := s.regBit (R.HOSTIF_STATUS f) 1 && s.regBit (R.HOSTIF_STATUS f) 2

/-- Entries of a queue's rings, and of a deckle's diagnostic ring. -/
def State.ringSize (s : State) (f q : Nat) : Nat := 2 ^ s.regField (R.HOSTIF_Q_CTRL f q) 19 16
def State.diagSize (s : State) (d : Nat) : Nat := 2 ^ s.regField (R.HOSTIF_DQ_CTRL d) 19 16

/-- A queue is enabled. -/
def State.queueOn (s : State) (f q : Nat) : Bool := s.regBit (R.HOSTIF_Q_CTRL f q) 0

/-- PHASE of a ring at present: 1 until its first wrap. -/
def State.ringPhase (s : State) (f q : Nat) : Nat := b2n !(s.bt.inverted.contains (f, q))

/-- A ring has wrapped: its PHASE is inverted. -/
def State.flipPhase (s : State) (f q : Nat) : State :=
  s.mapBt fun b => { b with inverted := if b.inverted.contains (f, q) then b.inverted.filter (· != (f, q)) else (f, q) :: b.inverted }

/-- A ring starts its first pass, empty. -/
def State.startPhase (s : State) (f q : Nat) : State :=
  s.mapBt fun b => { b with inverted := b.inverted.filter (· != (f, q)), full := b.full.filter (· != (f, q)) }

/-- Entries of a ring of `n` entries that hold something, from its tail and head (R234, R248, R782). -/
def State.ringUsed (s : State) (f q n tail head : Nat) : Nat := if s.bt.full.contains (f, q) then n else (tail + n - head % n) % n

/-- An entry of a ring of `n` entries is written at `tail`: whether it was the last free one. -/
def State.ringWrote (s : State) (f q n tail head : Nat) : State :=
  if (tail + 1) % n = head % n then s.mapBt fun b => { b with full := (f, q) :: b.full } else s

/-- The host writes the head of a ring: the entries before it are free again, every entry of a full ring when its head stays
(notes/assumptions/10.md). -/
def State.ringFreed (s : State) (f q : Nat) : State := s.mapBt fun b => { b with full := b.full.filter (· != (f, q)) }

/-- The device counts one loss of function `f` (R787). -/
def State.hostLost (s : State) (f : Nat) : State := s.bump (R.HOSTIF_LOST f)

/-- Whether a function's MSI-X vector is masked: bit 0 of its vector control word in the table at 0x6000 (R780). -/
def State.vectorMasked (s : State) (f v : Nat) : Bool := bit (w32 (leNat (s.read (R.HOSTIF_STATUS f + 0x6000 + 16 * v + 12) 4))) 0

/-- A vector is sent (R783). -/
def State.sendVector (s : State) (f v : Nat) : State := if s.vectorMasked f v then s else s.emit (.msix f v) []

/-! ### Completions (R243 to R245) -/

/-- REASON is shown on the privileged queue of a deckle with expert diagnostics only (R245). -/
def State.showReason (s : State) (j : Job) : Bool :=
  match j.src with
  | .host f q => decide (f.val ≠ 0) && q.val == 0 && s.regBit (R.COUCH_DIAG j.deckle) 0
  | .net _ _ _ _ => false

/-- The 32 bytes of a completion. -/
def completion (tag reason cls flags outLen release : Nat) (result : Bytes) : Bytes :=
  leBytes 4 tag ++ leBytes 2 reason ++ [by8 cls, by8 flags] ++ leBytes 4 outLen ++ leBytes 4 release ++ padTo 16 result

/-- What the couch releases of a job: class, reason, RESULT and output. -/
structure Rel where
  cls    : Nat
  reason : Nat
  result : Bytes
  output : Bytes
  deriving DecidableEq, Repr

/-- The completion of a job released at this edge. -/
def State.completionOf (s : State) (j : Job) (r : Rel) (flags : Nat) : Bytes :=
  completion (dTag j.desc) (if s.showReason j then r.reason else 0) r.cls flags r.output.length s.beat r.result

/-- A host job's output and completion are written, or lost while the function cannot be reached; a closed queue gets nothing
(R784, R785, R787). -/
def State.releaseHost (s : State) (j : Job) (r : Rel) (f q : Nat) : State :=
  if ¬ s.queueOn f q then s
  else if ¬ s.hostReach f then if r.output = [] then s.hostLost f else (s.hostLost f).hostLost f
  else
    let s := if r.output = [] then s else s.emit (.hostData f q (dOutOff j.desc)) r.output
    let t := (s.reg (R.HOSTIF_CQ_TAIL f q)).toNat
    let s := s.emit (.completionRing f q) (s.completionOf j r (s.ringPhase f q))
    let n := (t + 1) % s.ringSize f q
    let s := s.ringWrote f q (s.ringSize f q) t (s.reg (R.HOSTIF_CQ_HEAD f q)).toNat
    let s := s.setReg (R.HOSTIF_CQ_TAIL f q) (w32 n)
    if n = 0 then s.flipPhase f q else s

/-- A network job's completion and output join the response frame of its request for this edge (R257). -/
def State.releaseNet (s : State) (j : Job) (r : Rel) (fr : FrameRef) : State :=
  let c := s.completionOf j r 0
  let here (x : Response) : Bool := x.frame.req == fr.req && x.edge == s.beat
  s.mapBt fun b =>
    if b.responses.any here then
      { b with responses := b.responses.map fun x => if here x then { x with items := x.items ++ [(c, r.output)] } else x }
    else { b with responses := b.responses ++ [⟨j.src, fr, s.beat, [(c, r.output)]⟩] }

/-- The diagnostic entry of a completion (R247). -/
def State.diagEntry (s : State) (j : Job) (r : Rel) : Bytes :=
  let net := match j.src with | .net _ _ _ _ => 2 | _ => 0
  let num := match j.src with | .net p _ _ _ => p.val | .host _ q => q.val
  let placed := j.vat.isSome
  leBytes 4 (dTag j.desc) ++ leBytes 2 r.reason ++ [by8 r.cls, by8 (s.ringPhase (j.deckle + 1) 8 + net)] ++ leBytes 2 (dVerb j.desc) ++
    [by8 (dAlg j.desc), by8 (j.vat.getD 0xFF)] ++ leBytes 4 s.beat ++ leBytes 4 (if placed then j.admitEdge else s.beat) ++
    leBytes 4 (dKeyA j.desc) ++ leBytes 2 num ++ zeros 2 ++ leBytes 4 (srcId j.src)

/-- The diagnostic entry is written to the privileged queue's ring, or discarded when it has no room (R246, R248). -/
def State.diagnose (s : State) (j : Job) (r : Rel) : State :=
  let d := j.deckle
  if 16 ≤ d ∨ ¬ s.regBit (R.COUCH_DIAG d) 0 ∨ (r.cls = clsOk ∧ ¬ s.regBit (R.COUCH_DIAG d) 1) then s
  else if ¬ s.hostReach (d + 1) then s.hostLost (d + 1)
  else
    let n := s.diagSize d
    let t := (s.reg (R.HOSTIF_DQ_TAIL d)).toNat
    let t' := (t + 1) % n
    let h := (s.reg (R.HOSTIF_DQ_HEAD d)).toNat
    if ¬ s.regBit (R.HOSTIF_DQ_CTRL d) 0 ∨ n ≤ s.ringUsed (d + 1) 8 n t h then (s.bump (R.COUCH_DIAG_LOST d)).raise 252
    else
      let s := s.emit (.diagnosticRing (d + 1)) (s.diagEntry j r)
      let s := (s.ringWrote (d + 1) 8 n t h).setReg (R.HOSTIF_DQ_TAIL d) (w32 t')
      if t' = 0 then s.flipPhase (d + 1) 8 else s

/-- The couch's counters for a release of deckle `d` with class `cls` (R289), and admission's for an answer (R285). -/
def State.countRelease (s : State) (d cls : Nat) : State :=
  if 16 ≤ d then s
  else
    let s := (s.bump64 (R.COUCH_RELEASED_LO d) 1).setReg (R.COUCH_LAST_EDGE d) (w32 s.beat)
    if cls = clsRefused then s.bump (R.COUCH_REFUSED d)
    else if cls = clsFault then s.bump (R.COUCH_FAULT d)
    else if cls = clsBusy then s.bump (R.ADMIT_BUSY d)
    else if cls = clsMalformed then s.bump (R.ADMIT_MALFORMED d)
    else if cls = clsOverrun then (s.bump R.BEAT_OVERRUN_COUNT).raise 244
    else s

/-- Job `i` is gone, and its change with it; versions and counters that no job sees any more go too. -/
def State.dropJob (s : State) (i : Nat) : State :=
  (((s.mapBt fun b => { b with jobs := b.jobs.filter fun j => j.id != i }).mapKs fun k =>
    { k with changes := k.changes.filter fun c => c.job != i }).pruneKeys).pruneCounters

/-- Whether another job of the same ring is still to be released at this edge. -/
def State.moreFor (s : State) (j : Job) : Bool := s.bt.jobs.any fun x => x.id != j.id && x.src == j.src && x.due == some s.beat

/-- Whether another completion of the deckle is still to come at this edge. -/
def State.moreOf (s : State) (j : Job) : Bool := s.bt.jobs.any fun x => x.id != j.id && x.deckle == j.deckle && x.due == some s.beat

/-- The interrupts after the last write of the edge to each ring (R783). -/
def State.interrupts (s : State) (j : Job) (diagWas : Nat) : State :=
  let s :=
    match j.src with
    | .host f q =>
      if s.queueOn f.val q.val && s.hostReach f.val && !s.moreFor j then
        s.sendVector f.val (s.regField (R.HOSTIF_Q_CTRL f.val q.val) 27 24) else s
    | _ => s
  if decide (j.deckle < 16) && decide (diagWas ≠ (s.reg (R.HOSTIF_DQ_TAIL j.deckle)).toNat) && !s.moreOf j then
    s.sendVector (j.deckle + 1) (Config.diagVector % 9) else s

/-- The couch releases a job at this edge. -/
def State.release (s : State) (j : Job) (r : Rel) : State :=
  if s.quiet then s else
  let dq := (s.reg (R.HOSTIF_DQ_TAIL (j.deckle % 16))).toNat
  let s :=
    match j.src, j.frame with
    | .host f q, _ => s.releaseHost j r f.val q.val
    | .net _ _ _ _, some fr => s.releaseNet j r fr
    | .net _ _ _ _, none => s
  (((s.diagnose j r).countRelease j.deckle r.cls).interrupts j dq).dropJob j.id

/-! ### Outcomes -/

/-- The outcome that a job's meaning found: class, reason, RESULT and output, with the record's keys and counter. -/
def State.outcome (s : State) (i cls reason : Nat) (result output : Bytes) : State :=
  s.updJob i fun j => { j with ready := true, cls := cls, reason := reason, result := result, output := output }

/-- What the couch releases of a job that is ready: its outcome, or CANCELLED without a result when CANCEL has marked it, a device
fault or an ABORT standing over the mark (R263, R949). -/
def Job.rel (j : Job) : Rel :=
  if j.marked ∧ j.cls ≠ clsFault ∧ j.cls ≠ clsAborted then ⟨clsCancelled, 0x0302, [], []⟩ else ⟨j.cls, j.reason, j.result, j.output⟩

/-! ### JOB records (R369) -/

/-- KEY_CREATED and KEY_ABANDONED of a JOB record (R323, R367, R951): its change committed, or its index or change was abandoned. -/
def State.keyFlags (s : State) (j : Job) : Nat :=
  let st (g : ChangeStage) : Bool := s.ks.changes.any fun c => c.job == j.id && c.stage == g
  let made := j.newHandle != 0 && st .committed
  (if made then 8 else 0) + (if st .rolledBack || (j.newHandle != 0 && !made) then 16 else 0)

/-- The digests of a job's replay line (R749): of descriptor and input, and of the vat's own outcome. -/
def State.replayDigests (s : State) (j : Job) : Bytes :=
  let k := (s.replayKeys j.deckle).2
  let mac (m : Bytes) : Bytes := (hmacOf 0x22 k m).take 24
  mac (j.desc ++ j.input) ++ mac ([by8 j.cls] ++ leBytes 4 j.output.length ++ padTo 16 j.result ++ j.output)

/-- The JOB record of a job with the class it is released with; in a replay-enabled deckle it has a replay line. -/
def State.jobRec (s : State) (j : Job) (r : Rel) (flags release : Nat) (extra : Bytes) : PendRec :=
  let rp := s.replays j.deckle
  { plainRec 2 j.deckle 1 2 [] [] with
    vat := j.vat.getD 0
    flags := flags + s.keyFlags j + (if rp then 4 else 0)
    clear := leBytes 2 (dVerb j.desc) ++ [by8 (dAlg j.desc), by8 r.cls, by8 (j.vat.getD 0), by8 (srcKind j.src)] ++
      leBytes 2 (srcNum j.src) ++ leBytes 4 (srcId j.src) ++ leBytes 4 (dTag j.desc) ++ leBytes 4 j.admitEdge ++ leBytes 4 release ++
      leBytes 4 j.keyA.1 ++ leBytes 4 j.keyA.2 ++ leBytes 4 j.keyB.1 ++ leBytes 4 j.keyB.2 ++ leBytes 4 (dInLen j.desc) ++
      leBytes 4 r.output.length ++ leBytes 8 j.counter ++ leBytes 4 j.newHandle ++ zeros 4 ++ extra
    sealed := leBytes 2 r.reason ++ zeros 2 ++ padTo 12 j.detail
    job := some j.id
    replay := if rp then s.replayDigests j else [] }

/-! ### The commands -/

/-- COUCH_RELEASE: at its due edge the couch releases a job whose outcome is ready and, for a job of a vat, whose record is committed
(R85, R86). -/
def execCouchRelease (job : Nat) (s : State) : Res :=
  .next <|
    match s.job? job with
    | some j => if j.due = some s.beat ∧ j.ready ∧ (j.onVat.isNone ∨ j.committed) then s.release j j.rel else s
    | none => s

/-- OUTPUT_COPY_FAIL: the PCIe write of a host job's output fails; its completion is FAULT 0x0505 without output (R251). -/
def execOutputCopyFail (job : Nat) (s : State) : Res :=
  .next <|
    match s.job? job with
    | some j =>
      match j.src with
      | .host f q =>
        if j.due = some s.beat ∧ j.ready ∧ (j.onVat.isNone ∨ j.committed) ∧ j.rel.output ≠ [] then
          let s := (s.bump R.COUCH_COPY_FAIL).errAt errOutput (.unit 81) .store (R.COUCH_STATUS)
          (s.raise 253).release j ⟨clsFault, 0x0505, [], []⟩
        else s
      | _ => s
    | none => s

end Sys2Proof.Machine
end

