-- ==== Sys2Proof/Machine/Pay.lean ====
section
/-! DEFINITION. The payment and symmetric verbs (R96 to R162): what admission checks of each, and what a vat does. -/

namespace Sys2Proof.Machine

/-! ### Fields of the verb areas -/

/-- The expert flag of the sequencer must be set for an expert field that is not zero (R8). -/
def expertSym (t : DSet) (n : Nat) : Bool × Nat := (n == 0 || symBit t 7, 0x10E4)

/-- A KSN field must be zero or carry a right counter (R126). -/
def ksnField (ksn : Bytes) : Bool × Nat := (!ksnPresent ksn || ksnCounterOk ksn, 0x10E7)

/-- Formats of PIN blocks. -/
def fmtOk (f : Nat) : Bool × Nat := ([0, 1, 3, 4].contains f, 0x10E1)

/-- PAN_LEN, empty allowed where no format uses the PAN. -/
def panLenOk (n : Nat) (empty : Bool) : Bool × Nat := ((decide (12 ≤ n) && decide (n ≤ 19)) || (n == 0 && empty), 0x10E1)

/-- ALG must be zero, and KEY_A must name a key, or none. -/
def noAlg (b : Bytes) : Bool × Nat := (dAlg b == 0, 0x10E1)
def noKey (b : Bytes) : Bool × Nat := (dKeyA b == 0, 0x10E6)

/-- IN_LEN and OUT_LEN. -/
def inLenIs (b : Bytes) (n : Nat) : Bool × Nat := (dInLen b == n, 0x10E3)
def outLenAt (b : Bytes) (n : Nat) : Bool × Nat := (decide (n ≤ dOutLen b), 0x10E3)

/-! ### MAC lengths and token profiles (R116, R117, R134, R158, R159) -/

/-- The MAC_LEN in force: the field, or the deckle's default. -/
def macLenOf (t : DSet) (alg n : Nat) : Nat :=
  if n ≠ 0 then n else if alg = 1 then field t.macLen 7 0 else if alg ≤ 3 then field t.macLen 15 8 else field t.macLen 23 16

/-- LEAD, TRAIL and LUHN in force: the profile's, or the descriptor's under OVERRIDE. -/
def tokProf (t : DSet) (b : Bytes) : Nat × Nat × Nat :=
  let p := t.tokprof.getD (byteAt b 0x20) 0
  if byteAt b 0x21 = 1 then (byteAt b 0x22, byteAt b 0x23, byteAt b 0x24) else (field p 3 0, field p 7 4, field p 9 8)

/-- The bulk lane's largest input. -/
abbrev bulkMax : Nat := 16777216

/-- TAG_LEN in force (R148). -/
def tagLenOf (b : Bytes) : Nat := if byteAt b 0x24 = 0 then 16 else byteAt b 0x24

/-- Modes of DATA_TRANSLATE: initial value and block length. -/
def dtIv (m : Nat) : Nat := if m = 1 then 8 else 16
def dtBlk (m : Nat) : Nat := if m = 1 then 8 else if m = 2 then 16 else 1

/-- The length of DATA_TRANSLATE's output data (R144). -/
def dtOut (b : Bytes) : Nat :=
  let d := dInLen b - dtIv (byteAt b 0x24)
  let k := dtBlk (byteAt b 0x25)
  if byteAt b 0x27 = 0 then d else if byteAt b 0x26 = 0 then k * ceilDiv (d + 1) k else k * ceilDiv d k

/-! ### What admission checks, in the order of R98 -/

/-- PIN_TRANSLATE (R109, R110). -/
def chkPinTranslate (p : Bytes) (t : DSet) (b : Bytes) : List (Bool × Nat) :=
  let sf := byteAt b 0x24
  let df := byteAt b 0x25
  let down := sf == 4 && df != 4
  let one := df == 1 && sf != 1
  [noAlg b] ++ handleChecks p (dKeyA b) ++ handleChecks p (leAt b 0x20 4) ++
  [fmtOk sf, fmtOk df, panLenOk (byteAt b 0x26) (sf == 1 && df == 1), resv b 0x27 1, ksnField (slice b 0x32 12), resv b 0x3E 2,
   ((!down || symBit t 2) && (!one || symBit t 3), 0x10E5), inLenIs b (fmtLen sf), outLenAt b (fmtLen df)]

/-- PIN_VERIFY (R113). -/
def chkPinVerify (p : Bytes) (t : DSet) (b : Bytes) : List (Bool × Nat) :=
  let f := byteAt b 0x24
  [noAlg b] ++ handleChecks p (dKeyA b) ++ handleChecks p (leAt b 0x20 4) ++
  [fmtOk f, panLenOk (byteAt b 0x25) (f == 1), inRange (byteAt b 0x26) 4 12 0x10E1, inRange (byteAt b 0x27) 0 15 0x10E1,
   expertSym t (byteAt b 0x27), inLenIs b (fmtLen f)]

/-- MAC_GENERATE and MAC_VERIFY (R116 to R121). -/
def chkMac (verify : Bool) (p : Bytes) (t : DSet) (b : Bytes) : List (Bool × Nat) :=
  let alg := dAlg b
  let n := byteAt b 0x20
  let r := macRange alg
  let len := macLenOf t alg n
  let ksn := slice b 0x24 12
  [inRange alg 1 9 0x10E1] ++ handleChecks p (dKeyA b) ++
  [(n == 0 || (decide (r.1 ≤ n) && decide (n ≤ r.2)), 0x10E1), resv b 0x21 3, if verify then ksnField ksn else (allZero ksn, 0x10E2),
   resv b 0x30 16, (!ksnPresent ksn || decide (alg ≤ 3), 0x10E5),
   if verify then inRange (dInLen b) len (8192 + len) 0x10E3 else inRange (dInLen b) 0 8192 0x10E3,
   outLenAt b (if verify then 0 else len)]

/-- CRYPTOGRAM_VERIFY (R122, R123). -/
def chkCryptogram (p : Bytes) (_ : DSet) (b : Bytes) : List (Bool × Nat) :=
  let m := byteAt b 0x36
  let n := byteAt b 0x3C
  [noAlg b] ++ handleChecks p (dKeyA b) ++
  [inRange (byteAt b 0x2A) 12 19 0x10E1, inRange m 0 2 0x10E1, inRange (byteAt b 0x37) 0 1 0x10E1,
   (m == 2 || allZero (if m = 1 then slice b 0x3A 2 else slice b 0x38 4), 0x10E2),
   (decide (n ≤ 8) && (n == 0 || m == 2), 0x10E1), resv b 0x3D 3, inRange (dInLen b) (1 + n) (256 + n) 0x10E3,
   outLenAt b (if m = 0 then 0 else if m = 1 then 8 else 4)]

/-- Key type of WK_TYPE, and the length of its key block (R303). -/
def wkType (t : Nat) : Nat := match t with | 1 => 0x11 | 2 => 0x12 | 3 => 0x13 | 4 => 1 | _ => 2
def wkExport (t : Nat) : Nat := if t ≤ 3 then 160 else 128

/-- DUKPT_DERIVE (R131, R132). -/
def chkDukpt (p : Bytes) (_ : DSet) (b : Bytes) : List (Bool × Nat) :=
  let u := byteAt b 0x30
  let t := byteAt b 0x31
  [noAlg b] ++ handleChecks p (dKeyA b) ++ handleChecks p (leAt b 0x20 4) ++
  [(ksnCounterOk (slice b 0x24 12), 0x10E7), inRange u 1 7 0x10E1, inRange t 1 5 0x10E1, resv b 0x32 14,
   (!(decide (2 ≤ u) && decide (u ≤ 4) && t == 5), 0x10E5), inLenIs b 0, outLenAt b (wkExport t)]

/-- TOKENIZE and DETOKENIZE (R134, R135). -/
def chkToken (p : Bytes) (t : DSet) (b : Bytes) : List (Bool × Nat) :=
  let pr := byteAt b 0x20
  let l := tokProf t b
  let tl := byteAt b 0x25
  [noAlg b] ++ handleChecks p (dKeyA b) ++
  [(decide (pr ≤ 7) && bit (t.tokprof.getD pr 0) 31, 0x10E1), inRange (byteAt b 0x21) 0 1 0x10E1, expertSym t (byteAt b 0x21),
   inRange (byteAt b 0x22) 0 8 0x10E1, expertSym t (byteAt b 0x22), inRange (byteAt b 0x23) 0 4 0x10E1, expertSym t (byteAt b 0x23),
   inRange (byteAt b 0x24) 0 2 0x10E1, expertSym t (byteAt b 0x24), inRange tl 0 16 0x10E1,
   (allZero (slice b (0x28 + tl) (16 - tl)), 0x10E2), resv b 0x38 8,
   inRange (dInLen b) (l.1 + l.2.1 + 6 + (if l.2.2 = 0 then 0 else 1)) 32 0x10E3, outLenAt b (dInLen b)]

/-- DATA_TRANSLATE (R142 to R145). -/
def chkDataTranslate (p : Bytes) (_ : DSet) (b : Bytes) : List (Bool × Nat) :=
  let im := byteAt b 0x24
  let om := byteAt b 0x25
  let pad (m n : Nat) : Bool × Nat := (decide (n ≤ 1) && (n == 0 || m != 3), 0x10E1)
  let d := dInLen b - dtIv im
  [noAlg b] ++ handleChecks p (dKeyA b) ++ handleChecks p (leAt b 0x20 4) ++
  [inRange im 1 3 0x10E1, inRange om 1 3 0x10E1, pad im (byteAt b 0x26), pad om (byteAt b 0x27), ksnField (slice b 0x28 12),
   resv b 0x34 12,
   (decide (dtIv im + 1 ≤ dInLen b) && decide (d ≤ 8192) && d % dtBlk im == 0 && (byteAt b 0x27 == 1 || d % dtBlk om == 0), 0x10E3),
   outLenAt b (dtIv om + dtOut b)]

/-- SEAL and OPEN (R148 to R152). -/
def chkSeal (open_ : Bool) (p : Bytes) (t : DSet) (b : Bytes) : List (Bool × Nat) :=
  let aad := leAt b 0x20 4
  let tl := byteAt b 0x24
  let tag := tagLenOf b
  let mode := byteAt b 0x25
  let n := dInLen b
  [noAlg b] ++ handleChecks p (dKeyA b) ++ [(tl == 0 || (decide (12 ≤ tl) && decide (tl ≤ 16)), 0x10E1)] ++
  (if open_ then [(mode == 0, 0x10E2)] else [inRange mode 0 1 0x10E1, expertSym t mode]) ++
  [resv b 0x26 2, (open_ || mode == 1 || allZero (slice b 0x28 12), 0x10E1), resv b 0x34 12, (mode == 0 || symBit t 6, 0x10E5),
   (decide (n ≤ bulkMax) && (!open_ || decide (tag ≤ n)) && decide (aad + (if open_ then tag else 0) ≤ n), 0x10E3),
   outLenAt b (if open_ then n - aad - tag else n - aad + tag)]

/-- HASH (R153). -/
def chkHash (b : Bytes) : List (Bool × Nat) :=
  [inRange (dAlg b) 0x21 0x26 0x10E1, noKey b, resv b 0x20 32, inRange (dInLen b) 0 bulkMax 0x10E3, outLenAt b (hashLen (dAlg b))]

/-- RANDOM (R154). -/
def chkRandom (b : Bytes) : List (Bool × Nat) :=
  let n := byteAt b 0x21
  [noAlg b, noKey b, (decide (byteAt b 0x20 ≤ 1), 0x10E2), inRange n 0 16 0x10E1, resv b 0x22 2, (allZero (slice b (0x24 + n) (16 - n)), 0x10E2),
   resv b 0x34 12, inLenIs b 0, inRange (dOutLen b) 1 4096 0x10E3]

/-- NOOP (R242). -/
def chkNoop (b : Bytes) : List (Bool × Nat) := [noAlg b, noKey b, resv b 0x20 32, inLenIs b 0, (dOutLen b == 0, 0x10E3)]

/-! ### Checks of keys in the vat (R104) -/

/-- The usages and modes of a key that is used directly, or, with a KSN, through DUKPT. -/
def dukptRole (ksn : Bool) (usage : List Nat) (modes : List Nat) : List Nat × List Nat := if ksn then ([uB0, uB1], [mX]) else (usage, modes)

/-- A PIN key's algorithm for a format: TDES or AES, and the deckle's policy. -/
def pinAlg (t : DSet) (f kt : Nat) : Bool := if fmtAes f then ktAes kt else ktTdes kt && symBit t 4

/-- The key checks of a source key with an optional KSN: the record, then the KSN. -/
def State.sourceChecks (s : State) (x : Work) (r : KeyRec) (ksn : Bytes) (usage modes : List Nat) (direct : Bool) (tdes : Bool) :
    List (Bool × Nat) :=
  let k := ksnPresent ksn
  let ro := dukptRole k usage modes
  let alg := if k then ktAes r.ktype && (!tdes || symBit x.j.set 4) else direct
  s.keyChecks x.j.deckle (dKeyA x.j.desc) r ro.1 ro.2 alg ++ (if k then s.ksnChecks x r ksn else [])

/-- The source key's material: the record's, or the DUKPT working key of usage `u` and type `t` (R111, R121, R146). -/
def sourceKey (r : KeyRec) (ksn : Bytes) (u t : Nat) : Nat × Bytes :=
  if ksnPresent ksn then (wkType t, dukptWorking (initialKey r ksn) ksn u t) else (r.ktype, r.key)

/-! ### PIN verbs -/

/-- The checks of a PIN block deciphered. -/
def pinBlockChecks (f : Nat) (fld : Bytes) : List (Bool × Nat) :=
  match pinChecks f fld with
  | some r => [(false, r)]
  | none => []

/-- The keys and checks of PIN_TRANSLATE, and the PIN field (R111, R112). -/
structure PinWork where
  ra     : KeyRec
  rb     : KeyRec
  checks : List (Bool × Nat)
  field  : Bytes

def State.pinTranslateWork (s : State) (x : Work) : PinWork :=
  let b := x.j.desc
  let sf := byteAt b 0x24
  let df := byteAt b 0x25
  let n := byteAt b 0x26
  let pan := slice b 0x28 10
  let ksn := slice b 0x32 12
  let ra := s.keyFor x (dKeyA b)
  let rb := s.keyFor x (leAt b 0x20 4)
  let k := sourceKey ra ksn 0x1000 (if sf = 4 then 1 else 4)
  let fld := pinDecipher sf (keyDec k.1 k.2) x.j.input (panField sf pan n)
  { ra, rb, field := fld
    checks := s.sourceChecks x ra ksn [uP0] [mD, mB] (pinAlg x.j.set sf ra.ktype) (sf != 4) ++
      s.keyChecks x.j.deckle (leAt b 0x20 4) rb [uP0] [mE, mB] (pinAlg x.j.set df rb.ktype) ++
      [(!(fmtPan sf || fmtPan df) || panOk pan n, 0x1107)] ++ pinBlockChecks sf fld }

/-- PIN_TRANSLATE (R107 to R112). -/
def execPinTranslate (job : Nat) (s : State) : Res :=
  .next <|
    match s.work job 0x0101 with
    | none => s
    | some x =>
      let b := x.j.desc
      let df := byteAt b 0x25
      let p := s.pinTranslateWork x
      let r := s.jobDraw x.v (pinDraw df)
      let vd := verdict x.j [(r.2.1, 0x1801)] p.checks
      let out := pinEncipher df (keyEnc p.rb.ktype p.rb.key) (pinField df (pinDigits p.field) r.1) (panField df (slice b 0x28 10) (byteAt b 0x26))
      let t := r.2.2.useKeys x p.ra p.rb
      let ksn := slice b 0x32 12
      let t := if ksnPresent ksn ∧ (firstFail p.checks).isNone then t.ksnAccept x p.ra ksn else t
      (t.finish x vd [] out).symDone x vd

/-- PIN_VERIFY (R113 to R115). -/
def execPinVerify (job : Nat) (s : State) : Res :=
  .next <|
    match s.work job 0x0102 with
    | none => s
    | some x =>
      let b := x.j.desc
      let f := byteAt b 0x24
      let n := byteAt b 0x25
      let c := byteAt b 0x26
      let pan := slice b 0x28 10
      let ra := s.keyFor x (dKeyA b)
      let rb := s.keyFor x (leAt b 0x20 4)
      let fld := pinDecipher f (keyDec ra.ktype ra.key) x.j.input (panField f pan n)
      let tab := x.j.set.dectab.getD (byteAt b 0x27) (0, 0)
      let dec (i : Nat) : Nat := if i < 8 then field tab.1 (4 * i + 3) (4 * i) else field tab.2 (4 * (i - 8) + 3) (4 * (i - 8))
      let vdata := slice b 0x32 8
      let blk := if ktTdes rb.ktype then tdesEnc rb.key vdata else (aesEnc rb.key (vdata ++ vdata)).take 8
      let offset := slice b 0x3A 6
      let pin := pinDigits fld
      let checks := s.keyChecks x.j.deckle (dKeyA b) ra [uP0] [mD, mB] (pinAlg x.j.set f ra.ktype) ++
        s.keyChecks x.j.deckle (leAt b 0x20 4) rb [uV0, uV1] [mC, mV] ((ktTdes rb.ktype || ktAes rb.ktype) && tdesOk x.j.set rb.ktype) ++
        [(!fmtPan f || panOk pan n, 0x1107)] ++ pinBlockChecks f fld ++
        [(((nibbles offset).take c).all (· < 10), 0x1108), (decide (c ≤ pin.length), 0x1106),
         (pin.take c == expectedPin dec blk offset c, 0x1105)]
      let vd := verdict x.j [] checks
      ((s.useKeys x ra rb).finish x vd [] []).symDone x vd

/-! ### MAC verbs -/

/-- A MAC key's algorithm for ALG: type, length and the deckle's policy (R116). -/
def macAlgOk (t : DSet) (alg : Nat) (r : KeyRec) : Bool :=
  if alg = 1 then r.usage == uM6 && ktAes r.ktype
  else if alg ≤ 3 then r.usage == uM3 && r.ktype == 1 && symBit t 4
  else r.usage == uM7 && ktHmac r.ktype && decide (16 ≤ r.key.length) && decide (r.key.length ≤ hmacKeyMax alg)

/-- The key of a MAC job and its checks. -/
def State.macChecks (s : State) (x : Work) (r : KeyRec) (verify : Bool) : List (Bool × Nat) :=
  let b := x.j.desc
  s.sourceChecks x r (if verify then slice b 0x24 12 else []) [uM3, uM6, uM7] (if verify then [mV, mC] else [mG, mC])
    (macAlgOk x.j.set (dAlg b) r) (dAlg b != 1)

/-- MAC_GENERATE (R116 to R120). -/
def execMacGenerate (job : Nat) (s : State) : Res :=
  .next <|
    match s.work job 0x0103 with
    | none => s
    | some x =>
      let b := x.j.desc
      let ra := s.keyFor x (dKeyA b)
      let vd := verdict x.j [] (s.macChecks x ra false)
      let out := (macFull (dAlg b) ra.key x.j.input).take (macLenOf x.j.set (dAlg b) (byteAt b 0x20))
      ((s.useKeys x ra none).finish x vd [] out).symDone x vd

/-- The record, checks and comparison of MAC_VERIFY (R119, R121). -/
def State.macVerifyChecks (s : State) (x : Work) (ra : KeyRec) : List (Bool × Nat) :=
  let b := x.j.desc
  let alg := dAlg b
  let ksn := slice b 0x24 12
  let len := macLenOf x.j.set alg (byteAt b 0x20)
  let m := x.j.input.take (x.j.input.length - len)
  let k := sourceKey ra ksn 0x2001 (if alg = 1 then 1 else 4)
  s.macChecks x ra true ++ [((macFull alg k.2 m).take len == x.j.input.drop m.length, 0x1201)]

/-- MAC_VERIFY (R116 to R121). -/
def execMacVerify (job : Nat) (s : State) : Res :=
  .next <|
    match s.work job 0x0104 with
    | none => s
    | some x =>
      let ra := s.keyFor x (dKeyA x.j.desc)
      let checks := s.macVerifyChecks x ra
      let vd := verdict x.j [] checks
      let t := s.useKeys x ra none
      let ksn := slice x.j.desc 0x24 12
      let t := if ksnPresent ksn ∧ (firstFail checks).isNone then t.ksnAccept x ra ksn else t
      (t.finish x vd [] []).symDone x vd

/-! ### CRYPTOGRAM_VERIFY -/

/-- CRYPTOGRAM_VERIFY (R122 to R125). -/
def execCryptogramVerify (job : Nat) (s : State) : Res :=
  .next <|
    match s.work job 0x0105 with
    | none => s
    | some x =>
      let b := x.j.desc
      let ra := s.keyFor x (dKeyA b)
      let kt := ra.ktype
      let n := byteAt b 0x2A
      let pan := slice b 0x20 10
      let psn := b.getD 0x2B 0
      let method := byteAt b 0x36
      let prop := byteAt b 0x3C
      let m := x.j.input.take (x.j.input.length - prop)
      let ck := emvCardKey kt ra.key ((nibbles pan).take n) psn
      let sk := emvSessionKey kt ck (slice b 0x2C 2)
      let arqc := slice b 0x2E 8
      let pad := byteAt b 0x37
      let checks := s.keyChecks x.j.deckle (dKeyA b) ra [uE0] [mX]
          ((kt == 1 && symBit x.j.set 4 || ktAes kt) && !(pad == 1 && ktAes kt)) ++
        [(panOk pan n && (nibbles [psn]).all (· < 10), 0x1107), ((emvMac kt pad sk m).take 8 == arqc, 0x1301)]
      let vd := verdict x.j [] checks
      let out := emvArpc kt method sk arqc (slice b 0x38 4) (x.j.input.drop m.length)
      ((s.useKeys x ra none).finish x vd [] out).symDone x vd

/-! ### DUKPT_DERIVE -/

/-- Usage and mode of the derived key block (R132). -/
def wkUsage (u t : Nat) : Nat × Nat :=
  let m := if t ≤ 3 then uM6 else uM3
  match u with
  | 1 => (uP0, mB)
  | 2 => (m, mG)
  | 3 => (m, mV)
  | 4 => (m, mC)
  | 5 => (uD0, mE)
  | 6 => (uD0, mD)
  | _ => (uD0, mB)

/-- The checks of DUKPT_DERIVE in their order (R133). -/
def State.dukptChecks (s : State) (x : Work) (ra rb : KeyRec) : List (Bool × Nat) :=
  let b := x.j.desc
  let t := byteAt b 0x31
  s.sourceChecks x ra (slice b 0x24 12) [] [] true false ++
    s.keyChecks x.j.deckle (leAt b 0x20 4) rb [uK1] [mE, mB] (rb.ktype == 0x13) ++
    [(if t ≤ 3 then decide ((dukptType t).2 ≤ ra.key.length) else symBit x.j.set 4 && decide ((dukptType t).2 ≤ ra.key.length), 0x1006)]

/-- DUKPT_DERIVE (R126 to R133). -/
def execDukptDerive (job : Nat) (s : State) : Res :=
  .next <|
    match s.work job 0x0106 with
    | none => s
    | some x =>
      let b := x.j.desc
      let ksn := slice b 0x24 12
      let u := byteAt b 0x30
      let t := byteAt b 0x31
      let ra := s.keyFor x (dKeyA b)
      let rb := s.keyFor x (leAt b 0x20 4)
      let checks := s.dukptChecks x ra rb
      let len := (dukptType t).2
      let r := s.jobDraw x.v (kbDataLen (wkType t) len - 2 - len)
      let vd := verdict x.j [(r.2.1, 0x1801)] checks
      let key := dukptWorking (initialKey ra ksn) ksn (dukptUsage u) t
      let out := kbExport rb.key key (wkType t) (wkUsage u t).1 (wkUsage u t).2 0x4E 0x3030 r.1
      let z := r.2.2.useKeys x ra rb
      let z := if (firstFail checks).isNone then z.ksnAccept x ra ksn else z
      (z.finish x vd [] out).symDone x vd

/-! ### Tokens (R134 to R141) -/

/-- The Luhn check digit of digits. -/
def luhn (ds : List Nat) : Nat :=
  let sum := ((ds.reverse.zipIdx).map fun p => if p.2 % 2 = 0 then (if 2 * p.1 > 9 then 2 * p.1 - 9 else 2 * p.1) else p.1).sum
  (10 - sum % 10) % 10

/-- The check digit that a mode gives. -/
def checkDigit (mode : Nat) (ds : List Nat) : Nat := if mode = 2 then (luhn ds + 1) % 10 else luhn ds

/-- ASCII digits as numbers, 0 for any other character. -/
def digits (m : Bytes) : List Nat := m.map fun c => if 48 ≤ c.toNat ∧ c.toNat ≤ 57 then c.toNat - 48 else 0

def undigits (l : List Nat) : Bytes := l.map fun d => by8 (48 + d)

/-- FF1 over the middle digits, with the tweak of R136. -/
def tokenDigits (enc : Bool) (key b : Bytes) (lead trail luhnMode : Nat) (ds : List Nat) : List Nat :=
  let n := ds.length - (if luhnMode = 0 then 0 else 1)
  let head := ds.take lead
  let tail := (ds.take n).drop (n - trail)
  let mid := (ds.take (n - trail)).drop lead
  let dom := leAt b 0x26 2
  let tweak := undigits head ++ undigits tail ++ slice b 0x28 (byteAt b 0x25) ++ (if dom = 0 then [] else beBytes 2 dom)
  head ++ (if enc then ff1Enc key 10 tweak mid else ff1Dec key 10 tweak mid) ++ tail

/-- The checks that both token verbs make first. -/
def State.tokenChecks (s : State) (x : Work) (r : KeyRec) (enc : Bool) (mode : Nat) : List (Bool × Nat) :=
  let ds := digits x.j.input
  s.keyChecks x.j.deckle (dKeyA x.j.desc) r [uTok] [if enc then mE else mD, mB] (ktAes r.ktype) ++
    [(x.j.input.all (fun c => decide (48 ≤ c.toNat) && decide (c.toNat ≤ 57)), 0x1501),
     (mode == 0 || ds.getLastD 0 == checkDigit (if enc then 1 else mode) ds.dropLast, 0x1502)]

/-- The deckle keeps a token vault. -/
def hasVault (t : DSet) : Bool := symBit t 1

/-- A vault entry is written, its bucket marked changed and its VAULT_CHANGE record queued (R397). -/
def State.putEntry (s : State) (v : Nat) (e : VaultEntry) : State :=
  let k := s.vaultBucket e.deckle e.handle e.token
  let s := s.mapKs fun q => { q with vault := e :: q.vault }
  let s := s.mapJn fun j => if j.dirty.contains (e.deckle, k) then j else { j with dirty := j.dirty ++ [(e.deckle, k)] }
  s.queueRec { plainRec 2 e.deckle 0x08 2 (vaultBytes e) [] with vat := v, entry := some e }

/-- BOOT_EPOCH and an edge, as CREATED and CHANGED hold them. -/
def State.stamp (s : State) (e : Nat) : Nat := (s.reg R.JOURNAL_EPOCH).toNat * 2 ^ 32 + e % 2 ^ 32

/-- TOKENIZE (R134 to R141, R397). -/
def execTokenize (job : Nat) (s : State) : Res :=
  .next <|
    match s.work job 0x0107 with
    | none => s
    | some x =>
      let b := x.j.desc
      let d := x.j.deckle
      let h := dKeyA b
      let pr := tokProf x.j.set b
      let ra := s.keyFor x h
      let core := tokenDigits true ra.key b pr.1 pr.2.1 pr.2.2 (digits x.j.input)
      let tok := core ++ (if pr.2.2 = 0 then [] else [checkDigit pr.2.2 core])
      let vault := hasVault x.j.set
      let old := s.vaultSeen d h tok x.v x.b
      let checks := s.tokenChecks x ra true pr.2.2 ++
        (if vault then
          [((old.map (·.state)).getD 1 != 2, 0x1504), (old.isSome || !s.bucketFull d (s.vaultBucket d h tok), 0x4001)] else [])
      let vd := verdict x.j [] checks
      let t := s.useKeys x ra none
      let t :=
        if vd.1 = 0 ∧ vault ∧ old.isNone then
          let due := x.j.due.getD 0
          t.putEntry x.v ⟨d, h, tok, leAt b 0x26 2, 1, t.stamp due, t.stamp due, due, (x.v, x.b)⟩
        else t
      (t.finish x vd [] (undigits tok)).symDone x vd

/-- DETOKENIZE (R138, R140). -/
def execDetokenize (job : Nat) (s : State) : Res :=
  .next <|
    match s.work job 0x0108 with
    | none => s
    | some x =>
      let b := x.j.desc
      let h := dKeyA b
      let pr := tokProf x.j.set b
      let ra := s.keyFor x h
      let core := tokenDigits false ra.key b pr.1 pr.2.1 pr.2.2 (digits x.j.input)
      let out := core ++ (if pr.2.2 = 0 then [] else [luhn core])
      let e := s.vaultSeen x.j.deckle h (digits x.j.input) x.v x.b
      let checks := s.tokenChecks x ra false pr.2.2 ++
        (if hasVault x.j.set then
          [(e.isSome, 0x1503), ((e.map (·.state)).getD 0 == 1, 0x1504), ((e.map (·.domain)).getD 0 == leAt b 0x26 2, 0x1505)] else [])
      let vd := verdict x.j [] checks
      ((s.useKeys x ra none).finish x vd [] (undigits out)).symDone x vd

/-! ### DATA_TRANSLATE -/

/-- A key's algorithm for a mode. -/
def dtAlg (t : DSet) (m kt : Nat) : Bool := if m = 1 then ktTdes kt && symBit t 4 else ktAes kt

/-- Data under a mode, deciphered or enciphered. -/
def dtCrypt (dec : Bool) (m kt : Nat) (key iv data : Bytes) : Bytes :=
  if m = 3 then ctrMode 16 (aesEnc key) iv data
  else if dec then cbcDec (dtBlk m) (keyDec kt key) iv data
  else cbcEnc (dtBlk m) (keyEnc kt key) iv data

/-- Padding method 2 removed: what stands before the last 0x80, if only zeros follow it. -/
def unpad2 (m : Bytes) : Option Bytes :=
  match m.reverse.dropWhile (· == 0) with
  | b :: r => if b = 0x80 then some r.reverse else none
  | [] => none

/-- The keys, checks and cleartext of DATA_TRANSLATE (R146, R147). -/
def State.dtWork (s : State) (x : Work) : PinWork :=
  let b := x.j.desc
  let im := byteAt b 0x24
  let ksn := slice b 0x28 12
  let ra := s.keyFor x (dKeyA b)
  let rb := s.keyFor x (leAt b 0x20 4)
  let k := sourceKey ra ksn 0x3001 (if im = 1 then 4 else 1)
  let clear := dtCrypt true im k.1 k.2 (x.j.input.take (dtIv im)) (x.j.input.drop (dtIv im))
  { ra, rb, field := clear
    checks := s.sourceChecks x ra ksn [uD0] [mD, mB] (dtAlg x.j.set im ra.ktype) (im == 1) ++
      s.keyChecks x.j.deckle (leAt b 0x20 4) rb [uD0] [mE, mB] (dtAlg x.j.set (byteAt b 0x25) rb.ktype) ++
      [(byteAt b 0x26 == 0 || (unpad2 clear).isSome, 0x1601)] }

/-- DATA_TRANSLATE (R142 to R147). -/
def execDataTranslate (job : Nat) (s : State) : Res :=
  .next <|
    match s.work job 0x0109 with
    | none => s
    | some x =>
      let b := x.j.desc
      let om := byteAt b 0x25
      let p := s.dtWork x
      let r := s.jobDraw x.v (dtIv om)
      let vd := verdict x.j [(r.2.1, 0x1801)] p.checks
      let text := if byteAt b 0x27 = 0 then p.field else if byteAt b 0x26 = 1 then (unpad2 p.field).getD [] else p.field
      let text := if byteAt b 0x27 = 0 then text else padTo (dtOut b) (text ++ [0x80])
      let out := r.1 ++ dtCrypt false om p.rb.ktype p.rb.key r.1 text
      let ksn := slice b 0x28 12
      let t := r.2.2.useKeys x p.ra p.rb
      let t := if ksnPresent ksn ∧ (firstFail p.checks).isNone then t.ksnAccept x p.ra ksn else t
      (t.finish x vd [] out).symDone x vd

/-! ### SEAL, OPEN, HASH, RANDOM, NOOP -/

/-- The count of device-IV seals that R151 tests: 16 times the member's own for a mirrored record (R310). -/
def sealCount (h n : Nat) : Nat := if !hTerm h && hClass h != 0 then 16 * n else n

/-- The checks of SEAL. -/
def State.sealChecks (s : State) (x : Work) (ra : KeyRec) : List (Bool × Nat) :=
  let b := x.j.desc
  let n := s.counterSeen x.j.deckle (dKeyA b) x.v x.b x.w ra.counter
  s.keyChecks x.j.deckle (dKeyA b) ra [uD0] [mE, mB] (ktAes ra.ktype) ++
    [(byteAt b 0x25 == 1 || decide (sealCount (dKeyA b) n < 2 ^ 32), 0x1007)]

/-- The count after a device-IV seal (R151, R309). -/
def State.sealAccept (s : State) (x : Work) (ra : KeyRec) : State :=
  let h := dKeyA x.j.desc
  let n := s.counterSeen x.j.deckle h x.v x.b x.w ra.counter + 1
  (s.writeCounter ⟨x.j.deckle, h, n, x.j.due.getD 0, (x.v, x.b)⟩).updJob x.j.id fun j => { j with counter := n }

/-- SEAL (R148 to R151). -/
def execSeal (job : Nat) (s : State) : Res :=
  .next <|
    match s.work job 0x0301 with
    | none => s
    | some x =>
      let b := x.j.desc
      let ra := s.keyFor x (dKeyA b)
      let caller := byteAt b 0x25 == 1
      let checks := s.sealChecks x ra
      let r := s.jobDraw x.v (if caller then 0 else 12)
      let vd := verdict x.j [(r.2.1, 0x1801)] checks
      let iv := if caller then slice b 0x28 12 else r.1
      let a := leAt b 0x20 4
      let g := gcmEnc ra.key iv (x.j.input.take a) (x.j.input.drop a)
      let t := r.2.2.useKeys x ra none
      let t := if !caller && (firstFail checks).isNone then t.sealAccept x ra else t
      (t.finish x vd iv (g.1 ++ g.2.take (tagLenOf b))).symDone x vd

/-- OPEN (R148, R152). -/
def execOpenV (job : Nat) (s : State) : Res :=
  .next <|
    match s.work job 0x0302 with
    | none => s
    | some x =>
      let b := x.j.desc
      let ra := s.keyFor x (dKeyA b)
      let a := leAt b 0x20 4
      let n := tagLenOf b
      let aad := x.j.input.take a
      let c := (x.j.input.take (x.j.input.length - n)).drop a
      let tag := x.j.input.drop (x.j.input.length - n)
      let iv := slice b 0x28 12
      let checks := s.keyChecks x.j.deckle (dKeyA b) ra [uD0] [mD, mB] (ktAes ra.ktype) ++
        [((gcmTag ra.key iv aad c).take n == tag, 0x1701)]
      let vd := verdict x.j [] checks
      ((s.useKeys x ra none).finish x vd [] (ctrMode 4 (aesEnc ra.key) (iv ++ [0, 0, 0, 2]) c)).symDone x vd

/-- HASH (R153). -/
def execHash (job : Nat) (s : State) : Res :=
  .next <|
    match s.work job 0x0303 with
    | none => s
    | some x => (s.finish x (verdict x.j [] []) [] (hashOf (dAlg x.j.desc) x.j.input)).symDone x (0, 0)

/-- RANDOM (R154, R155, R586): one generate call on the deckle's lane of the vat. A prediction resistance without a seed in a slot
ends as R582 gives. -/
def execRandom (job : Nat) (s : State) : Res :=
  .next <|
    match s.work job 0x0501 with
    | none => s
    | some x =>
      let b := x.j.desc
      match s.drawLane x.v (dOutLen b) (byteAt b 0x20 % 2 == 1) (slice b 0x24 (byteAt b 0x21)) with
      | .ok r => (r.2.finish x (verdict x.j [] []) [] r.1).symDone x (0, 0)
      | .error e => (s.finish x (verdict x.j [(false, e)] []) [] []).symDone x (6, e)

/-- NOOP (R242). -/
def execNoop (job : Nat) (s : State) : Res :=
  .next <|
    match s.work job 0x0502 with
    | none => s
    | some x => s.finish x (verdict x.j [] []) (leBytes 8 x.b ++ zeros 8) []

end Sys2Proof.Machine
end

