-- ==== Sys2Proof/Machine/Pq.lean ====
section
/-! DEFINITION. ML-KEM as FIPS 203 and ML-DSA as FIPS 204 define them, from the seeds that key records hold (R163, R164, R166). -/

namespace Sys2Proof.Machine

/-! ### Polynomials of degree below 256 -/

/-- A polynomial modulo a prime: its 256 coefficients, or values in the transform's order. -/
abbrev Poly := List Nat

/-- `k` bits of `n` reversed. -/
def brv : Nat → Nat → Nat
  | 0, _ => 0
  | k + 1, n => n % 2 * 2 ^ k + brv k (n / 2)

/-- The value of a polynomial at `x` modulo `q`. -/
def polyAt (q x : Nat) (f : Poly) : Nat := f.foldr (fun c a => (a * x + c) % q) 0

def polyAdd (q : Nat) (a b : Poly) : Poly := List.zipWith (fun x y => (x + y) % q) a b
def polySub (q : Nat) (a b : Poly) : Poly := List.zipWith (fun x y => (x + (q - y % q)) % q) a b

/-- Values of `f` at the odd powers of `z`, of order 2m, in bit-reversed order: `m = 2 ^ k` of them. -/
def oddDft (q z k : Nat) (f : Poly) : Poly := (List.range (2 ^ k)).map fun i => polyAt q (powMod z (2 * brv k i + 1) q) f

/-- The polynomial with those values. -/
def oddIdft (q z k : Nat) (v : Poly) : Poly :=
  let m := 2 ^ k
  let zi := powMod z (2 * m - 1) q
  let mi := invMod m q
  let ordered := (List.range m).map fun i => v.getD (brv k i) 0
  (List.range m).map fun j => mi * powMod zi j q % q * polyAt q (powMod zi (2 * j) q) ordered % q

/-- The integers of `d` bits that a byte string spells, lowest bit first. -/
def bitUnpackN (d : Nat) (b : Bytes) : List Nat :=
  let n := leNat b
  (List.range (8 * b.length / d)).map fun i => n / 2 ^ (d * i) % 2 ^ d

/-- Integers packed into `d` bits each. -/
def bitPackN (d : Nat) (l : List Nat) : Bytes :=
  leBytes (d * l.length / 8) (l.foldr (fun x a => x % 2 ^ d + 2 ^ d * a) 0)

/-- Consecutive parts of `k` entries. -/
def parts (k n : Nat) (b : Bytes) : List Bytes := (List.range n).map fun i => slice b (k * i) k

/-! ### ML-KEM -/

abbrev kemQ : Nat := 3329

/-- k, η1, du and dv of an algorithm. -/
structure KemPar where
  k   : Nat
  eta : Nat
  du  : Nat
  dv  : Nat

def kemPar (alg : Nat) : KemPar := if alg = 0x54 then ⟨2, 3, 10, 4⟩ else if alg = 0x55 then ⟨3, 2, 10, 4⟩ else ⟨4, 2, 11, 5⟩

/-- NTT: the even and the odd coefficients, each as a polynomial in X², at the 128 odd powers of 17. -/
def kemNtt (f : Poly) : Poly × Poly :=
  let ev := (List.range 128).map fun i => f.getD (2 * i) 0
  let od := (List.range 128).map fun i => f.getD (2 * i + 1) 0
  (oddDft kemQ 17 7 ev, oddDft kemQ 17 7 od)

def kemIntt (h : Poly × Poly) : Poly := (List.zipWith (fun a b => [a, b]) (oddIdft kemQ 17 7 h.1) (oddIdft kemQ 17 7 h.2)).flatten

/-- Product in the transform. -/
def kemMul (a b : Poly × Poly) : Poly × Poly :=
  let g := (List.range 128).map fun i => powMod 17 (2 * brv 7 i + 1) kemQ
  ((List.range 128).map fun i => (a.1.getD i 0 * b.1.getD i 0 + a.2.getD i 0 * b.2.getD i 0 % kemQ * g.getD i 0) % kemQ,
   (List.range 128).map fun i => (a.1.getD i 0 * b.2.getD i 0 + a.2.getD i 0 * b.1.getD i 0) % kemQ)

def kemAdd (a b : Poly × Poly) : Poly × Poly := (polyAdd kemQ a.1 b.1, polyAdd kemQ a.2 b.2)

def kemZero : Poly × Poly := (List.replicate 128 0, List.replicate 128 0)

def kemDot (a b : List (Poly × Poly)) : Poly × Poly := (List.zipWith kemMul a b).foldl kemAdd kemZero

/-- Coefficients in the transform's order, as ByteEncode12 writes them. -/
def kemFlat (h : Poly × Poly) : Poly := (List.zipWith (fun a b => [a, b]) h.1 h.2).flatten

def kemUnflat (f : Poly) : Poly × Poly := ((List.range 128).map fun i => f.getD (2 * i) 0, (List.range 128).map fun i => f.getD (2 * i + 1) 0)

/-- SampleNTT. -/
def sampleNtt (b : Bytes) : Poly × Poly :=
  let cand := (chunks 3 (shake128 2016 b)).flatMap fun c => [byteAt c 0 + 256 * (byteAt c 1 % 16), byteAt c 1 / 16 + 16 * byteAt c 2]
  kemUnflat ((cand.filter (· < kemQ)).take 256)

/-- SamplePolyCBD. -/
def sampleCbd (eta : Nat) (b : Bytes) : Poly :=
  let bits := bitUnpackN 1 b
  (List.range 256).map fun i =>
    let x := ((bits.drop (2 * i * eta)).take eta).sum
    let y := ((bits.drop (2 * i * eta + eta)).take eta).sum
    (x + kemQ - y) % kemQ

def kemPrf (eta : Nat) (s : Bytes) (n : Nat) : Poly := sampleCbd eta (shake256 (64 * eta) (s ++ [by8 n]))

def compress (d x : Nat) : Nat := (x * 2 ^ (d + 1) + kemQ) / (2 * kemQ) % 2 ^ d
def decompress (d y : Nat) : Nat := (y * kemQ * 2 + 2 ^ d) / 2 ^ (d + 1)

/-- Entry (i, j) of the matrix. -/
def kemA (rho : Bytes) (i j : Nat) : Poly × Poly := sampleNtt (rho ++ [by8 j, by8 i])

/-- K-PKE key generation from d: encryption key and the secret in the transform. -/
def kemKeys (p : KemPar) (d : Bytes) : Bytes × List (Poly × Poly) :=
  let g := sha3_512 (d ++ [by8 p.k])
  let rho := g.take 32
  let sg := g.drop 32
  let s := (List.range p.k).map fun i => kemNtt (kemPrf p.eta sg i)
  let e := (List.range p.k).map fun i => kemNtt (kemPrf p.eta sg (p.k + i))
  let t := (List.range p.k).map fun i => kemAdd (kemDot ((List.range p.k).map (kemA rho i)) s) (e.getD i kemZero)
  ((t.map fun x => bitPackN 12 (kemFlat x)).flatten ++ rho, s)

/-- K-PKE encryption. -/
def kemEncrypt (p : KemPar) (ek m r : Bytes) : Bytes :=
  let t := (parts 384 p.k ek).map fun x => kemUnflat ((bitUnpackN 12 x).map (· % kemQ))
  let rho := ek.drop (384 * p.k)
  let y := (List.range p.k).map fun i => kemNtt (kemPrf p.eta r i)
  let u := (List.range p.k).map fun i =>
    polyAdd kemQ (kemIntt (kemDot ((List.range p.k).map fun j => kemA rho j i) y)) (kemPrf 2 r (p.k + i))
  let mu := (bitUnpackN 1 m).map (decompress 1)
  let v := polyAdd kemQ (polyAdd kemQ (kemIntt (kemDot t y)) (kemPrf 2 r (2 * p.k))) mu
  (u.map fun x => bitPackN p.du (x.map (compress p.du))).flatten ++ bitPackN p.dv (v.map (compress p.dv))

/-- K-PKE decryption. -/
def kemDecrypt (p : KemPar) (s : List (Poly × Poly)) (c : Bytes) : Bytes :=
  let u := (parts (32 * p.du) p.k c).map fun x => kemNtt ((bitUnpackN p.du x).map (decompress p.du))
  let v := (bitUnpackN p.dv (c.drop (32 * p.du * p.k))).map (decompress p.dv)
  bitPackN 1 ((polySub kemQ v (kemIntt (kemDot s u))).map (compress 1))

/-- The encapsulation key of the seeds d and z. -/
def mlkemPublic (alg : Nat) (key : Bytes) : Bytes := (kemKeys (kemPar alg) (key.take 32)).1

/-- ML-KEM.Encaps with randomness m: shared secret and ciphertext. -/
def mlkemEncaps (alg : Nat) (ek m : Bytes) : Bytes × Bytes :=
  let g := sha3_512 (m ++ sha3_256 ek)
  (g.take 32, kemEncrypt (kemPar alg) ek m (g.drop 32))

/-- ML-KEM.Decaps from the seeds d and z, implicit rejection included. -/
def mlkemDecaps (alg : Nat) (key c : Bytes) : Bytes :=
  let p := kemPar alg
  let k := kemKeys p (key.take 32)
  let m := kemDecrypt p k.2 c
  let g := sha3_512 (m ++ sha3_256 k.1)
  if kemEncrypt p k.1 m (g.drop 32) = c then g.take 32 else shake256 32 (key.drop 32 ++ c)

/-- The encapsulation key check of FIPS 203. -/
def mlkemCheck (alg : Nat) (ek : Bytes) : Bool :=
  let p := kemPar alg
  ek.length == 384 * p.k + 32 && (bitUnpackN 12 (ek.take (384 * p.k))).all (· < kemQ)

/-! ### ML-DSA -/

abbrev dsaQ : Nat := 8380417

/-- The parameters of an algorithm. -/
structure DsaPar where
  k   : Nat
  l   : Nat
  eta : Nat
  tau : Nat
  ctl : Nat
  g1b : Nat
  g2  : Nat
  om  : Nat

def dsaPar (alg : Nat) : DsaPar :=
  if alg = 0x47 then ⟨4, 4, 2, 39, 32, 17, 95232, 80⟩
  else if alg = 0x48 ∨ alg = 0x4A then ⟨6, 5, 4, 49, 48, 19, 261888, 55⟩
  else ⟨8, 7, 2, 60, 64, 19, 261888, 75⟩

def DsaPar.beta (p : DsaPar) : Nat := p.tau * p.eta

def dsaNtt (f : Poly) : Poly := oddDft dsaQ 1753 8 f
def dsaIntt (f : Poly) : Poly := oddIdft dsaQ 1753 8 f
def dsaMul (a b : Poly) : Poly := List.zipWith (fun x y => x * y % dsaQ) a b
def dsaZero : Poly := List.replicate 256 0
def dsaDot (a b : List Poly) : Poly := (List.zipWith dsaMul a b).foldl (polyAdd dsaQ) dsaZero

/-- A residue as the integer nearest zero, and an integer as a residue. -/
def centred (r : Nat) : Int := if r ≤ dsaQ / 2 then r else (r : Int) - dsaQ
def residue (z : Int) : Nat := (z % (dsaQ : Int)).toNat

/-- The infinity norm of a polynomial. -/
def polyNorm (f : Poly) : Nat := (f.map fun r => (centred r).natAbs).foldl max 0

/-- `r` modulo ± `a`. -/
def modPm (r a : Nat) : Int := let m := r % a; if m ≤ a / 2 then m else (m : Int) - a

/-- Power2Round with d = 13: high part and low part. -/
def power2Round (r : Nat) : Nat × Int := let r0 := modPm r 8192; ((((r : Int) - r0) / 8192).toNat, r0)

/-- Decompose. -/
def decompose (g2 r : Nat) : Nat × Int :=
  let r0 := modPm r (2 * g2)
  if (r : Int) - r0 = dsaQ - 1 then (0, r0 - 1) else ((((r : Int) - r0) / (2 * g2)).toNat, r0)

def useHint (g2 h r : Nat) : Nat :=
  let m := (dsaQ - 1) / (2 * g2)
  let d := decompose g2 r
  if h = 0 then d.1 else if 0 < d.2 then (d.1 + 1) % m else (d.1 + m - 1) % m

/-- RejNTTPoly. -/
def rejNtt (b : Bytes) : Poly :=
  (((chunks 3 (shake128 1344 b)).map fun c => byteAt c 0 + 256 * byteAt c 1 + 65536 * (byteAt c 2 % 128)).filter (· < dsaQ)).take 256

/-- RejBoundedPoly. -/
def rejBounded (eta : Nat) (b : Bytes) : Poly :=
  let nib := (shake256 1088 b).flatMap fun x => [x.toNat % 16, x.toNat / 16]
  let ok := nib.filterMap fun n =>
    if eta = 2 then if n < 15 then some (residue (2 - ((n % 5 : Nat) : Int))) else none
    else if n < 9 then some (residue (4 - (n : Int))) else none
  ok.take 256

/-- SampleInBall. -/
def sampleInBall (tau : Nat) (b : Bytes) : Poly :=
  let s := shake256 1088 b
  let h := leNat (s.take 8)
  ((List.range tau).foldl (fun (p : List Int × Bytes) n =>
    let i := 256 - tau + n
    let rest := p.2.dropWhile fun x => decide (i < x.toNat)
    let j := (rest.headD 0).toNat
    let c := (p.1.set i (p.1.getD j 0)).set j (if h / 2 ^ n % 2 = 1 then -1 else 1)
    (c, rest.drop 1)) (List.replicate 256 0, s.drop 8)).1.map residue

/-- A key expanded from its seed. -/
structure DsaKey where
  rho : Bytes
  kk  : Bytes
  tr  : Bytes
  pk  : Bytes
  s1  : List Poly
  s2  : List Poly
  t0  : List Poly

/-- Row `r` of the matrix. -/
def dsaRow (p : DsaPar) (rho : Bytes) (r : Nat) : List Poly := (List.range p.l).map fun s => rejNtt (rho ++ [by8 s, by8 r])

/-- ML-DSA.KeyGen_internal. -/
def dsaKey (p : DsaPar) (xi : Bytes) : DsaKey :=
  let h := shake256 128 (xi ++ [by8 p.k, by8 p.l])
  let rho := h.take 32
  let rp := (h.drop 32).take 64
  let s1 := (List.range p.l).map fun r => rejBounded p.eta (rp ++ leBytes 2 r)
  let s2 := (List.range p.k).map fun r => rejBounded p.eta (rp ++ leBytes 2 (p.l + r))
  let s1h := s1.map dsaNtt
  let t := (List.range p.k).map fun r => polyAdd dsaQ (dsaIntt (dsaDot (dsaRow p rho r) s1h)) (s2.getD r dsaZero)
  let pk := rho ++ (t.map fun f => bitPackN 10 (f.map fun x => (power2Round x).1)).flatten
  ⟨rho, h.drop 96, shake256 64 pk, pk, s1, s2, t.map fun f => f.map fun x => residue (power2Round x).2⟩

/-- BitPack of z. -/
def packZ (p : DsaPar) (f : Poly) : Bytes := bitPackN (p.g1b + 1) (f.map fun r => ((2 ^ p.g1b : Int) - centred r).toNat)

/-- BitUnpack of y and z. -/
def unpackZ (p : DsaPar) (b : Bytes) : Poly := (bitUnpackN (p.g1b + 1) b).map fun (n : Nat) => residue ((2 ^ p.g1b : Int) - (n : Int))

/-- w1Encode. -/
def packW1 (p : DsaPar) (w : List Poly) : Bytes := (w.map (bitPackN (if p.g2 = 95232 then 6 else 4))).flatten

/-- HintBitPack. -/
def packHint (p : DsaPar) (h : List (List Nat)) : Bytes :=
  let pos := h.map fun r => (List.range 256).filter fun j => r.getD j 0 == 1
  let ends := (List.range p.k).map fun i => ((pos.take (i + 1)).map (·.length)).sum
  padTo p.om (pos.flatten.map by8) ++ ends.map by8

/-- HintBitUnpack: none when it is not well formed. -/
def unpackHint (p : DsaPar) (y : Bytes) : Option (List (List Nat)) :=
  let ends := (y.drop p.om).map (·.toNat)
  let starts := 0 :: ends
  let rows := (List.range p.k).map fun i => ((y.take (ends.getD i 0)).drop (starts.getD i 0)).map (·.toNat)
  let rising (l : List Nat) : Bool := (List.zipWith (fun a b => decide (a < b)) l (l.drop 1)).all id
  if (List.range p.k).all (fun i => decide (starts.getD i 0 ≤ ends.getD i 0) && decide (ends.getD i 0 ≤ p.om)) && rows.all rising &&
      allZero ((y.take p.om).drop (ends.getLastD 0)) then
    some (rows.map fun r => (List.range 256).map fun j => if r.contains j then 1 else 0)
  else none

/-- One attempt of the rejection loop with mask counter κ. -/
def dsaAttempt (p : DsaPar) (k : DsaKey) (rows : List (List Poly)) (mu rpp : Bytes) (kappa : Nat) : Option Bytes :=
  let y := (List.range p.l).map fun r => unpackZ p (shake256 (32 * (p.g1b + 1)) (rpp ++ leBytes 2 (kappa + r)))
  let yh := y.map dsaNtt
  let w := rows.map fun row => dsaIntt (dsaDot row yh)
  let ct := shake256 p.ctl (mu ++ packW1 p (w.map fun f => f.map fun x => (decompose p.g2 x).1))
  let c := dsaNtt (sampleInBall p.tau ct)
  let by_ (f : Poly) : Poly := dsaIntt (dsaMul c (dsaNtt f))
  let z := List.zipWith (polyAdd dsaQ) y (k.s1.map by_)
  let r := List.zipWith (polySub dsaQ) w (k.s2.map by_)
  let r0 := (r.flatMap fun f => f.map fun x => (decompose p.g2 x).2.natAbs).foldl max 0
  let zn := (z.map polyNorm).foldl max 0
  if 2 ^ p.g1b ≤ zn + p.beta ∨ p.g2 ≤ r0 + p.beta then none
  else
    let t := k.t0.map by_
    let h := List.zipWith (fun a b => List.zipWith (fun x y => if (decompose p.g2 ((x + y) % dsaQ)).1 ≠ (decompose p.g2 x).1 then 1 else 0) a b) r t
    if p.g2 ≤ (t.map polyNorm).foldl max 0 ∨ p.om < (h.map List.sum).sum then none
    else some (ct ++ (z.map (packZ p)).flatten ++ packHint p h)

/-- The rejection loop over at most `n` rounds: rounds used and the signature. -/
def dsaLoop (p : DsaPar) (k : DsaKey) (rows : List (List Poly)) (mu rpp : Bytes) : Nat → Nat → Nat × Option Bytes
  | 0, i => (i, none)
  | n + 1, i =>
    match dsaAttempt p k rows mu rpp (i * p.l) with
    | some s => (i + 1, some s)
    | none => dsaLoop p k rows mu rpp n (i + 1)

/-- ML-DSA.Sign_internal from the seed, of the formatted message, over 48 rounds. -/
def mldsaSign (alg : Nat) (xi m rnd : Bytes) : Nat × Option Bytes :=
  let p := dsaPar alg
  let k := dsaKey p xi
  let mu := shake256 64 (k.tr ++ m)
  dsaLoop p k ((List.range p.k).map (dsaRow p k.rho)) mu (shake256 64 (k.kk ++ rnd ++ mu)) 48 0

/-- The public key of a seed. -/
def mldsaPublic (alg : Nat) (xi : Bytes) : Bytes := (dsaKey (dsaPar alg) xi).pk

/-- Whether a signature's hint is well formed. -/
def mldsaHintOk (alg : Nat) (sig : Bytes) : Bool :=
  let p := dsaPar alg
  (unpackHint p (sig.drop (p.ctl + 32 * (p.g1b + 1) * p.l))).isSome

/-- ML-DSA.Verify_internal of the formatted message. -/
def mldsaVerify (alg : Nat) (pk m sig : Bytes) : Bool :=
  let p := dsaPar alg
  let zl := 32 * (p.g1b + 1)
  match unpackHint p (sig.drop (p.ctl + zl * p.l)) with
  | none => false
  | some h =>
    let ct := sig.take p.ctl
    let z := (parts zl p.l (sig.drop p.ctl)).map (unpackZ p)
    let t1 := (parts 320 p.k (pk.drop 32)).map fun x => dsaNtt ((bitUnpackN 10 x).map fun n => n * 8192 % dsaQ)
    let mu := shake256 64 (shake256 64 pk ++ m)
    let c := dsaNtt (sampleInBall p.tau ct)
    let zh := z.map dsaNtt
    let w := (List.range p.k).map fun r =>
      let a := dsaIntt (polySub dsaQ (dsaDot (dsaRow p (pk.take 32) r) zh) (dsaMul c (t1.getD r dsaZero)))
      List.zipWith (useHint p.g2) (h.getD r []) a
    decide ((z.map polyNorm).foldl max 0 + p.beta < 2 ^ p.g1b) && ct == shake256 p.ctl (mu ++ packW1 p w)

end Sys2Proof.Machine
end

