-- ==== Sys2Proof/Machine/PubKey.lean ====
section
/-! DEFINITION. Public keys of the algorithms of R163: their validation (R184), private forms (R166) and the public key of a
private form (R164). -/

namespace Sys2Proof.Machine

/-- The curve of an ALG on P-256 or P-384. -/
def curveOf (alg : Nat) : Curve := if alg = 0x42 ∨ alg = 0x52 then p384 else p256

/-- ECDSA, ECDH, RSA, ML-DSA and ML-KEM algorithms. -/
def algEcdsa (a : Nat) : Bool := a == 0x41 || a == 0x42
def algEcdh (a : Nat) : Bool := a == 0x51 || a == 0x52
def algRsa (a : Nat) : Bool := a == 0x44 || a == 0x45 || a == 0x46
def algDsa (a : Nat) : Bool := a == 0x47 || a == 0x48 || a == 0x49
def algKem (a : Nat) : Bool := a == 0x54 || a == 0x55 || a == 0x56
abbrev algHybrid : Nat := 0x4A

/-- The u-coordinates of the points of order 1, 2, 4 and 8 on Curve25519 and its twist. -/
def lowOrder25519 : List Nat :=
  [0, 1, q25519 - 1, 325606250916557431795983626356110631294008115727848805560023387167927233504,
   39382357235489614581723060781553021112529911719440698176882885853963445705823]

/-- Public key validation (R184). -/
def pubValid (alg : Nat) (k : Bytes) : Bool :=
  if algEcdsa alg ∨ algEcdh alg then (ecDecode (curveOf alg) k).isSome
  else if alg = 0x43 then k.length == 32 && (edDecode k).isSome
  else if algRsa alg then
    let n := beNat (k.take (rsaLen alg))
    let e := beNat (slice k (rsaLen alg) 4)
    decide (2 ^ (8 * rsaLen alg - 1) ≤ n) && n % 2 == 1 && e % 2 == 1 && decide (3 ≤ e) && decide (e < n)
  else if alg = algHybrid then (ecDecode p256 (k.take 65)).isSome
  else if alg = 0x53 then !lowOrder25519.contains (leNat (k.take 32) % 2 ^ 255 % q25519)
  else if algKem alg then mlkemCheck alg k
  else true

/-- Length of the private form of R166. -/
def privLen (alg : Nat) : Nat :=
  if algRsa alg then 5 * (rsaLen alg / 2) + 4
  else if alg = 0x42 ∨ alg = 0x52 then 48
  else if alg = algHybrid ∨ algKem alg then 64
  else 32

/-- The public key of a private form (R164). -/
def pubOf (alg : Nat) (key : Bytes) : Bytes :=
  if algEcdsa alg ∨ algEcdh alg then ecPublic (curveOf alg) (beNat key)
  else if alg = 0x43 then ed25519Public key
  else if algRsa alg then rsaPub alg key
  else if algDsa alg then mldsaPublic alg key
  else if alg = algHybrid then ecPublic p256 (beNat (key.take 32)) ++ mldsaPublic 0x48 (key.drop 32)
  else if alg = 0x53 then x25519Public key
  else mlkemPublic alg key

/-- Length of a signature or ciphertext (R164). -/
def sigLen (alg : Nat) : Nat :=
  match alg with
  | 0x41 => 64
  | 0x42 => 96
  | 0x43 => 64
  | 0x44 => 256
  | 0x45 => 384
  | 0x46 => 512
  | 0x47 => 2420
  | 0x48 => 3309
  | 0x49 => 4627
  | 0x4A => 3373
  | 0x54 => 768
  | 0x55 => 1088
  | 0x56 => 1568
  | _ => 0

end Sys2Proof.Machine
end

