-- ==== Sys2Proof/Machine/KeyVerbs.lean ====
section
/-! DEFINITION. The key verbs (R319 to R339), the commit of a change (R340, R954), and pond mirroring (R352 to R359). -/

namespace Sys2Proof.Machine

/-! ### Key blocks as they arrive (R319) -/

/-- The header of a key block, its optional blocks read. -/
structure KeyBlock where
  ver   : Nat
  usage : Nat
  alg   : Nat
  mode  : Nat
  kvn   : Nat
  expo  : Nat
  /-- Length of the header with its optional blocks. -/
  hlen  : Nat
  /-- The contents of optional block 10. -/
  kt10  : Option Bytes
  deriving DecidableEq, Repr

/-- The length of an optional block whose length field starts at `off`: two hexadecimal digits, or, after 00, a length of its own. -/
def optLen (b : Bytes) (off : Nat) : Option Nat :=
  match unhex (slice b off 2) with
  | some l =>
    if beNat l ≠ 0 then some (beNat l)
    else
      match unhex (slice b (off + 2) 2) with
      | some k => (unhex (slice b (off + 4) (2 * beNat k))).map beNat
      | none => none
  | none => none

/-- The optional blocks from `off`: where they end, and what block 10 holds. -/
def optBlocks (b : Bytes) : Nat → Nat → Option Bytes → Option (Nat × Option Bytes)
  | 0, off, k => some (off, k)
  | n + 1, off, k =>
    match optLen b (off + 2) with
    | some l =>
      if 4 ≤ l ∧ off + l ≤ b.length then
        optBlocks b n (off + l) (if slice b off 2 = ascii "10" then some (slice b (off + 4) (l - 4)) else k)
      else none
    | none => none

/-- A key block whose header, length field and optional blocks follow X9.143. -/
def parseBlock (b : Bytes) : Option KeyBlock :=
  match undecimal (slice b 1 4), undecimal (slice b 12 2) with
  | some len, some n =>
    if 16 ≤ b.length ∧ len = b.length ∧ slice b 14 2 = ascii "00" ∧ [mE, mN, mS].contains (byteAt b 11) then
      match optBlocks b n 16 none with
      | some (h, k) =>
        let ver := byteAt b 0
        let blk := if ver = 0x42 then 8 else 16
        if h % blk = 0 ∧ h + 4 * blk ≤ b.length ∧ (b.length - h) % (2 * blk) = 0 then
          some ⟨ver, beNat (slice b 5 2), byteAt b 7, byteAt b 8, beNat (slice b 9 2), byteAt b 11, h, k⟩
        else none
      | none => none
    else none
  | _, _ => none

/-- Block 10 agrees with the block's algorithm. -/
def KeyBlock.ten (k : KeyBlock) : Bool :=
  match k.kt10 with
  | none => true
  | some t =>
    match unhex t with
    | some v => v.length == 2 && (kbAlg (beNat v)).toNat == k.alg
    | none => false

/-- The key type that an algorithm code and a key length give, 0 for none. -/
def blockType (alg n : Nat) : Nat :=
  if alg = 0x54 then (if n = 16 then 1 else if n = 24 then 2 else 0)
  else if alg = 0x41 then (if n = 16 then 0x11 else if n = 24 then 0x12 else if n = 32 then 0x13 else 0)
  else if alg = 0x48 then (if 16 ≤ n ∧ n ≤ 136 then 0x21 else 0)
  else 0

/-- The key of clear key data. -/
def blockKey (data : Bytes) : Option Bytes :=
  let n := beNat (data.take 2)
  if n % 8 = 0 ∧ 2 + n / 8 ≤ data.length then some (slice data 2 (n / 8)) else none

/-- Two equal parts of a TDES key (0x3006). -/
def tdesWeak (kt : Nat) (key : Bytes) : Bool :=
  let p (i : Nat) := slice key (8 * i) 8
  (kt == 1 && p 0 == p 1) || (kt == 2 && (p 0 == p 1 || p 1 == p 2 || p 0 == p 2))

/-- A key block opened under a KBPK: its header, key and type, and what failed. -/
structure Opened where
  blk : KeyBlock
  key : Bytes
  kt  : Nat
  /-- BLOCK_HEADER, BLOCK_VERSION and BLOCK_MAC, in their order. -/
  checks : List (Bool × Nat)
  deriving DecidableEq, Repr

/-- A key block is opened under the record `r` (R319, R326 steps 3 to 5). -/
def openBlock (t : DSet) (r : KeyRec) (b : Bytes) : Opened :=
  match parseBlock b with
  | none => ⟨⟨0, 0, 0, 0, 0, 0, 0, none⟩, [], 0, [(false, 0x3001)]⟩
  | some k =>
    let ver := (k.ver == 0x44 && ktAes r.ktype) || (k.ver == 0x42 && ktTdes r.ktype && symBit t 4)
    let data := kbUnwrap r.ktype r.key b k.hlen
    let key := (blockKey (data.getD [])).getD []
    ⟨k, key, blockType k.alg key.length, [(k.ten, 0x3001), (ver, 0x3004), (data.isSome, 0x3002)]⟩

/-! ### What admission checks (R324, R325, R328, R329, R331, R333, R334, R338, R955) -/

/-- Two ASCII characters, or zero. -/
def kvnOk (n : Nat) : Bool :=
  n == 0 || (decide (0x20 ≤ n / 256) && decide (n / 256 < 0x7F) && decide (0x20 ≤ n % 256) && decide (n % 256 < 0x7F))

/-- A KEY_B that a flag requires, zero otherwise. -/
def keyBWhen (p : Bytes) (need : Bool) (h : Nat) : List (Bool × Nat) := if need then handleChecks p h else [(h == 0, 0x10E6)]

/-- The class field of a verb that creates a record. -/
def classOk (p : Bytes) (c : Nat) : List (Bool × Nat) := [(decide (c ≤ 2), 0x10E1), (c == 0 || mirrored p, 0x10E5)]

/-- KEY_IMPORT. -/
def chkKeyImport (p : Bytes) (_ : DSet) (b : Bytes) : List (Bool × Nat) :=
  let h := dKeyA b
  let f := byteAt b 0x24
  let pubf := f == 1
  let alg := dAlg b
  let usage := beNat (slice b 0x26 2)
  let mode := byteAt b 0x28
  let sig := decide (0x41 ≤ alg) && decide (alg ≤ 0x4A)
  let kem := decide (0x51 ≤ alg) && decide (alg ≤ 0x56)
  [(if pubf then sig || kem else alg == 0, 0x10E1), (h == 0 || (decide (h < 2 ^ 24) && hTerm h), 0x10E6)] ++
  keyBWhen p (!pubf) (leAt b 0x20 4) ++ [(f == 0 || (pubf && h == 0), 0x10E1)] ++
  (if hTerm h then [(byteAt b 0x25 == 0, 0x10E1)] else classOk p (byteAt b 0x25)) ++
  [(if pubf then [uS0, uS1, uK3].contains usage else usage == 0, 0x10E1),
   (if pubf then [mV, mN, mX].contains mode else mode == 0, 0x10E1), resv b 0x29 1,
   (if pubf then kvnOk (beNat (slice b 0x2A 2)) else beNat (slice b 0x2A 2) == 0, 0x10E1),
   (!pubf || allZero (slice b 0x2C 3), 0x10E1), resv b 0x2F 1, (hTerm h || allZero (slice b 0x30 8), 0x10E1), resv b 0x38 8,
   (!pubf || keyCombo usage mode (0x200 + alg), 0x10E5),
   if pubf then inLenIs b (pubLen alg) else inRange (dInLen b) 16 8192 0x10E3, outLenAt b 0]

/-- Length of the private form, or of the key, of a KTYPE as KEY_EXPORT writes it. -/
def exportLen (kt : Nat) : Nat := 64 + 2 * kbDataLen kt (if kt / 256 = 1 then privLen (kt % 256) else ktLen kt)

/-- A KTYPE of R303: symmetric, pair, or public only. -/
def ktSym (kt : Nat) : Bool := ktTdes kt || ktAes kt || ktHmac kt
def ktPair (kt : Nat) : Bool := kt / 256 == 1 && pubLen (kt % 256) != 0
def ktPub (kt : Nat) : Bool := kt / 256 == 2 && pubLen (kt % 256) != 0

/-- KEY_EXPORT. -/
def chkKeyExport (p : Bytes) (t : DSet) (b : Bytes) : List (Bool × Nat) :=
  let h := dKeyA b
  let f := byteAt b 0x24
  let kt := leAt b 0x26 2
  [noAlg b] ++ handleChecks p h ++ keyBWhen p (f != 1) (leAt b 0x20 4) ++
  [inRange f 0 1 0x10E1, resv b 0x25 1, (if f = 0 then ktSym kt || ktPair kt else ktPair kt || ktPub kt, 0x10E1), resv b 0x28 24,
   (f == 1 || !ktPair kt || pkeBit t 6, 0x10E5), (!hTerm h, 0x10E5), inLenIs b 0,
   outLenAt b (if f = 0 then exportLen kt else pubLen (kt % 256))]

/-- KEY_GENERATE. -/
def chkKeyGenerate (p : Bytes) (_ : DSet) (b : Bytes) : List (Bool × Nat) :=
  let f := byteAt b 0x24
  let kt := leAt b 0x26 2
  let n := byteAt b 0x28
  let usage := beNat (slice b 0x2A 2)
  let mode := byteAt b 0x2C
  [noAlg b, noKey b] ++ keyBWhen p (f % 2 == 1) (leAt b 0x20 4) ++ [(decide (f ≤ 1), 0x10E2)] ++ classOk p (byteAt b 0x25) ++
  [(ktSym kt, 0x10E1), (if ktHmac kt then decide (16 ≤ n) && decide (n ≤ 136) else n == 0, 0x10E1), resv b 0x29 1,
   ([uP0, uB0, uD0, uE0, uK0, uK1, uM3, uM6, uM7, uV0, uV1, uTok, uS0, uS1, uK3].contains usage, 0x10E1),
   ([mE, mD, mB, mX, mG, mV, mC, mS, mN].contains mode, 0x10E1), ([mE, mN, mS].contains (byteAt b 0x2D), 0x10E1),
   (kvnOk (beNat (slice b 0x2E 2)), 0x10E1), resv b 0x30 16, (keyCombo usage mode kt, 0x10E5), inLenIs b 0,
   outLenAt b (if f % 2 = 1 then exportLen kt else 0)]

/-- KEY_UPDATE. -/
def chkKeyUpdate (p : Bytes) (_ : DSet) (b : Bytes) : List (Bool × Nat) :=
  let h := dKeyA b
  let op := byteAt b 0x24
  let f := byteAt b 0x25
  let kt := leAt b 0x26 2
  [noAlg b] ++ handleChecks p h ++ keyBWhen p (op == 1 || (op == 2 && f % 2 == 1)) (leAt b 0x20 4) ++
  [inRange op 1 3 0x10E1, (decide (f ≤ 1), 0x10E2), (f == 0 || op == 2, 0x10E1), (if op = 3 then kt == 0 else ktSym kt, 0x10E1),
   (if op = 3 then [0, mE, mD, mB, mG, mV, mC, mS, mN, mX].contains (byteAt b 0x2C) else byteAt b 0x2C == 0, 0x10E1),
   (if op = 3 then byteAt b 0x2D == 0 || byteAt b 0x2D == mN else byteAt b 0x2D == 0, 0x10E1), resv b 0x2E 2,
   ((op == 1 && hTerm h) || allZero (slice b 0x30 8), 0x10E1), (op == 1 || allZero (slice b 0x38 3), 0x10E1), resv b 0x3B 5,
   (!(op == 2 && hTerm h), 0x10E5), (!(op == 3 && byteAt b 0x2C == 0 && byteAt b 0x2D == 0), 0x10E5),
   if op = 1 then inRange (dInLen b) 16 8192 0x10E3 else inLenIs b 0,
   outLenAt b (if op = 2 ∧ f % 2 = 1 then exportLen kt else 0)]

/-- KEY_RETIRE. -/
def chkKeyRetire (p : Bytes) (_ : DSet) (b : Bytes) : List (Bool × Nat) :=
  [noAlg b] ++ handleChecks p (dKeyA b) ++ [resv b 0x24 28, inLenIs b 0, (dOutLen b == 0, 0x10E3)]

/-! ### Records in the making -/

/-- SALT of a new generation, its low two bits zero (R302). -/
def State.drawSalt (s : State) : Nat × State :=
  let r := s.drawDev 4
  (leNat r.1 / 4 * 4, r.2)

/-- RESULT of a key verb (R325). -/
def keyResult (h g : Nat) (kcv : Bytes) : Bytes := leBytes 4 h ++ leBytes 4 g ++ padTo 8 (kcv.take 3)

/-- A record created by a job. -/
def State.newRec (s : State) (x : Work) (h salt kt usage mode expo kvn : Nat) (key pub : Bytes) : KeyRec :=
  { KeyRec.empty x.j.deckle h with
    gen := 1, salt, state := 1, ktype := kt, usage, mode, expo, kvn := if kvn = 0 then 0x3030 else kvn
    extIdx := Config.extIndex x.j.deckle h 1, kcv := kcvOf kt key pub, created := s.stamp (x.j.due.getD 0), key, pub
    since := x.j.due.getD 0 }

/-- A change is held pending until its commit (R337, R954); a synchronous one sends its prepare (R355). -/
def State.hold (s : State) (x : Work) (r : KeyRec) (sync : Bool) : State :=
  let c : KeyChange :=
    { job := x.j.id, deckle := x.j.deckle, handle := r.handle, record := r, edge := x.b, due := x.j.due.getD 0, sync
      peers := if sync then (List.range 16).filter fun m => nbit (s.reg (R.KEYS_MIRROR_LIST x.j.deckle)).toNat m else []
      acks := [], nacks := [], stage := if sync then .prepared else .admitted }
  let s := s.mapKs fun k => { k with changes := k.changes ++ [c] }
  if sync then
    let s := s.queueRec { plainRec 2 x.j.deckle 4 (4 + extLines r) (s.wrapAll r) [] with vat := x.v, job := some x.j.id }
    s.mapKs fun k => { k with mail := k.mail ++ [⟨4, 0, s.regField R.KEYS_MEMBER 3 0, 16, x.j.deckle, r.handle, r.gen, s.wrapAll r⟩] }
  else s

/-- The change of an OK job is held, and the job ends. -/
def State.finishKey (s : State) (x : Work) (vd : Nat × Nat) (r : KeyRec) (sync : Bool) (output : Bytes) : State :=
  let s := if vd.1 = 0 then s.hold x r sync else s
  s.finish x vd (keyResult r.handle r.gen r.kcv) output

/-- The checks of a KBPK in KEY_B. -/
def State.kbpkChecks (s : State) (x : Work) (r : KeyRec) (out : Bool) : List (Bool × Nat) :=
  s.keyChecks x.j.deckle (leAt x.j.desc 0x20 4) r [uK1] [if out then mE else mD, mB] (!out || r.ktype == 0x13)

/-- Key material of a symmetric type from the vat's DRBG; a weak TDES key is drawn again (R332). -/
def State.drawKey (s : State) (v kt n : Nat) : Nat → Bytes × Bool × State
  | 0 => ([], false, s)
  | k + 1 =>
    let r := s.jobDraw v n
    if r.2.1 ∧ tdesWeak kt r.1 then r.2.2.drawKey v kt n k else r

/-- Padding of an exported key block. -/
def padLen (kt n : Nat) : Nat := kbDataLen kt n - 2 - n

/-! ### The verbs -/

/-- KEY_IMPORT (R324 to R327). -/
def execKeyImport (job : Nat) (s : State) : Res :=
  .next <|
    match s.work job 0x0401 with
    | none => s
    | some x =>
      let b := x.j.desc
      let h := dKeyA b
      let term := hTerm h
      let salt := s.drawSalt
      if byteAt b 0x24 = 1 then
        let alg := dAlg b
        let checks := [(pubValid alg x.j.input, 0x2002), (x.j.newHandle != 0, 0x300A)]
        let r := s.newRec x x.j.newHandle salt.1 (0x200 + alg) (beNat (slice b 0x26 2)) (byteAt b 0x28) mE (beNat (slice b 0x2A 2)) [] x.j.input
        (salt.2.finishKey x (verdict x.j [] checks) r false [])
      else
        let rb := s.keyFor x (leAt b 0x20 4)
        let cur := s.keyNow x.j.deckle h
        let o := openBlock x.j.set rb x.j.input
        let kcv := kcvOf o.kt o.key []
        let want := slice b 0x2C 3
        let target :=
          if term then
            [(decide (hIndex h < (s.reg (R.KEYS_TR_SPACE x.j.deckle)).toNat), 0x1001), (cur.state == 0, 0x3009),
             (decide (cur.gen < 0xFFFFFFFE), 0x300D)]
          else []
        let checks := target ++ s.kbpkChecks x rb false ++ o.checks ++
          [(keyCombo o.blk.usage o.blk.mode o.kt && (o.blk.usage == uB1) == term && [mE, mN, mS].contains o.blk.expo &&
              (o.blk.kt10.isNone || o.blk.kt10 == some (hexBytes (beBytes 2 o.kt))), 0x3003),
           (!tdesWeak o.kt o.key, 0x3006), (allZero want || want == kcv, 0x3007)] ++
          (if term then [] else [(x.j.newHandle != 0, 0x300A)])
        let r := s.newRec x (if term then h else x.j.newHandle) salt.1 o.kt o.blk.usage o.blk.mode o.blk.expo o.blk.kvn o.key []
        let r := if term then { r with gen := cur.gen + 1, expo := mN, ikId := slice b 0x30 8 } else r
        (salt.2.useKeys x none rb).finishKey x (verdict x.j [] checks) r false []

/-- KEY_EXPORT (R328 to R330). -/
def execKeyExport (job : Nat) (s : State) : Res :=
  .next <|
    match s.work job 0x0402 with
    | none => s
    | some x =>
      let b := x.j.desc
      let f := byteAt b 0x24
      let ra := s.keyFor x (dKeyA b)
      let own := s.keyAlive x.j.deckle (dKeyA b) ra ++ [(ra.ktype == leAt b 0x26 2, 0x3008)]
      if f = 1 then
        (s.useKeys x ra none).finish x (verdict x.j [] own) [] ra.pub
      else
        let rb := s.keyFor x (leAt b 0x20 4)
        let checks := own ++ [(ra.expo != mN, 0x3005)] ++ s.kbpkChecks x rb true
        let r := s.jobDraw x.v (padLen ra.ktype ra.key.length)
        (r.2.2.useKeys x ra rb).finish x (verdict x.j [(r.2.1, 0x1801)] checks) []
          (kbExport rb.key ra.key ra.ktype ra.usage ra.mode ra.expo ra.kvn r.1)

/-- KEY_GENERATE (R331, R332). -/
def execKeyGenerate (job : Nat) (s : State) : Res :=
  .next <|
    match s.work job 0x0403 with
    | none => s
    | some x =>
      let b := x.j.desc
      let out := byteAt b 0x24 % 2 == 1
      let kt := leAt b 0x26 2
      let n := if ktHmac kt then byteAt b 0x28 else ktLen kt
      let rb := s.keyFor x (leAt b 0x20 4)
      let checks := (if out then s.kbpkChecks x rb true else []) ++ [(x.j.newHandle != 0, 0x300A)]
      let g := s.drawKey x.v kt n 64
      let q := if out then g.2.2.jobDraw x.v (padLen kt n) else ([], true, g.2.2)
      let salt := q.2.2.drawSalt
      let r := s.newRec x x.j.newHandle salt.1 kt (beNat (slice b 0x2A 2)) (byteAt b 0x2C) (byteAt b 0x2D) (beNat (slice b 0x2E 2)) g.1 []
      let t := if out then salt.2.useKeys x none rb else salt.2
      t.finishKey x (verdict x.j [(g.2.1 && q.2.1, 0x1801)] checks) r false
        (if out then kbExport rb.key g.1 kt r.usage r.mode r.expo r.kvn q.1 else [])

/-- A synchronous handle. -/
def hSync (h : Nat) : Bool := !hTerm h && hClass h == 2

/-- The checks on a change of KEY_A: EXPECT_GEN, another change, the generation limit, and the home member (R335, R338). -/
def State.changeChecks (s : State) (x : Work) (h expect : Nat) (limit : Bool) : List (Bool × Nat) :=
  let cur := s.keyNow x.j.deckle h
  [(expect == 0 || expect == cur.gen, 0x300B),
   (!s.ks.changes.any (fun c => c.deckle == x.j.deckle && c.handle == h && c.job != x.j.id), 0x300C)] ++
  (if limit then [(decide (cur.gen + 1 < 0xFFFFFFFF), 0x300D)] else []) ++
  [(!(!hTerm h && hClass h == 1) || hIndex h % 16 == s.regField R.KEYS_MEMBER 3 0, 0x300E)]

/-- The modes that RESTRICT may give a record (R336). -/
def restrictOk (held new : Nat) : Bool :=
  new == 0 || new == held || (held == mB && (new == mE || new == mD)) || (held == mC && (new == mG || new == mV)) ||
    (held == mN && (new == mS || new == mV))

/-- KEY_UPDATE (R333 to R337). -/
def execKeyUpdate (job : Nat) (s : State) : Res :=
  .next <|
    match s.work job 0x0404 with
    | none => s
    | some x =>
      let b := x.j.desc
      let h := dKeyA b
      let op := byteAt b 0x24
      let out := op == 2 && byteAt b 0x25 % 2 == 1
      let ra := s.keyFor x h
      let rb := s.keyFor x (leAt b 0x20 4)
      let salt := s.drawSalt
      let g := (s.keyNow x.j.deckle h).gen + 1
      let base := { ra with gen := g, salt := salt.1, since := x.j.due.getD 0, extIdx := Config.extIndex x.j.deckle h g }
      let own := s.keyAlive x.j.deckle h ra ++ (if op = 3 then [] else [(ra.ktype == leAt b 0x26 2, 0x3008)]) ++
        s.changeChecks x h (leAt b 0x28 4) true
      if op = 1 then
        let o := openBlock x.j.set rb x.j.input
        let kcv := kcvOf o.kt o.key []
        let want := slice b 0x38 3
        let checks := own ++ s.kbpkChecks x rb false ++ o.checks ++
          [(o.blk.usage == ra.usage && o.kt == ra.ktype && o.key.length == ra.key.length && o.blk.mode == ra.mode && o.blk.expo == ra.expo, 0x3008),
           (!tdesWeak o.kt o.key, 0x3006), (allZero want || want == kcv, 0x3007)]
        let r := { base with key := o.key, kcv := kcv, kvn := o.blk.kvn, ikId := if hTerm h then slice b 0x30 8 else ra.ikId }
        (salt.2.useKeys x ra rb).finishKey x (verdict x.j [] checks) r (hSync h) []
      else if op = 2 then
        let checks := own ++ (if out then s.kbpkChecks x rb true else [])
        let n := ra.key.length
        let k := salt.2.drawKey x.v ra.ktype n 64
        let q := if out then k.2.2.jobDraw x.v (padLen ra.ktype n) else ([], true, k.2.2)
        let r := { base with key := k.1, kcv := kcvOf ra.ktype k.1 [] }
        let t := q.2.2.useKeys x ra (if out then some rb else none)
        t.finishKey x (verdict x.j [(k.2.1 && q.2.1, 0x1801)] checks) r (hSync h)
          (if out then kbExport rb.key k.1 ra.ktype ra.usage ra.mode ra.expo ra.kvn q.1 else [])
      else
        let m := byteAt b 0x2C
        let checks := own ++ [(restrictOk ra.mode m, 0x300F)]
        let r := { base with mode := if m = 0 then ra.mode else m, expo := if byteAt b 0x2D = 0 then ra.expo else mN }
        (salt.2.useKeys x ra none).finishKey x (verdict x.j [] checks) r (hSync h) []

/-- KEY_RETIRE (R338, R339). -/
def execKeyRetire (job : Nat) (s : State) : Res :=
  .next <|
    match s.work job 0x0405 with
    | none => s
    | some x =>
      let h := dKeyA x.j.desc
      let ra := s.keyFor x h
      let inSpace := !hTerm h || decide (hIndex h < (s.reg (R.KEYS_TR_SPACE x.j.deckle)).toNat)
      let salt := s.drawSalt
      let g := (s.keyNow x.j.deckle h).gen + 1
      let checks := [(ra.state != 0 && inSpace, 0x1001), (ra.state == 1 || ra.state == 4, 0x1003)] ++
        s.changeChecks x h (leAt x.j.desc 0x20 4) false
      let r := { ra with gen := g, salt := salt.1, state := if hTerm h then 0 else 3, key := [], pub := [], kcv := [], badTag := false
                         since := x.j.due.getD 0 }
      (salt.2.useKeys x ra none).finishKey x (verdict x.j [] checks) r (hSync h) []

/-! ### Commit of a change (R340, R954) -/

def State.setStage (s : State) (job : Nat) (g : ChangeStage) : State :=
  s.mapKs fun k => { k with changes := k.changes.map fun c => if c.job = job then { c with stage := g } else c }

/-- The index of a job that creates no record stays EMPTY for ever (R323). -/
def State.abandonIndex (s : State) (d h : Nat) : State :=
  s.mapKs fun k => { k with recs := k.recs.filter fun r => !(r.deckle == d && r.handle == h && r.state == 2) }

/-- Peers learn of a committed change outside the synchronous way (R352, R354). -/
def State.mailApply (s : State) (r : KeyRec) : State :=
  let goes := if hTerm r.handle then s.regBit (R.KEYS_DCFG r.deckle) 4 else hClass r.handle != 0
  if goes then
    s.mapKs fun k => { k with mail := k.mail ++ [⟨7, 0, s.regField R.KEYS_MEMBER 3 0, 16, r.deckle, r.handle, r.gen, s.wrapAll r⟩] }
  else s

/-- The new version is installed and every vat of the deckle hears of it (R315); a terminal context that takes another initial key
starts its counter at 0 (R327, R334). -/
def State.putVersion (s : State) (r : KeyRec) : State :=
  let cur := s.keyNow r.deckle r.handle
  let s := s.install r
  let s :=
    if hTerm r.handle ∧ (cur.state = 0 ∨ cur.ikId ≠ r.ikId) then s.writeCounter ⟨r.deckle, r.handle, 0, r.since, (64, r.since)⟩ else s
  s.sendInvals r.deckle r.handle r.gen

/-- The commit record of a change. -/
def State.keyCommit (s : State) (r : KeyRec) (rank vat : Nat) (job : Option Nat) : State :=
  s.queueRec { plainRec rank r.deckle 3 (4 + extLines r) (s.wrapAll r) [] with vat := vat, job := job, key := some r }

/-- The change of job `j` commits, or is given up when CANCEL marked the job first or the job did not end OK (R951, R323). -/
def State.commitChange (s : State) (c : KeyChange) : State :=
  match s.job? c.job with
  | none => s
  | some j =>
    if c.sync then if c.stage = .committed then s.putVersion c.record else s
    else if c.stage ≠ .admitted then s
    else if j.marked ∨ ¬ j.ready ∨ j.cls ≠ 0 then (s.setStage c.job .rolledBack).abandonIndex c.deckle c.handle
    else
      (((s.keyCommit c.record 2 (j.vat.getD 0) (some c.job)).setStage c.job .committed).putVersion c.record).mailApply c.record

/-- KEY_CHANGE_COMMIT: in the beat before its due edge a change's commit record commits and the KEYS block installs it (R954). -/
def execKeyChangeCommit (job : Nat) (s : State) : Res :=
  .next <|
    match s.ks.changes.find? fun c => c.job == job with
    | some c => if s.beat + 1 = c.due then s.commitChange c else s
    | none => s

/-- VAT_INVALIDATION: a vat discards its entries of the handle with a lower generation (R315). -/
def execVatInvalidation (v : Vat) (handle gen : Nat) (s : State) : Res :=
  .next <| if s.ks.invals.contains (v.val, handle, gen) then s.invalidate v.val handle gen else s

/-! ### Synchronous changes at the origin (R355 to R357) -/

/-- This device's member number. -/
def State.member (s : State) : Nat := s.regField R.KEYS_MEMBER 3 0

def State.post (s : State) (m : Mail) : State := s.mapKs fun k => { k with mail := k.mail ++ [m] }

/-- Messages of order 3. -/
def State.reply (s : State) (what dest d h g : Nat) (decision : Bool) : State :=
  s.post ⟨3, what, s.member, dest, d, h, g, [by8 (b2n decision)]⟩

/-- SYNC_ACK_RECEIVED: a peer acknowledges, or refuses, a prepare of this member up to edge b + 9; or acknowledges a decision. -/
def execSyncAckReceived (d : Deckle) (peer : Fin 16) (handle gen : Nat) (ok decision : Bool) (s : State) : Res :=
  .next <|
    if decision then
      let heard (x : Decision) : Decision :=
        if x.deckle = d.val ∧ x.handle = handle ∧ x.gen = gen then { x with waiting := x.waiting.filter (· != peer.val) } else x
      s.mapKs fun k => { k with decisions := (k.decisions.map heard).filter (fun x => x.waiting != []) }
    else
      let mine (c : KeyChange) : Bool :=
        c.deckle == d.val && c.handle == handle && c.record.gen == gen && c.sync && c.stage == .prepared &&
          decide (s.beat < c.edge + 9) && c.peers.contains peer.val && s.regBit R.ULOON_MIRROR_MASK peer.val
      let note (c : KeyChange) : KeyChange := if ok then { c with acks := peer.val :: c.acks } else { c with nacks := peer.val :: c.nacks }
      s.mapKs fun k => { k with changes := k.changes.map fun c => if mine c then note c else c }

/-- A synchronous change is rolled back (R355): a rollback record, event 282, and the job's class, which a CANCEL's mark leaves alone
(R951). -/
def State.rollBack (s : State) (c : KeyChange) : State :=
  let s := s.queueRec { plainRec 2 c.deckle 4 2 (leBytes 4 c.handle ++ leBytes 4 c.record.gen) [] with job := some c.job }
  let s := ((s.setStage c.job .rolledBack).bump (R.KEYS_SYNC_FAIL c.deckle)).raise 282
  s.updJob c.job fun j =>
    if j.cls ≠ 0 ∨ j.marked then j
    else if c.nacks = [] then { j with cls := 6, reason := 0x3020, result := [], output := [] }
    else { j with cls := 1, reason := 0x3021, result := [], output := [] }

/-- SYNC_COMMIT_DECISION: at edge b + 9 the origin commits when every listed peer acknowledged and CANCEL has not marked the job, and
rolls back otherwise; the decision goes out from the next beat on. -/
def execSyncCommitDecision (job : Nat) (s : State) : Res :=
  .next <|
    match s.ks.changes.find? (fun c => c.job == job), s.job? job with
    | some c, some j =>
      if c.sync ∧ c.stage = .prepared ∧ c.edge + 9 ≤ s.beat then
        let go := !j.marked && c.peers.all fun p => c.acks.contains p
        let s := if go then (s.keyCommit c.record 2 (j.vat.getD 0) (some job)).setStage job .committed else s.rollBack c
        let s := s.post ⟨3, if go then 2 else 3, s.member, 16, c.deckle, c.handle, c.record.gen, []⟩
        if c.peers = [] then s
        else s.mapKs fun k => { k with decisions := k.decisions ++ [⟨c.deckle, c.handle, c.record.gen, go, s.beat + 1, c.peers⟩] }
      else s
    | _, _ => s

/-- A peer leaves mirroring (R357, R811): its bit of ULOON_MIRROR_MASK is cleared. -/
def State.dropPeer (s : State) (m : Nat) : State :=
  (s.setRegBit R.ULOON_MIRROR_MASK m false).mapKs fun k => { k with
    decisions := (k.decisions.map fun x => { x with waiting := x.waiting.filter (· != m) }).filter fun x => x.waiting != [] }

/-- SYNC_DECISION_TIMEOUT: after 64 beats without a peer's acknowledgement of a decision the origin removes the peer, with event
285. -/
def execSyncDecisionTimeout (d : Deckle) (peer : Fin 16) (handle gen : Nat) (s : State) : Res :=
  .next <|
    if s.ks.decisions.any fun x =>
        x.deckle == d.val && x.handle == handle && x.gen == gen && x.waiting.contains peer.val && decide (x.since + 64 ≤ s.beat) then
      ((s.dropPeer peer.val).bump R.ULOON_REMOVALS).raise 285
    else s

/-! ### As a peer (R353, R356 to R358) -/

/-- The record that a message carries, wrapped again under this device's key with a salt of its own (R302). -/
def msgRec (m : KeyMsg) (d salt since : Nat) : KeyRec :=
  { KeyRec.empty d m.handle with
    gen := m.gen, salt, state := m.state, ktype := m.ktype, usage := m.usage, mode := m.mode, expo := m.expo, kvn := m.kvn
    extIdx := Config.extIndex d m.handle m.gen, kcv := if m.key = [] ∧ m.pub = [] then [] else kcvOf m.ktype m.key m.pub
    counter := m.counter, created := m.created, key := m.key, pub := m.pub, ikId := m.ikId, since }

/-- Two versions with the same contents. -/
def sameContents (a b : KeyRec) : Bool :=
  a.state == b.state && a.ktype == b.ktype && a.usage == b.usage && a.mode == b.mode && a.expo == b.expo && a.kvn == b.kvn &&
    a.key == b.key && a.pub == b.pub && a.ikId == b.ikId

/-- Deckle `d` is mirrored here, and member `m` takes part. -/
def State.mirrors (s : State) (d m : Nat) : Bool :=
  s.regBit (R.KEYS_DCFG d) 2 && s.regBit R.ULOON_MIRROR_MASK m && decide (m ≠ s.member)

/-- A mirrored record is applied when its generation is higher; a lower one is ignored with event 285, and an equal one with other
contents sets CONFLICT (R346, R353). -/
def State.applyMirror (s : State) (d kind : Nat) (m : KeyMsg) : State :=
  let cur := s.keyNow d m.handle
  if cur.gen < m.gen then
    let salt := s.drawSalt
    let r := msgRec m d salt.1 (s.beat + 1)
    (salt.2.queueRec { plainRec 3 d kind (4 + extLines r) (s.wrapAll r) [] with key := some r }).putVersion r
  else if m.gen < cur.gen then s.raise 285
  else if sameContents cur (msgRec m d 0 0) then s
  else ((s.replaceRec { cur with state := 4 }).bump R.KEYS_CONFLICTS).raise 318

/-- SYNC_PREPARE_RECEIVED: the peer journals the prepare and acknowledges; with an uncommitted prepare of its own it refuses a sender
whose number is not lower than its own (R356). -/
def execSyncPrepareReceived (d : Deckle) (origin : Fin 16) (m : KeyMsg) (s : State) : Res :=
  .next <|
    if ¬ s.mirrors d.val origin.val then s
    else
      let own := s.ks.changes.any fun c => c.deckle == d.val && c.handle == m.handle && c.sync && c.stage == .prepared
      if own ∧ s.member ≤ origin.val then s.reply 1 origin.val d.val m.handle m.gen false
      else
        let salt := s.drawSalt
        let r := msgRec m d.val salt.1 0
        let s := salt.2.queueRec (plainRec 3 d.val 4 (4 + extLines r) (s.wrapAll r) [])
        let s := s.mapKs fun k => { k with prepares := k.prepares.filter (fun p => !(p.deckle == d.val && p.origin == origin.val &&
          p.record.handle == m.handle)) ++ [⟨d.val, origin.val, r⟩] }
        s.reply 0 origin.val d.val m.handle m.gen false

/-- SYNC_DECISION_RECEIVED: the peer commits and applies its prepare from its next edge, or journals that it discards it, and
acknowledges (R355, R357). -/
def execSyncDecisionReceived (d : Deckle) (origin : Fin 16) (handle gen : Nat) (commit : Bool) (s : State) : Res :=
  .next <|
    if ¬ s.mirrors d.val origin.val then s
    else
      let mine (p : PeerPrepare) : Bool := p.deckle == d.val && p.origin == origin.val && p.record.handle == handle && p.record.gen == gen
      match s.ks.prepares.find? mine with
      | none => s.reply 0 origin.val d.val handle gen true
      | some p =>
        let s := s.mapKs fun k => { k with prepares := k.prepares.filter fun q => !mine q }
        let s :=
          if ¬ commit then s.queueRec (plainRec 3 d.val 4 2 (leBytes 4 handle ++ leBytes 4 gen) [])
          else if (s.keyNow d.val handle).gen < gen then
            let r := { p.record with since := s.beat + 1 }
            (s.keyCommit r 3 0 none).putVersion r
          else s.raise 285
        s.reply 0 origin.val d.val handle gen true

/-- MIRROR_APPLY_RECEIVED: a mirrored record arrives (R353). -/
def execMirrorApplyReceived (d : Deckle) (origin : Fin 16) (m : KeyMsg) (s : State) : Res :=
  .next <| if s.mirrors d.val origin.val then s.applyMirror d.val 4 m else s

/-- MIRROR_COUNTERS_RECEIVED: LAST_CTR of a terminal context takes the greater value (R352); the counts of key table records are
each member's own (R310). -/
def execMirrorCountersReceived (d : Deckle) (origin : Fin 16) (values : List (Nat × Nat)) (s : State) : Res :=
  .next <|
    if s.mirrors d.val origin.val then
      values.foldl (fun s p =>
        let now := s.counterNow d.val p.1 (s.keyNow d.val p.1).lastCtr
        if hTerm p.1 ∧ s.regBit (R.KEYS_DCFG d.val) 4 ∧ now < p.2 then
          s.writeCounter ⟨d.val, p.1, p.2, s.beat + 1, (64, s.beat)⟩
        else s) s
    else s

/-- MIRROR_RESYNC: the exchange of generations with a member that joins or rejoins ends: what it holds higher is applied, what it
holds lower is sent, and its prepares without a commit are discarded (R358). -/
def execMirrorResync (d : Deckle) (member : Fin 16) (recs : List KeyMsg) (s : State) : Res :=
  .next <|
    if ¬ s.mirrors d.val member.val then s
    else
      let s := recs.foldl (fun s m =>
        let cur := s.keyNow d.val m.handle
        if m.gen < cur.gen then s.mailApply cur else s.applyMirror d.val 4 m) s
      let own := (s.ks.recs.filter fun r => r.deckle == d.val && !recs.any (fun m => m.handle == r.handle) && r.gen == (s.keyNow d.val r.handle).gen)
      let s := own.foldl State.mailApply s
      let gone := s.ks.prepares.filter fun p => p.deckle == d.val && p.origin == member.val
      let s := gone.foldl (fun s p => s.queueRec (plainRec 3 d.val 4 2 (leBytes 4 p.record.handle ++ leBytes 4 p.record.gen) [])) s
      (s.mapKs fun k => { k with prepares := k.prepares.filter fun p => !(p.deckle == d.val && p.origin == member.val) }).setRegBit
        R.KEYS_STATUS 3 false

end Sys2Proof.Machine
end

