-- ==== Sys2Proof/Machine/Pke.lean ====
section
/-! DEFINITION. The public-key engine and its verbs (R163 to R230): what admission checks, what a job computes, and how the engine
starts, ends, wipes and hands over at its done edge. -/

namespace Sys2Proof.Machine

/-! ### Tariffs (R77) -/

/-- The tariffs of one algorithm for SIGN, VERIFY, KEYPAIR, AGREE and ENCAPSULATE, 0 where the device offers none. -/
def pkeRow (alg : Nat) : List Nat :=
  match alg with
  | 0x41 => [4, 8, 4, 0, 0]
  | 0x42 => [9, 18, 9, 0, 0]
  | 0x43 => [3, 6, 3, 0, 0]
  | 0x44 => [40, 2, 40000, 0, 0]
  | 0x45 => [130, 4, 140000, 0, 0]
  | 0x46 => [320, 6, 320000, 0, 0]
  | 0x47 => [10, 3, 4, 0, 0]
  | 0x48 => [16, 5, 6, 0, 0]
  | 0x49 => [24, 8, 8, 0, 0]
  | 0x4A => [20, 13, 10, 0, 0]
  | 0x51 => [0, 0, 4, 4, 0]
  | 0x52 => [0, 0, 9, 9, 0]
  | 0x53 => [0, 0, 3, 3, 0]
  | 0x54 => [0, 0, 2, 2, 2]
  | 0x55 => [0, 0, 3, 3, 3]
  | 0x56 => [0, 0, 4, 4, 4]
  | _ => []

/-- The R77 tariff of a PKE verb. -/
def pkeTariff (verb alg : Nat) : Nat := if 0x0201 ≤ verb ∧ verb ≤ 0x0205 then (pkeRow alg).getD (verb - 0x0201) 0 else 0

/-- Bit of an algorithm in PKE_ALG_EN (R226). -/
def algBit (alg : Nat) : Nat := if alg < 0x51 then alg - 0x41 else alg - 0x51 + 16

/-! ### What admission checks -/

/-- ALG of a PKE verb: a value of R163, enabled, and offered for the verb. -/
def pkeAlg (t : DSet) (b : Bytes) : List (Bool × Nat) :=
  [(pkeRow (dAlg b) != [], 0x10E1), (bit t.pkeAlgEn (algBit (dAlg b)), 0x10E5), (pkeTariff (dVerb b) (dAlg b) != 0, 0x10E5)]

/-- The expert flag of the PKE must be set for an expert field that is not zero. -/
def expertPke (t : DSet) (n : Nat) : Bool × Nat := (n == 0 || pkeBit t 11, 0x10E4)

/-- HASH_ALG in force (R177). -/
def hashAlgOf (b : Bytes) : Nat :=
  let h := byteAt b 0x21
  let a := dAlg b
  if h ≠ 0 then h else if a = 0x42 then 0x22 else if algDsa a then 0x23 else 0x21

/-- An RSA size below RSA_MIN (R175). -/
def rsaMin (t : DSet) (alg : Nat) : Bool × Nat := (!algRsa alg || decide (field t.pkePolicy 5 4 ≤ alg - 0x44), 0x10E5)

/-- KEY_A of a verb that also takes an inline public key (R172). -/
def keyOrInline (p : Bytes) (t : DSet) (h : Nat) : List (Bool × Nat) := if h = 0 then [(pkeBit t 10, 0x10E5)] else handleChecks p h

/-- The verb area of SIGN and VERIFY (R177, R179, R182). -/
def signArea (t : DSet) (b : Bytes) (sign : Bool) : List (Bool × Nat) :=
  let a := dAlg b
  let mode := byteAt b 0x20
  let h := byteAt b 0x21
  let pad := byteAt b 0x22
  let salt := byteAt b 0x23
  let cl := byteAt b 0x24
  let dsa := algDsa a || a == algHybrid
  [inRange mode 0 1 0x10E1,
   (h == 0 || (decide (0x21 ≤ h) && decide (h ≤ 0x26) && a != 0x43 && !(algDsa a && mode == 0)), 0x10E1),
   (decide (pad ≤ 1) && (pad == 0 || algRsa a), 0x10E1),
   (decide (salt ≤ 64) && (salt == 0 || (algRsa a && pad == 0)), 0x10E1), expertPke t salt,
   (decide (cl ≤ 24) && (cl == 0 || dsa), 0x10E1)] ++
  (if sign then [(byteAt b 0x25 == 0 || (byteAt b 0x25 == 1 && (algEcdsa a || dsa)), 0x10E1), expertPke t (byteAt b 0x25)]
   else [resv b 0x25 1]) ++
  [resv b 0x26 2, (allZero (slice b (0x28 + cl) (24 - cl)), 0x10E2)] ++
  (if sign then [rsaMin t a] else []) ++
  [(!(mode == 1 && a == 0x43), 0x10E5), (!(mode == 1 && dsa) || pkeBit t 7, 0x10E5)] ++
  (if sign then [(pad == 0 || pkeBit t 8, 0x10E5), (byteAt b 0x25 == 0 || pkeBit t 9, 0x10E5)] else [])

/-- SIGN. -/
def chkSign (p : Bytes) (t : DSet) (b : Bytes) : List (Bool × Nat) :=
  pkeAlg t b ++ handleChecks p (dKeyA b) ++ signArea t b true ++
  [if byteAt b 0x20 = 0 then inRange (dInLen b) 0 8192 0x10E3 else inLenIs b (hashLen (hashAlgOf b)), outLenAt b (sigLen (dAlg b))]

/-- Bytes of the public key in the input of VERIFY. -/
def inlinePub (b : Bytes) : Nat := if dKeyA b = 0 then pubLen (dAlg b) else 0

/-- VERIFY. -/
def chkVerify (p : Bytes) (t : DSet) (b : Bytes) : List (Bool × Nat) :=
  let n := inlinePub b + sigLen (dAlg b)
  pkeAlg t b ++ keyOrInline p t (dKeyA b) ++ signArea t b false ++
  [if byteAt b 0x20 = 0 then inRange (dInLen b) n (n + 8192) 0x10E3 else inLenIs b (n + hashLen (hashAlgOf b)), outLenAt b 0]

/-- KEYPAIR. -/
def chkKeypair (p : Bytes) (t : DSet) (b : Bytes) : List (Bool × Nat) :=
  let f := byteAt b 0x20
  let e := leAt b 0x28 4
  pkeAlg t b ++ [noKey b, (decide (f ≤ 1), 0x10E2), resv b 0x21 3] ++ keyBWhen p (f % 2 == 1) (leAt b 0x24 4) ++
  [(e == 0 || (algRsa (dAlg b) && e % 2 == 1 && decide (65537 ≤ e)), 0x10E1), expertPke t e, resv b 0x2C 20,
   rsaMin t (dAlg b), (f % 2 == 0 || pkeBit t 6, 0x10E5), inLenIs b 0,
   outLenAt b (pubLen (dAlg b) + if f % 2 = 1 then exportLen (0x100 + dAlg b) else 0)]

/-- Key type and length that OUT_TYPE gives, and usage and mode that OUT_USAGE gives (R195). -/
def agreeType (t : Nat) : Nat × Nat := if t = 1 then (0x11, 16) else if t = 2 then (0x12, 24) else if t = 3 then (0x13, 32) else if t = 4 then (0x21, 32) else (0x21, 64)
def agreeUsage (u : Nat) : Nat × Nat := if u = 1 then (uD0, mB) else if u = 2 then (uM6, mC) else if u = 3 then (uM7, mC) else if u = 4 then (uK0, mB) else (uK1, mB)

/-- The verb area of AGREE and ENCAPSULATE. -/
def agreeArea (p b : Bytes) : List (Bool × Nat) :=
  let n := byteAt b 0x27
  handleChecks p (leAt b 0x20 4) ++
  [inRange (byteAt b 0x24) 1 4 0x10E1, inRange (byteAt b 0x25) 1 5 0x10E1, inRange (byteAt b 0x26) 1 5 0x10E1, inRange n 0 24 0x10E1,
   (allZero (slice b (0x28 + n) (24 - n)), 0x10E2), ((byteAt b 0x26 == 3) == decide (4 ≤ byteAt b 0x25), 0x10E5)]

/-- AGREE. -/
def chkAgree (p : Bytes) (t : DSet) (b : Bytes) : List (Bool × Nat) :=
  pkeAlg t b ++ handleChecks p (dKeyA b) ++ agreeArea p b ++
  [inLenIs b (if algKem (dAlg b) then sigLen (dAlg b) else pubLen (dAlg b)), outLenAt b (exportLen (agreeType (byteAt b 0x25)).1)]

/-- ENCAPSULATE. -/
def chkEncapsulate (p : Bytes) (t : DSet) (b : Bytes) : List (Bool × Nat) :=
  pkeAlg t b ++ keyOrInline p t (dKeyA b) ++ agreeArea p b ++
  [inLenIs b (inlinePub b), outLenAt b (sigLen (dAlg b) + exportLen (agreeType (byteAt b 0x25)).1)]

/-! ### Registers of the engine -/

/-- The PKE of vat `v`. -/
def State.pke (s : State) (v : Nat) : PkeUnit := s.pk.getD v PkeUnit.idle
def State.setPke (s : State) (v : Nat) (u : PkeUnit) : State := { s with pk := s.pk.set v u }

/-- The first byte of the operand memory of vat `v` (R212). -/
def pkeMem (v : Nat) : Nat := 0x1000200000 + 0x1000000 * v

def State.pkeBusy (s : State) (v : Nat) : Bool := s.regBit (R.PKE_STATUS v) 0

/-- A PKE event becomes pending and raises its local event when enabled (R229). -/
def State.pkeEvent (s : State) (v i : Nat) : State :=
  let s := s.setRegBit (R.PKE_EVT_STATUS v) i true
  if s.regBit (R.PKE_EVT_EN v) i then s.raiseLocal v (16 + i) else s

/-- The engine starts a job: BUSY, and the done edge. -/
def State.pkeBegin (s : State) (v verb alg edge : Nat) : State :=
  let s := s.setReg (R.PKE_STATUS v) (w32 (s.regField (R.PKE_STATUS v) 7 5 * 32 + 16 * b2n (s.regBit (R.PKE_STATUS v) 4) + 1))
  s.setRegs [(R.PKE_JOB v, alg * 65536 + verb), (R.PKE_DONE_EDGE v, edge % 2 ^ 32)]

/-- The job `x` leaves its result in the engine until the done edge (R167, R168). -/
def State.pkeHold (s : State) (x : Work) (vd : Nat × Nat) (result output : Bytes) (rounds : Nat) : State :=
  let due := x.j.due.getD 0
  let s := if s.pkeBusy x.v then s else s.pkeBegin x.v (dVerb x.j.desc) (dAlg x.j.desc) (due - 1)
  s.setPke x.v { PkeUnit.idle with job := some x.j.id, done := true, vd := vd, result := result, output := output, rounds := rounds }

/-- The PKE job that vat firmware may start now: no result yet, and before its done edge. -/
def State.pkeWork (s : State) (job verb : Nat) : Option Work :=
  match s.work job verb with
  | some x => if s.beat + 1 < x.j.due.getD 0 ∧ (s.pke x.v).job ≠ some job then some x else none
  | none => none

/-- What a job draws: its blinding and masks, then `n` bytes of its own (R211). -/
def State.pkeDraw (s : State) (x : Work) (n : Nat) : Bytes × Bool × State :=
  let k := Config.pkeBlind (dVerb x.j.desc) (dAlg x.j.desc)
  let r := s.jobDraw x.v (k + n)
  (r.1.drop k, r.2)

/-! ### SIGN and VERIFY -/

/-- The message that ML-DSA signs: pure, or the digest with its identifier (FIPS 204). -/
def dsaMessage (b m : Bytes) : Bytes :=
  let n := byteAt b 0x24
  let ctx := slice b 0x28 n
  if byteAt b 0x20 = 0 then [0, by8 n] ++ ctx ++ m else [1, by8 n] ++ ctx ++ oidBytes (hashAlgOf b) ++ m

/-- The digest of the message, or the digest given. -/
def signDigest (b m : Bytes) : Bytes := if byteAt b 0x20 = 0 then hashOf (hashAlgOf b) m else m

/-- Length of the PSS salt (R177). -/
def saltLen (b : Bytes) : Nat := if byteAt b 0x23 = 0 then hashLen (hashAlgOf b) else byteAt b 0x23

/-- Random bytes that a signature takes, beyond blinding (R180). -/
def signDraw (b : Bytes) : Nat :=
  let a := dAlg b
  if algRsa a then (if byteAt b 0x22 = 0 then saltLen b else 0)
  else if a = 0x43 ∨ byteAt b 0x25 = 1 then 0
  else if a = algHybrid then 64 else 32

/-- An ECDSA signature with the nonce of RFC 6979, hedged with `add`. -/
def ecdsaRfc (c : Curve) (hash : Nat) (key h add : Bytes) : Option Bytes :=
  let d := beNat key
  ecdsaSign c d (rfc6979 c hash d h add) h

/-- A signature: rejection rounds (0 when there are none), whether a nonce was degenerate, and the signature. -/
structure Signed where
  rounds : Nat
  degen  : Bool
  sig    : Option Bytes
  deriving DecidableEq, Repr

/-- SIGN's computation (R180). -/
def signWith (b key m rnd : Bytes) : Signed :=
  let a := dAlg b
  let det := byteAt b 0x25 == 1
  let h := signDigest b m
  if algEcdsa a then
    let r := ecdsaRfc (curveOf a) (hashAlgOf b) key h (if det then [] else rnd)
    ⟨0, r.isNone, r⟩
  else if a = 0x43 then ⟨0, false, some (ed25519Sign key m)⟩
  else if algRsa a then ⟨0, false, some (rsaSign a (hashAlgOf b) (byteAt b 0x22 == 1) key h rnd)⟩
  else if algDsa a then
    let r := mldsaSign a key (dsaMessage b m) (if det then zeros 32 else rnd)
    ⟨r.1, false, r.2⟩
  else
    let e := ecdsaRfc p256 (hashAlgOf b) (key.take 32) h (if det then [] else rnd.take 32)
    let r := mldsaSign 0x48 (key.drop 32) (dsaMessage b m) (if det then zeros 32 else rnd.drop 32)
    ⟨r.1, e.isNone, match e, r.2 with | some x, some y => some (x ++ y) | _, _ => none⟩

/-- SIGN (R177 to R181). -/
def execSign (job : Nat) (s : State) : Res :=
  .next <|
    match s.pkeWork job 0x0201 with
    | none => s
    | some x =>
      let b := x.j.desc
      let ra := s.keyFor x (dKeyA b)
      let r := s.pkeDraw x (signDraw b)
      let key := s.keyChecks x.j.deckle (dKeyA b) ra [uS0, uS1] [mS, mN] (ra.ktype == 0x100 + dAlg b)
      let g := signWith b ra.key x.j.input r.1
      let rounds :=
        if (algDsa (dAlg b) ∨ dAlg b = algHybrid) ∧ (firstFail key).isSome then 1 + Config.dummyRounds (dAlg b) r.1 % 49 else g.rounds
      let vd := verdict x.j [(r.2.1, 0x1801)] (key ++ [(!g.degen, 0x2013)])
      (r.2.2.useKeys x ra none).pkeHold x vd [] (g.sig.getD []) rounds

/-- A signature's components are in range and decode (R185, 0x2003). -/
def sigFormat (a : Nat) (pub sig : Bytes) : Bool :=
  let rs (c : Curve) (g : Bytes) : Bool :=
    let ok (n : Nat) : Bool := decide (0 < n) && decide (n < c.n)
    ok (beNat (slice g 0 c.len)) && ok (beNat (slice g c.len c.len))
  if algEcdsa a then rs (curveOf a) sig
  else if a = 0x43 then decide (leNat (sig.drop 32) < l25519) && (edDecode (sig.take 32)).isSome
  else if algRsa a then decide (beNat sig < beNat (pub.take (rsaLen a)))
  else if algDsa a then mldsaHintOk a sig
  else rs p256 (sig.take 64) && mldsaHintOk 0x48 (sig.drop 64)

/-- The checks of the signature itself. -/
def sigChecks (b pub sig m : Bytes) : List (Bool × Nat) :=
  let a := dAlg b
  let h := signDigest b m
  if algEcdsa a then [(ecdsaVerify (curveOf a) pub h sig, 0x2001)]
  else if a = 0x43 then [(ed25519Verify pub m sig, 0x2001)]
  else if algRsa a then [(rsaVerify a (hashAlgOf b) (byteAt b 0x22 == 1) (saltLen b) pub h sig, 0x2001)]
  else if algDsa a then [(mldsaVerify a pub (dsaMessage b m) sig, 0x2001)]
  else [(ecdsaVerify p256 (pub.take 65) h (sig.take 64), 0x2005), (mldsaVerify 0x48 (pub.drop 65) (dsaMessage b m) (sig.drop 64), 0x2006)]

/-- VERIFY (R182 to R186). -/
def execVerify (job : Nat) (s : State) : Res :=
  .next <|
    match s.pkeWork job 0x0202 with
    | none => s
    | some x =>
      let b := x.j.desc
      let ra := s.keyFor x (dKeyA b)
      let n := inlinePub b
      let k := sigLen (dAlg b)
      let named := dKeyA b != 0
      let pub := if named then ra.pub else x.j.input.take n
      let sig := slice x.j.input n k
      let m := x.j.input.drop (n + k)
      let checks :=
        (if named then s.keyChecks x.j.deckle (dKeyA b) ra [uS0, uS1] [mS, mV, mN] (ra.ktype == 0x100 + dAlg b || ra.ktype == 0x200 + dAlg b)
         else []) ++ [(pubValid (dAlg b) pub, 0x2002), (sigFormat (dAlg b) pub sig, 0x2003)] ++ sigChecks b pub sig m
      let r := s.pkeDraw x 0
      (r.2.2.useKeys x (if named then some ra else none) none).pkeHold x (verdict x.j [(r.2.1, 0x1801)] checks) [] [] 0

/-! ### KEYPAIR -/

/-- Random bytes that a private key takes (R192). -/
def pairDraw (a : Nat) : Nat :=
  if a = 0x41 ∨ a = 0x51 then 40 else if a = 0x42 ∨ a = 0x52 then 56 else if algHybrid = a then 72 else if algKem a then 64 else 32

/-- A scalar by FIPS 186-5 appendix A.2.1. -/
def pairScalar (c : Curve) (rnd : Bytes) : Bytes := beBytes c.len (beNat rnd % (c.n - 1) + 1)

/-- The private form drawn for an algorithm, none when RSA finds no prime in its budget. -/
def pairKey (a e : Nat) (rnd : Bytes) : Option Bytes :=
  if algEcdsa a ∨ algEcdh a then some (pairScalar (curveOf a) rnd)
  else if algRsa a then (Config.rsaPrimes a e rnd).map (rsaKey a e)
  else if a = algHybrid then some (pairScalar p256 (rnd.take 40) ++ rnd.drop 40)
  else some rnd

/-- KEYPAIR (R187 to R194). -/
def execKeypair (job : Nat) (s : State) : Res :=
  .next <|
    match s.pkeWork job 0x0203 with
    | none => s
    | some x =>
      let b := x.j.desc
      let a := dAlg b
      let out := byteAt b 0x20 % 2 == 1
      let kb := leAt b 0x24 4
      let rb := s.keyFor x kb
      let e := if leAt b 0x28 4 = 0 then 65537 else leAt b 0x28 4
      let r := s.pkeDraw x (pairDraw a)
      let k := pairKey a e r.1
      let key := k.getD []
      let pub := pubOf a key
      let q := if out then r.2.2.jobDraw x.v (padLen (0x100 + a) (privLen a)) else ([], true, r.2.2)
      let checks := (if out then s.keyChecks x.j.deckle kb rb [uK1] [mE, mB] (rb.ktype == 0x13) else []) ++
        [(x.j.newHandle != 0, 0x2012), (k.isSome, 0x2011)]
      let sign := decide (a < 0x51)
      let salt := q.2.2.drawSalt
      let rec_ := s.newRec x x.j.newHandle salt.1 (0x100 + a) (if sign then uS0 else uK3) (if sign then mS else mX) (if out then mE else mN)
        0x3030 key pub
      let vd := verdict x.j [(r.2.1 && q.2.1, 0x1801)] checks
      let t := if out then salt.2.useKeys x none rb else salt.2
      let t := if vd.1 = 0 then t.hold x rec_ false else t
      t.pkeHold x vd (leBytes 4 x.j.newHandle ++ zeros 12)
        (pub ++ if out then kbExport rb.key key (0x100 + a) rec_.usage rec_.mode mE 0x3030 q.1 else []) 0

/-! ### AGREE and ENCAPSULATE -/

/-- The KDF of AGREE and ENCAPSULATE (R197). -/
def agreeKdf (kdf n : Nat) (z info : Bytes) : Bytes :=
  let alg := if kdf % 2 = 1 then 0x21 else 0x22
  if kdf ≤ 2 then (((List.range (ceilDiv n (hashLen alg))).map fun i => hashOf alg (beBytes 4 (i + 1) ++ z ++ info)).flatten).take n
  else hkdf alg z info n

/-- The derived key as a key block under KEY_B. -/
def agreeBlock (b kbpk z pad : Bytes) : Bytes :=
  let t := agreeType (byteAt b 0x25)
  let u := agreeUsage (byteAt b 0x26)
  let key := agreeKdf (byteAt b 0x24) t.2 z (slice b 0x28 (byteAt b 0x27))
  kbExport kbpk key t.1 u.1 u.2 (Config.agreeExport % 256) (Config.agreeKvn % 65536) pad

/-- Padding that the derived key block draws. -/
def agreePad (b : Bytes) : Nat := let t := agreeType (byteAt b 0x25); padLen t.1 t.2

/-- The shared secret that AGREE reaches, none for a peer that R199 refuses. -/
def agreeSecret (a : Nat) (key peer : Bytes) : Option Bytes :=
  if algEcdh a then ecdh (curveOf a) (beNat key) peer
  else if a = 0x53 then
    let z := x25519 key peer
    if allZero z then none else some z
  else some (mlkemDecaps a key peer)

/-- AGREE (R195 to R200, R202). -/
def execAgree (job : Nat) (s : State) : Res :=
  .next <|
    match s.pkeWork job 0x0204 with
    | none => s
    | some x =>
      let b := x.j.desc
      let ra := s.keyFor x (dKeyA b)
      let rb := s.keyFor x (leAt b 0x20 4)
      let r := s.pkeDraw x (agreePad b)
      let z := agreeSecret (dAlg b) ra.key x.j.input
      let checks := s.keyChecks x.j.deckle (dKeyA b) ra [uK3] [mX] (ra.ktype == 0x100 + dAlg b) ++
        s.keyChecks x.j.deckle (leAt b 0x20 4) rb [uK1] [mE, mB] (rb.ktype == 0x13) ++ [(z.isSome, 0x2004)]
      (r.2.2.useKeys x ra rb).pkeHold x (verdict x.j [(r.2.1, 0x1801)] checks) [] (agreeBlock b rb.key (z.getD []) r.1) 0

/-- ENCAPSULATE (R195 to R197, R201, R202). -/
def execEncapsulate (job : Nat) (s : State) : Res :=
  .next <|
    match s.pkeWork job 0x0205 with
    | none => s
    | some x =>
      let b := x.j.desc
      let ra := s.keyFor x (dKeyA b)
      let rb := s.keyFor x (leAt b 0x20 4)
      let named := dKeyA b != 0
      let ek := if named then ra.pub else x.j.input
      let r := s.pkeDraw x (32 + agreePad b)
      let c := mlkemEncaps (dAlg b) ek (r.1.take 32)
      let checks :=
        (if named then s.keyChecks x.j.deckle (dKeyA b) ra [uK3] [mX] (ra.ktype == 0x100 + dAlg b || ra.ktype == 0x200 + dAlg b) else []) ++
        s.keyChecks x.j.deckle (leAt b 0x20 4) rb [uK1] [mE, mB] (rb.ktype == 0x13) ++ [(pubValid (dAlg b) ek, 0x2002)]
      (r.2.2.useKeys x (if named then some ra else none) rb).pkeHold x (verdict x.j [(r.2.1, 0x1801)] checks) []
        (c.2 ++ agreeBlock b rb.key c.1 (r.1.drop 32)) 0

/-! ### Work end, wipes and the done edge (R168 to R170, R217 to R220) -/

/-- The operand memory of vat `v` is written with zero. -/
def State.pkeWipeAll (s : State) (v : Nat) : State := (s.wipe (pkeMem v) 0x4000).setRegBit (R.PKE_STATUS v) 3 true

/-- A vat's PKE is stopped and wiped (R220). -/
def State.pkeStop (s : State) (v : Nat) : State :=
  ((s.pkeWipeAll v).setRegBit (R.PKE_STATUS v) 0 false).setPke v PkeUnit.idle

/-- PKE_WORK_END: the work of a job ends, with its own check passed or failed (R205, R206, R192), and its stream buffers, secret
workspace and pool are wiped and read back (R217, R219). -/
def execPkeWorkEnd (v : Vat) (readBack check : Bool) (s : State) : Res :=
  let u := s.pke v.val
  .next <|
    if u.done ∧ ¬ u.ended ∧ s.pkeBusy v.val then
      let s := (s.wipe (pkeMem v.val + 0x100) 0x1000).wipe (pkeMem v.val + 0x2500) 0x1B00
      let s := if readBack then s else s.setRegBit (R.PKE_STATUS v.val) 4 true
      let fault := if s.regField (R.PKE_JOB v.val) 15 0 = 0x0203 then 0x2F02 else 0x2F01
      s.setPke v.val { u with ended := true, bad := if check then (if readBack then none else some 0x2F03) else some fault }
    else s

/-- The outcome of a PKE job at its done edge: a fault, the overrun rule, or its verdict (R89, R90, R949). -/
def pkeOutcome (u : PkeUnit) (bad : Option Nat) : Nat × Nat × Bytes × Bytes :=
  match bad with
  | some r => (6, r, [], [])
  | none =>
    if u.vd.1 ≠ 0 then (u.vd.1, u.vd.2, [], [])
    else if u.rounds ≤ 24 then (0, 0, u.result, u.output)
    else (7, if u.rounds ≤ 48 then 0x2100 + u.rounds else 0x213F, [], if u.rounds ≤ 48 then u.output else [])

/-- The engine hands over at its done edge, wipes, and raises its event (R168, R169, R218); a fault parks the vat. -/
def State.pkeHandOver (s : State) (v : Nat) (readBack : Bool) : State :=
  let u := s.pke v
  let due := ((u.job.bind s.job?).bind (·.due)).getD (s.beat + 1)
  let bad :=
    match u.bad with
    | some r => some r
    | none => if ¬ (u.done && u.ended) then some 0x2F04 else if readBack then none else some 0x2F03
  let o := pkeOutcome u bad
  let blk := s.read (pkeMem v) 0x40
  let s := if leAt blk 4 4 ≠ 0 then s.write (0x1000000000 + 0x1000000 * v + leAt blk 0x10 4 % 0x40000) o.2.2.2 else s
  let s := s.wipe (pkeMem v) 0x4000
  let s := ((s.setRegBit (R.PKE_STATUS v) 0 false).setRegBit (R.PKE_STATUS v) 1 true).setRegBit (R.PKE_STATUS v) 3 readBack
  let s := if readBack then s else s.setRegBit (R.PKE_STATUS v) 4 true
  let s := if u.rounds = 0 then s else s.setReg (R.PKE_ROUNDS v) (w32 (min 49 u.rounds))
  let s := s.setPke v PkeUnit.idle
  let s := if bad.isNone then (s.bump (R.PKE_JOBS v)).pkeEvent v 0 else ((s.bump (R.PKE_FAULTS v)).pkeEvent v 2).parkMiss v due
  match u.job with
  | some i => s.updJob i fun j =>
      { j with ready := true, cls := o.1, reason := o.2.1, result := o.2.2.1, output := o.2.2.2, detail := leBytes 1 u.rounds }
  | none => s

/-- The overrun rule begins at edge b + t − 1 (R89, R91): the done edge and the release move on by the tariff. -/
def State.pkeOver (s : State) (v : Nat) (j : Job) (b : Nat) : State :=
  let t := j.due.getD 0 - b
  let s := (s.setRegBit (R.PKE_STATUS v) 2 true).setReg (R.PKE_DONE_EDGE v) (w32 (b + 2 * t - 1))
  (s.updJob j.id fun j => { j with due := some (b + 2 * t) }).pkeEvent v 1

/-- PKE_DONE_EDGE: the done edge of the job that a vat's PKE holds. -/
def execPkeDoneEdge (v : Vat) (readBack : Bool) (s : State) : Res :=
  let u := s.pke v.val
  .next <|
    if s.pkeBusy v.val ∧ (s.reg (R.PKE_DONE_EDGE v.val)).toNat = s.beat % 2 ^ 32 then
      match u.job.bind s.job? with
      | some j =>
        if u.done ∧ 24 < u.rounds ∧ u.bad = none ∧ ¬ s.regBit (R.PKE_STATUS v.val) 2 then s.pkeOver v.val j j.admitEdge
        else s.pkeHandOver v.val readBack
      | none => s.pkeHandOver v.val readBack
    else s

/-! ### PKE_CMD (R216, R228) -/

/-- A write of PKE_CMD: WIPE, then START, each ignored and recorded where its rule says so. -/
def State.pkeCmd (s : State) (who : Sender) (v : Nat) (w : Word) : State :=
  let no (s : State) : State := s.errAt errIgnored who .store (R.PKE_CMD v)
  let s := if bit w 1 then (if s.pkeBusy v then no s else s.pkeWipeAll v) else s
  if bit w 0 then
    let blk := s.read (pkeMem v) 0x100
    let verb := leAt blk 0 2
    let alg := byteAt blk 2
    let t := leAt blk 4 4
    let need := pkeTariff verb alg
    if s.pkeBusy v ∨ need = 0 ∨ t < need ∨ byteAt blk 3 ≠ 0 ∨ ¬ allZero (slice blk 0x40 192) then no s
    else s.pkeBegin v verb alg (s.beat + t - 1)
  else s

end Sys2Proof.Machine
end

