-- ==== Sys2Proof/Machine/Release.lean ====
section
/-! DEFINITION. Missed edges (R87, R88), the counters of key uses whose job never ran (R130, R271), and the release of what an edge
left over. -/

namespace Sys2Proof.Machine

/-! ### Counters of a use that was admitted -/

/-- The counter write of a use that passes its checks, for a job that its vat has not run: the record of KEY_A, its KSN if any, and
whether it is a device-IV SEAL. -/
def State.lateCounter (s : State) (x : Work) : State :=
  let b := x.j.desc
  let ra := s.keyFor x (dKeyA b)
  let rb := s.keyFor x (leAt b 0x20 4)
  let dukpt (ksn : Bytes) (checks : List (Bool × Nat)) : State :=
    if ksnPresent ksn ∧ (firstFail checks).isNone then s.ksnAccept x ra ksn else s
  match dVerb b with
  | 0x0101 => dukpt (slice b 0x32 12) (s.pinTranslateWork x).checks
  | 0x0104 => dukpt (slice b 0x24 12) (s.macVerifyChecks x ra)
  | 0x0106 => dukpt (slice b 0x24 12) (s.dukptChecks x ra rb)
  | 0x0109 => dukpt (slice b 0x28 12) (s.dtWork x).checks
  | 0x0301 => if byteAt b 0x25 ≠ 1 ∧ (firstFail (s.sealChecks x ra)).isNone then s.sealAccept x ra else s
  | _ => s

/-- The first and the second key that a job uses, zero for none. -/
def namedKeys (b : Bytes) : Nat × Nat :=
  (if dVerb b = 0x0401 then 0 else dKeyA b,
   match dVerb b with
   | 0x0101 | 0x0102 | 0x0106 | 0x0109 | 0x0204 | 0x0205 | 0x0401 | 0x0402 | 0x0403 | 0x0404 => leAt b 0x20 4
   | 0x0203 => leAt b 0x24 4
   | _ => 0)

/-- The keys of a job whose vat never ran it are noted for its record, which states the key use (R271, R369). -/
def State.lateKeys (s : State) (x : Work) : State :=
  let one (h : Nat) : Nat × Nat := if h = 0 then (0, 0) else (h, (s.keyFor x h).gen)
  let k := namedKeys x.j.desc
  if x.j.keyA = (0, 0) ∧ x.j.keyB = (0, 0) then s.updJob x.j.id fun j => { j with keyA := one k.1, keyB := one k.2 } else s

/-- A job's keys are noted and its counter is written with its record when its vat never ran it. -/
def State.lateUse (s : State) (j : Job) : State :=
  match j.ready, j.asWork with
  | false, some x => (s.lateKeys x).lateCounter x
  | _, _ => s

/-! ### Missed edges -/

/-- Why a job misses its edge: a late read set, a lost transfer, its vat, or the journal engine (R87, R250). -/
def missReason (j : Job) (vatCause : Bool) : Nat :=
  if j.surcharge ≠ 0 ∧ (j.readSet = 0 ∨ j.readSet = 1) then 0x0503
  else if j.feltLost then 0x0502
  else if vatCause ∨ ¬ j.ready then 0x0501
  else 0x0504

/-- A job misses its due edge (R87): counted, event 245, released FAULT; a late read set is counted with event 264; a cause in the
vat parks it; a record not yet committed is committed later as withheld (R88, R385). -/
def State.missEdge (s : State) (j : Job) (vatCause : Bool) : State :=
  let why := missReason j vatCause
  let s := (s.bump R.BEAT_MISS_COUNT).raise 245
  let s := if why = 0x0503 then ((s.bump R.RESV_LATE).bump (R.RESV_DLATE j.deckle)).raise 264 else s
  let s := if why = 0x0501 ∨ why = 0x0502 then s.parkMiss (j.vat.getD 0) s.beat else s
  let r : Rel := ⟨clsFault, why, [], []⟩
  let s := s.lateUse j
  let s :=
    if j.committed then s
    else s.queueRec { s.jobRec ((s.job? j.id).getD j) r 2 s.beat [] with job := none }
  s.release j r

/-- MISSED_EDGE: a job whose result or record is not ready by the commit deadline is released FAULT at its due edge. -/
def execMissedEdge (job : Nat) (vatCause : Bool) (s : State) : Res :=
  .next <|
    match s.job? job with
    | some j => if j.due = some s.beat ∧ j.onVat.isSome ∧ ¬ (j.ready ∧ j.committed) then s.missEdge j vatCause else s
    | none => s

/-- A job due at this edge is released, as it stands. -/
def State.releaseDue (s : State) (j : Job) : State :=
  if j.onVat.isNone then if j.ready then s.release j j.rel else s
  else if j.ready ∧ j.committed then s.release j j.rel
  else s.missEdge j (!j.ready)

/-- The jobs that an edge left unreleased are released before the next. -/
def State.releaseLate (s : State) : State :=
  (s.bt.jobs.filter fun j => decide (j.due = some s.beat)).foldl State.releaseDue s

end Sys2Proof.Machine
end

