-- ==== Sys2Proof/Machine/Admission.lean ====
section
/-! DEFINITION. Receipt of descriptors and frames: the checks of R240, tariffs and charges (R68, R76 to R80, R443), back-pressure
(R74, R258, R259) and the commands of arrivals. -/

namespace Sys2Proof.Machine

/-! ### Edges -/

/-- Edges are being produced. -/
def State.running (s : State) : Bool := s.regBit R.BEAT_STATUS 0

/-- BEAT_COUNT of the next edge: 0 while the generator has not produced its first (R52). -/
def State.nextEdge (s : State) : Nat := if s.running then s.beat + 1 else 0

/-- The first edge whose close has not passed (R67). -/
def State.openEdge (s : State) : Nat := s.nextEdge + (if s.bt.closed then 1 else 0)

/-! ### The verb table (R241) -/

/-- The verbs that a vat or the journal engine serves, short of user verbs and commands. -/
def stdVerb (c : Nat) : Bool :=
  (decide (0x0101 ≤ c) && decide (c ≤ 0x0109)) || (decide (0x0201 ≤ c) && decide (c ≤ 0x0205)) ||
  (decide (0x0301 ≤ c) && decide (c ≤ 0x0303)) || (decide (0x0401 ≤ c) && decide (c ≤ 0x0405)) ||
  (decide (0x0501 ≤ c) && decide (c ≤ 0x0502))

/-- User verbs. -/
def userCode (c : Nat) : Bool := decide (0x8100 ≤ c)

/-- Transaction verbs. -/
def txnVerb (c : Nat) : Bool := stdVerb c || userCode c

/-- Host-only verbs, settings commands and warden commands. -/
def cmdVerb (c : Nat) : Bool :=
  [0x0601, 0x0602, 0x0603, 0x8001, 0x8002, 0x8003, 0x8004, 0x8005, 0x8010, 0x8011, 0x8012, 0x8020, 0x8030, 0x8031, 0x8032, 0x8040,
    0x8041, 0x8042, 0x8050, 0x8051].contains c

/-- Commands that queue as jobs do: VAULT_SET and JOURNAL_READ (R394, R399). -/
def queuedCmd (c : Nat) : Bool := c == 0x8004 || c == 0x8005

/-- Public-key verbs. -/
def pkVerb (c : Nat) : Bool := decide (0x0201 ≤ c) && decide (c ≤ 0x0205)

/-- Bulk verbs. -/
def bulkVerb (c : Nat) : Bool := decide (0x0301 ≤ c) && decide (c ≤ 0x0303)

/-- While keys are withheld admission takes only the lifecycle service path (R733). -/
def State.withheld (s : State) : Bool := s.regBit R.LIFE_STATUS 3

/-- Deckle of a host function; 16 stands for the physical function's device chain. -/
def fnDeckle (f : Nat) : Nat := if f = 0 then 16 else f - 1

/-- Step 2 of R240: the verb is accepted from this kind of source. -/
def State.sourceOk (s : State) (src : Source) (d c : Nat) : Bool :=
  match src with
  | .net _ _ _ _ =>
    if userCode c then ((s.userVerb d c).map fun u => nbit u.flags 1).getD true else stdVerb c
  | .host f q =>
    if f.val = 0 then
      if s.withheld then [0x8020, 0x8030, 0x8031].contains c || (c == 0x8032 && s.life == 0)
      else
        [0x0602, 0x0603, 0x8003, 0x8005, 0x8010, 0x8011, 0x8012, 0x8020, 0x8030, 0x8031, 0x8032, 0x8050, 0x8051].contains c
    else if q.val = 0 then
      txnVerb c || [0x0601, 0x0602, 0x0603, 0x8001, 0x8002, 0x8003, 0x8004, 0x8005, 0x8010, 0x8011, 0x8012, 0x8040, 0x8041, 0x8042].contains c
    else if userCode c then ((s.userVerb d c).map fun u => nbit u.flags 2).getD true
    else stdVerb c || c == 0x0601

/-- Step 3: the deckle's mould enables the verb. -/
def State.verbOn (s : State) (src : Source) (d c : Nat) : Bool :=
  match src with
  | .host 0 _ => true
  | _ =>
    let t := s.dset d
    (s.part? d).isSome &&
      (if userCode c then (s.userVerb d c).isSome
       else if c = 0x8001 then symBit t 7
       else if c = 0x8002 then pkeBit t 11
       else if c = 0x8004 then symBit t 1
       else if 0x8010 ≤ c ∧ c ≤ 0x8012 then allocSelf (s.alloc d)
       else if 0x8040 ≤ c ∧ c ≤ 0x8042 then polReplay (s.part d) && nbit (polExpert (s.part d)) 2
       else true)

/-! ### Settings as they will stand (R161, R230, R280 to R283) -/

/-- A settings command's values in place of a deckle's. -/
def applySettings (t : DSet) (x : Settings) : DSet :=
  let g (i : Nat) : Bool := nbit x.groups i
  let word (o : Nat) : Word := w32 (leAt x.block o 4)
  if x.pke then
    { t with pkePolicy := if g 0 then (t.pkePolicy &&& 0x800) ||| word 0 else t.pkePolicy
             pkeAlgEn := if g 1 then word 4 else t.pkeAlgEn }
  else
    { t with symPolicy := if g 0 then (t.symPolicy &&& 0x82) ||| word 0 else t.symPolicy
             macLen := if g 1 then word 4 else t.macLen
             dectab := if g 2 then (List.range 16).map fun n => (word (8 + 8 * n), word (12 + 8 * n)) else t.dectab
             tokprof := if g 3 then (List.range 8).map fun n => word (0x88 + 4 * n) else t.tokprof }

/-- The settings of deckle `d` at edge `e`. -/
def State.dsetAt (s : State) (d e : Nat) : DSet :=
  (s.bt.settings.filter fun x => x.deckle == d && decide (x.edge ≤ e)).foldl applySettings (s.dset d)

/-- The digits of a decimalisation table. -/
def decDigits (t : Word × Word) : List Nat :=
  ((List.range 8).map fun i => field t.1 (4 * i + 3) (4 * i)) ++ (List.range 8).map fun i => field t.2 (4 * i + 3) (4 * i)

/-- R161 on a decimalisation table, on SYM_MAC_LEN and on a tokenization profile. -/
def dectabOk (t : Word × Word) : Bool := (decDigits t).all (· ≤ 9) && (List.range 10).all fun k => (decDigits t).contains k
def macLenOk (w : Word) : Bool :=
  decide (4 ≤ field w 7 0) && decide (field w 7 0 ≤ 16) && decide (4 ≤ field w 15 8) && decide (field w 15 8 ≤ 8) &&
    decide (8 ≤ field w 23 16) && decide (field w 23 16 ≤ 32)
def tokprofOk (w : Word) : Bool := decide (field w 3 0 ≤ 8) && decide (field w 7 4 ≤ 4) && decide (field w 9 8 ≤ 2)

/-- R230 on PKE_POLICY. -/
def pkePolicyOk (w : Word) : Bool := decide (field w 5 4 ≠ 3)

/-- The value checks of R282, over the selected groups. -/
def settingsValues (pke : Bool) (g : Nat) (m : Bytes) : List (Bool × Nat) :=
  let word (o : Nat) : Word := w32 (leAt m o 4)
  let on (i : Nat) (b : Bool) : Bool := !nbit g i || b
  if pke then
    [(on 0 (pkePolicyOk (word 0)), 0x10E1), (on 0 (word 0 &&& ~~~(0x7F0 : Word) == 0) && on 1 (word 4 &&& ~~~(0x3F03FF : Word) == 0), 0x10E2)]
  else
    let dec := (List.range 16).map fun n => (word (8 + 8 * n), word (12 + 8 * n))
    let tok := (List.range 8).map fun n => word (0x88 + 4 * n)
    [(on 1 (macLenOk (word 4)) && on 2 (dec.all dectabOk) && on 3 (tok.all tokprofOk), 0x10E1),
     (on 0 (word 0 &&& ~~~(0x7C : Word) == 0) && on 1 (word 4 &&& ~~~(0xFFFFFF : Word) == 0) &&
        on 3 (tok.all fun w => w &&& ~~~(0x800003FF : Word) == 0), 0x10E2)]

/-! ### Step 7 for commands (R950, R260, R266, R274, R279, R282, R395, R398, R450 to R456, R696, R720, R739, R741, R752, R854, R855) -/

def outZero (b : Bytes) : Bool × Nat := (dOutLen b == 0, 0x10E3)
def noLens (b : Bytes) : List (Bool × Nat) := [inLenIs b 0, outZero b]

/-- CANCEL. -/
def chkCancel (priv : Bool) (b : Bytes) : List (Bool × Nat) :=
  let t := byteAt b 0x20
  [noAlg b, noKey b, (t == 0xFF || (priv && decide (t ≤ 7)), 0x0207), resv b 0x21 3, resv b 0x2C 20] ++ noLens b

/-- ABORT. -/
def chkAbort (pf : Bool) (b : Bytes) : List (Bool × Nat) :=
  let sc := byteAt b 0x20
  [noAlg b, noKey b, (if pf then sc == 3 else decide (sc ≤ 2), 0x0207),
   (if sc ≤ 1 then decide (byteAt b 0x21 ≤ 7) else byteAt b 0x21 == 0, 0x0207),
   (if sc = 3 then decide (byteAt b 0x22 ≤ 15) else byteAt b 0x22 == 0, 0x0207), resv b 0x23 1,
   (sc == 0 || allZero (slice b 0x24 8), 0x10E1), resv b 0x2C 20] ++ noLens b

/-- DRAIN and RESUME. -/
def chkDrain (pf resume : Bool) (b : Bytes) : List (Bool × Nat) :=
  let sc := byteAt b 0x20
  [noAlg b, noKey b, (if pf then sc == 2 else decide (sc ≤ 1), 0x0207),
   (if sc = 0 then decide (1 ≤ byteAt b 0x21) && decide (byteAt b 0x21 ≤ 7) else byteAt b 0x21 == 0, 0x0207),
   (if sc = 2 then decide (byteAt b 0x22 ≤ 15) else byteAt b 0x22 == 0, 0x0207),
   (decide (byteAt b 0x23 ≤ if resume then 0 else 1), 0x10E1), (decide (leAt b 0x24 4 ≤ if resume then 0 else 0xFFFFFF), 0x10E1),
   resv b 0x28 24] ++ noLens b

/-- SEQ_SETTINGS and PKE_SETTINGS. -/
def chkSettings (pke : Bool) (b input : Bytes) : List (Bool × Nat) :=
  let g := byteAt b 0x20
  [noAlg b, noKey b, (g != 0, 0x10E1), (decide (g < if pke then 4 else 16), 0x10E2), resv b 0x21 31, inLenIs b (if pke then 8 else 168),
   outZero b] ++ settingsValues pke g input

/-- VAULT_SET. -/
def chkVaultSet (p : Bytes) (b : Bytes) : List (Bool × Nat) :=
  [noAlg b] ++ handleChecks p (dKeyA b) ++ [(byteAt b 0x20 == 1 || byteAt b 0x20 == 2, 0x4007), resv b 0x21 1, resv b 0x24 28,
   inRange (dInLen b) 6 32 0x10E3, outZero b]

/-- JOURNAL_READ, for chain `k`. -/
def State.chkJournalRead (s : State) (k : Nat) (b : Bytes) : List (Bool × Nat) :=
  let op := byteAt b 0x20
  let n := leAt b 0x30 2
  let first := leAt b 0x28 8
  let rln := s.reg64 R.JOURNAL_RLN_LO
  let count := if op = 0 then decide (1 ≤ n) && decide (n ≤ 16) else if op = 1 then decide (1 ≤ n) && decide (n ≤ 64) else op == 2 && n == 0
  [noAlg b, noKey b, (count && allZero (slice b 0x21 7) && allZero (slice b 0x32 14), 0x4003),
   (if op = 1 then decide (rln ≤ first + s.rootRing) else decide (s.lowUnreleased k ≤ first), 0x4006),
   (if op = 0 then decide (first + n ≤ s.nextJbn k) else if op = 1 then decide (first + n ≤ rln) else true, 0x4004),
   (op != 2 || (decide ((s.reg (R.JOURNAL_ARCH k)).toNat ≤ first) && decide (first ≤ s.lowNotDurable k)), 0x4005), inLenIs b 0,
   outLenAt b (if op = 0 then 4096 * n else if op = 1 then 1024 * n else 0)]

/-- MOULD_LOAD, and MOULD_COMMIT and MOULD_ABANDON, from the physical function (16) or deckle `d`. -/
def chkMould (load : Bool) (d : Nat) (b m : Bytes) : List (Bool × Nat) :=
  let k := byteAt b 0x20
  [noAlg b, noKey b, (if d = 16 then decide (k ≤ if load then 2 else 1) else k == 1, 0x5014),
   (if k = 0 then byteAt b 0x21 == 0 else decide (byteAt b 0x21 ≤ 15) && (d == 16 || byteAt b 0x21 == d), 0x5014)] ++
  (if load then
    [(byteAt m 6 == k && (k == 0 || byteAt m 0x21 == byteAt b 0x21), 0x5014), resv b 0x22 30, inRange (dInLen b) 64 1245152 0x10E3, outZero b]
   else if dVerb b = 0x8011 then [resv b 0x22 6, resv b 0x30 16] ++ noLens b
   else [resv b 0x22 30] ++ noLens b)

/-- SHUTDOWN. -/
def chkShutdown (b : Bytes) : List (Bool × Nat) := [noAlg b, noKey b, (decide (byteAt b 0x20 ≤ 1), 0x10E1), resv b 0x21 31] ++ noLens b

/-- LIFE_CHALLENGE, LIFE_CHANGE and IDENTITY. -/
def chkLifeChallenge (b : Bytes) : List (Bool × Nat) := [noAlg b, noKey b, resv b 0x20 32, inLenIs b 0, (dOutLen b == 64, 0x10E3)]
def chkLifeChange (life : Nat) (b : Bytes) : List (Bool × Nat) :=
  let op := byteAt b 0x20
  [noAlg b, noKey b, (decide (op ≤ 5), 0x10E1), resv b 0x21 31,
   inLenIs b (if op = 0 then 96 else if op = 1 ∨ (op = 4 ∧ life = 0) then 0 else 5552), outZero b]
def chkIdentity (b : Bytes) : List (Bool × Nat) :=
  let op := byteAt b 0x20
  [noAlg b, noKey b, (decide (op ≤ 1), 0x10E1), resv b 0x21 31] ++
  (if op = 0 then [inLenIs b 0, (dOutLen b == 113, 0x10E3)] else [inRange (dInLen b) 1 4096 0x10E3, outZero b])

/-- The replay commands; `vats` are those of the deckle. -/
def chkReplay (vats : List Nat) (b : Bytes) : List (Bool × Nat) :=
  if dVerb b = 0x8041 then
    [noAlg b, noKey b, (decide (byteAt b 0x20 ≤ 63) && vats.contains (byteAt b 0x21), 0x10E1), inRange (leAt b 0x22 2) 1 4096 0x10E1,
     inRange (leAt b 0x30 2) 1 1024 0x10E1, resv b 0x32 14, inRange (dInLen b) 0 bulkMax 0x10E3, outLenAt b (64 * leAt b 0x30 2)]
  else [noAlg b, noKey b, (vats.contains (byteAt b 0x20), 0x10E1), resv b 0x21 31] ++ noLens b

/-- QUORUM_OPEN and QUORUM_LIST. -/
def chkQuorumOpen (b : Bytes) : List (Bool × Nat) :=
  [noAlg b, noKey b, (leAt b 0x20 2 != 0, 0x10E1), (leAt b 0x22 2 == 0 || (decide (10 ≤ leAt b 0x22 2) && decide (leAt b 0x22 2 ≤ 3600)), 0x10E1),
   resv b 0x24 28] ++ noLens b
def chkQuorumList (b : Bytes) : List (Bool × Nat) := [noAlg b, noKey b, resv b 0x20 32, inLenIs b 1056, outZero b]

/-- A user verb: its key, ALG, and lengths (R444). -/
def chkUser (p : Bytes) (u : UserVerb) (b : Bytes) : List (Bool × Nat) :=
  [noAlg b] ++ (if nbit u.flags 0 then handleChecks p (dKeyA b) else [noKey b]) ++
  [inRange (dInLen b) 0 u.inMax 0x10E3, outLenAt b (u.outBase + u.outPerIn * dInLen b)]

/-- The checks of step 7 (R98): `d` the deckle, 16 for the physical function, `t` the settings. -/
def State.verbChecks (s : State) (src : Source) (d : Nat) (t : DSet) (b input : Bytes) : List (Bool × Nat) :=
  let p := s.part d
  let pf := d == 16
  let priv := match src with | .host _ q => q.val == 0 | _ => false
  match dVerb b with
  | 0x0101 => chkPinTranslate p t b
  | 0x0102 => chkPinVerify p t b
  | 0x0103 => chkMac false p t b
  | 0x0104 => chkMac true p t b
  | 0x0105 => chkCryptogram p t b
  | 0x0106 => chkDukpt p t b
  | 0x0107 => chkToken p t b
  | 0x0108 => chkToken p t b
  | 0x0109 => chkDataTranslate p t b
  | 0x0201 => chkSign p t b
  | 0x0202 => chkVerify p t b
  | 0x0203 => chkKeypair p t b
  | 0x0204 => chkAgree p t b
  | 0x0205 => chkEncapsulate p t b
  | 0x0301 => chkSeal false p t b
  | 0x0302 => chkSeal true p t b
  | 0x0303 => chkHash b
  | 0x0401 => chkKeyImport p t b
  | 0x0402 => chkKeyExport p t b
  | 0x0403 => chkKeyGenerate p t b
  | 0x0404 => chkKeyUpdate p t b
  | 0x0405 => chkKeyRetire p t b
  | 0x0501 => chkRandom b
  | 0x0502 => chkNoop b
  | 0x0601 => chkCancel priv b
  | 0x0602 => chkAbort pf b
  | 0x0603 => chkDrain pf false b
  | 0x8001 => chkSettings false b input
  | 0x8002 => chkSettings true b input
  | 0x8003 => chkDrain pf true b
  | 0x8004 => chkVaultSet p b
  | 0x8005 => s.chkJournalRead d b
  | 0x8010 => chkMould true d b input
  | 0x8011 => chkMould false d b input
  | 0x8012 => chkMould false d b input
  | 0x8020 => chkShutdown b
  | 0x8030 => chkLifeChallenge b
  | 0x8031 => chkLifeChange s.life b
  | 0x8032 => chkIdentity b
  | 0x8040 => chkReplay (s.vatsOf d) b
  | 0x8041 => chkReplay (s.vatsOf d) b
  | 0x8042 => chkReplay (s.vatsOf d) b
  | 0x8050 => chkQuorumOpen b
  | 0x8051 => chkQuorumList b
  | c => match s.userVerb d c with | some u => chkUser p u b | none => []

/-! ### Tariffs (R76 to R80, R443) -/

/-- Steps of a bulk job. -/
def bulkSteps (n : Nat) : Nat := max 1 (ceilDiv n 131072)

/-- The table value of a verb and ALG: per step for the bulk verbs. -/
def tableTariff (c alg : Nat) : Nat :=
  if pkVerb c then pkeTariff c alg
  else if c = 0x0404 ∨ c = 0x0405 then 4
  else if 0x0401 ≤ c ∧ c ≤ 0x0403 then 2
  else if stdVerb c then 1
  else 0

/-- The mould's raise of a verb and ALG, if it has one. -/
def raisedTariff (p : Bytes) (c alg : Nat) : Option Nat :=
  let at_ (a : Nat) : Option Nat := ((tariffs p).find? fun e => e.1 == c && e.2.1 == a).map (·.2.2)
  if pkVerb c then at_ alg
  else if c = 0x0103 ∨ c = 0x0104 ∨ c = 0x0303 then (match at_ alg with | some t => some t | none => at_ 0)
  else at_ 0

/-- The effective tariff of one beat or step, before surcharge. -/
def verbTariff (p : Bytes) (c alg : Nat) : Nat := (raisedTariff p c alg).getD (tableTariff c alg)

/-- The surcharge of a verb of a deckle (R79, R399). -/
def surchargeOf (p : Bytes) (c : Nat) : Nat :=
  if 0x0101 ≤ c ∧ c ≤ 0x0109 then (if rsvFlags p % 4 = 0 then 0 else rsvSurcharge p)
  else if c = 0x8004 then (if nbit (rsvFlags p) 1 then rsvSurcharge p else 0)
  else 0

/-- The tariff of a descriptor without its surcharge. -/
def State.tariffOf (s : State) (d : Nat) (b : Bytes) : Nat :=
  let p := s.part d
  let c := dVerb b
  if userCode c then ((s.userVerb d c).map (·.tariff)).getD 1
  else if c = 0x8004 then 2
  else if c = 0x8005 then 1 + s.regField R.JOURNAL_CTRL 15 0
  else
    let t := verbTariff p c (dAlg b)
    if bulkVerb c then t * bulkSteps (dInLen b)
    else if c = 0x0404 ∨ c = 0x0405 then t + (if hSync (dKeyA b) then 8 else 0)
    else t

/-! ### Journal reservations (R383) -/

/-- Section lines of a KTYPE, with `n` bytes of HMAC key. -/
def typeLines (kt n : Nat) : Nat :=
  let a := kt % 256
  if kt / 256 = 1 then (if algRsa a then secLines (privLen a) else 0) + secLines (pubLen a)
  else if kt / 256 = 2 then secLines (pubLen a)
  else if ktHmac kt then secLines (n - 64)
  else 0

/-- The most lines that the sections of any KTYPE take. -/
def maxLines : Nat :=
  ((List.range 10).map fun i => typeLines (0x141 + i) 0).foldl max (((List.range 6).map fun i => typeLines (0x151 + i) 0).foldl max (typeLines 0x21 136))

/-- Lines that a job's records can take. -/
def reserveLines (replay : Bool) (b : Bytes) : Nat :=
  let c := dVerb b
  let commit : Nat :=
    if c = 0x0203 then 4 + typeLines (0x100 + dAlg b) 0
    else if c = 0x0401 then 4 + (if byteAt b 0x24 = 1 then typeLines (0x200 + dAlg b) 0 else typeLines 0x21 136)
    else if c = 0x0403 then 4 + typeLines (leAt b 0x26 2) (byteAt b 0x28)
    else if c = 0x0404 ∧ byteAt b 0x24 ≠ 3 then 4 + typeLines (leAt b 0x26 2) 136
    else if c = 0x0404 ∨ c = 0x0405 then 4 + maxLines
    else 0
  let sync := if (c = 0x0404 ∨ c = 0x0405) ∧ hSync (dKeyA b) then commit else 0
  (if replay then 3 else 2) + commit + sync + (if c = 0x0107 ∨ c = 0x8004 then 2 else 0)

/-! ### Receipt -/

/-- A descriptor as a job. -/
def State.newJob (s : State) (src : Source) (d : Nat) (b input : Bytes) (fr : Option FrameRef) : Job where
  id := s.bt.nextJob
  src := src
  deckle := d
  desc := padTo 64 b
  input := input
  frame := fr
  recvAt := s.now
  recvBeat := s.nextEdge
  eligible := s.openEdge
  stage := .command
  tariff := 0
  surcharge := 0
  due := none
  set := s.dsetAt d s.openEdge
  ready := false
  cls := 0
  reason := 0
  result := []
  output := []
  keyA := (0, 0)
  keyB := (0, 0)
  counter := 0
  newHandle := 0
  detail := []
  committed := false
  marked := false
  vat := none
  admitEdge := 0
  readSet := 0
  reads := []
  feltLost := false
  lines := 0

/-- A job is answered without placement at edge `e` (R74, R75, R371). -/
def State.answerAt (s : State) (j : Job) (cls reason e : Nat) : State :=
  (s.updJob j.id fun j =>
    { j with stage := .answered, ready := true, cls := cls, reason := reason, result := [], output := [], due := some e, lines := 0 }).rejectAt
      j.src j.deckle cls reason (dTag j.desc) e

/-- A job is waiting in its deckle's queues. -/
def Job.isWaiting (j : Job) : Bool := match j.stage with | .waiting => true | _ => false

/-- Jobs of deckle `d` waiting in both queues (R285). -/
def State.waitingOf (s : State) (d : Nat) : List Job := s.bt.jobs.filter fun j => j.isWaiting && j.deckle == d

/-- A DRAIN that closes deckle `d`, or its queue `q`, to what arrives (R259, R275). -/
def State.drained (s : State) (d : Nat) (q : Option Nat) : Bool :=
  s.bt.drains.any fun x => x.deckle == d && (x.queue == none || (x.queue == q && q.isSome))

/-- Step 8's first case: the scope is closed by a DRAIN, or the privileged queue by the receipt of a commit (R259, R458). -/
def State.scopeClosed (s : State) (src : Source) (d c : Nat) : Bool :=
  match src with
  | .net _ _ _ _ => s.drained d none
  | .host _ q => if q.val = 0 then txnVerb c && s.md.closed.contains d else s.drained d (some q.val)

/-- The frame, or data window, that a descriptor's ranges must lie in. -/
structure Area where
  size  : Nat
  frame : Bool
  /-- The response budget still holds (R256). -/
  budget : Bool
  deriving DecidableEq, Repr

/-- Steps 1 to 7 of R240, and R98. -/
def State.admitChecks (s : State) (src : Source) (d : Nat) (b input : Bytes) (a : Area) : List (Bool × Nat) :=
  let c := dVerb b
  [(txnVerb c || cmdVerb c, 0x0201), (s.sourceOk src d c, 0x0202), (s.verbOn src d c, 0x0203),
   (byteAt b 3 == 0 && allZero (slice b 0x1C 4), 0x0204),
   (decide (dInOff b + dInLen b ≤ a.size) && (if a.frame then dOutOff b == 0 else decide (dOutOff b + dOutLen b ≤ a.size)), 0x0205),
   (!a.frame || a.budget, 0x0206)] ++ s.verbChecks src d (s.dsetAt d s.openEdge) b input

/-- Admission receives a descriptor and checks it in the order of R240: MALFORMED or BUSY at the first edge after, or queued, or a
command to be carried out. -/
def State.receive (s : State) (src : Source) (d : Nat) (b input : Bytes) (fr : Option FrameRef) (a : Area) : State :=
  let b := padTo 64 b
  let j := s.newJob src d b (input.take (dInLen b)) fr
  let c := dVerb b
  let depth := (s.waitingOf d).length
  let s := s.mapBt fun t => { t with jobs := t.jobs ++ [j], nextJob := t.nextJob + 1 }
  match firstFail (s.admitChecks src d b j.input a) with
  | some r => s.answerAt j clsMalformed r s.nextEdge
  | none =>
    if ¬ (txnVerb c ∨ queuedCmd c) then s
    else if s.scopeClosed src d c then s.answerAt j clsBusy 0x0105 s.nextEdge
    else if 8192 ≤ depth then s.answerAt j clsBusy 0x0101 s.nextEdge
    else if s.bt.closed ∧ s.bt.gate then s.answerAt j clsBusy 0x0103 s.nextEdge
    else
      let s := s.updJob j.id fun j => { j with stage := .waiting, tariff := s.tariffOf d b, surcharge := surchargeOf (s.part d) c }
      if depth + 1 = 8192 then s.raise 248 else s

/-! ### Frames (R252 to R256) -/

/-- The header checks of R254. -/
def frameOk (m : Bytes) : Bool :=
  leAt m 0 2 == 0xA64E && byteAt m 2 == 1 && byteAt m 3 == 1 && decide (1 ≤ byteAt m 4) && decide (byteAt m 4 ≤ 32) && byteAt m 5 == 0 &&
    allZero (slice m 0x10 16) && m.length == 32 + 64 * byteAt m 4 + leAt m 6 2 && decide (m.length ≤ 8960)

/-- The descriptors of a frame, received in frame order with the running response budget. -/
def State.receiveAll (s : State) (src : Source) (d : Nat) (fr : FrameRef) (area : Bytes) : List Bytes → Nat → State
  | [], _ => s
  | b :: bs, used =>
    let used := used + 8 * ceilDiv (dOutLen b) 8
    (s.receive src d b (slice area (dInOff b) (min (dInLen b) area.length)) (some fr) ⟨area.length, true, decide (used ≤ 8960)⟩).receiveAll
      src d fr area bs used

/-- The bits of an address under a prefix, highest first. -/
def prefixBits (bits n a : Nat) : Nat := a / 2 ^ (bits - n)

/-- A route of R442 matches a datagram. -/
def routeMatch (r : Bytes) (port : Nat) (m : NetMeta) : Bool :=
  let v6 := byteAt r 1 == 6
  let bits := if v6 then 128 else 32
  byteAt r 0 == port && v6 == m.v6 && leAt r 2 2 == m.dudp &&
    prefixBits bits (byteAt r 4) (beNat (slice r 8 (bits / 8))) == prefixBits bits (byteAt r 4) m.dip

/-- The deckle to which a port's routes bring a datagram (R775). -/
def State.routeOf (s : State) (port : Nat) (m : NetMeta) : Option Nat :=
  match s.deckleOfPort port with
  | some d => if (routes (s.part d)).any fun r => routeMatch r port m then some d else none
  | none => none

/-- The felt stop of a network port (R21). -/
def portStop (p : Nat) : Nat := if p < 32 then 79 else 80

/-- A datagram reaches route lookup, and on a route, admission (R253 to R255, R775). -/
def State.frameIn (s : State) (port : Fin 64) (m : NetMeta) (payload : Bytes) : State :=
  match s.routeOf port.val m with
  | none => s.bump (R.NETW_RX_NOROUTE port.val)
  | some d =>
    if ¬ frameOk payload then (s.bump (R.NETW_RX_FRAMEHDR port.val)).raise 251 (portStop port.val)
    else
      let n := byteAt payload 4
      let fr : FrameRef := ⟨leAt payload 0x0C 4, m, s.bt.nextReq⟩
      let s := (s.mapBt fun b => { b with nextReq := b.nextReq + 1 }).bump64 (R.NETW_RX_OK_LO port.val) 1
      s.receiveAll (.net port m.sip m.sudp (leAt payload 8 4)) d fr (payload.drop (32 + 64 * n))
        ((List.range n).map fun i => slice payload (32 + 64 * i) 64) (32 + 32 * n)

/-! ### The commands -/

/-- Bytes of a function's data window (R781, R819). -/
def State.winSize (s : State) (f : Nat) : Nat := 4096 * s.regField (R.HOSTIF_WIN_SIZE f) 20 0

/-- Completion-ring entries of a queue that are free and that no earlier fetched descriptor holds (R234, notes/assumptions/10.md). -/
def State.freeEntries (s : State) (f q : Nat) : Nat :=
  let n := s.ringSize f q
  let used := s.ringUsed f q n (s.reg (R.HOSTIF_CQ_TAIL f q)).toNat (s.reg (R.HOSTIF_CQ_HEAD f q)).toNat
  let held := (s.bt.inflight.filter (· == (f, q))).length +
    (s.bt.jobs.filter fun j => match j.src with | .host g r => g.val == f && r.val == q | _ => false).length
  n - used - held

/-- Fetching from a queue is possible: enabled, the function reachable, and no DRAIN of the queue or of its deckle (R259, R275, R787). -/
def State.fetches (s : State) (f q : Nat) : Bool :=
  s.queueOn f q && s.hostReach f && (q == 0 || f == 0 || !s.drained (f - 1) (some q))

/-- The device fetches descriptors from SQ_HEAD up to SQ_TAIL in ring order (R234, R782); `k` bounds how many. -/
def State.hostFetch (s : State) (f q : Nat) : Nat → State
  | 0 => s
  | k + 1 =>
    let h := (s.reg (R.HOSTIF_SQ_HEAD f q)).toNat
    if s.fetches f q ∧ h ≠ (s.reg (R.HOSTIF_SQ_TAIL f q)).toNat ∧ 0 < s.freeEntries f q then
      let s := (s.emit (.hostFetch f q h) []).setReg (R.HOSTIF_SQ_HEAD f q) (w32 ((h + 1) % s.ringSize f q))
      (s.mapBt fun b => { b with inflight := b.inflight ++ [(f, q)] }).hostFetch f q k
    else s

/-- Fetching from every queue of function `f` goes on. -/
def State.fetchAll (s : State) (f : Nat) : State := (List.range 8).foldl (fun s q => s.hostFetch f q 4096) s

/-- Input bytes of a deckle that its staging area holds. -/
def State.staged (s : State) (d : Nat) : Nat :=
  ((s.bt.jobs.filter fun j => j.deckle == d && j.frame.isNone).map fun j => j.input.length).sum

/-- DESCRIPTOR_RECEIVED: admission receives a descriptor of a host queue or a network requester, its input with it (R240). -/
def execDescriptorReceived (src : Source) (d : Deckle) (desc input : Bytes) (s : State) : Res :=
  .next <|
    match src with
    | .host f _ => s.receive src (fnDeckle f.val) desc input none ⟨s.winSize f.val, false, true⟩
    | .net _ _ _ _ => s.receive src d.val desc input none ⟨dInOff desc + input.length, true, true⟩

/-- FRAME_RECEIVED: a transaction frame reaches admission, which receives its descriptors in frame order (R255). -/
def execFrameReceived (port : Fin 64) (m : NetMeta) (payload : Bytes) (s : State) : Res := .next (s.frameIn port m payload)

/-- HOST_DESCRIPTOR_RECEIVED: a descriptor that the device fetched and its input are in staging, and it counts as received (R235); without
room in the deckle's staging area, whose size the spec does not give, it waits with event 254 (R236). -/
def execHostDescriptorReceived (f : Fin 17) (q : Fin 8) (desc input : Bytes) (s : State) : Res :=
  .next <|
    if s.bt.inflight.contains (f.val, q.val) then
      if f.val ≠ 0 ∧ Config.stagingBytes (fnDeckle f.val) < s.staged (fnDeckle f.val) + input.length ∧ s.staged (fnDeckle f.val) ≠ 0 then s.raise 254
      else
      (s.mapBt fun b => { b with inflight := b.inflight.erase (f.val, q.val) }).receive (.host f q) (fnDeckle f.val) desc input none
        ⟨s.winSize f.val, false, true⟩
    else s

/-- A descriptor that is waiting has reached its deckle's wait limit at the edge `e` (R74). -/
def State.waitOver (s : State) (j : Job) (e : Nat) : Bool :=
  j.isWaiting && decide (j.deckle < 16) && decide (j.eligible + s.bt.waits.getD j.deckle 100 ≤ e + 1)

/-- It is released BUSY at that edge. -/
def State.waitExpire (s : State) (j : Job) (e : Nat) : State :=
  s.answerAt j clsBusy (if (s.vatsOf j.deckle).any s.inAdmission then 0x0102 else 0x0104) e

/-- WAIT_LIMIT_EXPIRY: a descriptor that the close for its last edge has not placed is released BUSY at that edge. -/
def execWaitLimitExpiry (job : Nat) (s : State) : Res :=
  .next <|
    match s.job? job with
    | some j => if s.bt.closed ∧ s.waitOver j s.nextEdge then s.waitExpire j s.nextEdge else s
    | none => s

end Sys2Proof.Machine
end

