-- ==== Sys2Proof/Machine/Events.lean ====
section
/-! DEFINITION. What is written to and read from the event controller, the local event controllers and error capture beyond plain fields
(R870 to R876, R882 to R889, R896 to R900). -/

namespace Sys2Proof.Machine

/-! ### The event controller -/

/-- Event `n` is pending and presented to pair `p`, 0 primary and 1 service (R870). -/
def State.evtFor (s : State) (p n : Nat) : Bool := s.regBit (R.EVT_PEND (n / 32)) (n % 32) && s.regBit (R.EVT_ROUTE n) (8 + p)

/-- The best of what is asked for: the highest level, and at it the lowest number. -/
def bestOf (l : List (Nat × Nat)) : Option (Nat × Nat) :=
  l.foldl (fun b x => match b with | some y => if y.1 < x.1 then some x else some y | none => some x) none

/-- The words of EVT_PEND that are not zero give the pending events, in ascending order. -/
def State.pendingEvents (s : State) : List Nat :=
  ((List.range 20).map fun k =>
    if s.reg (R.EVT_PEND k) = 0 then [] else ((List.range 32).filter fun i => s.regBit (R.EVT_PEND k) i).map fun i => 32 * k + i).flatten

/-- Level and number of the event with which pair `p` is asked for an interrupt (R871). -/
def State.evtTop (s : State) (p : Nat) : Option (Nat × Nat) :=
  bestOf ((s.pendingEvents.filter fun n => s.evtFor p n).map fun n => (s.regField (R.EVT_ROUTE n) 4 0, n))

/-- Level and number of the local event presented to the core of vat `v` (R874). -/
def State.vevTop (s : State) (v : Nat) : Option (Nat × Nat) :=
  bestOf (((List.range 64).filter fun e =>
    s.regBit (if e < 32 then R.VEV_PEND_LO v else R.VEV_PEND_HI v) (e % 32) && s.regBit (R.VEV_CFG v e) 8).map fun e =>
      (s.regField (R.VEV_CFG v e) 4 0, e))

/-- EVT_TOP_P, EVT_TOP_S and VEV_TOP. -/
def topWord (t : Option (Nat × Nat)) : Word := match t with | some x => w32 (2 ^ 31 + x.1 * 65536 + x.2) | none => 0

/-- The interrupt that is asked of core `c`: its level. -/
def State.irqOf (s : State) (c : Nat) : Option Nat := (if c < 64 then s.vevTop c else s.evtTop (c - 64)).map (·.1)

/-- EVT_DOORBELL. -/
def State.doorbell (s : State) (who : Sender) (v : Word) : State := s.raise (576 + field v 5 0) (stopOf who) v.toNat

/-- A write of EVT_PEND[k]: the bits written as 1 are cleared, with their weir counts (R875). -/
def State.pendClear (s : State) (k : Nat) (v : Word) : State :=
  let s := (List.range 32).foldl (fun s i => if bit v i then s.setReg (R.EVT_WEIR (32 * k + i)) 0 else s) s
  s.setReg (R.EVT_PEND k) (s.reg (R.EVT_PEND k) &&& ~~~v)

/-- EVT_TRACE_PUT (R888, R889); nothing while the trace is disabled. -/
def State.tracePut (s : State) (who : Sender) (v : Word) : State :=
  let r := s.traceEntry 0xFFFF (stopOf who) v.toNat
  if r.2 then r.1.raise 487 else r.1

/-- The trace ring that a base and a size give is allowed: disabled, or a power of two from 4 KiB to 4 MiB at a multiple of itself,
outside the tarn (R888, R896). -/
def traceOk (base size : Nat) : Bool :=
  size == 0 || ((List.range 23).any (fun k => decide (12 ≤ k) && size == 2 ^ k) && base % size == 0 && decide (base + size ≤ 0x7F0000))

/-- Bits of EVT_JNL[k] that read 1 and ignore writes (R877, R901). -/
def jnlFixed (k : Nat) : Word := match k with | 7 => 0x700 | 9 => 0x4FFFFF3F | 12 => 0x1C41 | 15 => 0x300 | _ => 0

/-- VEV_RING of vat `v`. -/
def State.vevRing (s : State) (v : Nat) (w : Word) : State := s.raiseLocal v (32 + field w 4 0)

/-! ### Error capture -/

/-- ERRC_CLEAR of source `k`: count and first entry go (R886). -/
def State.errcClear (s : State) (k : Nat) (v : Word) : State :=
  if bit v 0 then (List.range 4).foldl (fun s w => s.setReg (R.ERRC_FIRST k w) 0) (s.setReg (R.ERRC_COUNT k) 0) else s

/-- ERRC_Q_POP. -/
def State.errcPop (s : State) (v : Word) : State := if bit v 0 then { s with ev := { s.ev with errQ := s.ev.errQ.drop 1 } } else s

/-- Word `w` of the head entry of the error queue. -/
def State.errcHead (s : State) (w : Nat) : Word := match s.ev.errQ with | e :: _ => w32 (e.2.words.getD w 0) | [] => 0

/-- ERRC_ACTIVE[k]. -/
def State.errcActive (s : State) (k : Nat) : Word :=
  w32 ((List.range 32).map fun i => if s.reg (R.ERRC_COUNT (32 * k + i)) = 0 then 0 else 2 ^ i).sum

/-- Milliseconds left to a watchdog that started at `t`; 0 while it stands still. -/
def State.wdogLeft (s : State) (t : Option Nat) : Word :=
  match t with
  | some t => w32 ((t + s.regField R.EVT_WDOG_CTRL 9 0 * 100000000 - s.now) / 1000000)
  | none => 0

end Sys2Proof.Machine
end

