-- ==== Sys2Proof/Machine/Watermark.lean ====
section
/-! DEFINITION. The watermark, the identity keys and certificates (R713 to R723, R727, R763). -/

namespace Sys2Proof.Machine

/-! ### DER -/

/-- A DER element of a tag. -/
def der (tag : Nat) (b : Bytes) : Bytes :=
  let n := b.length
  [by8 tag] ++ (if n < 128 then [by8 n] else if n < 256 then [0x81, by8 n] else 0x82 :: beBytes 2 n) ++ b

/-- A DER integer from big-endian bytes. -/
def derInt (b : Bytes) : Bytes :=
  let c := b.dropWhile (· == 0)
  der 2 (if 128 ≤ (c.headD 0).toNat ∨ c = [] then 0 :: c else c)

/-- One DER element at the head of a string: its tag, contents, whole encoding and what follows. -/
def derHead (b : Bytes) : Option (Nat × Bytes × Bytes × Bytes) :=
  let l := byteAt b 1
  let k := if l < 128 then 0 else l - 128
  let n := if l < 128 then l else beNat (slice b 2 k)
  if b.length < 2 ∨ 3 < k ∨ l = 128 ∨ b.length < 2 + k + n then none
  else some (byteAt b 0, slice b (2 + k) n, b.take (2 + k + n), b.drop (2 + k + n))

/-- The elements of a string, as tag, contents and encoding; none when it does not decode. -/
def derAll : Nat → Bytes → Option (List (Nat × Bytes × Bytes))
  | 0, b => if b = [] then some [] else none
  | f + 1, b =>
    if b = [] then some []
    else match derHead b with
      | some (t, c, w, r) => (derAll f r).map fun l => (t, c, w) :: l
      | none => none

/-! ### Identity keys (R714 to R716) -/

/-- The unique device secret. -/
def uds : Bytes := kdf108 ((List.range 32).map Config.fuseKey) (ascii "NV64 UDS") [] 384

/-- A P-384 private key from a secret, as FIPS 186-5 A.2.1 reduces 56 bytes. -/
def keyFrom (secret : Bytes) (info : String) : Nat := beNat (hkdf 0x22 secret (ascii info) 56) % (p384.n - 1) + 1

/-- The DeviceID key and its public half. -/
def deviceKey : Nat := keyFrom uds "NV64 DEVID"
def devicePub : Bytes := ecPublic p384 deviceKey

def aliasKey (cdi : Bytes) : Nat := keyFrom cdi "NV64 ALIAS"

/-- The identity signer signs with ECDSA P-384 over SHA-384; its nonce is drawn. The signature is r and s. -/
def State.idSign (s : State) (d : Nat) (m : Bytes) : Bytes × State :=
  let k := beNat (s.freeBytes 56) % (p384.n - 1) + 1
  ((ecdsaSign p384 d k (sha384 m)).getD (zeros 96), s.tookFree 56)

/-- OID of ecdsa-with-SHA384 as an AlgorithmIdentifier. -/
def oidEcdsa384 : Bytes := der 0x30 (der 6 (bytes [0x2A, 0x86, 0x48, 0xCE, 0x3D, 0x04, 0x03, 0x03]))

/-- The bytes to be signed of a certificate of these facts: R718 and R719 give its contents, X.509 leaves serial number and the order of
its parts open. -/
def tbsOf (facts : Bytes) : Bytes := (List.range (Config.tbsLen facts % 2048)).map (Config.tbsByte facts)

/-- A certificate issued under the DeviceID key. -/
def State.issueCert (s : State) (facts : Bytes) : Bytes × State :=
  let tbs := der 0x30 (tbsOf facts)
  let r := s.idSign deviceKey tbs
  (der 0x30 (tbs ++ oidEcdsa384 ++ der 3 (0 :: der 0x30 (derInt (r.1.take 48) ++ derInt (r.1.drop 48)))), r.2)

/-! ### The watermark (R721 to R723) -/

/-- W[i]. -/
def State.wmark (s : State) (i : Nat) : Bytes := s.regBytes (R.WMARK_VALUE (12 * i)) 12

def State.stage (s : State) : Nat := s.regField R.WMARK_STAGE 1 0

/-- An extension of register `i`. -/
def State.extend (s : State) (i : Nat) (d : Bytes) : State :=
  (s.setRegBytes (R.WMARK_VALUE (12 * i)) (sha384 (s.wmark i ++ d))).bump (R.WMARK_COUNT i)

/-- Stage and writer of an extension of register `i` (R722). -/
def extendOk (i stage : Nat) (who : Sender) : Bool :=
  let prim := match who with | .core c _ => c.val == 64 | _ => false
  let pair := match who with | .core c _ => c.val == 64 || c.val == 65 | _ => false
  if i = 0 then stage == 0 && prim else if i ≤ 2 then stage == 1 && prim else if i ≤ 7 then stage == 2 && prim else stage == 2 && pair

/-- What a write of WMARK_EXTEND does beyond the plain write. -/
def State.wmarkExtend (s : State) (who : Sender) (w : Word) : State :=
  if ¬ bit w 31 then s
  else if extendOk (field w 3 0) s.stage who then s.extend (field w 3 0) (s.regBytes (R.WMARK_EXT_DATA 0) 12)
  else s.errAt errIgnored who .store R.WMARK_EXTEND

/-- CDI, alias key and alias certificate, at the advance from 1 to 2 (R715, R718). -/
def State.deriveAlias (s : State) : State :=
  let st := [by8 (s.life + 16 * b2n (s.regBit R.LIFE_STATUS 4))]
  let w := s.wmark 0 ++ s.wmark 1 ++ s.wmark 2
  let cdi := hmacOf 0x22 uds (w ++ st)
  let r := s.issueCert (ascii "alias" ++ s.uid ++ ecPublic p384 (aliasKey cdi) ++ w ++ st ++ [by8 (b2n (s.regBit R.LIFE_STATUS 3))])
  ({ r.2 with lf := { r.2.lf with cdi := some cdi, aliasCert := r.1 } }).setRegBit R.WMARK_STATUS 1 true

/-- WMARK_ADVANCE[0] written as 1. -/
def State.wmarkAdvance (s : State) (w : Word) : State :=
  if ¬ bit w 0 ∨ 2 ≤ s.stage then s
  else
    let t := s.setReg R.WMARK_STAGE (w32 (s.stage + 1))
    if t.stage = 2 then t.deriveAlias else t

/-- The primary pair's extension of register `i` at stage 2. -/
def State.measure (s : State) (i : Nat) (d : Bytes) : State := if s.stage = 2 then s.extend i d else s

/-- A deckle part, or a removal part, and its user verbs in ascending CODE are measured. -/
def State.measurePart (s : State) (d : Nat) (p : Bytes) : State :=
  let s := s.measure 4 (sha384 (by8 d :: p))
  ((userVerbs p).mergeSort (fun a b => decide (a.code ≤ b.code))).foldl (fun s u => s.measure 5 u.digest) s

/-! ### The device state block (R727) -/

/-- The device state block at this moment. -/
def State.deviceState (s : State) : Bytes :=
  let d := (s.deepData 0x0103).getD (zeros 0x80)
  let held := s.regBit R.LIFE_STATUS 3
  let flag (b : Bool) (i : Nat) : Nat := b2n b * 2 ^ i
  [by8 s.life, by8 (flag (s.regBit R.LIFE_STATUS 4) 0 + flag held 1 + flag (s.regBit R.RESET_STATUS 3) 2 + flag (s.regBit R.RESET_STATUS 2) 3 +
      flag (byteAt d 2 == 1) 4)] ++
    leBytes 2 (s.reg R.TAMPER_EVID_COUNT).toNat ++ leBytes 4 (if held then 0 else (s.reg R.JOURNAL_EPOCH).toNat) ++
    leBytes 8 (s.reg64 R.LIFE_VATS_LO) ++ leBytes 4 (s.reg R.MOULD_GEN).toNat ++ slice d 4 4 ++
    leBytes 4 (if s.life = 0 then 0 else s.deepGen 0x0103) ++ leBytes 4 s.rtcSec

/-! ### The commands -/

/-- WMARK_EXTEND: a write of WMARK_EXTEND. -/
def execWmarkExtend (who : Sender) (v : Word) (s : State) : Res := .next <| if s.pw.inReset then s else s.wmarkExtend who v

/-- WMARK_ADVANCE: a write of WMARK_ADVANCE. -/
def execWmarkAdvance (v : Word) (s : State) : Res := .next <| if s.pw.inReset then s else s.wmarkAdvance v

end Sys2Proof.Machine
end

