-- ==== Sys2Proof/Machine/Commands.lean ====
section
/-! DEFINITION. CANCEL, ABORT, DRAIN and RESUME (R260 to R279), the settings commands (R280 to R283), JOURNAL_READ (R393 to R396) and
VAULT_SET (R398, R399). -/

namespace Sys2Proof.Machine

/-- The job `i` of command `verb` that has been received and not yet carried out. -/
def State.command (s : State) (i verb : Nat) : Option Job :=
  match s.job? i with
  | some j => if j.stage = .command ∧ dVerb j.desc = verb ∧ ¬ j.ready ∧ j.due = none then some j else none
  | none => none

/-- A command's outcome, to be released at edge `e`. -/
def State.answerCmd (s : State) (i e cls reason : Nat) (result output : Bytes) : State :=
  s.updJob i fun j => { j with ready := true, cls := cls, reason := reason, result := result, output := output, due := some e }

/-- A quarantined vat (R753, R766). -/
def State.quarantined (s : State) (v : Nat) : Bool := s.maskBit R.REPLAY_QUAR_LO v

/-- REPLAY_STATUS with the run in progress, and the cause of the last replay command (R766). -/
def State.replayShow (s : State) (cause : Nat) : State :=
  s.setReg R.REPLAY_STATUS (w32 (cause * 65536 + match s.lf.runs.head? with | some r => r.vat * 256 + 1 | none => 0))

/-- The REPLAY_RUN record of a run or of its refusal (R756, R760): what it carries, and the cause. -/
def State.replayRec (s : State) (d : Nat) (facts : Bytes) (cause : Nat) : State := s.queueRec (plainRec 3 d 0x21 2 (facts ++ [by8 cause]) [])

/-- Quarantine (`op` 1) or release (`op` 2) of vat `v` at edge `e`: its record, and the extension of watermark register 7 (R722, R761). -/
def State.replayMark (s : State) (d v op e : Nat) : State :=
  (s.queueRec { plainRec 3 d 0x22 1 [] [] with clear := [by8 v, by8 op] ++ zeros 6 ++ leBytes 8 e ++ zeros 16 }).measure 7
    (sha384 ([by8 d, by8 v] ++ leBytes 8 e))

/-- A run ends without its comparison, its completion released at edge `e` (R757, R761). -/
def State.replayStop (s : State) (r : ReplayRun) (e cls reason cause : Nat) : State :=
  let d := ((s.job? r.job).map (·.deckle)).getD 0
  let s := (s.mapLf fun l => { l with runs := l.runs.filter fun x => x.job != r.job }).replayRec d r.facts cause
  (s.answerCmd r.job e cls reason [] []).replayShow cause

/-- A job that CANCEL and ABORT can reach: neither a command nor answered already, and not released at the edge that has passed. -/
def State.reachable (s : State) (j : Job) : Bool :=
  (!cmdVerb (dVerb j.desc) || queuedCmd (dVerb j.desc)) && j.due != some s.beat &&
    (match j.stage with | .answered => false | .command => false | _ => true)

/-- A tag matches under a mask. -/
def tagMatch (b : Bytes) (tag mask : Nat) : Bool := (w32 (dTag b) &&& w32 mask) == (w32 tag &&& w32 mask)

/-- A job of a host queue. -/
def Job.ofQueue (j : Job) (f q : Nat) : Bool := match j.src with | .host g r => g.val == f && r.val == q | _ => false

/-! ### CANCEL (R261 to R265) -/

/-- Jobs that match are removed before admission, to be released CANCELLED at edge `e`, and marked after it; answers the state and
both counts. -/
def State.cancelJobs (s : State) (pick : Job → Bool) (e : Nat) : State × Nat × Nat :=
  let hit := s.bt.jobs.filter fun j => pick j && s.reachable j
  let out := hit.filter fun j => j.onVat.isNone
  let on := hit.filter fun j => j.onVat.isSome && !(j.ready && j.cls == clsAborted) && !j.marked
  let s := out.foldl (fun s j => (s.answerAt j clsCancelled 0x0301 e).bump (R.ADMIT_CANCELLED (j.deckle % 16))) s
  let s := on.foldl (fun s j => (s.updJob j.id fun j => { j with marked := true }).bump (R.ADMIT_CANCELLED (j.deckle % 16))) s
  (s, out.length, on.length)

/-- CANCEL: jobs of one host queue are removed or marked; it completes OK with both counts at the first edge after the next close. -/
def execCancel (job : Nat) (s : State) : Res :=
  .next <|
    match s.command job 0x0601 with
    | some j =>
      match j.src with
      | .host f q =>
        let t := byteAt j.desc 0x20
        let ring := if t = 0xFF then q.val else t
        let e := s.openEdge
        let r := s.cancelJobs (fun x => x.ofQueue f.val ring && decide (x.id < j.id) && tagMatch x.desc (leAt j.desc 0x24 4) (leAt j.desc 0x28 4)) e
        let s := r.1.queueRec (plainRec 3 j.deckle 5 2 (leBytes 4 (dTag j.desc) ++ leBytes 4 r.2.1 ++ leBytes 4 r.2.2 ++ leBytes 4 e) [])
        s.answerCmd job e clsOk 0 (leBytes 4 r.2.1 ++ leBytes 4 r.2.2 ++ zeros 8) []
      | _ => s
    | none => s

/-! ### ABORT (R267 to R273) -/

/-- The first edge later than the felt time `t`. -/
def State.edgeAfter (s : State) (t : Nat) : Nat := if t < s.bt.edgeAt + s.bt.period then s.nextEdge else s.nextEdge + 1

/-- A touched vat stops: its PKE is stopped and wiped, its key window written with zero, and it leaves admission until edge `back`. -/
def State.touchVat (s : State) (v back : Nat) : State :=
  let s := (s.pkeStop v).wipeWindow v
  if s.inAdmission v then (s.setMaskBit R.BEAT_ADMIT_LO v false).mapBt fun b => { b with blocked := b.blocked ++ [(v, back)] }
  else s.mapBt fun b => { b with blocked := b.blocked.map fun p => if p.1 = v then (v, max p.2 back) else p }

/-- Jobs placed on a touched vat go back to waiting, their bookings freed. -/
def State.unplace (s : State) (v : Nat) : State :=
  s.mapBt fun b => { b with jobs := b.jobs.map fun j =>
    match j.stage with
    | .placed u _ => if u = v then { j with stage := .waiting, due := none, lines := 0 } else j
    | _ => j }

/-- Jobs are ended (R267 to R269): those that `pick` selects, and with them every other job admitted on a vat that holds one, or on a
vat of `all`. -/
def State.abortJobs (s : State) (job d : Nat) (pick : Job → Bool) (all : List Nat) (drain : Option Nat) : State :=
  let e0 := s.edgeAfter ((if drain.isSome then s.bt.edgeAt else s.now) + 2000)
  let live := s.bt.jobs.filter fun j => s.reachable j && !(j.ready && j.cls == clsAborted)
  let target := live.filter pick
  let vats := (List.range 64).filter fun v => all.contains v || target.any fun j => (j.onVat.map (·.1)) == some v
  let side := live.filter fun j => !pick j && match j.onVat with | some p => vats.contains p.1 | none => false
  let fate (j : Job) : Nat := if ¬ pick j then 0x0403 else if j.onVat.isSome then 0x0402 else 0x0401
  let ends := (target ++ side).map fun j => (j.id, fate j)
  let s := (target.filter fun j => j.onVat.isNone).foldl (fun s j => s.answerAt j clsAborted 0x0401 (e0 + 1)) s
  let held := (target.filter fun j => j.onVat.isSome) ++ side
  let s := held.foldl (fun s j => (s.lateUse j).updJob j.id fun x =>
    { x with ready := true, cls := clsAborted, reason := fate j, result := [], output := [], due := some (e0 + 1) }) s
  let s := vats.foldl (fun s v => (s.touchVat v (e0 + 2)).unplace v) s
  let s := s.mapBt fun b => { b with aborts := b.aborts ++ [(
    { job, deckle := d, e0, vats, targets := target.length, collateral := side.length, ends, drain } : Abort)] }
  if drain.isSome then s
  else
    let s := if all = [] then s else (s.lf.runs.filter fun r => all.contains r.vat).foldl (fun s r => s.replayStop r (e0 + 1) clsAborted 0x0402 0) s
    (s.setRegBit R.ADMIT_STATUS 2 true).setReg R.ADMIT_ABORT_EDGE (w32 e0)

/-- The jobs that an ABORT's scope selects, of function `f`'s queue, or of the deckle. -/
def abortPick (sc d ring : Nat) (tag mask before : Nat) (j : Job) : Bool :=
  decide (j.id < before) && j.deckle == d && (if sc ≤ 1 then j.ofQueue (d + 1) ring && (sc == 1 || tagMatch j.desc tag mask) else true)

/-- ABORT: its targets and every vat they touch are stopped. -/
def execAbort (job : Nat) (s : State) : Res :=
  .next <|
    match s.command job 0x0602 with
    | some j =>
      if s.bt.aborts.any fun a => a.job == job then s
      else
        let b := j.desc
        let sc := byteAt b 0x20
        let d := if sc = 3 then byteAt b 0x22 else j.deckle
        s.abortJobs job d (abortPick sc d (byteAt b 0x21) (leAt b 0x24 4) (leAt b 0x28 4) job) (if sc ≤ 1 then [] else s.vatsOf d) none
    | none => s

/-- The jobs that an abort ends are released at edge e0 + 1 (R269). -/
def State.abortRelease (s : State) (a : Abort) : State :=
  a.ends.foldl (fun s e =>
    match s.job? e.1 with
    | some j => if j.due = some s.beat then s.releaseDue j else s
    | none => s) s

/-- ABORT_RELEASE: at edge e0 + 1 the couch releases every job that the ABORT ends. -/
def execAbortRelease (job : Nat) (s : State) : Res :=
  .next <|
    match s.bt.aborts.find? fun a => a.job == job && a.drain.isNone with
    | some a => if s.beat = a.e0 + 1 then s.abortRelease a else s
    | none => s

/-- An abort is over: ABORT_ACTIVE and, for an ABORT, event 250 and the completion (R270, R272). -/
def State.abortDone (s : State) (a : Abort) : State :=
  let s := s.mapBt fun b => { b with aborts := b.aborts.filter fun x => x != a }
  if a.drain.isSome then s
  else
    let s := (s.setRegBit R.ADMIT_STATUS 2 (s.bt.aborts.any fun x => x.drain.isNone)).raise 250
    let s := s.answerCmd a.job s.beat clsOk 0 (leBytes 4 a.targets ++ leBytes 4 a.collateral ++ [by8 a.vats.length] ++ zeros 7) []
    match s.job? a.job with
    | some j => s.release j j.rel
    | none => s

/-- ABORT_COMPLETE: at edge e0 + 2 the ABORT completes OK; the touched vats have rejoined admission at that edge (BEAT_EDGE). -/
def execAbortComplete (job : Nat) (s : State) : Res :=
  .next <|
    match s.bt.aborts.find? fun a => a.job == job && a.drain.isNone with
    | some a => if s.beat = a.e0 + 2 then s.abortDone a else s
    | none => s

/-! ### DRAIN (R274 to R278) -/

/-- Deckle and queue of the scope that DRAIN or RESUME names. -/
def scopeOf (j : Job) : Nat × Option Nat :=
  let b := j.desc
  if byteAt b 0x20 = 0 then (j.deckle, some (byteAt b 0x21)) else if byteAt b 0x20 = 1 then (j.deckle, none) else (byteAt b 0x22, none)

/-- A job of a DRAIN's scope (R277). -/
def Drain.holds (x : Drain) (j : Job) : Bool :=
  j.deckle == x.deckle && (match j.stage with | .command => false | _ => true) &&
    (match x.queue, j.src with
     | some q, .host _ r => r.val == q
     | some _, _ => false
     | none, .host _ r => r.val != 0 || decide (j.id < x.job)
     | none, _ => true)

/-- DRAIN: its scope closes; under MODE 1 what waits there is flushed (R275, R276). -/
def execDrain (job : Nat) (s : State) : Res :=
  .next <|
    match s.command job 0x0603 with
    | some j =>
      if s.bt.drains.any fun x => x.job == job then s
      else
        let sc := scopeOf j
        let flush := byteAt j.desc 0x23 == 1
        let x : Drain :=
          { job, deckle := sc.1, queue := sc.2, flush, since := s.nextEdge, limit := leAt j.desc 0x24 4, done := false, flushed := 0, ended := 0 }
        let hit := if flush then s.bt.jobs.filter fun k => k.isWaiting && x.holds k else []
        let s := hit.foldl (fun s k => s.answerAt k clsBusy 0x0105 s.openEdge) s
        s.mapBt fun b => { b with drains := b.drains ++ [{ x with flushed := hit.length }] }
    | none => s

/-- A change to the DRAIN of job `i`. -/
def State.updDrain (s : State) (i : Nat) (f : Drain → Drain) : State :=
  s.mapBt fun b => { b with drains := b.drains.map fun x => if x.job = i then f x else x }

/-- A scope is opened again, with the DRAINs that closed it. -/
def State.reopen (s : State) (d : Nat) (q : Option Nat) : State :=
  s.mapBt fun b => { b with drains := b.drains.filter fun x => !(x.done && x.deckle == d && x.queue == q) }

/-- A RESUME reopens its scope at this edge and completes (R279), unless a DRAIN of the scope is still pending. -/
def State.resumeNow (s : State) (r : Nat × Nat × Option Nat × Nat) : State :=
  if s.bt.drains.any (fun x => !x.done && x.deckle == r.2.1 && x.queue == r.2.2.1) then s
  else
    let s := (s.reopen r.2.1 r.2.2.1).mapBt fun b => { b with resumes := b.resumes.filter fun x => x != r }
    let s := s.fetchAll (r.2.1 + 1)
    s.answerCmd r.1 s.beat clsOk 0 (zeros 16) []

/-- RESUMEs whose edge has come. -/
def State.resumesDue (s : State) : State := (s.bt.resumes.filter fun r => decide (r.2.2.2 ≤ s.beat)).foldl State.resumeNow s

/-- A DRAIN can complete at this edge: nothing of its scope is left, or the abort at its limit is over (R277, R278). -/
def State.drainOver (s : State) (x : Drain) : Bool :=
  !x.done && decide (x.since ≤ s.beat) &&
    (match s.bt.aborts.find? fun a => a.drain == some x.job with
     | some a => decide (a.e0 + 2 ≤ s.beat)
     | none => !s.bt.jobs.any x.holds)

/-- The DRAIN completes OK with its counts, event 249; a RESUME that waited for it reopens the scope. -/
def State.drainDone (s : State) (x : Drain) : State :=
  let s := match s.bt.aborts.find? fun a => a.drain == some x.job with | some a => s.abortDone a | none => s
  let s := (s.updDrain x.job fun x => { x with done := true }).raise 249
  let s := s.answerCmd x.job s.beat clsOk 0 (leBytes 4 x.flushed ++ leBytes 4 x.ended ++ zeros 8) []
  let s := match s.job? x.job with | some j => s.release j j.rel | none => s
  s.resumesDue

/-- DRAIN_COMPLETE: at the first edge at which no job of its scope remains the DRAIN completes. -/
def execDrainComplete (job : Nat) (s : State) : Res :=
  .next <|
    match s.bt.drains.find? fun x => x.job == job with
    | some x => if s.drainOver x then s.drainDone x else s
    | none => s

/-- The limit of a DRAIN has passed without its completion, and nothing has ended it yet. -/
def State.limitOver (s : State) (x : Drain) : Bool :=
  !x.done && decide (x.limit ≠ 0) && decide (x.since + x.limit ≤ s.beat) && s.bt.jobs.any x.holds &&
    !s.bt.aborts.any fun a => a.drain == some x.job

/-- The remaining jobs of a DRAIN's scope are ended as an ABORT with this edge as its receipt would end them (R278). -/
def State.drainLimit (s : State) (x : Drain) : State :=
  let s := s.abortJobs s.bt.nextJob x.deckle (fun j => x.holds j) (if x.queue.isSome then [] else s.vatsOf x.deckle) (some x.job)
  let n := ((s.bt.aborts.find? fun a => a.drain == some x.job).map (·.targets)).getD 0
  s.updDrain x.job fun x => { x with ended := n }

/-- DRAIN_LIMIT_EXPIRY: LIMIT beats have passed since the first edge after the DRAIN's receipt. -/
def execDrainLimitExpiry (job : Nat) (s : State) : Res :=
  .next <|
    match s.bt.drains.find? fun x => x.job == job with
    | some x => if s.limitOver x then s.drainLimit x else s
    | none => s

/-- RESUME: its scope reopens at the first edge after the next close, or when a pending DRAIN of the scope completes, if later. -/
def execResume (job : Nat) (s : State) : Res :=
  .next <|
    match s.command job 0x8003 with
    | some j =>
      if s.bt.resumes.any fun r => r.1 == job then s
      else s.mapBt fun b => { b with resumes := b.resumes ++ [(job, (scopeOf j).1, (scopeOf j).2, s.openEdge)] }
    | none => s

/-! ### Settings (R280 to R283) -/

/-- A settings command applies to jobs admitted one edge after the close that follows it, and completes there. -/
def State.takeSettings (s : State) (j : Job) (pke : Bool) : State :=
  let e := s.openEdge + 1
  let s := s.mapBt fun b => { b with settings := b.settings ++ [⟨e, j.deckle, pke, byteAt j.desc 0x20, j.input⟩] }
  s.answerCmd j.id e clsOk 0 (zeros 16) []

/-- SEQ_SETTINGS (R280). -/
def execSeqSettings (job : Nat) (s : State) : Res :=
  .next <| match s.command job 0x8001 with | some j => s.takeSettings j false | none => s

/-- PKE_SETTINGS (R281). -/
def execPkeSettings (job : Nat) (s : State) : Res :=
  .next <| match s.command job 0x8002 with | some j => s.takeSettings j true | none => s

/-- The bytes that a SETTINGS record carries: the verb, GROUPS and the selected values. -/
def settingsBytes (x : Settings) : Bytes :=
  let g (i n : Nat) (o : Nat) : Bytes := if nbit x.groups i then slice x.block o n else []
  [by8 (b2n x.pke), by8 x.groups] ++ (if x.pke then g 0 4 0 ++ g 1 4 4 else g 0 4 0 ++ g 1 4 4 ++ g 2 128 8 ++ g 3 32 0x88)

/-- The SETTINGS record of a command that applies at the next edge. -/
def settingsRec (x : Settings) : PendRec :=
  plainRec 3 x.deckle 7 (max 2 (ceilDiv (94 + (settingsBytes x).length) 64)) (settingsBytes x ++ leBytes 4 x.edge) []

/-! ### JOURNAL_READ (R393 to R396) -/

/-- A block of chain `k` as written. -/
def State.journalBlock (s : State) (k jbn : Nat) : Bytes :=
  (((s.chain k).blocks.find? fun b => b.jbn == jbn).map (·.image)).getD (zeros 4096)

/-- A root log entry, from the buffer or from its ring. -/
def State.rootLogEntry (s : State) (n : Nat) : Bytes := ((s.jn.rootlog.find? fun e => e.1 == n).map (·.2.2)).getD (zeros 1024)

/-- The journal engine carries out a JOURNAL_READ that it has taken. -/
def State.journalRead (s : State) (j : Job) : State :=
  let b := j.desc
  let n := leAt b 0x30 2
  let first := leAt b 0x28 8
  let out :=
    if byteAt b 0x20 = 0 then ((List.range n).map fun i => s.journalBlock j.deckle (first + i)).flatten
    else if byteAt b 0x20 = 1 then ((List.range n).map fun i => s.rootLogEntry (first + i)).flatten
    else []
  s.outcome j.id clsOk 0 (zeros 16) out

/-- A JOURNAL_READ that the engine has taken and not yet answered. -/
def journalReadTaken (j : Job) : Bool := dVerb j.desc == 0x8005 && !j.ready && j.due.isSome && j.stage == .command

/-- JOURNAL_READ: the engine reads what the command names. -/
def execJournalRead (job : Nat) (s : State) : Res :=
  .next <|
    match s.job? job with
    | some j => if journalReadTaken j then s.journalRead j else s
    | none => s

/-- The archive mark moves at the due edge of an OP 2, with its ARCHIVE record (R396). -/
def State.archiveMove (s : State) (j : Job) : State :=
  let k := j.deckle
  let m := max (s.reg (R.JOURNAL_ARCH k)).toNat (leAt j.desc 0x28 8)
  (s.setReg (R.JOURNAL_ARCH k) (w32 m)).queueRec (plainRec (if k = 16 then 1 else 3) k 9 1 (leBytes 8 m) [])

/-! ### VAULT_SET (R398, R399) -/

/-- VAULT_SET: a vault entry is set active or suspended, for jobs admitted at its due edge and later. -/
def execVaultSet (job : Nat) (s : State) : Res :=
  .next <|
    match s.work job 0x8004 with
    | none => s
    | some x =>
      let b := x.j.desc
      let h := dKeyA b
      let ra := s.keyFor x h
      let e := s.vaultSeen x.j.deckle h (digits x.j.input) x.v x.b
      let checks := s.keyAlive x.j.deckle h ra ++ [(ra.usage == uTok, 0x1004),
        (x.j.input.all (fun c => decide (48 ≤ c.toNat) && decide (c.toNat ≤ 57)), 0x1501), (e.isSome, 0x1503),
        ((e.map (·.domain)).getD 0 == leAt b 0x22 2, 0x1505)]
      let vd := verdict x.j [] checks
      let t := s.useKeys x ra none
      let t :=
        match e with
        | some e =>
          if vd.1 = 0 ∧ e.state ≠ byteAt b 0x20 then
            let due := x.j.due.getD 0
            t.putEntry x.v { e with state := byteAt b 0x20, changed := t.stamp due, since := due, ream := (64, x.b) }
          else t
        | none => t
      t.finish x vd (zeros 16) []

end Sys2Proof.Machine
end

