-- ==== Sys2Proof/Machine/Beat.lean ====
section
/-! DEFINITION. The beat generator, reams, placement and edges (R49 to R73, R297 to R299, R334 to R342, R384), and the commands of
the beat and of time (R54 to R57, R801 to R803). -/

namespace Sys2Proof.Machine

/-! ### Charges (R68 to R70) -/

/-- Symmetric slots that a job placed or admitted for edge `b` takes in the ream of edge `e`. -/
def State.chargeAt (s : State) (j : Job) (b e : Nat) : Nat :=
  let c := dVerb j.desc
  if pkVerb c ∨ c = 0x8005 then 0
  else if bulkVerb c then if b ≤ e ∧ e < b + bulkSteps (dInLen j.desc) then 8 else 0
  else if userCode c then if b ≤ e ∧ e < b + j.tariff then ((s.userVerb j.deckle c).map (·.slots)).getD 1 else 0
  else (if e = b then 1 else 0) + (if j.surcharge ≠ 0 ∧ e = b + j.surcharge then 1 else 0)

/-- Vat and edge of a job that is placed or admitted. -/
def Job.booked (j : Job) : Option (Nat × Nat) :=
  match j.stage with
  | .placed v e => some (v, e)
  | .admitted v e => some (v, e)
  | _ => none

/-- Slots taken in the ream of vat `v` at edge `e`. -/
def State.slotsAt (s : State) (v e : Nat) : Nat :=
  (s.bt.jobs.map fun j => match j.booked with | some p => if p.1 = v then s.chargeAt j p.2 e else 0 | none => 0).sum

/-- A job of a kind that holds vat `v` beyond edge `e` (R69, R70, R91). -/
def State.holdsVat (s : State) (v e : Nat) (kind : Nat → Bool) : Bool :=
  s.bt.jobs.any fun j => kind (dVerb j.desc) && decide (e < j.due.getD 0) && (match j.booked with | some p => p.1 == v | none => false)

/-- A surcharged verb, and VAULT_SET over a reservoir-backed vault, make a read set (R410). -/
def Job.makesReads (j : Job) : Bool := j.surcharge != 0

/-- Read sets of deckle `d` placed for edge `e`. -/
def State.readSetsAt (s : State) (d e : Nat) : Nat :=
  (s.bt.jobs.filter fun j => j.deckle == d && j.makesReads && (match j.stage with | .placed _ f => f == e | _ => false)).length

/-- RANDOM with prediction resistance. -/
def prRandom (b : Bytes) : Bool := dVerb b == 0x0501 && byteAt b 0x20 % 2 == 1

/-- Vat `v` has room at edge `e` for the charge of a symmetric job (R68, R70, R412, R576, R583). -/
def State.roomFor (s : State) (j : Job) (v e : Nat) : Bool :=
  let c := dVerb j.desc
  let free (f n : Nat) : Bool := decide (s.slotsAt v f + n ≤ 16)
  if bulkVerb c then !s.holdsVat v e bulkVerb && (List.range (bulkSteps (dInLen j.desc))).all fun i => free (e + i) 8
  else if userCode c then (List.range j.tariff).all fun i => free (e + i) (((s.userVerb j.deckle c).map (·.slots)).getD 1)
  else
    free e 1 && (j.surcharge == 0 || free (e + j.surcharge) 1) &&
      (!j.makesReads || decide (s.readSetsAt j.deckle e < (s.reg (R.RESV_BUDGET j.deckle)).toNat)) &&
      (c != 0x0501 || !s.laneErr v) &&
      (!prRandom j.desc || (!(s.unit v).seeds.isEmpty && !s.bt.jobs.any fun x => prRandom x.desc && x.booked == some (v, e)))

/-! ### Placement (R71 to R73) -/

/-- Vat `v` is in admission at edge `e`, as far as its close knows (R73, R268, R662). -/
def State.vatAt (s : State) (v e : Nat) : Bool :=
  (s.inAdmission v || (s.bt.joining ++ s.bt.blocked).any fun p => p.1 == v && decide (p.2 ≤ e)) &&
    !s.bt.parking.any fun p => p.1 == v && decide (p.2 ≤ e)

/-- A list rotated to start at index `r` modulo its length. -/
def rotate (l : List Nat) (r : Nat) : List Nat := if l = [] then [] else l.drop (r % l.length) ++ l.take (r % l.length)

/-- The deckle's vats in admission, in the order of R71 at the close for edge `e`. -/
def State.vatOrder (s : State) (d e : Nat) : List Nat := rotate ((s.vatsOf d).filter fun v => s.vatAt v e) e

/-- Job `j` is placed on vat `v` for edge `e`, and its journal lines reserved (R383). -/
def State.place (s : State) (j : Job) (v e : Nat) : State :=
  s.updJob j.id fun x =>
    { x with stage := .placed v e, due := some (e + x.tariff + x.surcharge), lines := reserveLines (s.replays x.deckle) x.desc }

/-- The public-key queue, oldest first: strict order. -/
def State.placePk (s : State) (order : List Nat) (e : Nat) : List Job → State
  | [] => s
  | j :: js =>
    match order.find? fun v => !s.holdsVat v e pkVerb with
    | some v => (s.place j v e).placePk order e js
    | none => s

/-- Vats tried in order, cyclically, starting after `last`. -/
def tryFrom (order : List Nat) (last : Option Nat) : List Nat :=
  match last with
  | some v => rotate order (order.idxOf v + 1)
  | none => order

/-- The symmetric queue, oldest first: `stuck` the sources and handles that wait, `put` the handles placed with their vats. -/
def State.placeSym (s : State) (order : List Nat) (e : Nat) :
    List Job → Option Nat → List (Source × Nat) → List (Nat × Nat) → State
  | [], _, _, _ => s
  | j :: js, last, stuck, put =>
    let h := dKeyA j.desc
    if h ≠ 0 ∧ stuck.contains (j.src, h) then s.placeSym order e js last stuck put
    else
      let near := if h = 0 then none else put.lookup h
      let try_ := match near with | some v => [v] | none => tryFrom order last
      match try_.find? fun v => s.roomFor j v e with
      | some v =>
        (s.place j v e).placeSym order e js (if near.isSome then last else some v) stuck (if h = 0 ∨ near.isSome then put else (h, v) :: put)
      | none => s.placeSym order e js last (if h = 0 then stuck else (j.src, h) :: stuck) put

/-- The journal engine takes at most four JOURNAL_READ of a deckle at an edge (R394). -/
def State.placeReads (s : State) (d e : Nat) : State :=
  (((s.waitingOf d).filter fun j => dVerb j.desc == 0x8005 && decide (j.eligible ≤ e)).take 4).foldl (fun s j =>
    s.updJob j.id fun x => { x with stage := .placed 64 e }) s

/-- Placement of deckle `d` at the close for edge `e`. -/
def State.placeDeckle (s : State) (e d : Nat) : State :=
  let order := s.vatOrder d e
  let s := s.placeReads d e
  let w := (s.waitingOf d).filter fun j => decide (j.eligible ≤ e) && dVerb j.desc != 0x8005
  if order = [] then s
  else ((s.placePk order e (w.filter fun j => pkVerb (dVerb j.desc))).placeSym order e (w.filter fun j => !pkVerb (dVerb j.desc)) none [] [])

/-- Descriptors whose settings have changed since they were checked are checked again (R75, R162). -/
def State.recheck (s : State) (e : Nat) : State :=
  (s.bt.jobs.filter fun j => j.isWaiting && decide (j.deckle < 16) && dVerb j.desc != 0x8005 && decide (j.eligible ≤ e)).foldl (fun s j =>
    match firstFail (s.verbChecks j.src j.deckle (s.dsetAt j.deckle e) j.desc j.input) with
    | some r => s.answerAt j clsMalformed r e
    | none => s) s

/-- Admission admits reams: ADMIT_CTRL.OPEN, and nothing has stopped it for good. -/
def State.admitting (s : State) : Bool := s.regBit R.ADMIT_CTRL 0 && !s.bt.stop

/-- The close for the next edge (R67, R71, R384, R574). -/
def State.closeReam (s : State) : State :=
  let e := s.nextEdge
  let s := { s with now := max s.now (s.bt.edgeAt + s.bt.period - 500) }
  let gate := decide (journalGate ≤ s.journalFill)
  let s := (s.mapBt fun b => { b with closed := true, gate := gate }).allotSeeds
  if gate then
    (s.bt.jobs.filter fun j => j.isWaiting && j.recvBeat == e).foldl (fun s j => s.answerAt j clsBusy 0x0103 e) s
  else
    let s := s.recheck e
    if s.admitting then ((List.range 17).foldl (fun s d => s.placeDeckle e d) s).fillPeak else s

/-! ### The end of a beat -/

/-- What a beat's end still owes: jobs due at its edge, aborts and DRAINs that are over. -/
def State.settle (s : State) : State :=
  let s := s.releaseLate
  let s := (s.bt.aborts.filter fun a => a.drain.isNone && decide (a.e0 + 2 ≤ s.beat)).foldl State.abortDone s
  let s := (s.bt.drains.filter s.limitOver).foldl State.drainLimit s
  (s.bt.drains.filter s.drainOver).foldl State.drainDone s

/-- JOURNAL_READs that release at the next edge are answered; their archive marks move (R396). -/
def State.journalReads (s : State) : State :=
  let s := (s.bt.jobs.filter fun j => journalReadTaken j && j.due == some (s.beat + 1)).foldl State.journalRead s
  (s.bt.jobs.filter fun j => dVerb j.desc == 0x8005 && byteAt j.desc 0x20 == 2 && j.ready && j.cls == clsOk && j.due == some (s.beat + 1)).foldl
    State.archiveMove s

/-- The records of settings, of ABORTs and of the jobs released at the next edge join the queue (R86, R271, R283). -/
def State.queueJobs (s : State) : State :=
  let e := s.beat + 1
  let s := (s.bt.settings.filter fun x => x.edge == e).foldl (fun s x => s.queueRec (settingsRec x)) s
  let s := (s.bt.aborts.filter fun a => a.e0 == s.beat).foldl (fun s a => s.queueRec
    (plainRec 0 a.deckle 6 2 (leBytes 4 a.targets ++ leBytes 4 a.collateral ++ leBytes 8 a.vats.length ++ leBytes 4 a.e0) [])) s
  (s.bt.jobs.filter fun j => j.onVat.isSome && j.ready && !j.committed && j.due == some e).foldl (fun s j =>
    let r := j.rel
    let p := s.jobRec j r (if j.marked ∨ j.cls = clsAborted then 2 else 0) e []
    s.queueRec (if j.cls = clsAborted then { p with rank := 0 } else p)) s

/-- The queue is committed, and the records of its key changes are written back to their slots (R340, R341). -/
def State.commitBeat (s : State) : State :=
  let keys := s.jn.queue.filterMap (·.key)
  let on := s.regBit R.JOURNAL_STATUS 0
  let s := s.journalBeat
  if on then keys.foldl State.writeBack s else s

/-- Mirrored counters leave at least every 64 beats (R352). -/
def State.mailCounters (s : State) : State :=
  if s.beat % 64 = 63 then
    (List.range 16).foldl (fun s d =>
      if s.regBit (R.KEYS_DCFG d) 2 ∧ s.regBit (R.KEYS_DCFG d) 4 then s.post ⟨6, 0, s.member, 16, d, 0, 0, s.checkpointFacts d 0⟩ else s) s
  else s

/-- The end of the beat: everything that its edge must find done; an index whose change has not committed stays EMPTY (R323). -/
def State.endBeat (s : State) : State :=
  let e := s.beat + 1
  let s := s.settle
  let s := (s.ks.changes.filter fun c => c.due == e).foldl State.commitChange s
  let s := (s.bt.jobs.filter fun j => j.newHandle != 0 && j.due == some e).foldl (fun s j => s.abandonIndex j.deckle j.newHandle) s
  let s := s.journalReads
  let s := (s.bt.jobs.filter fun j => s.waitOver j e).foldl (fun s j => s.waitExpire j e) s
  let s := ((s.queueJobs.commitBeat).sweep).commitTree
  let s := if e % 1024 = 0 then s.writeStateBlock false else s
  s.mailCounters

/-! ### The edge -/

/-- The settings registers of vat `v` (R222, R463). -/
def State.loadVatSet (s : State) (v : Nat) (t : DSet) : State :=
  let s := (((s.setReg (R.SYM_POLICY v) t.symPolicy).setReg (R.SYM_MAC_LEN v) t.macLen).setReg (R.PKE_POLICY v) t.pkePolicy).setReg
    (R.PKE_ALG_EN v) t.pkeAlgEn
  let s := (t.dectab.zipIdx).foldl (fun s p => (s.setReg (R.SYM_DECTAB_LO v p.2) p.1.1).setReg (R.SYM_DECTAB_HI v p.2) p.1.2) s
  (t.tokprof.zipIdx).foldl (fun s p => s.setReg (R.SYM_TOKPROF v p.2) p.1) s

/-- Settings commands that apply at this edge (R283). -/
def State.settingsEdge (s : State) : State :=
  let due := s.bt.settings.filter fun x => decide (x.edge ≤ s.beat)
  let s := s.mapBt fun b => { b with settings := b.settings.filter fun x => decide (s.beat < x.edge) }
  due.foldl (fun s x =>
    let t := applySettings (s.dset x.deckle) x
    let s := s.mapMd fun m => { m with sets := m.sets.set x.deckle t }
    (s.vatsOf x.deckle).foldl (fun s v => s.loadVatSet v t) s) s

/-- Vat `v` leaves admission at this edge; parked for a fault it raises event 64 + v (R662, R872). -/
def State.parkVat (s : State) (v : Nat) : State :=
  let s := (s.setMaskBit R.BEAT_ADMIT_LO v false).mapBt fun b =>
    { b with parking := b.parking.filter (fun p => p.1 != v), joining := b.joining.filter (fun p => p.1 != v)
             blocked := b.blocked.filter (fun p => p.1 != v) }
  let s := s.setRegField (R.PMU_DOM_STATE v) 2 0 3
  if s.maskBit R.PMU_PARK_FAULT_LO v then s.raise (64 + v) v else s

/-- Vat `v` joins admission at this edge, with its event (R662, R872). -/
def State.joinVat (s : State) (v : Nat) : State :=
  ((s.setMaskBit R.BEAT_ADMIT_LO v true).setRegField (R.PMU_DOM_STATE v) 2 0 2).raise v v

/-- Parkings, returns after an ABORT and joinings of this edge. -/
def State.vatsEdge (s : State) : State :=
  let s := (s.bt.parking.filter fun p => decide (p.2 ≤ s.beat)).foldl (fun s p => s.parkVat p.1) s
  let back := s.bt.blocked.filter fun p => decide (p.2 ≤ s.beat)
  let s := s.mapBt fun b => { b with blocked := b.blocked.filter fun p => decide (s.beat < p.2) }
  let s := back.foldl (fun s p => s.setMaskBit R.BEAT_ADMIT_LO p.1 true) s
  let join := s.bt.joining.filter fun p => decide (p.2 ≤ s.beat)
  let s := s.mapBt fun b => { b with joining := b.joining.filter fun p => decide (s.beat < p.2) }
  join.foldl (fun s p => s.joinVat p.1) s

/-- OPEN takes effect; at the first edge at which admission opens after a reset the device is in service, and its state is measured (R286, R683, R722). -/
def State.openEdgeActs (s : State) : State :=
  let s := s.setRegBit R.ADMIT_STATUS 0 s.admitting
  if s.admitting ∧ s.regField R.RESET_STATUS 9 8 ≠ 1 then
    let s := (s.setRegField R.RESET_STATUS 9 8 1).setReg R.RESET_START_MS (w32 ((s.now - s.bt.resetAt) / 1000000))
    let s := { s with pins := { s.pins with fault := s.regBit R.PMU_STATUS 2 } }
    let s := if s.regField R.RESET_STATUS 5 4 = 2 ∨ s.reg R.RESET_WARM_COUNT ≠ 0 then s.raise 386 83 (s.reg R.RESET_CAUSE).toNat else s
    (s.measure 6 (sha384 s.deviceState)).raise 402
  else s

/-- The gate's state at this edge, with events 246 and 247 (R384, R291). -/
def State.gateEdge (s : State) : State :=
  let was := s.regBit R.ADMIT_STATUS 1
  let s := (s.setRegBit R.ADMIT_STATUS 1 s.bt.gate).setRegBit R.JOURNAL_STATUS 1 s.bt.gate
  if s.bt.gate ∧ ¬ was then s.raise 246 else if ¬ s.bt.gate ∧ was then s.raise 247 else s

/-- Wait limits take effect (R288). -/
def State.waitsEdge (s : State) : State :=
  s.mapBt fun b => { b with waits := (List.range 16).map fun d => s.regField (R.ADMIT_WAIT_LIMIT d) 11 0 }

/-! ### Admission -/

/-- The class in which a job creates a record, if it creates one (R298). -/
def makesRecord (b : Bytes) : Option Nat :=
  if (dVerb b = 0x0401 ∧ dKeyA b = 0) ∨ dVerb b = 0x0403 then some (byteAt b 0x25) else if dVerb b = 0x0203 then some 0 else none

/-- The register of the next index of a class. -/
def ktNext (d c : Nat) : Nat := if c = 0 then R.KEYS_KT_NEXT0 d else if c = 1 then R.KEYS_KT_NEXT1 d else R.KEYS_KT_NEXT2 d

/-- An index is allocated to job `j` (R298, R299, R301); event 284 when the class reaches its limit. -/
def State.allocIndex (s : State) (j : Job) : State :=
  match makesRecord j.desc with
  | none => s
  | some c =>
    let d := j.deckle
    let i := (s.reg (ktNext d c)).toNat
    let lim := (s.reg (R.KEYS_KT_LIMIT d)).toNat
    if lim < i then s
    else
      let h := c * 2 ^ 21 + i
      let n := i + (if c = 0 then 1 else 16)
      let s := (s.setReg (ktNext d c) (w32 n)).updJob j.id fun x => { x with newHandle := h }
      let s := s.install { KeyRec.empty d h with state := 2 }
      if lim < n then s.raise 284 else s

/-- A placed job is admitted at this edge, or goes back when admission is not open or its vat has left. -/
def State.admitOne (s : State) (j : Job) : State :=
  match j.stage with
  | .placed v e =>
    if e ≠ s.beat then s
    else if v = 64 then
      s.updJob j.id fun x => { x with stage := .command, admitEdge := e, due := some (e + x.tariff) }
    else if s.regBit R.ADMIT_STATUS 0 ∧ s.inAdmission v then
      (s.updJob j.id fun x => { x with stage := .admitted v e, vat := some v, admitEdge := e, set := s.dset x.deckle }).bump64
        (R.ADMIT_PLACED_LO j.deckle) 1
    else s.updJob j.id fun x => { x with stage := .waiting, due := none, lines := 0 }
  | _ => s

/-- The edge's admissions, in the order of vats for key indices (R298). -/
def State.admitEdge (s : State) : State :=
  let s := s.bt.jobs.foldl State.admitOne s
  let fresh := s.bt.jobs.filter fun j => match j.stage with | .admitted _ e => e == s.beat && j.newHandle == 0 | _ => false
  let s := (List.range 64).foldl (fun s v => (fresh.filter fun j => j.vat == some v).foldl State.allocIndex s) s
  { s with pk := s.pk.map fun u =>
      match u.job with
      | some i => if (s.job? i).isSome then u else PkeUnit.idle
      | none => u }

/-- Local events 1 and 0 of the vats at an edge: the edge itself, and a ream admitted (R874). -/
def State.localEdge (s : State) : State :=
  s.bt.up.foldl (fun s v =>
    let s := s.raiseLocal v 1
    if s.bt.jobs.any fun j => j.stage == .admitted v s.beat then s.raiseLocal v 0 else s) s

/-- Everything that takes place at the edge that has just come. -/
def State.atEdge (s : State) : State :=
  let s := s.windowEdge.settingsEdge.vatsEdge.gateEdge.waitsEdge.openEdgeActs
  (s.resumesDue.admitEdge.localEdge).reinstLanes

/-- The period that BEAT_PERIOD sets, in felt cycles. -/
def State.beatCycles (s : State) : Nat := 500 * s.regField R.BEAT_PERIOD 6 0

/-- The generator's first edge, in a beat of BEAT_COUNT `n` at felt time `t` (R52, R58). -/
def State.firstEdge (s : State) (n t : Nat) : State :=
  let s := { s with now := max s.now t }
  let s := (s.setReg64 R.BEAT_COUNT_LO n).setRegField R.BEAT_STATUS 1 0 1
  let s := s.mapBt fun b => { b with edgeAt := s.now, period := s.beatCycles, closed := false, gate := false }
  (s.setRegBit R.COUCH_STATUS 0 true).atEdge

/-- The next edge (R49): the beat ends, BEAT_COUNT rises by one, and the edge's admissions take place. -/
def State.beatEdge (s : State) : State :=
  if s.quiet then s else
  let s := if s.bt.closed then s else s.closeReam
  let s := s.endBeat
  let s := { s with now := max s.now (s.bt.edgeAt + s.bt.period) }
  let s := s.setReg64 R.BEAT_COUNT_LO (s.beat + 1)
  let s := s.mapBt fun b => { b with edgeAt := b.edgeAt + b.period, period := s.beatCycles, closed := false }
  s.atEdge

/-- BEAT_CTRL.START (R53 to R55, R61): ignored while the generator runs. A pond's leader first listens for BEAT messages (R807). -/
def State.beatStart (s : State) : State :=
  if s.regField R.BEAT_STATUS 1 0 ≠ 0 ∨ s.regBit R.BEAT_STATUS 3 then s
  else if s.lk.leadWait.isSome ∧ s.regField R.BEAT_CTRL 5 4 ≠ 2 then { s with lk := { s.lk with startWanted := true } }
  else
    let r := s.regField R.BEAT_CTRL 5 4
    let s := s.setRegField R.BEAT_STATUS 5 4 r
    if r = 2 then s.setRegBit R.BEAT_STATUS 3 true
    else if s.regBit R.BEAT_CTRL 3 then s.setRegBit R.BEAT_STATUS 1 true
    else s.firstEdge 0 s.now

/-! ### The commands of the beat -/

/-- BEAT_TICK: every BEAT_TICK_DIV beats event 240 is raised at the edge (R66). -/
def execBeatTick (s : State) : Res :=
  let n := s.regField R.BEAT_TICK_DIV 15 0
  .next <| if s.running ∧ n ≠ 0 ∧ s.beat % n = 0 then s.raise 240 else s

/-- REAM_CLOSE: admission closes the ream for the next edge and places waiting jobs (R67, R71). -/
def execReamClose (s : State) : Res := .next <| if s.running ∧ ¬ s.bt.closed then s.closeReam else s

/-- REFERENCE_LOST: the felt PLL holds its last frequency, with event 243 (R54). -/
def execReferenceLost (s : State) : Res :=
  .next <| if s.running ∧ ¬ s.regBit R.BEAT_STATUS 6 then (s.setRegBit R.BEAT_STATUS 6 true).raise 243 else s

/-! ### Time (R56, R57, R801 to R803) -/

/-- Distance of two phases around a beat of `p` cycles. -/
def phaseGap (p a b : Nat) : Nat := let d := (a + p - b) % p; min d (p - d)

/-- BEAT_COUNT and phase are captured at an accepted edge (R56, R57): event 242 when the phase has moved beyond the limit, allowing
for the felt cycles that one second is beyond whole beats. -/
def State.ppsCapture (s : State) : State :=
  if ¬ s.running then s
  else
    let p := s.bt.period
    let seen := s.regBit R.BEAT_STATUS 2
    let old := s.regField R.BEAT_PPS_PHASE 15 0
    let s := (((s.setReg64 R.BEAT_PPS_COUNT_LO s.beat).setReg R.BEAT_PPS_PHASE (w32 s.phase)).setRegBit R.BEAT_STATUS 2 true).raise 241
    if seen ∧ s.regField R.BEAT_PPS_LIMIT 15 0 < phaseGap p s.phase ((old + 1000000000) % p) then s.raise 242 else s

/-- TIME_PPS_EDGE: an edge of the selected polarity is accepted by its spacing, or ignored and counted (R802); a start that waits
for it is made (R55). -/
def execTimePpsEdge (at_ : Nat) (s : State) : Res :=
  .next <|
    if ¬ s.regBit R.TIME_CTRL 0 then s
    else
      let s := { s with now := max s.now at_ }
      let gap := s.now - s.bt.ppsAt.getD 0
      if s.bt.ppsAt.isSome ∧ (gap < 999999000 ∨ 1000001000 < gap) then s.bump R.TIME_PPS_BAD
      else
        let s := if s.bt.ppsAt.isSome then s.setReg R.TIME_PPS_PERIOD (w32 gap) else s
        let s := s.mapBt fun b => { b with ppsAt := some s.now }
        let s := (s.setRegBit R.TIME_STATUS 0 true).bump64 R.TIME_SEC_LO 1
        if s.regBit R.BEAT_STATUS 1 then s.firstEdge 0 s.now else s.ppsCapture

/-- PPS_LOSS: 1.1 s have passed without an accepted edge (R803). -/
def execPpsLoss (s : State) : Res :=
  .next <|
    match s.bt.ppsAt with
    | some t =>
      if s.regBit R.TIME_STATUS 0 then
        let s := { s with now := max s.now (t + 1100000000) }
        (((s.setRegBit R.TIME_STATUS 0 false).bump R.TIME_PPS_MISSING).mapBt fun b => { b with ppsAt := none }).raise 235
      else s
    | none => s

/-- TIME_10M_CHECK: each second TIME_10M is measured against REFCLK, `ppb` the difference, or something beyond any limit when it is
absent (R801); a felt PLL that uses it enters holdover without it. -/
def execTime10mCheck (ppb : Int) (s : State) : Res :=
  let ok := s.regBit R.TIME_CTRL 2 && decide (-50000 ≤ ppb) && decide (ppb ≤ 50000)
  let was := s.regBit R.TIME_STATUS 1
  let s := (s.setReg R.TIME_REF10_PPB (BitVec.ofInt 32 ppb)).setRegBit R.TIME_STATUS 1 ok
  let s := if ok = was then s else s.raise 235
  .next <|
    if ¬ ok ∧ s.running ∧ s.regField R.BEAT_STATUS 5 4 = 1 ∧ ¬ s.regBit R.BEAT_STATUS 6 then (s.setRegBit R.BEAT_STATUS 6 true).raise 243
    else s

/-! ### Vats -/

/-- Registers from `lo` up to `hi` return to what they read after reset. -/
def State.clearRegs (s : State) (lo hi : Nat) : State :=
  { s with regs := s.regs.filter fun e => decide (e.1 < lo) || decide (hi ≤ e.1) }

/-- A vat's own state is lost: its memories, registers, DRBG unit, PKE and key window. -/
def State.vatLost (s : State) (v : Nat) : State :=
  let a := 0x1000000000 + 0x1000000 * v
  ((((((s.wipe a 0x1000000).clearRegs a (a + 0x1000000)).setUnit v DrbgUnit.reset).setPke v PkeUnit.idle).wipeWindow v).mapBt fun b =>
    { b with up := b.up.filter (· != v) }).resetCore v true

/-- Vat `v` holds an admitted job that is not released. -/
def State.vatHolds (s : State) (v : Nat) : Bool := s.bt.jobs.any fun j => match j.onVat with | some p => p.1 == v | none => false

/-- VAT_POWER_GATE: a parked vat whose admitted jobs have released is power-gated (R48); its state is lost and its domain is off. -/
def execVatPowerGate (v : Vat) (s : State) : Res :=
  .next <|
    if s.regField (R.PMU_DOM_STATE v.val) 2 0 = 3 ∧ ¬ s.inAdmission v.val ∧ ¬ s.vatHolds v.val then
      (s.vatLost v.val).setRegField (R.PMU_DOM_STATE v.val) 2 0 0
    else s

end Sys2Proof.Machine
end

