-- ==== Sys2Proof/Machine/Sluice.lean ====
section
/-! DEFINITION. Sluice gates (R547 to R565): tables and entries, how an access is judged, writes of entries, the SLUICE sections of a
mould, and SLUICE_CLEAR. -/

namespace Sys2Proof.Machine

/-! ### Tables (R547) -/

/-- The region that the target of a device table holds: first fabric address and length. -/
def tableRegion (t : Nat) : Nat × Nat :=
  if t < 0x1A then (0x100000000 + 0x100000 * t, 0x100000)
  else match t with
    | 0x20 => (0, 0x40000)
    | 0x21 => (0x10000000, 0x800000)
    | 0x22 => (0x20000000, 0x400000)
    | 0x23 => (0x8000000000, 0x400000000)
    | _ => (0x8400000000, 0x400000000)

/-- A valid entry of a table. -/
structure SluiceEntry where
  base  : Nat
  size  : Nat
  sel   : Nat
  who   : Nat
  attrs : Nat
  deriving DecidableEq, Repr

/-- The entry that an ATTR word and a base spell. -/
def sluiceEntry (a : Word) (base : Nat) : SluiceEntry := ⟨base, field a 29 24, field a 18 16, field a 13 8, field a 5 0⟩

/-- The base of entry `n` of the device tables. -/
def State.sluiceBase (s : State) (n : Nat) : Nat :=
  s.regField (R.SLUICE_BASE n) 31 5 * 32 + s.regField (R.SLUICE_BASEH n) 11 0 * 2 ^ 32

/-- The base of entry `i` of a vat's local table. -/
def State.vslBase (s : State) (v i : Nat) : Nat := s.regField (R.VSL_BASE v i) 17 5 * 32

/-- The valid entries of device table `t`. -/
def State.deviceTable (s : State) (t : Nat) : List SluiceEntry :=
  (List.range (sluiceEntries t)).filterMap fun i =>
    let n := 128 * t + i
    let a := s.reg (R.SLUICE_ATTR n)
    if bit a 31 then some (sluiceEntry a (s.sluiceBase n)) else none

/-- The valid entries of the tile SRAM table of vat `v`. -/
def State.localTable (s : State) (v : Nat) : List SluiceEntry :=
  (List.range 32).filterMap fun i =>
    let a := s.reg (R.VSL_ATTR v i)
    if bit a 31 then some (sluiceEntry a (s.vslBase v i)) else none

/-! ### Judging an access (R549 to R551) -/

/-- An access as a sluice sees it: its core (64 and 65 the warden pairs), level, kind and address in the table's own terms. -/
structure SluiceAccess where
  core : Nat
  priv : Bool
  kind : Kind
  addr : Nat
  /-- The vat whose local table judges it, none for a device table. -/
  tile : Option Nat
  deriving DecidableEq, Repr

/-- An entry selects an access (R549). -/
def State.sluiceSelects (s : State) (e : SluiceEntry) (a : SluiceAccess) : Bool :=
  match e.sel with
  | 0 => a.tile == some a.core
  | 1 => decide (64 ≤ a.core)
  | 2 => decide (a.core < 64) && s.deckleOfVat a.core == some e.who
  | 3 => decide (a.core < 64) && a.core == e.who
  | 4 => true
  | _ => false

/-- An entry matches an access. -/
def State.sluiceMatches (s : State) (e : SluiceEntry) (a : SluiceAccess) : Bool :=
  s.sluiceSelects e a && decide (e.base ≤ a.addr) && decide (a.addr < e.base + 2 ^ e.size)

/-- Attribute bits R, W and X grant an access of a kind (R550). -/
def kindGranted (r w x : Bool) : Kind → Bool
  | .load => r
  | .store => w
  | .atomic => r && w
  | .fetch => x

/-- An entry grants a kind at a level. -/
def SluiceEntry.grants (e : SluiceEntry) (a : SluiceAccess) : Bool :=
  let o := if a.priv then 3 else 0
  kindGranted (nbit e.attrs o) (nbit e.attrs (o + 1)) (nbit e.attrs (o + 2)) a.kind

/-- The default map's attributes R, W and X for a privileged access at table `t` (R551). -/
def defaultMap (t : Nat) (a : SluiceAccess) : Bool × Bool × Bool :=
  match a.tile with
  | some v => if 64 ≤ a.core then (true, true, false) else if a.core = v then (true, true, true) else (false, false, false)
  | none =>
    if 64 ≤ a.core then (if t = 0x20 then (true, false, true) else if t = 0x21 then (true, true, true) else (true, true, false))
    else (t == 0, false, false)

/-- The SUB with which the sluice of table `t` refuses an access, none when it admits it. -/
def State.sluiceJudge (s : State) (t : Nat) (a : SluiceAccess) : Option Nat :=
  let table := match a.tile with | some v => s.localTable v | none => s.deviceTable t
  match table.filter fun e => s.sluiceMatches e a with
  | [] =>
    if a.priv then
      let m := defaultMap t a
      if kindGranted m.1 m.2.1 m.2.2 a.kind then none else some 4
    else some 1
  | [e] => if e.grants a then none else some 2
  | _ => some 3

/-- The word of SLUICE_LAST_INFO and VSL_LAST_INFO (R564). -/
def lastInfo (t : Nat) (a : SluiceAccess) (sub : Nat) : Nat :=
  t * 2 ^ 24 + b2n (decide (64 ≤ a.core)) * 2 ^ 23 + (if 64 ≤ a.core then a.core - 64 else a.core) * 2 ^ 17 + b2n a.priv * 2 ^ 16 +
    a.kind.code * 2 ^ 14 + sub

/-- The core of an access as a sender. -/
def SluiceAccess.sender (a : SluiceAccess) : Sender := .core ⟨a.core % 66, Nat.mod_lt _ (by decide)⟩ a.priv

/-- A refused access is counted, kept as the last one, recorded in error capture, and raises event 512 + v (R561, R563, R565);
`fa` is its fabric address. -/
def State.sluiceRefused (s : State) (t : Nat) (a : SluiceAccess) (sub fa : Nat) : State :=
  let s :=
    match a.tile with
    | some v =>
      ((s.bump (R.VSL_FAULTS v)).setReg (R.VSL_LAST_ADDR v) (w32 a.addr)).setReg (R.VSL_LAST_INFO v) (w32 (lastInfo 0 a sub))
    | none =>
      let s := s.bump R.SLUICE_FAULTS
      let s := if sub = 3 then s.bump R.SLUICE_OVERLAPS else s
      ((s.setReg R.SLUICE_LAST_ADDR_LO (w32 fa)).setReg R.SLUICE_LAST_ADDR_HI (w32 (fa / 2 ^ 32 % 4096))).setReg R.SLUICE_LAST_INFO
        (w32 (lastInfo t a sub))
  let s := s.errAt errSluice a.sender a.kind fa
  let s := if a.core < 64 then s.raise (512 + a.core) a.core else s
  match a.tile with
  | some v => if v ≠ a.core then s.raise (512 + v) v else s
  | none => s

/-! ### Writes of entries (R552 to R554) -/

/-- A write of ATTR that sets VALID is accepted (R552): `lo`, `len` the target's region. -/
def attrOk (a : Word) (base lo len : Nat) : Bool :=
  let n := field a 29 24
  decide (5 ≤ n) && decide (n ≤ 32) && decide (field a 18 16 ≤ 4) && base % 2 ^ n == 0 && decide (lo ≤ base) && decide (base + 2 ^ n ≤ lo + len)

/-- The writable bits of SLUICE_ATTR and VSL_ATTR (R562). -/
abbrev attrMask : Word := 0xFFFF3F3F
abbrev vslAttrMask : Word := 0xFF073F3F

/-- A write of ATTR of entry `n`. -/
def State.writeAttr (s : State) (who : Sender) (n : Nat) (v : Word) : State :=
  let k := R.SLUICE_ATTR n
  let w := v &&& attrMask
  if s.regBit k 30 then (if w = s.reg k then s else s.errAt errLocked who .store k)
  else
    let r := tableRegion (n / 128)
    if bit w 31 ∧ ¬ attrOk w (s.sluiceBase n) r.1 r.2 then s.errAt errRange who .store k else s.setReg k w

/-- A write of ATTR of entry `i` of vat `u`'s local table. -/
def State.writeVslAttr (s : State) (who : Sender) (u i : Nat) (v : Word) : State :=
  let k := R.VSL_ATTR u i
  let w := v &&& vslAttrMask
  if s.regBit k 30 then (if w = s.reg k then s else s.errAt errLocked who .store k)
  else if bit w 31 ∧ ¬ attrOk w (s.vslBase u i) 0 0x40000 then s.errAt errRange who .store k
  else s.setReg k w

/-- A write of a base register `k` whose entry's ATTR is at `ka`, with the bits of `mask`: refused while the entry is valid or locked. -/
def State.writeSluiceBase (s : State) (who : Sender) (k ka : Nat) (mask v : Word) : State :=
  let w := v &&& mask
  if s.regBit ka 30 then (if w = s.reg k then s else s.errAt errLocked who .store k)
  else if s.regBit ka 31 then s.errAt errIgnored who .store k
  else s.setReg k w

/-! ### SLUICE_CLEAR (R556) -/

/-- Every entry of an owner is made invalid and unlocked. -/
def State.clearOwner (s : State) (owner : Nat) : State :=
  (List.range 0x25).foldl (fun s t => (List.range (sluiceEntries t)).foldl (fun s i =>
    let k := R.SLUICE_ATTR (128 * t + i)
    if field (s.reg k) 23 19 = owner ∧ s.reg k ≠ 0 then s.setReg k (setField (s.reg k) 31 30 0) else s) s) s

/-- A write of SLUICE_CLEAR. -/
def State.sluiceClear (s : State) (who : Sender) (v : Word) : State :=
  if ¬ bit v 31 then s
  else
    let st := s.regField R.MOULD_STATUS 2 0
    let d := field v 4 0
    if st = 4 ∨ (st = 3 ∧ s.regField R.MOULD_STATUS 15 12 = d) then s.clearOwner d else s.errAt errIgnored who .store R.SLUICE_CLEAR

/-! ### SLUICE sections (R557 to R559) -/

/-- An entry of a SLUICE section. -/
structure SluiceLine where
  table : Nat
  size  : Nat
  sel   : Nat
  who   : Nat
  attrs : Nat
  base  : Nat
  raw   : Bytes
  deriving DecidableEq, Repr

def sluiceLine (b : Bytes) : SluiceLine := ⟨byteAt b 0, byteAt b 1, byteAt b 2, byteAt b 3, byteAt b 4, leAt b 8 8, b⟩

/-- The SLUICE section of a part: 0x0109 of a device part, 0x0208 of a deckle part. -/
def sluiceLines (p : Bytes) (t : Nat) : List SluiceLine := (chunks 16 (partSection p t)).map sluiceLine

/-- ATTR of a locked entry of an owner. -/
def SluiceLine.attr (e : SluiceLine) (owner : Nat) : Nat :=
  0xC0000000 + e.size * 2 ^ 24 + owner * 2 ^ 19 + e.sel * 2 ^ 16 + e.who * 2 ^ 8 + e.attrs

/-- The entry takes the lowest free index of its device table. -/
def State.placeEntry (s : State) (owner : Nat) (e : SluiceLine) : State :=
  match (List.range (sluiceEntries e.table)).find? fun i => !s.regBit (R.SLUICE_ATTR (128 * e.table + i)) 31 with
  | some i =>
    let n := 128 * e.table + i
    s.setRegs [(R.SLUICE_BASE n, e.base), (R.SLUICE_BASEH n, e.base / 2 ^ 32), (R.SLUICE_ATTR n, e.attr owner)]
  | none => s

/-- The device-table entries of a section. -/
def State.placeSection (s : State) (owner : Nat) (l : List SluiceLine) : State :=
  (l.filter fun e => decide (e.table < 0x25)).foldl (fun s e => s.placeEntry owner e) s

/-- The same for entries that a table may hold already, which are then left as they are. -/
def State.placeNew (s : State) (owner : Nat) (l : List SluiceLine) : State :=
  l.foldl (fun s e =>
    if (s.deviceTable e.table).contains ⟨e.base, e.size, e.sel, e.who, e.attrs⟩ then s else s.placeEntry owner e) s

/-- The local entries of vat `v`, written by its firmware when it joins. -/
def State.placeLocal (s : State) (v : Nat) (l : List SluiceLine) : State :=
  (((l.filter fun e => e.table == 0x40 + v).zipIdx).take 32).foldl (fun s p =>
    s.setRegs [(R.VSL_BASE v p.2, p.1.base), (R.VSL_ATTR v p.2, p.1.attr 0)]) s

/-- A range as its fewest aligned power-of-two regions of at most 4 GiB: bases with sizes. -/
def rangeRegions : Nat → Nat → Nat → List (Nat × Nat)
  | 0, _, _ => []
  | f + 1, a, n =>
    if n = 0 then []
    else
      match ((List.range 33).reverse).find? fun k => a % 2 ^ k == 0 && decide (2 ^ k ≤ n) with
      | some k => (a, k) :: rangeRegions f (a + 2 ^ k) (n - 2 ^ k)
      | none => []

/-- The allocation entries of deckle `d` in the HBM tables (R559). -/
def hbmEntries (r : Bytes) (d : Nat) : List SluiceLine :=
  (rangeRegions 256 (allocHbmBase r) (allocHbmSize r)).map fun p =>
    ⟨if p.1 < 0x8400000000 then 0x23 else 0x24, p.2, 2, d, 0x1B, p.1, []⟩

end Sys2Proof.Machine
end

