-- ==== Sys2Proof/Machine/MouldCheck.lean ====
section
/-! DEFINITION. The checks of MOULD_LOAD in the order of R454: image format, size, signer, signature, version, binding, vats,
allocation, carry-over, felt, audit keys, settings, tariffs, routes, sluice entries and user verbs. -/

namespace Sys2Proof.Machine

/-- Every pair of distinct positions of a list satisfies `p`. -/
def allPairs {α : Type} (p : α → α → Bool) : List α → Bool
  | [] => true
  | a :: l => l.all (p a) && allPairs p l

/-- Zero bytes at the offsets listed, each with its length. -/
def zerosAt (b : Bytes) (l : List (Nat × Nat)) : Bool := l.all fun p => allZero (slice b p.1 p.2)

/-- `lo ≤ n ≤ hi`. -/
def within (n lo hi : Nat) : Bool := decide (lo ≤ n) && decide (n ≤ hi)

/-! ### Step 1: format (R427 to R431, R434, R439, R957) -/

/-- The first 16 bytes of each of the first `n` sections with the room its data takes. -/
def sectionHeads : Nat → Bytes → List (Bytes × Bytes)
  | 0, _ => []
  | n + 1, b =>
    let len := roundUp 16 (leAt b 4 4)
    (slice b 0 16, b.drop 16 |>.take len) :: sectionHeads n (b.drop (16 + len))

/-- LEN and COUNT of a section of type `t`. -/
def sectionSize (t len count : Nat) : Bool :=
  match t with
  | 0x0101 => len == 16
  | 0x0102 => len == 2048 && count == 16
  | 0x0103 => decide (count ≤ 64) && len == 32 * count
  | 0x0104 => len == 16
  | 0x0105 => len == 16
  | 0x0106 => true
  | 0x0107 => len == 64 * count
  | 0x0108 => len == 1184
  | 0x0109 => len == 16 * count
  | 0x0201 => len == 64
  | 0x0202 => len == 128 && count == 16
  | 0x0203 => len == 32 && count == 8
  | 0x0204 => len == 32
  | 0x0205 => len == 16
  | 0x0206 => decide (count ≤ 64) && len == 32 * count
  | 0x0207 => decide (count ≤ 256) && len == 8 * count
  | 0x0208 => len == 16 * count
  | 0x0209 => decide (count ≤ 64)
  | 0x020A => len == 1184
  | _ => false

/-- The sections that a part of a type must hold. -/
def requiredSections (pt : Nat) : List Nat :=
  if pt = 1 then [0x0101, 0x0102, 0x0104, 0x0106, 0x0107, 0x0108] else if pt = 2 then [0x0201, 0x0202, 0x0203, 0x0204, 0x020A] else []

/-- A part's header, sections and signer block. -/
def partFormat (p : Bytes) : Bool :=
  let n := leAt p 6 2
  let so := partSigOff p
  let heads := sectionHeads n (p.drop 0x80)
  let types := heads.map fun h => leAt h.1 0 2
  leAt p 0 4 == 0x54524150 && within (partType p) 1 3 && leAt p 8 4 == p.length && p.length == so + 5408 && !allZero (partId p) &&
    allZero (slice p 0x50 48) && (partType p != 1 || (partDeckle p == 0xFF && allZero (partBind p))) &&
    (partType p == 1 || decide (partDeckle p ≤ 15)) && (partType p != 3 || n == 0) &&
    types.all (fun t => t / 256 == partType p) && types.Pairwise (· < ·) && (requiredSections (partType p)).all types.contains &&
    heads.all (fun h => zerosAt h.1 [(2, 2), (12, 4)] && sectionSize (leAt h.1 0 2) (leAt h.1 4 4) (leAt h.1 8 4) &&
      h.2.length == roundUp 16 (leAt h.1 4 4) && allZero (h.2.drop (leAt h.1 4 4))) &&
    0x80 + (heads.map fun h => 16 + h.2.length).sum == so &&
    leAt p so 2 == 0x4A && leAt p (so + 4) 4 == 2017 && leAt p (so + 8) 4 == 3373 && zerosAt p [(so + 2, 2), (so + 12, 4), (so + 0x151E, 2)]

/-- A directory entry repeats the header of the part it points to. -/
def directoryEntry (im : Bytes) (i : Nat) : Bool :=
  let e := slice im (0x20 + 16 * i) 16
  let off := leAt e 4 4
  let p := slice im off (leAt e 8 4)
  byteAt e 0 == partType p && byteAt e 1 == partDeckle p && leAt e 8 4 == leAt p 8 4 && zerosAt e [(2, 2), (12, 4)] && off % 16 == 0 &&
    decide (off + leAt e 8 4 ≤ im.length)

/-- The whole image (step 1). -/
def imageFormat (im : Bytes) : Bool :=
  let k := byteAt im 6
  let n := byteAt im 7
  let ps := imageParts im
  let ds := (ps.drop 1).map partDeckle
  leAt im 0 4 == 0x444D564E && leAt im 4 2 == 1 && decide (k ≤ 2) && leAt im 8 4 == im.length && allZero (slice im 12 20) &&
    (if k = 0 then within n 1 17 else n == 1) && (List.range n).all (directoryEntry im) && ps.all partFormat &&
    (if k = 0 then (ps.map partType).headD 0 == 1 && (ps.drop 1).all (fun p => partType p == 2) && ds.Pairwise (· < ·)
     else (ps.map partType).headD 0 == k + 1)

/-! ### The mould that would result -/

/-- A deckle's part put into a mould, or taken out with none. -/
def MouldSet.with (m : MouldSet) (d : Nat) (p : Option Bytes) : MouldSet :=
  let rest := m.parts.filter fun x => x.1 != d
  match p with
  | none => { m with parts := rest }
  | some p => { m with parts := rest.filter (fun x => x.1 < d) ++ [(d, p)] ++ rest.filter (fun x => d < x.1) }

/-- The image of a whole mould, as record 0x0200 holds it: a full mould image of its parts. -/
def composeMould (m : MouldSet) : Bytes :=
  let ps := m.device :: m.parts.map (·.2)
  let start := 32 + 16 * ps.length
  let offs := ps.foldl (fun (acc : List Nat × Nat) p => (acc.1 ++ [acc.2], acc.2 + roundUp 16 p.length)) ([], start)
  let dir := (ps.zip offs.1).map fun x => [by8 (partType x.1), by8 (partDeckle x.1), 0, 0] ++ leBytes 4 x.2 ++ leBytes 4 x.1.length ++ zeros 4
  leBytes 4 0x444D564E ++ leBytes 2 1 ++ [0, by8 ps.length] ++ leBytes 4 offs.2 ++ zeros 20 ++ dir.flatten ++
    (ps.map fun p => padTo (roundUp 16 p.length) p).flatten

/-- The part of a deckle image, empty in a full one. -/
def onlyPart (im : Bytes) : Bytes := (imageParts im).headD []

/-- The committed mould, empty when there is none. -/
def State.mould (s : State) : MouldSet := s.md.committed.getD ⟨[], []⟩

/-- The mould that the commit of an image would make. -/
def State.mouldAfter (s : State) (im : Bytes) : MouldSet :=
  match byteAt im 6 with
  | 0 => imageMould im
  | 1 => s.mould.with (partDeckle (onlyPart im)) (some (onlyPart im))
  | _ => s.mould.with (partDeckle (onlyPart im)) none

/-! ### Steps 3 to 7: signers, versions, binding, vats (R432, R433, R448, R435) -/

/-- The public key of a part's signer block. -/
def partKey (p : Bytes) : Bytes := slice p (partSigOff p + 0x10) 2017

/-- The owner mould key digest. -/
def State.ownerMould (s : State) : Bytes := s.regBytes (R.LIFE_OWNER_MOULD 0) 12

/-- The signer that a part must have, `dev` the device part that allocates its deckle. -/
def State.signerOk (s : State) (dev p : Bytes) : Bool :=
  let h := sha384 (partKey p)
  let holder := h == allocSigner (allocRec dev (partDeckle p))
  if partType p = 1 then h == s.ownerMould else if partType p = 2 then holder else holder || h == s.ownerMould

/-- A part's signature (R432): hybrid, over the digest of what stands before it. -/
def partSigned (p : Bytes) : Bool :=
  let so := partSigOff p
  let d := sha384 (p.take (so + 0x7F1))
  let ctx := ascii "NV64 MOULD"
  let sig := slice p (so + 0x7F1) 3373
  let k := partKey p
  ecdsaVerify p256 (k.take 65) d (sig.take 64) && mldsaVerify 0x48 (k.drop 65) ([1, by8 ctx.length] ++ ctx ++ oidBytes 0x22 ++ d) (sig.drop 64)

/-- The floor of a slot, 16 for the device (R448). -/
def State.floor (s : State) (d : Nat) : Nat := leAt ((s.deepData 0x0100).getD []) (4 * d) 4

def State.svnOk (s : State) (p : Bytes) : Bool := decide (s.floor (if partType p = 1 then 16 else partDeckle p) ≤ partSvn p)

/-- BIND of a deckle or removal part (step 6). -/
def bindOk (dev p : Bytes) : Bool :=
  let r := allocRec dev (partDeckle p)
  partType p == 1 || (partBind p == sha384 r && allocPresent r)

/-- Every vat that the allocation gives away is present (step 7). -/
def State.vatsOk (s : State) (dev : Bytes) : Bool :=
  (List.range 16).all fun d => (List.range 64).all fun v => !(nbit (allocVats (allocRec dev d)) v) || s.present v

/-! ### Step 8: allocation and namespaces (R437, R438, R441) -/

/-- Two numbers share no set bit below 64. -/
def disjoint64 (a b : Nat) : Bool := (List.range 64).all fun i => !(nbit a i && nbit b i)

/-- Two ranges do not meet. -/
def apart (a la b lb : Nat) : Bool := la == 0 || lb == 0 || decide (a + la ≤ b) || decide (b + lb ≤ a)

/-- A present deckle's HBM range (R437). -/
def hbmOk (r : Bytes) : Bool :=
  let b := allocHbmBase r
  let n := allocHbmSize r
  b % 0x10000000 == 0 && n % 0x10000000 == 0 && decide (0x20000000 ≤ n) && decide (0x8000000000 ≤ b) && decide (b + n ≤ 0x8700000000)

/-- The LBAs that a namespace takes on each port of its mask. -/
def Ns.perPort (n : Ns) : Nat := ceilDiv (ceilDiv n.blocks 16) (max 1 (maskPorts n.ports).length) * 16

/-- Two namespaces meet in no RBN, and in no LBA of one NVMe namespace of one port. -/
def nsApart (a b : Ns) : Bool :=
  apart a.rbn a.blocks b.rbn b.blocks &&
    (a.nsid != b.nsid || (maskPorts a.ports).all (fun p => !(maskPorts b.ports).contains p) || apart a.lba a.perPort b.lba b.perPort)

/-- Blocks that the nodes of all levels take (R407). -/
def treeNeed (blocks : Nat) : Nat := ceilDiv (nodeBase blocks 9) 8

/-- A device part's allocation, its namespaces, and its own needs (R438). -/
def allocOk (dev : Bytes) : Bool :=
  let rs := (List.range 16).map (allocRec dev)
  let ns := namespaces dev
  let has (k o : Nat) : Bool := ns.any fun n => n.kind == k && n.owner == o
  (rs.zipIdx).all (fun p => byteAt p.1 0 == p.2 && byteAt p.1 1 / 4 == 0 && zerosAt p.1 [(2, 6), (0x38, 8), (0x70, 16)] &&
    (allocPresent p.1 || (allZero (p.1.drop 2) && byteAt p.1 1 == 0))) &&
  allPairs (fun a b => disjoint64 (allocVats a) (allocVats b) && disjoint64 (allocPorts a) (allocPorts b) && disjoint64 (allocNs a) (allocNs b) &&
    apart (allocHbmBase a) (allocHbmSize a) (allocHbmBase b) (allocHbmSize b) &&
    apart (allocTrBase a) (allocTrCount a) (allocTrBase b) (allocTrCount b)) rs &&
  rs.all (fun r => !allocPresent r || (hbmOk r && decide (allocTrBase r + allocTrCount r ≤ 8388608))) &&
  ns.all (fun n => decide (n.kind ≤ 6) && decide (n.owner ≤ 16) && decide (n.rbn + n.blocks ≤ devBlocks dev) && n.ports != 0 &&
    (List.range 16).all fun d => !nbit (allocNs (allocRec dev d)) n.idx || n.owner == d) &&
  allPairs nsApart ns && has 0 16 && has 5 16 && ns.any (fun n => n.kind == 6 && decide (treeNeed (devBlocks dev) ≤ n.blocks)) &&
  (rs.zipIdx).all fun p => !allocPresent p.1 || (has 0 p.2 && has 1 p.2 && has 4 p.2 && (allocTrCount p.1 == 0 || has 2 p.2))

/-- What a deckle part needs of the namespaces that its deckle owns (R438, R441). -/
def partNeeds (dev p : Bytes) : Bool :=
  let d := partDeckle p
  let size (k : Nat) : Nat := (((namespaces dev).filter fun n => n.kind == k && n.owner == d).map (·.blocks)).sum
  let vault := nbit (polSym p) 1
  decide ((2 * 2097152 + rsvKtLimit p) / 16 < size 1) && decide (ceilDiv (rsvTrSpace p) 16 ≤ size 2) &&
    (!vault || (decide (0 < size 3) && decide (rsvBuckets p ≤ size 3)))

/-! ### Step 9: carry-over (R461) -/

/-- A kept deckle keeps its namespaces and the room of its indices. -/
def State.carryOk (s : State) (m : MouldSet) : Bool :=
  let old := s.mould
  (old.parts.filter fun x => (m.parts.lookup x.1).isSome).all fun x =>
    ((namespaces old.device).filter fun n => n.owner == x.1).all (fun n =>
      (namespaces m.device).any fun k => k.kind == n.kind && k.owner == n.owner && k.rbn == n.rbn && k.blocks == n.blocks) &&
    [0, 1, 2].all fun c => decide ((s.reg (ktNextOf x.1 c)).toNat ≤ rsvKtLimit ((m.parts.lookup x.1).getD []) + (if c = 0 then 1 else 16))
where
  /-- The register of the next index of a class. -/
  ktNextOf (d c : Nat) : Nat := if c = 0 then R.KEYS_KT_NEXT0 d else if c = 1 then R.KEYS_KT_NEXT1 d else R.KEYS_KT_NEXT2 d

/-! ### Step 11: audit keys (R374) -/

def auditKey (p : Bytes) : Bytes := partSection p (if partType p = 1 then 0x0108 else 0x020A)
def auditOk (p : Bytes) : Bool := partType p == 3 || mlkemCheck 0x55 (auditKey p)

/-! ### Step 12: settings (R434, R440, R441, R767, R768, R804, R956) -/

/-- An entry of LINKS. -/
def linkOk (dev e : Bytes) : Bool :=
  match byteAt e 0 with
  | 1 =>
    let fl := byteAt e 3
    zerosAt e [(6, 2), (0x0E, 2), (0x38, 8)] && decide (byteAt e 1 ≤ 63) &&
      (List.range 16).any (fun d => nbit (allocPorts (allocRec dev d)) (byteAt e 1)) && decide (byteAt e 2 ≤ 3) && decide (fl ≤ 3) &&
      (fl % 2 == 0 || decide (byteAt e 2 ≤ 1)) && decide (leAt e 4 2 ≤ 4094) && byteAt e 8 % 2 == 0
  | 2 => zerosAt e [(1, 1), (7, 57)] && decide (byteAt e 6 ≤ 1)
  | 3 =>
    zerosAt e [(3, 1), (8, 56)] && decide (byteAt e 1 ≤ 15) && within (byteAt e 2) 1 8 && [64, 128, 256, 512, 1024].contains (leAt e 4 2) &&
      within (leAt e 6 2) 10 1000
  | 4 => zerosAt e [(6, 58)] && within (byteAt e 1) 0x08 0x77 && decide (byteAt e 2 ≤ 2) && decide (byteAt e 3 ≤ 7) && within (leAt e 4 2) 133 3472
  | _ => false

/-- The entries of LINKS. -/
def linkEntries (dev : Bytes) : List Bytes := chunks 64 (partSection dev 0x0107)

/-- LINKS as a whole: at most one entry of KIND 2 and of KIND 4, one of KIND 1 or 3 for each port, and one for every port of a
namespace. -/
def linksOk (dev : Bytes) : Bool :=
  let l := linkEntries dev
  let key (e : Bytes) : Nat × Nat := (byteAt e 0, if byteAt e 0 % 2 = 1 then byteAt e 1 else 0)
  l.all (linkOk dev) && allPairs (fun a b => key a != key b) l &&
    (namespaces dev).all fun n => (maskPorts n.ports).all fun q => l.any fun e => key e == (3, q)

/-- A POND section (R804). -/
def pondOk (dev : Bytes) : Bool :=
  let p := partSection dev 0x0105
  let m := byteAt p 0
  let ms := leAt p 2 2
  !hasSection dev 0x0105 ||
    (decide (m ≤ 15) && nbit ms m && leAt p 4 4 != 0 && allZero (slice p 8 8) && decide (16 ≤ devHalfUs dev) &&
      (byteAt (partSection dev 0x0101) 1 == 2 || (List.range m).all fun i => !nbit ms i))

/-- BEAT, DEVICE, LINKS and POND of a device part. -/
def deviceSettings (dev : Bytes) : Bool :=
  let b := partSection dev 0x0101
  let e := partSection dev 0x0104
  (byteAt b 0 == 0 || within (byteAt b 0) 10 100) && decide (byteAt b 1 ≤ 2) && decide (byteAt b 2 ≤ 1) && allZero (slice b 3 13) &&
    within (devBlocks dev) 1 (2 ^ 34) && within (devRdDelay dev) 8 4095 && within (devStale dev) 1 64 && allZero (slice e 11 5) &&
    linksOk dev && pondOk dev

/-- POLICY, tables, RESERVOIR and MIRROR of a deckle part, under the device part that allocates it. -/
def deckleSettings (dev p : Bytes) : Bool :=
  let y := partSection p 0x0201
  let r := partSection p 0x0204
  let x := partSection p 0x0205
  let t := partSet p
  let backed := rsvFlags p % 4 != 0
  let tr := allocTrCount (allocRec dev (partDeckle p))
  let vault := nbit (polSym p) 1
  let members := if hasSection dev 0x0105 then leAt (partSection dev 0x0105) 2 2 else 1
  (w32 (polSym p) &&& ~~~(0x7E : Word) == 0) && macLenOk t.macLen && field t.macLen 31 24 == 0 &&
    (w32 (polPke p) &&& ~~~(0x7F0 : Word) == 0) && pkePolicyOk t.pkePolicy && (t.pkeAlgEn &&& ~~~(0x3F03FF : Word) == 0) &&
    decide (leAt y 16 2 ≤ 4095) && decide (polExpert p ≤ 7) && (polDiag p == 0 || polDiag p == 1 || polDiag p == 3) &&
    decide (byteAt y 0x14 ≤ 1) && allZero (slice y 0x15 43) && t.dectab.all dectabOk &&
    t.tokprof.all (fun w => tokprofOk w && w &&& ~~~(0x800003FF : Word) == 0) &&
    decide (rsvFlags p ≤ 3) && zerosAt r [(1, 1), (7, 1), (0x14, 12)] &&
    (if backed then within (rsvSurcharge p) 1 4095 else rsvSurcharge p == 0) && decide (rsvBudget p ≤ 1024) &&
    (rsvSurcharge p == 0 || rsvBudget p != 0) && (rsvSweep p != 0) == (vault || tr != 0) &&
    within (rsvTrSpace p) tr 8388608 && (nbit (rsvFlags p) 0 || rsvTrSpace p == tr) && within (rsvKtLimit p) 1 2097151 &&
    (vault || rsvBuckets p == 0) &&
    decide (mirFlags p ≤ 3) && zerosAt x [(1, 1), (4, 12)] &&
    (List.range 16).all fun m => !nbit (mirList p) m || (hasSection dev 0x0105 && nbit members m && m != pondMember dev)

/-! ### Steps 13 and 14: tariffs and routes (R442, R443) -/

/-- VERB and ALG of an entry name a row of R76 or R77. -/
def tariffRow (c a : Nat) : Bool :=
  stdVerb c &&
    (if pkVerb c then pkeTariff c a != 0
     else if c = 0x0103 ∨ c = 0x0104 then decide (a ≤ 9)
     else if c = 0x0303 then a == 0 || within a 0x21 0x26
     else a == 0)

def tariffsOk (p : Bytes) : Bool :=
  let l := tariffs p
  ((chunks 8 (partSection p 0x0207)).all fun e => byteAt e 3 == 0) &&
    l.all (fun e => tariffRow e.1 e.2.1 && within e.2.2 (tableTariff e.1 e.2.1) 1048575) &&
    allPairs (fun a b => a.1 != b.1 || a.2.1 != b.2.1) l

/-- Two routes' address prefixes overlap. -/
def prefixMeet (a b : Bytes) : Bool :=
  let bits := if byteAt a 1 = 4 then 32 else 128
  let n := min (byteAt a 4) (byteAt b 4)
  let top (r : Bytes) : Nat := beNat (slice r 8 (bits / 8)) / 2 ^ (bits - n)
  top a == top b

def routesOk (dev p : Bytes) : Bool :=
  let l := routes p
  l.all (fun r => decide (byteAt r 0 ≤ 63) && nbit (allocPorts (allocRec dev (partDeckle p))) (byteAt r 0) &&
    (byteAt r 1 == 4 || byteAt r 1 == 6) && leAt r 2 2 != 0 && decide (byteAt r 4 ≤ if byteAt r 1 = 4 then 32 else 128) &&
    zerosAt r [(5, 3), (0x18, 8)] && (byteAt r 1 == 6 || allZero (slice r 12 12))) &&
  allPairs (fun a b => !(byteAt a 0 == byteAt b 0 && byteAt a 1 == byteAt b 1 && leAt a 2 2 == leAt b 2 2 && prefixMeet a b)) l

/-! ### Step 15: sluice entries (R552, R558) -/

/-- An entry in itself. -/
def lineOk (e : SluiceLine) : Bool :=
  let loc := within e.table 0x40 0x7F
  let r := if loc then (0, 0x40000) else tableRegion e.table
  (loc || decide (e.table < 0x1A) || within e.table 0x20 0x24) && within e.size 5 32 && decide (e.sel ≤ 4) && (e.sel != 0 || loc) &&
    (if e.sel = 2 then decide (e.who ≤ 15) else if e.sel = 3 then decide (e.who ≤ 63) else e.who == 0) && decide (e.attrs ≤ 63) &&
    allZero (slice e.raw 5 3) && e.base % 2 ^ e.size == 0 && decide (r.1 ≤ e.base) && decide (e.base + 2 ^ e.size ≤ r.1 + r.2)

/-- Two entries of one table could select a common requester. -/
def common (dev : Bytes) (a b : SluiceLine) : Bool :=
  let deckleHas (d v : Nat) : Bool := nbit (allocVats (allocRec dev d)) v
  match a.sel, b.sel with
  | 4, _ => true
  | _, 4 => true
  | 0, 0 => true
  | 0, 2 => deckleHas b.who (a.table - 0x40)
  | 2, 0 => deckleHas a.who (b.table - 0x40)
  | 0, 3 => b.who == a.table - 0x40
  | 3, 0 => a.who == b.table - 0x40
  | 1, 1 => true
  | 2, 2 => a.who == b.who
  | 3, 3 => a.who == b.who
  | 2, 3 => deckleHas a.who b.who
  | 3, 2 => deckleHas b.who a.who
  | _, _ => false

/-- Neither overlaps the other for a common requester. -/
def linesApart (dev : Bytes) (a b : SluiceLine) : Bool :=
  a.table != b.table || apart a.base (2 ^ a.size) b.base (2 ^ b.size) || !common dev a b

/-- A deckle's entry lies within what the deckle owns and selects only it or its vats. -/
def lineOwned (dev : Bytes) (d : Nat) (e : SluiceLine) : Bool :=
  let r := allocRec dev d
  let inside (lo n : Nat) : Bool := decide (lo ≤ e.base) && decide (e.base + 2 ^ e.size ≤ lo + n)
  (if 0x40 ≤ e.table then nbit (allocVats r) (e.table - 0x40)
   else if e.table = 0x10 then (List.range 64).any fun p => nbit (allocPorts r) p && inside (R.NETW_STATUS p) 0x4000
   else if e.table = 0x11 then inside (R.HOSTIF_STATUS (d + 1)) 0x8000
   else (e.table == 0x23 || e.table == 0x24) && inside (allocHbmBase r) (allocHbmSize r)) &&
  (if e.sel = 0 then true else if e.sel = 2 then e.who == d else e.sel == 3 && nbit (allocVats r) e.who)

/-- The entries that a mould places, and the room of every table. -/
def tablesFit (m : MouldSet) : Bool :=
  let all := sluiceLines m.device 0x0109 ++ (m.parts.map fun x => sluiceLines x.2 0x0208).flatten
  all.all fun e => decide ((all.filter fun x => x.table == e.table).length ≤ if 0x40 ≤ e.table then 32 else sluiceEntries e.table)

def sluiceOk (m : MouldSet) (p : Bytes) : Bool :=
  let dl := sluiceLines m.device 0x0109
  if partType p = 1 then dl.all lineOk && allPairs (linesApart p) dl && tablesFit m
  else
    let l := sluiceLines p 0x0208
    l.all (fun e => lineOk e && lineOwned m.device (partDeckle p) e) && allPairs (linesApart m.device) (dl ++ l) && tablesFit m

/-! ### Step 16: user verbs (R444, R445) -/

/-- The raw records of a USER_VERBS section. -/
def userRaws : Nat → Bytes → List Bytes
  | 0, _ => []
  | n + 1, b =>
    let len := roundUp 16 (96 + leAt b 0x1C 4 + leAt b 0x20 4)
    slice b 0 len :: userRaws n (b.drop len)

def userOk (u : UserVerb) : Bool :=
  let cl := u.prog.length
  userCode u.code && within u.slots 1 16 && decide (u.flags ≤ 7) && within u.tariff 1 65535 && decide (u.inMax ≤ 16777216) &&
    decide (u.outPerIn ≤ 1) && cl % 4 == 0 && decide (4 ≤ cl) && u.entry % 4 == 0 && decide (u.entry < cl) && u.stack % 16 == 0 &&
    within u.stack 16 (2048 * u.slots) && decide (ceilDiv u.cycles (250 * u.slots) + 1 ≤ u.tariff) && decide (u.lines ≤ 76 * u.slots) &&
    u.digest == sha384 (u.prog ++ u.data)

def usersOk (p : Bytes) : Bool :=
  let l := userVerbs p
  let raws := match (partSections p).find? (fun x => x.type == 0x0209) with | some x => userRaws x.count x.data | none => []
  raws.all (fun r => zerosAt r [(0x0E, 2), (0x2C, 4)]) && l.all userOk && allPairs (fun a b => a.code != b.code) l &&
    decide ((l.map fun u => u.prog.length + u.data.length).sum ≤ 98304) &&
    (raws.map (·.length)).sum == (partSection p 0x0209).length

/-! ### The checks -/

/-- Every check of R454 on an image, with its reason. -/
def State.mouldChecks (s : State) (im : Bytes) : List (Bool × Nat) :=
  let m := s.mouldAfter im
  let ps := imageParts im
  let full := byteAt im 6 == 0
  let dps := ps.filter fun p => partType p == 2
  [(imageFormat im, 0x5001), (decide ((composeMould m).length ≤ 1245152), 0x500F), (ps.all (s.signerOk m.device), 0x5003),
   (ps.all partSigned, 0x5002), (ps.all s.svnOk, 0x5004), (ps.all (bindOk m.device), 0x5005), (!full || s.vatsOk m.device, 0x5006),
   ((!full || allocOk m.device) && dps.all (partNeeds m.device), 0x5007), (!full || s.carryOk m, 0x500E),
   (!full || Config.feltFits m.device, 0x5008), (ps.all auditOk, 0x500A),
   ((!full || deviceSettings m.device) && dps.all (deckleSettings m.device), 0x500C), (dps.all tariffsOk, 0x5009),
   (dps.all (routesOk m.device), 0x500D), ((ps.filter fun p => partType p != 3).all (sluiceOk m), 0x5015), (dps.all usersOk, 0x500B)]

end Sys2Proof.Machine
end

