-- ==== Sys2Proof/Machine/Mould.lean ====
section
/-! DEFINITION. Loading a mould into the device and its deckles (R434, R463, R467, R470 to R473), and the mould commands (R450 to
R466). -/

namespace Sys2Proof.Machine

/-! ### The device part (R434, R767, R768, R804, R812) -/

/-- The LINKS entry of a kind and port. -/
def linkEntry (dev : Bytes) (kind port : Nat) : Option Bytes :=
  (linkEntries dev).find? fun e => byteAt e 0 == kind && (kind % 2 == 0 || byteAt e 1 == port)

/-- Network port `p`'s settings. -/
def State.loadPort (s : State) (p : Nat) : State :=
  let owner := match s.deckleOfPort p with | some d => d | none => 0xFF
  let s := s.setRegField (R.NETW_STATUS p) 31 24 owner
  match linkEntry s.dev 1 p with
  | some e =>
    let s := s.setRegs [(R.NETW_MODE p, byteAt e 2 + byteAt e 3 * 256 + leAt e 4 2 * 65536), (R.NETW_MAC_LO p, leAt e 8 4),
      (R.NETW_MAC_HI p, leAt e 12 2), (R.NETW_IPV4 p, leAt e 0x10 4)]
    s.setRegBytes (R.NETW_IPV6 p 0) (slice e 0x28 16)
  | none => s

/-- UNITS of the pond (R812), at a beat of `h` half microseconds. -/
def pondUnits (h : Nat) : Nat := min 255 (((500 * h - 6400) * 27 - 3072) / 4096)

/-- The device part is loaded (R434, R436). -/
def State.loadDevice (s : State) : State :=
  let dev := s.dev
  let b := partSection dev 0x0101
  let h := devHalfUs dev
  let s := (s.setReg R.BEAT_PERIOD (w32 h)).setReg R.BEAT_CTRL (w32 (byteAt b 1 * 16 + byteAt b 2 * 8))
  let s := s.setRegs [(R.RESV_BLOCKS_LO, devBlocks dev), (R.RESV_BLOCKS_HI, devBlocks dev / 2 ^ 32), (R.JOURNAL_CTRL, devRdDelay dev),
    (R.KEYS_CTRL, devStale dev)]
  let s := (namespaces dev).foldl (fun s n => s.setRegs
    [(R.RESV_NS_CFG n.idx, 2 ^ 31 + n.kind * 2 ^ 24 + n.owner * 2 ^ 16), (R.RESV_NS_PORTS n.idx, n.ports), (R.RESV_NS_NSID n.idx, n.nsid),
     (R.RESV_NS_LBA_LO n.idx, n.lba), (R.RESV_NS_LBA_HI n.idx, n.lba / 2 ^ 32), (R.RESV_NS_RBN_LO n.idx, n.rbn),
     (R.RESV_NS_RBN_HI n.idx, n.rbn / 2 ^ 32), (R.RESV_NS_BLOCKS n.idx, n.blocks)]) s
  let s := s.setReg (R.JOURNAL_RING 16) (w32 (((s.nsFind 0 16).map (·.blocks)).getD 0))
  let p := partSection dev 0x0105
  let s := if hasSection dev 0x0105 then
      s.setRegs [(R.KEYS_MEMBER, byteAt p 0), (R.ULOON_POND_CFG, byteAt p 0 + byteAt p 1 * 256 + leAt p 2 2 * 65536),
        (R.ULOON_POND_ID, leAt p 4 4), (R.ULOON_UNITS, pondUnits h)]
    else s
  let s := (List.range 64).foldl State.loadPort s
  let s := (List.range 16).foldl (fun s q =>
    match linkEntry dev 3 q with
    | some e => s.setReg (R.RESPORT_CFG q) (w32 (byteAt e 2 + leAt e 4 2 * 16 + leAt e 6 2 * 65536))
    | none => s) s
  let g := (linkEntry dev 4 0).getD ([4, 0x1D, 0, 5] ++ leBytes 2 3472)
  let s := s.setRegs [(R.MGMT_SMB_CTRL, byteAt g 1 + byteAt g 2 * 256), (R.MGMT_UART_CTRL, leAt g 4 2), (R.TIME_CTRL, byteAt g 3),
    (R.HBMC_QUOTA 0, 125 * h), (R.HBMC_QUOTA 1, 125 * h)]
  s.placeSection 16 (sluiceLines dev 0x0109)

/-! ### A deckle (R463) -/

/-- The routes of a port, as the deckle's part lists them. -/
def State.loadRoutes (s : State) (p : Nat) (l : List Bytes) : State :=
  let s := s.clearRegs (R.NETW_ROUTE p 0 0) (R.NETW_ROUTE p 64 0)
  (((l.filter fun r => byteAt r 0 == p).zipIdx).take 64).foldl (fun s x => s.setRegBytes (R.NETW_ROUTE p x.2 0) x.1) s

/-- The ports of deckle `d`. -/
def State.portsOf (s : State) (d : Nat) : List Nat := (List.range 64).filter fun p => s.deckleOfPort p == some d

/-- What the mould in force says of deckle slot `d` (R470, R473). -/
def State.mouldDeckleRegs (s : State) (d : Nat) : State :=
  let r := s.alloc d
  match s.part? d with
  | some p =>
    s.setRegs [(R.MOULD_D_ID_LO d, leNat (partId p)), (R.MOULD_D_ID_HI d, leNat (partId p) / 2 ^ 32), (R.MOULD_D_SVN d, partSvn p),
      (R.MOULD_D_UVERBS d, (userVerbs p).length),
      (R.MOULD_D_CFG d, polExpert p * 256 + b2n (allocSelf r) * 32 + b2n (polReplay p) * 16 + polDiag p / 2 % 2 * 8 + polDiag p % 2 * 4 + 1)]
  | none =>
    s.setRegs [(R.MOULD_D_ID_LO d, 0), (R.MOULD_D_ID_HI d, 0), (R.MOULD_D_SVN d, 0), (R.MOULD_D_UVERBS d, 0),
      (R.MOULD_D_CFG d, if allocPresent r then 2 + b2n (allocSelf r) * 32 else 0)]

/-- The registers of the mould as a whole. -/
def State.mouldRegs (s : State) : State :=
  let dev := s.dev
  let bits (f : Nat → Bool) : Nat := ((List.range 16).map fun d => if f d then 2 ^ d else 0).sum
  let s := s.setRegs [(R.MOULD_GEN, s.deepGen 0x0200), (R.MOULD_SIZE, ((s.deepData 0x0200).getD []).length),
    (R.MOULD_ID_LO, leNat (partId dev)), (R.MOULD_ID_HI, leNat (partId dev) / 2 ^ 32), (R.MOULD_SVN, partSvn dev), (R.MOULD_FLOOR, s.floor 16),
    (R.MOULD_PRESENT, bits (fun d => (s.part? d).isSome) + 65536 * bits fun d => allocPresent (s.alloc d) && (s.part? d).isNone)]
  (List.range 16).foldl (fun s d => (s.mouldDeckleRegs d).setReg (R.MOULD_D_FLOOR d) (w32 (s.floor d))) s

/-- The settings of deckle `d` are loaded, its vats' own apart (R463). -/
def State.loadDeckle (s : State) (d : Nat) : State :=
  let r := s.alloc d
  match s.part? d with
  | none =>
    let s := s.setRegs [(R.KEYS_DCFG d, 0), (R.RESV_DCFG d, 0), (R.RESV_BUDGET d, 0), (R.RESV_SWEEP d, 0), (R.COUCH_DIAG d, 0),
      (R.HOSTIF_STATUS (d + 1), (s.reg (R.HOSTIF_STATUS (d + 1))).toNat / 2 % 4 * 2)]
    (s.portsOf d).foldl (fun s p => s.loadRoutes p []) s
  | some p =>
    let f := rsvFlags p
    let s := s.mapMd fun m => { m with sets := m.sets.set d (partSet p) }
    let s := s.setRegs [(R.ADMIT_WAIT_LIMIT d, polWait p), (R.COUCH_DIAG d, polDiag p), (R.RESV_DCFG d, f * 65536 + rsvSurcharge p),
      (R.RESV_BUDGET d, rsvBudget p), (R.RESV_SWEEP d, rsvSweep p), (R.KEYS_TR_SPACE d, rsvTrSpace p), (R.KEYS_KT_LIMIT d, rsvKtLimit p),
      (R.KEYS_TR_BASE d, allocTrBase r), (R.KEYS_TR_COUNT d, allocTrCount r), (R.KEYS_MIRROR_LIST d, mirList p),
      (R.JOURNAL_RING d, ((s.nsFind 0 d).map (·.blocks)).getD 0)]
    let s := s.setRegField (R.KEYS_DCFG d) 4 0 (mirFlags p / 2 * 16 + f % 2 * 8 + mirFlags p % 2 * 4 + 3)
    let s := s.setReg (R.HOSTIF_STATUS (d + 1)) (w32 ((s.reg (R.HOSTIF_STATUS (d + 1))).toNat / 2 % 4 * 2 + 1 + d * 256))
    let s := s.mapBt fun b => { b with waits := b.waits.set d (polWait p) }
    let s := (s.portsOf d).foldl (fun s q => s.loadRoutes q (routes p)) s
    (s.placeSection d (sluiceLines p 0x0208)).placeNew 16 (hbmEntries r d)

/-- A vat loads the settings of its deckle and its own sluice entries, and its firmware places the code and data of the deckle's user
verbs (R446, R463, R557). -/
def State.loadVat (s : State) (v : Nat) : State :=
  match s.deckleOfVat v with
  | none => s
  | some d =>
    let p := s.part d
    let s := (s.loadVatSet v (s.dset d)).placeLocal v (sluiceLines s.dev 0x0109 ++ sluiceLines p 0x0208)
    s.write (0x1000020000 + 0x1000000 * v) (userImage (userVerbs p))

/-! ### Chains of deckles (R465) -/

/-- Chain `k` is created: SEQ from 1, its BOOT record with a head of zero bytes, and its first seal epoch (R368, R373, R465). -/
def State.createChain (s : State) (k : Nat) : State :=
  let s := (s.setChain k { Chain.none with present := true }).setRegs
    [(R.JOURNAL_SEQ_LO k, 1), (R.JOURNAL_SEQ_HI k, 0), (R.JOURNAL_JBN_LO k, 0), (R.JOURNAL_JBN_HI k, 0), (R.JOURNAL_DUR k, 0),
     (R.JOURNAL_ARCH k, 0), (R.JOURNAL_REL k, 0)]
  (s.queueRec (plainRec (if k = 16 then 1 else 3) k 0x15 2 (zeros 48) [])).startEpoch k

/-- Deckle `d`'s record slots, its vault and its keys are gone with its DMK (R294). -/
def State.removeDeckle (s : State) (d : Nat) : State :=
  let s := (s.deepErase (0x10 + d)).setChain d Chain.none
  let s := s.clearRegs (R.JOURNAL_SEQ_LO d) (R.JOURNAL_SEQ_LO (d + 1))
  let keep (r : KeyRec) : Bool := r.deckle != d
  s.mapKs fun k => { k with
    dmk := k.dmk.filter fun x => x.1 != d
    recs := k.recs.filter keep
    slotA := k.slotA.filter keep
    slotB := k.slotB.filter keep
    vault := k.vault.filter fun e => e.deckle != d
    ctrs := k.ctrs.filter fun c => c.deckle != d
    transport := k.transport.filter fun x => x.1 != d }

/-- A DMK is drawn and committed as DECKLE_MASTER[d] (R294), and the deckle's first indices are 1, or by member (R298, R299). -/
def State.createDeckle (s : State) (d : Nat) : State :=
  let key := s.freeBytes 32
  let s := s.tookFree 32
  let s := s.deepWrite (0x10 + d) (deepWrapped key (s.deepGen (0x10 + d) + 1))
  let s := s.mapKs fun k => { k with dmk := (d, key) :: k.dmk.filter fun x => x.1 != d }
  let m := s.member
  let first := if m = 0 then 16 else m
  s.setRegs [(R.KEYS_KT_NEXT0 d, 1), (R.KEYS_KT_NEXT1 d, first), (R.KEYS_KT_NEXT2 d, first)]

/-! ### Floors (R448, R449) -/

/-- Every part's floor rises to its SVN where it is lower; answers whether one did. -/
def State.raiseFloors (s : State) (m : MouldSet) : State × Bool :=
  let want (d : Nat) : Nat :=
    max (s.floor d) (if d = 16 then partSvn m.device else match m.parts.lookup d with | some p => partSvn p | none => 0)
  if (List.range 17).all fun d => want d == s.floor d then (s, false)
  else (s.deepWrite 0x0100 ((List.range 17).map fun d => leBytes 4 (want d)).flatten, true)

/-! ### MOULD records (R460) -/

/-- The MOULD record of an OP. -/
def State.mouldRecord (s : State) (op d : Nat) (p : Bytes) : State :=
  s.queueRec { plainRec 1 16 0x16 2 [] [] with
    clear := [by8 op, by8 d, 0, 0] ++ leBytes 4 (s.deepGen 0x0200) ++ partId p ++ leBytes 4 (partSvn p) ++ zeros 4 ++ sha384 p ++ zeros 24 }

/-! ### MOULD_LOAD (R452 to R454) -/

/-- The target of a staging area: a deckle, 16 for the whole. -/
def mouldTarget (b : Bytes) : Nat := if byteAt b 0x20 = 0 then 16 else byteAt b 0x21

/-- A staging area given an image, or emptied. -/
def State.stageAt (s : State) (t : Nat) (im : Option Bytes) : State :=
  s.mapMd fun m =>
    if t = 16 then { m with stagedFull := im }
    else { m with staged := (m.staged.filter fun x => x.1 != t) ++ (match im with | some i => [(t, i)] | none => []) }

/-- The image in a staging area. -/
def State.stagedAt (s : State) (t : Nat) : Option Bytes := if t = 16 then s.md.stagedFull else s.md.staged.lookup t

/-- STATE of MOULD_STATUS. -/
def State.mouldState (s : State) : Nat := s.regField R.MOULD_STATUS 2 0

/-- A commit is committing, applying or restarting the device. -/
def State.committing (s : State) : Bool := decide (2 ≤ s.mouldState) && decide (s.mouldState ≤ 4)

/-- A mould command is refused at the next edge with a reason. -/
def State.refuseMould (s : State) (job r : Nat) : State :=
  (s.setReg R.MOULD_LAST_REASON (w32 r)).answerCmd job s.nextEdge clsRefused r (zeros 16) []

/-- MOULD_LOAD: its target's staging area gives way to the image, whose checks begin; refused while a commit is at work. -/
def execMouldLoad (job : Nat) (s : State) : Res :=
  .next <|
    match s.command job 0x8010 with
    | none => s
    | some j =>
      if s.md.loads.any fun l => l.1 == job then s
      else if s.committing then s.refuseMould job 0x5013
      else
        let t := mouldTarget j.desc
        let r := (firstFail (s.mouldChecks j.input)).getD 0
        (s.stageAt t none).mapMd fun m => { m with loads := m.loads ++ [(job, t, r, j.input)] }

/-- The part whose MOULD_ID and SVN a load answers. -/
def imageHead (im : Bytes) : Bytes := (imageParts im).headD []

/-- MOULD_LOAD_COMPLETE: the checks of a load have ended; it is answered at the first edge after. -/
def execMouldLoadComplete (job : Nat) (s : State) : Res :=
  .next <|
    match s.md.loads.find? fun l => l.1 == job with
    | none => s
    | some (_, t, r, im) =>
      let s := s.mapMd fun m => { m with loads := m.loads.filter fun l => l.1 != job }
      if r ≠ 0 then s.refuseMould job r
      else
        let p := imageHead im
        (s.stageAt t (some im)).answerCmd job s.nextEdge clsOk 0 (partId p ++ leBytes 4 (partSvn p) ++ zeros 4) []

/-- MOULD_ABANDON: the named staging area is emptied. -/
def execMouldAbandon (job : Nat) (s : State) : Res :=
  .next <|
    match s.command job 0x8012 with
    | none => s
    | some j => (s.stageAt (mouldTarget j.desc) none).answerCmd job s.nextEdge clsOk 0 (zeros 16) []

/-! ### MOULD_COMMIT (R456 to R466) -/

/-- Deckles with a committed part. -/
def MouldSet.deckles (m : MouldSet) : List Nat := m.parts.map (·.1)

/-- Deckle `d` has been drained and holds no job (step 4 of R457). -/
def State.drainedDry (s : State) (d : Nat) : Bool :=
  (s.bt.drains.any fun x => x.done && x.deckle == d && x.queue == none) &&
    !s.bt.jobs.any fun j => j.deckle == d && (match j.stage with | .command => false | _ => true)

/-- Everything of deckle `d`'s chain is archived (step 5). -/
def State.archived (s : State) (d : Nat) : Bool :=
  (s.reg (R.JOURNAL_ARCH d)).toNat == s.nextJbn d % 2 ^ 32 && (s.chain d).openRecs.isEmpty

/-- The checks of R457 on the image `im` for target `t`. -/
def State.commitChecks (s : State) (im : Bytes) (t : Nat) : List (Bool × Nat) :=
  let m := s.mouldAfter im
  let old := s.mould
  let scope := if t = 16 then old.deckles else [t]
  let gone := old.deckles.filter fun d => (m.parts.lookup d).isNone
  let mirror (p : Bytes) : Nat × Nat := (mirFlags p, mirList p)
  [(!s.committing && s.regBit R.MOULD_CTRL (if t = 16 then 1 else 0), 0x5013), ((imageParts im).all s.svnOk, 0x5004),
   (scope.all s.drainedDry || (t != 16 && (old.parts.lookup t).isNone), 0x5010), (gone.all s.archived, 0x5011),
   (t == 16 || !hasSection (onlyPart im) 0x0205 || mirror (onlyPart im) == mirror (s.part t) || !s.regBit R.KEYS_CTRL 31, 0x5016)]

/-- The commit of the mould `m` (R459): masters of created deckles, record 0x0200, MOULD records, floors, masters of removed ones. -/
def State.commitMould (s : State) (m : MouldSet) (op d : Nat) (p : Bytes) : State :=
  let old := s.mould
  let made := m.deckles.filter fun x => (old.parts.lookup x).isNone
  let gone := old.deckles.filter fun x => (m.parts.lookup x).isNone
  let s := made.foldl State.createDeckle s
  let s := s.deepWrite 0x0200 (composeMould m)
  let s := s.mapMd fun k => { k with committed := some m }
  let s := s.mouldRecord op d p
  let s := made.foldl (fun s x => s.mouldRecord 3 x ((m.parts.lookup x).getD [])) s
  let s := gone.foldl (fun s x => s.mouldRecord 4 x ((old.parts.lookup x).getD [])) s
  let s := (s.raiseFloors m).1
  gone.foldl (fun s x => s.deepErase (0x10 + x)) s

/-- A deckle commit applies (R463): the deckle's vats leave admission, are reset, and its settings are loaded. -/
def State.applyDeckle (s : State) (d : Nat) (m : MouldSet) : State :=
  let had := (s.part? d).isSome
  let has := (m.parts.lookup d).isSome
  let s := (s.vatsOf d).foldl (fun s v =>
    let stays := s.maskBit R.PMU_PARK_FAULT_LO v || s.maskBit R.PMU_PARK_THERM_LO v || s.maskBit R.PMU_PARK_PWR_LO v || !s.present v
    let s := ((s.setMaskBit R.BEAT_ADMIT_LO v false).vatLost v).mapBt fun b => { b with joining := b.joining.filter fun p => p.1 != v }
    let s := (s.setMaskBit R.REPLAY_QUAR_LO v false).mapLf fun l => { l with quarantine := l.quarantine.filter fun p => p.1 != v }
    if stays then s
    else { s.setRegField (R.PMU_DOM_STATE v) 2 0 2 with pw := { s.pw with coming := s.pw.coming.filter (· != v) ++ [v] } }) s
  let s := (s.clearOwner d).mapMd fun k => { k with inForce := k.inForce.map fun f => f.with d (m.parts.lookup d) }
  let s := if had ∧ ¬ has then s.removeDeckle d else s
  let s := if has ∧ ¬ had then s.createChain d else if has then s.startEpoch d else s
  (s.loadDeckle d).mouldRegs

/-- MOULD_COMMIT: its checks, its commit point, and the start of what it applies. -/
def execMouldCommit (job : Nat) (s : State) : Res :=
  .next <|
    match s.command job 0x8011 with
    | none => s
    | some j =>
      if (s.md.commit.map (·.1)) = some job then s
      else
        let t := mouldTarget j.desc
        match s.stagedAt t with
        | none => s.refuseMould job 0x5012
        | some im =>
          let p := imageHead im
          if partId p ≠ slice j.desc 0x28 8 then s.refuseMould job 0x5012
          else
            match firstFail (s.commitChecks im t) with
            | some r => s.refuseMould job r
            | none =>
              let m := s.mouldAfter im
              let s := (s.bump R.MOULD_COMMITS).mapMd fun k => { k with
                closed := if t = 16 then (k.committed.getD ⟨[], []⟩).deckles else t :: k.closed
                commit := some (job, if t = 16 then none else some t) }
              if t = 16 then
                let s := (s.commitMould m 1 0xFF p).mapMd fun k => { k with stagedFull := none, staged := [] }
                let s := s.setRegField R.MOULD_STATUS 2 0 4
                s.answerCmd job s.nextEdge clsOk 0 (leBytes 4 (s.deepGen 0x0200) ++ leBytes 4 s.nextEdge ++ zeros 8) []
              else
                let s := ((s.commitMould m 2 t p).stageAt t none).measurePart t p
                ((s.setRegField R.MOULD_STATUS 15 12 t).setRegField R.MOULD_STATUS 2 0 3).applyDeckle t m

/-- Every vat of deckle `d` is back in admission, or stays parked for a fault; a vacant slot waits for none. -/
def State.vatsBack (s : State) (d : Nat) : Bool :=
  (s.part? d).isNone ||
    (s.vatsOf d).all fun v => s.inAdmission v || !s.present v || s.maskBit R.PMU_PARK_FAULT_LO v || s.maskBit R.PMU_PARK_THERM_LO v ||
      s.maskBit R.PMU_PARK_PWR_LO v

/-- DECKLE_REOPEN: at the first edge at which the deckle's vats have rejoined it reopens, and the commit is released (R463, R464). -/
def execDeckleReopen (s : State) : Res :=
  .next <|
    match s.md.commit with
    | some (job, some d) =>
      if s.mouldState = 3 ∧ s.vatsBack d then
        let s := (s.setReg (R.MOULD_D_APPLY d) (w32 s.beat)).setReg R.MOULD_STATUS (setField (s.reg R.MOULD_STATUS) 15 0 1)
        let s := s.mapMd fun m => { m with commit := none, closed := m.closed.filter (· != d) }
        let s := s.mapBt fun b => { b with drains := b.drains.filter fun x => !(x.done && x.deckle == d) }
        let s := s.answerCmd job s.beat clsOk 0 (leBytes 4 (s.deepGen 0x0200) ++ leBytes 4 s.beat ++ zeros 8) []
        match s.job? job with
        | some j => s.release j j.rel
        | none => s
      else s
    | _ => s

/-! ### At start (R467, R468) -/

/-- A part of the committed record passes its signature, signer and binding. -/
def State.partGood (s : State) (dev p : Bytes) : Bool := s.signerOk dev p && partSigned p && bindOk dev p

/-- The mould of record 0x0200 that the boot firmware accepts: none when the device starts unmoulded; a deckle whose part fails is
left out. -/
def State.bootMould (s : State) : Option MouldSet :=
  match s.deepData 0x0200 with
  | none => none
  | some im =>
    let m := imageMould im
    if s.partGood m.device m.device then some { m with parts := m.parts.filter fun x => s.partGood m.device x.2 } else none

/-- The boot firmware takes the mould (R467): orphan masters zeroed, floors raised, every part measured (R722), the device and every deckle loaded, OP 5. -/
def State.startMould (s : State) : State :=
  match s.bootMould with
  | none => (s.mapMd fun k => { MouldState.reset with committed := k.committed }).mouldRegs
  | some m =>
    let all := (s.deepData 0x0200).map imageMould
    let s := ((List.range 16).filter fun d => ((all.getD m).parts.lookup d).isNone).foldl (fun s d => s.deepErase (0x10 + d)) s
    let r := s.raiseFloors m
    let s := r.1.setRegBit R.MOULD_STATUS 4 r.2
    let s := s.mapMd fun _ => { MouldState.reset with committed := all, inForce := some m }
    let s := s.measure 3 (sha384 m.device)
    let s := m.deckles.foldl (fun s d => s.measurePart d ((m.parts.lookup d).getD [])) s
    let s := (m.deckles.filter fun d => s.regBit (R.KEYS_DCFG d) 5 == false).foldl State.loadDeckle s.loadDevice
    ((s.mouldRegs).setRegField R.MOULD_STATUS 2 0 1).mouldRecord 5 0xFF m.device

end Sys2Proof.Machine
end

