-- ==== Sys2Proof/Machine/ReadSets.lean ====
section
/-! DEFINITION. Read sets of reservoir-backed deckles (R408, R410 to R413) and the NVMe transport of the reservoir ports
(R791 to R794). -/

namespace Sys2Proof.Machine

/-! ### Read sets (R410) -/

/-- The first reservoir-backed namespace of a deckle: TERM before VAULT. -/
def State.firstBacked (s : State) (d : Nat) : Option Ns :=
  if s.regBit (R.RESV_DCFG d) 16 then s.nsFind 2 d else s.nsFind 3 d

/-- The bucket that a token verb or VAULT_SET looks in. -/
def State.bucketOf (s : State) (x : Work) : Nat :=
  let b := x.j.desc
  let h := dKeyA b
  if dVerb b = 0x0107 then
    let pr := tokProf x.j.set b
    let core := tokenDigits true (s.keyFor x h).key b pr.1 pr.2.1 pr.2.2 (digits x.j.input)
    s.vaultBucket x.j.deckle h (core ++ (if pr.2.2 = 0 then [] else [checkDigit pr.2.2 core]))
  else s.vaultBucket x.j.deckle h (digits x.j.input)

/-- The data block of a job's read set (R410). -/
def State.dataBlock (s : State) (x : Work) : Option Nat :=
  let b := x.j.desc
  let d := x.j.deckle
  let h := dKeyA b
  let c := dVerb b
  if h / 2 ^ 23 % 2 = 1 ∧ s.regBit (R.RESV_DCFG d) 16 then (s.nsFind 2 d).map fun n => n.rbn + h % 2 ^ 23 / 16 % n.blocks
  else if (c = 0x0107 ∨ c = 0x0108 ∨ c = 0x8004) ∧ s.regBit (R.RESV_DCFG d) 17 then
    (s.nsFind 3 d).map fun n => n.rbn + s.bucketOf x % n.blocks
  else (s.firstBacked d).map fun n => n.rbn + h % n.blocks

/-- The blocks of the TREE namespace by block number. -/
def State.treeRbns (s : State) (rbn : Nat) : List Nat :=
  match s.nsFind 6 16 with
  | some n => (s.treeBlocks rbn).map fun t => n.rbn + t
  | none => []

/-- RESERVOIR_READ_SET: 2,000 ns after its admission edge a surcharged job makes its one read set. -/
def execReservoirReadSet (job : Nat) (s : State) : Res :=
  .next <|
    match s.job? job with
    | some j =>
      match j.asWork with
      | some x =>
        if x.b = s.beat ∧ j.surcharge ≠ 0 ∧ j.readSet = 0 then
          match s.dataBlock x with
          | some rbn =>
            let s := { s with now := max s.now (s.bt.edgeAt + 2000) }
            let l := rbn :: s.treeRbns rbn
            l.foldl State.resvIssueRead (s.updJob job fun j => { j with readSet := 1, reads := l })
          | none => s
        else s
      | none => s
    | none => s

/-- A block of a job's read set is in: right or wrong. -/
def State.blockIn (s : State) (j : Job) (rbn : Nat) (ok : Bool) : State :=
  s.updJob j.id fun x =>
    let rest := x.reads.erase rbn
    { x with reads := rest, readSet := if x.readSet = 3 ∨ ¬ ok then 3 else if rest = [] then 2 else 1 }

/-- The read set of `j` is still of use: it returns before edge b + S (R413). -/
def State.inTime (s : State) (j : Job) (rbn : Nat) : Bool :=
  j.reads.contains rbn && (match j.onVat with | some p => decide (s.beat < p.2 + j.surcharge) | none => false)

/-- RESERVOIR_READ_COMPLETE: a block of a job's read set has been read and checked against the tree; one that fails is counted, with
event 263, and its job ends FAULT 0x4002. -/
def execReservoirReadComplete (job : Nat) (rbn : Nat) (ok : Bool) (s : State) : Res :=
  .next <|
    match s.job? job with
    | some j =>
      if s.inTime j rbn then
        let s := s.blockIn j rbn ok
        if ok then s else s.integFail
      else s
    | none => s

/-! ### NVMe (R791 to R794) -/

/-- A reservoir port's event (R825): its bit is set, and event 192 + q raised when enabled. -/
def State.portEvent (s : State) (q i : Nat) : State :=
  let s := s.setRegBit (R.RESPORT_EVT_STATUS q) i true
  if s.regBit (R.RESPORT_EVT_EN q) i then s.raise (192 + q) else s

/-- A failed command: a job whose read set it belonged to ends FAULT 0x4002; a journal block it carried is written again later. -/
def State.nvmeFail (s : State) (c : NvmeCmd) : State :=
  let s := s.ioError
  match c.kind with
  | .read => (s.bt.jobs.filter fun j => s.inTime j c.rbn).foldl (fun s j => s.blockIn j c.rbn false) s
  | .write =>
    match s.nsOfRbn c.rbn with
    | some n =>
      if n.kind ≠ 0 then s
      else
        let ring := (s.reg (R.JOURNAL_RING n.owner)).toNat
        let h := s.chain n.owner
        s.setChain n.owner { h with
          stalled := true
          blocks := h.blocks.map fun b => if b.written ∧ ¬ b.durable ∧ b.jbn % ring = c.rbn - n.rbn then { b with written := false } else b }
    | none => s
  | .flush => s.mapJn fun j => { j with unflushed := true }

/-- The command goes from the port's list. -/
def State.nvmeDrop (s : State) (c : NvmeCmd) : State := s.mapLk fun k => { k with nvme := k.nvme.erase c }

/-- The oldest command of a port that satisfies `p`. -/
def State.nvmeFirst (s : State) (q : Nat) (p : NvmeCmd → Bool) : Option NvmeCmd := s.lk.nvme.find? fun c => c.port == q && p c

/-- NVME_COMPLETION: the port polls the completion of its n-th command at work. -/
def execNvmeCompletion (q : Fin 16) (n : Nat) (ok : Bool) (s : State) : Res :=
  .next <|
    match (s.lk.nvme.filter fun c => c.port == q.val)[n]? with
    | none => s
    | some c =>
      let s := s.nvmeDrop c
      if ¬ ok then (s.bump (R.RESPORT_ERRORS q.val)).nvmeFail c
      else
        match c.kind with
        | .read =>
          let us := (s.now - c.issued) / 1000
          s.setReg (R.RESPORT_LAT_MAX q.val) (w32 (max (s.reg (R.RESPORT_LAT_MAX q.val)).toNat us))
        | .write =>
          match s.nsOfRbn c.rbn with
          | some ns => if ns.kind = 3 ∨ ns.kind = 4 then s.mapJn fun j => { j with unflushed := true } else s
          | none => s
        | .flush => s

/-- TIMEOUT of a port in felt cycles. -/
def State.nvmeTimeout (s : State) (q : Nat) : Nat := s.regField (R.RESPORT_CFG q) 31 16 * 1000000

/-- NVME_COMMAND_TIMEOUT: the port's oldest command not aborted has not completed TIMEOUT after its issue. -/
def execNvmeCommandTimeout (q : Fin 16) (s : State) : Res :=
  .next <|
    match s.nvmeFirst q.val fun c => c.aborted.isNone with
    | some c =>
      let t := max s.now (c.issued + s.nvmeTimeout q.val)
      let s := ({ s with now := t }).mapLk fun k =>
        { k with nvme := k.nvme.map fun x => if x = c then { x with aborted := some t } else x }
      ((s.emit (.nvme q.val) []).bump (R.RESPORT_TIMEOUTS q.val)).portEvent q.val 3
    | none => s

/-- NVME_ABORT_TIMEOUT: 100 ms after its Abort the command is still incomplete, and the controller is reset; pending reads fail. -/
def execNvmeAbortTimeout (q : Fin 16) (s : State) : Res :=
  .next <|
    match s.nvmeFirst q.val fun c => c.aborted.isSome with
    | some c =>
      let t := max s.now (c.aborted.getD 0 + 100000000)
      let s := { s with now := t }
      let s := (((s.setRegBit (R.RESPORT_STATUS q.val) 8 false).setRegBit (R.RESPORT_STATUS q.val) 9 true).bump (R.RESPORT_RESETS q.val)).portEvent
        q.val 1
      let s := s.mapLk fun k => { k with nvmeReset := k.nvmeReset ++ [(q.val, t)] }
      (s.lk.nvme.filter fun x => x.port == q.val && x.kind == .read).foldl (fun s x => (s.nvmeDrop x).nvmeFail x) s
    | none => s

/-- NVME_READY_TIMEOUT: the controller is not ready 2 s after its reset: FAILED, and nothing more is issued. -/
def execNvmeReadyTimeout (q : Fin 16) (s : State) : Res :=
  .next <|
    match s.lk.nvmeReset.find? fun p => p.1 == q.val with
    | some p =>
      let s := { s with now := max s.now (p.2 + 2000000000) }
      let s := s.mapLk fun k => { k with nvmeReset := k.nvmeReset.filter fun x => x.1 != q.val }
      let s := ((s.setRegBit (R.RESPORT_STATUS q.val) 9 false).setRegBit (R.RESPORT_STATUS q.val) 10 true).portEvent q.val 2
      (s.lk.nvme.filter fun x => x.port == q.val).foldl (fun s x => (s.nvmeDrop x).nvmeFail x) s
    | none => s

/-- RESERVOIR_LINK_LOSS: a surprise removal or link loss fails every pending command of the port at once. -/
def execReservoirLinkLoss (q : Fin 16) (removed : Bool) (s : State) : Res :=
  .next <|
    if s.regBit (R.RESPORT_STATUS q.val) 0 then
      let st := s.reg (R.RESPORT_STATUS q.val)
      let s := s.setReg (R.RESPORT_STATUS q.val) (w32 (field st 10 10 * 1024 + b2n removed * 2048))
      let s := (s.mapLk fun k => { k with nvmeReset := k.nvmeReset.filter fun x => x.1 != q.val }).portEvent q.val 0
      (s.lk.nvme.filter fun x => x.port == q.val).foldl (fun s x => (s.nvmeDrop x).nvmeFail x) s
    else s

/-- RESERVOIR_LINK_UP: a port's link comes up and its controller becomes ready; after a controller reset its pending writes are
issued again, and chains that stopped go on draining. -/
def execReservoirLinkUp (q : Fin 16) (gen : Fin 6) (width : Fin 3) (ident : Word) (s : State) : Res :=
  .next <|
    if s.reg (R.RESPORT_CFG q.val) = 0 ∨ s.regBit (R.RESPORT_STATUS q.val) 10 ∨ gen.val = 0 ∨ width.val = 0 then s
    else
      let was := s.regBit (R.RESPORT_STATUS q.val) 0
      let s := (s.setReg (R.RESPORT_STATUS q.val) (w32 (1 + gen.val * 2 + width.val * 16 + 256))).setReg (R.RESPORT_IDENT q.val) ident
      let s := s.mapLk fun k => { k with
        nvmeReset := k.nvmeReset.filter fun x => x.1 != q.val
        nvme := k.nvme.map fun c => if c.port = q.val then { c with issued := s.now, aborted := none } else c }
      let s := (s.lk.nvme.filter fun c => c.port == q.val && c.kind == .write).foldl (fun s c => s.emit (.reservoir q.val c.lba) c.data) s
      let s := if was then s else s.portEvent q.val 0
      (List.range 17).foldl State.drainChain s

end Sys2Proof.Machine
end

