-- ==== Sys2Proof/Machine/Reset.lean ====
section
/-! DEFINITION. The lifecycle state (R729 to R732), the shutdown certificate (R678, R702), and the device reset as one operation (R665
to R670). -/

namespace Sys2Proof.Machine

/-! ### The lifecycle state -/

def State.mapPw (s : State) (f : PowerState → PowerState) : State := { s with pw := f s.pw }


/-- The lifecycle state that the fuses and record 0x0103 give (R730). -/
def State.lifeOf (s : State) : Nat :=
  if s.regBit R.LIFE_STATUS 6 then 4
  else if ¬ s.regBit R.LIFE_STATUS 7 then 0
  else match s.deepData 0x0103 with
    | some d => byteAt d 0
    | none => 2

/-- DEVICE_ROOT is usable (R293, R351, R732). -/
def State.rootUsable (s : State) : Bool := (s.deepData 0x0001).isSome && s.ks.drk.isSome

/-- Keys are withheld (R732); a scrapped device has no root keys. -/
def State.keysWithheld (s : State) : Bool :=
  let st := s.lifeOf
  st == 0 || st == 3 || st == 4 || (s.deepData 0x0103).isNone || !s.rootUsable

/-- The debug-open flag (R743). -/
def debugOpen (st : Nat) : Bool := st == 0 || st == 3 || st == 4

/-- LIFE_STATUS and the responders follow the lifecycle state (R618, R765). While the debug-open flag is 0 every DBG_CTRL stands at its
Reset value (R747). -/
def State.lifeState (s : State) : State :=
  let st := s.lifeOf
  let s := s.setRegField R.LIFE_STATUS 4 0 (b2n (debugOpen st) * 16 + b2n s.keysWithheld * 8 + st)
  let s := s.mapTm fun t => { t with armed := st != 0 && st != 4 }
  if debugOpen st then s
  else { s with cores := s.cores.map fun c => { c with dbgCtrl := 0, stepping := false, haltReq := false } }

/-- The lifecycle record's generation and the owner's digests in LIFE's registers (R764). -/
def State.lifeRecord (s : State) : State :=
  let d := (s.deepData 0x0103).getD (zeros 0x80)
  ((s.setReg R.LIFE_GEN (w32 (s.deepGen 0x0103))).setRegBytes (R.LIFE_OWNER_MOULD 0) (slice d 0x10 48)).setRegBytes
    (R.LIFE_OWNER_SVC 0) (slice d 0x40 48)

/-! ### The shutdown certificate (R678, R702) -/

/-- The key of the certificate's MAC: from the DFK with the label "NV64 CERT", and no context byte (DEDUCED, notes/assumptions/5.md). -/
def certKey : Bytes := kdf108 ((List.range 32).map Config.fuseKey) (ascii "NV64 CERT") [] 256

/-- Its twelve registers before the MAC. -/
def State.certBody (s : State) : Bytes := s.regBytes (R.RESET_BKP 0) 12

/-- The certificate is valid (R678, R701). -/
def State.certOk (s : State) : Bool :=
  let w := s.reg (R.RESET_BKP 1)
  let issued := (s.reg (R.RESET_BKP 2)).toNat
  s.reg (R.RESET_BKP 0) == 0x54524543#32 && field w 7 0 == 1 && bit w 8 && field w 11 9 == 0 &&
    s.regBytes (R.RESET_BKP 12) 4 == aesCmac certKey s.certBody &&
    decide (issued ≤ s.rtcSec) && decide (s.rtcSec ≤ issued + 604800) &&
    s.reg (R.RESET_BKP 7) == s.reg R.TAMPER_EVID_COUNT && !s.regBit R.TAMPER_LATCH 31 && !s.regBit R.TAMPER_STATUS 3

/-- The sixteen registers of the certificate written with zero. -/
def State.certClear (s : State) : State := s.setRegBytes (R.RESET_BKP 0) (zeros 64)

/-- A certificate is written (R702): `result` its bits DONE to DEEP_FAIL, `pass` the vats that passed. -/
def State.certWrite (s : State) (result pass : Nat) : State :=
  let s := (s.certClear).setRegs
    [(R.RESET_BKP 0, 0x54524543), (R.RESET_BKP 1, 1 + result * 256), (R.RESET_BKP 2, s.rtcSec), (R.RESET_BKP 3, (s.reg R.JOURNAL_EPOCH).toNat),
     (R.RESET_BKP 4, pass), (R.RESET_BKP 5, pass / 2 ^ 32), (R.RESET_BKP 6, (s.reg R.MOULD_GEN).toNat),
     (R.RESET_BKP 7, (s.reg R.TAMPER_EVID_COUNT).toNat)]
  s.setRegBytes (R.RESET_BKP 12) (aesCmac certKey s.certBody)

/-! ### What a device reset clears (R669) -/

/-- A register of the battery domain, or one that shows what the battery domain's monitors see now (R640, R675). -/
def batteryReg (k : Nat) : Bool :=
  let o := k - 0x100800000
  (decide (0x100900100 ≤ k) && decide (k < 0x100900180)) ||
  (decide (0x100800000 ≤ k) && decide (k < 0x100900000) &&
    ([0, 4, 8, 0xC, 0x14, 0x28, 0x2C, 0x30].contains o || (decide (0x40 ≤ o) && decide (o < 0x60)) ||
     (decide (0x100 ≤ o) && decide (o < 0x180) && (o % 16 == 0 || o % 16 == 8 || o % 16 == 12))))

/-- A register that shows fuses. -/
def fuseReg (k : Nat) : Bool :=
  (decide (0x100C00010 ≤ k) && decide (k < 0x100C00040)) || (decide (0x100C000C0 ≤ k) && decide (k < 0x100C000F0))

/-- A register of the RESET or PMU block. -/
def alwaysOnReg (k : Nat) : Bool := decide (0x100900000 ≤ k) && decide (k < 0x100B00000)

/-- A device reset leaves register `k` as it is; JOURNAL_GAPS counts since provisioning (R419). -/
def keptReg (cold : Bool) (k : Nat) : Bool := batteryReg k || fuseReg k || k == R.JOURNAL_GAPS || (!cold && alwaysOnReg k)

/-- A device reset leaves the byte at `a` as it is: boot ROM and deep store window, and through a warm reset the tarn (R677). -/
def keptByte (cold : Bool) (a : Nat) : Bool :=
  decide (a < 0x40000) || (decide (0x20000000 ≤ a) && decide (a < 0x20400000)) ||
    (!cold && decide (0x107F0000 ≤ a) && decide (a < 0x10800000))

/-- What remains of a chain: its blocks that are durable in the reservoir, and the count of its seal epochs. -/
def Chain.durable (c : Chain) : Chain :=
  { Chain.none with present := c.present, head := c.head, blocks := c.blocks.filter fun b => b.durable, epoch := c.epoch }

/-- Cores, HBM and every control block are cleared (R669); fuses, battery domain, deep store and reservoir stay, and the key ladder
unwraps the root keys again from the deep store. -/
def State.clearDevice (s : State) (cold : Bool) : State :=
  let life := s.regField R.LIFE_STATUS 7 6
  let s := { s with
    regs := s.regs.filter fun e => keptReg cold e.1
    shadows := []
    mem := s.mem.filter fun c => keptByte cold c.1
    ev := EvState.reset
    bt := { BeatState.reset with resetAt := s.now, edgeAt := s.now, nextJob := s.bt.nextJob, nextReq := s.bt.nextReq }
    spr := SpringState.reset
    pk := List.replicate 64 PkeUnit.idle
    lk := LinkState.reset
    cd := CardState.reset
    cores := List.replicate 64 (CoreState.reset false true s.now) ++ List.replicate 2 (CoreState.reset true true s.now)
    lf := { LifeState.reset with tapIr := s.lf.tapIr, dbgSel := s.lf.dbgSel, token := s.lf.token, tapDone := s.lf.tapDone, tapCause := s.lf.tapCause }
    md := { MouldState.reset with committed := s.md.committed }
    tm := { s.tm with resp := 0 } }
  let s := s.mapKs fun k => { KeysState.reset with slotA := k.slotA, slotB := k.slotB, drk := k.drk, dmk := k.dmk }
  let s := s.mapJn fun j => { JournalState.reset with
    chains := j.chains.map Chain.durable
    signKey := j.signKey
    rootlog := j.rootlog.filter fun e => e.2.1
    rootBlk := j.rootBlk
    blocks := j.blocks
    nodes := j.nodes
    saved := j.saved }
  s.setRegField R.LIFE_STATUS 7 6 life

/-! ### The device reset (R665, R666) -/

/-- What every device reset ends with: RESET_N is driven low, PHASE is START, the cause stands in RESET_CAUSE and the kind of the start
that follows in RESET_STATUS; LOCKUP_N goes with the pairs' reset (R539). -/
def State.resetTail (s : State) (cause kind : Nat) : State :=
  let s := { s with pins := { s.pins with resetDrv := true, lockup := false } }
  let s := s.mapPw fun p => { p with inReset := true, endAt := s.now, held := false, started := false, hbm := 0, selfTest := if kind = 0 then 1 else 0,
                                     shut := none, drained := false, coming := [] }
  ((((s.setReg R.RESET_CAUSE (w32 cause)).setRegField R.RESET_STATUS 9 8 0).setRegField R.RESET_STATUS 5 4 kind).setRegBit R.RESET_STATUS 2 false).lifeState

/-- A warm reset; the start that follows is warm (2) or full (0). -/
def State.warmReset (s : State) (cause kind : Nat) : State :=
  let s := (s.clearDevice false).bump R.RESET_WARM_COUNT
  s.resetTail cause kind

/-- Rails, domains, PLLs and PMBus settings of the PMU start afresh (R649, R654, R669). -/
def State.powerAfresh (s : State) : State :=
  let s := { s with pins := { s.pins with enRail := 0, pgRail := 0, pwroff := false } }
  let s := s.mapPw fun p => { PowerState.reset with passMask := p.passMask, fallAt := p.fallAt, riseAt := p.riseAt }
  ((List.range 64).filter fun v => !s.present v).foldl (fun s v => s.setRegBit (R.PMU_DOM_STATE v) 7 true) (s.setRegField (R.PMU_DOM_STATE 67) 2 0 2)

/-- A cold reset: the certificate is examined before any core leaves reset and its registers are written with zero (R678); the start
that follows is quick with a valid certificate where the source allows it, otherwise full. -/
def State.coldReset (s : State) (cause : Nat) (quick : Bool) : State :=
  let pass := (s.reg (R.RESET_BKP 4)).toNat + 2 ^ 32 * (s.reg (R.RESET_BKP 5)).toNat
  let seen := ((s.reg (R.RESET_BKP 3)).toNat, (s.reg (R.RESET_BKP 6)).toNat)
  let s := (s.clearDevice true).powerAfresh
  let ok := s.certOk
  let s := (s.certClear).setRegBit R.RESET_STATUS 1 ok
  let s := s.mapPw fun p => { p with passMask := if ok then pass else 2 ^ 64 - 1, certSeen := if ok then some seen else none }
  let fast := ok && quick
  let s := s.resetTail cause (if fast then 1 else 0)
  if ok then (if fast then s.raise 397 else s) else s.raise 398

/-- No admitted job is left to be released. -/
def State.noneHeld (s : State) : Bool := !s.bt.jobs.any fun j => j.onVat.isSome

/-- The warm reset that R20 and R892 call for, once nothing admitted is left. -/
def State.resetWhenDone (s : State) : State :=
  match s.bt.resetAfter with
  | some c => if s.noneHeld then s.warmReset c 0 else s
  | none => s

/-- FULL_REMOULD_RESET: at the edge after a full commit's completion the device warm-resets (R462). -/
def execFullRemouldReset (s : State) : Res :=
  .next <|
    match s.md.commit with
    | some (job, none) => if s.mouldState = 4 ∧ (s.job? job).isNone then s.warmReset 7 2 else s
    | _ => s

end Sys2Proof.Machine
end

