-- ==== Sys2Proof/Machine/Drain.lean ====
section
/-! DEFINITION. The last journal work before power goes or secrets are cleared (R343, R415, R619, R881), and what orderly operations share
with it. -/

namespace Sys2Proof.Machine

/-- A job admitted and not released gets a JOB record of class FAULT with WITHHELD, from its reservation (R415, R619); its reason the spec
does not give. -/
def State.withhold (s : State) (j : Job) : State :=
  if j.committed then s else s.queueRec (s.jobRec j ⟨clsFault, Config.withheldReason, [], []⟩ 2 (s.beat + 1) [])

/-- Jobs placed for an edge that never comes go back, their reservations with them (R370). -/
def State.unplaceAll (s : State) : State :=
  s.mapBt fun b => { b with jobs := b.jobs.map fun j =>
    match j.stage with
    | .placed _ _ => { j with stage := .waiting, due := none, lines := 0 }
    | _ => j }

/-- The current beat is ended and its records are committed; every entry of the event FIFO and every held count with them (R415, R881). -/
def State.journalCommitAll (s : State) : State :=
  let s := s.unplaceAll
  let s := (s.bt.jobs.filter fun j => j.onVat.isSome).foldl State.withhold s
  let s := (s.takeEvents s.ev.fifo.length).queueHeld
  let s := s.queueRejects.commitQueue
  if s.regBit R.JOURNAL_STATUS 0 then s.closeHeads.signRoot else s

/-- Every open block is closed and written, every line made durable, dirty buckets and the counter table are written, the tree root and
the state block with ORDERLY committed (R415). -/
def State.journalDrain (s : State) : State :=
  let s := (List.range 17).foldl (fun s k => (s.closeBlock k).drainChain k) s
  let s := s.drainRoot
  let s := s.jn.dirty.foldl (fun s b => s.sweepOne b.1) s
  let s := (List.range 16).foldl (fun s d =>
    match s.sweeps d, s.nsFind 4 d with
    | true, some n => (List.range n.blocks).foldl (fun s _ => s.sweepOne d) s
    | _, _ => s) s
  let s := s.mapJn fun j => { j with
    chains := j.chains.map fun c => { c with blocks := c.blocks.map fun b => if b.written then { b with durable := true } else b }
    rootlog := j.rootlog.map fun e => if e.1 / 4 < j.rootBlk then (e.1, true, e.2.2) else e
    unflushed := false }
  let s := s.mapLk fun l => { l with nvme := [] }
  (s.commitTree).writeStateBlock true

end Sys2Proof.Machine
end

