-- ==== Sys2Proof/Machine/Network.lean ====
section
/-! DEFINITION. Network ports (R767 to R779, R960): links, MKA, received frames, ARP and Neighbor Discovery, and the transmission of
response frames. -/

namespace Sys2Proof.Machine

/-- A network port's event (R825): its bit is set, and event 128 + p raised when enabled. -/
def State.netEvent (s : State) (p i : Nat) : State :=
  let s := s.setRegBit (R.NETW_EVT_STATUS p) i true
  if s.regBit (R.NETW_EVT_EN p) i then s.raise (128 + p) (portStop p) else s

/-- The port has a live MKA peer and with it a secure association (R772). -/
def State.portSecure (s : State) (p : Nat) : Bool := s.regBit (R.NETW_STATUS p) 0 && s.regBit (R.NETW_STATUS p) 3 && s.regBit (R.NETW_STATUS p) 4

/-- The port's VLAN, MAC address, IPv4 and IPv6 addresses. -/
def State.portVlan (s : State) (p : Nat) : Nat := s.regField (R.NETW_MODE p) 27 16
def State.portMac (s : State) (p : Nat) : Bytes := (s.regBytes (R.NETW_MAC_LO p) 2).take 6
def State.portIp4 (s : State) (p : Nat) : Bytes := s.regBytes (R.NETW_IPV4 p) 1
def State.portIp6 (s : State) (p : Nat) : Bytes := s.regBytes (R.NETW_IPV6 p 0) 4

/-- A port that LINKS names and a deckle owns is powered (R768). -/
def State.portPowered (s : State) (p : Nat) : Bool := (linkEntry s.dev 1 p).isSome && (s.deckleOfPort p).isSome && s.md.inForce.isSome

/-! ### Link and MKA (R769, R771, R772) -/

/-- The port's MKA live peer is lost: its secure association goes. -/
def State.mkaLost (s : State) (p : Nat) : State :=
  if s.regBit (R.NETW_STATUS p) 3 then (s.setRegField (R.NETW_STATUS p) 4 3 0).netEvent p 1 else s

/-- The port's link goes down. -/
def State.netDown (s : State) (p : Nat) : State :=
  if s.regBit (R.NETW_STATUS p) 0 then ((s.mkaLost p).setRegField (R.NETW_STATUS p) 2 0 0).netEvent p 0 else s

/-- NETWORK_LINK_CHANGE: the PCS of a powered port reports its link up, trained and aligned, or down. -/
def execNetworkLinkChange (port : Fin 64) (up : Bool) (s : State) : Res :=
  .next <|
    if ¬ up then s.netDown port.val
    else if s.portPowered port.val ∧ ¬ s.regBit (R.NETW_STATUS port.val) 0 then
      (s.setRegField (R.NETW_STATUS port.val) 2 0 7).netEvent port.val 0
    else s

/-- The CAK of a port passes steps 1 to 6 of R103 as an M6 key of mode C, AES-128 or AES-256 (R771). -/
def State.cakOk (s : State) (p : Nat) : Bool :=
  match linkEntry s.dev 1 p, s.deckleOfPort p with
  | some e, some d =>
    let h := leAt e 0x14 4
    let r := s.keyNow d h
    (firstFail (s.keyChecks d h r [uM6] [mC] (r.ktype == 0x11 || r.ktype == 0x13))).isNone
  | _, _ => false

/-- MKA_FRAME: an MKPDU arrives (R771). With a valid integrity check value and a live peer in it the port gains its live peer; a SAK that the
key server distributes is installed for transmission and reception under its association number. A CAK that fails its checks leaves the
port without a live peer, with event 128 + p. -/
def execMkaFrame (port : Fin 64) (icvOk live : Bool) (sa : Option (Fin 4)) (s : State) : Res :=
  let p := port.val
  .next <|
    if ¬ s.regBit (R.NETW_STATUS p) 0 ∨ (s.deckleOfPort p).isNone then s
    else if ¬ s.cakOk p then (s.mkaLost p).netEvent p 1
    else if ¬ (icvOk ∧ live) then s
    else
      let s := if s.regBit (R.NETW_STATUS p) 3 then s else (s.setRegBit (R.NETW_STATUS p) 3 true).netEvent p 1
      match sa with
      | some an => s.setReg (R.NETW_STATUS p) (setField (setField (s.reg (R.NETW_STATUS p)) 11 8 (5 * an.val)) 4 4 1)
      | none => s

/-- MKA_LIVE_PEER_LOST: the port's live peer expires (R772). -/
def execMkaLivePeerLost (port : Fin 64) (s : State) : Res := .next (s.mkaLost port.val)

/-! ### Checksums and headers -/

/-- The sum of the 16-bit words of a byte string, highest byte first. -/
def sum16 (b : Bytes) : Nat := ((chunks 2 b).map fun c => beNat (padTo 2 c)).sum

/-- A sum folded to 16 bits with its carries added back; `fuel` bounds the folds. -/
def fold16 : Nat → Nat → Nat
  | 0, n => n % 65536
  | f + 1, n => if n < 65536 then n else fold16 f (n % 65536 + n / 65536)

/-- The Internet checksum of a byte string: the complement of its folded sum. -/
def checksum (b : Bytes) : Nat := 65535 - fold16 8 (sum16 b)

/-- The pseudo-header of UDP or ICMPv6 over addresses, length and protocol. -/
def pseudo (src dst : Bytes) (len proto : Nat) : Bytes :=
  if src.length = 4 then src ++ dst ++ [0, by8 proto] ++ beBytes 2 len else src ++ dst ++ beBytes 4 len ++ [0, 0, 0, by8 proto]

/-- An Ethernet frame with the VLAN tag of a port that has one. -/
def etherFrame (dst src : Bytes) (vlan type : Nat) (payload : Bytes) : Bytes :=
  dst ++ src ++ (if vlan = 0 then [] else [0x81, 0] ++ beBytes 2 vlan) ++ beBytes 2 type ++ payload

/-! ### Received frames (R769, R773, R960) -/

/-- What an Ethernet frame holds: its VLAN, none when untagged, its type, and the rest. -/
def etherParse (f : Bytes) : Option Nat × Nat × Bytes :=
  if beNat (slice f 12 2) = 0x8100 then (some (beNat (slice f 14 2) % 4096), beNat (slice f 16 2), f.drop 18)
  else (none, beNat (slice f 12 2), f.drop 14)

/-- The tag fits the port's VLAN (R960). -/
def vlanOk (tag : Option Nat) (vlan : Nat) : Bool :=
  match tag with
  | some v => decide (vlan ≠ 0) && v == vlan
  | none => vlan == 0

/-- A UDP datagram as R773 accepts it: source and destination port and payload. -/
def udpParse (src dst u : Bytes) (v4 : Bool) : Option (Nat × Nat × Bytes) :=
  let n := beNat (slice u 4 2)
  let sum := beNat (slice u 6 2)
  let good := (v4 && sum == 0) || (sum != 0 && fold16 8 (sum16 (pseudo src dst n 17 ++ u)) == 65535)
  if decide (8 ≤ u.length) && n == u.length && good then some (beNat (slice u 0 2), beNat (slice u 2 2), u.drop 8) else none

/-- An IPv4 or IPv6 packet as R773 accepts it at addresses `ip4` and `ip6`: what travelled, and the UDP payload. -/
def ipParse (mac vlan type : Nat) (p ip4 ip6 : Bytes) : Option (NetMeta × Bytes) :=
  if type = 0x0800 then
    let n := beNat (slice p 2 2)
    let src := slice p 12 4
    let dst := slice p 16 4
    if byteAt p 0 = 0x45 ∧ 28 ≤ n ∧ n ≤ p.length ∧ fold16 8 (sum16 (p.take 20)) = 65535 ∧ beNat (slice p 6 2) % 0x4000 = 0 ∧
        beNat (slice p 6 2) / 0x8000 = 0 ∧ byteAt p 9 = 17 ∧ dst = ip4 ∧ ¬ allZero ip4 then
      (udpParse src dst ((p.take n).drop 20) true).map fun u =>
        (⟨mac, vlan, byteAt p 1 / 4, false, beNat src, beNat dst, u.1, u.2.1⟩, u.2.2)
    else none
  else if type = 0x86DD then
    let n := beNat (slice p 4 2)
    let src := slice p 8 16
    let dst := slice p 24 16
    if byteAt p 0 / 16 = 6 ∧ 8 ≤ n ∧ 40 + n ≤ p.length ∧ byteAt p 6 = 17 ∧ dst = ip6 ∧ ¬ allZero ip6 then
      (udpParse src dst ((p.take (40 + n)).drop 40) false).map fun u =>
        (⟨mac, vlan, beNat (slice p 0 2) / 64 % 64, true, beNat src, beNat dst, u.1, u.2.1⟩, u.2.2)
    else none
  else none

/-- NETWORK_FRAME_RECEIVED: a frame arrives; `frame` is what MACsec validation leaves of it, from its destination address up to its FCS.
It passes FCS and size, MACsec, VLAN and IP/UDP checks to route lookup, or is discarded and counted by the first check it fails. -/
def execNetworkFrameReceived (port : Fin 64) (frame : Bytes) (fcsOk macsecOk : Bool) (s : State) : Res :=
  let p := port.val
  let e := etherParse frame
  .next <|
    if ¬ s.regBit (R.NETW_STATUS p) 0 then s
    else if ¬ fcsOk ∨ 9216 < frame.length + 4 then s.bump (R.NETW_RX_FCS p)
    else if e.2.1 = 0x8808 then s.bump (R.NETW_RX_PAUSE p)
    else if ¬ s.portSecure p ∨ ¬ macsecOk then s.bump (R.NETW_RX_MACSEC p)
    else if ¬ vlanOk e.1 (s.portVlan p) then s.bump (R.NETW_RX_VLAN p)
    else
      match ipParse (beNat (slice frame 6 6)) (e.1.getD 0) e.2.1 e.2.2 (s.portIp4 p) (s.portIp6 p) with
      | some d => s.frameIn port d.1 d.2
      | none => s.bump (R.NETW_RX_L3 p)

/-- PAUSE_FRAME: a PAUSE or priority flow control frame is counted and has no other effect (R769). -/
def execPauseFrame (port : Fin 64) (s : State) : Res :=
  .next <| if s.regBit (R.NETW_STATUS port.val) 0 then s.bump (R.NETW_RX_PAUSE port.val) else s

/-! ### ARP and Neighbor Discovery (R774) -/

/-- ARP_REQUEST: the port answers a request for its IPv4 address; `mac` and `ip` are the sender's. -/
def execArpRequest (port : Fin 64) (mac ip target : Nat) (s : State) : Res :=
  let p := port.val
  let peer := beBytes 6 mac
  let me := s.portMac p
  .next <|
    if s.portSecure p ∧ target ≠ 0 ∧ beNat (s.portIp4 p) = target then
      s.emit (.network p) (etherFrame peer me (s.portVlan p) 0x0806
        ([0, 1, 8, 0, 6, 4, 0, 2] ++ me ++ s.portIp4 p ++ peer ++ beBytes 4 ip))
    else s

/-- The link-local address formed from a MAC address by EUI-64. -/
def linkLocal (mac : Bytes) : Bytes :=
  [0xFE, 0x80] ++ zeros 6 ++ [(mac.headD 0) ^^^ 2] ++ slice mac 1 2 ++ [0xFF, 0xFE] ++ slice mac 3 3

/-- NEIGHBOR_SOLICITATION: the port answers for its global and its link-local address with a solicited, overriding advertisement that
carries its MAC address. -/
def execNeighborSolicitation (port : Fin 64) (mac ip target : Nat) (s : State) : Res :=
  let p := port.val
  let me := s.portMac p
  let t := beBytes 16 target
  let dst := beBytes 16 ip
  .next <|
    if s.portSecure p ∧ ((t = s.portIp6 p ∧ target ≠ 0) ∨ t = linkLocal me) then
      let body (sum : Nat) : Bytes := [136, 0] ++ beBytes 2 sum ++ [0x60, 0, 0, 0] ++ t ++ [2, 1] ++ me
      let icmp := body (checksum (pseudo t dst 32 58 ++ body 0))
      s.emit (.network p) (etherFrame (beBytes 6 mac) me (s.portVlan p) 0x86DD ([0x60, 0, 0, 0, 0, 32, 58, 255] ++ t ++ dst ++ icmp))
    else s

/-! ### Response frames (R252, R257, R776 to R779) -/

/-- The UDP payload of a response: header, completions, outputs padded to 8 bytes. -/
def Response.payload (r : Response) : Bytes :=
  let data := (r.items.map fun x => padTo (8 * ceilDiv x.2.length 8) x.2).flatten
  leBytes 2 0xA64E ++ [1, 2, by8 r.items.length, 0] ++ leBytes 2 data.length ++ leBytes 4 (srcId r.src) ++ leBytes 4 r.frame.seq ++
    leBytes 4 r.edge ++ zeros 12 ++ (r.items.map (·.1)).flatten ++ data

/-- The Ethernet frame of a response; IP identification, flags and flow label, which the spec leaves open, come from `free`. -/
def Response.ether (r : Response) (me : Bytes) (free : Nat) : Bytes :=
  let m := r.frame.net
  let body := r.payload
  let n := 8 + body.length
  let w := if m.v6 then 16 else 4
  let src := beBytes w m.dip
  let dst := beBytes w m.sip
  let udp (sum : Nat) : Bytes := beBytes 2 m.dudp ++ beBytes 2 m.sudp ++ beBytes 2 n ++ beBytes 2 sum ++ body
  let c := checksum (pseudo src dst n 17 ++ udp 0)
  let seg := udp (if c = 0 then 65535 else c)
  let ip : Bytes :=
    if m.v6 then beBytes 4 (6 * 2 ^ 28 + m.dscp * 2 ^ 22 + free % 2 ^ 20) ++ beBytes 2 n ++ [17, 64] ++ src ++ dst
    else
      let hdr (sum : Nat) : Bytes :=
        [0x45, by8 (4 * m.dscp)] ++ beBytes 2 (20 + n) ++ beBytes 2 free ++ [by8 (free / 2 ^ 16 % 2 * 0x40), 0, 64, 17] ++ beBytes 2 sum ++ src ++ dst
      hdr (checksum (hdr 0))
  etherFrame (beBytes 6 m.mac) me m.vlan (if m.v6 then 0x86DD else 0x0800) (ip ++ seg)

/-- The response is port `p`'s. -/
def Response.onPort (r : Response) (p : Nat) : Bool := match r.src with | .net q _ _ _ => q.val == p | _ => false

/-- A response frame is dropped (R772, R779). -/
def State.txDrop (s : State) (p : Nat) : State := (s.bump (R.NETW_TX_DROP p)).netEvent p 2

/-- Responses of a port that would not fit its transmit queue of 1 MiB behind those ahead of them: what stays, bytes queued, how many are
dropped. -/
def queueFit (p : Nat) (l : List Response) : List Response × Nat × Nat :=
  l.foldl (fun a r =>
    if ¬ r.onPort p then (a.1 ++ [r], a.2)
    else
      let n := (r.ether (zeros 6) 0).length
      if a.2.1 + n ≤ 1048576 then (a.1 ++ [r], a.2.1 + n, a.2.2) else (a.1, a.2.1, a.2.2 + 1)) ([], 0, 0)

/-- RESPONSE_FRAME_TRANSMIT: the port starts its next response frame, exactly NETW_EGRESS after the release edge for the first of an edge
(R777). A frame that does not fit the queue is dropped (R779), and so is every one while the port has no live peer (R772). -/
def execResponseFrameTransmit (port : Fin 64) (s : State) : Res :=
  let p := port.val
  .next <|
    let q := queueFit p s.bt.responses
    let s := (List.range q.2.2).foldl (fun s _ => s.txDrop p) (s.mapBt fun b => { b with responses := q.1 })
    let s := s.setReg (R.NETW_TX_PEAK p) (w32 (max (s.reg (R.NETW_TX_PEAK p)).toNat q.2.1))
    match s.bt.responses.find? fun r => r.onPort p with
    | none => s
    | some r =>
      if s.bt.jobs.any fun j => j.due == some r.edge && (match j.frame with | some f => f.req == r.frame.req | none => false) then s
      else
        let s := s.mapBt fun b => { b with responses := b.responses.erase r }
        let s := if r.edge = s.beat then { s with now := max s.now (s.bt.edgeAt + (s.reg (R.NETW_EGRESS p)).toNat) } else s
        if ¬ s.portSecure p then s.txDrop p
        else
          let f := (Config.freeWord s.freeCtr).toNat
          ((s.tookFree 1).emit (.network p) (r.ether (s.portMac p) f)).bump64 (R.NETW_TX_OK_LO p) 1

end Sys2Proof.Machine
end

