-- ==== Sys2Proof/Machine/HostPort.lean ====
section
/-! DEFINITION. The host port (R780 to R787), the management port's MCTP control commands and the console (R788 to R790). -/

namespace Sys2Proof.Machine

/-! ### Link, resets and Bus Master Enable -/

/-- The event of a function's host queues: 216 + d of a deckle's, 238 of the physical function (R825). -/
def State.queueEvent (s : State) (f : Nat) : State := s.raise (if f = 0 then 238 else 215 + f) 81

/-- HOST_LINK_UP: the link comes up with the Bus Master Enable bits given; fetching resumes (R787), event 239. -/
def execHostLinkUp (bme : BitVec 17) (s : State) : Res :=
  .next <|
    let s := (List.range 17).foldl (fun s f => s.setRegField (R.HOSTIF_STATUS f) 2 1 (2 + b2n (bme.getLsbD f))) s
    (List.range 17).foldl State.fetchAll (s.raise 239 81)

/-- BUS_MASTER_DISABLE: a function's Bus Master Enable goes to 0 (R787). -/
def execBusMasterDisable (f : Fin 17) (s : State) : Res := .next (s.setRegBit (R.HOSTIF_STATUS f.val) 1 false)

/-- A function's queues are disabled: nothing of them is fetched or written any more. -/
def State.queuesOff (s : State) (f : Nat) : State :=
  let s := (List.range 8).foldl (fun s q => s.setRegBit (R.HOSTIF_Q_CTRL f q) 0 false) s
  let s := if f = 0 then s else s.setRegBit (R.HOSTIF_DQ_CTRL (f - 1)) 0 false
  (s.setRegBit (R.HOSTIF_STATUS f) 1 false).mapBt fun b => { b with inflight := b.inflight.filter fun x => x.1 != f }

/-- A reset of one function: its jobs end as an ABORT of scope 1 on each of its queues would end them, its queues are disabled
and its registers, but for what HOSTIF_STATUS shows, return to their reset values (R786, R961). -/
def State.functionReset (s : State) (f : Nat) : State :=
  let mine (j : Job) : Bool := match j.src with | .host g _ => g.val == f | _ => false
  let s := s.queuesOff f
  let s := if s.bt.jobs.any mine then s.abortJobs s.bt.nextJob (fnDeckle f) mine [] none else s
  let s := s.mapBt fun b => { b with nextJob := b.nextJob + 1, jobs := b.jobs.filter fun j => !(mine j && j.stage == .command) }
  let b := R.HOSTIF_STATUS f
  (s.clearRegs (b + 4) (b + 0x8000)).queueEvent f

/-- FUNCTION_LEVEL_RESET: of a virtual function, or of the physical function, which acts on every function (R786). -/
def execFunctionLevelReset (f : Fin 17) (s : State) : Res :=
  .next <| if f.val = 0 then (List.range 17).foldl State.functionReset s else s.functionReset f.val

/-- HOST_CONVENTIONAL_RESET: a hot reset, a link disable or PERST_N acts on every function, and the link goes down (R786, event 239). -/
def execHostConventionalReset (s : State) : Res :=
  .next <|
    let s := (List.range 17).foldl State.functionReset s
    ((List.range 17).foldl (fun s f => s.setRegBit (R.HOSTIF_STATUS f) 2 false) s).raise 239 81

/-! ### MCTP (R788, R789) -/

/-- The binding carries MCTP: SMBus always, PCIe VDM when LINKS sets MCTP_VDM and the link is up. -/
def State.mctpOn (s : State) (vdm : Bool) : Bool :=
  !vdm || (s.regBit (R.HOSTIF_STATUS 0) 2 &&
    (match (linkEntries s.dev).find? fun e => byteAt e 0 == 2 with
     | some e => byteAt e 6 % 2 == 1
     | none => true))

/-- A message leaves on a binding: 0 SMBus, 1 PCIe VDM. -/
def State.mctpSend (s : State) (vdm : Bool) (m : Bytes) : State := s.emit (.mctp (b2n vdm)) m

/-- The service pair answers, unless it is held in reset (R725). -/
def State.serviceUp (s : State) : Bool := !(s.core 65).inReset && !(s.core 65).locked

/-- A control response of DSP0236: message type 0, instance, command, completion code 0 and its data. -/
def State.mctpReply (s : State) (vdm : Bool) (inst : BitVec 5) (cmd : Nat) (data : Bytes) : State :=
  if s.mctpOn vdm ∧ s.serviceUp then s.mctpSend vdm ([0, by8 inst.toNat, by8 cmd] ++ data) else s

/-- The endpoint ID on a binding, 0 while none is assigned. -/
def State.mctpEid (s : State) (vdm : Bool) : Nat := if vdm then s.regField R.MGMT_EID 23 16 else s.regField R.MGMT_EID 7 0

/-- SET_ENDPOINT_ID: the bus owner assigns the endpoint ID of a binding (R789), with event 236; operation 2, reset to a static ID, and the
reserved IDs 0 and 0xFF are answered as invalid data. -/
def execSetEndpointId (vdm : Bool) (inst : BitVec 5) (op : Fin 4) (eid : BitVec 8) (s : State) : Res :=
  .next <|
    if ¬ (s.mctpOn vdm ∧ s.serviceUp) then s
    else if 2 ≤ op.val ∨ eid.toNat = 0 ∨ eid.toNat = 0xFF then s.mctpReply vdm inst 1 [2]
    else
      let s := if vdm then s.setRegField R.MGMT_EID 24 16 (256 + eid.toNat) else s.setRegField R.MGMT_EID 8 0 (256 + eid.toNat)
      (s.raise 236 82).mctpReply vdm inst 1 [0, 0, by8 eid.toNat, 0]

/-- GET_ENDPOINT_ID. -/
def execGetEndpointId (vdm : Bool) (inst : BitVec 5) (s : State) : Res := .next (s.mctpReply vdm inst 2 [0, by8 (s.mctpEid vdm), 0, 0])

/-- GET_ENDPOINT_UUID. -/
def execGetEndpointUuid (vdm : Bool) (inst : BitVec 5) (s : State) : Res :=
  .next (s.mctpReply vdm inst 3 ([0] ++ (List.range 16).map Config.endpointUuid))

/-- GET_MCTP_VERSION_SUPPORT: base specification 1.3, and the same for the types it carries; any other type is not supported. -/
def execGetMctpVersionSupport (vdm : Bool) (inst : BitVec 5) (type : BitVec 8) (s : State) : Res :=
  .next (s.mctpReply vdm inst 4 (if type.toNat = 0xFF ∨ type.toNat = 0 ∨ type.toNat = 5 then [0, 1, 0xF1, 0xF3, 0xFF, 0] else [0x80]))

/-- GET_MESSAGE_TYPE_SUPPORT: types 0x00 and 0x05. -/
def execGetMessageTypeSupport (vdm : Bool) (inst : BitVec 5) (s : State) : Res := .next (s.mctpReply vdm inst 5 [0, 2, 0, 5])

/-- MCTP_PACKET_DROP: any other packet is discarded and counted. -/
def execMctpPacketDrop (vdm : Bool) (s : State) : Res := .next <| if s.mctpOn vdm then s.bump R.MGMT_MCTP_DROPS else s

/-- SMBUS_CLOCK_LOW_TIMEOUT: the device releases the SMBus or PMBus (R922); the message in progress is lost, and nothing the registers show
changes. -/
def execSmbusClockLowTimeout (pmbus : Bool) (s : State) : Res := .next <| if pmbus then s.emit .pmbus [] else s.emit (.mctp 0) []

/-! ### The console (R790) -/

/-- Felt time of one character: ten bits at 100 MHz / (16 × UART_DIV / 64). -/
def State.charTime (s : State) : Nat := 25 * s.regField R.MGMT_UART_CTRL 11 0

/-- Bytes in the transmit FIFO: those still to leave and those that wait for TX_EN. -/
def State.uartFill (s : State) : Nat := s.lk.uartTx.length + ceilDiv (s.lk.uartUntil - s.now) (max 1 s.charTime)

/-- Everything that waits leaves, one character after another, while TX_EN is 1. -/
def State.uartFlush (s : State) : State :=
  if s.regBit R.MGMT_UART_CTRL 16 ∧ s.lk.uartTx ≠ [] then
    let b := s.lk.uartTx
    (s.emit .console b).mapLk fun k => { k with uartTx := [], uartUntil := max k.uartUntil s.now + b.length * s.charTime }
  else s

/-- A byte written to MGMT_UART_DATA: queued, or dropped and counted with event 237 when the FIFO is full. -/
def State.uartWrite (s : State) (v : Word) : State :=
  if 1024 ≤ s.uartFill then (s.bump R.MGMT_UART_TX_LOST).raise 237 82
  else (s.mapLk fun k => { k with uartTx := k.uartTx ++ [by8 (field v 7 0)] }).uartFlush

/-- A read of MGMT_UART_DATA: the oldest byte received, with VALID. -/
def State.uartRead (s : State) : Word × State :=
  match s.lk.uartRx with
  | [] => (0, s)
  | b :: bs => (w32 (256 + b.toNat), s.mapLk fun k => { k with uartRx := bs })

/-- UART_BYTE_RECEIVED: a character enters the receive FIFO while RX_EN is 1; a full FIFO sets RX_OVERRUN. -/
def execUartByteReceived (b : Byte) (s : State) : Res :=
  .next <|
    if ¬ s.regBit R.MGMT_UART_CTRL 17 then s
    else if 1024 ≤ s.lk.uartRx.length then s.setRegBit R.MGMT_UART_STATUS 31 true
    else s.mapLk fun k => { k with uartRx := k.uartRx ++ [b] }

end Sys2Proof.Machine
end

