-- ==== Sys2Proof/Machine/Uloon.lean ====
section
/-! DEFINITION. The pond: Uloon links, slots, mirroring membership and transport keys (R804 to R815, R825). -/

namespace Sys2Proof.Machine

/-- MEMBERS as a mask, whether the device is in a pond, and its leader. -/
def State.members (s : State) : Nat := s.regField R.ULOON_POND_CFG 31 16
def State.inPond (s : State) : Bool := s.reg R.ULOON_POND_ID != 0
def State.leader (s : State) : Nat := ((List.range 16).find? fun m => nbit s.members m).getD s.member
def State.isLeader (s : State) : Bool := s.leader == s.member

/-- Length of a beat in felt cycles of 1 ns. -/
def State.beatNs (s : State) : Nat := if s.bt.period = 0 then 10000 else s.bt.period

/-- POND_STATUS: leader, and FORMED once the frames of every other member are accepted (DEDUCED, notes/assumptions/22.md). -/
def State.pondStatus (s : State) : State :=
  let s := s.setRegField R.ULOON_POND_STATUS 7 4 s.leader
  let s := s.setRegBit R.ULOON_POND_STATUS 1 s.isLeader
  s.setRegBit R.ULOON_POND_STATUS 0 ((List.range 16).all fun m => !nbit s.members m || m == s.member || s.regBit R.ULOON_POND_STATUS (16 + m))

/-! ### Links (R805 to R808) -/

/-- The first condition of R806 that fails, 0 for none. -/
def State.linkCause (s : State) (peer : Fin 16) (pondId : Word) (rootOk : Bool) (halfUs : Nat) (life : Fin 5) : Nat :=
  if ¬ rootOk then 1
  else if pondId ≠ s.reg R.ULOON_POND_ID ∨ ¬ nbit s.members peer.val ∨ peer.val = s.member then 2
  else if halfUs ≠ s.regField R.BEAT_PERIOD 6 0 then 3
  else if life.val ≠ 1 ∧ life.val ≠ 2 then 4
  else 0

/-- ULOON_LINK_UP: the ends exchange identities and agree a link key; the peer is accepted, or the link closed with event 208 + u.
`rootOk` says that the chains verify to one root, `life` is the peer's lifecycle state, `hops` how far the furthest member known
through the link is, and `delay` the measured one-way delay. -/
def execUloonLinkUp (u : Fin 8) (peer : Fin 16) (pondId : Word) (rootOk : Bool) (halfUs : Nat) (life : Fin 5) (hops delay : Nat) (s : State) :
    Res :=
  .next <|
    if ¬ s.inPond ∨ ¬ s.regBit R.ULOON_POND_CFG (8 + u.val) ∨ s.regBit (R.ULOON_LINK_STATUS u.val) 0 then s
    else
      let cause := s.linkCause peer pondId rootOk halfUs life
      if cause ≠ 0 then (s.setReg (R.ULOON_LINK_STATUS u.val) (w32 (cause * 256))).raise (208 + u.val)
      else
        let s := s.setRegs [(R.ULOON_LINK_STATUS u.val, 3 + peer.val * 16), (R.ULOON_LINK_DELAY u.val, delay % 65536)]
        let first := s.lk.peers = [] ∧ s.isLeader ∧ s.regField R.BEAT_STATUS 1 0 = 0
        let key := s.freeBytes 32
        let s := (s.tookFree 32).mapLk fun l => { l with
          linkKeys := (u.val, key) :: l.linkKeys.filter fun p => p.1 != u.val
          peers := (u.val, peer.val) :: l.peers.filter fun p => p.1 != u.val
          leadWait := if first then some s.now else l.leadWait }
        let s := s.pondStatus
        if 3 < hops then s.raise (208 + u.val) else s

/-- A path to the leader is gone: a follower without any runs in holdover (R808, R54). -/
def State.pathGone (s : State) (u : Nat) : State :=
  let had := s.lk.leadPaths.contains u
  let s := s.mapLk fun l => { l with leadPaths := l.leadPaths.filter (· != u) }
  if had ∧ s.lk.leadPaths = [] ∧ s.regBit R.BEAT_STATUS 3 ∧ s.running ∧ ¬ s.regBit R.BEAT_STATUS 6 then
    (s.setRegBit R.BEAT_STATUS 6 true).raise 243
  else s

/-- ULOON_LINK_DOWN: nothing more comes from the peer on this link. -/
def execUloonLinkDown (u : Fin 8) (s : State) : Res :=
  .next <|
    if ¬ s.regBit (R.ULOON_LINK_STATUS u.val) 0 then s
    else
      let peer := s.lk.peers.lookup u.val
      let s := s.setRegField (R.ULOON_LINK_STATUS u.val) 1 0 0
      let s := s.mapLk fun l => { l with linkKeys := l.linkKeys.filter (fun p => p.1 != u.val), peers := l.peers.filter fun p => p.1 != u.val }
      let s := match peer with
        | some m => if s.lk.peers.any fun p => p.2 == m then s else s.setRegBit R.ULOON_POND_STATUS (16 + m) false
        | none => s
      (s.pathGone u.val).pondStatus

/-- ULOON_LEADER_WAIT_EXPIRY: a leader that has heard no BEAT message within 2 s of its first link starts its own beat. -/
def execUloonLeaderWaitExpiry (s : State) : Res :=
  .next <|
    match s.lk.leadWait with
    | some t =>
      if s.lk.good.any (· != 0) then s
      else
        let s := { s with now := max s.now (t + 2000000000) }
        let wanted := s.lk.startWanted
        let s := s.mapLk fun l => { l with leadWait := none, startWanted := false }
        if wanted then s.beatStart else s
    | none => s

/-! ### Transmission (R809, R812 to R814) -/

/-- Bytes of a message: an 8-byte header and its body, to whole units of 64 bytes (layout open, notes/assumptions/22.md). -/
def pondMessage (type origin seq : Nat) (body : Bytes) : Bytes :=
  let u := ceilDiv (8 + body.length) 64
  let facts := leBytes 4 type ++ leBytes 4 origin ++ leBytes 8 seq ++ leBytes 4 u
  (List.range 8).map (Config.pondByte facts) ++ padTo (64 * u - 8) body

/-- What a mail carries, after its header. -/
def Mail.bodyBytes (m : Mail) : Bytes :=
  [by8 m.what, by8 m.dest, by8 m.deckle, 0] ++ leBytes 4 m.handle ++ leBytes 4 m.gen ++ m.body

/-- The mails that fit into `room` units, in order of type; an APPLY or RESYNC that does not fit leaves a fragment, anything else waits.
Answers the messages in order and the mails that remain. -/
def packMail (seq : Nat) : Nat → List Mail → List (Nat × Bytes) × List Mail
  | _, [] => ([], [])
  | room, m :: ms =>
    let bs := pondMessage m.order m.origin seq m.bodyBytes
    let u := bs.length / 64
    if u ≤ room then
      let r := packMail (seq + 1) (room - u) ms
      ((m.order, bs) :: r.1, r.2)
    else if 7 ≤ m.order ∧ 1 ≤ room then
      let n := 64 * room - 20
      let part := pondMessage m.order m.origin seq { m with body := m.body.take n }.bodyBytes
      ([(m.order, part)], { m with body := m.body.drop n } :: ms)
    else
      let r := packMail seq room ms
      (r.1, m :: r.2)

/-- Decisions are sent again in every beat until each peer has acknowledged them (R357). -/
def State.againMail (s : State) : List Mail :=
  (s.ks.decisions.filter fun d => decide (d.since < s.beat)).map fun d => ⟨3, if d.commit then 2 else 3, s.member, 16, d.deckle, d.handle, d.gen, []⟩

/-- Mails in the order of their type. -/
def mailOrder (l : List Mail) : List Mail := (List.range 9).flatMap fun k => l.filter fun m => m.order == k

/-- The frame for link `u`: header, payload in UNITS units, tag under the link key with SENDER and BEAT_COUNT as nonce. -/
def State.slotFrame (s : State) (u : Nat) (payload : Bytes) : Bytes :=
  let facts := leBytes 4 s.member ++ leBytes 4 (s.reg R.ULOON_POND_ID).toNat ++ leBytes 8 s.beat ++ leBytes 4 (s.regField R.ULOON_UNITS 7 0) ++
    [by8 (b2n (s.regBit R.ULOON_POND_STATUS 2))]
  let hdr := (List.range 32).map (Config.pondByte facts)
  let key := (s.lk.linkKeys.lookup u).getD (zeros 32)
  let r := gcmEnc key (leBytes 4 s.member ++ leBytes 8 s.beat) hdr (padTo (64 * s.regField R.ULOON_UNITS 7 0) payload)
  hdr ++ r.1 ++ r.2

/-- ULOON_SLOT_TRANSMIT: 200 ns after the start of its slot the member sends its frame on every link that is up. A relayed message does
not return on the link it came in on (R814). -/
def execUloonSlotTransmit (s : State) : Res :=
  let at_ := s.bt.edgeAt + s.member * s.beatNs / 16 + 200
  .next <|
    if ¬ s.running ∨ ¬ s.inPond ∨ at_ ≤ s.now then s
    else
      let s := { s with now := at_ }
      let units := s.regField R.ULOON_UNITS 7 0
      let beat := pondMessage 1 s.member s.lk.msgSeq (leBytes 8 s.beat ++ leBytes 4 (s.regField R.ULOON_OFFSET 15 0))
      let delay := pondMessage 2 s.member (s.lk.msgSeq + 1) (leBytes 8 s.now)
      let relays := s.lk.relay
      let used := 2 + (relays.map fun r => r.2.2.length / 64).sum
      let own := packMail (s.lk.msgSeq + 2) (units - used) (mailOrder (s.againMail ++ s.ks.mail))
      let again := s.againMail
      let s := (s.mapKs fun k => { k with mail := own.2.filter fun m => !again.contains m }).mapLk fun l => { l with
        msgSeq := l.msgSeq + 2 + own.1.length, relay := [] }
      s.lk.peers.foldl (fun s p =>
        let all := (relays.filter fun r => r.1 != p.1).map (fun r => r.2) ++ own.1
        let payload := beat ++ delay ++ (((List.range 9).flatMap fun k => all.filter fun m => m.1 == k).map (·.2)).flatten
        (s.emit (.uloon p.1) (s.slotFrame p.1 payload)).bump (R.ULOON_LINK_TX_FRAMES p.1)) s

/-! ### Reception (R807, R808, R810, R811, R814) -/

/-- A frame's start, less the link's delay, lies within 200 ns of the sender's nominal start; times in sixteenths. -/
def inWindow (beatNs start delay sender : Nat) : Bool :=
  let a := 16 * start
  let b := 16 * (delay + 200) + sender * beatNs
  decide (a ≤ b + 3200) && decide (b ≤ a + 3200)

/-- Frame of member `m` discarded: the fourth in a row removes it (R811). -/
def State.lateFrom (s : State) (u m : Nat) : State :=
  let n := s.lk.late.getD m 0 + 1
  let s := s.mapLk fun l => { l with late := l.late.set m n, good := l.good.set m 0 }
  if n = 4 ∧ s.regBit R.ULOON_MIRROR_MASK m then
    ((((s.dropPeer m).bump R.ULOON_REMOVALS).setRegBit R.ULOON_POND_STATUS (16 + m) false).pondStatus).raise (208 + u)
  else s

/-- Generation lists go out for every mirrored deckle, and KEYS_STATUS shows the exchange (R358). -/
def State.resync (s : State) (m : Nat) : State :=
  (List.range 16).foldl (fun s d =>
    if s.regBit (R.KEYS_DCFG d) 2 then
      let gens := (s.ks.recs.filter fun r => r.deckle == d && r.gen == (s.keyNow d r.handle).gen).flatMap fun r => leBytes 4 r.handle ++ leBytes 4 r.gen
      (s.post ⟨8, 0, s.member, m, d, 0, 0, gens⟩).setRegBit R.KEYS_STATUS 3 true
    else s) s

/-- Frame of member `m` accepted: the sixteenth in a row, with SYNC, brings it into mirroring (R811). -/
def State.goodFrom (s : State) (u m : Nat) (sync same : Bool) : State :=
  let n := s.lk.good.getD m 0 + 1
  let s := s.mapLk fun l => { l with late := l.late.set m 0, good := l.good.set m n }
  let s := (s.setRegBit R.ULOON_POND_STATUS (16 + m) true).pondStatus
  if 16 ≤ n ∧ sync ∧ same ∧ ¬ s.regBit R.ULOON_MIRROR_MASK m ∧ nbit s.members m ∧ m ≠ s.member then
    ((s.setRegBit R.ULOON_MIRROR_MASK m true).resync m).raise (208 + u)
  else s

/-- One message: relayed once when it is another's (R814); a BEAT message of the leader shows a path, and one of a member further away
counts for that member. -/
def State.takeMessage (s : State) (u : Nat) (sync same : Bool) (m : PondMsg) : State :=
  let id := (m.origin.val, m.seq)
  if m.origin.val = s.member ∨ s.lk.seen.contains id then s
  else
    let s := s.mapLk fun l => { l with seen := (id :: l.seen).take 4096, relay := l.relay ++ [(u, m.type.val, m.data)] }
    let s := if m.origin.val = s.leader ∧ ¬ s.lk.leadPaths.contains u then s.mapLk fun l => { l with leadPaths := u :: l.leadPaths } else s
    if m.type.val = 1 ∧ ¬ s.lk.peers.any (fun p => p.2 == m.origin.val) then s.goodFrom u m.origin.val sync same else s

/-- What a BEAT message tells about the pond's beat: a follower, or a leader that still waits, takes its first edge and BEAT_COUNT from it
(R58, R807); a running follower learns its offset (R808). -/
def State.takeBeat (s : State) (sender delay beat : Nat) (offset : Int) : State :=
  if ¬ s.running then
    if s.regBit R.BEAT_STATUS 3 ∨ (s.lk.leadWait.isSome ∧ s.lk.startWanted) then
      let s := s.mapLk fun l => { l with leadWait := none, startWanted := false }
      s.firstEdge (beat + 1) (s.now + s.beatCycles - delay - 200 - sender * s.beatCycles / 16)
    else s
  else if s.regBit R.BEAT_STATUS 3 then
    let s := s.setReg R.ULOON_OFFSET (w32 ((offset % 65536).toNat))
    (s.setRegBit R.ULOON_POND_STATUS 2 (decide (-50 ≤ offset) && decide (offset ≤ 50))).setRegBit R.BEAT_STATUS 6 false
  else s.setRegBit R.ULOON_POND_STATUS 2 true

/-- ULOON_SLOT_FRAME_RECEIVED: on link `u`, `start` ns after this member's own edge; `tagOk` whether its tag and coding are right; `sync`
and `beat` its header's; `offset` what its BEAT message gives for this member; `msgs` its messages. -/
def execUloonSlotFrameReceived (u : Fin 8) (sender : Fin 16) (start : Nat) (tagOk sync : Bool) (beat : Nat) (offset : Int) (msgs : List PondMsg)
    (s : State) : Res :=
  let k := u.val
  .next <|
    if ¬ s.regBit (R.ULOON_LINK_STATUS k) 1 then s
    else if ¬ tagOk then s.bump (R.ULOON_LINK_RX_BAD k)
    else
      let delay := (s.reg (R.ULOON_LINK_DELAY k)).toNat
      let s := if s.running then { s with now := max s.now (s.bt.edgeAt + start) } else s
      if s.running ∧ ¬ inWindow s.beatNs start delay sender.val then (s.bump (R.ULOON_LINK_RX_LATE k)).lateFrom k sender.val
      else
        let same := decide (beat = s.beat)
        let s := (s.bump (R.ULOON_LINK_RX_FRAMES k)).goodFrom k sender.val sync same
        let s := if sender.val = s.leader ∧ ¬ s.lk.leadPaths.contains k then s.mapLk fun l => { l with leadPaths := k :: l.leadPaths } else s
        let s := msgs.foldl (fun s m => s.takeMessage k sync same m) s
        s.takeBeat sender.val delay beat offset

/-! ### Transport keys (R815) -/

/-- TRANSPORT_KEY_DISTRIBUTE (what its message holds for each member, an encapsulation under the member's key, is open): at a change of mirroring membership the lowest member that mirrors deckle `d` draws its transport key from
its device DRBG and floods it. -/
def execTransportKeyDistribute (d : Deckle) (s : State) : Res :=
  .next <|
    let below := (List.range s.member).any fun m => s.regBit R.ULOON_MIRROR_MASK m && nbit (s.reg (R.KEYS_MIRROR_LIST d.val)).toNat m
    if ¬ s.inPond ∨ ¬ s.regBit (R.KEYS_DCFG d.val) 2 ∨ below ∨ s.spr.device.isNone then s
    else
      let r := s.drawDev 32
      let k := ((r.2.ks.transport.find? fun t => t.1 == d.val).map (fun t => t.2.1)).getD 0 + 1
      let s := r.2.mapKs fun x => { x with transport := (d.val, k, r.1) :: x.transport.filter fun t => t.1 != d.val }
      (List.range 16).foldl (fun s m =>
        if s.regBit R.ULOON_MIRROR_MASK m ∧ nbit (s.reg (R.KEYS_MIRROR_LIST d.val)).toNat m then
          s.post ⟨5, 0, s.member, m, d.val, 0, k, (List.range 1120).map (Config.pondByte ([5, by8 m, by8 d.val] ++ r.1))⟩
        else s) s

end Sys2Proof.Machine
end

