-- ==== Sys2Proof/Machine/Cards.lean ====
section
/-! DEFINITION. The contact slots (R826 to R840) and the contactless reader (R841 to R850), with their registers' fields and events
(R864 to R869). -/

namespace Sys2Proof.Machine

def State.mapCd (s : State) (f : CardState → CardState) : State := { s with cd := f s.cd }
def State.slot (s : State) (n : Nat) : CardSlot := s.cd.slots.getD n CardSlot.idle
def State.setSlot (s : State) (n : Nat) (x : CardSlot) : State := s.mapCd fun c => { c with slots := c.slots.set n x }
def State.updSlot (s : State) (n : Nat) (f : CardSlot → CardSlot) : State := s.setSlot n (f (s.slot n))
def State.updCless (s : State) (f : ClessState → ClessState) : State := s.mapCd fun c => { c with cless := f c.cless }

/-- The card interfaces work: no reset, no tamper response, no power failure, and both card rails good (R840). -/
def State.cardsLive (s : State) : Bool := !s.pw.inReset && !s.pw.held && !s.tripped && !s.pins.pwrfail && (s.pins.pgRail / 32 % 2 == 1)

/-! ### Contact slots: state, events, activation -/

/-- A bit of CARD_EVT_STATUS, with event 232 + n where it is enabled (R869). -/
def State.cardEvent (s : State) (n i : Nat) : State :=
  let s := s.setRegBit (R.CARD_EVT_STATUS n) i true
  if s.regBit (R.CARD_EVT_EN n) i then s.raise (232 + n) else s

def State.cardPresent (s : State) (n : Nat) : Bool := s.regBit (R.CARD_STATUS n) 1
def State.cardStateIs (s : State) (n k : Nat) : Bool := s.regField (R.CARD_STATUS n) 6 4 == k

/-- The card is deactivated (R839, R840), and the slot shows state `k`. -/
def State.cardOff (s : State) (n k : Nat) : State :=
  ((s.setRegBit (R.CARD_STATUS n) 0 false).setRegField (R.CARD_STATUS n) 6 4 k).updSlot n fun x =>
    { CardSlot.idle with inserted := x.inserted, cls := x.cls }

/-- An activation or exchange ends with an error: deactivation, ERR, CARD_ERRORS and the ERROR event. -/
def State.cardError (s : State) (n err : Nat) : State :=
  (((s.cardOff n 6).setRegField (R.CARD_STATUS n) 19 16 err).bump (R.CARD_ERRORS n)).cardEvent n 4

/-- The slot activates the card in class `c`, with PPS or without it (R828). -/
def State.cardActivate (s : State) (n c : Nat) (noPps : Bool) : State :=
  let s := ((s.setRegBit (R.CARD_STATUS n) 0 true).setRegField (R.CARD_STATUS n) 6 4 2).setRegField (R.CARD_STATUS n) 25 20 0
  let s := s.setRegs [(R.CARD_PROTO n, c * 2 + 0x110 + 25 * 65536), (R.CARD_PARAM n, 0)]
  s.updSlot n fun x => { CardSlot.idle with step := .atr, cls := c, noPps := noPps, inserted := x.inserted }

/-- Class C, or B where C is not allowed. -/
def State.firstClass (s : State) (n : Nat) : Nat := if s.regBit (R.CARD_CTRL n) 2 then 0 else 1

/-- The card is to be activated again, 10 ms after this deactivation (R830). -/
def State.cardAgain (s : State) (n c : Nat) (noPps : Bool) : State :=
  (s.cardOff n 2).updSlot n fun x => { x with next := c, noPps := noPps, retryAt := some (s.now + 10000000) }

/-- CARD_INSERTED: after the debounce time the slot has a card and activates it (R827). -/
def execCardInserted (n : Fin 2) (s : State) : Res :=
  let k := n.val
  .next <|
    if ¬ s.cardsLive ∨ ¬ s.regBit (R.CARD_CTRL k) 0 ∨ s.cardPresent k then s
    else
      let s := (s.setRegBit (R.CARD_STATUS k) 1 true).updSlot k fun x => { x with inserted := s.now }
      (s.cardEvent k 0).cardActivate k (s.firstClass k) false

/-- CARD_CMD.ACTIVATE: a present card that is not powered is activated. -/
def State.cardCmdActivate (s : State) (n : Nat) : State :=
  if s.cardsLive ∧ s.cardPresent n ∧ ¬ s.regBit (R.CARD_STATUS n) 0 then s.cardActivate n (s.firstClass n) false else s

/-- CARD_CMD.DEACTIVATE (R840). -/
def State.cardCmdDeactivate (s : State) (n : Nat) : State := s.cardOff n 0

/-- CARD_REMOVED (R839): an exchange in progress ends with ERR REMOVED; there is no retry until the next insertion. -/
def execCardRemoved (n : Fin 2) (s : State) : Res :=
  let k := n.val
  .next <|
    if s.pw.inReset ∨ ¬ s.cardPresent k then s
    else
      let busy := s.cardStateIs k 4
      let s := if busy then s.cardError k 7 else s
      let s := ((s.cardOff k 0).setRegBit (R.CARD_STATUS k) 1 false).bump (R.CARD_REMOVALS k)
      s.cardEvent k 1

/-! ### The answer to reset (R829 to R833) -/

/-- Interface bytes of an ATR: index, the protocol of the TD before it, and TA, TB, TC, TD where present. -/
structure AtrGroup where
  idx : Nat
  t   : Option Nat
  ta  : Option Nat
  tb  : Option Nat
  tc  : Option Nat
  td  : Option Nat
  deriving DecidableEq, Repr

/-- The groups from the byte after T0 on, `y` saying which follow; and what is left, none when the ATR ends too early. -/
def atrGroups : Nat → Nat → Option Nat → Nat → Bytes → Option (List AtrGroup × Bytes)
  | 0, _, _, _, _ => none
  | f + 1, i, t, y, b =>
    let take (on : Bool) (b : Bytes) : Option (Option Nat × Bytes) :=
      if on then (match b with | x :: r => some (some x.toNat, r) | [] => none) else some (none, b)
    match take (nbit y 0) b with
    | none => none
    | some (ta, b) =>
      match take (nbit y 1) b with
      | none => none
      | some (tb, b) =>
        match take (nbit y 2) b with
        | none => none
        | some (tc, b) =>
          match take (nbit y 3) b with
          | none => none
          | some (td, b) =>
            let g : AtrGroup := ⟨i, t, ta, tb, tc, td⟩
            match td with
            | none => some ([g], b)
            | some d =>
              match atrGroups f (i + 1) (some (d % 16)) (d / 16) b with
              | some r => some (g :: r.1, r.2)
              | none => none

/-- Exclusive or of a byte string. -/
def xorAll (b : Bytes) : Byte := b.foldl (· ^^^ ·) 0

/-- The groups of an acceptable ATR: TS, length, historical bytes and TCK (R829). -/
def atrParse (b : Bytes) : Option (List AtrGroup) :=
  if b.length < 2 ∨ 33 < b.length ∨ (byteAt b 0 ≠ 0x3B ∧ byteAt b 0 ≠ 0x3F) then none
  else
    match atrGroups 16 1 none (byteAt b 1 / 16) (b.drop 2) with
    | none => none
    | some (gs, rest) =>
      let tck := gs.any fun g => g.t.isSome && g.t != some 0
      let hist := byteAt b 1 % 16
      if rest.length ≠ hist + b2n tck then none
      else if tck ∧ xorAll (b.drop 1) ≠ 0 then none
      else some gs

/-- Fi index to F and twice fmax in MHz; Di index to D (ISO/IEC 7816-3; PRESUMED, notes/assumptions/23.md). -/
def fiTable (i : Nat) : Option (Nat × Nat) :=
  ([(0, 372, 8), (1, 372, 10), (2, 558, 12), (3, 744, 16), (4, 1116, 24), (5, 1488, 32), (6, 1860, 40), (9, 512, 10), (10, 768, 15),
    (11, 1024, 20), (12, 1536, 30), (13, 2048, 40)] : List (Nat × Nat × Nat)).lookup i
def diTable (i : Nat) : Option Nat := ([(1, 1), (2, 2), (3, 4), (4, 8), (5, 16), (6, 32), (7, 64), (8, 12), (9, 20)] : List (Nat × Nat)).lookup i

/-- The largest Di index whose D is not above that of `d` and gives a ratio of 16 or more with Fi index `f` (R832). -/
def bestDi (f d : Nat) : Nat :=
  let fv := ((fiTable f).map (·.1)).getD 372
  let dv := (diTable d).getD 1
  let ok := (List.range 10).filter fun i => match diTable i with | some v => decide (v ≤ dv) && decide (16 * v ≤ fv) | none => false
  ok.foldl (fun best i => if (diTable best).getD 0 < (diTable i).getD 0 then i else best) 1

/-- CLKDIV for a Fi index (R832). -/
def clkDiv (f : Nat) : Nat := max 10 (ceilDiv 200 (((fiTable f).map (·.2)).getD 8))

/-- What an accepted ATR says. -/
structure AtrFacts where
  /-- Protocols offered; TA1; TA2; TC1; WI; T=1: IFSC, BWI and CWI, CRC; T=15: its TA. -/
  protos : List Nat
  ta1    : Option Nat
  ta2    : Option Nat
  n      : Nat
  wi     : Nat
  ifsc   : Nat
  tb3    : Nat
  crc    : Bool
  t15    : Option Nat
  deriving DecidableEq, Repr

def atrFacts (gs : List AtrGroup) : AtrFacts :=
  let tds := (gs.filterMap (·.td)).map (· % 16)
  let g (i : Nat) : Option AtrGroup := gs.find? fun x => x.idx == i
  let t1 := gs.find? fun x => decide (3 ≤ x.idx) && x.t == some 1
  let t15 := gs.find? fun x => decide (2 ≤ x.idx) && x.t == some 15 && x.ta.isSome
  { protos := if tds = [] then [0] else tds.filter (· != 15)
    ta1 := (g 1).bind (·.ta)
    ta2 := (g 2).bind (·.ta)
    n := ((g 1).bind (·.tc)).getD 0
    wi := ((g 2).bind (·.tc)).getD 10
    ifsc := (t1.bind (·.ta)).getD 32
    tb3 := (t1.bind (·.tb)).getD 0x4D
    crc := ((t1.bind (·.tc)).getD 0) % 2 == 1
    t15 := t15.bind (·.ta) }

/-- The card's acceptance of class `c` (0 C, 1 B) in its T=15 class indicator. -/
def classOkFor (t15 : Option Nat) (c : Nat) : Bool :=
  match t15 with
  | none => true
  | some x => if x % 64 = 0 then true else nbit x (if c = 0 then 2 else 1)

/-- A CRC with the reflected polynomial of ISO/IEC 13239, from `init`, low byte first (PRESUMED, notes/assumptions/23.md). -/
def crc16 (init : Nat) (b : Bytes) : Nat :=
  (b.foldl (fun (c : BitVec 16) x =>
    (List.range 8).foldl (fun (c : BitVec 16) _ => if c.getLsbD 0 then (c >>> 1) ^^^ 0x8408#16 else c >>> 1) (c ^^^ x.setWidth 16))
    (BitVec.ofNat 16 init)).toNat

/-- A block under T=1 with its error detection (R826). -/
def State.t1Block (s : State) (n : Nat) (b : Bytes) : Bytes :=
  if s.regBit (R.CARD_PROTO n) 2 then b ++ leBytes 2 (0xFFFF - crc16 0xFFFF b) else b ++ [xorAll b]

/-- The slot sends bytes, and remembers them. -/
def State.cardSends (s : State) (n : Nat) (b : Bytes) : State := (s.emit (.card n) b).updSlot n fun x => { x with last := b }

/-- The card is ready for exchanges. -/
def State.cardReady (s : State) (n : Nat) : State :=
  ((s.setRegField (R.CARD_STATUS n) 6 4 3).updSlot n fun x => { x with step := .idle, tries := 0, resyncs := 0, wtx := 1 }).cardEvent n 2

/-- Parameters are settled: under T=1 the IFS request follows, under T=0 the card is ready (R833). -/
def State.cardSettled (s : State) (n : Nat) : State :=
  if s.regBit (R.CARD_PROTO n) 0 then
    (s.cardSends n (s.t1Block n [0, 0xC1, 1, 0xFE])).updSlot n fun x => { x with step := .ifs, tries := 0 }
  else s.cardReady n

/-- Fi, Di and CLKDIV in force. -/
def State.cardParams (s : State) (n f d div : Nat) : State :=
  ((s.setRegField (R.CARD_PROTO n) 7 4 f).setRegField (R.CARD_PROTO n) 11 8 d).setRegField (R.CARD_PROTO n) 23 16 div

/-- An activation whose ATR is malformed: a warm reset the first time in this class, an end with BAD_ATR the second; after a failed PPS,
ERR PPS (R830, R832). -/
def State.atrBad (s : State) (n : Nat) : State :=
  if (s.slot n).noPps then s.cardError n 5
  else if (s.slot n).warm then s.cardError n 2
  else s.updSlot n fun x => { x with warm := true }

/-- An acceptable ATR: class, protocol, and parameters (R830 to R832). -/
def State.atrGood (s : State) (n : Nat) (atr : Bytes) (a : AtrFacts) : State :=
  let c := (s.slot n).cls
  let s := (s.setRegBytes (R.CARD_ATR n 0) (padTo 36 atr)).setRegField (R.CARD_STATUS n) 25 20 atr.length
  let t := if a.protos.contains 1 then 1 else 0
  if ¬ classOkFor a.t15 c then
    if c = 0 ∧ s.regBit (R.CARD_CTRL n) 3 ∧ classOkFor a.t15 1 then s.cardAgain n 1 false else s.cardError n 3
  else if ¬ (a.protos.contains 0 ∨ a.protos.contains 1) then s.cardError n 4
  else if (match a.ta2 with | some x => nbit x 4 || decide (1 < x % 16) | none => false) then s.cardError n 4
  else
    let tt := match a.ta2 with | some x => x % 16 | none => t
    let s := s.setReg (R.CARD_PROTO n) (w32 (tt + 2 * c + 4 * b2n (a.crc && tt == 1) + 0x110 + 25 * 65536 + a.n * 2 ^ 24))
    let s := s.setReg (R.CARD_PARAM n) (w32 (a.ifsc + a.tb3 % 16 * 256 + a.tb3 / 16 * 4096 + a.wi * 65536))
    let s := s.updSlot n fun x => { x with clkStop := match a.t15 with | some y => y / 64 % 4 | none => 0 }
    let ta := a.ta1.getD 0x11
    match a.ta2 with
    | some _ => (s.cardParams n (ta / 16) (ta % 16) (clkDiv (ta / 16))).cardSettled n
    | none =>
      if s.regBit (R.CARD_CTRL n) 4 ∧ a.ta1.isSome ∧ ta ≠ 0x11 ∧ ¬ (s.slot n).noPps ∧ (fiTable (ta / 16)).isSome ∧ (diTable (ta % 16)).isSome then
        let b := [(0xFF : Byte), by8 (0x10 + tt), by8 (ta / 16 * 16 + bestDi (ta / 16) (ta % 16))]
        (s.cardSends n (b ++ [xorAll b])).updSlot n fun x => { x with step := .pps }
      else s.cardSettled n

/-- CARD_ATR_RECEIVED: the card's answer has ended; `timely` says that its timing is that of R829. -/
def execCardAtrReceived (n : Fin 2) (atr : Bytes) (timely : Bool) (s : State) : Res :=
  .next <|
    if ¬ s.cardsLive ∨ (s.slot n.val).step ≠ .atr then s
    else match timely, atrParse atr with
      | true, some gs => s.atrGood n.val atr (atrFacts gs)
      | _, _ => s.atrBad n.val

/-- CARD_ATR_TIMEOUT: no TS has come, or (`ts`) the ATR stopped short. -/
def execCardAtrTimeout (n : Fin 2) (ts : Bool) (s : State) : Res :=
  let k := n.val
  .next <|
    if ¬ s.cardsLive ∨ (s.slot k).step ≠ .atr then s
    else if ts then s.atrBad k
    else if (s.slot k).noPps then s.cardError k 5
    else if (s.slot k).cls = 0 ∧ s.regBit (R.CARD_CTRL k) 3 then s.cardAgain k 1 false
    else s.cardError k 1

/-- CARD_RETRY_DELAY_END: 10 ms after the deactivation the slot activates the card again. -/
def execCardRetryDelayEnd (n : Fin 2) (s : State) : Res :=
  let k := n.val
  .next <|
    match (s.slot k).retryAt with
    | some t =>
      if s.cardsLive ∧ s.cardPresent k then ({ s with now := max s.now t } : State).cardActivate k (s.slot k).next (s.slot k).noPps else s
    | none => s

/-- PPS failed: the card is activated again in the same class without PPS (R832). -/
def State.ppsFail (s : State) (n : Nat) : State := s.cardAgain n (s.slot n).cls true

/-- CARD_PPS_RESPONSE: an echo of the request puts its parameters in force. -/
def execCardPpsResponse (n : Fin 2) (echo : Bytes) (s : State) : Res :=
  let k := n.val
  .next <|
    if ¬ s.cardsLive ∨ (s.slot k).step ≠ .pps then s
    else if echo = (s.slot k).last then
      let p := byteAt echo 2
      (s.cardParams k (p / 16) (p % 16) (clkDiv (p / 16))).cardSettled k
    else s.ppsFail k

/-- CARD_PPS_TIMEOUT: no echo within 9,600 etu. -/
def execCardPpsTimeout (n : Fin 2) (s : State) : Res :=
  .next <| if s.cardsLive ∧ (s.slot n.val).step = .pps then s.ppsFail n.val else s

/-! ### Exchanges (R834 to R837) -/

/-- An exchange has ended: data, SW and the DONE event. -/
def State.cardDone (s : State) (n : Nat) (data : Bytes) (sw : Nat) : State :=
  let s := (s.setRegBytes (R.CARD_RXBUF n 0) (padTo 256 data)).setRegs [(R.CARD_RX_LEN n, data.length), (R.CARD_SW n, sw)]
  ((s.setRegField (R.CARD_STATUS n) 6 4 3).updSlot n fun x => { x with step := .idle, tries := 0, resyncs := 0, wtx := 1 }).cardEvent n 3

/-- Largest information field that the card takes under T=1. -/
def State.ifsc (s : State) (n : Nat) : Nat := max 1 (s.regField (R.CARD_PARAM n) 7 0)

/-- The next I-block of the command (R835). -/
def State.sendI (s : State) (n : Nat) : State :=
  let x := s.slot n
  let part := (x.tx.drop x.sent).take (s.ifsc n)
  let more := decide (x.sent + part.length < x.tx.length)
  let s := s.cardSends n (s.t1Block n ([0, by8 (x.ns * 64 + b2n more * 32), by8 part.length] ++ part))
  s.updSlot n fun x => { x with part := part.length }

/-- CARD_CMD.SEND: the command APDU goes to a card that is ready, or the command is ignored with an entry in error capture. -/
def State.cardCmdSend (s : State) (who : Sender) (n : Nat) : State :=
  let len := (s.reg (R.CARD_TX_LEN n)).toNat
  if ¬ s.cardsLive ∨ ¬ (s.cardStateIs n 3 ∨ s.cardStateIs n 5) ∨ len < 4 then s.errAt errIgnored who .store (R.CARD_CMD n)
  else
    let tx := (s.regBytes (R.CARD_TXBUF n 0) 66).take len
    let s := (s.setRegField (R.CARD_STATUS n) 6 4 4).setRegField (R.CARD_STATUS n) 19 16 0
    let s := s.updSlot n fun x => { x with step := .exchange, clkOff := false, tx := tx, sent := 0, rx := [], tries := 0, resyncs := 0, wtx := 1
                                           part := 0, startAt := s.now }
    if s.regBit (R.CARD_PROTO n) 0 then s.sendI n
    else (s.cardSends n (padTo 5 (tx.take 5))).updSlot n fun x => { x with ns := 0, nr := 0 }

/-- One character from the card under T=0 (R834): a procedure byte, a data byte, or SW2. `ns` holds SW1 while SW2 is awaited, `nr` counts
the data bytes of this command, `part` those that are to come before the next procedure byte. -/
def State.t0Char (s : State) (n : Nat) (b : Byte) : State :=
  let x := s.slot n
  if x.step ≠ .exchange then s
  else
    let v := b.toNat
    let ins := byteAt x.last 1
    let out := x.last == padTo 5 (x.tx.take 5) && decide (5 < x.tx.length)
    let p3 := byteAt x.last 4
    let want := if out then 0 else if p3 = 0 ∧ (x.tx.length ≠ 4 ∨ x.last ≠ padTo 5 x.tx) then 256 else p3
    let command (h : Bytes) : State := (s.cardSends n h).updSlot n fun x => { x with ns := 0, nr := 0, part := 0 }
    if 0 < x.part then s.setSlot n { x with part := x.part - 1, nr := x.nr + 1, rx := x.rx ++ [b] }
    else if x.ns ≠ 0 then
      if x.ns = 0x61 then command (x.tx.take 1 ++ [0xC0, 0, 0, b])
      else if x.ns = 0x6C then command (x.tx.take 4 ++ [b])
      else s.cardDone n x.rx (x.ns * 256 + v)
    else if v = 0x60 then s
    else if v / 16 = 6 ∨ v / 16 = 9 then s.setSlot n { x with ns := v }
    else if v = ins ∨ v = 255 - ins then
      if out then
        let rest := ((x.tx.drop 5).take p3).drop x.sent
        let go := if v = ins then rest else rest.take 1
        (s.emit (.card n) go).setSlot n { x with sent := x.sent + go.length }
      else s.setSlot n { x with part := if v = ins then want - x.nr else min 1 (want - x.nr) }
    else s.cardError n 4

/-- An error under T=1: R(NAK) up to three times, S(RESYNCH request) up to three times, then ERR PROTOCOL (R836). -/
def State.t1Error (s : State) (n : Nat) : State :=
  let x := s.slot n
  if x.tries < 3 ∧ x.step ≠ .resynch then
    let s := s.updSlot n fun x => { x with tries := x.tries + 1, wtx := 1 }
    if x.step = .ifs then s.cardSends n x.last
    else s.emit (.card n) (s.t1Block n [0, by8 (0x81 + 16 * x.nr), 0])
  else if x.resyncs < 3 ∧ x.step ≠ .ifs then
    (s.emit (.card n) (s.t1Block n [0, 0xC0, 0])).updSlot n fun x => { x with resyncs := x.resyncs + 1, step := .resynch, wtx := 1 }
  else s.cardError n 4

/-- A block of the card that the error detection accepts: PCB and information field (R835). -/
def State.t1Good (s : State) (n pcb : Nat) (inf : Bytes) : State :=
  let x := s.slot n
  let ok (s : State) : State := s.updSlot n fun x => { x with tries := 0, wtx := 1 }
  let answer (p : Nat) : State := s.emit (.card n) (s.t1Block n ([0, by8 p, by8 inf.length] ++ inf))
  if x.step = .ifs then if pcb = 0xE1 ∧ inf = [0xFE] then s.cardReady n else s.t1Error n
  else if x.step = .resynch then
    if pcb = 0xE0 ∧ inf = [] then
      (s.updSlot n fun x => { x with step := .exchange, ns := 0, nr := 0, sent := 0, rx := [], tries := 0 }).sendI n
    else s.t1Error n
  else if pcb = 0xC3 ∧ inf.length = 1 then (answer 0xE3).updSlot n fun x => { x with wtx := max 1 (byteAt inf 0) }
  else if pcb = 0xC1 ∧ inf.length = 1 then (answer 0xE1).setRegField (R.CARD_PARAM n) 7 0 (byteAt inf 0)
  else if pcb = 0xC2 ∧ inf = [] then (answer 0xE2).cardError n 4
  else if pcb < 128 then
    if x.sent + x.part < x.tx.length ∨ pcb / 64 ≠ x.nr then s.t1Error n
    else
      let s := (ok s).updSlot n fun x => { x with nr := 1 - x.nr, ns := if x.sent < x.tx.length then 1 - x.ns else x.ns, sent := x.tx.length
                                                  part := 0, rx := x.rx ++ inf }
      if pcb / 32 % 2 = 1 then s.emit (.card n) (s.t1Block n [0, by8 (0x80 + 16 * (s.slot n).nr), 0])
      else
        let rx := (s.slot n).rx
        if rx.length < 2 ∨ 258 < rx.length then s.cardError n 4 else s.cardDone n (rx.take (rx.length - 2)) (beNat (rx.drop (rx.length - 2)))
  else if pcb / 64 = 2 then
    if pcb / 16 % 2 ≠ x.ns ∧ x.sent + x.part < x.tx.length then
      ((ok s).updSlot n fun x => { x with sent := x.sent + x.part, ns := 1 - x.ns }).sendI n
    else if x.tries < 3 then (s.cardSends n x.last).updSlot n fun x => { x with tries := x.tries + 1 }
    else s.t1Error n
  else s.t1Error n

/-- The error detection of a T=1 block. -/
def State.t1Check (s : State) (n : Nat) (b : Bytes) : Option (Nat × Bytes) :=
  let e := if s.regBit (R.CARD_PROTO n) 2 then 2 else 1
  let len := byteAt b 2
  if b.length = 3 + len + e ∧ byteAt b 0 = 0 ∧ len ≤ 254 ∧ s.t1Block n (b.take (3 + len)) = b then some (byteAt b 1, slice b 3 len) else none

/-- CARD_BLOCK_RECEIVED: characters (T=0) or a block (T=1) from the card; `ok` says that no character had a parity error. -/
def execCardBlockReceived (n : Fin 2) (data : Bytes) (ok : Bool) (s : State) : Res :=
  let k := n.val
  let x := s.slot k
  .next <|
    if ¬ s.cardsLive ∨ ¬ (x.step = .ifs ∨ x.step = .exchange ∨ x.step = .resynch) then s
    else if s.regBit (R.CARD_PROTO k) 0 then
      match ok, s.t1Check k data with
      | true, some p => s.t1Good k p.1 p.2
      | _, _ => s.t1Error k
    else if ok then (data.foldl (fun s b => s.t0Char k b) s).updSlot k fun x => { x with tries := 0 }
    else if 3 ≤ x.tries then s.cardError k 4
    else s.updSlot k fun x => { x with tries := x.tries + 1 }

/-- CARD_WAIT_TIMEOUT: the waiting time of a character or block has run out. -/
def execCardWaitTimeout (n : Fin 2) (s : State) : Res :=
  let k := n.val
  let x := s.slot k
  .next <|
    if ¬ s.cardsLive ∨ ¬ (x.step = .ifs ∨ x.step = .exchange ∨ x.step = .resynch) then s
    else if s.regBit (R.CARD_PROTO k) 0 then s.t1Error k
    else s.cardError k 4

/-- CARD_EXCHANGE_TIMEOUT: CARD_APDU_MAX milliseconds after SEND (R837). -/
def execCardExchangeTimeout (n : Fin 2) (s : State) : Res :=
  let k := n.val
  .next <|
    if s.cardsLive ∧ s.cardStateIs k 4 then
      ({ s with now := max s.now ((s.slot k).startAt + 1000000 * (s.reg (R.CARD_APDU_MAX k)).toNat) } : State).cardError k 6
    else s

/-- CARD_CLOCK_STOP: the clock stops between exchanges where the card allows it (R838). -/
def execCardClockStop (n : Fin 2) (s : State) : Res :=
  let k := n.val
  .next <|
    if s.cardsLive ∧ s.cardStateIs k 3 ∧ s.regBit (R.CARD_CTRL k) 5 ∧ (s.slot k).clkStop ≠ 0 then
      (s.setRegField (R.CARD_STATUS k) 6 4 5).updSlot k fun x => { x with clkOff := true }
    else s

/-! ### The contactless reader (R841 to R850) -/

/-- A bit of CLESS_EVT_STATUS, with event 234 where it is enabled. -/
def State.clessEvent (s : State) (i : Nat) : State :=
  let s := s.setRegBit R.CLESS_EVT_STATUS i true
  if s.regBit R.CLESS_EVT_EN i then s.raise 234 else s

/-- STATE and the number of list entries. -/
def State.clessShow (s : State) (k : Nat) : State :=
  (s.setRegField R.CLESS_STATUS 6 4 k).setRegField R.CLESS_STATUS 29 24 s.cd.cless.list.length

/-- A frame to the card, with CRC_A (PRESUMED, notes/assumptions/23.md). -/
def State.clessSends (s : State) (b : Bytes) : State :=
  (s.emit .antenna (b ++ leBytes 2 (crc16 0x6363 b))).updCless fun c => { c with last := b }

/-- The field goes off: cards with random UIDs are forgotten. -/
def State.fieldOff (s : State) (k : Nat) : State :=
  let s := s.setRegField R.CLESS_STATUS 1 0 0
  (s.updCless fun c => { c with offAt := s.now, empty := 0, step := .idle, queue := [], list := c.list.filter fun e => e.1.headD 0 != 8 }).clessShow k

/-- A UID joins the list, or its time is refreshed (R846). -/
def State.remember (s : State) (uid : Bytes) : State :=
  s.updCless fun c => { c with list := ((uid, s.now) :: c.list.filter fun e => e.1 != uid).take 32 }

/-- The UID was seen within CLESS_MEMORY seconds. -/
def State.listed (s : State) (uid : Bytes) : Bool :=
  s.cd.cless.list.any fun e => e.1 == uid && decide (s.now ≤ e.2 + 1000000000 * (s.reg R.CLESS_MEMORY).toNat)

/-- The next card that the poll resolved: silenced, set aside, or taken in hand with RATS (R846 to R848). -/
def State.nextCard : Nat → State → State
  | 0, s => s
  | f + 1, s =>
    match s.cd.cless.queue with
    | [] => (s.updCless fun c => { c with step := .idle }).clessShow 1
    | (uid, sak) :: q =>
      let s := s.updCless fun c => { c with queue := q }
      if s.listed uid then ((s.remember uid).clessSends [0x50, 0]).nextCard f
      else if ¬ nbit sak 5 then ((s.remember uid).clessSends [0x50, 0]).nextCard f
      else
        let s := s.setRegs [(R.CLESS_UID_LO, leAt uid 0 4), (R.CLESS_UID_HI, leAt uid 4 3 + uid.length * 2 ^ 24)]
        let s := s.updCless fun c => { c with step := .ats, uid := uid, seenAt := s.now, known := s.cd.cless.list.any (fun e => e.1 == uid), tries := 0, wtx := 1, blk := 0 }
        ((s.clessEvent 0).clessSends [0xE0, 0x80]).clessShow 2

/-- The bits of a UID as anticollision meets them: cascade tags, each byte's lowest bit first. -/
def anticollisionBits (uid : Bytes) : List Bool :=
  let lv := if uid.length = 4 then uid else if uid.length = 7 then [0x88] ++ uid else [0x88] ++ uid.take 3 ++ [0x88] ++ uid.drop 3
  lv.flatMap fun b => (List.range 8).map fun i => b.getLsbD i

/-- The branch with 1 comes first at each collision (R844). -/
def before : List Bool → List Bool → Bool
  | a :: as, b :: bs => if a = b then before as bs else a
  | _, _ => false

/-- Cards in the order in which a poll resolves them. -/
def pollOrder (l : List (Bytes × Nat)) : List (Bytes × Nat) :=
  l.foldl (fun acc c => (acc.filter fun d => before (anticollisionBits d.1) (anticollisionBits c.1)) ++ [c] ++
    acc.filter fun d => !before (anticollisionBits d.1) (anticollisionBits c.1)) []

/-- A poll, answered by `cards` (R844). -/
def State.poll (s : State) (cards : List (Bytes × Nat)) : State :=
  let on := s.regBit R.CLESS_STATUS 0
  let s := ((s.bump R.CLESS_POLLS).setRegBit R.CLESS_STATUS 0 true).clessShow 2
  let s := s.emit .antenna [if on then 0x26 else 0x52]
  if cards = [] then
    let n := s.cd.cless.empty + 1
    if 3 ≤ n then s.fieldOff 1 else (s.updCless fun c => { c with empty := n }).clessShow 2
  else
    let s := s.updCless fun c => { c with empty := 0, queue := (pollOrder cards).take 8 }
    s.nextCard 16

/-- CLESS_PING: every CLESS_PING milliseconds; `amp` is the antenna's amplitude, `cards` what answers if a poll follows, UID and SAK. While
the field is on after a poll, the next poll takes its place. -/
def execClessPing (amp : Nat) (cards : List (Bytes × Nat)) (s : State) : Res :=
  .next <|
    if ¬ s.cardsLive ∨ ¬ s.regBit R.CLESS_CTRL 0 ∨ s.cd.cless.step ≠ .idle then s
    else if s.regBit R.RESET_STATUS 3 then (s.fieldOff 0).setRegField R.CLESS_STATUS 19 16 8
    else if s.regBit R.CLESS_STATUS 0 then s.poll cards
    else
      let p := s.cd.cless.pings
      let base := if p = [] then amp else p.sum / p.length
      if (s.reg R.CLESS_DETUNE).toNat * base < 100 * (max amp base - min amp base) then s.poll cards
      else (s.updCless fun c => { c with pings := (amp :: c.pings).take 16 }).clessShow 1

/-- The reader has finished with the card, or the card failed: it is deselected and remembered (R846). -/
def State.deselect (s : State) : State :=
  let s := (s.remember s.cd.cless.uid).setRegBit R.CLESS_STATUS 1 false
  ((s.clessSends [0xC2]).updCless fun c => { c with step := .deselect }).clessShow 2

/-- An exchange, or the card, ends with an error. -/
def State.clessError (s : State) (err : Nat) : State :=
  (((s.setRegField R.CLESS_STATUS 19 16 err).bump R.CLESS_ERRORS).clessEvent 3).deselect

/-- A timeout or a frame error: at most twice R(NAK) or the block again, then ERR PROTOCOL (R850). -/
def State.clessFail (s : State) : State :=
  let c := s.cd.cless
  match c.step with
  | .idle => s
  | .deselect => s.nextCard 16
  | .exchange =>
    if 2 ≤ c.tries then s.clessError 4
    else (s.emit .antenna ([by8 (0xB2 + c.blk)] ++ leBytes 2 (crc16 0x6363 [by8 (0xB2 + c.blk)]))).updCless fun c => { c with tries := c.tries + 1, wtx := 1 }
  | _ => if 2 ≤ c.tries then s.clessError 4 else (s.clessSends c.last).updCless fun c => { c with tries := c.tries + 1 }

/-- Largest frame of FSCI (ISO/IEC 14443-4; PRESUMED, notes/assumptions/23.md). -/
def fscOf (i : Nat) : Nat := ([16, 24, 32, 40, 48, 64, 96, 128] : List Nat).getD i 256

/-- The card is at layer 4 at rate `r`. -/
def State.clessReady (s : State) (r : Nat) : State :=
  let s := ((s.setRegBit R.CLESS_STATUS 1 true).setRegField R.CLESS_STATUS 23 20 r).updCless fun c => { c with step := .idle, tries := 0, wtx := 1 }
  (s.clessShow 3).clessEvent 1

/-- The ATS (R848). -/
def State.atsIn (s : State) (b : Bytes) : State :=
  if b.length < 1 ∨ byteAt b 0 ≠ b.length then s.clessFail
  else
    let t0 := if b.length = 1 then 2 else byteAt b 1
    let has (i : Nat) : Bool := decide (1 < b.length) && nbit t0 (4 + i)
    let ta := if has 0 then byteAt b 2 else 0
    let tb := if has 1 then byteAt b (2 + b2n (has 0)) else 0x40
    let fwi := if tb / 16 = 15 then 4 else tb / 16
    let s := s.setReg R.CLESS_ATS (w32 (t0 % 16 + fwi * 256 + tb % 16 * 4096 + ta * 65536))
    let s := s.updCless fun c => { c with fsc := fscOf (t0 % 16) }
    let d := if nbit ta 1 && nbit ta 5 then 0x0A else if nbit ta 0 && nbit ta 4 then 0x05 else 0
    if d = 0 then s.clessReady 1
    else (s.clessSends [0xD0, 0x11, by8 d]).updCless fun c => { c with step := .pps, tries := 0 }

/-- The next I-block of the command (R848). -/
def State.clessI (s : State) : State :=
  let c := s.cd.cless
  let part := (c.tx.drop c.sent).take (c.fsc - 3)
  let more := decide (c.sent + part.length < c.tx.length)
  (s.clessSends ([by8 (2 + c.blk + 16 * b2n more)] ++ part)).updCless fun c => { c with part := part.length }

/-- A frame of the exchange: I-block, R-block, S(WTX request). -/
def State.clessBlock (s : State) (b : Bytes) : State :=
  let c := s.cd.cless
  let pcb := byteAt b 0
  if pcb = 0xF2 ∧ b.length = 2 then
    let m := byteAt b 1 % 64
    if m = 0 ∨ 59 < m then s.clessFail
    else (s.clessSends [0xF2, by8 m]).updCless fun x => { x with wtx := m, last := c.last }
  else if pcb / 16 * 16 + pcb % 16 / 2 * 2 = 0xA2 then
    if pcb % 2 = c.blk ∧ c.sent + c.part < c.tx.length then
      (s.updCless fun c => { c with sent := c.sent + c.part, blk := 1 - c.blk, tries := 0, wtx := 1 }).clessI
    else if c.tries < 2 then (s.clessSends c.last).updCless fun c => { c with tries := c.tries + 1 }
    else s.clessFail
  else if (pcb = 2 + c.blk ∨ pcb = 0x12 + c.blk) ∧ c.tx.length ≤ c.sent + c.part then
    let s := s.updCless fun c => { c with rx := c.rx ++ b.drop 1, blk := 1 - c.blk, tries := 0, wtx := 1, sent := c.tx.length, part := 0 }
    if pcb / 16 = 1 then s.clessSends [by8 (0xA2 + s.cd.cless.blk)]
    else
      let rx := s.cd.cless.rx
      if rx.length < 2 ∨ 258 < rx.length then s.clessError 4
      else
        let n := rx.length - 2
        let s := (s.setRegBytes (R.CLESS_RXBUF 0) (padTo 256 (rx.take n))).setRegs [(R.CLESS_RX_LEN, n), (R.CLESS_SW, beNat (rx.drop n))]
        ((s.updCless fun c => { c with step := .idle }).clessShow 3).clessEvent 2
  else s.clessFail

/-- CLESS_FRAME_RECEIVED: a frame, its CRC left off; `ok` says that parity and CRC were right. -/
def execClessFrameReceived (data : Bytes) (ok : Bool) (s : State) : Res :=
  .next <|
    if ¬ s.cardsLive then s
    else match s.cd.cless.step with
      | .idle => s
      | .deselect => s.nextCard 16
      | .ats => if ok then s.atsIn data else s.clessFail
      | .pps => if ok ∧ data = [0xD0] then s.clessReady (if byteAt s.cd.cless.last 2 = 0x0A then 4 else 2) else s.clessFail
      | .exchange => if ok then s.clessBlock data else s.clessFail

/-- CLESS_FWT_TIMEOUT (R849, R850). -/
def execClessFwtTimeout (s : State) : Res := .next <| if s.cardsLive then s.clessFail else s

/-- CLESS_EXCHANGE_TIMEOUT: CLESS_APDU_MAX milliseconds after SEND. -/
def execClessExchangeTimeout (s : State) : Res :=
  .next <|
    if s.cardsLive ∧ s.cd.cless.step = .exchange then
      ({ s with now := max s.now (s.cd.cless.startAt + 1000000 * (s.reg R.CLESS_APDU_MAX).toNat) } : State).clessError 6
    else s

/-- CLESS_CMD.SEND: to the card in hand, or ignored with an entry in error capture. -/
def State.clessCmdSend (s : State) (who : Sender) : State :=
  let len := (s.reg R.CLESS_TX_LEN).toNat
  if ¬ s.cardsLive ∨ s.regField R.CLESS_STATUS 6 4 ≠ 3 ∨ len < 4 then s.errAt errIgnored who .store R.CLESS_CMD
  else
    let tx := (s.regBytes (R.CLESS_TXBUF 0) 66).take len
    let s := (s.clessShow 4).setRegField R.CLESS_STATUS 19 16 0
    (s.updCless fun c => { c with step := .exchange, tx := tx, sent := 0, part := 0, rx := [], tries := 0, wtx := 1, startAt := s.now }).clessI

/-- CLESS_CMD.DESELECT. -/
def State.clessCmdDeselect (s : State) : State := if s.cardsLive ∧ s.regBit R.CLESS_STATUS 1 then s.deselect else s

/-- CLESS_CTRL.ENABLE has been written. -/
def State.clessEnable (s : State) : State :=
  if s.regBit R.CLESS_CTRL 0 then if s.regField R.CLESS_STATUS 6 4 = 0 then s.clessShow 1 else s else s.fieldOff 0

/-- CLESS_UID_EXPIRY: the entry seen longest ago leaves the list CLESS_MEMORY seconds after that. -/
def execClessUidExpiry (s : State) : Res :=
  .next <|
    match s.cd.cless.list.getLast? with
    | some e =>
      if s.cardsLive then
        let s := { s with now := max s.now (e.2 + 1000000000 * (s.reg R.CLESS_MEMORY).toNat) }
        (s.updCless fun c => { c with list := c.list.dropLast }).clessShow (s.regField R.CLESS_STATUS 6 4)
      else s
    | none => s

end Sys2Proof.Machine
end

