-- ==== Sys2Proof/Machine/Quorum.lean ====
section
/-! DEFINITION. Quorum sessions, the custodian list, grants and guarded writes (R851 to R862). -/

namespace Sys2Proof.Machine

/-- Record 0x0106, empty where none is committed (R853). -/
def State.custodians (s : State) : Bytes := (s.deepData 0x0106).getD []

def qCount (b : Bytes) : Nat := byteAt b 0
def qGrantTime (b : Bytes) : Nat := leAt b 4 2
def qThresh (b : Bytes) (g : Nat) : Nat := byteAt b (0x10 + g)
def qKey (b : Bytes) (i : Nat) : Bytes := slice b (0x20 + 0x40 * i) 48
def qGroups (b : Bytes) (i : Nat) : Nat := leAt b (0x50 + 0x40 * i) 2

/-- A grant of group `g` is live. -/
def State.granted (s : State) (g : Nat) : Bool := s.regBit R.QUORUM_GRANT g

/-- A guarded write of group `g` is refused (R861). -/
def State.guarded (s : State) (g : Nat) : Bool := s.regBit R.QUORUM_GUARD g && !s.granted g

/-- A grant is consumed, with event 234. -/
def State.consume (s : State) (g : Nat) : State := if s.granted g then (s.setRegBit R.QUORUM_GRANT g false).raise 234 else s

/-- A quorum command is refused with its cause (R867). -/
def State.quorumRefuse (s : State) (job cause : Nat) : State :=
  (s.setRegField R.QUORUM_STATUS 7 4 cause).answerCmd job s.nextEdge clsRefused 0 (zeros 16) []

/-- QUORUM_OPEN: a session opens, unless one is open, no list is committed, or a group cannot be granted. -/
def execQuorumOpen (job : Nat) (s : State) : Res :=
  .next <|
    match s.command job 0x8050 with
    | some j =>
      let g := leAt j.desc 0x20 2
      let t := if leAt j.desc 0x22 2 = 0 then 600 else leAt j.desc 0x22 2
      if (s.cd.session.map (·.job)) = some job then s
      else if s.cd.session.isSome then s.quorumRefuse job 1
      else if (s.deepData 0x0106).isNone then s.quorumRefuse job 2
      else if (List.range 16).any fun i => nbit g i && qThresh s.custodians i == 0 then s.quorumRefuse job 3
      else
        let r := s.drawDev 32
        let s := (r.2.setRegBytes (R.QUORUM_NONCE 0) r.1).mapCd fun c => { c with session := some ⟨job, g, s.now, s.now + t * 1000000000⟩ }
        (((s.setRegField R.QUORUM_STATUS 23 8 0).setRegField R.QUORUM_STATUS 7 4 0).setRegBit R.QUORUM_STATUS 0 true).raise 234
    | none => s

/-- The value that a card signs (R851). -/
def State.quorumHash (s : State) (groups i : Nat) : Bytes :=
  sha256 (ascii "NV64 QUORUM" ++ s.uid ++ s.regBytes (R.QUORUM_NONCE 0) 8 ++ leBytes 2 groups ++ [by8 i])

/-- The card's presentation counts for a session opened at `t` (R858): at a slot, or at the reader. -/
def State.freshCard (s : State) (src t : Nat) : Bool :=
  if src < 2 then decide (t < (s.slot src).inserted) else decide (t < s.cd.cless.seenAt) && !s.cd.cless.known

/-- Approvals of group `g` among the custodians of mask `m`. -/
def approvals (list : Bytes) (m g : Nat) : Nat := ((List.range 16).filter fun i => nbit m i && nbit (qGroups list i) g).length

/-- The session has what it needs: its groups are granted and its QUORUM_OPEN answered OK (R859, R860). -/
def State.grant (s : State) (x : Session) : State :=
  let list := s.custodians
  let m := s.regField R.QUORUM_STATUS 23 8
  let lapse := s.rtcSec + qGrantTime list
  let s := (s.setReg R.QUORUM_GRANT (w32 ((s.reg R.QUORUM_GRANT).toNat ||| x.groups))).setReg R.QUORUM_EXPIRE (w32 lapse)
  let s := s.mapCd fun c => { c with session := none, granted := s.now }
  let s := (s.setRegBit R.QUORUM_STATUS 0 false).raise 234
  s.answerCmd x.job s.nextEdge clsOk 0 (leBytes 2 m ++ leBytes 2 x.groups ++ leBytes 4 lapse ++ zeros 8) []

/-- QUORUM_APPROVAL: the verification of a card's signature ends. `src` is the slot, or 2 for the reader; `pub` and `sig` what the card
gave, or `ok` false for any other response. -/
def execQuorumApproval (src : Fin 3) (pub sig : Bytes) (ok : Bool) (s : State) : Res :=
  .next <|
    match s.cd.session with
    | none => s
    | some x =>
      if s.tripped ∨ ¬ s.freshCard src.val x.opened then s
      else
        let list := s.custodians
        match (List.range (qCount list)).find? (fun i => qKey list i == sha384 pub) with
        | none => s.bump R.QUORUM_FAILS
        | some i =>
          if ¬ ok ∨ pub.length ≠ 65 ∨ ¬ ecdsaVerify p256 pub (s.quorumHash x.groups i) sig then s.bump R.QUORUM_FAILS
          else
            let m := s.regField R.QUORUM_STATUS 23 8 ||| 2 ^ i
            let s := s.setRegField R.QUORUM_STATUS 23 8 m
            if (List.range 16).all fun g => !nbit x.groups g || decide (qThresh list g ≤ approvals list m g) then s.grant x else s

/-- QUORUM_TIMEOUT: at the first edge at or after TIMEOUT seconds the session ends without a grant. -/
def execQuorumTimeout (s : State) : Res :=
  .next <|
    match s.cd.session with
    | some x =>
      if s.bt.edgeAt < x.ends then s
      else (((s.mapCd fun c => { c with session := none }).setRegBit R.QUORUM_STATUS 0 false).quorumRefuse x.job 4).raise 234
    | none => s

/-- QUORUM_GRANT_LAPSE: GRANT_TIME seconds after the grant every live grant lapses. -/
def execQuorumGrantLapse (s : State) : Res :=
  .next <|
    if s.reg R.QUORUM_GRANT = 0 then s
    else
      let s := { s with now := max s.now (s.tm.rtcAt + 1000000000 * (s.reg R.QUORUM_EXPIRE).toNat) }
      (s.setReg R.QUORUM_GRANT 0).raise 234

/-- A custodian list is well formed (R853, R854). -/
def listOk (b : Bytes) : Bool :=
  let n := qCount b
  decide (1 ≤ n) && decide (n ≤ 16) && byteAt b 1 == 0 && decide (30 ≤ qGrantTime b) && decide (qGrantTime b ≤ 3600) && allZero (slice b 6 10) &&
  ((List.range 16).all fun g => decide (qThresh b g ≤ approvals b (2 ^ n - 1) g)) &&
  ((List.range 16).all fun i => if i < n then allZero (slice b (0x52 + 0x40 * i) 14) else allZero (slice b (0x20 + 0x40 * i) 64)) &&
  ((List.range n).all fun i => (List.range i).all fun k => qKey b i != qKey b k)

/-- QUORUM_LIST: a new custodian list is committed, and the grant of group 15 consumed. -/
def execQuorumList (job : Nat) (s : State) : Res :=
  .next <|
    match s.command job 0x8051 with
    | some j =>
      let st := s.life
      if (if (s.deepData 0x0106).isSome then !s.granted 15 else !(st == 1 || st == 2)) then s.quorumRefuse job 5
      else if ¬ listOk j.input then s.quorumRefuse job 6
      else
        let s := ((s.deepWrite 0x0106 (j.input.take 1056)).setRegBit R.QUORUM_STATUS 1 true).consume 15
        s.answerCmd job s.nextEdge clsOk 0 (zeros 16) []
    | none => s

end Sys2Proof.Machine
end

