-- ==== Sys2Proof/Machine/Tamper.lean ====
section
/-! DEFINITION. Felt tags (R22, R23, R632 to R636), the monitors (R606 to R614), the ends of the responses (R619 to R625), the battery
domain (R626, R638, R640), and mismatches of the warden pairs (R19, R20). -/

namespace Sys2Proof.Machine

/-! ### Felt tags -/

/-- The target accepts the transfer: its tag is right and its sequence number greater than the last it accepted (R22, R634). -/
def State.feltOk (s : State) (src dst : Nat) (seq : Nat) (tagOk : Bool) : Bool :=
  tagOk && match s.lk.feltSeq.lookup (src, dst) with
    | some q => decide (q < seq)
    | none => true

/-- An accepted transfer. -/
def State.feltTake (s : State) (src dst seq : Nat) : State :=
  s.mapLk fun l => { l with feltSeq := ((src, dst), seq) :: l.feltSeq.filter fun p => p.1 != (src, dst) }

/-- A transfer of the KEYS block or the spring to a vat is lost with its discard: an invalidation under way (R317), else a seed (R577). -/
def State.feltLoss (s : State) (src dst : Nat) : State :=
  if src = 83 ∧ dst < 64 then
    match s.ks.invals.find? fun e => e.1 == dst with
    | some e => ((s.mapKs fun k => { k with invals := k.invals.erase e }).bump R.KEYS_INVAL_LOST).raise 283
    | none =>
      let u := s.unit dst
      if u.seeds = [] then s else (s.setUnit dst { u with seeds := u.seeds.dropLast }).bump R.SPRING_SEED_LOST
  else s

/-- A target discards a transfer (R635). -/
def State.feltDiscard (s : State) (src dst addr : Nat) : State :=
  let s := (s.bump R.TAMPER_TAG_FAILS).setRegs
    [(R.TAMPER_TAG_LAST, src * 65536 + dst), (R.TAMPER_TAG_ADDR_LO, addr), (R.TAMPER_TAG_ADDR_HI, addr / 2 ^ 32 % 4096)]
  s.excursion 5

/-- FELT_TRANSFER: a target receives a transfer from stop `src` about address `addr`, and checks its tag and sequence number. -/
def execFeltTransfer (src dst : Stop) (addr seq : Nat) (tagOk : Bool) (s : State) : Res :=
  .next <|
    if s.pw.inReset then s
    else if s.feltOk src.val dst.val seq tagOk then s.feltTake src.val dst.val seq
    else (s.feltDiscard src.val dst.val addr).feltLoss src.val dst.val

/-- FELT_REPEAT: a fixed-function sender repeats its transfer once; when that fails as well, the job that it belongs to is lost (R636). -/
def execFeltRepeat (src dst : Stop) (addr seq : Nat) (tagOk : Bool) (job : Nat) (s : State) : Res :=
  .next <|
    if s.pw.inReset then s
    else if s.feltOk src.val dst.val seq tagOk then s.feltTake src.val dst.val seq
    else (s.feltDiscard src.val dst.val addr).updJob job fun j => { j with feltLost := true }

/-! ### Warden pairs -/

/-- SERVICE_PAIR_MISMATCH: the pair is held in reset, with event 489 (DEDUCED, notes/assumptions/25.md). -/
def State.servicePairDown (s : State) : State :=
  ({ s.resetCore 65 true with ev := { s.ev with wdogS := none } } : State).raise 489

def execServicePairMismatch (s : State) : Res :=
  .next <| if s.pw.inReset ∨ s.tripped ∨ (s.core 65).inReset then s else s.servicePairDown

/-- The primary pair is gone: admission stops at the next edge, and a warm reset with cause `c` follows the release of what has been
admitted (R20). -/
def State.primaryPairDown (s : State) (c : Nat) : State :=
  let s := s.mapBt fun b => { b with stop := true, resetAfter := some (b.resetAfter.getD c) }
  let s := { s with ev := { s.ev with wdogP := none } }
  if s.running then s else s.resetWhenDone

/-- PRIMARY_PAIR_MISMATCH. -/
def execPrimaryPairMismatch (s : State) : Res :=
  .next <| if s.pw.inReset ∨ s.tripped ∨ (s.core 64).inReset then s else (s.resetCore 64 true).primaryPairDown 8

/-! ### Physical monitors (R606 to R612, R643) -/

/-- The voted state of three sensors (R609). -/
def voted (b : BitVec 3) : Bool := (b.getLsbD 0 && b.getLsbD 1) || (b.getLsbD 0 && b.getLsbD 2) || (b.getLsbD 1 && b.getLsbD 2)

/-- The VIN_CORE low comparator alone counts nothing while PWRFAIL_N is asserted and until VIN_CORE is good (R608). -/
def State.exempt (s : State) (m : Nat) (low : Bool) : Bool := m == 0 && low && (s.pins.pwrfail || !s.pw.good)

/-- One excursion of monitor `m`, unless exempt. -/
def State.monitorCount (s : State) (m : Nat) (low : Bool) : State :=
  let s := s.mapTm fun t => { t with heldAt := t.heldAt.set m (some s.now) }
  if s.exempt m low then s else s.excursion m

/-- MONITOR_ASSERT: `sensors` are those of the triplet that assert, `low` says that only the VIN_CORE low comparator does, `temp` is the
voted junction temperature. -/
def execMonitorAssert (m : Fin 5) (sensors : BitVec 3) (low : Bool) (temp : BitVec 16) (s : State) : Res :=
  let k := m.val
  .next <|
    if s.tm.onBat ∨ ¬ s.pins.vin ∨ ¬ voted sensors ∨ s.regBit R.TAMPER_STATUS (16 + k) then s
    else
      let s := (s.setRegBit R.TAMPER_STATUS (16 + k) true).setRegField (R.TAMPER_SRC_STATE k) 18 16 sensors.toNat
      let s := if k = 2 then s.setReg R.TAMPER_TEMP (temp.setWidth 32) else s
      s.monitorCount k low

/-- MONITOR_HELD: each further 100 ms counts another excursion. -/
def execMonitorHeld (m : Fin 5) (low : Bool) (s : State) : Res :=
  .next <|
    match s.tm.heldAt.getD m.val none with
    | some t =>
      if s.regBit R.TAMPER_STATUS (16 + m.val) ∧ ¬ s.tm.onBat then
        ({ s with now := max s.now (t + 100000000) } : State).monitorCount m.val low
      else s
    | none => s

/-- MONITOR_DEASSERT. -/
def execMonitorDeassert (m : Fin 5) (sensors : BitVec 3) (temp : BitVec 16) (s : State) : Res :=
  let k := m.val
  .next <|
    if voted sensors ∨ ¬ s.regBit R.TAMPER_STATUS (16 + k) then s
    else
      let s := (s.setRegBit R.TAMPER_STATUS (16 + k) false).setRegField (R.TAMPER_SRC_STATE k) 18 16 sensors.toNat
      let s := if k = 2 then s.setReg R.TAMPER_TEMP (temp.setWidth 32) else s
      s.mapTm fun t => { t with heldAt := t.heldAt.set k none }

/-- SENSOR_DISSENT: one sensor has disagreed with its partners for 10 ms (R610). -/
def execSensorDissent (m : Fin 5) (sensors : BitVec 3) (s : State) : Res :=
  let k := m.val
  .next <|
    if s.tm.onBat ∨ ¬ s.pins.vin ∨ sensors = 0 ∨ sensors = 7 ∨ voted sensors ≠ s.regBit R.TAMPER_STATUS (16 + k) then s
    else (((s.setRegField (R.TAMPER_SRC_STATE k) 18 16 sensors.toNat).bump (R.TAMPER_SRC_DISSENT k))).raise (304 + k)

/-- A trip on battery is only latched and burned (R613, R624). -/
def State.batteryTrip (s : State) (m : Nat) : State :=
  let s := s.mapTm fun t => { t with samples := t.samples.set m 0 }
  let full := decide (256 ≤ (s.reg R.TAMPER_EVID_COUNT).toNat)
  let l := if full then 2 else s.regField (R.TAMPER_SRC_CFG m) 1 0
  if ¬ s.tm.armed ∨ l = 0 then s
  else
    let s := if full then s.mapTm fun t => { t with scrap := true } else s
    let w := s.reg R.TAMPER_LATCH
    if bit w 31 ∧ l ≤ field w 1 0 then s.setRegField R.TAMPER_LATCH 23 16 (min 255 (field w 23 16 + 1))
    else
      let s := s.latch m l
      if full then s else s.burn

/-- BATTERY_SAMPLE: on battery alone, source `m` trips when COUNT consecutive samples find it asserted. -/
def execBatterySample (m : Fin 5) (asserted : Bool) (s : State) : Res :=
  let k := m.val
  .next <|
    if ¬ s.tm.onBat ∨ ¬ s.tm.alive then s
    else if ¬ asserted then s.mapTm fun t => { t with samples := t.samples.set k 0 }
    else
      let n := s.tm.samples.getD k 0 + 1
      let s := s.mapTm fun t => { t with samples := t.samples.set k n }
      if s.regField (R.TAMPER_SRC_CFG k) 11 8 ≤ n then s.batteryTrip k else s

/-- EVIDENCE_BURN_PENDING: the charge store has filled, and a burn that waited for it is made (R630). -/
def execEvidenceBurnPending (s : State) : Res :=
  .next <|
    if s.pins.vin ∨ s.pins.vbat then
      let s := s.mapTm fun t => { t with charge := 2 }
      if s.regBit R.TAMPER_LATCH 28 then s.burn else s
    else s

/-! ### The ends of the responses (R619 to R621, R631) -/

/-- A response that found every bit burned scraps the device: a fuse. -/
def State.scrapIf (s : State) : State :=
  if s.tm.scrap then (s.setRegBit R.LIFE_STATUS 6 true).mapTm fun t => { t with scrap := false } else s

/-- CLEAR_RESPONSE_DONE: the journal has been drained and every secret of the chip written with zero; CLEAR_DONE is set and the device
resets. -/
def execClearResponseDone (s : State) : Res :=
  .next <|
    if s.tm.resp ≠ 1 then s
    else
      let s := (s.journalCommitAll.journalDrain).certClear
      ((s.setRegBit R.TAMPER_LATCH 29 true).scrapIf).warmReset 10 0

/-- Every copy of DEVICE_ROOT and of every record wrapped under the DRK is written with zero (R620). -/
def State.eraseRoots (s : State) : State :=
  let s := ([0x0001, 0x0105] ++ (List.range 16).map (0x10 + ·)).foldl State.deepErase s
  (s.mapKs fun k => { k with drk := none, dmk := [] }).mapJn fun j => { j with signKey := none }

/-- ERASE_RESPONSE_DONE. -/
def execEraseResponseDone (s : State) : Res :=
  .next <|
    if s.tm.resp ≠ 2 then s
    else (((s.eraseRoots.certClear).setRegBit R.TAMPER_LATCH 30 true).scrapIf).warmReset 10 0

/-- TAMPER_ACK[0] written as 1: the latch is acknowledged, unless it shows work undone (R625, R642). -/
def State.tamperAck (s : State) : State :=
  let w := s.reg R.TAMPER_LATCH
  let undone := bit w 28 || (bit w 31 && !(if field w 1 0 = 2 then bit w 30 else bit w 29 || bit w 30))
  if undone then s else s.setReg R.TAMPER_LATCH (setField (setField w 31 29 0) 23 16 0)

/-! ### The battery domain (R615, R626, R627, R638, R640) -/

/-- A register that takes its first-application value: settings, latch and backup registers, not the evidence. -/
def firstValueReg (k : Nat) : Bool :=
  let o := k - 0x100800000
  (decide (0x100900100 ≤ k) && decide (k < 0x100900180)) ||
  (decide (0x100800000 ≤ k) && decide (k < 0x100900000) &&
    ([0, 8, 0xC, 0x2C, 0x30].contains o || (decide (0x100 ≤ o) && decide (o < 0x180) && (o % 16 == 0 || o % 16 == 8))))

/-- The battery domain's registers take their first-application values. -/
def State.batteryFirst (s : State) : State := { s with regs := s.regs.filter fun e => !firstValueReg e.1 }

/-- VBAT_LOW (R638). -/
def execVbatLow (s : State) : Res :=
  .next <|
    if ¬ s.pins.vbat then s
    else
      let s := s.setRegBit R.TAMPER_STATUS 2 true
      if s.pins.vin then s.raise 315 else s

/-- VBAT_FIRST_APPLIED: VBAT comes; a battery domain that was without any supply starts afresh (R626, R627). -/
def execVbatFirstApplied (s : State) : Res :=
  .next <|
    if s.pins.vbat then s
    else
      let s := { s with pins := { s.pins with vbat := true } }
      if s.tm.alive then s
      else
        (s.batteryFirst).mapTm fun t => { t with alive := true, rtcAt := s.now, onBat := !s.pins.vin, times := List.replicate 8 []
                                                 samples := List.replicate 8 0, heldAt := List.replicate 8 none, charge := 2 }

/-- VBAT_REMOVED: without VIN_CORE the battery domain loses everything but its fuses. -/
def execVbatRemoved (s : State) : Res :=
  .next <|
    let s := { s with pins := { s.pins with vbat := false } }
    if s.pins.vin then s
    else
      (s.batteryFirst).mapTm fun t => { t with alive := false, onBat := false, times := List.replicate 8 [], samples := List.replicate 8 0
                                               heldAt := List.replicate 8 none, charge := 0 }

/-- LOSS_OF_MAIN_POWER: VIN_CORE has gone: volatile state and tarn are lost, and every source's excursion count is cleared. -/
def execLossOfMainPower (s : State) : Res :=
  .next <|
    if ¬ s.pins.vin then s
    else
      let s := s.clearDevice true
      let s := { s with pins := { Pins.reset with resetDrv := false, vin := false, vbat := s.pins.vbat }
                        pw := PowerState.reset }
      let s := s.mapTm fun t => { t with resp := 0, onBat := s.pins.vbat, times := List.replicate 8 [], samples := List.replicate 8 0
                                         heldAt := List.replicate 8 none }
      let s := (s.setRegField R.TAMPER_STATUS 20 16 0).setReg R.TAMPER_TEMP 0
      if s.pins.vbat then s else (s.batteryFirst).mapTm fun t => { t with alive := false, charge := 0 }

end Sys2Proof.Machine
end

