-- ==== Sys2Proof/Machine/Power.lean ====
section
/-! DEFINITION. Supplies, parking, the reset sources, start failure, power failure and the watchdogs (R649 to R674, R684 to R695, R703 to
R711, R798 to R800, R892, R893). -/

namespace Sys2Proof.Machine

/-! ### Rails, domains and PLLs (R649 to R656, R684 to R688) -/

def State.railOn (s : State) (r : Nat) : Bool := nbit s.pins.enRail r
def State.railReady (s : State) (r : Nat) : Bool := nbit s.pins.pgRail r

/-- PMU_RAIL_STATUS and RAILS_OK follow the pins. -/
def State.railShow (s : State) : State :=
  (s.setReg R.PMU_RAIL_STATUS (w32 (s.pins.enRail * 256 + s.pins.pgRail))).setRegBit R.PMU_STATUS 0 (s.pins.pgRail == 63)

def State.mapPins (s : State) (f : Pins → Pins) : State := { s with pins := f s.pins }

/-- Rail `r` is enabled, its regulator set up over PMBus first where it has an address (R656; command codes PRESUMED from PMBus,
notes/assumptions/26.md). -/
def State.railEnable (s : State) (r : Nat) : State :=
  let a := s.regField (R.PMU_RAIL_CFG r) 22 16
  let s := if a = 0 then s else
    ((s.emit .pmbus ([by8 (2 * a), 0x21] ++ leBytes 2 (s.regField (R.PMU_RAIL_CFG r) 15 0)))).emit .pmbus [by8 (2 * a), 0x01, 0x80]
  (s.mapPins fun p => { p with enRail := p.enRail ||| 2 ^ r }).railShow

/-- Rail `r` is disabled. -/
def State.railDisable (s : State) (r : Nat) : State :=
  let off (m : Nat) : Nat := if nbit m r then m - 2 ^ r else m
  (s.mapPins fun p => { p with enRail := off p.enRail, pgRail := off p.pgRail }).railShow

/-- Every rail is released, in descending order. -/
def State.railsOff (s : State) : State := [5, 4, 3, 2, 1, 0].foldl State.railDisable s

def State.domState (s : State) (n : Nat) : Nat := s.regField (R.PMU_DOM_STATE n) 2 0
def State.setDom (s : State) (n k : Nat) : State := s.setRegField (R.PMU_DOM_STATE n) 2 0 k

/-- Domains 64 to 66 are on. -/
def State.centralOn (s : State) : Bool := [64, 65, 66].all fun n => s.domState n == 2

/-- VIN_CORE_GOOD: rail sequencing begins (R650). -/
def execVinCoreGood (s : State) : Res :=
  .next <| if ¬ s.pins.vin ∨ s.pw.good ∨ s.pw.held then s else (s.mapPw fun p => { p with good := true }).railEnable 0

/-- RAIL_READY: the next rail is enabled; after the last, domains 64 to 66 (R649, R654). -/
def execRailReady (r : Fin 6) (s : State) : Res :=
  let k := r.val
  .next <|
    if s.pw.held ∨ ¬ s.railOn k ∨ s.railReady k then s
    else
      let s := (s.mapPins fun p => { p with pgRail := p.pgRail ||| 2 ^ k }).railShow
      if k < 5 then s.railEnable (k + 1) else [64, 65, 66].foldl (fun s n => if s.domState n = 0 then s.setDom n 1 else s) s

/-- DOMAIN_READY: a domain reports ready; after 64 to 66 the vat domains present come up (R654). -/
def execDomainReady (n : Fin 68) (s : State) : Res :=
  .next <|
    if s.pw.held ∨ s.domState n.val ≠ 1 ∨ s.pw.coming.contains n.val then s
    else
      let was := s.centralOn
      let s := s.setDom n.val 2
      if s.centralOn ∧ ¬ was then (List.range 64).foldl (fun s v => if s.present v ∧ s.domState v = 0 then s.setDom v 1 else s) s else s

/-- PLL_LOCK: PLLs 0 to 7 are fed by REFCLK, or (`onRc`) by the backup oscillator after a failed attempt (R686, R687). -/
def execPllLock (n : Fin 16) (onRc : Bool) (s : State) : Res :=
  .next <|
    if s.pw.held ∨ ¬ s.centralOn ∨ nbit s.pw.plls n.val then s
    else
      let s := s.mapPw fun p => { p with plls := p.plls ||| 2 ^ n.val }
      if onRc ∧ n.val < 8 ∧ ¬ s.regBit R.RESET_STATUS 3 then (s.setRegBit R.RESET_STATUS 3 true).raise 389 else s

/-- HBM_TRAINING_DONE: a stack is trained and its keys are drawn (R680, R795). -/
def execHbmTrainingDone (n : Fin 2) (s : State) : Res :=
  .next <|
    if s.pw.inReset ∨ s.pw.held ∨ nbit s.pw.hbm n.val then s
    else (s.mapPw fun p => { p with hbm := p.hbm ||| 2 ^ n.val }).setRegField (R.HBMC_STATUS n.val) 2 0 7

/-! ### Retries and start failure (R684 to R692) -/

/-- STAGE and ITEM of an item (R692). -/
def itemCode : StartItem → Nat × Nat
  | .rail r => (1, r.val)
  | .domain n => (2, n.val)
  | .pll n => (3, n.val)
  | .regulator r => (4, r.val)
  | .hbm n => (5, n.val)

/-- The item is being attempted. -/
def State.attempting (s : State) (i : StartItem) : Bool :=
  !s.pw.held && !s.pw.pauses.any (fun p => p.1 == i) &&
  match i with
  | .rail r => s.railOn r.val && !s.railReady r.val
  | .regulator r => s.railOn r.val && !s.railReady r.val && s.regField (R.PMU_RAIL_CFG r.val) 22 16 != 0
  | .domain n => s.domState n.val == 1 && !s.pw.coming.contains n.val
  | .pll n => s.centralOn && !nbit s.pw.plls n.val
  | .hbm n => !s.pw.inReset && !s.pw.started && !nbit s.pw.hbm n.val

/-- The item is disabled for its pause. -/
def State.itemOff (s : State) (i : StartItem) : State :=
  match i with
  | .rail r => s.railDisable r.val
  | .regulator r => s.railDisable r.val
  | .domain n => s.setDom n.val 4
  | _ => s

/-- The item is tried again. -/
def State.itemOn (s : State) (i : StartItem) : State :=
  match i with
  | .rail r => s.railEnable r.val
  | .regulator r => s.railEnable r.val
  | .domain n => s.setDom n.val 1
  | _ => s

/-- A start failure: code and clock stand in the backup registers, FAULT_N is asserted, the rails are released and the device holds
(R688). -/
def State.startFailure (s : State) (stage item attempts detail : Nat) : State :=
  let s := s.setRegs [(R.RESET_BKP 16, stage * 2 ^ 24 + item * 65536 + attempts * 256 + detail), (R.RESET_BKP 17, s.rtcSec)]
  let s := (s.railsOff).mapPins fun p => { p with fault := true, resetDrv := false }
  s.mapPw fun p => { p with inReset := true, held := true }

/-- RAIL_ATTEMPT_TIMEOUT: an attempt fails, for the reason `detail` of R692; the third is a start failure. -/
def execRailAttemptTimeout (item : StartItem) (detail : Fin 6) (s : State) : Res :=
  .next <|
    if ¬ s.attempting item then s
    else
      let n := (s.pw.fails.lookup item).getD 0 + 1
      let c := itemCode item
      let s := s.mapPw fun p => { p with fails := (item, n) :: p.fails.filter fun x => x.1 != item }
      let s := s.setReg R.RESET_ATTEMPTS (w32 (min 255 ((s.reg R.RESET_ATTEMPTS).toNat + 1)))
      let s := s.raise (if c.1 = 3 then 388 else 387)
      if 3 ≤ n then s.startFailure c.1 c.2 3 detail.val
      else (s.itemOff item).mapPw fun p => { p with pauses := p.pauses ++ [(item, s.now)] }

/-- RETRY_PAUSE_END: 1 ms after the failure the item is tried again. -/
def execRetryPauseEnd (item : StartItem) (s : State) : Res :=
  .next <|
    match s.pw.pauses.lookup item with
    | some t =>
      if s.pw.held then s
      else
        let s := { s with now := max s.now (t + 1000000) }
        (s.mapPw fun p => { p with pauses := p.pauses.filter fun x => x.1 != item }).itemOn item
    | none => s

/-! ### Power failure (R693 to R695) -/

/-- The power-fail sequence begins: no ream is admitted and nothing released any more; watchdogs stop (R694, R893). A self-test stops with
a certificate that says so (R695). -/
def State.powerFail (s : State) : State :=
  if s.regBit R.PMU_STATUS 4 ∨ s.pw.held then s
  else
    let s := s.raise 384
    let testing := s.pw.selfTest = 1 ∧ s.pw.shut.isSome
    let s := if testing then s.certWrite 0 0 else s
    let s := (s.setRegBit R.PMU_STATUS 4 true).mapBt fun b => { b with stop := true }
    let s := { s with ev := { s.ev with wdogP := none, wdogS := none } }
    (s.mapPw fun p => { p with fallAt := some s.now, riseAt := none, drained := false, shut := none }).cardsOff

/-- POWER_FAIL: PWRFAIL_N falls. -/
def execPowerFail (s : State) : Res :=
  .next <|
    let s := s.mapPins fun p => { p with pwrfail := true }
    (s.powerFail).mapPw fun p => { p with riseAt := none }

/-- POWER_FAIL_DRAIN_DONE: the journal is durable, tree root and state block are committed (R415). -/
def execPowerFailDrainDone (s : State) : Res :=
  .next <|
    match s.pw.fallAt with
    | some t =>
      if ¬ s.regBit R.PMU_STATUS 4 ∨ s.pw.drained then s
      else
        let s := { s with now := max s.now (t + 2600000) }
        let s := if s.regBit R.JOURNAL_STATUS 0 then s.journalCommitAll.journalDrain else s
        (s.mapPw fun p => { p with drained := true }).raise 268
    | none => s

/-- HOLDUP_END: what is left is written with zero, the rails are released and the device holds; what is not durable is lost. -/
def execHoldupEnd (s : State) : Res :=
  .next <|
    match s.pw.fallAt with
    | some t =>
      if ¬ s.regBit R.PMU_STATUS 4 then s
      else
        let s := { s with now := max s.now (t + 3600000) }
        let s := ((s.clearDevice false).setRegBit R.PMU_STATUS 4 false).railsOff
        let s := (List.range 67).foldl (fun s n => s.setDom n 0) s
        let s := s.mapPins fun p => { p with resetDrv := false, lockup := false }
        s.mapPw fun p => { p with inReset := true, held := true, started := false, hbm := 0, plls := 0, coming := [] }
    | none => s

/-- PWRFAIL_RISE. -/
def execPwrfailRise (s : State) : Res :=
  .next <|
    if ¬ s.pins.pwrfail then s
    else
      let s := (s.mapPins fun p => { p with pwrfail := false }).mapPw fun p => { p with riseAt := some s.now }
      if s.pins.vin then s.raise 385 else s

/-- HELD_SELF_RESET: a held device resets itself once PWRFAIL_N has stayed high for 10 ms (R689). -/
def execHeldSelfReset (s : State) : Res :=
  .next <|
    if ¬ s.pw.held ∨ s.pins.pwroff ∨ s.pins.pwrfail ∨ ¬ s.pins.vin then s
    else ({ s with now := max s.now (match s.pw.riseAt with | some t => t + 10000000 | none => 0) } : State).coldReset 3 false

/-- SerDes ports lose their links (R652). -/
def State.linksDrop (s : State) : State :=
  let s := (List.range 64).foldl State.netDown s
  let s := (List.range 16).foldl (fun s q => match execReservoirLinkLoss (Fin.ofNat 16 q) false s with | .next t => t | _ => s) s
  let s := (List.range 8).foldl (fun s u => match execUloonLinkDown (Fin.ofNat 8 u) s with | .next t => t | _ => s) s
  (List.range 17).foldl (fun s f => (s.setRegBit (R.HOSTIF_STATUS f) 2 false)) s

/-- A ready rail is lost in service. -/
def State.railLost (s : State) (r : Nat) : State :=
  if ¬ s.railReady r then s
  else
    let off (m : Nat) : Nat := if nbit m r then m - 2 ^ r else m
    let s := (s.mapPins fun p => { p with pgRail := off p.pgRail }).railShow
    if r ≤ 2 then (s.mapPins fun p => { p with fault := true }).powerFail
    else if r ≤ 4 then (s.linksDrop).raise 400
    else ((s.cardsOff).fieldOff 0).raise 400

/-- RAIL_LOST. -/
def execRailLost (r : Fin 6) (s : State) : Res := .next <| if s.pw.held ∨ s.pw.inReset then s else s.railLost r.val

/-- Every addressed regulator's STATUS_WORD is read, PMB_ERR set and event 399 raised; `fault` is a regulator that reports an output
fault (R657). -/
def State.pmbError (s : State) (fault : Option (Fin 6)) : State :=
  let s := (List.range 6).foldl (fun s r =>
    let a := s.regField (R.PMU_RAIL_CFG r) 22 16
    if a = 0 then s else s.emit .pmbus [by8 (2 * a), 0x79]) s
  let s := (s.setRegBit R.PMU_STATUS 3 true).raise 399
  match fault with
  | some r => s.railLost r.val
  | none => s

/-- PMB_ALERT. -/
def execPmbAlert (fault : Option (Fin 6)) (s : State) : Res := .next <| if s.pw.held ∨ s.pw.inReset then s else s.pmbError fault

/-- PMBUS_TELEMETRY_POLL: the readings of each regulator; `ok` is false when one is not acknowledged or fails its check. -/
def execPmbusTelemetryPoll (ok : Bool) (fault : Option (Fin 6)) (s : State) : Res :=
  .next <|
    if s.pw.held ∨ s.pw.inReset then s
    else
      let s := (List.range 6).foldl (fun s r =>
        let a := s.regField (R.PMU_RAIL_CFG r) 22 16
        if a = 0 then s else [(0x8B : Byte), 0x8C, 0x8D].foldl (fun s c => s.emit .pmbus [by8 (2 * a), c]) s) s
      if ok then s.mapPw fun p => { p with pmbFails := 0 }
      else
        let n := s.pw.pmbFails + 1
        let s := s.mapPw fun p => { p with pmbFails := if n = 3 then 0 else n }
        if n = 3 then s.pmbError fault else s

/-! ### Parking (R658 to R664) -/

/-- Some park bit of the vat is set. -/
def State.parkedFor (s : State) (v : Nat) : Bool :=
  s.maskBit R.PMU_PARK_FAULT_LO v || s.maskBit R.PMU_PARK_THERM_LO v || s.maskBit R.PMU_PARK_PWR_LO v

/-- The vats that R658 counts: present, powered or coming up, and not parked. -/
def State.activeVats (s : State) : List Nat :=
  (List.range 64).filter fun v => s.present v && (((s.domState v == 2 || s.pw.coming.contains v) && !s.parkedFor v) || s.quarantined v)

/-- PMU_VAT_CAP (R658, R664), at most the 64 vats that its reset value shows on every part (DEDUCED, note 7). -/
def State.vatCap (s : State) : Nat :=
  min 64 ((50 * s.regField R.PMU_PWR_LIMIT 9 0 - (s.reg R.PMU_BASE_W).toNat) / max 1 (s.reg R.PMU_VAT_W).toNat) - s.pw.lowered

/-- Vat `v` is parked for power. -/
def State.parkPower (s : State) (v : Nat) : State :=
  let s := (s.setMaskBit R.PMU_PARK_PWR_LO v true).mapPw fun p => { p with coming := p.coming.filter (· != v) }
  (s.parkNext v).raise 392

/-- The vat that the PMU parks next for power (R659). -/
def State.parkChoice (s : State) : Option Nat :=
  let act := s.activeVats
  match (act.filter fun v => (s.deckleOfVat v).isNone).getLast? with
  | some v => some v
  | none =>
    let size (d : Nat) : Nat := (act.filter fun v => s.deckleOfVat v == some d).length
    let least := if s.regBit R.PMU_CTRL 0 then 2 else 1
    let d := (List.range 16).foldl (fun o d =>
      if size d < least then o else match o with | some x => if size x < size d then some d else o | none => some d) none
    d.bind fun d => (act.filter fun v => s.deckleOfVat v == some d).getLast?

/-- Vats are parked for power, one at a time, while more are active than the cap allows. -/
def State.capVats : Nat → State → State
  | 0, s => s
  | f + 1, s =>
    if s.activeVats.length ≤ s.vatCap then s
    else match s.parkChoice with
      | some v => (s.parkPower v).capVats f
      | none => s

/-- The PMU decides to unpark vat `v`: it comes up, to join admission once loaded and tested (R662). -/
def State.unpark (s : State) (v : Nat) : State :=
  (((s.mapPw fun p => { p with coming := p.coming.filter (· != v) ++ [v] }).setDom v 1).mapBt fun b =>
    { b with parking := b.parking.filter fun p => p.1 != v }).raise 393

/-- Vats parked for power alone are unparked in ascending order while the cap allows (R709). -/
def State.uncapVats (s : State) : State :=
  (List.range 64).foldl (fun s v =>
    if s.maskBit R.PMU_PARK_PWR_LO v ∧ ¬ s.maskBit R.PMU_PARK_FAULT_LO v ∧ ¬ s.maskBit R.PMU_PARK_THERM_LO v ∧ ¬ s.regBit R.PMU_STATUS 2 ∧
        s.activeVats.length < s.vatCap then
      (s.setMaskBit R.PMU_PARK_PWR_LO v false).unpark v
    else s) s

/-- The cap has changed: PMU_VAT_CAP, parkings and unparkings. -/
def State.recap (s : State) : State := ((s.setReg R.PMU_VAT_CAP (w32 s.vatCap)).capVats 64).uncapVats

/-- PMU_POWER_SAMPLE: VIN_CORE in mV and units of 0.1 A, each millisecond (R664). -/
def execPmuPowerSample (mv da : Fin 4096) (s : State) : Res :=
  .next <|
    if s.pw.held ∨ s.pw.inReset then s
    else
      let s := s.setRegs [(R.PMU_VIN_MV, mv.val), (R.PMU_VIN_DA, da.val)]
      let p := mv.val * da.val
      let lim := s.regField R.PMU_PWR_LIMIT 9 0
      if 5250 * lim < p then
        let n := s.pw.overs + 1
        let s := s.mapPw fun x => { x with overs := n, underAt := none, lowered := x.lowered + (if 3 ≤ n then 1 else 0) }
        if n = 1 then s
        else
          let s := if s.regBit R.PMU_STATUS 1 then s else (s.setRegBit R.PMU_STATUS 1 true).raise 390
          s.recap
      else if p < 5000 * lim then
        let since := s.pw.underAt.getD s.now
        let s := s.mapPw fun x => { x with overs := 0, underAt := some since }
        if s.regBit R.PMU_STATUS 1 ∧ since + 1000000000 ≤ s.now then
          ((s.mapPw fun x => { x with lowered := 0 }).setRegBit R.PMU_STATUS 1 false).recap
        else s
      else s.mapPw fun x => { x with overs := 0, underAt := none }

/-- A temperature in its register's eight bits, and back. -/
def tempBits (t : Int) : Nat := (t % 256).toNat
def tempOf (n : Nat) : Int := if n < 128 then n else (n : Int) - 256

def State.domTemp (s : State) (n : Nat) : Int := tempOf (s.regField (R.PMU_DOM_STATE n) 23 16)

/-- The temperature from which vats are cool again. -/
def State.coolAt (s : State) : Int := (s.regField R.PMU_TJ_PARK 7 0 : Int) - s.regField R.PMU_TJ_PARK 15 8

/-- Vat `v` is parked for temperature. -/
def State.parkThermal (s : State) (v : Nat) : State :=
  if s.maskBit R.PMU_PARK_THERM_LO v then s
  else
    let s := (s.setMaskBit R.PMU_PARK_THERM_LO v true).mapPw fun p => { p with coming := p.coming.filter (· != v) }
    let s := (s.parkNext v).raise 391
    (s.lf.runs.filter fun r => r.vat == v).foldl (fun s r => s.replayStop r s.nextEdge clsFault 0x0501 9) s

/-- The thermal stop (R661). -/
def State.thermalStop (s : State) : State :=
  if s.regBit R.PMU_STATUS 2 then s.mapPw fun p => { p with stopCool := none }
  else
    let s := ((List.range 64).filter fun v => s.present v).foldl State.parkThermal s
    let s := (s.setRegBit R.PMU_STATUS 2 true).mapPins fun p => { p with fault := true }
    (s.mapPw fun p => { p with stopCool := none }).raise 394

/-- VAT_TEMP_SAMPLE: the sensor of vat `v` reads `t` °C (R660, R661). -/
def execVatTempSample (v : Vat) (t : Int) (s : State) : Res :=
  let k := v.val
  .next <|
    if s.pw.held ∨ s.pw.inReset then s
    else
      let s := s.setRegField (R.PMU_DOM_STATE k) 23 16 (tempBits t)
      let top := (List.range 67).foldl (fun (m : Int) n => max m (s.domTemp n)) t
      let s := s.setReg R.PMU_TJ_MAX (w32 (tempBits top))
      let hot := if (s.regField R.PMU_TJ_PARK 7 0 : Int) ≤ t then s.pw.hot.getD k 0 + 1 else 0
      let cool := if t ≤ s.coolAt then some ((s.pw.cool.getD k none).getD s.now) else none
      let s := s.mapPw fun p => { p with hot := p.hot.set k hot, cool := p.cool.set k cool
                                         stopCool := if top ≤ s.coolAt then some (p.stopCool.getD s.now) else none }
      let s := if 3 ≤ hot ∧ s.present k then s.parkThermal k else s
      if (s.regField R.PMU_TJ_SHUT 7 0 : Int) ≤ t then s.thermalStop else s

/-- THERMAL_UNPARK: 100 ms of cool samples end a vat's thermal parking. -/
def execThermalUnpark (v : Vat) (s : State) : Res :=
  let k := v.val
  .next <|
    match s.pw.cool.getD k none with
    | some t =>
      if ¬ s.maskBit R.PMU_PARK_THERM_LO k ∨ s.regBit R.PMU_STATUS 2 then s
      else
        let s := ({ s with now := max s.now (t + 100000000) } : State).setMaskBit R.PMU_PARK_THERM_LO k false
        if s.parkedFor k then s
        else if s.activeVats.length < s.vatCap then s.unpark k
        else s.setMaskBit R.PMU_PARK_PWR_LO k true
    | none => s

/-- THERMAL_STOP_RELEASE: every sensor has been cool for 1 s. -/
def execThermalStopRelease (s : State) : Res :=
  .next <|
    match s.pw.stopCool with
    | some t =>
      if ¬ s.regBit R.PMU_STATUS 2 then s
      else
        let s := ({ s with now := max s.now (t + 1000000000) } : State).setRegBit R.PMU_STATUS 2 false
        (s.mapPins fun p => { p with fault := decide (s.regField R.RESET_STATUS 9 8 ≠ 1) }).raise 394
    | none => s

/-! ### HBM (R798, R800) -/

/-- HBM_LINE_MAC_FAIL: line `line` of stack `n` fails its MAC for the reader `who`; `again` says whether it passes when read again. -/
def execHbmLineMacFail (n : Fin 2) (line : Nat) (again : Bool) (who : Sender) (s : State) : Res :=
  let k := n.val
  let a := line % 0x10000000 * 64
  .next <|
    if s.pw.inReset ∨ ¬ nbit s.pw.hbm k then s
    else if again then (s.bump (R.HBMC_RETRIES k)).raise (418 + k) (76 + k)
    else
      let s := s.mapLk fun l => { l with poison := (k, line % 0x10000000) :: l.poison.filter (· != (k, line % 0x10000000)) }
      let s := (s.bump (R.HBMC_MAC_FAILS k)).setRegs [(R.HBMC_FAIL_ADDR_LO k, a), (R.HBMC_FAIL_ADDR_HI k, a / 2 ^ 32),
        (R.HBMC_POISONED k, (s.lk.poison.filter fun p => p.1 == k).length)]
      (s.raise (416 + k) (76 + k)).errAt errPoison who .load (0x8000000000 + 0x400000000 * k + a)

/-- HBM_STACK_HOT: a stack reports `t` °C. -/
def execHbmStackHot (n : Fin 2) (t : Int) (s : State) : Res :=
  let k := n.val
  .next <|
    if s.pw.inReset then s
    else
      let s := (s.setReg (R.HBMC_TEMP k) (w32 (tempBits t))).setRegBit (R.HBMC_STATUS k) 3 (decide (95 ≤ t))
      let s := if 95 ≤ t then s.raise (420 + k) (76 + k) else s
      if 105 ≤ t then s.thermalStop else s

/-! ### Reset sources (R665 to R671, R707) -/

/-- RESET_N_ASSERTED: the board drives RESET_N low while the device does not (R667). -/
def execResetNAsserted (s : State) : Res :=
  .next <|
    if s.pins.resetDrv ∨ s.regBit R.PMU_STATUS 4 ∨ ¬ s.pins.vin then s
    else if s.pw.held then s.coldReset 4 true
    else s.warmReset 5 2

/-- RESET_CMD written by `who` (R707). -/
def State.resetCmd (s : State) (who : Sender) (w : Word) : State :=
  let bad : State := s.errAt errIgnored who .store R.RESET_CMD
  let v := field w 21 16
  if field w 31 24 ≠ 0x5A then bad
  else match field w 4 0 with
    | 0 => s
    | 1 => if s.regBit R.RESET_CTRL 0 then s.warmReset 6 2 else bad
    | 2 => if s.regBit R.RESET_CTRL 1 then s.coldReset 2 true else bad
    | 4 => { s.resetCore 65 false with ev := { s.ev with wdogS := some (s.now + 1000), warned := (s.ev.warned.1, false) }
                                       pins := { s.pins with lockup := (s.core 64).locked } }
    | 8 => if s.parkedFor v ∧ ¬ s.inAdmission v ∧ ¬ s.vatHolds v then s.vatLost v else bad
    | 16 => s.setRegs [(R.RESET_BKP 16, 0), (R.RESET_BKP 17, 0)]
    | _ => bad

/-! ### Watchdogs (R892, R893) -/

/-- A watchdog's period in felt time; its PERIOD counts in units of 100 ms (R898). -/
def State.wdogPeriod (s : State) : Nat := s.regField R.EVT_WDOG_CTRL 9 0 * 100000000

/-- EVT_WDOG_KICK written with `w` by `who`. -/
def State.wdogKick (s : State) (who : Sender) (w : Word) : State :=
  match who with
  | .core c _ =>
    if w ≠ 0x4B then s
    else if c.val = 64 then { s with ev := { s.ev with wdogP := s.ev.wdogP.map fun _ => s.now, warned := (false, s.ev.warned.2) } }
    else if c.val = 65 then { s with ev := { s.ev with wdogS := s.ev.wdogS.map fun _ => s.now, warned := (s.ev.warned.1, false) } }
    else s
  | _ => s

/-- WATCHDOG_WARNING: half a period without a kick of the primary (0) or service (1) pair. -/
def execWatchdogWarning (p : Fin 2) (s : State) : Res :=
  .next <|
    match (if p.val = 0 then s.ev.wdogP else s.ev.wdogS), (if p.val = 0 then s.ev.warned.1 else s.ev.warned.2) with
    | some t, false =>
      let s := { s with now := max s.now (t + s.wdogPeriod / 2)
                        ev := { s.ev with warned := if p.val = 0 then (true, s.ev.warned.2) else (s.ev.warned.1, true) } }
      s.raise 488
    | _, _ => s

/-- WATCHDOG_EXPIRY: a full period without a kick. -/
def execWatchdogExpiry (p : Fin 2) (s : State) : Res :=
  .next <|
    match (if p.val = 0 then s.ev.wdogP else s.ev.wdogS) with
    | some t =>
      let s := { s with now := max s.now (t + s.wdogPeriod) }
      if p.val = 0 then s.warmReset 11 0 else s.servicePairDown
    | none => s

end Sys2Proof.Machine
end

