-- ==== Sys2Proof/Machine/Start.lean ====
section
/-! DEFINITION. Power-on reset, the end of a device reset, the start up to first admission, vats that join, SHUTDOWN and self-test (R626,
R650, R662, R666, R677 to R683, R696 to R702). -/

namespace Sys2Proof.Machine

/-! ### Power-on reset (R615, R624, R626, R650) -/

/-- The alive pattern is gone: the battery check's part before any core leaves reset. -/
def State.batteryLoss (s : State) : State :=
  let st := s.lifeOf
  let s := s.mapTm fun t => { t with alive := true, rtcAt := s.now }
  if st = 4 then s
  else
    let s := if st = 0 then s else s.batteryFirst
    let s := s.setRegBit R.TAMPER_STATUS 3 true
    if st = 2 then (s.latch 8 2).burn else s

/-- What the latch shows undone is completed (R624). -/
def State.latchComplete (s : State) : State :=
  let w := s.reg R.TAMPER_LATCH
  let s :=
    if bit w 31 ∧ field w 1 0 = 2 ∧ ¬ bit w 30 then (s.eraseRoots.certClear).setRegBit R.TAMPER_LATCH 30 true
    else if bit w 31 ∧ field w 1 0 = 1 ∧ ¬ bit w 29 then (s.certClear).setRegBit R.TAMPER_LATCH 29 true
    else s
  (if bit (s.reg R.TAMPER_LATCH) 28 then s.burn else s).scrapIf

/-- POWER_ON_RESET: the always-on domain leaves power-on reset; battery, latch and certificate are seen to before any core runs. -/
def execPowerOnReset (s : State) : Res :=
  .next <|
    if s.pins.vin ∧ (s.pw.good ∨ ¬ s.pw.inReset) then s
    else
      let s := { s with pins := { s.pins with vin := true } }
      let s := s.mapTm fun t => { t with charge := 2, onBat := false, times := List.replicate 8 [], samples := List.replicate 8 0
                                         heldAt := List.replicate 8 none }
      let lost := !s.tm.alive
      let s := (if lost then s.batteryLoss else s).latchComplete
      let s := s.coldReset 1 true
      let s := if lost ∧ s.lifeOf ≠ 4 then s.raise 310 else s
      if s.regBit R.TAMPER_STATUS 2 then s.raise 315 else s

/-! ### The end of a device reset (R633, R666, R680) -/

/-- Rails, domains and PLLs stand, and a full start's self-test is over. -/
def State.resetReady (s : State) : Bool :=
  s.pins.pgRail == 63 && s.centralOn && s.pw.plls == 0xFFFF && s.pw.selfTest != 1 &&
    (List.range 64).all fun v => !s.present v || s.domState v == 2 || s.domState v == 0 || s.domState v == 3

/-- RESET_RELEASE: RESET_N reads high and the device reset ends; the pairs leave reset at the boot ROM and the watchdogs start. -/
def execResetRelease (s : State) : Res :=
  .next <|
    if ¬ s.pw.inReset ∨ s.pw.held ∨ s.pins.resetIn ∨ ¬ s.resetReady then s
    else
      let s := { s with now := max s.now (s.pw.endAt + 2000000), pins := { s.pins with resetDrv := false } }
      let s := (s.mapLk fun l => { l with feltKey := sha256 (s.freeBytes 80) }).tookFree 80
      let s := (s.mapPw fun p => { p with inReset := false }).resetCore 64 false
      let s := s.resetCore 65 false
      { s with ev := { s.ev with wdogP := some s.now, wdogS := some s.now } }

/-! ### Journal recovery (R368, R417) -/

/-- Durable blocks of a chain without a gap from the lowest. -/
def contiguous : List JBlock → List JBlock
  | a :: b :: rest => if b.jbn = a.jbn + 1 then a :: contiguous (b :: rest) else [a]
  | l => l

/-- SEQ after the last record of a block (R389). -/
def JBlock.endSeq (b : JBlock) : Nat := leAt b.image 16 8 + leAt b.image 10 2

/-- Chain `k` goes on: at the head of the state block, with a GAP record where records are missing, and with its BOOT record and a new
seal epoch. -/
def State.recoverChain (s : State) (st : Bytes) (k : Nat) : State :=
  let c := s.chain k
  if ¬ c.present then s
  else
    let o := 0x20 + 0x80 * k
    let head := slice st o 48
    let next := leAt st (o + 48) 8
    let blocks := contiguous c.blocks
    let ends := match blocks.getLast? with | some b => b.endSeq | none => next
    let gap := decide (ends < next) || byteAt st 4 % 2 == 0
    let jbn := match blocks.getLast? with | some b => max (leAt st (o + 56) 8) (b.jbn + 1) | none => leAt st (o + 56) 8
    let s := s.setChain k { c with head := head, blocks := blocks, epoch := leAt st (o + 72) 4 }
    let s := ((s.setReg64 (R.JOURNAL_SEQ_LO k) next).setReg64 (R.JOURNAL_JBN_LO k) jbn).setReg (R.JOURNAL_ARCH k) (w32 (leAt st (o + 64) 8))
    let rank := if k = 16 then 1 else 3
    let s :=
      if gap then ((s.queueRec (plainRec rank k 0x14 1 (leBytes 8 (min ends next) ++ leBytes 8 next) [])).bump R.JOURNAL_GAPS).raise 260 else s
    ((s.queueRec (plainRec rank k 0x15 2 head [])).startEpoch k).refreshChain k

/-- The tree agrees with record 0x0101. -/
def State.rootOk (s : State) : Bool :=
  match s.deepData 0x0101 with
  | some d => slice d 0 48 == s.treeRoot
  | none => true

/-- The journal and the reservoir are recovered and run. -/
def State.recoverJournal (s : State) : State :=
  let old := s.deepData 0x0102
  let st := old.getD (zeros 16352)
  let s := s.setReg R.JOURNAL_EPOCH (w32 (leAt st 0 4 + 1))
  let s := s.setReg64 R.JOURNAL_RLN_LO (leAt st 16 8)
  let powered := s.reg R.RESET_CAUSE == 1 || s.reg R.RESET_CAUSE == 3
  let s := if old.isSome ∧ byteAt st 4 % 2 = 0 ∧ powered then s.raise 269 else s
  let s :=
    if old.isNone then s.createChain 16
    else (16 :: List.range 16).foldl (fun s k => s.recoverChain st k) s
  let s := if s.rootOk then s.setRegs [(R.RESV_STATUS, if namespaces s.dev = [] then 0 else 1), (R.RESV_CTRL, 1)] else s.setRegBit R.RESV_STATUS 3 true
  ((s.setRegBit R.JOURNAL_STATUS 0 true).writeStateBlock false).raise 267

/-! ### Keys, counters and vault (R311, R344, R417) -/

/-- The records of a block's bytes, from offset 64. -/
def blockRecords : Nat → Bytes → List Bytes
  | 0, _ => []
  | f + 1, b =>
    let n := 64 * byteAt b 1
    if b.length < 64 ∨ n = 0 then [] else if byteAt b 0 = 0 then blockRecords f (b.drop n) else b.take n :: blockRecords f (b.drop n)

/-- Counters that the JOB records of unreleased blocks of deckle `d` carry, latest first (R369). -/
def State.journalCounters (s : State) (d : Nat) : List (Nat × Nat) :=
  (((s.chain d).blocks.map fun b => blockRecords 64 (b.image.drop 64)).flatten.filterMap fun r =>
    if byteAt r 0 = 1 ∧ leAt r 0x38 4 ≠ 0 ∧ leAt r 0x50 8 ≠ 0 then some (leAt r 0x38 4, leAt r 0x50 8) else none).reverse

/-- The counters of deckle `d`: the greater of the record's and the last one journalled or checkpointed. -/
def State.recoverCounters (s : State) (d : Nat) : State :=
  let known := s.journalCounters d ++ (s.jn.saved.filter fun x => x.1 == d).map fun x => x.2
  let handles := (known.map (·.1)).eraseDups
  handles.foldl (fun s h =>
    match known.lookup h with
    | some v =>
      let r := s.keyNow d h
      if (if hTerm h then r.lastCtr else r.counter) < v then s.writeCounter ⟨d, h, v, 0, (64, 0)⟩ else s
    | none => s) s

/-- The 32 digits of a packed token, up to its length. -/
def unpackToken (b : Bytes) (n : Nat) : List Nat := ((b.map fun x => [x.toNat / 16, x.toNat % 16]).flatten).take n

/-- The entry in 64 bytes of a vault bucket (R397). -/
def vaultEntryOf (d : Nat) (b : Bytes) : Option VaultEntry :=
  if leAt b 0 4 = 0 then none
  else some { deckle := d, handle := leAt b 0 4, token := unpackToken (slice b 8 16) (byteAt b 5), domain := leAt b 6 2, state := byteAt b 4,
              created := leAt b 24 8, changed := leAt b 32 8, since := 0, ream := (64, 0) }

/-- The vault of deckle `d`: VAULT_CHANGE records of unreleased blocks, latest first, and the buckets written. -/
def State.recoverVault (s : State) (d : Nat) : State :=
  let fresh := (((s.chain d).blocks.map (·.entries)).flatten.reverse).map fun e => { e with since := 0, ream := (64, 0) }
  let old := match s.nsFind 3 d with
    | some n => (List.range n.blocks).flatMap fun j => ((s.resvClear (n.rbn + j)).toList.flatMap (chunks 64)).filterMap (vaultEntryOf d)
    | none => []
  s.mapKs fun k => { k with vault := fresh ++ old ++ k.vault }

/-- The next index of each class: above every index that a record or slot names (R298). -/
def State.recoverNext (s : State) (d : Nat) : State :=
  (List.range 3).foldl (fun s c =>
    let top := ((s.ks.recs.filter fun r => r.deckle == d && !hTerm r.handle && hClass r.handle == c).map fun r => hIndex r.handle).foldl max 0
    let first := if c = 0 then 1 else if s.member = 0 then 16 else s.member
    s.setReg (ktNext d c) (w32 (if top = 0 then first else top + (if c = 0 then 1 else 16)))) s

/-- Deckle `d`'s keys, counters and vault. -/
def State.recoverDeckle (s : State) (d : Nat) : State :=
  let named := s.ks.slotA ++ s.ks.slotB ++ ((s.chain d).blocks.map (·.keys)).flatten
  let handles := ((named.filter fun r => r.deckle == d).map (·.handle)).eraseDups
  let s := handles.foldl (fun s h => s.recoverKey d h) s
  ((s.recoverCounters d).recoverVault d).recoverNext d

/-! ### The start (R350, R351, R625, R679, R691, R737, R862) -/

/-- Every deep-store record is chosen among its copies; the others are written from it. -/
def State.chooseRecords (s : State) : State :=
  let ids := [0x0001, 0x0100, 0x0101, 0x0102, 0x0103, 0x0104, 0x0105, 0x0106, 0x0200] ++ (List.range 16).map (0x10 + ·)
  ids.foldl (fun s id =>
    if s.deep.conflict id then
      let s := s.raise 318
      let s := if id = 1 then s.setRegBit R.KEYS_STATUS 2 true else s
      if 0x10 ≤ id ∧ id < 0x20 then s.setRegBit (R.KEYS_DCFG (id - 0x10)) 5 true else s
    else
      let r := s.deepRepair id
      (List.range r.2).foldl (fun s _ => (s.raise 281).bump R.KEYS_DS_REPAIRS) r.1) s

/-- The journal certificate of record 0x0104 (R717) replaced. -/
def State.setJcert (s : State) (c : Bytes) : State :=
  let d := padTo 5136 ((s.deepData 0x0104).getD [])
  s.deepWrite 0x0104 (patch (patch d 2 (leBytes 2 c.length)) 0x1010 (padTo 1024 c))

/-- An interrupted lifecycle operation is completed (R737). -/
def State.finishLife (s : State) : State :=
  let s :=
    if s.regBit R.LIFE_STATUS 7 ∨ s.regBit R.LIFE_STATUS 6 then s
    else
      let s := [0x0001, 0x0103, 0x0105].foldl State.deepErase s
      let s := if leAt ((s.deepData 0x0104).getD []) 2 2 = 0 then s else s.setJcert []
      (s.mapKs fun k => { k with drk := none, dmk := [] }).mapJn fun j => { j with signKey := none }
  if s.regBit R.LIFE_STATUS 6 ∧ (s.deepData 0x0001).isSome then s.eraseRoots else s

/-- A quick start whose certificate does not fit what the deep store says (R679). -/
def State.certStale (s : State) : Bool :=
  s.regField R.RESET_STATUS 5 4 == 1 &&
    match s.pw.certSeen, s.deepData 0x0102 with
    | some c, some st => c.1 != leAt st 0 4 || c.2 != s.deepGen 0x0200 || byteAt st 4 % 2 == 0
    | _, _ => true

/-- The latch that stands at the start is reported and acknowledged (R625). -/
def State.reportLatch (s : State) : State :=
  let w := s.reg R.TAMPER_LATCH
  if bit w 31 then
    let data := w.toNat + 2 ^ 32 * (s.reg R.TAMPER_LATCH_TIME).toNat
    ((s.raise 309 83 data).raise (296 + field w 11 8) 83 data).tamperAck
  else s

/-- The known-answer tests of a vat's three engines have run (R160, R227, R604); `bad` is the engine whose test failed, 0 to 2. -/
def State.katShow (s : State) (v : Nat) (bad : Option Nat) : State :=
  let put (s : State) (i k lo : Nat) : State := s.setRegField k (lo + 1) lo (if bad = some i then 3 else 1)
  put (put (put s 0 (R.SYM_STATUS v) 0) 1 (R.PKE_STATUS v) 6) 2 (R.VDR_STATUS v) 4

/-- A vat is loaded, its instances are made, and it joins admission at the first edge (R579, R680). -/
def State.startVat (s : State) (v : Nat) : State :=
  let s := (s.instVat v).loadVat v
  let s := match s.deckleOfVat v with | some d => s.instLane v d | none => s
  let s := ((s.katShow v none).resetCore v false).mapBt fun b => { b with up := v :: b.up }
  let s := s.setDom v 2
  if (s.deckleOfVat v).any fun d => (s.part? d).isSome then
    s.mapBt fun b => { b with joining := b.joining.filter (fun p => p.1 != v) ++ [(v, s.openEdge)] }
  else s

/-- A vat that fails stays parked for a fault; one that self-test found is reported as well (R663, R700). -/
def State.failVat (s : State) (v : Nat) : State :=
  (s.setMaskBit R.PMU_PARK_FAULT_LO v true).setDom v 3

/-- A vat whose known-answer tests fail; which engine's is a free value. -/
def State.katFail (s : State) (v : Nat) : State :=
  ((s.katShow v (some ((Config.freeByte s.freeCtr).toNat % 3))).tookFree 1).failVat v

/-- The vats of a start: those that self-test or known-answer tests failed are parked, the others come up as the power limit allows. -/
def State.startVats (s : State) (kat : Nat) : State :=
  let here := (List.range 64).filter s.present
  let s := (here.filter fun v => !nbit s.pw.passMask v).foldl (fun s v => (s.failVat v).raise 396 v) s
  let s := (here.filter fun v => nbit s.pw.passMask v && !nbit kat v).foldl State.katFail s
  let s := here.foldl (fun s v => if s.parkedFor v then s else s.setDom v 2) s
  let s := (s.setReg R.PMU_VAT_CAP (w32 s.vatCap)).capVats 64
  let s := s.devReseed []
  (here.filter fun v => !s.parkedFor v).foldl State.startVat s

/-- Stage one: firmware measured, marker of a lockup taken from the tarn, failure code reported, spring enabled (R540, R690, R691, R722). -/
def State.startStageOne (s : State) : State :=
  let fw (i : Nat) : Bytes := (List.range 48).map (Config.fwDigest i)
  let s := if s.stage = 0 then (s.extend 0 (fw 0)).wmarkAdvance 1 else s
  let s := if s.stage = 1 then ((s.extend 1 (fw 1)).extend 2 (fw 2)).wmarkAdvance 1 else s
  let s := (s.wipe 0x107FFFC0 64).setRegs [(R.RESET_BKP 16, 0), (R.RESET_BKP 17, 0)]
  s.springEnable

/-- What the physical function and the quorum find ready. -/
def State.startInterfaces (s : State) : State :=
  let s := s.setReg (R.HOSTIF_STATUS 0) (w32 ((s.reg (R.HOSTIF_STATUS 0)).toNat / 2 % 4 * 2 + 1 + 0xFF * 256))
  match s.deepData 0x0106 with
  | some d => (s.setRegBit R.QUORUM_STATUS 1 true).setReg R.QUORUM_GUARD (w32 (leAt d 2 2))
  | none => s

/-- The work of a start up to its beat: records chosen, journal and keys recovered, mould loaded, vats brought up. -/
def State.startWork (s : State) (kat : Nat) : State :=
  let s := ((s.chooseRecords).finishLife.lifeState).lifeRecord
  let s := s.startInterfaces.reportLatch
  if s.keysWithheld then (s.mouldRegs).measure 6 (sha384 s.deviceState)
  else if s.certStale then (s.coldReset 2 false).raise 398
  else
    let s := match s.jn.signKey with | some k => s.setRegBytes (R.JOURNAL_PUB 0) (ed25519Public k) | none => s
    let m := s.bootMould
    let s := s.mapMd fun k => { k with committed := (s.deepData 0x0200).map imageMould, inForce := m }
    let s := s.recoverJournal.startMould
    let s := ((m.map (·.deckles)).getD []).foldl State.recoverDeckle s
    ((s.setRegBit R.KEYS_STATUS 1 true).startVats kat).setRegBit R.ADMIT_CTRL 0 true

/-- DEVICE_START: the start goes on as far as it can. First stage-one firmware (`fwOk`: it verifies) is measured and the spring enabled;
once HBM is trained and the device DRBG runs, recovery, mould and vats (`kat`: vats that pass their known-answer tests); once the seed
store is full, or 100 ms later (`late`), the beat (R680, R958). -/
def execDeviceStart (fwOk : Bool) (kat : BitVec 64) (late : Bool) (s : State) : Res :=
  .next <|
    if s.pw.inReset ∨ s.pw.held ∨ s.quiet then s
    else if ¬ s.springOn then (if fwOk then s.startStageOne else s.startFailure 8 0 1 5)
    else
      let s := if s.pw.started ∨ s.pw.hbm ≠ 3 ∨ s.spr.device = none then s else (s.mapPw fun p => { p with started := true }).startWork kat.toNat
      if s.pw.started ∧ (1024 ≤ s.spr.store.length ∨ late) then s.beatStart else s

/-! ### VAT_JOIN (R662) -/

/-- A vat that REPLAY_RELEASE returns is back: its completion is released at the edge at which it joins (R753). -/
def State.replayBack (s : State) (v : Nat) : State :=
  (s.lf.quarantine.filter fun p => p.1 == v && ((s.job? p.2).any fun j => dVerb j.desc == 0x8042)).foldl (fun s p =>
    let s := s.replayMark (((s.job? p.2).map (·.deckle)).getD 0) v 2 s.openEdge
    ((s.answerCmd p.2 s.openEdge clsOk 0 (zeros 16) []).replayShow 0).mapLf fun l => { l with quarantine := l.quarantine.filter (· != p) }) s

/-- VAT_JOIN: a vat that the PMU has unparked, or a deckle commit has reset, is loaded and tested (`ok`), and joins at the first edge whose
close follows; otherwise it stays parked for a fault. -/
def execVatJoin (v : Vat) (ok : Bool) (s : State) : Res :=
  let k := v.val
  .next <|
    if s.pw.inReset ∨ s.pw.held ∨ ¬ s.pw.coming.contains k then s
    else
      let s := s.mapPw fun p => { p with coming := p.coming.filter (· != k) }
      if ok then (((s.vatLost k).devReseed []).startVat k).replayBack k else (s.katFail k).replayBack k

/-! ### SHUTDOWN (R697) -/

/-- SHUTDOWN: admission stops at the first edge after receipt and what waits is answered BUSY. -/
def execShutdown (job : Nat) (s : State) : Res :=
  .next <|
    match s.command job 0x8020 with
    | none => s
    | some j =>
      if s.pw.shut.isSome then s
      else
        let s := (s.bt.jobs.filter Job.isWaiting).foldl (fun s x => s.answerAt x clsBusy 0x0104 s.nextEdge) s
        (s.mapBt fun b => { b with stop := true }).mapPw fun p => { p with shut := some (job, byteAt j.desc 0x20 == 1) }

/-- Every secret of the chip is written with zero (R694). -/
def State.secretsOff (s : State) : State :=
  let s := ((List.range 64).foldl State.vatLost s).springClear
  let s := s.mapKs fun k => { k with transport := [], recs := [], vault := [], ctrs := [] }
  let s := s.mapJn fun j => { j with chains := j.chains.map fun c => { c with sealKey := zeros 32, nextKey := none } }
  { s with mem := s.mem.filter fun c => decide (c.1 < 0x8000000000), lk := { s.lk with linkKeys := [] } }

/-- The certificate is written, the rails are released, PWROFF_N is asserted and the device holds (step 6). -/
def State.powerOff (s : State) (result pass : Nat) : State :=
  let s := (s.certWrite result pass).clearDevice false
  let s := ((List.range 67).foldl (fun s n => s.setDom n 0) s).railsOff
  let s := s.mapPins fun p => { p with pwroff := true, resetDrv := false, lockup := false }
  s.mapPw fun p => { p with inReset := true, held := true, started := false, hbm := 0, plls := 0, coming := [], shut := none, selfTest := 0 }

/-- What a SHUTDOWN does at an edge: once nothing admitted is left the journal is drained and the completion fixed for the next edge;
once it has been released, secrets go and the certificate or the self-test follows. -/
def State.shutEdge (s : State) : State :=
  match s.pw.shut with
  | none => s
  | some (job, test) =>
    match s.job? job with
    | some j =>
      if j.ready ∨ ¬ s.noneHeld then s
      else
        let s := if s.regBit R.JOURNAL_STATUS 0 then s.journalCommitAll.journalDrain else s
        s.answerCmd job (s.beat + 1) clsOk 0 (zeros 16) []
    | none =>
      let s := (if s.regBit R.JOURNAL_STATUS 0 then s.journalCommitAll.journalDrain else s).secretsOff
      if test then ((s.setRegField R.BEAT_STATUS 1 0 0).setRegField R.RESET_STATUS 9 8 2).mapPw fun p => { p with selfTest := 1 }
      else s.powerOff 0 0

/-! ### Self-test (R698 to R701) -/

/-- RESULT's bits beyond DONE. -/
def testBits (fails : BitVec 3) : Nat := 1 + 2 * fails.toNat

/-- Cells that failed their start-up test are excluded. -/
def State.excludeCells (s : State) (cells : BitVec 128) : State :=
  let out (c : NoiseCell × Nat) : NoiseCell := if cells.getLsbD c.2 then { c.1 with fails := 4, excluded := true } else c.1
  s.mapSpr fun p => { p with cells := (p.cells.zipIdx).map out }

/-- SELF_TEST_COMPLETE: the vats that passed, the parts outside them that failed (core, HBM, deep store) with the first one's control
block, and the cells that failed their start-up test. -/
def execSelfTestComplete (pass : BitVec 64) (fails : BitVec 3) (block : Nat) (cells : BitVec 128) (s : State) : Res :=
  .next <|
    if s.pw.selfTest ≠ 1 ∨ s.pw.held then s
    else if s.pw.shut.isSome then s.powerOff (testBits fails) pass.toNat
    else if ¬ s.pw.inReset ∨ ¬ s.centralOn then s
    else if fails ≠ 0 then s.startFailure 6 (block % 256) 1 5
    else
      let s := s.excludeCells cells
      s.mapPw fun p => { p with selfTest := 2, passMask := pass.toNat }

/-- SELF_TEST_CONDITIONS_TIMEOUT: a full start goes on without self-test; a SHUTDOWN ends with a certificate that says so. -/
def execSelfTestConditionsTimeout (s : State) : Res :=
  .next <|
    if s.pw.selfTest ≠ 1 ∨ s.pw.held then s
    else if s.pw.shut.isSome then (s.raise 395).powerOff 0 0
    else if ¬ s.pw.inReset ∨ ¬ s.centralOn then s
    else ((s.setRegBit R.RESET_STATUS 2 true).mapPw fun p => { p with selfTest := 2, passMask := 2 ^ 64 - 1 }).raise 395

end Sys2Proof.Machine
end

