-- ==== Sys2Proof/Machine/Life.lean ====
section
/-! DEFINITION. IDENTITY, the lifecycle operations and the test port (R720, R733 to R744, R945). -/

namespace Sys2Proof.Machine

/-! ### IDENTITY (R720) -/

/-- A certificate of a chain: what is signed, whether its algorithm is ECDSA P-384 with SHA-384, signature, subject and public key. -/
structure Cert where
  tbs     : Bytes
  mine    : Bool
  rest    : Bytes
  sig     : Bytes
  subject : Bytes
  pub     : Bytes
  deriving DecidableEq, Repr

/-- r and s of a DER signature, 48 bytes each. -/
def derSig (b : Bytes) : Bytes :=
  let fix (c : Bytes) : Bytes := let d := c.dropWhile (· == 0); zeros (48 - d.length) ++ d
  match (derHead (b.drop 1)).bind fun h => derAll 4 h.2.1 with
  | some [(_, r, _), (_, t, _)] => fix r ++ fix t
  | _ => zeros 96

/-- A certificate of DER contents `c`. -/
def certOf (c : Bytes) : Option Cert :=
  match derAll 4 c with
  | some [(0x30, t, tw), (0x30, _, aw), (3, sg, sw)] =>
    match derAll 16 t with
    | some l =>
      let l := if (l.headD (0, [], [])).1 = 0xA0 then l.drop 1 else l
      match l with
      | _ :: _ :: _ :: _ :: (_, _, subj) :: (_, spki, _) :: _ =>
        match derAll 4 spki with
        | some [_, (3, k, _)] => some ⟨tw, aw == oidEcdsa384, aw ++ sw, derSig sg, subj, k.drop 1⟩
        | _ => none
      | _ => none
    | none => none
  | _ => none

/-- `c` is signed by the holder of the public key `pub`. -/
def certSigned (pub : Bytes) (c : Cert) : Bool :=
  if c.mine ∧ pub.length = 97 then ecdsaVerify p384 pub (sha384 c.tbs) c.sig else Config.chainSig pub c.tbs c.rest

/-- 32 hexadecimal characters of the device identifier, in either case. -/
def hexOf (up : Bool) (b : Bytes) : Bytes :=
  let d (n : Nat) : Byte := by8 (if n < 10 then 48 + n else (if up then 55 else 87) + n)
  (b.map fun x => [d (x.toNat / 16), d (x.toNat % 16)]).flatten

/-- A chain decodes, each certificate is signed by the one before it and the first by itself, and the last names this device. -/
def State.chainGood (s : State) (b : Bytes) : Bool :=
  match (derAll 64 b).bind fun l => l.mapM fun e => if e.1 = 0x30 then certOf e.2.1 else none with
  | some (c :: cs) =>
    let l := c :: cs
    certSigned c.pub c && ((l.zip cs).all fun p => certSigned p.1.pub p.2) &&
      match l.getLast? with
      | some z => z.pub == devicePub && [hexOf false s.uid, hexOf true s.uid].contains (z.subject.drop (z.subject.length - 32))
      | none => false
  | _ => false

/-- A lifecycle command refused with a cause. -/
def State.lifeRefuse (s : State) (job cause : Nat) : State :=
  (s.setRegField R.LIFE_STATUS 19 16 cause).answerCmd job s.nextEdge clsRefused 0 (zeros 16) []

/-- IDENTITY. -/
def execIdentity (job : Nat) (s : State) : Res :=
  .next <|
    match s.command job 0x8032 with
    | none => s
    | some j =>
      if s.life ≠ 0 then s.lifeRefuse job 1
      else if byteAt j.desc 0x20 = 0 then s.answerCmd job s.nextEdge clsOk 0 (zeros 16) (s.uid ++ devicePub)
      else if ¬ s.chainGood j.input then s.lifeRefuse job 8
      else
        let old := padTo 5136 ((s.deepData 0x0104).getD [])
        let new := leBytes 2 j.input.length ++ slice old 2 2 ++ zeros 12 ++ padTo 4096 j.input ++ old.drop 0x1010
        (s.deepWrite 0x0104 new).answerCmd job s.nextEdge clsOk 0 (zeros 16) []

/-! ### Challenges (R739, R740) -/

/-- The challenge held goes. -/
def State.spend (s : State) : State :=
  ((s.mapLf fun l => { l with challenge := none }).setReg R.LIFE_CHAL_EXP 0).setRegBit R.LIFE_STATUS 5 false

/-- A new challenge. -/
def State.newChallenge (s : State) : State :=
  let r := if s.spr.device.isSome ∧ ¬ s.devErr then s.drawDev 32 else (s.freeBytes 32, s.tookFree 32)
  let e := r.2.rtcSec + 60
  ((r.2.mapLf fun l => { l with challenge := some (r.1, e) }).setReg R.LIFE_CHAL_EXP (w32 e)).setRegBit R.LIFE_STATUS 5 true

/-- The 64 bytes of the challenge held. -/
def State.challengeBytes (s : State) : Bytes :=
  match s.lf.challenge with
  | some (n, e) => n ++ s.uid ++ leBytes 4 e ++ zeros 12
  | none => zeros 64

/-- LIFE_CHALLENGE. -/
def execLifeChallenge (job : Nat) (s : State) : Res :=
  .next <|
    match s.command job 0x8030 with
    | none => s
    | some _ => let s := s.newChallenge; s.answerCmd job s.nextEdge clsOk 0 (zeros 16) s.challengeBytes

/-- LIFE_CHALLENGE_EXPIRY. -/
def execLifeChallengeExpiry (s : State) : Res :=
  .next <|
    match s.lf.challenge with
    | some (_, e) => ({ s with now := max s.now (s.tm.rtcAt + e * 1000000000) } : State).spend
    | none => s

/-! ### The checks (R742) -/

/-- The operation is allowed from the state (R734). -/
def opFrom (op st : Nat) : Bool :=
  match op with
  | 0 => st == 0
  | 1 => st == 1
  | 2 => st == 1 || st == 2
  | 3 => st == 3
  | 4 => decide (st ≤ 3)
  | 5 => st == 1 || st == 2
  | _ => false

/-- The operation takes a token, and ends in a cold reset. -/
def opToken (op st : Nat) : Bool := op == 2 || op == 3 || op == 5 || (op == 4 && st != 0)
def opCold (op : Nat) : Bool := op == 0 || op == 2 || op == 3 || op == 4

/-- The signature of a token, as VERIFY checks it. -/
def tokenSigned (t : Bytes) : Bool :=
  let d := sha384 (t.take 0xA0)
  let ctx := ascii "NV64 LIFE"
  let k := slice t 0xA0 2017
  let sig := slice t 0x881 3373
  pubValid algHybrid k && ecdsaVerify p256 (k.take 65) d (sig.take 64) &&
    mldsaVerify 0x48 (k.drop 65) ([1, by8 ctx.length] ++ ctx ++ oidBytes 0x22 ++ d) (sig.drop 64)

/-- Magic, reserved bytes and OP of a token; digests stand in a REKEY alone. -/
def tokenFormat (op : Nat) (t : Bytes) : Bool :=
  t.length == 5552 && leAt t 0 4 == 0x544C564E && byteAt t 4 == op && allZero (slice t 6 2) && allZero (slice t 0x98 8) && allZero (slice t 0x15AE 2) &&
    (op == 5 || allZero (slice t 0x38 96))

/-- The signer's key is the one the device knows, and its authority covers the operation. -/
def State.signerAllowed (s : State) (op : Nat) (t : Bytes) : Bool :=
  let h := sha384 (slice t 0xA0 2017)
  match byteAt t 5 with
  | 0 => h == s.regBytes (R.LIFE_OWNER_SVC 0) 12
  | 1 => h == s.regBytes (R.LIFE_VENDOR_SVC 0) 12 && (op == 2 || op == 4)
  | _ => false

/-- The first check that fails of an operation with its input, as a cause; 0 for none. -/
def State.lifeCheck (s : State) (op : Nat) (b : Bytes) : Nat :=
  let st := s.life
  let tok := opToken op st
  let new := if op = 0 then b else slice b 0x38 96
  let held := match s.lf.challenge with | some (_, e) => decide (s.rtcSec < e) | none => false
  (firstFail
    [(opFrom op st, 1), (!tok || held, 2), (!tok || tokenFormat op b, 3),
     (!tok || (slice b 8 16 == s.uid && slice b 0x18 32 == ((s.lf.challenge.map (·.1)).getD [])), 4), (!tok || s.signerAllowed op b, 5),
     (!tok || tokenSigned b, 6), (!opCold op || s.regBit R.RESET_CTRL 1, 7),
     ((op != 0 || leAt ((s.deepData 0x0104).getD []) 0 2 != 0) &&
       ((op != 0 && op != 5) || (!allZero (slice new 0 48) && !allZero (slice new 48 48))), 8)]).getD 0

/-! ### The changes (R736) -/

/-- Record 0x0103 (R731). -/
def State.putLife (s : State) (st op signer : Nat) (raise : Bool) (digests : Bytes) : State :=
  let d := (s.deepData 0x0103).getD (zeros 0x80)
  let s := s.deepWrite 0x0103 ([by8 st, by8 op, by8 signer, 0] ++ leBytes 4 (leAt d 4 4 + b2n raise) ++ leBytes 4 s.rtcSec ++ zeros 4 ++
    (if digests = [] then slice d 0x10 96 else digests) ++ zeros 16)
  s.lifeRecord

/-- The changes of an operation. -/
def State.lifeApply (s : State) (op : Nat) (b : Bytes) : State :=
  let signer := if opToken op s.life then byteAt b 5 else 2
  match op with
  | 0 =>
    let s := s.springLeaveBlank
    let k := s.freeBytes 64
    let s := (s.tookFree 64).deepWrite 0x0001 (deepWrapped (k.take 32) (s.deepGen 0x0001 + 1))
    let s := s.deepWrite 0x0105 (deepWrapped (k.drop 32) (s.deepGen 0x0105 + 1))
    let s := (s.mapKs fun x => { x with drk := some (k.take 32) }).mapJn fun j => { j with signKey := some (k.drop 32) }
    let r := s.issueCert (ascii "journal" ++ s.uid ++ ed25519Public (k.drop 32))
    ((r.2.setJcert r.1).putLife 1 0 signer false (b.take 96)).setRegBit R.LIFE_STATUS 7 true
  | 1 => (((s.putLife 2 1 signer false []).setRegBit R.TAMPER_CTRL 31 true).mapLf fun l => { l with tapIr := 0xFF }).lifeState
  | 2 => (s.putLife 3 2 signer true []).setRegBit R.TAMPER_CTRL 31 false
  | 3 =>
    let s := s.mapLf fun l => { l with tapIr := 0xFF, dbgSel := 0, dbgData := 0, dbgCode := 0, dbgAddr := 0 }
    let clear (c : CoreState) : CoreState := { c with dbgCtrl := 0, dbgStatus := 0, bkpt := [0, 0, 0, 0], haltReq := false, stepping := false }
    let s := { s with cores := s.cores.map clear }
    (s.putLife 2 3 signer false []).setRegBit R.TAMPER_CTRL 31 true
  | 4 => (s.setRegBit R.LIFE_STATUS 6 true).eraseRoots
  | _ => (s.putLife s.life 5 signer false (slice b 0x38 96)).lifeState

/-- Steps 2 to 4 of R735: the journal is drained, every secret written with zero, and the changes made; jobs admitted are released no
more. -/
def State.lifeMake (s : State) (m : LifeMove) : State :=
  let s := if s.regBit R.JOURNAL_STATUS 0 then s.journalCommitAll.journalDrain else s
  let s := s.mapBt fun b => { b with jobs := b.jobs.filter fun j => j.onVat.isNone }
  let s := (s.secretsOff).lifeApply m.op m.input
  s.mapLf fun l => { l with moving := some { m with done := true } }

/-- An operation whose checks have passed: at once, or by the steps of R735 when a cold reset follows. -/
def State.lifeGo (s : State) (job : Option Nat) (op : Nat) (b : Bytes) : State :=
  let ok (s : State) : State :=
    match job with
    | some i => s.answerCmd i s.nextEdge clsOk 0 (zeros 16) []
    | none => s.mapLf fun l => { l with tapDone := true, tapCause := 0 }
  if ¬ opCold op then ok (s.lifeApply op b)
  else
    let s := (s.bt.jobs.filter Job.isWaiting).foldl (fun s x => s.answerAt x clsBusy 0x0104 s.nextEdge) s
    let s := s.mapBt fun b => { b with stop := true }
    let m : LifeMove := ⟨job, op, b, false⟩
    if s.running then s.mapLf fun l => { l with moving := some m } else (ok (s.lifeMake m)).coldReset 2 true

/-- What a lifecycle operation does at an edge: its changes at the first, and after the edge of its completion the cold reset. -/
def State.lifeEdge (s : State) : State :=
  match s.lf.moving with
  | none => s
  | some m =>
    if ¬ m.done then
      let s := s.lifeMake m
      match m.job with
      | some i => s.answerCmd i (s.beat + 1) clsOk 0 (zeros 16) []
      | none => s.mapLf fun l => { l with tapDone := true, tapCause := 0 }
    else if m.job.any fun i => (s.job? i).isSome then s
    else s.coldReset 2 true

/-- BEAT_EDGE: the generator produces an edge; after the release of the last admitted job the device resets where R20 asks for it, and a
SHUTDOWN or a lifecycle operation goes on. -/
def execBeatEdge (s : State) : Res := .next <| if s.running then ((s.beatEdge.resetWhenDone).shutEdge).lifeEdge else s

/-- An operation is checked: its cause, 0 for none, with what checking a token does to the challenge. -/
def State.lifeTry (s : State) (op : Nat) (b : Bytes) : Nat × State :=
  let c := s.lifeCheck op b
  let t := if opFrom op s.life ∧ opToken op s.life then s.spend else s
  (c, if c = 0 then t else
    let t := t.setRegField R.LIFE_STATUS 19 16 c
    if 2 ≤ c then (t.spend).bump R.LIFE_AUTH_FAILS else t)

/-- LIFE_CHANGE. -/
def execLifeChange (job : Nat) (s : State) : Res :=
  .next <|
    match s.command job 0x8031 with
    | none => s
    | some j =>
      if s.lf.moving.isSome then s
      else
        let op := byteAt j.desc 0x20
        let r := s.lifeTry op j.input
        if r.1 = 0 then r.2.lifeGo (some job) op j.input else r.2.answerCmd job r.2.nextEdge clsRefused 0 (zeros 16) []

/-! ### The test port (R743, R744, R945) -/

/-- The states in which an instruction is offered (R743). -/
def tapOffered (ir st : Nat) : Bool :=
  match ir with
  | 0x01 => true
  | 0x02 | 0x03 => st != 2
  | 0x20 => st != 4
  | 0x30 | 0x31 => debugOpen st
  | _ => false

/-- What the boundary scan register captures: pins whose level the state holds, free values for the others. -/
def State.boundaryCapture (s : State) : Nat :=
  let p := s.pins
  let od (c : Nat) (low pin : Bool) : List (Nat × Bool) := [(c, low), (c + 1, !low), (c + 2, !(low || pin))]
  let known := od 3 p.resetDrv p.resetIn ++ od 6 p.fault false ++ od 9 p.lockup false ++ od 12 p.pwroff false ++ [(15, !p.pwrfail)] ++
    (List.range 6).map (fun r => (16 + r, nbit p.pgRail r)) ++ (List.range 6).flatMap (fun r => [(23 + 2 * r, true), (24 + 2 * r, nbit p.enRail r)]) ++
    [(43, !p.pmbAlert)]
  ((List.range 85).map fun i => 2 ^ i * b2n ((known.lookup i).getD (Config.boundaryCell s.freeCtr i))).sum

/-- TAP_INSTRUCTION_LOAD: the instruction, or bypass where the state does not offer it, and `dr` what the next scan shifts into its
register: IDCODE and boundary cells leave, DBG_SEL and boundary cells are taken. -/
def execTapInstructionLoad (ir : BitVec 8) (dr : BitVec 85) (s : State) : Res :=
  .next <|
    let k := if tapOffered ir.toNat s.life then ir.toNat else 0xFF
    let s := s.mapLf fun l => { l with tapIr := k }
    if k = 1 then s.emit .testPort (leBytes 4 (s.reg R.LIFE_IDCODE).toNat)
    else if k = 2 ∨ k = 3 then
      ((s.emit .testPort (leBytes 11 s.boundaryCapture)).tookFree 1).mapLf fun l => { l with boundary := dr.toNat }
    else if k = 0x30 then s.mapLf fun l => { l with dbgSel := dr.toNat % 256 }
    else s

/-- LIFE_AUTH is selected and offered. -/
def State.authOn (s : State) : Bool := s.lf.tapIr == 0x20 && tapOffered 0x20 s.life

/-- What Capture-DR of LIFE_AUTH shows, sent out: BUSY, DONE, CAUSE and the word asked for. -/
def State.authShow (s : State) : State :=
  s.emit .testPort (leBytes 5 (b2n s.lf.moving.isSome * 2 ^ 39 + b2n s.lf.tapDone * 2 ^ 38 + s.lf.tapCause * 2 ^ 32 + s.lf.word.toNat))

/-- LIFE_AUTH command 0x1. -/
def execLifeAuthNewChallenge (s : State) : Res :=
  .next <| if ¬ s.authOn then s else ((s.newChallenge).mapLf fun l => { l with readIdx := 0 }).authShow

/-- LIFE_AUTH command 0x2. What lies beyond word 12, or is read while no challenge is held, is a free value. -/
def execLifeAuthReadWord (s : State) : Res :=
  .next <|
    if ¬ s.authOn then s
    else
      let n := s.lf.readIdx
      let w := if s.lf.challenge.isSome ∧ n < 13 then w32 (leAt s.challengeBytes (4 * n) 4) else Config.freeWord s.freeCtr
      ((s.mapLf fun l => { l with word := w, readIdx := n + 1 }).tookFree 1).authShow

/-- LIFE_AUTH command 0x3. -/
def execLifeAuthAppend (w : Word) (s : State) : Res :=
  .next <| if ¬ s.authOn ∨ 1388 ≤ s.lf.token.length then s else (s.mapLf fun l => { l with token := l.token ++ [w] }).authShow

/-- LIFE_AUTH command 0x4: the token in the buffer, carried out as LIFE_CHANGE does with the OP it names; what takes no
token is not the test port's (R734). -/
def execLifeAuthSubmit (s : State) : Res :=
  .next <|
    if ¬ s.authOn ∨ s.lf.moving.isSome then s
    else
      let b := (s.lf.token.map fun w => leBytes 4 w.toNat).flatten
      let op := byteAt b 4
      let s := s.mapLf fun l => { l with token := [], tapDone := false, tapCause := 0 }
      let r := if opToken op s.life then s.lifeTry op b else
        let c := if opFrom op s.life then 3 else 1
        (c, s.setRegField R.LIFE_STATUS 19 16 c)
      (if r.1 = 0 then r.2.lifeGo none op b else r.2.mapLf fun l => { l with tapDone := true, tapCause := r.1 }).authShow

/-- LIFE_AUTH command 0x5. -/
def execLifeAuthEmpty (s : State) : Res := .next <| if ¬ s.authOn then s else (s.mapLf fun l => { l with token := [] }).authShow

end Sys2Proof.Machine
end

