-- ==== Sys2Proof/Machine/Shown.lean ====
section
/-! DEFINITION. What a read of a register shows. Most registers show what the register file holds; the status registers below are computed
from the state they describe, and 64-bit registers are read through a shadow of each felt sender (R16). -/

namespace Sys2Proof.Machine

/-- The index of address `k` in an array of `n` registers from `base` at a stride. -/
def arrIx (k base stride n : Nat) : Option Nat :=
  if base ≤ k ∧ k < base + stride * n ∧ (k - base) % stride = 0 then some ((k - base) / stride) else none

/-- Bits 32h to 32h + 31 of the mask whose bit v is `f v`. -/
def maskWord (f : Nat → Bool) (h : Nat) : Word := w32 ((List.range 32).map fun i => if f (32 * h + i) then 2 ^ i else 0).sum

/-- Registers that stand in several sub-blocks at one place: the pond's in every ULOON sub-block (R822), the quorum's in both of CARD
(R864). -/
def canonReg (k : Nat) : Nat :=
  if 0x101300000 ≤ k ∧ k < 0x101400000 ∧ k % 0x20000 < 0x100 then 0x101300000 + k % 0x20000
  else if 0x1014C0000 ≤ k ∧ k < 0x1014C1000 then k - 0x80000
  else k

/-! ### Beat and admission -/

/-- Vat `v` holds an unreleased job whose verb `f` selects. -/
def State.vatRuns (s : State) (f : Nat → Bool) (v : Nat) : Bool :=
  s.bt.jobs.any fun j => f (dVerb j.desc) && (match j.onVat with | some p => p.1 == v | none => false)

/-- BEAT_TQ_VALUE and BEAT_TQ_SURCHARGE (R65). -/
def State.tariffQuery (s : State) : Word × Word :=
  let w := s.reg R.BEAT_TQ_SEL
  let d := field w 27 24
  let a := field w 23 16
  let c := field w 15 0
  let p := s.part d
  let accepts := (txnVerb c || cmdVerb c) && s.verbOn (.host ⟨d % 16 + 1, by omega⟩ 0) d c &&
    (!pkVerb c || (pkeTariff c a != 0 && bit (s.dset d).pkeAlgEn (algBit a)))
  if ¬ accepts then (0, 0)
  else
    let t := if userCode c then ((s.userVerb d c).map (·.tariff)).getD 1
             else if c = 0x8004 then 2
             else if c = 0x8005 then 1 + s.regField R.JOURNAL_CTRL 11 0
             else if cmdVerb c then 0 else verbTariff p c a
    let kind := if bulkVerb c then 1 else if userCode c then 2 else if cmdVerb c ∧ ¬ queuedCmd c then 3 else 0
    let raised := stdVerb c && decide (tableTariff c a < t)
    (w32 (2 ^ 31 + kind * 2 ^ 29 + b2n raised * 2 ^ 28 + t % 2 ^ 20), w32 (surchargeOf p c))

/-- The BEAT block's computed registers. -/
def State.showBeat (s : State) (k : Nat) : Option Word :=
  if k = R.BEAT_PHASE then some (if s.running then w32 (s.phase % max 1 s.bt.period) else 0)
  else if k = R.BEAT_PKE_BUSY_LO then some (maskWord (s.vatRuns pkVerb) 0)
  else if k = R.BEAT_PKE_BUSY_HI then some (maskWord (s.vatRuns pkVerb) 1)
  else if k = R.BEAT_BULK_BUSY_LO then some (maskWord (s.vatRuns bulkVerb) 0)
  else if k = R.BEAT_BULK_BUSY_HI then some (maskWord (s.vatRuns bulkVerb) 1)
  else if k = R.BEAT_TQ_VALUE then some s.tariffQuery.1
  else if k = R.BEAT_TQ_SURCHARGE then some s.tariffQuery.2
  else none

/-- Descriptors of deckle `d` that wait, and those of the public-key queue among them. -/
def State.depth (s : State) (d : Nat) (pk : Bool) : Nat := ((s.waitingOf d).filter fun j => !pk || pkVerb (dVerb j.desc)).length

def State.showAdmit (s : State) (k : Nat) : Option Word :=
  if k = R.ADMIT_DECKLE_OPEN then some (maskWord (fun d => decide (d < 16) && (s.part? d).isSome && !s.drained d none && !s.md.closed.contains d) 0)
  else if k = R.ADMIT_DRAINING then some (maskWord (fun d => s.bt.drains.any fun x => x.deckle == d && !x.done) 0)
  else match arrIx k (R.ADMIT_DEPTH 0) 0x20 16, arrIx k (R.ADMIT_PK_DEPTH 0) 0x20 16 with
  | some d, _ => some (w32 (s.depth d false))
  | _, some d => some (w32 (s.depth d true))
  | _, _ => none

def State.showCouch (s : State) (k : Nat) : Option Word :=
  (arrIx k (R.COUCH_HELD 0) 0x20 16).map fun d => w32 ((s.bt.jobs.filter fun j => j.deckle == d && j.onVat.isSome).length)

/-! ### Journal, keys, mould -/

/-- Key table records of deckle `d` that are ACTIVE. -/
def State.activeRecs (s : State) (d : Nat) : Nat :=
  let hs := ((s.ks.recs.filter fun r => r.deckle == d && !hTerm r.handle).map (·.handle)).eraseDups
  (hs.filter fun h => match s.ks.recs.find? fun r => r.deckle == d && r.handle == h with | some r => r.state == 1 | none => false).length

def State.showKeys (s : State) (k : Nat) : Option Word :=
  if k = R.KEYS_SYNC_PENDING then
    some (w32 ((s.ks.changes.filter fun c => c.sync && (c.stage == .admitted || c.stage == .prepared)).length % 256))
  else (arrIx k (R.KEYS_KT_ACTIVE 0) 0x40 16).map fun d => w32 (s.activeRecs d)

def State.showMould (s : State) (k : Nat) : Option Word :=
  if k = R.MOULD_STATUS then
    let m := (s.md.staged.map fun p => 2 ^ (p.1 % 16)).foldl (· ||| ·) 0
    some (setBit (setField (s.reg k) 31 16 m) 3 s.md.stagedFull.isSome)
  else none

/-! ### Spring and DRBG units -/

def State.showSpring (s : State) (k : Nat) : Option Word :=
  if k = R.SPRING_STATUS then
    let w := setField (s.reg k) 23 16 s.cellsUp
    let w := setBit (setBit w 7 s.spr.cmdAt.isSome) 5 s.springTest
    some (setBit (setBit (setBit w 4 s.springRaw) 3 (decide (s.spr.store.length < 256))) 0 (s.spr.device.isSome && !s.springRaw))
  else if k = R.SPRING_STORE then some (w32 s.spr.store.length)
  else if k = R.SPRING_RAW ∨ k = R.SPRING_OUT then some 0
  else (arrIx k (R.SPRING_CELL_OK 0) 4 4).map (maskWord fun c => (s.spr.cells.getD c NoiseCell.none).inService)

/-- The DRBG registers of vat `v`, at offset `o` of their region. -/
def State.showVdr (s : State) (v o : Nat) : Option Word :=
  let u := s.unit v
  if o = 0 then
    let w := setField (s.reg (R.VDR_STATUS v)) 21 20 u.seeds.length
    let w := setField w 19 16 ((s.deckleOfVat v).getD 0)
    some (setBit (setBit (setBit (setBit w 3 (s.laneErr v)) 2 u.lane.isSome) 1 (s.vatErr v)) 0 u.vatInst.isSome)
  else if o = 8 then some (w32 u.queue.length)
  else none

/-! ### Tamper, reset, power -/

def State.showTamper (s : State) (k : Nat) : Option Word :=
  if k = R.TAMPER_STATUS then some (setBit (setBit (s.reg k) 1 s.tm.armed) 0 (s.regBit R.TAMPER_CTRL 31)) else none

def State.showReset (s : State) (k : Nat) : Option Word :=
  if k = R.RESET_RTC_SEC then some (w32 s.rtcSec)
  else if k = R.RESET_STATUS ∧ s.life = 3 then some (setField (s.reg k) 9 8 2)
  else none

def State.showPmu (s : State) (k : Nat) : Option Word :=
  (arrIx k (R.PMU_DOM_STATE 0) 4 64).map fun v =>
    setBit (setBit (setBit (s.reg k) 6 (s.maskBit R.PMU_PARK_FAULT_LO v)) 5 (s.maskBit R.PMU_PARK_PWR_LO v)) 4 (s.maskBit R.PMU_PARK_THERM_LO v)

/-! ### Events and errors -/

def State.showEvt (s : State) (k : Nat) : Option Word :=
  if k = R.EVT_STATUS then some (w32 (b2n s.ev.warned.1 + 2 * b2n s.ev.warned.2))
  else if k = R.EVT_TOP_P then some (topWord (s.evtTop 0))
  else if k = R.EVT_TOP_S then some (topWord (s.evtTop 1))
  else if k = R.EVT_WDOG_LEFT_P then some (s.wdogLeft s.ev.wdogP)
  else if k = R.EVT_WDOG_LEFT_S then some (s.wdogLeft s.ev.wdogS)
  else none

def State.showErrc (s : State) (k : Nat) : Option Word :=
  if k = R.ERRC_Q_FILL then some (w32 s.ev.errQ.length)
  else match arrIx k (R.ERRC_Q_HEAD 0) 4 4, arrIx k (R.ERRC_ACTIVE 0) 4 4 with
  | some w, _ => some (s.errcHead w)
  | _, some i => some (s.errcActive i)
  | _, _ => none

def State.showSluice (s : State) (k : Nat) : Option Word :=
  (arrIx k (R.SLUICE_TABLE 0) 4 37).map fun t => w32 (sluiceEntries t + 256 * (s.deviceTable t).length)

/-! ### Host port and console -/

/-- A job of queue `q` of function `f` has not been released: Q_ACTIVE (R785). -/
def State.queueBusy (s : State) (f q : Nat) : Bool :=
  s.bt.jobs.any fun j => match j.src with | .host g r => g.val == f && r.val == q | _ => false

def State.showHost (s : State) (k : Nat) : Option Word :=
  let f := (k - 0x101100000) / 0x8000
  (arrIx ((k - 0x101100000) % 0x8000) 0x100 0x40 8).map fun q => setBit (s.reg k) 1 (s.queueOn f q || s.queueBusy f q)

def State.showMgmt (s : State) (k : Nat) : Option Word :=
  if k = R.MGMT_UART_STATUS then some (setField (setField (s.reg k) 10 0 s.uartFill) 26 16 s.lk.uartRx.length)
  else if k = R.MGMT_UART_DATA then some 0
  else none

/-! ### Vat registers -/

/-- Registers of vat `v` at local offset `o`. -/
def State.showVat (s : State) (v o : Nat) : Option Word :=
  if 0x400000 ≤ o ∧ o < 0x500000 then s.showVdr v (o - 0x400000)
  else if o = 0x30000C then some (setBit (s.reg (R.SYM_STATUS v)) 2 (s.regBit (R.SYM_LOCK v) 0))
  else if o = 0x20400C then some (setBit (s.reg (R.PKE_STATUS v)) 5 (s.regBit (R.PKE_LOCK v) 0))
  else if o = 0x60000C then some (w32 (b2n (s.core v).locked))
  else if o = 0x700008 then some (topWord (s.vevTop v))
  else none

/-- What register `k` shows. -/
def State.shown (s : State) (k : Nat) : Word :=
  let special : Option Word :=
    if 0x1000000000 ≤ k then s.showVat ((k - 0x1000000000) / 0x1000000) (k % 0x1000000)
    else match (k - 0x100000000) / 0x100000 with
      | 0x00 => s.showBeat k
      | 0x01 => s.showAdmit k
      | 0x02 => s.showCouch k
      | 0x03 => if k = R.JOURNAL_FILL then some (w32 s.journalFill) else none
      | 0x05 => s.showKeys k
      | 0x06 => s.showMould k
      | 0x07 => s.showSpring k
      | 0x08 => s.showTamper k
      | 0x09 => s.showReset k
      | 0x0A => s.showPmu k
      | 0x0D => s.showEvt k
      | 0x0E => s.showErrc k
      | 0x0F => s.showSluice k
      | 0x11 => s.showHost k
      | 0x17 => s.showMgmt k
      | _ => none
  match special with
  | some w => w
  | none =>
    match regRow? k with
    | some r => s.reg k &&& ~~~(w32 r.wo)
    | none => 0

/-! ### Reads (R16) -/

/-- The low words of the 64-bit registers: address, strides and counts. -/
def lowWords : List (Nat × List (Nat × Nat)) :=
  [(0x100000010, []), (0x100000020, []), (0x1000300010, [(0x1000000, 64)]), (0x10010010C, [(0x20, 16)]), (0x100200104, [(0x20, 16)]),
   (0x10030001C, []), (0x100300100, [(0x20, 17)]), (0x100300108, [(0x20, 17)]), (0x100400008, []), (0x100400020, []), (0x100400028, []),
   (0x10040010C, [(0x20, 64)]), (0x100400114, [(0x20, 64)])] ++
  [(0x10060000C, []), (0x100600100, [(0x20, 16)]), (0x100F0000C, []), (0x100800020, []), (0x101900014, []), (0x101000040, [(0x4000, 64)]),
   (0x101000048, [(0x4000, 64)]), (0x101100004, [(0x8000, 17)]), (0x101100104, [(0x8000, 17), (0x40, 8)]),
   (0x10110010C, [(0x8000, 17), (0x40, 8)]), (0x101108124, [(0x8000, 16)]), (0x101600018, []), (0x101800010, [(0x80000, 2)])]

/-- Whether `k` is the low word of a 64-bit register. -/
def isLowWord (k : Nat) : Bool := lowWords.any fun e => decide (e.1 ≤ k) && dimsMatch e.2 (k - e.1)

/-- The key of a sender's shadow of the high word at `k`. -/
def shadowKey (who : Sender) (k : Nat) : Nat := stopOf who * 2 ^ 44 + k

/-- A read of register `k` without other effects: the low word of a 64-bit register latches the high word for the reader, whose next read
of the high word returns it. -/
def State.latchRead (s : State) (who : Sender) (k : Nat) : Word × State :=
  let h := shadowKey who k
  match s.shadows.lookup h with
  | some w => (w, { s with shadows := s.shadows.filter fun e => e.1 != h })
  | none =>
    if isLowWord k then
      let h := shadowKey who (k + 4)
      (s.shown k, { s with shadows := (h, s.shown (k + 4)) :: s.shadows.filter fun e => e.1 != h })
    else (s.shown k, s)

/-- A read of register `k`, none where it ends with an access error (R598, R603). -/
def State.readReg (s : State) (who : Sender) (k : Nat) : Option (Word × State) :=
  let k := canonReg k
  if k = R.SPRING_OUT then s.springOut
  else if k = R.SPRING_RAW then some s.springRawRead
  else if k = R.MGMT_UART_DATA then some s.uartRead
  else if 0x1000000000 ≤ k ∧ k % 0x1000000 = 0x400004 then s.vdrOut ((k - 0x1000000000) / 0x1000000)
  else some (s.latchRead who k)

end Sys2Proof.Machine
end

