-- ==== Sys2Proof/Machine/Writes.lean ====
section
/-! DEFINITION. What a write of a register does once its target has accepted the access: access types and locks (R11, R12), ranges
(R894), guarded writes (R861), and the commands that registers carry. -/

namespace Sys2Proof.Machine

/-! ### Ranges -/

/-- What a written value is: within its range, out of it so that the register stays, or with one field [hi:lo] out of range that stays. -/
inductive InRange where
  | ok
  | bad
  | field (hi lo : Nat)
  deriving DecidableEq, Repr

def inRangeIf (b : Bool) : InRange := if b then .ok else .bad

/-- `lo ≤ n ≤ hi`. -/
def between (lo n hi : Nat) : Bool := decide (lo ≤ n) && decide (n ≤ hi)

/-- The level is one that source `m` accepts (R617). -/
def levelOk (m l : Nat) : Bool := l == 2 || (l == 1 && decide (m < 6)) || (l == 0 && decide (5 ≤ m))

/-- A byte as a two's complement number. -/
def byteInt (n : Nat) : Int := if n < 128 then (n : Int) else (n : Int) - 256

/-- Registers with ranges in the BEAT to KEYS blocks. -/
def State.rangeLow (s : State) (k : Nat) (w : Word) : InRange :=
  if k = R.BEAT_CTRL then (if field w 5 4 = 3 then .field 5 4 else .ok)
  else if k = R.BEAT_PERIOD then inRangeIf (between 10 (field w 6 0) 100 && !s.regBit R.ADMIT_STATUS 0 && s.bt.jobs.isEmpty)
  else if k = R.JOURNAL_CTRL then (if between 8 (field w 11 0) 4095 then .ok else .field 11 0)
  else if k = R.KEYS_CTRL then (if between 1 (field w 6 0) 64 then .ok else .field 6 0)
  else match arrIx k (R.ADMIT_WAIT_LIMIT 0) 0x20 16, arrIx k (R.KEYS_MIRROR_LIST 0) 0x40 16 with
  | some _, _ => inRangeIf (between 1 w.toNat 4095)
  | _, some _ => inRangeIf (w &&& ~~~(s.reg k) == 0)
  | _, _ => .ok

/-- Registers with ranges in the SPRING, TAMPER and PMU blocks. -/
def State.rangeMid (s : State) (k : Nat) (w : Word) : InRange :=
  if k = R.SPRING_CTRL then inRangeIf (decide (field w 21 16 ≤ 32))
  else if k = R.SPRING_MIN_CELLS then inRangeIf (between 64 w.toNat 128)
  else if k = R.SPRING_RCT_CUT then inRangeIf (between 20 w.toNat 255)
  else if k = R.SPRING_APT_CUT then inRangeIf (between 600 w.toNat 1023)
  else if k = R.SPRING_RESEED_INT then inRangeIf (between 256 w.toNat 65536 && w.toNat % 64 == 0)
  else if k = R.SPRING_ADDIN_LEN then inRangeIf (decide (w.toNat ≤ 32))
  else if k = R.TAMPER_TEMP_LIMITS then
    inRangeIf (between 110 (field w 23 16) 140 && decide (-60 ≤ byteInt (field w 7 0)) && decide (byteInt (field w 7 0) ≤ -25))
  else if k = R.TAMPER_LIGHT_LIMIT then inRangeIf (between 1 w.toNat 100)
  else if k = R.PMU_PWR_LIMIT then inRangeIf (between 100 w.toNat 648)
  else if k = R.PMU_TJ_PARK then inRangeIf (between 85 (field w 7 0) 105 && between 2 (field w 15 8) 20 && decide (field w 7 0 + 5 ≤ s.regField R.PMU_TJ_SHUT 7 0))
  else if k = R.PMU_TJ_SHUT then inRangeIf (between (s.regField R.PMU_TJ_PARK 7 0 + 5) w.toNat 115)
  else match arrIx k (R.TAMPER_SRC_CFG 0) 0x10 8, arrIx k (R.PMU_RAIL_CFG 0) 4 6 with
  | some m, _ => inRangeIf (between 1 (field w 11 8) 15 && between 1 (field w 21 16) 60 && levelOk m (field w 1 0))
  | _, some r => inRangeIf (Config.voutOk r (field w 15 0))
  | _, _ => .ok

/-- Registers of function `f`'s HOSTIF sub-block at offset `o` (R781). -/
def State.rangeHost (s : State) (f o : Nat) (k : Nat) (v w : Word) : InRange :=
  let anyOn := (List.range 8).any fun q => s.queueOn f q
  let same := w == s.reg k
  let log (was : Bool) : Bool :=
    (between 4 (field w 19 16) 12 || (!bit w 0 && field w 19 16 == s.regField k 19 16)) && (!was || field w 19 16 == s.regField k 19 16)
  if o = 4 then inRangeIf (field v 11 0 == 0 && (same || !anyOn))
  else if o = 8 then inRangeIf (same || !anyOn)
  else if o = 0xC then inRangeIf (between 1 w.toNat 0x100000 && (same || !anyOn))
  else if 0x100 ≤ o ∧ o < 0x300 then
    let q := (o - 0x100) / 0x40
    match (o - 0x100) % 0x40 with
    | 0 => inRangeIf (log (s.queueOn f q) && decide (field w 27 24 ≤ 8))
    | 4 | 0xC => inRangeIf (field v 11 0 == 0 && (same || !s.queueOn f q))
    | 8 | 0x10 => inRangeIf (same || !s.queueOn f q)
    | 0x24 => inRangeIf (field v 11 0 == 0 && (same || !s.regBit (R.HOSTIF_DQ_CTRL (f - 1)) 0))
    | 0x28 => inRangeIf (same || !s.regBit (R.HOSTIF_DQ_CTRL (f - 1)) 0)
    | 0x2C => inRangeIf (log (s.regBit k 0))
    | _ => .ok
  else .ok

/-- Registers with ranges in the MGMT, CARD, CLESS and EVT blocks. -/
def State.rangeHigh (s : State) (k : Nat) (w : Word) : InRange :=
  if k = R.MGMT_UART_CTRL then inRangeIf (between 133 (field w 11 0) 3472)
  else if k = R.CLESS_PING then inRangeIf (between 50 w.toNat 2000)
  else if k = R.CLESS_DETUNE then inRangeIf (between 1 w.toNat 30)
  else if k = R.CLESS_MEMORY then inRangeIf (between 1 w.toNat 60)
  else if k = R.CLESS_APDU_MAX then inRangeIf (between 100 w.toNat 60000)
  else if k = R.CLESS_TX_LEN then inRangeIf (between 4 w.toNat 261)
  else if k = R.EVT_WDOG_CTRL then inRangeIf (between 1 (field w 9 0) 600)
  else if k = R.EVT_TRACE_BASE then inRangeIf (traceOk w.toNat (s.reg R.EVT_TRACE_SIZE).toNat)
  else if k = R.EVT_TRACE_SIZE then inRangeIf (traceOk (s.reg R.EVT_TRACE_BASE).toNat w.toNat)
  else if 0x101400000 ≤ k ∧ k < 0x101500000 then
    match (k - 0x101400000) % 0x80000 with
    | 0x00 => inRangeIf (field w 3 2 != 0)
    | 0x14 => inRangeIf (between 4 w.toNat 261)
    | 0x20 => inRangeIf (between 100 w.toNat 60000)
    | 0x24 => inRangeIf (between 10 w.toNat 250)
    | _ => .ok
  else .ok

/-- The registers of vat `v` at local offset `o`, with ranges (R161, R230). -/
def State.rangeVat (s : State) (v o : Nat) (w : Word) : InRange :=
  if o = 0x300008 then inRangeIf (macLenOk w)
  else if 0x300040 ≤ o ∧ o < 0x3000C0 then
    let n := (o - 0x300040) / 8
    inRangeIf (dectabOk (if o % 8 = 0 then (w, s.reg (R.SYM_DECTAB_HI v n)) else (s.reg (R.SYM_DECTAB_LO v n), w)))
  else if 0x3000C0 ≤ o ∧ o < 0x3000E0 then inRangeIf (tokprofOk w)
  else if o = 0x204000 then inRangeIf (pkePolicyOk w)
  else if o = 0x204004 then inRangeIf (!s.regBit (R.PKE_STATUS v) 7 || (w &&& ~~~(s.reg (R.PKE_ALG_EN v))) == 0)
  else .ok

/-- Whether register `k`, written with `v` so that it would hold `w`, is in range. -/
def State.rangeOf (s : State) (k : Nat) (v w : Word) : InRange :=
  if 0x1000000000 ≤ k then s.rangeVat ((k - 0x1000000000) / 0x1000000) (k % 0x1000000) w
  else if k < 0x100700000 then s.rangeLow k w
  else if k < 0x100B00000 then s.rangeMid k w
  else if 0x101100000 ≤ k ∧ k < 0x101200000 then s.rangeHost ((k - 0x101100000) / 0x8000) ((k - 0x101100000) % 0x8000) k v w
  else s.rangeHigh k w

/-! ### Guarded writes (R861) -/

/-- The groups of which writing `w` to register `k` is a guarded write. -/
def State.guardGroups (s : State) (k : Nat) (w : Word) : List Nat :=
  let old := s.reg k
  let rise (i : Nat) : Bool := bit w i && !bit old i
  if k = R.MOULD_CTRL then (if rise 1 then [0] else []) ++ (if rise 0 then [1] else [])
  else if k = R.RESET_CTRL then (if rise 0 || rise 1 then [2] else [])
  else if k = R.SPRING_CTRL then (if rise 1 then [3] else [])
  else if k = R.PMU_PWR_LIMIT then (if old.toNat < w.toNat then [5] else [])
  else if (arrIx k (R.TAMPER_SRC_CFG 0) 0x10 8).isSome then
    (if field w 1 0 < field old 1 0 ∨ field old 11 8 < field w 11 8 ∨ field old 21 16 < field w 21 16 then [4] else [])
  else []

/-! ### Plain fields (R11, R12) -/

/-- The masks of RW and RWL bits that a write of register `k` can change, where they differ from the row's. -/
def writeMasks (k : Nat) (r : RegRow) : Word × Word :=
  let rw := w32 r.rw
  let rwl := w32 r.rwl
  if k = R.TAMPER_CTRL then (rw, rwl &&& 0x7FFFFFFF)
  else if k = R.TAMPER_SRC_CFG 4 then (rw, rwl &&& 0xFFFFF0FF)
  else if 0x100900100 ≤ k ∧ k < 0x100900148 then (0, 0)
  else match arrIx k (R.EVT_JNL 0) 4 20 with
  | some i => (rw, rwl &&& ~~~(jnlFixed i))
  | none => (rw, rwl)

/-- The row's RWL bits are locked; a vat's lock stands in its own window. -/
def State.rowLocked (s : State) (k : Nat) (r : RegRow) : Bool :=
  match r.lock with
  | some (l, i) => s.regBit (if 0x1000000000 ≤ k then l + (k - 0x1000000000) / 0x1000000 * 0x1000000 else l) i
  | none => false

/-- What follows from a write of plain fields: `old` is what the register held. -/
def State.afterWrite (s : State) (who : Sender) (k : Nat) (old v : Word) : State :=
  if k = R.BEAT_CTRL then (if bit v 0 then s.beatStart else s)
  else if k = R.SPRING_CTRL then s.springCtrl who v
  else if k = R.PMU_PWR_LIMIT ∨ k = R.PMU_CTRL then s.recap
  else if k = R.MGMT_UART_CTRL then s.uartFlush
  else if k = R.CLESS_CTRL then (if bit v 0 = bit old 0 then s else s.clessEnable)
  else s

/-- A write of `v` to a register of row `r`: locked bits stay and are recorded when they would change, a refused range or guard leaves
the register, W1C bits written as 1 are cleared, and the rest takes the written value. -/
def State.plainWrite (s : State) (who : Sender) (k : Nat) (v : Word) (r : RegRow) : State :=
  let old := s.reg k
  let m := writeMasks k r
  let m := if k = R.SPRING_CTRL then (m.1 &&& ~~~(7 : Word), m.2) else m
  let locked := s.rowLocked k r
  let s := if locked ∧ (v ^^^ old) &&& m.2 ≠ 0 then s.errAt errLocked who .store k else s
  let mask := if locked then m.1 else m.1 ||| m.2
  let w := (old &&& ~~~mask) ||| (v &&& mask)
  let tried := if k = R.SPRING_CTRL then (w &&& ~~~(7 : Word)) ||| (v &&& 7) else w
  let gs := s.guardGroups k tried
  if gs.any s.guarded then s.errAt errLocked who .store k
  else
    let rg := if mask = 0 then InRange.ok else s.rangeOf k v w
    match rg with
    | .bad => s.errAt errRange who .store k
    | .field hi lo =>
      let s := s.errAt errRange who .store k
      (s.setReg k (setField w hi lo (field old hi lo))).afterWrite who k old v
    | .ok =>
      let s := gs.foldl State.consume s
      (s.setReg k (w &&& ~~~(v &&& w32 r.w1c))).afterWrite who k old v

/-! ### Host queues (R782, R785, R961) -/

/-- A queue starts at entry 0 with phase 1. -/
def State.queueStart (s : State) (f q : Nat) : State :=
  (s.setRegs [(R.HOSTIF_SQ_TAIL f q, 0), (R.HOSTIF_SQ_HEAD f q, 0), (R.HOSTIF_CQ_HEAD f q, 0), (R.HOSTIF_CQ_TAIL f q, 0)]).startPhase f q

/-- A queue closes: its jobs are removed and marked as a CANCEL of all of them would. -/
def State.queueClose (s : State) (f q : Nat) : State :=
  let s := (s.cancelJobs (fun j => j.ofQueue f q) s.openEdge).1
  s.mapBt fun b => { b with inflight := b.inflight.filter (· != (f, q)) }

/-- The diagnostic ring of a virtual function starts at entry 0 with phase 1. -/
def State.diagStart (s : State) (d : Nat) : State :=
  (s.setRegs [(R.HOSTIF_DQ_HEAD d, 0), (R.HOSTIF_DQ_TAIL d, 0)]).startPhase (d + 1) 8

/-- A write of a HOSTIF register of function `f` at offset `o`. -/
def State.hostWrite (s : State) (who : Sender) (f o k : Nat) (v : Word) (r : RegRow) : State :=
  let q := (o - 0x100) / 0x40
  let x := if 0x100 ≤ o ∧ o < 0x300 then (o - 0x100) % 0x40 else 0x40
  if x = 0x14 ∧ s.ringSize f q ≤ v.toNat then s.errAt errIgnored who .store k
  else
    let was := s.regBit k 0
    let s := s.plainWrite who k v r
    let now := s.regBit k 0
    if x = 0 then
      if now ∧ ¬ was then s.queueStart f q
      else if was ∧ ¬ now then s.queueClose f q
      else s
    else if x = 0x2C ∧ 1 ≤ f then (if now ∧ ¬ was then s.diagStart (f - 1) else s)
    else if o = 0x130 ∧ 1 ≤ f then s.ringFreed f 8
    else if x = 0x1C then (s.ringFreed f q).hostFetch f q 4096
    else if x = 0x14 then s.hostFetch f q 4096
    else s

/-! ### Registers that carry commands -/

/-- CARD_CMD of slot `n`. -/
def State.cardCmd (s : State) (who : Sender) (n : Nat) (v : Word) : State :=
  let s := if bit v 0 then s.cardCmdActivate n else s
  let s := if bit v 1 then s.cardCmdDeactivate n else s
  if bit v 2 then s.cardCmdSend who n else s

/-- CLESS_CMD. -/
def State.clessCmd (s : State) (who : Sender) (v : Word) : State :=
  let s := if bit v 1 then s.clessCmdDeselect else s
  if bit v 2 then s.clessCmdSend who else s

/-- ADMIT_CTRL: a write of 1 to OPEN is ignored while the spring is in raw mode (R589). -/
def State.admitCtrl (s : State) (who : Sender) (v : Word) (r : RegRow) : State :=
  if bit v 0 ∧ s.springRaw then (s.errAt errIgnored who .store R.ADMIT_CTRL).plainWrite who R.ADMIT_CTRL (setBit v 0 (s.regBit R.ADMIT_CTRL 0)) r
  else s.plainWrite who R.ADMIT_CTRL v r

/-- A write of a SLUICE_CFG register at offset `o`. -/
def State.sluiceWrite (s : State) (who : Sender) (o : Nat) (v : Word) : State :=
  if o = 0 then s.sluiceClear who v
  else if o < 0x10000 ∨ 0x10000 + 0x10 * 4736 ≤ o then s
  else
    let n := (o - 0x10000) / 16
    if sluiceEntries (n / 128) ≤ n % 128 then s
    else match o % 16 with
      | 0 => s.writeSluiceBase who (R.SLUICE_BASE n) (R.SLUICE_ATTR n) 0xFFFFFFE0 v
      | 4 => s.writeSluiceBase who (R.SLUICE_BASEH n) (R.SLUICE_ATTR n) 0xFFF v
      | 8 => s.writeAttr who n v
      | _ => s

/-- A write of a register of vat `v` at local offset `o`. -/
def State.vatWrite (s : State) (who : Sender) (v o k : Nat) (w : Word) (r : RegRow) : State :=
  if o = 0x204010 then s.pkeCmd who v w
  else if 0x600100 ≤ o ∧ o < 0x600300 then
    let i := (o - 0x600100) / 16
    match o % 16 with
    | 0 => s.writeSluiceBase who k (R.VSL_ATTR v i) 0x3FFE0 w
    | 4 => s.writeVslAttr who v i w
    | _ => s
  else if o = 0x70000C then s.vevRing v w
  else s.plainWrite who k w r

/-- A write of a control block's register that is a command, none for the others. -/
def State.commandWrite (s : State) (who : Sender) (k : Nat) (v : Word) (r : RegRow) : Option State :=
  if k = R.ADMIT_CTRL then some (s.admitCtrl who v r)
  else if k = R.SPRING_CMD then some (s.springCmd who v)
  else if k = R.TAMPER_ACK then some (if bit v 0 then s.tamperAck else s)
  else if k = R.RESET_CMD then some (s.resetCmd who v)
  else if k = R.WMARK_ADVANCE then some (s.wmarkAdvance v)
  else if k = R.WMARK_EXTEND then some (s.wmarkExtend who v)
  else if k = R.EVT_DOORBELL then some (s.doorbell who v)
  else if k = R.EVT_WDOG_KICK then some (s.wdogKick who v)
  else if k = R.EVT_TRACE_PUT then some (s.tracePut who v)
  else if k = R.ERRC_Q_POP then some (s.errcPop v)
  else if k = R.MGMT_UART_DATA then some (s.uartWrite v)
  else if k = R.CLESS_CMD then some (s.clessCmd who v)
  else if k = R.QUORUM_GUARD then some (s.setReg k (s.reg k ||| (v &&& 0xFFFF)))
  else match arrIx k (R.EVT_PEND 0) 4 20, arrIx k (R.ERRC_CLEAR 0) 0x40 128, arrIx k (R.CARD_CMD 0) 0x80000 2 with
  | some i, _, _ => some (s.pendClear i v)
  | _, some i, _ => some (s.errcClear i v)
  | _, _, some n => some (s.cardCmd who n v)
  | _, _, _ => none

/-- A write of `v` to register `k` that its target has accepted; reserved offsets ignore it (R14). -/
def State.writeReg (s : State) (who : Sender) (k : Nat) (v : Word) : State :=
  let k := canonReg k
  match regRow? k with
  | none => s
  | some r =>
    if 0x1000000000 ≤ k then s.vatWrite who ((k - 0x1000000000) / 0x1000000) (k % 0x1000000) k v r
    else if 0x100F00000 ≤ k ∧ k < 0x101000000 then s.sluiceWrite who (k - 0x100F00000) v
    else if 0x101100000 ≤ k ∧ k < 0x101200000 then s.hostWrite who ((k - 0x101100000) / 0x8000) ((k - 0x101100000) % 0x8000) k v r
    else (s.commandWrite who k v r).getD (s.plainWrite who k v r)

end Sys2Proof.Machine
end

