-- ==== Sys2Proof/Machine/Bus.lean ====
section
/-! DEFINITION. Accesses on the felt (R15, R25 to R32, R489, R547 to R551, R563, R798): what refuses them, and what they do at their
target. -/

namespace Sys2Proof.Machine

/-! ### Targets (R25, R30, R31) -/

/-- The target of a fabric address. -/
inductive Target where
  | boot | sram | deep
  | control (i : Nat)
  | vat (v off : Nat)
  | hbm (stack line : Nat)
  | none
  deriving DecidableEq, Repr

def targetOf (a : Nat) : Target :=
  if a < 0x40000 then .boot
  else if 0x10000000 ≤ a ∧ a < 0x10800000 then .sram
  else if 0x20000000 ≤ a ∧ a < 0x20400000 then .deep
  else if 0x100000000 ≤ a ∧ a < 0x100000000 + 0x1A * 0x100000 then .control ((a - 0x100000000) / 0x100000)
  else if 0x1000000000 ≤ a ∧ a < 0x1040000000 then .vat ((a - 0x1000000000) / 0x1000000) (a % 0x1000000)
  else if 0x8000000000 ≤ a ∧ a < 0x8800000000 then .hbm ((a - 0x8000000000) / 0x400000000) ((a - 0x8000000000) % 0x400000000 / 64)
  else .none

/-- Bytes of an access. -/
def sizeBytes : Size → Nat
  | .byte => 1 | .half => 2 | .word => 4

/-- A warden core at privileged level. -/
def wardenPriv : Sender → Bool
  | .core c p => decide (64 ≤ c.val) && p
  | _ => false

/-- Why an access is refused: its vector and SUB (R524). -/
abbrev Deny := Nat × Nat

/-! ### The target's own rules (vector 6) -/

/-- A core may write the register of control block `i` at `a`: EVT_DOORBELL from any core, the rest from wardens at privileged level. -/
def mayWriteControl (who : Sender) (a : Nat) : Bool :=
  wardenPriv who || (match who with | .core _ _ => a == R.EVT_DOORBELL | _ => false)

/-- Host software reaches only its own function's HOSTIF sub-block. -/
def hostOwn (f : Fin 17) (a : Nat) : Bool := decide (R.HOSTIF_STATUS f.val ≤ a) && decide (a < R.HOSTIF_STATUS f.val + 0x8000)

/-- The MSI-X table and pending bits of a function, held as memory. -/
def isMsix (a : Nat) : Bool := decide (0x101100000 ≤ a) && decide (a < 0x101188000) && decide (0x6000 ≤ (a - 0x101100000) % 0x8000)

/-- The SUB with which the target's own rules refuse an access, none where they admit it. -/
def State.ruleCheck (s : State) (who : Sender) (kind : Kind) (size : Size) (a : Nat) : Option Nat :=
  let host : Option (Fin 17) := match who with | .host f => some f | _ => none
  let unit : Bool := match who with | .unit _ => true | _ => false
  match host with
  | some f => if ¬ hostOwn f a ∨ kind = .atomic then some 4 else if size = .word ∨ isMsix a then none else some 2
  | none =>
    match targetOf a with
    | .none => some 1
    | .boot => if kind = .atomic then some 5 else if kind = .store then some 3 else none
    | .sram => none
    | .deep => if ¬ wardenPriv who then some 4 else if kind = .atomic then some 5 else none
    | .control _ =>
      if kind = .atomic then some 5
      else if size ≠ .word then some 2
      else if kind = .store ∧ ¬ mayWriteControl who a then some 4
      else none
    | .vat v off =>
      if ¬ s.present v then some 1
      else if off < 0x40000 then none
      else if off < 0x100000 ∨ 0x800000 ≤ off then some 1
      else if off < 0x500000 then some 4
      else if off < 0x600000 then (if ¬ unit then some 4 else if 0x510000 ≤ off then some 1 else if kind = .atomic then some 5 else none)
      else if ¬ wardenPriv who then some 4
      else if (off < 0x700000 ∧ 0x604000 ≤ off) ∨ 0x701000 ≤ off then some 1
      else if kind = .atomic then some 5
      else if size ≠ .word then some 2
      else none
    | .hbm _ _ => none

/-! ### The sluice (vector 7) -/

/-- The sluice table that judges an access, and the access as it sees it: none for fixed-function and host senders, and for the local
regions beyond tile SRAM (R547). -/
def sluiceView (who : Sender) (kind : Kind) (a : Nat) : Option (Nat × SluiceAccess) :=
  match who with
  | .core c p =>
    let dev (t : Nat) : Option (Nat × SluiceAccess) := some (t, ⟨c.val, p, kind, a, none⟩)
    match targetOf a with
    | .boot => dev 0x20
    | .sram => dev 0x21
    | .deep => dev 0x22
    | .control i => dev i
    | .hbm k _ => dev (0x23 + k)
    | .vat v off => if off < 0x40000 then some (0, ⟨c.val, p, kind, off, some v⟩) else none
    | .none => none
  | _ => none

/-- What refuses an access at its target: the target's rules, then the sluice (R548). -/
def State.busCheck (s : State) (who : Sender) (kind : Kind) (size : Size) (a : Nat) : Option Deny :=
  match s.ruleCheck who kind size a with
  | some sub => some (6, sub)
  | none =>
    match sluiceView who kind a with
    | some (t, x) => (s.sluiceJudge t x).map fun sub => (7, sub)
    | none => none

/-- A refused access has no effect but its records (R26, R565). A store of a vat's core to the BEAT block and the like is an access error. -/
def State.busDenied (s : State) (who : Sender) (kind : Kind) (a : Nat) (d : Deny) : State :=
  if d.1 = 7 then
    match sluiceView who kind a with
    | some (t, x) =>
      let s := s.sluiceRefused t x d.2 a
      match x.tile with | some v => s.raiseLocal v 6 | none => s
    | none => s
  else s.errAt errAccess who kind a

/-! ### Memory targets -/

/-- The byte of the deep store window at deep-store offset `o`: of the record copy that holds it, or of the store's other areas. -/
def State.deepByte (s : State) (o : Nat) : Byte :=
  match s.deep.copies.find? fun c => decide (c.off ≤ o) && decide (o < c.off + c.image.length) with
  | some c => c.image.getD (o - c.off) 0
  | none => s.byte (0x20000000 + o)

def State.setDeepByte (s : State) (o : Nat) (b : Byte) : State :=
  let hit (c : DeepCopy) : Bool := decide (c.off ≤ o) && decide (o < c.off + c.image.length)
  let upd (c : DeepCopy) : DeepCopy := if hit c then { c with image := c.image.set (o - c.off) b } else c
  if s.deep.copies.any hit then { s with deep := { s.deep with copies := s.deep.copies.map upd } } else s.setByte (0x20000000 + o) b

/-- `n` bytes of a memory target from `a`. -/
def State.memRead (s : State) (a n : Nat) : Nat :=
  if 0x20000000 ≤ a ∧ a < 0x20400000 then leNat ((List.range n).map fun i => s.deepByte (a - 0x20000000 + i)) else leNat (s.read a n)

/-- The low `n` bytes of `v` at `a`. -/
def State.memWrite (s : State) (a n : Nat) (v : Word) : State :=
  if 0x20000000 ≤ a ∧ a < 0x20400000 then
    ((leBytes n v.toNat).zipIdx).foldl (fun s p => s.setDeepByte (a - 0x20000000 + p.2) p.1) s
  else s.write a (leBytes n v.toNat)

/-- A register target, not a memory one. -/
def isRegister (a : Nat) : Bool :=
  match targetOf a with
  | .control _ => !isMsix a
  | .vat _ off => decide (0x600000 ≤ off)
  | _ => false

/-- The poisoned line that an access reads, if it does (R798). -/
def State.poisonAt (s : State) (a : Nat) : Bool := match targetOf a with | .hbm k l => s.lk.poison.contains (k, l) | _ => false

/-- A read of a poisoned line: its records. -/
def State.poisonRead (s : State) (who : Sender) (kind : Kind) (a : Nat) : State :=
  let k := (a - 0x8000000000) / 0x400000000
  (s.raise (416 + k) (76 + k)).errAt errPoison who kind a

/-! ### Accesses -/

/-- The answer to an access: refused with a vector and SUB, or its data. -/
abbrev Answer := Except Deny Word

/-- A load from fabric address `a`. -/
def State.busLoad (s : State) (who : Sender) (size : Size) (a : Nat) : Answer × State :=
  match s.busCheck who .load size a with
  | some d => (.error d, s.busDenied who .load a d)
  | none =>
    if isRegister a then
      match s.readReg who a with
      | some r => (.ok r.1, r.2)
      | none => (.error (6, 1), s.errAt errAccess who .load a)
    else if s.poisonAt a then (.error (6, 1), s.poisonRead who .load a)
    else (.ok (w32 (s.memRead a (sizeBytes size))), s)

/-- A store of `v` to fabric address `a`. -/
def State.busStore (s : State) (who : Sender) (size : Size) (a : Nat) (v : Word) : Option Deny × State :=
  match s.busCheck who .store size a with
  | some d => (some d, s.busDenied who .store a d)
  | none => (none, if isRegister a then s.writeReg who a v else s.memWrite a (sizeBytes size) v)

/-- SWAP or CAS at fabric address `a`: `f` gives what is stored for what was read (R489). -/
def State.busAtomic (s : State) (who : Sender) (a : Nat) (f : Word → Option Word) : Answer × State :=
  match s.busCheck who .atomic .word a with
  | some d => (.error d, s.busDenied who .atomic a d)
  | none =>
    if s.poisonAt a then (.error (6, 1), s.poisonRead who .atomic a)
    else
      let old := w32 (s.memRead a 4)
      (.ok old, match f old with | some v => s.memWrite a 4 v | none => s)

/-! ### A vat core's own local regions (R31, R508, R563, R603) -/

/-- Where a local address of a vat leads. -/
inductive Region where
  | tile | window | windowEnd | job | queue | control | absent
  deriving DecidableEq, Repr

/-- The region of local address `a`, below 0x8000_0000; `job` is the PKE's operand memory. -/
def regionOf (a : Nat) : Region :=
  if a < 0x40000 then .tile
  else if 0x100000 ≤ a ∧ a < 0x110000 then .window
  else if 0x110000 ≤ a ∧ a < 0x200000 then .windowEnd
  else if 0x200000 ≤ a ∧ a < 0x204000 then .job
  else if (0x204000 ≤ a ∧ a < 0x208000) ∨ (0x300000 ≤ a ∧ a < 0x304000) ∨ (0x400000 ≤ a ∧ a < 0x401000) ∨ (0x600000 ≤ a ∧ a < 0x604000) ∨
      (0x700000 ≤ a ∧ a < 0x701000) then .control
  else if 0x500000 ≤ a ∧ a < 0x510000 then .queue
  else .absent

/-- Fabric address of local address `a` of vat `v`. -/
def vatAddr (v a : Nat) : Nat := 0x1000000000 + 0x1000000 * v + a

/-- What refuses an access of vat `v`'s core to its own local address `a`, aligned (R508, R524, R525, R547). -/
def State.localCheck (s : State) (v : Nat) (priv : Bool) (kind : Kind) (size : Size) (a : Nat) : Option Deny :=
  let r := regionOf a
  if r = .window ∨ r = .windowEnd then
    if kind = .atomic then some (5, 2) else if ¬ priv then some (5, 1) else if r = .windowEnd then some (4, 3) else none
  else if r = .absent then some (4, 2)
  else if r = .tile then (s.sluiceJudge 0 ⟨v, priv, kind, a, some v⟩).map fun sub => (7, sub)
  else if kind = .atomic then some (6, 5)
  else if ¬ priv then some (7, 1)
  else if r = .job ∧ (0x200100 ≤ a ∨ s.pkeBusy v) then some (6, if a < 0x200100 then 6 else 4)
  else if r = .control ∧ size ≠ .word then some (6, 2)
  else if r = .control ∧ kind = .store ∧ a = 0x70000C then some (6, 4)
  else none

/-- The records of a refused local access: those of the tile SRAM's sluice, or an entry in error capture for an access error. -/
def State.localDenied (s : State) (v : Nat) (priv : Bool) (kind : Kind) (a : Nat) (d : Deny) : State :=
  if d.1 = 7 ∧ a < 0x40000 then (s.sluiceRefused 0 ⟨v, priv, kind, a, some v⟩ d.2 (vatAddr v a)).raiseLocal v 6
  else if d.1 = 6 then s.errAt errAccess (.core ⟨v % 66, Nat.mod_lt _ (by decide)⟩ priv) kind (vatAddr v a)
  else s

/-- A load by vat `v`'s core from its own local address `a`; what the key window holds where is the engine's (notes/assumptions/30.md),
so its bytes are free values. -/
def State.localLoad (s : State) (v : Nat) (priv : Bool) (size : Size) (a : Nat) : Answer × State :=
  match s.localCheck v priv .load size a with
  | some d => (.error d, s.localDenied v priv .load a d)
  | none =>
    let who : Sender := .core ⟨v % 66, Nat.mod_lt _ (by decide)⟩ priv
    match regionOf a with
    | .window => (.ok (w32 (leNat (s.freeBytes (sizeBytes size)))), s.tookFree (sizeBytes size))
    | .control =>
      match s.readReg who (vatAddr v a) with
      | some r => (.ok r.1, r.2)
      | none => (.error (6, 1), s.errAt errAccess who .load (vatAddr v a))
    | _ => (.ok (w32 (leNat (s.read (vatAddr v a) (sizeBytes size)))), s)

/-- A store by vat `v`'s core to its own local address `a`. -/
def State.localStore (s : State) (v : Nat) (priv : Bool) (size : Size) (a : Nat) (w : Word) : Option Deny × State :=
  match s.localCheck v priv .store size a with
  | some d => (some d, s.localDenied v priv .store a d)
  | none =>
    (none, match regionOf a with
      | .window => s
      | .control => s.writeReg (.core ⟨v % 66, Nat.mod_lt _ (by decide)⟩ priv) (vatAddr v a) w
      | _ => s.write (vatAddr v a) (leBytes (sizeBytes size) w.toNat))

/-! ### Register commands -/

/-- A register write that a sender makes on the felt; a vat's core reaches the registers of its own window locally. Nothing is written
during a device reset or while the device is held. -/
def State.regCommand (s : State) (who : Sender) (size : Size) (a : Nat) (v : Word) : State :=
  let live := !s.pw.inReset && !s.pw.held && !s.tripped &&
    (match who with | .core c _ => !(s.core c.val).inReset && !(s.core c.val).locked | _ => true)
  let own : Option Nat :=
    match who, targetOf a with
    | .core c _, .vat v _ => if c.val = v then some v else none
    | _, _ => none
  if ¬ live ∨ a % (sizeBytes size) ≠ 0 then s
  else match own with
    | some v' => (s.localStore v' (privOf who) size (a % 0x1000000) v).2
    | none => (s.busStore who size a v).2

/-- A register read with an effect of its own, made by `who`. -/
def State.readCommand (s : State) (who : Sender) (a : Nat) : State :=
  let live := !s.pw.inReset && !s.pw.held && !s.tripped &&
    (match who with | .core c _ => !(s.core c.val).inReset && !(s.core c.val).locked | _ => true)
  let own : Option Nat :=
    match who, targetOf a with
    | .core c _, .vat v _ => if c.val = v then some v else none
    | _, _ => none
  if ¬ live then s
  else match own with
    | some v => (s.localLoad v (privOf who) .word (a % 0x1000000)).2
    | none => (s.busLoad who .word a).2

end Sys2Proof.Machine
end

