-- ==== Sys2Proof/Machine/RegCommands.lean ====
section
/-! DEFINITION. The commands that are a write or a read of one register: each is the access that its sender makes, with all that its target
does then (R11). -/

namespace Sys2Proof.Machine

/-- A word write to a register. -/
def State.wr (s : State) (who : Sender) (a : Nat) (v : Word) : State := s.regCommand who .word a v

/-! ### Any register -/

/-- REGISTER_WRITE (R11). -/
def execRegisterWrite (who : Sender) (size : Size) (addr : Nat) (v : Word) (s : State) : Res := .next (s.regCommand who size addr v)

/-! ### Beat, admission and host queues -/

/-- BEAT_START: BEAT_CTRL written with START (R55). -/
def execBeatStart (who : Sender) (v : Word) (s : State) : Res := .next (s.wr who R.BEAT_CTRL (v ||| 1))

/-- BEAT_PERIOD_WRITE (R64). -/
def execBeatPeriodWrite (who : Sender) (v : Word) (s : State) : Res := .next (s.wr who R.BEAT_PERIOD v)

/-- BEAT_TQ_SEL_WRITE (R65). -/
def execBeatTqSelWrite (who : Sender) (v : Word) (s : State) : Res := .next (s.wr who R.BEAT_TQ_SEL v)

/-- ADMIT_OPEN_WRITE: ADMIT_CTRL (R286, R589). -/
def execAdmitOpenWrite (who : Sender) (v : Word) (s : State) : Res := .next (s.wr who R.ADMIT_CTRL v)

/-- ADMIT_WAIT_LIMIT_WRITE (R288). -/
def execAdmitWaitLimitWrite (who : Sender) (d : Deckle) (v : Word) (s : State) : Res := .next (s.wr who (R.ADMIT_WAIT_LIMIT d.val) v)

/-- SQ_TAIL_WRITE (R782). -/
def execSqTailWrite (who : Sender) (f : Fin 17) (q : Fin 8) (v : Word) (s : State) : Res := .next (s.wr who (R.HOSTIF_SQ_TAIL f.val q.val) v)

/-- CQ_HEAD_WRITE (R782). -/
def execCqHeadWrite (who : Sender) (f : Fin 17) (q : Fin 8) (v : Word) (s : State) : Res := .next (s.wr who (R.HOSTIF_CQ_HEAD f.val q.val) v)

/-- DQ_HEAD_WRITE (R782); the physical function has no diagnostic ring, and its offset is reserved. -/
def execDqHeadWrite (who : Sender) (f : Fin 17) (v : Word) (s : State) : Res := .next (s.wr who (R.HOSTIF_STATUS f.val + 0x130) v)

/-- The control register of a queue or of a function's diagnostic ring. -/
def queueCtrl (f q : Nat) (diag : Bool) : Nat := if diag then R.HOSTIF_STATUS f + 0x12C else R.HOSTIF_Q_CTRL f q

/-- HOST_QUEUE_ENABLE: Q_ENABLE, or the diagnostic ring's ENABLE, written as 1 (R961). -/
def execHostQueueEnable (who : Sender) (f : Fin 17) (q : Fin 8) (diag : Bool) (v : Word) (s : State) : Res :=
  .next (s.wr who (queueCtrl f.val q.val diag) (v ||| 1))

/-- HOST_QUEUE_CLOSE: Q_ENABLE written as 0 (R785). -/
def execHostQueueClose (who : Sender) (f : Fin 17) (q : Fin 8) (v : Word) (s : State) : Res :=
  .next (s.wr who (R.HOSTIF_Q_CTRL f.val q.val) (setBit v 0 false))

/-! ### Engines and keys -/

/-- PKE_START: PKE_CMD written with START (R216). -/
def execPkeStart (who : Sender) (v : Vat) (w : Word) (s : State) : Res := .next (s.wr who (R.PKE_CMD v.val) (w ||| 1))

/-- PKE_WIPE: PKE_CMD written with WIPE (R228). -/
def execPkeWipe (who : Sender) (v : Vat) (w : Word) (s : State) : Res := .next (s.wr who (R.PKE_CMD v.val) (w ||| 2))

/-- SYM_LOCK_WRITE (R156). -/
def execSymLockWrite (who : Sender) (v : Vat) (w : Word) (s : State) : Res := .next (s.wr who (R.SYM_LOCK v.val) w)

/-- PKE_LOCK_WRITE (R224). -/
def execPkeLockWrite (who : Sender) (v : Vat) (w : Word) (s : State) : Res := .next (s.wr who (R.PKE_LOCK v.val) w)

/-- KEYS_MIRROR_LIST_WRITE (R359). -/
def execKeysMirrorListWrite (who : Sender) (d : Deckle) (v : Word) (s : State) : Res := .next (s.wr who (R.KEYS_MIRROR_LIST d.val) v)

/-! ### Sluices -/

/-- SLUICE_ATTR_WRITE: ATTR of entry `n` of the device tables, or of a vat's local table (R552). -/
def execSluiceAttrWrite (who : Sender) (own : Option Vat) (n : Fin 4736) (v : Word) (s : State) : Res :=
  .next (s.wr who (match own with | some u => R.VSL_ATTR u.val (n.val % 32) | none => R.SLUICE_ATTR n.val) v)

/-- SLUICE_BASE_WRITE: the base of an entry; `high` its upper word (R553). -/
def execSluiceBaseWrite (who : Sender) (own : Option Vat) (n : Fin 4736) (high : Bool) (v : Word) (s : State) : Res :=
  .next (s.wr who (match own with
    | some u => R.VSL_BASE u.val (n.val % 32)
    | none => if high then R.SLUICE_BASEH n.val else R.SLUICE_BASE n.val) v)

/-- SLUICE_CLEAR (R556). -/
def execSluiceClear (who : Sender) (v : Word) (s : State) : Res := .next (s.wr who R.SLUICE_CLEAR v)

/-! ### Spring and DRBG -/

/-- SPRING_RESEED (R581). -/
def execSpringReseed (who : Sender) (s : State) : Res := .next (s.wr who R.SPRING_CMD 1)

/-- SPRING_REINST_LANE (R601). -/
def execSpringReinstLane (who : Sender) (v : Vat) (s : State) : Res := .next (s.wr who R.SPRING_CMD (w32 (2 + 256 * v.val)))

/-- SPRING_CTRL written with one of its mode bits changed. -/
def State.springBit (s : State) (who : Sender) (i : Nat) (b : Bool) : State := s.wr who R.SPRING_CTRL (setBit (s.reg R.SPRING_CTRL) i b)

/-- SPRING_ENABLE (R599). -/
def execSpringEnable (who : Sender) (s : State) : Res := .next (s.springBit who 0 true)

/-- SPRING_RAW_ENTER (R588). -/
def execSpringRawEnter (who : Sender) (s : State) : Res := .next (s.springBit who 1 true)

/-- SPRING_RAW_EXIT (R592). -/
def execSpringRawExit (who : Sender) (s : State) : Res := .next (s.springBit who 1 false)

/-- SPRING_TEST (R593). -/
def execSpringTest (who : Sender) (s : State) : Res := .next (s.springBit who 2 true)

/-- SPRING_OUT_READ (R598). -/
def execSpringOutRead (who : Sender) (s : State) : Res := .next (s.readCommand who R.SPRING_OUT)

/-- SPRING_RAW_READ (R590). -/
def execSpringRawRead (who : Sender) (s : State) : Res := .next (s.readCommand who R.SPRING_RAW)

/-- VDR_OUT_READ (R603). -/
def execVdrOutRead (who : Sender) (v : Vat) (s : State) : Res := .next (s.readCommand who (R.VDR_OUT v.val))

/-! ### Tamper, power and reset -/

/-- TAMPER_ACK (R625). -/
def execTamperAck (who : Sender) (v : Word) (s : State) : Res := .next (s.wr who R.TAMPER_ACK v)

/-- PMU_PWR_LIMIT_WRITE (R709). -/
def execPmuPwrLimitWrite (who : Sender) (v : Word) (s : State) : Res := .next (s.wr who R.PMU_PWR_LIMIT v)

/-- RESET_CMD written with a key and one command (R707). -/
def State.resetWrite (s : State) (who : Sender) (key : Byte) (cmd : Nat) : State := s.wr who R.RESET_CMD (w32 (key.toNat * 2 ^ 24 + cmd))

/-- RESET_CMD_WARM. -/
def execResetCmdWarm (who : Sender) (key : Byte) (s : State) : Res := .next (s.resetWrite who key 1)

/-- RESET_CMD_COLD. -/
def execResetCmdCold (who : Sender) (key : Byte) (s : State) : Res := .next (s.resetWrite who key 2)

/-- RESET_CMD_VAT_RESET (R670). -/
def execResetCmdVatReset (who : Sender) (key : Byte) (v : Vat) (s : State) : Res := .next (s.resetWrite who key (8 + 65536 * v.val))

/-- RESET_CMD_SERVICE_PAIR (R671). -/
def execResetCmdServicePair (who : Sender) (key : Byte) (s : State) : Res := .next (s.resetWrite who key 4)

/-- RESET_CMD_CLR_FAIL (R690). -/
def execResetCmdClrFail (who : Sender) (key : Byte) (s : State) : Res := .next (s.resetWrite who key 16)

/-- WATCHDOG_KICK (R892). -/
def execWatchdogKick (who : Sender) (v : Word) (s : State) : Res := .next (s.wr who R.EVT_WDOG_KICK v)

/-! ### Console, cards and quorum -/

/-- UART_TRANSMIT_WRITE (R790). -/
def execUartTransmitWrite (who : Sender) (v : Word) (s : State) : Res := .next (s.wr who R.MGMT_UART_DATA v)

/-- UART_RECEIVE_READ (R790). -/
def execUartReceiveRead (who : Sender) (s : State) : Res := .next (s.readCommand who R.MGMT_UART_DATA)

/-- CARD_ACTIVATE (R828). -/
def execCardActivate (who : Sender) (n : Fin 2) (s : State) : Res := .next (s.wr who (R.CARD_CMD n.val) 1)

/-- CARD_DEACTIVATE (R840). -/
def execCardDeactivate (who : Sender) (n : Fin 2) (s : State) : Res := .next (s.wr who (R.CARD_CMD n.val) 2)

/-- CARD_SEND (R834). -/
def execCardSend (who : Sender) (n : Fin 2) (s : State) : Res := .next (s.wr who (R.CARD_CMD n.val) 4)

/-- CLESS_SEND (R848). -/
def execClessSend (who : Sender) (s : State) : Res := .next (s.wr who R.CLESS_CMD 4)

/-- CLESS_DESELECT (R846). -/
def execClessDeselect (who : Sender) (s : State) : Res := .next (s.wr who R.CLESS_CMD 2)

/-- QUORUM_GUARD_WRITE (R862). -/
def execQuorumGuardWrite (who : Sender) (v : Word) (s : State) : Res := .next (s.wr who R.QUORUM_GUARD v)

/-! ### Events and error capture -/

/-- EVT_DOORBELL (R873). -/
def execEvtDoorbell (who : Sender) (v : Word) (s : State) : Res := .next (s.wr who R.EVT_DOORBELL v)

/-- EVT_PEND_CLEAR (R875, R876). -/
def execEvtPendClear (who : Sender) (k : Fin 20) (v : Word) (s : State) : Res := .next (s.wr who (R.EVT_PEND k.val) v)

/-- VEV_RING (R874). -/
def execVevRing (who : Sender) (u : Vat) (v : Word) (s : State) : Res := .next (s.wr who (R.VEV_RING u.val) v)

/-- EVT_TRACE_PUT (R888). -/
def execEvtTracePut (who : Sender) (v : Word) (s : State) : Res := .next (s.wr who R.EVT_TRACE_PUT v)

/-- ERRC_CLEAR (R886). -/
def execErrcClear (who : Sender) (k : Fin 128) (v : Word) (s : State) : Res := .next (s.wr who (R.ERRC_CLEAR k.val) v)

/-- ERRC_Q_POP (R899). -/
def execErrcQPop (who : Sender) (v : Word) (s : State) : Res := .next (s.wr who R.ERRC_Q_POP v)

end Sys2Proof.Machine
end

