-- ==== Sys2Proof/Machine/Ax32.lean ====
section
/-! DEFINITION. The AX32 core's shared operations (09_ax32.md, 10_exceptions_sluices.md): its registers, its routes to memory, exception
entry and lockup, the issue of an instruction, the store buffer, and system registers. Instructions take effect in program order, each when
it completes (notes/assumptions/29.md). -/

namespace Sys2Proof.Machine

/-! ### Registers (R475, R510) -/

/-- General register `g`; g0 reads as zero. -/
def CoreState.rd (x : CoreState) (g : Gpr) : Word := if g = 0 then 0 else x.gpr.getD g.val 0

/-- Register `g` carries key taint. -/
def CoreState.tainted (x : CoreState) (g : Gpr) : Bool := g != 0 && bit x.taint g.val

/-- Register `g` takes a value and its taint; writes to g0 are discarded. -/
def CoreState.put (x : CoreState) (g : Gpr) (v : Word) (t : Bool) : CoreState :=
  if g = 0 then x else { x with gpr := x.gpr.set g.val v, taint := setBit x.taint g.val t }

/-- Level, interrupt enable and priority. -/
def CoreState.priv (x : CoreState) : Bool := bit x.xstatus 0
def CoreState.ie (x : CoreState) : Bool := bit x.xstatus 1
def CoreState.pri (x : CoreState) : Nat := field x.xstatus 13 8

/-- The core is halted by the debug extension. -/
def CoreState.halted (x : CoreState) : Bool := bit x.dbgStatus 0

/-- Core `c` as a sender at a level. -/
def coreSender (c : Nat) (priv : Bool) : Sender := .core ⟨c % 66, Nat.mod_lt _ (by decide)⟩ priv

/-! ### Routes (R31, R38, R39) -/

/-- Where a local address leads: a local region of a vat, a fabric address through an aperture, or a refusal inside the core. -/
inductive Route where
  | own (a : Nat)
  | fab (a : Nat)
  | deny (d : Deny)
  deriving DecidableEq, Repr

/-- The aperture of a local address: its number and the offset in it. -/
def apertureOf (c a : Nat) : Nat × Nat := (if c < 64 then (a - 0x80000000) / 2 ^ 28 else a / 2 ^ 28, a % 2 ^ 28)

/-- The route of a local address of core `c`. -/
def State.route (s : State) (c : Nat) (addr : Word) : Route :=
  let a := addr.toNat
  if c < 64 ∧ a < 0x80000000 then .own a
  else
    let p := apertureOf c a
    let r := (s.core c).aper.getD p.1 (0, 0)
    if bit r.2 0 then .fab (field r.1 15 0 * 2 ^ 28 + p.2) else .deny (4, 1)

/-- The fabric address of a local address, whether or not its aperture is enabled. -/
def State.fabOf (s : State) (c : Nat) (addr : Word) : Nat :=
  match s.route c addr with
  | .own a => vatAddr c a
  | .fab a => a
  | .deny _ => 0

/-- A load that core `c` makes at once. -/
def State.coreLoad (s : State) (c : Nat) (priv : Bool) (size : Size) (addr : Word) : Answer × State :=
  match s.route c addr with
  | .own a => s.localLoad c priv size a
  | .fab a => s.busLoad (coreSender c priv) size a
  | .deny d => (.error d, s)

/-- A store that core `c` makes at once. -/
def State.coreStore (s : State) (c : Nat) (priv : Bool) (size : Size) (addr v : Word) : Option Deny × State :=
  match s.route c addr with
  | .own a => s.localStore c priv size a v
  | .fab a => s.busStore (coreSender c priv) size a v
  | .deny d => (some d, s)

/-! ### The store buffer (R505, R513 to R515, R535) -/

/-- The target of an access, as R513 separates targets. -/
def targetKey (fab : Nat) : Nat × Nat :=
  match targetOf fab with
  | .boot => (0, 0) | .sram => (1, 0) | .deep => (2, 0)
  | .control i => (3, i)
  | .vat v off => (4 + off / 0x100000, v)
  | .hbm k _ => (20, k)
  | .none => (21, 0)

/-- A store of core `c` goes to its vat's own regions. -/
def StoreEntry.own (e : StoreEntry) (c : Nat) : Bool := decide (c < 64) && decide (e.addr.toNat < 0x80000000)

/-- What refuses a buffered store at its target: own regions were checked at issue (R536). -/
def State.storeCheck (s : State) (c : Nat) (e : StoreEntry) : Option Deny :=
  if e.own c then none else s.busCheck (coreSender c e.priv) .store e.size e.fab

/-- A buffered store that its target admits is performed. -/
def State.storePerform (s : State) (c : Nat) (e : StoreEntry) : State :=
  if e.own c then
    match regionOf e.addr.toNat with
    | .window => s
    | .control => s.writeReg (coreSender c e.priv) e.fab e.data
    | _ => s.write e.fab (leBytes (sizeBytes e.size) e.data.toNat)
  else (s.busStore (coreSender c e.priv) e.size e.fab e.data).2

/-- The buffered stores to the memory that holds the exception stack, tile SRAM or warden SRAM, are performed, oldest first, up to one
that is refused. -/
def State.flushStack (s : State) (c : Nat) : List StoreEntry → State
  | [] => s
  | e :: es =>
    let k := targetKey e.fab
    if k = (if c < 64 then (4, c) else (1, 0)) then
      match s.storeCheck c e with
      | none => ((s.storePerform c e).updCore c fun x => { x with sb := x.sb.erase e }).flushStack c es
      | some _ => s
    else s.flushStack c es

/-- The byte at fabric address `a` in the youngest buffered store that holds it. -/
def sbByte (sb : List StoreEntry) (a : Nat) : Option Byte :=
  (sb.reverse.find? fun e => decide (e.fab ≤ a) && decide (a < e.fab + sizeBytes e.size)).map fun e =>
    by8 (e.data.toNat / 256 ^ (a - e.fab))

/-- What the store buffer has of `n` bytes from `a`: every byte, none, or only some. -/
def sbBytes (sb : List StoreEntry) (a n : Nat) : List (Option Byte) := (List.range n).map fun i => sbByte sb (a + i)
def sbAll (l : List (Option Byte)) : Bool := l.all Option.isSome
def sbNone (l : List (Option Byte)) : Bool := l.all Option.isNone

/-! ### Lockup (R537 to R539) -/

/-- The lockup record of a warden pair. -/
def State.lockupRecord (s : State) (x : CoreState) : Bytes :=
  leBytes 4 0x4B434F4C ++ leBytes 4 x.xepc.toNat ++ leBytes 4 x.xcause.toNat ++ leBytes 4 x.xaddr.toNat ++ leBytes 4 x.xsp.toNat ++
    leBytes 4 x.xdepth.toNat ++ leBytes 8 s.beat

/-- Core `c` locks up. -/
def State.lockup (s : State) (c : Nat) : State :=
  let x := s.core c
  let s := s.setCore c { x with locked := true, slot := none, load := none, wait := none, report := none, wfe := false }
  if c < 64 then
    (s.setRegs [(R.VSL_LOCKUP_EPC c, x.xepc.toNat), (R.VSL_LOCKUP_CAUSE c, x.xcause.toNat), (R.VSL_LOCKUP_ADDR c, x.xaddr.toNat),
      (R.VSL_LOCKUP_XSP c, x.xsp.toNat)]).parkFault c
  else
    let s := s.write (if c = 64 then 0x107FFFC0 else 0x107FFFE0) (s.lockupRecord x)
    let s := s.mapPins fun p => { p with lockup := true }
    if c = 64 then s.primaryPairDown 9 else s.servicePairDown

/-! ### Exception entry and return (R530 to R532) -/

/-- XCAUSE of an entry (R528). -/
def causeWord (store : Bool) (lost sub v n : Nat) : Word := w32 (b2n store * 2 ^ 31 + lost % 8 * 2 ^ 28 + sub * 65536 + v * 256 + n)

/-- The local addresses from `a` to `a` + 15 lie in tile SRAM in a vat, in warden SRAM in a warden. -/
def State.frameAt (s : State) (c : Nat) (a : Word) : Bool :=
  match s.route c a with
  | .own k => decide (k + 16 ≤ 0x40000)
  | .fab k => decide (64 ≤ c) && decide (0x10000000 ≤ k) && decide (k + 16 ≤ 0x10800000)
  | .deny _ => false

/-- Words stored from `a` on at privileged level: whether all were, and the state. -/
def State.pushWords (s : State) (c : Nat) (a : Word) : List Word → Bool × State
  | [] => (true, s)
  | w :: ws =>
    match s.coreStore c true .word a w with
    | (none, t) => t.pushWords c (a + 4) ws
    | (some _, t) => (false, t)

/-- Instructions discarded by a squash: up to 16 (R503, R506); how many, the spec leaves open. -/
def State.squash (s : State) (c : Nat) : State :=
  if bit (s.core c).spec 1 then
    (s.updCore c fun x => { x with squash := satAdd x.squash ((Config.freeWord s.freeCtr).toNat % 17) }).tookFree 1
  else s

/-- Core `c` enters vector `v` with XCAUSE `cause`, XADDR `addr` and EPC `epc`; `pri` is the new priority of an interrupt. The one entry of
every exception, interrupt and trap. -/
def State.enter (s : State) (c v : Nat) (cause addr epc : Word) (pri : Option Nat := none) : State :=
  let s := s.squash c
  let x := s.core c
  let sp := x.xsp - 16
  if x.xsp.toNat < 16 ∨ sp.toNat < x.xsplim.toNat ∨ ¬ bit x.vbar 0 ∨ ¬ s.frameAt c sp then s.lockup c
  else
    let s := s.flushStack c x.sb
    let f := s.pushWords c sp [epc, x.xstatus, cause, addr]
    if ¬ f.1 then f.2.lockup c
    else
      match f.2.coreLoad c true .word (w32 (field x.vbar 31 8 * 256 + 4 * v)) with
      | (.error _, s) => s.lockup c
      | (.ok h, s) =>
        if h.toNat % 4 ≠ 0 then s.lockup c
        else
          let st := setField x.xstatus 1 0 1
          let st := match pri with | some p => setField st 13 8 p | none => st
          s.updCore c fun y => { y with
            xsp := sp, xcause := cause, xaddr := addr, xepc := epc, xstatus := st
            xdepth := w32 (min 255 (x.xdepth.toNat + 1)), predictor := List.replicate 256 0, returns := [], pc := h
            slot := none, load := none, wait := none, wfe := false }

/-- A synchronous exception of the current instruction: its EPC is the instruction's own address. -/
def State.trapTo (s : State) (c v sub : Nat) (addr : Word) (n : Nat := 0) : State := s.enter c v (causeWord false 0 sub v n) addr (s.core c).pc

/-- The exception that a refusal raises. -/
def State.denied (s : State) (c : Nat) (d : Deny) (addr : Word) : State := s.trapTo c d.1 d.2 addr

/-- A change to user level first clears every key-tainted register (R512). -/
def CoreState.dropKeys (x : CoreState) : CoreState :=
  { x with gpr := (x.gpr.zipIdx).map fun p => if bit x.taint p.2 then 0 else p.1, taint := 0 }

/-- XSTATUS as a frame restores it: PRIV, IE and PRI; wardens stay privileged. -/
def restoredStatus (c : Nat) (w : Word) : Word :=
  w32 (min 32 (field w 13 8) * 256 + field w 1 1 * 2 + (if 64 ≤ c then 1 else field w 0 0))

/-- XRET on core `c`. -/
def State.xret (s : State) (c : Nat) : State :=
  let x := s.core c
  if ¬ s.frameAt c x.xsp then s.lockup c
  else
    let s := s.flushStack c x.sb
    match s.coreLoad c true .word x.xsp with
    | (.error _, s) => s.lockup c
    | (.ok epc, s) =>
      match s.coreLoad c true .word (x.xsp + 4) with
      | (.error _, s) => s.lockup c
      | (.ok st, s) =>
        s.updCore c fun y =>
          let y := { y with pc := epc, xstatus := restoredStatus c st, xsp := x.xsp + 16, xdepth := w32 (x.xdepth.toNat - 1)
                            predictor := List.replicate 256 0, returns := [] }
          if bit y.xstatus 0 then y else y.dropKeys

/-! ### Boundaries (R494, R533 to R535, R543, R745, R747) -/

/-- The core stands at an instruction boundary: no load outstanding, none between a load and its slot instruction, nothing waiting at
issue. -/
def CoreState.atBoundary (x : CoreState) : Bool := x.slot.isNone && x.load.isNone && x.wait.isNone

/-- A debug event: the core halts, or with MODE 1 enters vector 10; `why` 1 breakpoint, 2 step, 3 halt request. -/
def State.debugEvent (s : State) (c why : Nat) : State :=
  let x := s.core c
  let s := s.setCore c { x with haltReq := false, stepping := false }
  if bit x.dbgCtrl 0 then s.enter c 10 (causeWord false 0 why 10 0) 0 x.pc
  else s.updCore c fun y => { y with dbgStatus := w32 (1 + 2 * why) }

/-- What is due at a boundary before any interrupt, in order: a refused store's report, the end of the budget, a debug event (R534). -/
def State.boundary (s : State) (c : Nat) : State :=
  let x := s.core c
  if ¬ x.atBoundary ∨ x.locked ∨ x.inReset ∨ x.halted then s
  else
    let s := match x.report with
      | some r => (s.setCore c { x with report := none }).enter c r.vector (causeWord true r.lost r.sub r.vector 0) r.addr x.pc
      | none => s
    let y := s.core c
    let s :=
      if y.budgetDue ∧ ¬ y.locked then (s.setCore c { y with budgetDue := false }).enter c 11 (causeWord false 0 0 11 0) 0 y.pc else s
    let z := s.core c
    if z.locked then s
    else if z.stepping then s.debugEvent c 2
    else if z.haltReq then s.debugEvent c 3
    else s

/-! ### Issue (R477, R481, R483, R521, R533) -/

/-- The cores run: no device reset, no start failure, no tamper response. -/
def State.coresRun (s : State) : Bool := !s.pw.inReset && !s.pw.held && !s.tripped

/-- An interrupt is asked of core `c` that would be taken with IE at 1 (R533). -/
def State.irqDue (s : State) (c : Nat) : Option Nat := (s.irqOf c).filter fun l => decide ((s.core c).pri < l + 1)

/-- A breakpoint stands at the core's PC (R747). -/
def State.bkptHit (s : State) (c : Nat) : Bool :=
  debugOpen s.life && (s.core c).bkpt.any fun b => bit b 0 && (b &&& 0xFFFFFFFC) == (s.core c).pc

/-- The core can issue an instruction. -/
def State.coreReady (s : State) (c : Nat) : Bool :=
  let x := s.core c
  s.coresRun && !x.inReset && !x.locked && !x.halted && x.load.isNone && x.wait.isNone && (!x.wfe || (s.irqDue c).isSome || x.report.isSome)

/-- The SUB with which the fetch at the core's PC is refused, none when it is allowed. -/
def State.fetchDeny (s : State) (c : Nat) : Option Nat :=
  let x := s.core c
  if x.pc.toNat % 4 ≠ 0 then some 1
  else match s.route c x.pc with
    | .own a => if a < 0x40000 then (s.sluiceJudge 0 ⟨c, x.priv, .fetch, a, some c⟩).map (· + 0x10) else some 1
    | .fab a =>
      if 64 ≤ c ∧ (a < 0x40000 ∨ (0x10000000 ≤ a ∧ a < 0x10800000)) then
        (s.sluiceJudge (if a < 0x40000 then 0x20 else 0x21) ⟨c, x.priv, .fetch, a, none⟩).map (· + 0x10)
      else some 1
    | .deny _ => some 1

/-- The fetch at the core's PC is refused: a sluice's refusal is recorded, and vector 2 entered. -/
def State.fetchFault (s : State) (c sub : Nat) : State :=
  let x := s.core c
  let s :=
    if sub < 0x10 then s
    else match s.route c x.pc with
      | .own a => (s.sluiceRefused 0 ⟨c, x.priv, .fetch, a, some c⟩ (sub - 0x10) (vatAddr c a)).raiseLocal c 6
      | .fab a => s.sluiceRefused (if a < 0x40000 then 0x20 else 0x21) ⟨c, x.priv, .fetch, a, none⟩ (sub - 0x10) a
      | .deny _ => s
  s.trapTo c 2 sub x.pc

/-- The load whose slot instruction comes next has completed: its value is written. -/
def CoreState.slotDone (x : CoreState) : CoreState :=
  match x.slot with
  | some (g, v, t) => { (x.put g v t) with slot := none }
  | none => x

/-- At user level XBUDGET falls by the cycles an instruction takes: from 1 to its worst case (R521, R543). -/
def State.spendBudget (s : State) (c worst : Nat) : State :=
  let x := s.core c
  if x.priv ∨ x.xbudget = 0 then s
  else
    let n := 1 + (Config.freeWord s.freeCtr).toNat % worst
    let left := x.xbudget.toNat - n
    (s.setCore c { x with xbudget := w32 left, budgetDue := decide (left = 0) }).tookFree 1

/-- Core `c` issues an instruction that takes at most `worst` cycles, privileged if `priv`. `body` sees the registers as they were before
the load whose slot this is, and the state in which that load has completed (R492, R493, R495). Nothing takes place when the core cannot
issue; a refused fetch, a breakpoint and a privileged instruction at user level raise their exceptions. -/
def State.issue (s : State) (c : Nat) (priv : Bool) (worst : Nat) (body : CoreState → State → State) : State :=
  if ¬ s.coreReady c then s
  else
    let x := s.core c
    if s.bkptHit c ∧ x.slot.isNone ∧ ¬ x.stepping then s.debugEvent c 1
    else
      let step := x.stepping || (debugOpen s.life && bit x.dbgCtrl 1)
      let s := s.setCore c { x.slotDone with wfe := false, stepping := step }
      match s.fetchDeny c with
      | some sub => (s.fetchFault c sub).boundary c
      | none =>
        if priv ∧ ¬ x.priv then (s.trapTo c 1 0 0).boundary c
        else (body x (s.spendBudget c worst)).boundary c

/-- The instruction completes and the core goes on at `pc`. -/
def State.retire (s : State) (c : Nat) (pc : Word) : State := s.updCore c fun x => { x with pc := pc, retired := x.retired + 1 }

/-- An instruction that computes `f` of the registers into `gd`; `srcs` are the registers it reads. -/
def State.compute (s : State) (c worst : Nat) (gd : Gpr) (srcs : List Gpr) (f : CoreState → Word) : State :=
  s.issue c false worst fun x s => (s.updCore c fun y => y.put gd (f x) (srcs.any x.tainted)).retire c (x.pc + 4)

/-! ### Loads, stores and atomics (R479, R489, R514 to R518) -/

/-- A loaded value in its register. -/
def loaded (size : Size) (signed : Bool) (w : Word) : Word :=
  match size with
  | .byte => if signed then sext 8 w.toNat else w &&& 0xFF
  | .half => if signed then sext 16 w.toNat else w &&& 0xFFFF
  | .word => w

/-- The load has completed; its slot instruction comes next. -/
def State.loadDone (s : State) (c : Nat) (gd : Gpr) (v : Word) (taint : Bool) : State :=
  (s.updCore c fun x => { x with slot := some (gd, v, taint), load := none }).retire c ((s.core c).pc + 4)

/-- A load of core `c`: held back while it overlaps a buffered store in part (R515). -/
def State.doLoad (s : State) (c : Nat) (size : Size) (signed : Bool) (gd ga : Gpr) (imm : BitVec 16) : State :=
  let x := s.core c
  let a := x.rd ga + sext 16 imm.toNat
  let n := sizeBytes size
  let fab := s.fabOf c a
  let held := sbBytes x.sb fab n
  if ¬ sbAll held ∧ ¬ sbNone held then s
  else
    s.issue c false (if c < 64 ∧ a.toNat < 0x80000000 then 8 else 800) fun x s =>
      if a.toNat % n ≠ 0 then s.trapTo c 3 1 a
      else match s.route c a with
        | .deny d => s.denied c d a
        | .own k =>
          match s.localCheck c x.priv .load size k, sbAll held with
          | none, true => s.loadDone c gd (loaded size signed (w32 (leNat (held.map (·.getD 0))))) (decide (regionOf k = .window))
          | _, _ =>
            match s.localLoad c x.priv size k with
            | (.ok w, s) => s.loadDone c gd (loaded size signed w) (decide (regionOf k = .window))
            | (.error d, s) => s.denied c d a
        | .fab k =>
          if sbAll held then s.loadDone c gd (loaded size signed (w32 (leNat (held.map (·.getD 0))))) false
          else s.updCore c fun y => { y with load := some ⟨gd, size, signed, a, k, x.priv⟩ }

/-- A store of core `c`: it enters the store buffer when there is room. -/
def State.doStore (s : State) (c : Nat) (size : Size) (gs ga : Gpr) (imm : BitVec 16) : State :=
  if 8 ≤ (s.core c).sb.length then s
  else
    s.issue c false (if c < 64 ∧ ((s.core c).rd ga + sext 16 imm.toNat).toNat < 0x80000000 then 2 else 800) fun x s =>
      let a := x.rd ga + sext 16 imm.toNat
      let put (s : State) (fab : Nat) : State :=
        (s.updCore c fun y => { y with sb := y.sb ++ [⟨a, fab, size, x.rd gs, x.priv⟩] }).retire c (x.pc + 4)
      if a.toNat % sizeBytes size ≠ 0 then s.trapTo c 3 1 a
      else match s.route c a with
        | .deny d => s.denied c d a
        | .own k =>
          match s.localCheck c x.priv .store size k with
          | some d => (s.localDenied c x.priv .store k d).denied c d a
          | none => put s (vatAddr c k)
        | .fab k => put s k

/-- SWAP and CAS once the store buffer is empty: at tile SRAM at once, through an aperture when the data returns (`back`). `f` gives what
is stored for what was read. -/
def State.doAtomic (s : State) (c : Nat) (gd : Gpr) (a : Word) (taint back : Bool) (f : Word → Option Word) : State :=
  let x := s.core c
  let done (s : State) (old : Word) : State := (s.updCore c fun y => { (y.put gd old taint) with wait := none }).retire c (x.pc + 4)
  let fail (s : State) (d : Deny) : State := (s.updCore c fun y => { y with wait := none }).denied c d a
  if a.toNat % 4 ≠ 0 then fail s (3, 1)
  else match s.route c a with
    | .deny d => fail s d
    | .own k =>
      match s.localCheck c x.priv .atomic .word k with
      | some d => fail (s.localDenied c x.priv .atomic k d) d
      | none =>
        let old := w32 (leNat (s.read (vatAddr c k) 4))
        done (match f old with | some v => s.write (vatAddr c k) (leBytes 4 v.toNat) | none => s) old
    | .fab k =>
      if ¬ back then s
      else match s.busAtomic (coreSender c x.priv) k f with
        | (.ok old, s) => done s old
        | (.error d, s) => fail s d

/-- What waits at issue goes on, once the store buffer is empty. -/
def State.waitGo (s : State) (c : Nat) (back : Bool) : State :=
  let x := s.core c
  if x.sb ≠ [] then s
  else match x.wait with
    | none => s
    | some .fence | some .fencei => (s.setCore c { x with wait := none }).retire c (x.pc + 4)
    | some (.swap gd a d t) => s.doAtomic c gd a t back fun _ => some d
    | some (.cas gd a d e t) => s.doAtomic c gd a t back fun old => if old = e then some d else none

/-- FENCE, FENCEI, SWAP or CAS is issued: it waits for the store buffer to empty. -/
def State.doWait (s : State) (c : Nat) (priv : Bool) (worst : Nat) (w : CoreState → Waiting) : State :=
  s.issue c priv worst fun x s => (s.updCore c fun y => { y with wait := some (w x) }).waitGo c false

/-! ### Branches and jumps (R487, R488, R507, R511) -/

/-- A two-bit counter moved towards what the branch did. -/
def counterStep (n : Nat) (taken : Bool) : Nat := if taken then min 3 (n + 1) else n - 1

/-- A conditional branch retires: prediction, squash and predictor. -/
def State.branched (s : State) (c : Nat) (x : CoreState) (taken tainted : Bool) : State :=
  if tainted then s
  else
    let i := Config.predIndex x.pc % 256
    let n := x.predictor.getD i 0
    let guess := bit x.spec 2 && decide (2 ≤ n)
    let s := if guess = taken then s else s.squash c
    s.updCore c fun y => { y with predictor := y.predictor.set i (counterStep n taken) }

/-- A conditional branch. -/
def State.branch (s : State) (c : Nat) (ga gb : Gpr) (imm : BitVec 16) (f : Word → Word → Bool) : State :=
  s.issue c false 5 fun x s =>
    let taken := f (x.rd ga) (x.rd gb)
    (s.branched c x taken (x.tainted ga || x.tainted gb)).retire c (if taken then x.pc + sext 16 imm.toNat * 4 else x.pc + 4)

/-- The link register is written, and a return address pushed. -/
def State.link (s : State) (c : Nat) (gd : Gpr) (pc : Word) (taint : Bool) : State :=
  s.updCore c fun y => { (y.put gd (pc + 4) taint) with returns := if gd = 0 then y.returns else ((pc + 4) :: y.returns).take 4 }

/-- JR and JALR: a target that is not a multiple of 4 raises the alignment fault, and nothing changes. -/
def State.jump (s : State) (c : Nat) (gd : Option Gpr) (ga : Gpr) (imm : BitVec 16) : State :=
  s.issue c false 5 fun x s =>
    let t := x.rd ga + sext 16 imm.toNat
    if t.toNat % 4 ≠ 0 then s.trapTo c 3 2 t
    else
      let s := if x.tainted ga ∨ x.returns.head? = some t then s else s.squash c
      let s := match gd with
        | some g => s.link c g x.pc (x.tainted ga)
        | none => if x.tainted ga then s else s.updCore c fun y => { y with returns := y.returns.drop 1 }
      s.retire c t

/-! ### System registers (R496 to R500, R526, R747) -/

/-- Core cycles since the core's reset: 1.6 GHz in a vat, 1.2 GHz in a warden. -/
def State.cycles (s : State) (c : Nat) : Nat := if c < 64 then (s.now - (s.core c).since) * 8 / 5 else (s.now - (s.core c).since) * 6 / 5

/-- Number of apertures of core `c`. -/
def apertures (c : Nat) : Nat := if c < 64 then 8 else 16

/-- A read of system register `n`, none for an absent number; a low word latches its high word (R497). The debug extension's registers are
there for the test port only (`dbg`). -/
def State.sysRead (s : State) (c n : Nat) (dbg : Bool) : Option (Word × State) :=
  let x := s.core c
  let plain (w : Word) : Option (Word × State) := some (w, s)
  if 0x10 ≤ n ∧ n < 0x10 + apertures c then plain (x.aper.getD (n - 0x10) (0, 0)).1
  else if 0x20 ≤ n ∧ n < 0x20 + apertures c then plain (x.aper.getD (n - 0x20) (0, 0)).2
  else if 0x200 ≤ n then
    if ¬ dbg then none
    else if n = 0x200 then plain x.dbgCtrl
    else if n = 0x201 then plain x.dbgStatus
    else if 0x204 ≤ n ∧ n < 0x208 then plain (x.bkpt.getD (n - 0x204) 0)
    else none
  else match n with
    | 0x000 => plain (w32 (if c < 64 then c else 0x10000000 + (c - 64)))
    | 0x001 => plain (if c < 64 then 0xF else 0x1F)
    | 0x004 => some (w32 (s.cycles c), s.setCore c { x with cycleHi := w32 (s.cycles c / 2 ^ 32) })
    | 0x005 => plain x.cycleHi
    | 0x006 => some (w32 x.retired, s.setCore c { x with retiredHi := w32 (x.retired / 2 ^ 32) })
    | 0x007 => plain x.retiredHi
    | 0x008 => plain x.spec
    | 0x009 => plain x.squash
    | 0x00A => plain x.taint
    | 0x00B => plain (w32 (x.sb.length + 256 * b2n x.wait.isSome))
    | 0x100 => plain x.vbar
    | 0x101 => plain x.xstatus
    | 0x102 => plain x.xcause
    | 0x103 => plain x.xaddr
    | 0x104 => plain x.xepc
    | 0x105 => plain x.xsp
    | 0x106 => plain x.xsplim
    | 0x107 => plain x.xdepth
    | 0x108 => plain x.xscratch
    | 0x109 => plain x.xbudget
    | _ => none

/-- A write to a locked system register field: an entry of the core's own source, whose address the spec does not give (R12, R41). -/
def State.sysLocked (s : State) (c : Nat) : State :=
  let e := s.errEntry errLocked (coreSender c true) .store 0
  ((s.capture (if c < 64 then 0x40 + c else 0x25) { e with addr := Config.freeWord s.freeCtr })).tookFree 1

/-- XSTATUS written: PRI, at most 32, and IE. -/
def statusWrite (old w : Word) : Word := setField (setBit (setField old 13 8 (min 32 (field w 13 8))) 1 (bit w 1)) 7 2 0

/-- A write of system register `n`, none for an absent number or a read-only exception register (R526); other read-only registers ignore
it. -/
def State.sysWrite (s : State) (c n : Nat) (w : Word) (dbg : Bool) : Option State :=
  let x := s.core c
  let put (y : CoreState) : Option State := some (s.setCore c y)
  let aper (i : Nat) (v : Word × Word) : Option State :=
    let old := x.aper.getD i (0, 0)
    if bit old.2 1 then some (if v = old then s else s.sysLocked c) else put { x with aper := x.aper.set i v }
  if 0x10 ≤ n ∧ n < 0x10 + apertures c then aper (n - 0x10) (w &&& 0xFFFF, (x.aper.getD (n - 0x10) (0, 0)).2)
  else if 0x20 ≤ n ∧ n < 0x20 + apertures c then aper (n - 0x20) ((x.aper.getD (n - 0x20) (0, 0)).1, w &&& 3)
  else if 0x200 ≤ n then
    if ¬ dbg then none
    else if n = 0x200 then put { x with dbgCtrl := w &&& 3 }
    else if n = 0x201 then some s
    else if 0x204 ≤ n ∧ n < 0x208 then put { x with bkpt := x.bkpt.set (n - 0x204) (w &&& 0xFFFFFFFD) }
    else none
  else match n with
    | 0x000 | 0x001 | 0x004 | 0x005 | 0x006 | 0x007 | 0x009 | 0x00A | 0x00B => some s
    | 0x008 =>
      let v := w &&& 0x80000006
      if bit x.spec 31 then some (if v = x.spec then s else s.sysLocked c) else put { x with spec := v }
    | 0x100 => put { x with vbar := w &&& 0xFFFFFF01 }
    | 0x101 => put { x with xstatus := statusWrite x.xstatus w }
    | 0x105 => put { x with xsp := w &&& 0xFFFFFFF0 }
    | 0x106 => put { x with xsplim := w &&& 0xFFFFFFF0 }
    | 0x108 => put { x with xscratch := w }
    | 0x109 => put { x with xbudget := w }
    | _ => none

end Sys2Proof.Machine
end

