-- ==== Sys2Proof/Machine/AxDecode.lean ====
section
/-! DEFINITION. The AX32 instruction word (09_ax32.md): its fields, its decoding and encoding, and what the ALU group, the immediate operations and the
conditional branches compute. -/

namespace Sys2Proof.Machine

/-- The operations of the ALU group (R485). -/
inductive AluOp where
  | add | sub | and | or | xor | nor | slt | sltu | sll | srl | sra | ror | mul | mulh | mulhu | div | divu | rem | remu
  deriving DecidableEq, Repr

/-- The conditions of the conditional branches (R484). -/
inductive BranchOp where
  | eq | ne | lt | ge | ltu | geu
  deriving DecidableEq, Repr

/-- A decoded instruction. -/
inductive AxInstr where
  | alu (op : AluOp) (gd ga gb : Gpr)
  /-- An operation on a register and a constant. -/
  | aluImm (op : AluOp) (gd ga : Gpr) (v : Word)
  | lui (gd : Gpr) (imm : BitVec 16)
  | auipc (gd : Gpr) (imm : BitVec 16)
  | load (size : Size) (signed : Bool) (gd ga : Gpr) (imm : BitVec 16)
  | store (size : Size) (gs ga : Gpr) (imm : BitVec 16)
  | swap (gd ga gb : Gpr)
  | cas (gd ga gb : Gpr)
  | branch (op : BranchOp) (ga gb : Gpr) (imm : BitVec 16)
  | jal (gd : Gpr) (imm : BitVec 21)
  | jr (ga : Gpr) (imm : BitVec 16)
  | jalr (gd ga : Gpr) (imm : BitVec 16)
  | srr (gd : Gpr) (srn : BitVec 12)
  | srw (ga : Gpr) (srn : BitVec 12)
  | trap (n : BitVec 8)
  | xret | fence | fencei | wfe
  deriving DecidableEq, Repr

/-- The operation that FUNC assigns (R485). -/
def aluOf : Nat → Option AluOp
  | 0x00 => some .add | 0x01 => some .sub | 0x02 => some .and | 0x03 => some .or | 0x04 => some .xor | 0x05 => some .nor
  | 0x06 => some .slt | 0x07 => some .sltu | 0x08 => some .sll | 0x09 => some .srl | 0x0A => some .sra | 0x0B => some .ror
  | 0x10 => some .mul | 0x11 => some .mulh | 0x12 => some .mulhu
  | 0x14 => some .div | 0x15 => some .divu | 0x16 => some .rem | 0x17 => some .remu
  | _ => none

/-- A value sign-extended or zero-extended from 16 bits. -/
def sextImm (imm : BitVec 16) : Word := imm.signExtend 32
def zextImm (imm : BitVec 16) : Word := imm.zeroExtend 32

/-- A field of an instruction word as a register number. -/
def regField (w : Word) (lo : Nat) : Gpr := ⟨field w (lo + 4) lo % 32, Nat.mod_lt _ (by decide)⟩

/-- Decoding of an instruction word: none where R483 gives the illegal-instruction exception. -/
def axDecode (w : Word) : Option AxInstr :=
  let gd := regField w 21
  let ga := regField w 16
  let gb := regField w 11
  let imm : BitVec 16 := w.truncate 16
  let func := field w 10 6
  let low := field w 5 0
  match field w 31 26 with
  | 0x00 => if low = 0 then (aluOf func).map fun op => .alu op gd ga gb else none
  | 0x01 =>
    let srn : BitVec 12 := w.truncate 12
    match field w 15 12 with
    | 0x0 => if ga = 0 then some (.srr gd srn) else none
    | 0x1 => if gd = 0 then some (.srw ga srn) else none
    | 0x4 => if gd = 0 ∧ ga = 0 ∧ field w 11 8 = 0 then some (.trap (w.truncate 8)) else none
    | 0x5 => if gd = 0 ∧ ga = 0 ∧ srn = 0 then some .xret else none
    | 0x6 => if gd = 0 ∧ ga = 0 ∧ srn = 0 then some .fence else none
    | 0x7 => if gd = 0 ∧ ga = 0 ∧ srn = 0 then some .fencei else none
    | 0x8 => if gd = 0 ∧ ga = 0 ∧ srn = 0 then some .wfe else none
    | _ => none
  | 0x02 => some (.aluImm .add gd ga (sextImm imm))
  | 0x03 => some (.aluImm .and gd ga (zextImm imm))
  | 0x04 => some (.aluImm .or gd ga (zextImm imm))
  | 0x05 => some (.aluImm .xor gd ga (zextImm imm))
  | 0x06 => some (.aluImm .slt gd ga (sextImm imm))
  | 0x07 => some (.aluImm .sltu gd ga (sextImm imm))
  | 0x08 => if ga = 0 then some (.lui gd imm) else none
  | 0x09 =>
    if field w 15 7 ≠ 0 then none
    else
      let sh : Word := w32 (field w 4 0)
      match field w 6 5 with
      | 0 => some (.aluImm .sll gd ga sh)
      | 1 => some (.aluImm .srl gd ga sh)
      | 2 => some (.aluImm .sra gd ga sh)
      | _ => some (.aluImm .ror gd ga sh)
  | 0x0A => if ga = 0 then some (.auipc gd imm) else none
  | 0x10 => some (.load .byte true gd ga imm)
  | 0x11 => some (.load .byte false gd ga imm)
  | 0x12 => some (.load .half true gd ga imm)
  | 0x13 => some (.load .half false gd ga imm)
  | 0x14 => some (.load .word false gd ga imm)
  | 0x18 => some (.store .byte gd ga imm)
  | 0x19 => some (.store .half gd ga imm)
  | 0x1A => some (.store .word gd ga imm)
  | 0x1C => if func = 0 ∧ low = 0 then some (.swap gd ga gb) else none
  | 0x1D => if func = 0 ∧ low = 0 then some (.cas gd ga gb) else none
  | 0x20 => some (.branch .eq gd ga imm)
  | 0x21 => some (.branch .ne gd ga imm)
  | 0x22 => some (.branch .lt gd ga imm)
  | 0x23 => some (.branch .ge gd ga imm)
  | 0x24 => some (.branch .ltu gd ga imm)
  | 0x25 => some (.branch .geu gd ga imm)
  | 0x28 => some (.jal gd (w.truncate 21))
  | 0x2A => if gd = 0 then some (.jr ga imm) else none
  | 0x2B => some (.jalr gd ga imm)
  | _ => none

/-! ### Encoding (R482 to R485, R490) -/

/-- A word of format G. -/
def fmtG (op : Nat) (gd ga gb : Gpr) (func : Nat) : Word :=
  w32 (op * 2 ^ 26 + gd.val * 2 ^ 21 + ga.val * 2 ^ 16 + gb.val * 2 ^ 11 + func * 2 ^ 6)

/-- A word of format I or B: two registers and 16 bits. -/
def fmtI (op : Nat) (gd ga : Gpr) (imm : BitVec 16) : Word := w32 (op * 2 ^ 26 + gd.val * 2 ^ 21 + ga.val * 2 ^ 16 + imm.toNat)

/-- A word of the system group. -/
def fmtS (gd ga : Gpr) (fn : Nat) (srn : BitVec 12) : Word := w32 (2 ^ 26 + gd.val * 2 ^ 21 + ga.val * 2 ^ 16 + fn * 2 ^ 12 + srn.toNat)

/-- FUNC of an operation of the ALU group. -/
def AluOp.func : AluOp → Nat
  | .add => 0x00 | .sub => 0x01 | .and => 0x02 | .or => 0x03 | .xor => 0x04 | .nor => 0x05
  | .slt => 0x06 | .sltu => 0x07 | .sll => 0x08 | .srl => 0x09 | .sra => 0x0A | .ror => 0x0B
  | .mul => 0x10 | .mulh => 0x11 | .mulhu => 0x12
  | .div => 0x14 | .divu => 0x15 | .rem => 0x16 | .remu => 0x17

/-- Opcode of a conditional branch. -/
def BranchOp.opcode : BranchOp → Nat
  | .eq => 0x20 | .ne => 0x21 | .lt => 0x22 | .ge => 0x23 | .ltu => 0x24 | .geu => 0x25

/-- The word of an operation with a constant, none where no form of the instruction word carries that constant. -/
def encodeImm (op : AluOp) (gd ga : Gpr) (v : Word) : Option Word :=
  let imm : BitVec 16 := v.truncate 16
  let signed (code : Nat) : Option Word := if sextImm imm = v then some (fmtI code gd ga imm) else none
  let plain (code : Nat) : Option Word := if zextImm imm = v then some (fmtI code gd ga imm) else none
  let shift (k : Nat) : Option Word := if v.toNat < 32 then some (fmtI 0x09 gd ga (BitVec.ofNat 16 (k * 32 + v.toNat))) else none
  match op with
  | .add => signed 0x02
  | .and => plain 0x03
  | .or => plain 0x04
  | .xor => plain 0x05
  | .slt => signed 0x06
  | .sltu => signed 0x07
  | .sll => shift 0
  | .srl => shift 1
  | .sra => shift 2
  | .ror => shift 3
  | _ => none

/-- The word of an instruction. -/
def axEncode (i : AxInstr) : Option Word :=
  match i with
  | .alu op gd ga gb => some (fmtG 0 gd ga gb op.func)
  | .aluImm op gd ga v => encodeImm op gd ga v
  | .lui gd imm => some (fmtI 0x08 gd 0 imm)
  | .auipc gd imm => some (fmtI 0x0A gd 0 imm)
  | .load .byte true gd ga imm => some (fmtI 0x10 gd ga imm)
  | .load .byte false gd ga imm => some (fmtI 0x11 gd ga imm)
  | .load .half true gd ga imm => some (fmtI 0x12 gd ga imm)
  | .load .half false gd ga imm => some (fmtI 0x13 gd ga imm)
  | .load .word false gd ga imm => some (fmtI 0x14 gd ga imm)
  | .load .word true _ _ _ => none
  | .store .byte gs ga imm => some (fmtI 0x18 gs ga imm)
  | .store .half gs ga imm => some (fmtI 0x19 gs ga imm)
  | .store .word gs ga imm => some (fmtI 0x1A gs ga imm)
  | .swap gd ga gb => some (fmtG 0x1C gd ga gb 0)
  | .cas gd ga gb => some (fmtG 0x1D gd ga gb 0)
  | .branch op ga gb imm => some (fmtI op.opcode ga gb imm)
  | .jal gd off => some (w32 (0x28 * 2 ^ 26 + gd.val * 2 ^ 21 + off.toNat))
  | .jr ga imm => some (fmtI 0x2A 0 ga imm)
  | .jalr gd ga imm => some (fmtI 0x2B gd ga imm)
  | .srr gd srn => some (fmtS gd 0 0x0 srn)
  | .srw ga srn => some (fmtS 0 ga 0x1 srn)
  | .trap n => some (fmtS 0 0 0x4 (n.zeroExtend 12))
  | .xret => some (fmtS 0 0 0x5 0)
  | .fence => some (fmtS 0 0 0x6 0)
  | .fencei => some (fmtS 0 0 0x7 0)
  | .wfe => some (fmtS 0 0 0x8 0)

/-- What the ALU group computes (R485, R486). -/
def AluOp.eval (op : AluOp) (a b : Word) : Word :=
  let sh := b.toNat % 32
  match op with
  | .add => a + b
  | .sub => a - b
  | .and => a &&& b
  | .or => a ||| b
  | .xor => a ^^^ b
  | .nor => ~~~(a ||| b)
  | .slt => if a.toInt < b.toInt then 1 else 0
  | .sltu => if a.toNat < b.toNat then 1 else 0
  | .sll => a <<< sh
  | .srl => a >>> sh
  | .sra => a.sshiftRight sh
  | .ror => a.rotateRight sh
  | .mul => a * b
  | .mulh => BitVec.ofInt 32 (a.toInt * b.toInt / 2 ^ 32)
  | .mulhu => w32 (a.toNat * b.toNat / 2 ^ 32)
  | .div => if b = 0 then 0xFFFFFFFF else BitVec.ofInt 32 (a.toInt.tdiv b.toInt)
  | .divu => if b = 0 then 0xFFFFFFFF else w32 (a.toNat / b.toNat)
  | .rem => if b = 0 then a else BitVec.ofInt 32 (a.toInt.tmod b.toInt)
  | .remu => if b = 0 then a else w32 (a.toNat % b.toNat)

/-- Greatest cost of an operation in core cycles (R521). -/
def AluOp.cost : AluOp → Nat
  | .mul | .mulh | .mulhu => 3
  | .div | .divu | .rem | .remu => 34
  | _ => 1

/-- Whether a branch is taken (R484). -/
def BranchOp.eval (op : BranchOp) (a b : Word) : Bool :=
  match op with
  | .eq => a == b
  | .ne => a != b
  | .lt => decide (a.toInt < b.toInt)
  | .ge => decide (b.toInt ≤ a.toInt)
  | .ltu => decide (a.toNat < b.toNat)
  | .geu => decide (b.toNat ≤ a.toNat)

end Sys2Proof.Machine
end

