-- ==== Sys2Proof/Machine/Ax32Rows.lean ====
section
/-! DEFINITION. The AX32 rows: its instructions, and the events at a core (09_ax32.md, 10_exceptions_sluices.md). -/

namespace Sys2Proof.Machine

/-! ### Instructions of the system group -/

/-- SRR (R490, R496, R497): CORE_ID alone is readable at user level; an absent number is illegal at either level. -/
def State.srr (s : State) (c : Nat) (gd : Gpr) (n : Nat) : State :=
  s.issue c (decide (n ≠ 0) && (s.sysRead c n false).isSome) 4 fun x s =>
    match s.sysRead c n false with
    | none => s.trapTo c 0 0 0
    | some r => (r.2.updCore c fun y => y.put gd r.1 false).retire c (x.pc + 4)

/-- SRW (R490, R496, R526). -/
def State.srw (s : State) (c : Nat) (ga : Gpr) (n : Nat) : State :=
  s.issue c (s.sysWrite c n 0 false).isSome 4 fun x s =>
    match s.sysWrite c n (x.rd ga) false with
    | none => s.trapTo c 0 0 0
    | some t => t.retire c (x.pc + 4)

/-- TRAP n: vector 8 with n in XCAUSE.N (R490). -/
def State.trapInstr (s : State) (c n : Nat) : State := s.issue c false 6 fun _ s => s.trapTo c 8 0 0 n

/-- XRET (R532). -/
def State.xretInstr (s : State) (c : Nat) : State :=
  s.issue c true 6 fun _ s => (s.xret c).updCore c fun y => if y.locked then y else { y with retired := y.retired + 1 }

/-- WFE (R490, R533): issue stops until an interrupt is pending. -/
def State.wfeInstr (s : State) (c : Nat) : State := s.issue c true 1 fun x s => (s.retire c (x.pc + 4)).updCore c fun y => { y with wfe := true }

/-- JAL (R484, R487). -/
def State.jal (s : State) (c : Nat) (gd : Gpr) (off : BitVec 21) : State :=
  s.issue c false 2 fun x s => (s.link c gd x.pc false).retire c (x.pc + off.signExtend 32 * 4)

/-- SWAP and CAS wait for the store buffer to empty (R489, R517). -/
def State.swapInstr (s : State) (c : Nat) (gd ga gb : Gpr) : State :=
  s.doWait c false 804 fun x => .swap gd (x.rd ga) (x.rd gb) (x.tainted ga || x.tainted gb)
def State.casInstr (s : State) (c : Nat) (gd ga gb : Gpr) : State :=
  s.doWait c false 804 fun x => .cas gd (x.rd ga) (x.rd gb) (x.rd gd) (x.tainted ga || x.tainted gb || x.tainted gd)

/-- Core `c` issues instruction `i` (R484, R485, R490). -/
def State.ax (s : State) (c : Nat) (i : AxInstr) : State :=
  match i with
  | .alu op gd ga gb => s.compute c op.cost gd [ga, gb] fun x => op.eval (x.rd ga) (x.rd gb)
  | .aluImm op gd ga v => s.compute c op.cost gd [ga] fun x => op.eval (x.rd ga) v
  | .lui gd imm => s.compute c 1 gd [] fun _ => imm.zeroExtend 32 <<< 16
  | .auipc gd imm => s.compute c 1 gd [] fun x => x.pc + (imm.zeroExtend 32 <<< 16)
  | .load size signed gd ga imm => s.doLoad c size signed gd ga imm
  | .store size gs ga imm => s.doStore c size gs ga imm
  | .swap gd ga gb => s.swapInstr c gd ga gb
  | .cas gd ga gb => s.casInstr c gd ga gb
  | .branch op ga gb imm => s.branch c ga gb imm op.eval
  | .jal gd off => s.jal c gd off
  | .jr ga imm => s.jump c none ga imm
  | .jalr gd ga imm => s.jump c (some gd) ga imm
  | .srr gd n => s.srr c gd n.toNat
  | .srw ga n => s.srw c ga n.toNat
  | .trap n => s.trapInstr c n.toNat
  | .xret => s.xretInstr c
  | .fence => s.doWait c false 4 fun _ => .fence
  | .fencei => s.doWait c true 8 fun _ => .fencei
  | .wfe => s.wfeInstr c

/-! ### The ALU group (R485, R486) -/

def execAdd (c : Core) (gd ga gb : Gpr) (s : State) : Res := .next (s.ax c (.alu .add gd ga gb))
def execSub (c : Core) (gd ga gb : Gpr) (s : State) : Res := .next (s.ax c (.alu .sub gd ga gb))
def execAndR (c : Core) (gd ga gb : Gpr) (s : State) : Res := .next (s.ax c (.alu .and gd ga gb))
def execOrR (c : Core) (gd ga gb : Gpr) (s : State) : Res := .next (s.ax c (.alu .or gd ga gb))
def execXorR (c : Core) (gd ga gb : Gpr) (s : State) : Res := .next (s.ax c (.alu .xor gd ga gb))
def execNor (c : Core) (gd ga gb : Gpr) (s : State) : Res := .next (s.ax c (.alu .nor gd ga gb))
def execSlt (c : Core) (gd ga gb : Gpr) (s : State) : Res := .next (s.ax c (.alu .slt gd ga gb))
def execSltu (c : Core) (gd ga gb : Gpr) (s : State) : Res := .next (s.ax c (.alu .sltu gd ga gb))
def execSll (c : Core) (gd ga gb : Gpr) (s : State) : Res := .next (s.ax c (.alu .sll gd ga gb))
def execSrl (c : Core) (gd ga gb : Gpr) (s : State) : Res := .next (s.ax c (.alu .srl gd ga gb))
def execSra (c : Core) (gd ga gb : Gpr) (s : State) : Res := .next (s.ax c (.alu .sra gd ga gb))
def execRor (c : Core) (gd ga gb : Gpr) (s : State) : Res := .next (s.ax c (.alu .ror gd ga gb))
def execMul (c : Core) (gd ga gb : Gpr) (s : State) : Res := .next (s.ax c (.alu .mul gd ga gb))
def execMulh (c : Core) (gd ga gb : Gpr) (s : State) : Res := .next (s.ax c (.alu .mulh gd ga gb))
def execMulhu (c : Core) (gd ga gb : Gpr) (s : State) : Res := .next (s.ax c (.alu .mulhu gd ga gb))
def execDiv (c : Core) (gd ga gb : Gpr) (s : State) : Res := .next (s.ax c (.alu .div gd ga gb))
def execDivu (c : Core) (gd ga gb : Gpr) (s : State) : Res := .next (s.ax c (.alu .divu gd ga gb))
def execRem (c : Core) (gd ga gb : Gpr) (s : State) : Res := .next (s.ax c (.alu .rem gd ga gb))
def execRemu (c : Core) (gd ga gb : Gpr) (s : State) : Res := .next (s.ax c (.alu .remu gd ga gb))

/-! ### Immediate operations (R484): sign-extended for ADDI, SLTI and SLTIU, zero-extended for ANDI, ORI and XORI -/

def execAddi (c : Core) (gd ga : Gpr) (imm : BitVec 16) (s : State) : Res := .next (s.ax c (.aluImm .add gd ga (sextImm imm)))
def execAndi (c : Core) (gd ga : Gpr) (imm : BitVec 16) (s : State) : Res := .next (s.ax c (.aluImm .and gd ga (zextImm imm)))
def execOri (c : Core) (gd ga : Gpr) (imm : BitVec 16) (s : State) : Res := .next (s.ax c (.aluImm .or gd ga (zextImm imm)))
def execXori (c : Core) (gd ga : Gpr) (imm : BitVec 16) (s : State) : Res := .next (s.ax c (.aluImm .xor gd ga (zextImm imm)))
def execSlti (c : Core) (gd ga : Gpr) (imm : BitVec 16) (s : State) : Res := .next (s.ax c (.aluImm .slt gd ga (sextImm imm)))
def execSltiu (c : Core) (gd ga : Gpr) (imm : BitVec 16) (s : State) : Res := .next (s.ax c (.aluImm .sltu gd ga (sextImm imm)))
def execLui (c : Core) (gd : Gpr) (imm : BitVec 16) (s : State) : Res := .next (s.ax c (.lui gd imm))
def execAuipc (c : Core) (gd : Gpr) (imm : BitVec 16) (s : State) : Res := .next (s.ax c (.auipc gd imm))
def execSlli (c : Core) (gd ga : Gpr) (sh : BitVec 5) (s : State) : Res := .next (s.ax c (.aluImm .sll gd ga (sh.zeroExtend 32)))
def execSrli (c : Core) (gd ga : Gpr) (sh : BitVec 5) (s : State) : Res := .next (s.ax c (.aluImm .srl gd ga (sh.zeroExtend 32)))
def execSrai (c : Core) (gd ga : Gpr) (sh : BitVec 5) (s : State) : Res := .next (s.ax c (.aluImm .sra gd ga (sh.zeroExtend 32)))
def execRori (c : Core) (gd ga : Gpr) (sh : BitVec 5) (s : State) : Res := .next (s.ax c (.aluImm .ror gd ga (sh.zeroExtend 32)))

/-! ### Loads, stores and atomics (R479, R484, R489) -/

def execLb (c : Core) (gd ga : Gpr) (imm : BitVec 16) (s : State) : Res := .next (s.ax c (.load .byte true gd ga imm))
def execLbu (c : Core) (gd ga : Gpr) (imm : BitVec 16) (s : State) : Res := .next (s.ax c (.load .byte false gd ga imm))
def execLh (c : Core) (gd ga : Gpr) (imm : BitVec 16) (s : State) : Res := .next (s.ax c (.load .half true gd ga imm))
def execLhu (c : Core) (gd ga : Gpr) (imm : BitVec 16) (s : State) : Res := .next (s.ax c (.load .half false gd ga imm))
def execLw (c : Core) (gd ga : Gpr) (imm : BitVec 16) (s : State) : Res := .next (s.ax c (.load .word false gd ga imm))
def execSb (c : Core) (gs ga : Gpr) (imm : BitVec 16) (s : State) : Res := .next (s.ax c (.store .byte gs ga imm))
def execSh (c : Core) (gs ga : Gpr) (imm : BitVec 16) (s : State) : Res := .next (s.ax c (.store .half gs ga imm))
def execSw (c : Core) (gs ga : Gpr) (imm : BitVec 16) (s : State) : Res := .next (s.ax c (.store .word gs ga imm))
def execSwap (c : Core) (gd ga gb : Gpr) (s : State) : Res := .next (s.ax c (.swap gd ga gb))
def execCas (c : Core) (gd ga gb : Gpr) (s : State) : Res := .next (s.ax c (.cas gd ga gb))

/-! ### Branches and jumps (R484, R487, R488) -/

def execBeq (c : Core) (ga gb : Gpr) (imm : BitVec 16) (s : State) : Res := .next (s.ax c (.branch .eq ga gb imm))
def execBne (c : Core) (ga gb : Gpr) (imm : BitVec 16) (s : State) : Res := .next (s.ax c (.branch .ne ga gb imm))
def execBlt (c : Core) (ga gb : Gpr) (imm : BitVec 16) (s : State) : Res := .next (s.ax c (.branch .lt ga gb imm))
def execBge (c : Core) (ga gb : Gpr) (imm : BitVec 16) (s : State) : Res := .next (s.ax c (.branch .ge ga gb imm))
def execBltu (c : Core) (ga gb : Gpr) (imm : BitVec 16) (s : State) : Res := .next (s.ax c (.branch .ltu ga gb imm))
def execBgeu (c : Core) (ga gb : Gpr) (imm : BitVec 16) (s : State) : Res := .next (s.ax c (.branch .geu ga gb imm))
def execJal (c : Core) (gd : Gpr) (imm : BitVec 21) (s : State) : Res := .next (s.ax c (.jal gd imm))
def execJr (c : Core) (ga : Gpr) (imm : BitVec 16) (s : State) : Res := .next (s.ax c (.jr ga imm))
def execJalr (c : Core) (gd ga : Gpr) (imm : BitVec 16) (s : State) : Res := .next (s.ax c (.jalr gd ga imm))

/-! ### The system group (R490) -/

def execSrr (c : Core) (gd : Gpr) (srn : BitVec 12) (s : State) : Res := .next (s.ax c (.srr gd srn))
def execSrw (c : Core) (ga : Gpr) (srn : BitVec 12) (s : State) : Res := .next (s.ax c (.srw ga srn))
def execTrap (c : Core) (n : BitVec 8) (s : State) : Res := .next (s.ax c (.trap n))
def execXret (c : Core) (s : State) : Res := .next (s.ax c .xret)
def execFence (c : Core) (s : State) : Res := .next (s.ax c .fence)
def execFencei (c : Core) (s : State) : Res := .next (s.ax c .fencei)
def execWfe (c : Core) (s : State) : Res := .next (s.ax c .wfe)

/-! ### Events at a core (R481, R483, R492, R513 to R516, R524, R533 to R535, R543) -/

/-- The atomic that waits for its answer through an aperture: the store buffer is empty. -/
def CoreState.atomicOut (x : CoreState) : Bool :=
  x.sb.isEmpty && (match x.wait with | some (.swap ..) | some (.cas ..) => true | _ => false)

/-- LOAD_RESPONSE: the target answers the outstanding aperture load, or the aperture atomic that waits (R492, R517). -/
def State.loadResponse (s : State) (c : Nat) : State :=
  let x := s.core c
  if ¬ s.coresRun ∨ x.inReset ∨ x.locked then s
  else match x.load with
    | some o =>
      match s.busLoad (coreSender c o.priv) o.size o.fab with
      | (.ok w, s) => (s.loadDone c o.gd (loaded o.size o.signed w) false).boundary c
      | (.error d, s) => ((s.updCore c fun y => { y with load := none }).denied c d o.addr).boundary c
    | none => if x.atomicOut then (s.waitGo c true).boundary c else s

def execLoadResponse (c : Core) (s : State) : Res := .next (s.loadResponse c)

/-- STORE_ACKNOWLEDGED: buffered store `i` is performed at its target, which performs a core's stores to it in program order (R513). A
locked-up core still drains its buffer (R537). -/
def State.storeAcked (s : State) (c i : Nat) : State :=
  let x := s.core c
  if ¬ s.coresRun ∨ x.inReset then s
  else match x.sb[i]? with
    | none => s
    | some e =>
      if (x.sb.take i).any (fun o => targetKey o.fab == targetKey e.fab) ∨ (s.storeCheck c e).isSome then s
      else (((s.storePerform c e).updCore c fun y => { y with sb := y.sb.eraseIdx i }).waitGo c false).boundary c

def execStoreAcknowledged (c : Core) (n : Fin 8) (s : State) : Res := .next (s.storeAcked c n)

/-- The oldest store is not performed: the younger ones are discarded, and the core reports it at its next boundary (R535). -/
def State.storeLost (s : State) (c : Nat) (e : StoreEntry) (d : Deny) : State :=
  ((s.updCore c fun y => { y with report := some ⟨d.1, d.2, e.addr, y.sb.length - 1⟩, sb := [] }).waitGo c false).boundary c

/-- REFUSED_STORE: the oldest buffered store is one that its target refuses. -/
def State.refusedStore (s : State) (c : Nat) : State :=
  let x := s.core c
  if ¬ s.coresRun ∨ x.inReset then s
  else match x.sb with
    | [] => s
    | e :: _ =>
      match s.storeCheck c e with
      | none => s
      | some d => (s.busDenied (coreSender c e.priv) .store e.fab d).storeLost c e d

def execRefusedStore (c : Core) (s : State) : Res := .next (s.refusedStore c)

/-- FELT_TIMEOUT: the access to `addr` that the core has on the felt gets no response within 4,000 ns. -/
def State.feltTimeout (s : State) (c : Nat) (addr : Word) : State :=
  let x := s.core c
  if ¬ s.coresRun ∨ x.inReset then s
  else match x.load with
    | some o =>
      if o.addr = addr ∧ ¬ x.locked then
        (((s.errAt errTimeout (coreSender c o.priv) .load o.fab).updCore c fun y => { y with load := none }).denied c (9, 0) addr).boundary c
      else s
    | none =>
      match x.sb with
      | e :: _ =>
        if e.addr = addr ∧ ¬ e.own c then (s.errAt errTimeout (coreSender c e.priv) .store e.fab).storeLost c e (9, 0) else s
      | [] =>
        match x.wait with
        | some (.swap _ a _ _) | some (.cas _ a _ _ _) =>
          if a = addr ∧ ¬ x.locked then
            (((s.errAt errTimeout (coreSender c x.priv) .atomic (s.fabOf c a)).updCore c fun y => { y with wait := none }).denied c (9, 0)
              addr).boundary c
          else s
        | _ => s

def execFeltTimeout (c : Core) (addr : Word) (s : State) : Res := .next (s.feltTimeout c addr)

/-- INTERRUPT_ENTRY: at a boundary with IE 1 the core takes the highest pending level above its priority (R533). A breakpoint at the
boundary comes first (R534). -/
def State.interruptEntry (s : State) (c : Nat) : State :=
  let x := s.core c
  if ¬ s.coreReady c ∨ ¬ x.atBoundary ∨ ¬ x.ie ∨ s.bkptHit c then s
  else match s.irqDue c with
    | some l => (s.enter c (32 + l) (causeWord false 0 0 (32 + l) 0) 0 x.pc (some (l + 1))).boundary c
    | none => s

def execInterruptEntry (c : Core) (s : State) : Res := .next (s.interruptEntry c)

/-- BUDGET_EXPIRY: cycles at user level use up XBUDGET (R543). -/
def State.budgetExpiry (s : State) (c : Nat) : State :=
  let x := s.core c
  if ¬ s.coresRun ∨ x.inReset ∨ x.locked ∨ x.halted ∨ x.priv ∨ x.xbudget = 0 then s
  else (s.setCore c { x with xbudget := 0, budgetDue := true }).boundary c

def execBudgetExpiry (c : Core) (s : State) : Res := .next (s.budgetExpiry c)

/-- ILLEGAL_INSTRUCTION: a word that R483 does not assign is issued. -/
def State.illegal (s : State) (c : Nat) (w : Word) : State :=
  match axDecode w with
  | some _ => s
  | none => s.issue c false 1 fun _ s => s.trapTo c 0 0 0

def execIllegalInstruction (c : Core) (w : Word) (s : State) : Res := .next (s.illegal c w)

/-- INSTRUCTION_FETCH_FAULT: the next fetch is refused (R481, R524). -/
def State.fetchRefused (s : State) (c : Nat) : State :=
  if (s.fetchDeny c).isSome then s.issue c false 1 fun _ s => s else s

def execInstructionFetchFault (c : Core) (s : State) : Res := .next (s.fetchRefused c)

end Sys2Proof.Machine
end

