-- ==== Sys2Proof/Machine/Debug.lean ====
section
/-! DEFINITION. The debug extension and the commands of DBG_DATA (R745 to R747). A command takes place only while the test port's
instruction is DBG_DATA in a state that offers it; what Capture-DR then shows leaves at the test port. -/

namespace Sys2Proof.Machine

/-- The core or pair that DBG_SEL names, if there is one. -/
def State.dbgCore (s : State) : Option Nat :=
  let n := s.lf.dbgSel % 128
  if 128 ≤ s.lf.dbgSel then (if n < 2 then some (64 + n) else none) else if n < 64 then some n else none

/-- DBG_DATA is selected and offered. -/
def State.dbgOn (s : State) : Bool := s.lf.tapIr == 0x31 && tapOffered 0x31 s.life

/-- The report of a command: its code (R746), and its data. -/
def State.dbgShow (s : State) (code : Nat) (w : Word) : State :=
  (s.mapLf fun l => { l with dbgCode := code, dbgData := w }).emit .testPort (leBytes 6 (code * 2 ^ 32 + w.toNat))

/-- A command on the selected core. -/
def State.dbgDo (s : State) (f : Nat → State → State) : State :=
  if ¬ s.dbgOn then s else match s.dbgCore with | some c => f c s | none => s

/-- A command that only a halted core takes: code 1 when it is not. -/
def State.dbgHalted (s : State) (f : Nat → State → State) : State :=
  s.dbgDo fun c s => if (s.core c).halted then f c s else s.dbgShow 1 0

/-- DEBUG_HALT: the core halts at its next boundary, before a load or after its slot instruction (R494). -/
def execDebugHalt (s : State) : Res :=
  .next <| s.dbgDo fun c s =>
    if (s.core c).halted then s.dbgShow 0 0 else ((s.updCore c fun x => { x with haltReq := true }).boundary c).dbgShow 0 0

/-- DEBUG_RESUME. -/
def execDebugResume (s : State) : Res :=
  .next <| s.dbgHalted fun c s => ((s.updCore c fun x => { x with dbgStatus := x.dbgStatus &&& 6 }).boundary c).dbgShow 0 0

/-- The word that the core fetches at its PC. -/
def State.fetchWord (s : State) (c : Nat) : Word :=
  match s.route c (s.core c).pc with
  | .own a => w32 (leNat (s.read (vatAddr c a) 4))
  | .fab a => w32 (leNat (s.read a 4))
  | .deny _ => 0

/-- The core executes the instruction at its PC. -/
def State.fetchRun (s : State) (c : Nat) : State :=
  if (s.fetchDeny c).isSome then s.fetchRefused c
  else match axDecode (s.fetchWord c) with
    | some i => s.ax c i
    | none => s.illegal c (s.fetchWord c)

/-- DEBUG_STEP: one instruction, or a load with its slot instruction, then the debug event. -/
def execDebugStep (s : State) : Res :=
  .next <| s.dbgHalted fun c s =>
    let s := (s.updCore c fun x => { x with dbgStatus := x.dbgStatus &&& 6, stepping := true }).fetchRun c
    (if (s.core c).slot.isSome then s.fetchRun c else s).dbgShow 0 0

/-- DEBUG_READ_REGISTER: register 32 is PC. -/
def execDebugReadRegister (n : BitVec 12) (s : State) : Res :=
  .next <| s.dbgHalted fun c s =>
    if h : n.toNat < 32 then s.dbgShow 0 ((s.core c).rd ⟨n.toNat, h⟩)
    else if n.toNat = 32 then s.dbgShow 0 (s.core c).pc
    else s.dbgShow 2 0

/-- DEBUG_WRITE_REGISTER. -/
def execDebugWriteRegister (n : BitVec 12) (v : Word) (s : State) : Res :=
  .next <| s.dbgHalted fun c s =>
    if h : n.toNat < 32 then (s.updCore c fun x => x.put ⟨n.toNat, h⟩ v false).dbgShow 0 0
    else if n.toNat = 32 then (s.updCore c fun x => { x with pc := v }).dbgShow 0 0
    else s.dbgShow 2 0

/-- DEBUG_READ_SYSTEM_REGISTER. -/
def execDebugReadSystemRegister (n : BitVec 12) (s : State) : Res :=
  .next <| s.dbgHalted fun c s => match s.sysRead c n.toNat true with | some r => r.2.dbgShow 0 r.1 | none => s.dbgShow 2 0

/-- DEBUG_WRITE_SYSTEM_REGISTER: under the register's access type and locks. -/
def execDebugWriteSystemRegister (n : BitVec 12) (v : Word) (s : State) : Res :=
  .next <| s.dbgHalted fun c s => match s.sysWrite c n.toNat v true with | some t => t.dbgShow 0 0 | none => s.dbgShow 2 0

/-- DEBUG_SET_ADDRESS. -/
def execDebugSetAddress (a : Word) (s : State) : Res :=
  .next <| s.dbgDo fun _ s => (s.mapLf fun l => { l with dbgAddr := a }).dbgShow 0 0

/-- What the debug path never reaches: a key window, a PKE, a symmetric engine, a DRBG unit, the deep store window (R746). -/
def dbgBarred (fab : Nat) : Bool :=
  match targetOf fab with
  | .deep => true
  | .vat _ off => decide (0x100000 ≤ off) && decide (off < 0x500000)
  | _ => false

/-- The report of a refused access. -/
def dbgCodeOf (d : Deny) : Nat := if d.1 = 7 then 3 else 2

/-- DEBUG_LOAD: a word as the halted core would load it at privileged level, a store still in its buffer included (R515). -/
def execDebugLoad (s : State) : Res :=
  .next <| s.dbgHalted fun c s =>
    let a := s.lf.dbgAddr
    let held := sbBytes (s.core c).sb (s.fabOf c a) 4
    if dbgBarred (s.fabOf c a) ∨ a.toNat % 4 ≠ 0 then s.dbgShow 2 0
    else if sbAll held then s.dbgShow 0 (w32 (leNat (held.map (·.getD 0))))
    else if ¬ sbNone held then s
    else match s.coreLoad c true .word a with
      | (.ok w, s) => s.dbgShow 0 w
      | (.error d, s) => s.dbgShow (dbgCodeOf d) 0

/-- DEBUG_STORE: a word stored at the same address. -/
def execDebugStore (v : Word) (s : State) : Res :=
  .next <| s.dbgHalted fun c s =>
    let a := s.lf.dbgAddr
    if dbgBarred (s.fabOf c a) ∨ a.toNat % 4 ≠ 0 then s.dbgShow 2 0
    else match s.coreStore c true .word a v with
      | (none, s) => s.dbgShow 0 0
      | (some d, s) => s.dbgShow (dbgCodeOf d) 0

/-- DEBUG_BREAKPOINT: a breakpoint stands at the PC of a core at a boundary (R534, R747). -/
def execDebugBreakpoint (c : Core) (s : State) : Res :=
  .next <| if s.coreReady c.val ∧ (s.core c.val).atBoundary ∧ s.bkptHit c.val then s.debugEvent c.val 1 else s

end Sys2Proof.Machine
end

