-- ==== Sys2Proof/Machine/UserVerb.lean ====
section
/-! DEFINITION. USER_VERB (R441 to R447, R541 to R546): a deckle's own program, run at user level on its vat with the areas that vat firmware
gives it, and the services it asks for through TRAP. -/

namespace Sys2Proof.Machine

/-- An area of a job (R542): where the program sees it, where it lies, its length, and whether user level may store in it or fetch from
it; user level may load from all of them. -/
structure UserArea where
  base  : Nat
  fab   : Nat
  len   : Nat
  write : Bool
  exec  : Bool
  deriving DecidableEq, Repr

/-- A job's program as it runs: its registers, its areas, the core cycles it has taken, and those it may take in each beat. -/
structure UserRun where
  x     : CoreState
  areas : List UserArea
  spent : Nat
  share : Nat
  deriving DecidableEq, Repr

/-- How a program stands: it goes on; it has reached DONE; it has faulted, with XCAUSE, XADDR and EPC; a draw found the vat instance in its
error state. -/
inductive UserEnd where
  | on
  | done
  | fault (cause addr epc : Word)
  | noRandom
  deriving DecidableEq, Repr

/-- The area that holds the `n` bytes from `a`. -/
def UserRun.area (u : UserRun) (a n : Nat) : Option UserArea := u.areas.find? fun r => decide (r.base ≤ a) && decide (a + n ≤ r.base + r.len)

/-- The address on the felt of address `a` of the program, and whether each of `n` bytes lies in an area that admits the access. -/
def UserArea.at_ (r : UserArea) (a : Nat) : Nat := r.fab + (a - r.base)
def UserRun.span (u : UserRun) (write : Bool) (a n : Nat) : Bool :=
  decide (a + n ≤ 2 ^ 32) && (List.range n).all fun i => match u.area (a + i) 1 with | some r => r.write || !write | none => false

/-- Bytes that a service reads from the program's areas, and writes there. -/
def State.userRead (s : State) (u : UserRun) (a n : Nat) : Bytes :=
  (List.range n).map fun i => match u.area (a + i) 1 with | some r => s.byte (r.at_ (a + i)) | none => 0
def State.userWrite (s : State) (u : UserRun) (a : Nat) (b : Bytes) : State :=
  (b.zipIdx).foldl (fun s p => match u.area (a + p.2) 1 with | some r => s.setByte (r.at_ (a + p.2)) p.1 | none => s) s

/-- The program ends with the exception of vector `v`. -/
def UserRun.fault (u : UserRun) (v sub : Nat) (addr : Word) (n : Nat := 0) (store : Bool := false) : UserEnd :=
  .fault (causeWord store 0 sub v n) addr u.x.pc

/-- The program goes on after its instruction, with registers `x`. -/
def UserRun.goto (u : UserRun) (x : CoreState) (pc : Word) : UserRun := { u with x := { x with pc := pc } }

/-! ### Services (R544 to R546) -/

/-- KEY_A is an AES key of the usage and modes that a service asks for; a job whose record has KEYED 0 has none. -/
def userKey (k : Option KeyRec) (usage : Nat) (modes : List Nat) : Option Bytes :=
  match k with
  | some r => if r.usage = usage ∧ ktAes r.ktype ∧ (modes.isEmpty ∨ modes.contains r.mode) then some r.key else none
  | none => none

/-- Costs of the services in core cycles. -/
def svcCost (n len : Nat) : Nat :=
  match n with
  | 0 => 20
  | 1 => 60 + 2 * len
  | 2 | 3 => 140
  | 4 => 140 + 12 * max 1 (ceilDiv len 16)
  | 5 => 120 + 90 * ((len + 8) / 64 + 1)
  | _ => 30

/-- TRAP n from the program: its addresses and lengths are checked as its own accesses would be. `x` holds its registers with any load
completed, and the program goes on after the TRAP. -/
def State.userTrap (s : State) (w : Work) (k : Option KeyRec) (u : UserRun) (x : CoreState) (n : Nat) : UserEnd × State × UserRun :=
  let g (i : Gpr) : Nat := (x.rd i).toNat
  let bad : UserEnd × State × UserRun := (u.fault 8 0 0 n, s, u)
  let back (s : State) (x : CoreState) (len : Nat) : UserEnd × State × UserRun :=
    (.on, s, { u with x := { x with pc := u.x.pc + 4 }, spent := u.spent + svcCost n len })
  let ret (v : Nat) : CoreState := x.put 4 (w32 v) false
  let block (f : Bytes → Bytes → Bytes) (mode : Nat) : UserEnd × State × UserRun :=
    if ¬ u.span false (g 4) 16 ∨ ¬ u.span true (g 5) 16 then bad
    else match userKey k uD0 [mode, mB] with
      | some key => back (s.userWrite u (g 5) (f key (s.userRead u (g 4) 16))) (ret 0) 0
      | none => back s (ret 1) 0
  match n with
  | 0 => (.done, s, { u with spent := u.spent + svcCost 0 0 })
  | 1 =>
    if g 5 < 1 ∨ 256 < g 5 ∨ ¬ u.span true (g 4) (g 5) then bad
    else match s.drawVat w.v (4 * ceilDiv (g 5) 4) with
      | some r => back (r.2.userWrite u (g 4) (r.1.take (g 5))) (ret 0) (g 5)
      | none => (.noRandom, s, u)
  | 2 => block aesEnc mE
  | 3 => block aesDec mD
  | 4 =>
    if 1024 < g 5 ∨ ¬ u.span false (g 4) (g 5) ∨ ¬ u.span true (g 6) 16 then bad
    else match userKey k uM6 [] with
      | some key => back (s.userWrite u (g 6) (aesCmac key (s.userRead u (g 4) (g 5)))) (ret 0) (g 5)
      | none => back s (ret 1) (g 5)
  | 5 =>
    if 1024 < g 5 ∨ ¬ u.span false (g 4) (g 5) ∨ ¬ u.span true (g 6) 32 then bad
    else back (s.userWrite u (g 6) (sha256 (s.userRead u (g 4) (g 5)))) (ret 0) (g 5)
  | 6 => back s ((x.put 4 (w32 w.b) false).put 5 (w32 (w.w - w.b + u.spent / u.share)) false) 0
  | _ => bad

/-! ### Instructions at user level -/

/-- A load of the program: from its areas, or as the core itself would make it. -/
def State.userLoad (s : State) (v : Nat) (u : UserRun) (size : Size) (a : Word) : Answer × State :=
  let n := sizeBytes size
  if a.toNat % n ≠ 0 then (.error (3, 1), s)
  else match u.area a.toNat n with
    | some r => (.ok (w32 (leNat (s.read (r.at_ a.toNat) n))), s)
    | none => s.coreLoad v false size a

/-- A store of the program; the flag says that the target refused a store already retired (R535, R536). -/
def State.userStore (s : State) (v : Nat) (u : UserRun) (size : Size) (a d : Word) : Option (Deny × Bool) × State :=
  let n := sizeBytes size
  let far := decide (0x80000000 ≤ a.toNat)
  if a.toNat % n ≠ 0 then (some ((3, 1), false), s)
  else match u.area a.toNat n with
    | some r =>
      if r.write then (none, s.write (r.at_ a.toNat) (leBytes n d.toNat))
      else (some ((7, 2), far), if far then s.busDenied (coreSender v false) .store (r.at_ a.toNat) (7, 2) else s.localDenied v false .store a.toNat (7, 2))
    | none =>
      match s.coreStore v false size a d with
      | (none, t) => (none, t)
      | (some e, t) => (some (e, far && e.1 != 4), t)

/-- SWAP or CAS of the program. -/
def State.userAtomic (s : State) (v : Nat) (u : UserRun) (a : Word) (f : Word → Option Word) : Answer × State :=
  if a.toNat % 4 ≠ 0 then (.error (3, 1), s)
  else match u.area a.toNat 4 with
    | some r =>
      if r.write then
        let old := w32 (leNat (s.read (r.at_ a.toNat) 4))
        (.ok old, match f old with | some d => s.write (r.at_ a.toNat) (leBytes 4 d.toNat) | none => s)
      else
        (.error (7, 2), if a.toNat < 0x80000000 then s.localDenied v false .atomic a.toNat (7, 2)
          else s.busDenied (coreSender v false) .atomic (r.at_ a.toNat) (7, 2))
    | none =>
      match s.route v a with
      | .deny d => (.error d, s)
      | .fab k => s.busAtomic (coreSender v false) k f
      | .own k =>
        match s.localCheck v false .atomic .word k with
        | some d => (.error d, s.localDenied v false .atomic k d)
        | none =>
          let old := w32 (leNat (s.read (vatAddr v k) 4))
          (.ok old, match f old with | some d => s.write (vatAddr v k) (leBytes 4 d.toNat) | none => s)

/-- Greatest cost of an instruction (R521), TRAP apart. -/
def AxInstr.cost (v : Nat) (u : UserRun) (s : State) : AxInstr → Nat
  | .alu op .. | .aluImm op .. => op.cost
  | .load _ _ _ ga imm => if (u.x.rd ga + sextImm imm).toNat < 0x40000 then 3 else match s.route v (u.x.rd ga + sextImm imm) with | .own _ => 8 | _ => 800
  | .store _ _ ga imm => if (u.x.rd ga + sextImm imm).toNat < 0x80000000 then 2 else 800
  | .swap _ ga _ | .cas _ ga _ => if (u.x.rd ga).toNat < 0x80000000 then 6 else 804
  | .branch .. | .jr .. | .jalr .. => 5
  | .jal .. => 2
  | .fence | .srr .. | .srw .. => 4
  | _ => 1

/-- One instruction of the program: what it reads are the registers before a load whose slot it is (R492). -/
def State.userInstr (s : State) (w : Work) (k : Option KeyRec) (u : UserRun) (i : AxInstr) : UserEnd × State × UserRun :=
  let x := u.x
  let y := x.slotDone
  let next := x.pc + 4
  let go (s : State) (y : CoreState) (pc : Word) : UserEnd × State × UserRun := (.on, s, u.goto y pc)
  let stop (s : State) (d : Deny) (a : Word) : UserEnd × State × UserRun := (u.fault d.1 d.2 a, s, u)
  let jump (y : CoreState) (t : Word) : UserEnd × State × UserRun := if t.toNat % 4 ≠ 0 then stop s (3, 2) t else go s y t
  match i with
  | .alu op gd ga gb => go s (y.put gd (op.eval (x.rd ga) (x.rd gb)) false) next
  | .aluImm op gd ga v => go s (y.put gd (op.eval (x.rd ga) v) false) next
  | .lui gd imm => go s (y.put gd (imm.zeroExtend 32 <<< 16) false) next
  | .auipc gd imm => go s (y.put gd (x.pc + (imm.zeroExtend 32 <<< 16)) false) next
  | .load size signed gd ga imm =>
    let a := x.rd ga + sextImm imm
    match s.userLoad w.v u size a with
    | (.ok v, s) => go s { y with slot := some (gd, loaded size signed v, false) } next
    | (.error d, s) => stop s d a
  | .store size gs ga imm =>
    let a := x.rd ga + sextImm imm
    match s.userStore w.v u size a (x.rd gs) with
    | (none, s) => go s y next
    | (some (d, false), s) => stop s d a
    | (some (d, true), s) => (.fault (causeWord true 0 d.2 d.1 0) a next, s, u)
  | .swap gd ga gb =>
    match s.userAtomic w.v u (x.rd ga) fun _ => some (x.rd gb) with
    | (.ok old, s) => go s (y.put gd old false) next
    | (.error d, s) => stop s d (x.rd ga)
  | .cas gd ga gb =>
    match s.userAtomic w.v u (x.rd ga) fun old => if old = x.rd gd then some (x.rd gb) else none with
    | (.ok old, s) => go s (y.put gd old false) next
    | (.error d, s) => stop s d (x.rd ga)
  | .branch op ga gb imm => go s y (if op.eval (x.rd ga) (x.rd gb) then x.pc + sextImm imm * 4 else next)
  | .jal gd off => go s (y.put gd next false) (x.pc + off.signExtend 32 * 4)
  | .jr ga imm => jump y (x.rd ga + sextImm imm)
  | .jalr gd ga imm => jump (y.put gd next false) (x.rd ga + sextImm imm)
  | .srr gd n => if n = 0 then go s (y.put gd (w32 w.v) false) next else stop s (if (s.sysRead w.v n.toNat false).isSome then 1 else 0, 0) 0
  | .srw _ n => stop s (if (s.sysWrite w.v n.toNat 0 false).isSome then 1 else 0, 0) 0
  | .trap n => s.userTrap w k u y n.toNat
  | .fence => go s y next
  | .xret | .fencei | .wfe => stop s (1, 0) 0

/-- The fetch at the program's PC: the word, or what the exception's SUB is. -/
def State.userFetch (s : State) (u : UserRun) : Except Nat Word :=
  let a := u.x.pc.toNat
  if a % 4 ≠ 0 ∨ 0x40000 ≤ a then .error 1
  else match u.area a 4 with
    | some r => if r.exec then .ok (w32 (leNat (s.read (r.at_ a) 4))) else .error 0x12
    | none => .error 0x11

/-- The program runs for at most `fuel` instructions, and `limit` core cycles, each instruction taking between one and its greatest cost. -/
def State.userRun (w : Work) (k : Option KeyRec) (limit : Nat) : Nat → State → UserRun → UserEnd × State × UserRun
  | 0, s, u => (.on, s, u)
  | f + 1, s, u =>
    if limit ≤ u.spent then (.on, s, u)
    else match s.userFetch u with
      | .error sub => (u.fault 2 sub u.x.pc, if sub < 0x10 then s else s.localDenied w.v false .fetch u.x.pc.toNat (7, sub - 0x10), u)
      | .ok i =>
        match axDecode i with
        | none => (u.fault 0 0 0, s, u)
        | some i =>
          let n := 1 + (Config.freeWord s.freeCtr).toNat % i.cost w.v u s
          let r := (s.tookFree 1).userInstr w k { u with spent := u.spent + n } i
          if r.1 = .on then State.userRun w k limit f r.2.1 r.2.2 else r

/-! ### The job (R446, R541 to R543) -/

/-- The areas of a job: its program, then its input, its output area, the copy of its verb area, and its stack. -/
structure UserPlan where
  code  : UserArea
  init  : UserArea
  input : UserArea
  out   : UserArea
  copy  : UserArea
  stack : UserArea
  deriving DecidableEq, Repr

/-- Where vat firmware places the areas of a job with verb `u` (R446, R542). -/
def State.userPlan (s : State) (w : Work) (u : UserVerb) : UserPlan :=
  let d := w.j.deckle
  let place (k n : Nat) : Nat := Config.userPlace w.j.desc k % max 1 n
  let tile (a n : Nat) (wr ex : Bool) : UserArea := ⟨a, vatAddr w.v a, n, wr, ex⟩
  let inLen := w.j.input.length
  let outLen := u.outBase + u.outPerIn * inLen
  let share := 4096 * u.slots
  let base := userBase (userVerbs (s.part d)) u.code
  let gap := if roundUp 16 inLen + outLen ≤ share then roundUp 16 inLen else inLen
  let near := decide (inLen + outLen ≤ share)
  let at_ := 0x10000 + 4096 * place 0 (17 - u.slots) + 16 * place 1 ((share - gap - outLen) / 16 + 1)
  let hbm := allocHbmBase (s.alloc d) + 4096 * place 2 0x10000
  let up := 0xF0000000 + 4096 * place 3 4096
  let far (off n : Nat) (wr : Bool) : UserArea := ⟨up + off, hbm + off, n, wr, false⟩
  { code := tile base u.prog.length false true
    init := tile (base + u.prog.length) u.data.length false false
    input := if near then tile at_ inLen false false else far 0 inLen false
    out := if near then tile (at_ + gap) outLen true false else far (roundUp 64 inLen) outLen true
    copy := tile (32 * place 4 0x800) 32 false false
    stack := tile (0x38000 + 16 * place 5 ((0x8000 - u.stack) / 16 + 1)) u.stack true false }

/-- The job's areas are laid out: its input and verb area copied, its stack and output area zero. -/
def State.userLayOut (s : State) (w : Work) (p : UserPlan) : State :=
  (((s.write p.input.fab w.j.input).write p.copy.fab (slice w.j.desc 0x20 32)).wipe p.stack.fab p.stack.len).wipe p.out.fab p.out.len

/-- Registers at the first instruction (R541). -/
def userStart (p : UserPlan) (entry : Nat) : CoreState :=
  let x := { CoreState.reset false false 0 with pc := w32 (p.code.base + entry), xstatus := 0 }
  (((((x.put 1 (w32 p.copy.base) false).put 2 (w32 p.input.len) false).put 3 (w32 p.out.base) false).put 4 (w32 p.input.base) false).put 5
    (w32 p.out.len) false).put 30 (w32 (p.stack.base + p.stack.len)) false

/-- The work of a user verb job: steps 1 to 3 of R103 on its key, then its program. A program that does not end within its tariff leaves
the job without an outcome (R447). -/
def State.userWork (s : State) (x : Work) (u : UserVerb) : State :=
  let keyed := nbit u.flags 0
  let ra := s.keyFor x (dKeyA x.j.desc)
  let key := if keyed then some ra else none
  let vd := verdict x.j [] (if keyed then s.keyAlive x.j.deckle (dKeyA x.j.desc) ra else [])
  let s := if keyed then s.useKeys x key none else s
  if vd.1 ≠ 0 then s.finish x vd [] []
  else
    let p := s.userPlan x u
    let share := 250 * u.slots
    let limit := share * (u.tariff - 1)
    match State.userRun x key limit limit (s.userLayOut x p) ⟨userStart p u.entry, [p.code, p.init, p.input, p.out, p.copy, p.stack], 0, share⟩ with
    | (.on, s, _) => s
    | (.done, s, _) => s.finish x (0, 0) [] (s.read p.out.fab p.out.len)
    | (.noRandom, s, _) => s.finish x (6, 0x1801) [] []
    | (.fault cause addr epc, s, _) =>
      (s.finish x (6, 0x0501) [] []).updJob x.j.id fun j => { j with detail := leBytes 4 cause.toNat ++ leBytes 4 addr.toNat ++ leBytes 4 epc.toNat }

/-- USER_VERB. -/
def execUserVerb (job : Nat) (s : State) : Res :=
  .next <|
    match s.job? job with
    | none => s
    | some j =>
      match s.userVerb j.deckle (dVerb j.desc), s.work job (dVerb j.desc) with
      | some u, some x => s.userWork x u
      | _, _ => s

end Sys2Proof.Machine
end

