-- ==== Sys2Proof/Machine/Replay.lean ====
section
/-! DEFINITION. Replay (R748 to R761): quarantine of a vat, a run of recorded jobs on it, and its release. -/

namespace Sys2Proof.Machine

/-! ### Quarantine and release (R752, R753) -/

/-- A replay command is refused with a cause. -/
def State.replayRefuse (s : State) (job cause : Nat) : State := (s.answerCmd job s.nextEdge clsRefused 0 [] []).replayShow cause

/-- A replay command that has begun and is not answered. -/
def State.replayBegun (s : State) (job : Nat) : Bool := s.lf.quarantine.any (fun p => p.2 == job) || s.lf.runs.any fun r => r.job == job

/-- Some vat of deckle `d` other than `v` is in admission and stays there. -/
def State.othersIn (s : State) (d v : Nat) : Bool :=
  (s.vatsOf d).any fun u => u != v && s.inAdmission u && !s.bt.parking.any fun p => p.1 == u

/-- REPLAY_QUARANTINE: the vat is parked, to be quarantined once its jobs have released. -/
def execReplayQuarantine (job : Nat) (s : State) : Res :=
  .next <|
    match s.command job 0x8040 with
    | none => s
    | some j =>
      let v := byteAt j.desc 0x20
      if s.replayBegun job then s
      else if ¬ s.othersIn j.deckle v then s.replayRefuse job 8
      else
        let s := if s.inAdmission v then s.parkNext v else s
        s.mapLf fun l => { l with quarantine := l.quarantine ++ [(v, job)] }

/-- A vat loaded and released as at a join, its DRBG instances apart. -/
def State.reloadVat (s : State) (v : Nat) : State :=
  ((((s.vatLost v).loadVat v).katShow v none).resetCore v false).mapBt fun b => { b with up := v :: b.up }

/-- REPLAY_QUARANTINE_READY: the vat has left admission and released its jobs; it is reset and reloaded, and is quarantined from the next
edge. A vat parked for a fault stays so. -/
def execReplayQuarantineReady (v : Vat) (s : State) : Res :=
  let k := v.val
  .next <|
    match s.lf.quarantine.find? fun p => p.1 == k && ((s.job? p.2).any fun j => dVerb j.desc == 0x8040) with
    | none => s
    | some p =>
      if s.inAdmission k ∨ s.vatHolds k ∨ s.bt.parking.any (fun q => q.1 == k) then s
      else
        let d := ((s.job? p.2).map (·.deckle)).getD 0
        let s := ((s.reloadVat k).setMaskBit R.REPLAY_QUAR_LO k true).setDom k (if s.maskBit R.PMU_PARK_FAULT_LO k then 3 else 2)
        let s := (s.mapLf fun l => { l with quarantine := l.quarantine.filter (· != p) }).replayMark d k 1 s.nextEdge
        (s.answerCmd p.2 s.nextEdge clsOk 0 (zeros 16) []).replayShow 0

/-- REPLAY_RELEASE: the vat is reset, and goes back to admission as one unparked, or to fault parking. -/
def execReplayRelease (job : Nat) (s : State) : Res :=
  .next <|
    match s.command job 0x8042 with
    | none => s
    | some j =>
      let v := byteAt j.desc 0x20
      if s.replayBegun job then s
      else if s.lf.runs.any fun r => r.vat == v then s.replayRefuse job 7
      else if ¬ s.quarantined v then s.replayRefuse job 1
      else
        let s := (s.vatLost v).setMaskBit R.REPLAY_QUAR_LO v false
        if s.maskBit R.PMU_PARK_FAULT_LO v then
          (((s.setDom v 3).replayMark j.deckle v 2 s.nextEdge).answerCmd job s.nextEdge clsOk 0 (zeros 16) []).replayShow 0
        else (s.unpark v).mapLf fun l => { l with quarantine := l.quarantine ++ [(v, job)] }

/-! ### What a run reads (R754 to R756) -/

/-- The records of chain `k` in unreleased blocks, the open one included, in SEQ order. -/
def State.chainRecs (s : State) (k : Nat) : List Bytes :=
  let c := s.chain k
  (c.blocks.map fun b => blockRecords 64 (b.image.drop 64)).flatten ++ c.openRecs.filter fun r => byteAt r 0 != 0

/-- The edge nearest `base` whose low 32 bits are `low`. -/
def edgeNear (base low : Nat) : Nat :=
  let k := (low + 2 ^ 32 - base % 2 ^ 32) % 2 ^ 32
  if k < 2 ^ 31 then base + k else base - (2 ^ 32 - k)

/-- The 48 bytes of a record's replay line, which ends it: those before the line are additional data; `tag` 0x52 or 0x53. -/
def State.openLine (s : State) (d tag : Nat) (r : Bytes) : Option Bytes :=
  let n := r.length - 64
  gcmDec (s.replayKeys d).1 (slice r 8 8 ++ [by8 d, by8 tag, 0, 0]) (r.take n) (slice r n 48) (slice r (n + 48) 16)

/-- A REPLAY_SEED record opened. -/
structure ReplaySeed where
  inst  : Nat
  cause : Nat
  held  : Nat
  edge  : Nat
  mould : Bytes
  seeds : Bytes
  deriving DecidableEq, Repr

/-- A recorded job: its record, descriptor and input, edges, and recorded digests. -/
structure ReplayJob where
  record  : Bytes
  desc    : Bytes
  input   : Bytes
  admitAt   : Nat
  release : Nat
  digests : Bytes
  deriving DecidableEq, Repr

/-- What REPLAY_RUN's verb area asks for. -/
structure ReplayAsk where
  d     : Nat
  orig  : Nat
  qvat  : Nat
  beats : Nat
  epoch : Nat
  first : Nat
  jobs  : Nat
  deriving DecidableEq, Repr

def replayAsk (j : Job) : ReplayAsk :=
  let b := j.desc
  ⟨j.deckle, byteAt b 0x20, byteAt b 0x21, leAt b 0x22 2, leAt b 0x24 4, leAt b 0x28 8, leAt b 0x30 2⟩

/-- The seeds of the original vat from FIRST_EDGE on, in the window; none when one does not verify. -/
def State.replaySeeds (s : State) (a : ReplayAsk) : Option (List ReplaySeed) :=
  ((s.chainRecs a.d).filter fun r =>
    byteAt r 0 == 0x20 && leAt r 4 4 == a.epoch && byteAt r 0x20 == a.orig && decide (a.first ≤ leAt r 0x28 8) &&
      decide (leAt r 0x28 8 < a.first + 2 * a.beats + 65536)).mapM fun r =>
    (s.openLine a.d 0x53 r).map fun m => ⟨byteAt r 0x21, byteAt r 0x22, byteAt r 0x23, leAt r 0x28 8, slice r 0x30 8, m⟩

/-- The JOB records of the window. -/
def State.replayRecs (s : State) (a : ReplayAsk) : List Bytes :=
  (s.chainRecs a.d).filter fun r =>
    byteAt r 0 == 1 && leAt r 4 4 == a.epoch && byteAt r 0x24 == a.orig && nbit (byteAt r 3) 2 &&
      (let e := edgeNear a.first (leAt r 0x30 4); decide (a.first ≤ e) && decide (e < a.first + a.beats))

/-- No record of the window can lie in a released block. -/
def State.replayCovered (s : State) (a : ReplayAsk) : Bool :=
  s.lowUnreleased a.d == 0 ||
    match (s.chainRecs a.d).head? with
    | some r => decide (leAt r 4 4 < a.epoch) || (leAt r 4 4 == a.epoch && decide (leAt r 0x10 8 ≤ a.first))
    | none => false

/-- The recorded jobs with what the input gives for each (R755). -/
def State.replayJobs (s : State) (a : ReplayAsk) : List Bytes → Bytes → List ReplayJob
  | [], _ => []
  | r :: rs, inp =>
    let n := leAt r 0x48 4
    ⟨r, slice inp 0 64, slice inp 64 n, edgeNear a.first (leAt r 0x30 4), edgeNear a.first (leAt r 0x34 4), (s.openLine a.d 0x52 r).getD []⟩ ::
      s.replayJobs a rs (inp.drop (64 + roundUp 8 n))

/-- A job's input gives its recorded IN_DIGEST. -/
def State.replayInOk (s : State) (d : Nat) (j : ReplayJob) : Bool :=
  (hmacOf 0x22 (s.replayKeys d).2 (j.desc ++ j.input)).take 24 == j.digests.take 24

/-! ### The run (R758 to R760) -/

/-- An instance of the quarantined vat instantiated from recorded seeds, as the original vat's was. -/
def State.replayInst (s : State) (a : ReplayAsk) (u : DrbgUnit) (x : ReplaySeed) : DrbgUnit :=
  if x.inst = 0 then
    refill 16 { u with vatInst := some (drbgNew (x.seeds ++ ascii "NV64 VAT" ++ [by8 a.orig] ++ s.uid)), queue := [], vatWait := none }
  else { u with lane := some (drbgNew (x.seeds ++ ascii "NV64 DKL" ++ [by8 a.d, by8 a.orig] ++ x.mould ++ s.uid)), laneWait := none }

/-- The meaning of a verb that a vat carries out. -/
def State.replayVerb (s : State) (verb id : Nat) : State :=
  let r : Res :=
    match verb with
    | 0x0101 => execPinTranslate id s
    | 0x0102 => execPinVerify id s
    | 0x0103 => execMacGenerate id s
    | 0x0104 => execMacVerify id s
    | 0x0105 => execCryptogramVerify id s
    | 0x0106 => execDukptDerive id s
    | 0x0107 => execTokenize id s
    | 0x0108 => execDetokenize id s
    | 0x0109 => execDataTranslate id s
    | 0x0201 => execSign id s
    | 0x0202 => execVerify id s
    | 0x0203 => execKeypair id s
    | 0x0204 => execAgree id s
    | 0x0205 => execEncapsulate id s
    | 0x0301 => execSeal id s
    | 0x0302 => execOpenV id s
    | 0x0303 => execHash id s
    | 0x0401 => execKeyImport id s
    | 0x0402 => execKeyExport id s
    | 0x0403 => execKeyGenerate id s
    | 0x0404 => execKeyUpdate id s
    | 0x0405 => execKeyRetire id s
    | 0x0501 => execRandom id s
    | 0x0502 => execNoop id s
    | 0x8004 => execVaultSet id s
    | _ => execUserVerb id s
  match r with
  | .next t => t
  | _ => s

/-- The version of a handle that a record names, from a slot or a commit record still in the chain (R758); generation 0 names none. -/
def State.replayKey (s : State) (d h gen : Nat) : Option KeyRec :=
  ((slotOf s.ks.slotA d h).toList ++ (slotOf s.ks.slotB d h).toList ++ s.journalled d h).find? fun r => r.gen == gen

/-- The versions that a job's keys have in its run, and whether one is gone: it is replaced by the dummy key, a free value. -/
def State.replayKeySet (s : State) (d : Nat) (r : Bytes) : List KeyRec × Bool :=
  let one (h gen : Nat) : List KeyRec × Bool :=
    if h = 0 ∨ gen = 0 then ([], false)
    else match s.replayKey d h gen with
      | some k => ([{ k with since := 0, badTag := false }], false)
      | none => ([{ s.keyNow d h with gen := gen, state := 1, since := 0, badTag := false, key := s.freeBytes (s.keyNow d h).key.length }], true)
  let x := one (leAt r 0x38 4) (leAt r 0x3C 4)
  let y := one (leAt r 0x40 4) (leAt r 0x44 4)
  (x.1 ++ y.1, x.2 || y.2)

/-- Counters that the chain's JOB records before a job carry, latest first: each seen from its release on (R948). -/
def State.replayCtrs (s : State) (a : ReplayAsk) (seq : Nat) : List CounterWrite :=
  ((s.chainRecs a.d).filterMap fun r =>
    if byteAt r 0 = 1 ∧ leAt r 8 8 < seq ∧ leAt r 0x50 8 ≠ 0 then
      some ⟨a.d, leAt r 0x38 4, leAt r 0x50 8, edgeNear a.first (leAt r 0x34 4), (64, 0)⟩
    else none).reverse

/-- What a run carries from job to job: the vat's DRBG unit, seeds still to come, and the counters and vault entries that its jobs wrote. -/
structure ReplayCarry where
  unit  : DrbgUnit
  seeds : List ReplaySeed
  ctrs  : List CounterWrite
  vault : List VaultEntry
  deriving DecidableEq, Repr

/-- What a run found for a job: class, digest, whether a key is gone, and its release edge as recorded edges count. -/
structure ReplayOut where
  seq     : Nat
  cls     : Nat
  digest  : Bytes
  gone    : Bool
  release : Nat
  deriving DecidableEq, Repr

/-- One job of a run, in a state of its own that stands as the device stood at the job's recorded work. -/
def State.replayOne (s : State) (a : ReplayAsk) (x : ReplayCarry × List ReplayOut) (j : ReplayJob) : ReplayCarry × List ReplayOut :=
  let verb := dVerb j.desc
  let sur := surchargeOf (s.part a.d) verb
  let w := j.admitAt + sur
  let c := x.1
  let come := c.seeds.filter fun y => decide (y.edge ≤ w) && y.cause != 2
  let unit := come.foldl (s.replayInst a) c.unit
  let rest := c.seeds.filter fun y => !(decide (y.edge ≤ w) && y.cause != 2)
  let pr := verb == 0x0501 && byteAt j.desc 0x20 % 2 == 1
  let mine := if pr then rest.find? fun y => y.cause == 2 && decide (y.edge ≤ w) else none
  let unit := match mine with | some y => s.replayInst a unit y | none => unit
  let rest := match mine with | some y => rest.erase y | none => rest
  let desc := if pr then j.desc.set 0x20 (by8 (byteAt j.desc 0x20 - 1)) else j.desc
  let keys := s.replayKeySet a.d j.record
  let id := s.bt.nextJob
  let due := j.admitAt + s.tariffOf a.d j.desc + sur
  let base := s.newJob (.host ⟨(a.d + 1) % 17, Nat.mod_lt _ (by decide)⟩ 0) a.d desc j.input none
  let job : Job := { base with stage := .admitted a.qvat j.admitAt, tariff := s.tariffOf a.d j.desc, surcharge := sur, due := some due
                               set := s.dset a.d, newHandle := leAt j.record 0x58 4, vat := some a.qvat, admitEdge := j.admitAt, readSet := 2 }
  let seen (e : VaultEntry) : Bool := decide (e.since ≤ j.admitAt)
  let far (e : VaultEntry) : VaultEntry := { e with ream := (64, 0) }
  let t := (((s.setReg64 R.BEAT_COUNT_LO w).setUnit a.qvat unit).setPke a.qvat PkeUnit.idle).setRegBit (R.PKE_STATUS a.qvat) 0 false
  let t := (t.setMaskBit R.SPRING_VAT_ERR_LO a.qvat false).setMaskBit R.SPRING_LANE_ERR_LO a.qvat false
  let t := t.mapKs fun k => { k with recs := keys.1, window := [], changes := []
                                     ctrs := c.ctrs ++ s.replayCtrs a (leAt j.record 8 8)
                                     vault := c.vault ++ (k.vault.filter seen).map far }
  let t := (t.mapBt fun b => { b with jobs := [job] }).replayVerb verb id
  let u := t.pke a.qvat
  let o : Nat × Bytes × Bytes :=
    match t.job? id with
    | some k =>
      if k.ready then (k.cls, k.result, k.output)
      else if u.job = some id ∧ u.done then (let p := pkeOutcome u none; (p.1, p.2.2.1, p.2.2.2))
      else (clsFault, [], [])
    | none => (clsFault, [], [])
  let mac := (hmacOf 0x22 (s.replayKeys a.d).2 ([by8 o.1] ++ leBytes 4 o.2.2.length ++ padTo 16 o.2.1 ++ o.2.2)).take 24
  let extra := if u.job = some id ∧ 24 < u.rounds then s.tariffOf a.d j.desc else 0
  ({ unit := t.unit a.qvat, seeds := rest
     ctrs := t.ks.ctrs.filter (fun y => y.ream == (a.qvat, j.admitAt))
     vault := t.ks.vault.filter fun y => y.ream == (a.qvat, j.admitAt) },
   x.2 ++ [⟨leAt j.record 8 8, o.1, mac, keys.2, due + extra⟩])

/-- The checks of R756 in order: the cause of the first that fails. -/
def State.replayCheck (s : State) (a : ReplayAsk) (j : Job) : Option Nat :=
  let recs := s.replayRecs a
  let firsts := ((s.replaySeeds a).getD []).filter fun x => x.edge == a.first
  if ¬ s.quarantined a.qvat then some 1
  else if s.lf.runs.any fun r => r.vat == a.qvat then some 7
  else if ¬ s.replayCovered a ∨ s.replaySeeds a = none ∨ recs.any fun r => (s.openLine a.d 0x52 r).isNone then some 5
  else if ¬ (firsts.any (fun x => x.inst == 0) && firsts.any fun x => x.inst == 1) then some 2
  else if firsts.any fun x => x.held != 0 then some 3
  else if recs.length ≠ a.jobs ∨ j.input.length ≠ (recs.map fun r => 64 + roundUp 8 (leAt r 0x48 4)).sum then some 4
  else if (s.replayJobs a recs j.input).any fun x => !s.replayInOk a.d x then some 6
  else none

/-- The comparison of a job: its 64-byte entry (R760). -/
def replayEntry (a : ReplayAsk) (x : ReplayJob × ReplayOut) : Bytes :=
  let cmp := !x.2.gone && decide (x.1.release ≤ a.first + a.beats)
  let same := cmp && x.1.digests.drop 24 == x.2.digest
  slice x.1.record 8 8 ++ slice x.1.record 0x30 4 ++ slice x.1.record 0x23 1 ++ [by8 x.2.cls, by8 (b2n cmp + 2 * b2n same + 4 * b2n x.2.gone), 0] ++
    padTo 24 (x.1.digests.drop 24) ++ padTo 24 x.2.digest

/-- The run itself: its jobs by admission edge and SEQ, each entry in SEQ order. -/
def State.replayGo (s : State) (a : ReplayAsk) (j : Job) : State :=
  let jobs := s.replayJobs a (s.replayRecs a) j.input
  let order := jobs.mergeSort fun x y =>
    decide (x.admitAt < y.admitAt) || (x.admitAt == y.admitAt && decide (leAt x.record 8 8 ≤ leAt y.record 8 8))
  let fin := order.foldl (s.replayOne a) (⟨s.unit a.qvat, (s.replaySeeds a).getD [], [], []⟩, [])
  let pairs := jobs.filterMap fun x => (fin.2.find? fun o => o.seq == leAt x.record 8 8).map fun o => (x, o)
  let rows := pairs.map (replayEntry a)
  let count (k : Nat) : Nat := (rows.filter fun r => nbit (byteAt r 0x0E) k).length
  let r0 := s.openEdge
  let last := (pairs.map fun p => r0 + (p.2.release - a.first)).foldl max r0
  let nums := leBytes 2 (count 0) ++ leBytes 2 (count 1) ++ leBytes 2 (count 2)
  let run : ReplayRun := { job := j.id, vat := a.qvat, r0, last, result := nums ++ leBytes 8 r0 ++ zeros 2, output := rows.flatten
                           misses := count 0 - count 1, facts := slice j.desc 0x20 32 ++ nums ++ leBytes 8 r0 }
  let s := ((s.setUnit a.qvat fin.1.unit).tookFree 64).setReg R.REPLAY_R0 (w32 r0)
  (s.mapLf fun l => { l with runs := run :: l.runs }).replayShow (s.regField R.REPLAY_STATUS 23 16)

/-- REPLAY_RUN: the checks, and the start of the run. -/
def execReplayRun (job : Nat) (s : State) : Res :=
  .next <|
    match s.command job 0x8041 with
    | none => s
    | some j =>
      let a := replayAsk j
      if s.replayBegun job then s
      else match s.replayCheck a j with
        | some c =>
          let bad := (s.replayJobs a (s.replayRecs a) j.input).find? fun x => !s.replayInOk a.d x
          let s := match c, bad with | 6, some x => s.setReg64 R.REPLAY_BAD_SEQ_LO (leAt x.record 8 8) | _, _ => s
          (s.replayRec a.d (slice j.desc 0x20 32 ++ zeros 14) c).replayRefuse job c
        | none => s.replayGo a j

/-- REPLAY_RUN_COMPLETE: the last recomputed release has passed, and the comparison is released at the edge after it. -/
def execReplayRunComplete (v : Vat) (s : State) : Res :=
  .next <|
    match s.lf.runs.find? fun r => r.vat == v.val with
    | none => s
    | some r =>
      if s.beat < r.last then s
      else
        let d := ((s.job? r.job).map (·.deckle)).getD 0
        let s := ((s.mapLf fun l => { l with runs := l.runs.filter fun x => x.job != r.job }).replayRec d r.facts 0).replayShow 0
        let s := (s.bump R.REPLAY_RUNS).bumpBy R.REPLAY_MISMATCH r.misses
        s.answerCmd r.job (max (r.last + 1) s.nextEdge) clsOk 0 r.result r.output

end Sys2Proof.Machine
end

