-- ==== Sys2Proof/Machine/Spdm.lean ====
section
/-! DEFINITION. SPDM attestation (R724 to R728), in the formats of DMTF SPDM 1.2 (PRESUMED, notes/assumptions/28.md). -/

namespace Sys2Proof.Machine

/-- The conversation on a binding. -/
def State.spdm (s : State) (vdm : Bool) : SpdmConv := if vdm then s.lf.spdm.2 else s.lf.spdm.1

def State.setSpdm (s : State) (vdm : Bool) (c : SpdmConv) : State :=
  s.mapLf fun l => { l with spdm := if vdm then (l.spdm.1, c) else (c, l.spdm.2) }

/-- A message of SPDM leaves. -/
def State.spdmSend (s : State) (vdm : Bool) (r : Bytes) : State := s.mctpSend vdm (5 :: r)

/-- ERROR with a code and its data. -/
def State.spdmError (s : State) (vdm : Bool) (code data : Nat) : State := s.spdmSend vdm [0x12, 0x7F, by8 code, by8 data]

/-- A request reaches the service pair at version 1.2 (R724, R725): answered by `f`, or with VersionMismatch. -/
def State.spdmServe (s : State) (vdm : Bool) (m : Bytes) (f : State → State) : State :=
  if ¬ (s.mctpOn vdm ∧ s.serviceUp) then s
  else if byteAt m 0 ≠ 0x12 then s.spdmError vdm 0x41 0
  else f s

/-- Slot 0's chain in the form SPDM gives it: length, the root certificate's hash, and the certificates. -/
def State.spdmChain (s : State) : Bytes :=
  let d := (s.deepData 0x0104).getD []
  let chain := slice d 0x10 (leAt d 0 2) ++ s.lf.aliasCert
  let root := match derHead chain with | some (_, _, w, _) => w | none => []
  leBytes 2 (52 + chain.length) ++ [0, 0] ++ sha384 root ++ chain

/-! ### Measurements (R726) -/

/-- A block's value type and value. -/
def State.measurement (s : State) (i : Nat) : Nat × Bytes :=
  if i ≤ 0x10 then
    let r := i - 1
    (if 3 ≤ r ∧ r ≤ 5 ∨ r = 7 then 3 else if r = 6 then 2 else 1, s.wmark r)
  else if i ≤ 0x20 then
    (3, match (s.md.committed.getD ⟨[], []⟩).parts.lookup (i - 0x11) with | some p => sha384 p | none => zeros 48)
  else if i = 0x21 then (0x82, s.deviceState)
  else
    let d := (s.deepData 0x0104).getD []
    (0x84, slice d 0x1010 (leAt d 2 2))

/-- A measurement block. -/
def State.measBlock (s : State) (i : Nat) : Bytes :=
  let v := s.measurement i
  [by8 i, 1] ++ leBytes 2 (v.2.length + 3) ++ [by8 v.1] ++ leBytes 2 v.2.length ++ v.2

/-- The blocks of an operation: none for 0, all for 0xFF, else one. -/
def State.measRecord (s : State) (op : Nat) : Bytes :=
  if op = 0 then [] else if op = 0xFF then ((List.range 34).map fun i => s.measBlock (i + 1)).flatten else s.measBlock op

/-- OpaqueData with its length (R728): the device state block, as an element of a general opaque data table where that was negotiated. -/
def State.opaqueData (s : State) (fmt1 : Bool) : Bytes :=
  let b := s.deviceState
  let o := if fmt1 then
      let e := [0xFF, 16] ++ s.uid ++ leBytes 2 32 ++ b
      [1, 0, 0, 0] ++ e ++ zeros ((4 - e.length % 4) % 4)
    else b
  leBytes 2 o.length ++ o

/-- A signature under the alias key over what `m` hashes to, in SPDM 1.2's form for context `ctx`. -/
def State.spdmSign (s : State) (ctx : String) (m : Bytes) : Bytes × State :=
  let pre := (List.replicate 4 (ascii "dmtf-spdm-v1.2.*")).flatten
  let c := ascii ctx
  s.idSign (aliasKey (s.lf.cdi.getD [])) (pre ++ zeros (36 - c.length) ++ c ++ sha384 m)

/-- 32 bytes from the device DRBG. -/
def State.spdmNonce (s : State) : Bytes × State :=
  if s.spr.device.isSome ∧ ¬ s.devErr then s.drawDev 32 else (s.freeBytes 32, s.tookFree 32)

/-! ### The requests -/

/-- GET_VERSION: a conversation starts afresh. -/
def execGetVersion (vdm : Bool) (m : Bytes) (s : State) : Res :=
  .next <|
    if ¬ (s.mctpOn vdm ∧ s.serviceUp) then s
    else if byteAt m 0 ≠ 0x10 then s.spdmError vdm 0x41 0
    else
      let r := bytes [0x10, 0x04, 0, 0, 0, 1, 0x00, 0x12]
      (s.setSpdm vdm { SpdmConv.reset with step := 1, vca := m ++ r }).spdmSend vdm r

/-- GET_CAPABILITIES. -/
def execGetCapabilities (vdm : Bool) (m : Bytes) (s : State) : Res :=
  .next <| s.spdmServe vdm m fun s =>
    let c := s.spdm vdm
    if c.step ≠ 1 then s.spdmError vdm 4 0
    else if m.length < 20 then s.spdmError vdm 1 0
    else
      let r := bytes [0x12, 0x61, 0, 0, 0, 12, 0, 0, 0x36, 0, 0, 0] ++ leBytes 4 4096 ++ leBytes 4 4096
      (s.setSpdm vdm { c with step := 2, vca := c.vca ++ m ++ r }).spdmSend vdm r

/-- NEGOTIATE_ALGORITHMS. -/
def execNegotiateAlgorithms (vdm : Bool) (m : Bytes) (s : State) : Res :=
  .next <| s.spdmServe vdm m fun s =>
    let c := s.spdm vdm
    if c.step ≠ 2 then s.spdmError vdm 4 0
    else if m.length < 32 ∨ byteAt m 6 % 2 = 0 ∨ byteAt m 8 / 128 % 2 = 0 ∨ byteAt m 12 / 2 % 2 = 0 then s.spdmError vdm 1 0
    else
      let fmt1 := byteAt m 7 / 2 % 2 == 1
      let r := bytes [0x12, 0x63, 0, 0, 36, 0, 1, if fmt1 then 2 else 0] ++ leBytes 4 4 ++ leBytes 4 0x80 ++ leBytes 4 2 ++ zeros 16
      (s.setSpdm vdm { c with step := 3, fmt1 := fmt1, vca := c.vca ++ m ++ r }).spdmSend vdm r

/-- GET_DIGESTS. -/
def execGetDigests (vdm : Bool) (m : Bytes) (s : State) : Res :=
  .next <| s.spdmServe vdm m fun s =>
    let c := s.spdm vdm
    if c.step ≠ 3 then s.spdmError vdm 4 0
    else
      let r := bytes [0x12, 0x01, 0, 1] ++ sha384 s.spdmChain
      (s.setSpdm vdm { c with cert := c.cert ++ m ++ r, meas := [] }).spdmSend vdm r

/-- GET_CERTIFICATE: as much of slot 0's chain as was asked for and fits a message. -/
def execGetCertificate (vdm : Bool) (m : Bytes) (s : State) : Res :=
  .next <| s.spdmServe vdm m fun s =>
    let c := s.spdm vdm
    let off := leAt m 4 2
    let chain := s.spdmChain
    if c.step ≠ 3 then s.spdmError vdm 4 0
    else if m.length < 8 ∨ byteAt m 2 ≠ 0 ∨ chain.length ≤ off then s.spdmError vdm 1 0
    else
      let n := min (leAt m 6 2) (min (chain.length - off) (4096 - 8))
      let r := bytes [0x12, 0x02, 0, 0] ++ leBytes 2 n ++ leBytes 2 (chain.length - off - n) ++ slice chain off n
      (s.setSpdm vdm { c with cert := c.cert ++ m ++ r, meas := [] }).spdmSend vdm r

/-- CHALLENGE: signed with the alias key over the conversation. -/
def execChallenge (vdm : Bool) (m : Bytes) (s : State) : Res :=
  .next <| s.spdmServe vdm m fun s =>
    let c := s.spdm vdm
    let kind := byteAt m 3
    if c.step ≠ 3 then s.spdmError vdm 4 0
    else if m.length < 36 ∨ byteAt m 2 ≠ 0 ∨ ¬ (kind = 0 ∨ kind = 1 ∨ kind = 0xFF) then s.spdmError vdm 1 0
    else
      let n := s.spdmNonce
      let sum := if kind = 0 then []
        else if kind = 1 then sha384 ((List.range 3).map fun i => s.measBlock (i + 1)).flatten
        else sha384 (s.measRecord 0xFF)
      let r := bytes [0x12, 0x03, 0, 1] ++ sha384 s.spdmChain ++ n.1 ++ sum ++ s.opaqueData c.fmt1
      let g := n.2.spdmSign "responder-challenge_auth signing" (c.vca ++ c.cert ++ m ++ r)
      (g.2.setSpdm vdm { c with cert := [], meas := [] }).spdmSend vdm (r ++ g.1)

/-- GET_MEASUREMENTS: signed where the request asks for it. -/
def execGetMeasurements (vdm : Bool) (m : Bytes) (s : State) : Res :=
  .next <| s.spdmServe vdm m fun s =>
    let c := s.spdm vdm
    let sig := byteAt m 2 % 2 == 1
    let op := byteAt m 3
    if c.step ≠ 3 then s.spdmError vdm 4 0
    else if m.length < (if sig then 37 else 4) ∨ (sig ∧ byteAt m 36 ≠ 0) ∨ (0x22 < op ∧ op ≠ 0xFF) then s.spdmError vdm 1 0
    else
      let n := s.spdmNonce
      let rec_ := s.measRecord op
      let r := bytes [0x12, 0x60, if op = 0 then 34 else 0, 0, if op = 0 then 0 else if op = 0xFF then 34 else 1] ++ leBytes 3 rec_.length ++ rec_ ++
        n.1 ++ s.opaqueData c.fmt1
      if sig then
        let g := n.2.spdmSign "responder-measurements signing" (c.vca ++ c.meas ++ m ++ r)
        (g.2.setSpdm vdm { c with cert := [], meas := [] }).spdmSend vdm (r ++ g.1)
      else (n.2.setSpdm vdm { c with cert := [], meas := c.meas ++ m ++ r }).spdmSend vdm r

/-- SPDM_UNSUPPORTED_REQUEST: every other request code. -/
def execSpdmUnsupportedRequest (vdm : Bool) (m : Bytes) (s : State) : Res :=
  .next <| s.spdmServe vdm m fun s => s.spdmError vdm 7 (byteAt m 1)

end Sys2Proof.Machine
end

