-- ==== Sys2Proof/Machine/Dispatch.lean ====
section
/-! DEFINITION. exec: the effect of each command, one arm per row of the spec's opcode table, each one direct call of that
command's meaning. -/

namespace Sys2Proof.Machine

def exec (i : Instr) (s : State) : Host.Outcome State Fault Refusal :=
  match i with
  | .registerWrite who size addr v => Sys2Proof.Machine.execRegisterWrite who size addr v s
  | .servicePairMismatch => Sys2Proof.Machine.execServicePairMismatch s
  | .primaryPairMismatch => Sys2Proof.Machine.execPrimaryPairMismatch s
  | .feltTransfer src dst addr seq tagOk => Sys2Proof.Machine.execFeltTransfer src dst addr seq tagOk s
  | .feltRepeat src dst addr seq tagOk job => Sys2Proof.Machine.execFeltRepeat src dst addr seq tagOk job s
  | .beatEdge => Sys2Proof.Machine.execBeatEdge s
  | .beatTick => Sys2Proof.Machine.execBeatTick s
  | .reamClose => Sys2Proof.Machine.execReamClose s
  | .beatStart who v => Sys2Proof.Machine.execBeatStart who v s
  | .beatPeriodWrite who v => Sys2Proof.Machine.execBeatPeriodWrite who v s
  | .beatTqSelWrite who v => Sys2Proof.Machine.execBeatTqSelWrite who v s
  | .referenceLost => Sys2Proof.Machine.execReferenceLost s
  | .timePpsEdge at_ => Sys2Proof.Machine.execTimePpsEdge at_ s
  | .ppsLoss => Sys2Proof.Machine.execPpsLoss s
  | .time10mCheck ppb => Sys2Proof.Machine.execTime10mCheck ppb s
  | .descriptorReceived src d desc input => Sys2Proof.Machine.execDescriptorReceived src d desc input s
  | .waitLimitExpiry job => Sys2Proof.Machine.execWaitLimitExpiry job s
  | .couchRelease job => Sys2Proof.Machine.execCouchRelease job s
  | .outputCopyFail job => Sys2Proof.Machine.execOutputCopyFail job s
  | .missedEdge job vatCause => Sys2Proof.Machine.execMissedEdge job vatCause s
  | .vatPowerGate v => Sys2Proof.Machine.execVatPowerGate v s
  | .reservoirReadSet job => Sys2Proof.Machine.execReservoirReadSet job s
  | .reservoirReadComplete job rbn ok => Sys2Proof.Machine.execReservoirReadComplete job rbn ok s
  | .pinTranslate job => Sys2Proof.Machine.execPinTranslate job s
  | .pinVerify job => Sys2Proof.Machine.execPinVerify job s
  | .macGenerate job => Sys2Proof.Machine.execMacGenerate job s
  | .macVerify job => Sys2Proof.Machine.execMacVerify job s
  | .cryptogramVerify job => Sys2Proof.Machine.execCryptogramVerify job s
  | .dukptDerive job => Sys2Proof.Machine.execDukptDerive job s
  | .tokenize job => Sys2Proof.Machine.execTokenize job s
  | .detokenize job => Sys2Proof.Machine.execDetokenize job s
  | .dataTranslate job => Sys2Proof.Machine.execDataTranslate job s
  | .seal job => Sys2Proof.Machine.execSeal job s
  | .openV job => Sys2Proof.Machine.execOpenV job s
  | .hash job => Sys2Proof.Machine.execHash job s
  | .random job => Sys2Proof.Machine.execRandom job s
  | .noop job => Sys2Proof.Machine.execNoop job s
  | .sign job => Sys2Proof.Machine.execSign job s
  | .verify job => Sys2Proof.Machine.execVerify job s
  | .keypair job => Sys2Proof.Machine.execKeypair job s
  | .agree job => Sys2Proof.Machine.execAgree job s
  | .encapsulate job => Sys2Proof.Machine.execEncapsulate job s
  | .pkeStart who v w => Sys2Proof.Machine.execPkeStart who v w s
  | .pkeWipe who v w => Sys2Proof.Machine.execPkeWipe who v w s
  | .pkeWorkEnd v readBack check => Sys2Proof.Machine.execPkeWorkEnd v readBack check s
  | .pkeDoneEdge v readBack => Sys2Proof.Machine.execPkeDoneEdge v readBack s
  | .symLockWrite who v w => Sys2Proof.Machine.execSymLockWrite who v w s
  | .pkeLockWrite who v w => Sys2Proof.Machine.execPkeLockWrite who v w s
  | .cancel job => Sys2Proof.Machine.execCancel job s
  | .abort job => Sys2Proof.Machine.execAbort job s
  | .abortRelease job => Sys2Proof.Machine.execAbortRelease job s
  | .abortComplete job => Sys2Proof.Machine.execAbortComplete job s
  | .drain job => Sys2Proof.Machine.execDrain job s
  | .drainComplete job => Sys2Proof.Machine.execDrainComplete job s
  | .drainLimitExpiry job => Sys2Proof.Machine.execDrainLimitExpiry job s
  | .resume job => Sys2Proof.Machine.execResume job s
  | .seqSettings job => Sys2Proof.Machine.execSeqSettings job s
  | .pkeSettings job => Sys2Proof.Machine.execPkeSettings job s
  | .admitOpenWrite who v => Sys2Proof.Machine.execAdmitOpenWrite who v s
  | .admitWaitLimitWrite who d v => Sys2Proof.Machine.execAdmitWaitLimitWrite who d v s
  | .frameReceived port m payload => Sys2Proof.Machine.execFrameReceived port m payload s
  | .sqTailWrite who f q v => Sys2Proof.Machine.execSqTailWrite who f q v s
  | .cqHeadWrite who f q v => Sys2Proof.Machine.execCqHeadWrite who f q v s
  | .dqHeadWrite who f v => Sys2Proof.Machine.execDqHeadWrite who f v s
  | .hostDescriptorReceived f q desc input => Sys2Proof.Machine.execHostDescriptorReceived f q desc input s
  | .hostQueueEnable who f q diag v => Sys2Proof.Machine.execHostQueueEnable who f q diag v s
  | .hostQueueClose who f q v => Sys2Proof.Machine.execHostQueueClose who f q v s
  | .functionLevelReset f => Sys2Proof.Machine.execFunctionLevelReset f s
  | .hostConventionalReset => Sys2Proof.Machine.execHostConventionalReset s
  | .busMasterDisable f => Sys2Proof.Machine.execBusMasterDisable f s
  | .keyImport job => Sys2Proof.Machine.execKeyImport job s
  | .keyExport job => Sys2Proof.Machine.execKeyExport job s
  | .keyGenerate job => Sys2Proof.Machine.execKeyGenerate job s
  | .keyUpdate job => Sys2Proof.Machine.execKeyUpdate job s
  | .keyRetire job => Sys2Proof.Machine.execKeyRetire job s
  | .keyChangeCommit job => Sys2Proof.Machine.execKeyChangeCommit job s
  | .vatInvalidation v handle gen => Sys2Proof.Machine.execVatInvalidation v handle gen s
  | .syncPrepareReceived d origin m => Sys2Proof.Machine.execSyncPrepareReceived d origin m s
  | .syncAckReceived d peer handle gen ok decision => Sys2Proof.Machine.execSyncAckReceived d peer handle gen ok decision s
  | .syncCommitDecision job => Sys2Proof.Machine.execSyncCommitDecision job s
  | .syncDecisionReceived d origin handle gen commit => Sys2Proof.Machine.execSyncDecisionReceived d origin handle gen commit s
  | .syncDecisionTimeout d peer handle gen => Sys2Proof.Machine.execSyncDecisionTimeout d peer handle gen s
  | .mirrorApplyReceived d origin m => Sys2Proof.Machine.execMirrorApplyReceived d origin m s
  | .mirrorCountersReceived d origin values => Sys2Proof.Machine.execMirrorCountersReceived d origin values s
  | .mirrorResync d member recs => Sys2Proof.Machine.execMirrorResync d member recs s
  | .keysMirrorListWrite who d v => Sys2Proof.Machine.execKeysMirrorListWrite who d v s
  | .sealEpochRotate k => Sys2Proof.Machine.execSealEpochRotate k s
  | .journalBlockClose k => Sys2Proof.Machine.execJournalBlockClose k s
  | .journalBlockDurable k jbn => Sys2Proof.Machine.execJournalBlockDurable k jbn s
  | .journalBlockRelease k => Sys2Proof.Machine.execJournalBlockRelease k s
  | .journalRead job => Sys2Proof.Machine.execJournalRead job s
  | .vaultSet job => Sys2Proof.Machine.execVaultSet job s
  | .nvmeCommandTimeout q => Sys2Proof.Machine.execNvmeCommandTimeout q s
  | .nvmeAbortTimeout q => Sys2Proof.Machine.execNvmeAbortTimeout q s
  | .nvmeReadyTimeout q => Sys2Proof.Machine.execNvmeReadyTimeout q s
  | .nvmeCompletion q n ok => Sys2Proof.Machine.execNvmeCompletion q n ok s
  | .reservoirLinkLoss q removed => Sys2Proof.Machine.execReservoirLinkLoss q removed s
  | .mouldLoad job => Sys2Proof.Machine.execMouldLoad job s
  | .mouldLoadComplete job => Sys2Proof.Machine.execMouldLoadComplete job s
  | .mouldCommit job => Sys2Proof.Machine.execMouldCommit job s
  | .deckleReopen => Sys2Proof.Machine.execDeckleReopen s
  | .fullRemouldReset => Sys2Proof.Machine.execFullRemouldReset s
  | .mouldAbandon job => Sys2Proof.Machine.execMouldAbandon job s
  | .add c gd ga gb => Sys2Proof.Machine.execAdd c gd ga gb s
  | .sub c gd ga gb => Sys2Proof.Machine.execSub c gd ga gb s
  | .andR c gd ga gb => Sys2Proof.Machine.execAndR c gd ga gb s
  | .orR c gd ga gb => Sys2Proof.Machine.execOrR c gd ga gb s
  | .xorR c gd ga gb => Sys2Proof.Machine.execXorR c gd ga gb s
  | .nor c gd ga gb => Sys2Proof.Machine.execNor c gd ga gb s
  | .slt c gd ga gb => Sys2Proof.Machine.execSlt c gd ga gb s
  | .sltu c gd ga gb => Sys2Proof.Machine.execSltu c gd ga gb s
  | .sll c gd ga gb => Sys2Proof.Machine.execSll c gd ga gb s
  | .srl c gd ga gb => Sys2Proof.Machine.execSrl c gd ga gb s
  | .sra c gd ga gb => Sys2Proof.Machine.execSra c gd ga gb s
  | .ror c gd ga gb => Sys2Proof.Machine.execRor c gd ga gb s
  | .mul c gd ga gb => Sys2Proof.Machine.execMul c gd ga gb s
  | .mulh c gd ga gb => Sys2Proof.Machine.execMulh c gd ga gb s
  | .mulhu c gd ga gb => Sys2Proof.Machine.execMulhu c gd ga gb s
  | .div c gd ga gb => Sys2Proof.Machine.execDiv c gd ga gb s
  | .divu c gd ga gb => Sys2Proof.Machine.execDivu c gd ga gb s
  | .rem c gd ga gb => Sys2Proof.Machine.execRem c gd ga gb s
  | .remu c gd ga gb => Sys2Proof.Machine.execRemu c gd ga gb s
  | .addi c gd ga imm => Sys2Proof.Machine.execAddi c gd ga imm s
  | .andi c gd ga imm => Sys2Proof.Machine.execAndi c gd ga imm s
  | .ori c gd ga imm => Sys2Proof.Machine.execOri c gd ga imm s
  | .xori c gd ga imm => Sys2Proof.Machine.execXori c gd ga imm s
  | .slti c gd ga imm => Sys2Proof.Machine.execSlti c gd ga imm s
  | .sltiu c gd ga imm => Sys2Proof.Machine.execSltiu c gd ga imm s
  | .lui c gd imm => Sys2Proof.Machine.execLui c gd imm s
  | .slli c gd ga sh => Sys2Proof.Machine.execSlli c gd ga sh s
  | .srli c gd ga sh => Sys2Proof.Machine.execSrli c gd ga sh s
  | .srai c gd ga sh => Sys2Proof.Machine.execSrai c gd ga sh s
  | .rori c gd ga sh => Sys2Proof.Machine.execRori c gd ga sh s
  | .auipc c gd imm => Sys2Proof.Machine.execAuipc c gd imm s
  | .lb c gd ga imm => Sys2Proof.Machine.execLb c gd ga imm s
  | .lbu c gd ga imm => Sys2Proof.Machine.execLbu c gd ga imm s
  | .lh c gd ga imm => Sys2Proof.Machine.execLh c gd ga imm s
  | .lhu c gd ga imm => Sys2Proof.Machine.execLhu c gd ga imm s
  | .lw c gd ga imm => Sys2Proof.Machine.execLw c gd ga imm s
  | .loadResponse c => Sys2Proof.Machine.execLoadResponse c s
  | .sb c gs ga imm => Sys2Proof.Machine.execSb c gs ga imm s
  | .sh c gs ga imm => Sys2Proof.Machine.execSh c gs ga imm s
  | .sw c gs ga imm => Sys2Proof.Machine.execSw c gs ga imm s
  | .swap c gd ga gb => Sys2Proof.Machine.execSwap c gd ga gb s
  | .cas c gd ga gb => Sys2Proof.Machine.execCas c gd ga gb s
  | .beq c ga gb imm => Sys2Proof.Machine.execBeq c ga gb imm s
  | .bne c ga gb imm => Sys2Proof.Machine.execBne c ga gb imm s
  | .blt c ga gb imm => Sys2Proof.Machine.execBlt c ga gb imm s
  | .bge c ga gb imm => Sys2Proof.Machine.execBge c ga gb imm s
  | .bltu c ga gb imm => Sys2Proof.Machine.execBltu c ga gb imm s
  | .bgeu c ga gb imm => Sys2Proof.Machine.execBgeu c ga gb imm s
  | .jal c gd imm => Sys2Proof.Machine.execJal c gd imm s
  | .jr c ga imm => Sys2Proof.Machine.execJr c ga imm s
  | .jalr c gd ga imm => Sys2Proof.Machine.execJalr c gd ga imm s
  | .srr c gd srn => Sys2Proof.Machine.execSrr c gd srn s
  | .srw c ga srn => Sys2Proof.Machine.execSrw c ga srn s
  | .trap c n => Sys2Proof.Machine.execTrap c n s
  | .xret c => Sys2Proof.Machine.execXret c s
  | .fence c => Sys2Proof.Machine.execFence c s
  | .fencei c => Sys2Proof.Machine.execFencei c s
  | .wfe c => Sys2Proof.Machine.execWfe c s
  | .interruptEntry c => Sys2Proof.Machine.execInterruptEntry c s
  | .refusedStore c => Sys2Proof.Machine.execRefusedStore c s
  | .feltTimeout c addr => Sys2Proof.Machine.execFeltTimeout c addr s
  | .budgetExpiry c => Sys2Proof.Machine.execBudgetExpiry c s
  | .userVerb job => Sys2Proof.Machine.execUserVerb job s
  | .sluiceAttrWrite who own n v => Sys2Proof.Machine.execSluiceAttrWrite who own n v s
  | .sluiceBaseWrite who own n high v => Sys2Proof.Machine.execSluiceBaseWrite who own n high v s
  | .sluiceClear who v => Sys2Proof.Machine.execSluiceClear who v s
  | .seedComplete c samples => Sys2Proof.Machine.execSeedComplete c samples s
  | .cellHealthFailure c apt => Sys2Proof.Machine.execCellHealthFailure c apt s
  | .cellRetest c => Sys2Proof.Machine.execCellRetest c s
  | .cellStartupComplete c pass apt => Sys2Proof.Machine.execCellStartupComplete c pass apt s
  | .periodicReseed v => Sys2Proof.Machine.execPeriodicReseed v s
  | .deviceDrbgReseed => Sys2Proof.Machine.execDeviceDrbgReseed s
  | .deviceDrbgReseedTimeout => Sys2Proof.Machine.execDeviceDrbgReseedTimeout s
  | .springReseed who => Sys2Proof.Machine.execSpringReseed who s
  | .springReinstLane who v => Sys2Proof.Machine.execSpringReinstLane who v s
  | .springEnable who => Sys2Proof.Machine.execSpringEnable who s
  | .springRawEnter who => Sys2Proof.Machine.execSpringRawEnter who s
  | .springRawExit who => Sys2Proof.Machine.execSpringRawExit who s
  | .springTest who => Sys2Proof.Machine.execSpringTest who s
  | .springOutRead who => Sys2Proof.Machine.execSpringOutRead who s
  | .springRawRead who => Sys2Proof.Machine.execSpringRawRead who s
  | .vdrOutRead who v => Sys2Proof.Machine.execVdrOutRead who v s
  | .monitorAssert m sensors low temp => Sys2Proof.Machine.execMonitorAssert m sensors low temp s
  | .monitorHeld m low => Sys2Proof.Machine.execMonitorHeld m low s
  | .evidenceBurnPending => Sys2Proof.Machine.execEvidenceBurnPending s
  | .sensorDissent m sensors => Sys2Proof.Machine.execSensorDissent m sensors s
  | .batterySample m asserted => Sys2Proof.Machine.execBatterySample m asserted s
  | .clearResponseDone => Sys2Proof.Machine.execClearResponseDone s
  | .eraseResponseDone => Sys2Proof.Machine.execEraseResponseDone s
  | .tamperAck who v => Sys2Proof.Machine.execTamperAck who v s
  | .vbatLow => Sys2Proof.Machine.execVbatLow s
  | .powerOnReset => Sys2Proof.Machine.execPowerOnReset s
  | .vinCoreGood => Sys2Proof.Machine.execVinCoreGood s
  | .railReady r => Sys2Proof.Machine.execRailReady r s
  | .railAttemptTimeout item detail => Sys2Proof.Machine.execRailAttemptTimeout item detail s
  | .retryPauseEnd item => Sys2Proof.Machine.execRetryPauseEnd item s
  | .domainReady n => Sys2Proof.Machine.execDomainReady n s
  | .pllLock n onRc => Sys2Proof.Machine.execPllLock n onRc s
  | .hbmTrainingDone n => Sys2Proof.Machine.execHbmTrainingDone n s
  | .railLost r => Sys2Proof.Machine.execRailLost r s
  | .pmbAlert fault => Sys2Proof.Machine.execPmbAlert fault s
  | .pmbusTelemetryPoll ok fault => Sys2Proof.Machine.execPmbusTelemetryPoll ok fault s
  | .vatTempSample v t => Sys2Proof.Machine.execVatTempSample v t s
  | .thermalUnpark v => Sys2Proof.Machine.execThermalUnpark v s
  | .thermalStopRelease => Sys2Proof.Machine.execThermalStopRelease s
  | .pmuPowerSample mv da => Sys2Proof.Machine.execPmuPowerSample mv da s
  | .pmuPwrLimitWrite who v => Sys2Proof.Machine.execPmuPwrLimitWrite who v s
  | .vatJoin v ok => Sys2Proof.Machine.execVatJoin v ok s
  | .resetNAsserted => Sys2Proof.Machine.execResetNAsserted s
  | .resetRelease => Sys2Proof.Machine.execResetRelease s
  | .deviceStart fwOk kat late => Sys2Proof.Machine.execDeviceStart fwOk kat late s
  | .resetCmdWarm who key => Sys2Proof.Machine.execResetCmdWarm who key s
  | .resetCmdCold who key => Sys2Proof.Machine.execResetCmdCold who key s
  | .resetCmdVatReset who key v => Sys2Proof.Machine.execResetCmdVatReset who key v s
  | .resetCmdServicePair who key => Sys2Proof.Machine.execResetCmdServicePair who key s
  | .resetCmdClrFail who key => Sys2Proof.Machine.execResetCmdClrFail who key s
  | .powerFail => Sys2Proof.Machine.execPowerFail s
  | .powerFailDrainDone => Sys2Proof.Machine.execPowerFailDrainDone s
  | .holdupEnd => Sys2Proof.Machine.execHoldupEnd s
  | .pwrfailRise => Sys2Proof.Machine.execPwrfailRise s
  | .heldSelfReset => Sys2Proof.Machine.execHeldSelfReset s
  | .shutdown job => Sys2Proof.Machine.execShutdown job s
  | .selfTestComplete pass fails block cells => Sys2Proof.Machine.execSelfTestComplete pass fails block cells s
  | .selfTestConditionsTimeout => Sys2Proof.Machine.execSelfTestConditionsTimeout s
  | .watchdogKick who v => Sys2Proof.Machine.execWatchdogKick who v s
  | .watchdogWarning p => Sys2Proof.Machine.execWatchdogWarning p s
  | .watchdogExpiry p => Sys2Proof.Machine.execWatchdogExpiry p s
  | .wmarkExtend who v => Sys2Proof.Machine.execWmarkExtend who v s
  | .wmarkAdvance v => Sys2Proof.Machine.execWmarkAdvance v s
  | .getVersion vdm m => Sys2Proof.Machine.execGetVersion vdm m s
  | .getCapabilities vdm m => Sys2Proof.Machine.execGetCapabilities vdm m s
  | .negotiateAlgorithms vdm m => Sys2Proof.Machine.execNegotiateAlgorithms vdm m s
  | .getDigests vdm m => Sys2Proof.Machine.execGetDigests vdm m s
  | .getCertificate vdm m => Sys2Proof.Machine.execGetCertificate vdm m s
  | .challenge vdm m => Sys2Proof.Machine.execChallenge vdm m s
  | .getMeasurements vdm m => Sys2Proof.Machine.execGetMeasurements vdm m s
  | .spdmUnsupportedRequest vdm m => Sys2Proof.Machine.execSpdmUnsupportedRequest vdm m s
  | .identity job => Sys2Proof.Machine.execIdentity job s
  | .lifeChallenge job => Sys2Proof.Machine.execLifeChallenge job s
  | .lifeChallengeExpiry => Sys2Proof.Machine.execLifeChallengeExpiry s
  | .lifeChange job => Sys2Proof.Machine.execLifeChange job s
  | .tapInstructionLoad ir dr => Sys2Proof.Machine.execTapInstructionLoad ir dr s
  | .lifeAuthNewChallenge => Sys2Proof.Machine.execLifeAuthNewChallenge s
  | .lifeAuthReadWord => Sys2Proof.Machine.execLifeAuthReadWord s
  | .lifeAuthAppend w => Sys2Proof.Machine.execLifeAuthAppend w s
  | .lifeAuthSubmit => Sys2Proof.Machine.execLifeAuthSubmit s
  | .lifeAuthEmpty => Sys2Proof.Machine.execLifeAuthEmpty s
  | .debugHalt => Sys2Proof.Machine.execDebugHalt s
  | .debugResume => Sys2Proof.Machine.execDebugResume s
  | .debugStep => Sys2Proof.Machine.execDebugStep s
  | .debugReadRegister n => Sys2Proof.Machine.execDebugReadRegister n s
  | .debugWriteRegister n v => Sys2Proof.Machine.execDebugWriteRegister n v s
  | .debugReadSystemRegister n => Sys2Proof.Machine.execDebugReadSystemRegister n s
  | .debugWriteSystemRegister n v => Sys2Proof.Machine.execDebugWriteSystemRegister n v s
  | .debugSetAddress a => Sys2Proof.Machine.execDebugSetAddress a s
  | .debugLoad => Sys2Proof.Machine.execDebugLoad s
  | .debugStore v => Sys2Proof.Machine.execDebugStore v s
  | .debugBreakpoint c => Sys2Proof.Machine.execDebugBreakpoint c s
  | .replayQuarantine job => Sys2Proof.Machine.execReplayQuarantine job s
  | .replayQuarantineReady v => Sys2Proof.Machine.execReplayQuarantineReady v s
  | .replayRun job => Sys2Proof.Machine.execReplayRun job s
  | .replayRunComplete v => Sys2Proof.Machine.execReplayRunComplete v s
  | .replayRelease job => Sys2Proof.Machine.execReplayRelease job s
  | .networkLinkChange port up => Sys2Proof.Machine.execNetworkLinkChange port up s
  | .mkaFrame port icvOk live sa => Sys2Proof.Machine.execMkaFrame port icvOk live sa s
  | .networkFrameReceived port frame fcsOk macsecOk => Sys2Proof.Machine.execNetworkFrameReceived port frame fcsOk macsecOk s
  | .pauseFrame port => Sys2Proof.Machine.execPauseFrame port s
  | .arpRequest port mac ip target => Sys2Proof.Machine.execArpRequest port mac ip target s
  | .neighborSolicitation port mac ip target => Sys2Proof.Machine.execNeighborSolicitation port mac ip target s
  | .responseFrameTransmit port => Sys2Proof.Machine.execResponseFrameTransmit port s
  | .setEndpointId vdm inst op eid => Sys2Proof.Machine.execSetEndpointId vdm inst op eid s
  | .getEndpointId vdm inst => Sys2Proof.Machine.execGetEndpointId vdm inst s
  | .getEndpointUuid vdm inst => Sys2Proof.Machine.execGetEndpointUuid vdm inst s
  | .getMctpVersionSupport vdm inst type => Sys2Proof.Machine.execGetMctpVersionSupport vdm inst type s
  | .getMessageTypeSupport vdm inst => Sys2Proof.Machine.execGetMessageTypeSupport vdm inst s
  | .mctpPacketDrop vdm => Sys2Proof.Machine.execMctpPacketDrop vdm s
  | .uartTransmitWrite who v => Sys2Proof.Machine.execUartTransmitWrite who v s
  | .uartReceiveRead who => Sys2Proof.Machine.execUartReceiveRead who s
  | .uartByteReceived b => Sys2Proof.Machine.execUartByteReceived b s
  | .hbmLineMacFail n line again who => Sys2Proof.Machine.execHbmLineMacFail n line again who s
  | .hbmStackHot n t => Sys2Proof.Machine.execHbmStackHot n t s
  | .uloonLinkUp u peer pondId rootOk halfUs life hops delay => Sys2Proof.Machine.execUloonLinkUp u peer pondId rootOk halfUs life hops delay s
  | .uloonLeaderWaitExpiry => Sys2Proof.Machine.execUloonLeaderWaitExpiry s
  | .uloonSlotTransmit => Sys2Proof.Machine.execUloonSlotTransmit s
  | .uloonSlotFrameReceived u sender start tagOk sync beat offset msgs => Sys2Proof.Machine.execUloonSlotFrameReceived u sender start tagOk sync beat offset msgs s
  | .transportKeyDistribute d => Sys2Proof.Machine.execTransportKeyDistribute d s
  | .cardInserted n => Sys2Proof.Machine.execCardInserted n s
  | .cardAtrReceived n atr timely => Sys2Proof.Machine.execCardAtrReceived n atr timely s
  | .cardAtrTimeout n ts => Sys2Proof.Machine.execCardAtrTimeout n ts s
  | .cardRetryDelayEnd n => Sys2Proof.Machine.execCardRetryDelayEnd n s
  | .cardPpsResponse n echo => Sys2Proof.Machine.execCardPpsResponse n echo s
  | .cardPpsTimeout n => Sys2Proof.Machine.execCardPpsTimeout n s
  | .cardActivate who n => Sys2Proof.Machine.execCardActivate who n s
  | .cardDeactivate who n => Sys2Proof.Machine.execCardDeactivate who n s
  | .cardSend who n => Sys2Proof.Machine.execCardSend who n s
  | .cardBlockReceived n data ok => Sys2Proof.Machine.execCardBlockReceived n data ok s
  | .cardWaitTimeout n => Sys2Proof.Machine.execCardWaitTimeout n s
  | .cardExchangeTimeout n => Sys2Proof.Machine.execCardExchangeTimeout n s
  | .cardClockStop n => Sys2Proof.Machine.execCardClockStop n s
  | .cardRemoved n => Sys2Proof.Machine.execCardRemoved n s
  | .clessPing amp cards => Sys2Proof.Machine.execClessPing amp cards s
  | .clessFrameReceived data ok => Sys2Proof.Machine.execClessFrameReceived data ok s
  | .clessFwtTimeout => Sys2Proof.Machine.execClessFwtTimeout s
  | .clessExchangeTimeout => Sys2Proof.Machine.execClessExchangeTimeout s
  | .clessSend who => Sys2Proof.Machine.execClessSend who s
  | .clessDeselect who => Sys2Proof.Machine.execClessDeselect who s
  | .clessUidExpiry => Sys2Proof.Machine.execClessUidExpiry s
  | .quorumOpen job => Sys2Proof.Machine.execQuorumOpen job s
  | .quorumList job => Sys2Proof.Machine.execQuorumList job s
  | .quorumApproval src pub sig ok => Sys2Proof.Machine.execQuorumApproval src pub sig ok s
  | .quorumTimeout => Sys2Proof.Machine.execQuorumTimeout s
  | .quorumGrantLapse => Sys2Proof.Machine.execQuorumGrantLapse s
  | .quorumGuardWrite who v => Sys2Proof.Machine.execQuorumGuardWrite who v s
  | .evtDoorbell who v => Sys2Proof.Machine.execEvtDoorbell who v s
  | .evtPendClear who k v => Sys2Proof.Machine.execEvtPendClear who k v s
  | .vevRing who u v => Sys2Proof.Machine.execVevRing who u v s
  | .evtTracePut who v => Sys2Proof.Machine.execEvtTracePut who v s
  | .errcClear who k v => Sys2Proof.Machine.execErrcClear who k v s
  | .errcQPop who v => Sys2Proof.Machine.execErrcQPop who v s
  | .illegalInstruction c w => Sys2Proof.Machine.execIllegalInstruction c w s
  | .instructionFetchFault c => Sys2Proof.Machine.execInstructionFetchFault c s
  | .storeAcknowledged c n => Sys2Proof.Machine.execStoreAcknowledged c n s
  | .lossOfMainPower => Sys2Proof.Machine.execLossOfMainPower s
  | .vbatFirstApplied => Sys2Proof.Machine.execVbatFirstApplied s
  | .vbatRemoved => Sys2Proof.Machine.execVbatRemoved s
  | .monitorDeassert m sensors temp => Sys2Proof.Machine.execMonitorDeassert m sensors temp s
  | .rawSampleWord c w => Sys2Proof.Machine.execRawSampleWord c w s
  | .mkaLivePeerLost port => Sys2Proof.Machine.execMkaLivePeerLost port s
  | .hostLinkUp bme => Sys2Proof.Machine.execHostLinkUp bme s
  | .reservoirLinkUp q gen width ident => Sys2Proof.Machine.execReservoirLinkUp q gen width ident s
  | .uloonLinkDown u => Sys2Proof.Machine.execUloonLinkDown u s
  | .smbusClockLowTimeout pmbus => Sys2Proof.Machine.execSmbusClockLowTimeout pmbus s

end Sys2Proof.Machine
end

