-- ==== Sys2Proof/Safety.lean ====
section
/-! DEFINITION. What claims are stated in terms of: a command that completes, a safe step, and when a core of the AX32 issues. -/

namespace Sys2Proof

/-- A step is safe when it neither faults nor refuses. -/
def safeStep (s : Machine.State) : Prop := ∃ t, Machine.step s = .next t

namespace Machine

/-- Command `c` answers a next state, of which `P` holds. -/
def Completes (c : Instr) (s : State) (P : State → Prop) : Prop := ∃ t, exec c s = .next t ∧ P t

/-- Memory, the cores and every register outside `ks` are as before. -/
def State.onlyRegs (s t : State) (ks : List Nat) : Prop := t.mem = s.mem ∧ t.cores = s.cores ∧ ∀ j, j ∉ ks → t.reg j = s.reg j

/-- Event `n` is pending. -/
def State.pends (s : State) (n : Nat) : Prop := s.regBit (R.EVT_PEND (n / 32)) (n % 32) = true

/-! ### The invariant -/

/-- Memory and the register file stand in their canonical form, and the cores are 66: what every step keeps. -/
def State.Inv (s : State) : Prop := memWf s.mem = true ∧ spWf regReset s.regs = true ∧ s.cores.length = 66

/-! ### Senders -/

/-- The device runs, and core `c` with it. -/
def State.live (s : State) (c : Nat) : Prop :=
  s.pw.inReset = false ∧ s.pw.held = false ∧ s.tripped = false ∧ (s.core c).inReset = false ∧ (s.core c).locked = false

/-- `who` is a running warden core at privileged level, and its word access to the register at `a` is admitted by target and sluice. -/
def State.wardenAt (s : State) (who : Sender) (kind : Kind) (a : Nat) : Prop :=
  ∃ c : Core, who = .core c true ∧ 64 ≤ c.val ∧ s.live c ∧ s.busCheck who kind .word a = none

/-- `who` is the running core of vat `v` at privileged level. -/
def State.vatCoreAt (s : State) (who : Sender) (v : Vat) : Prop := who = .core ⟨v.val, by omega⟩ true ∧ s.live v.val

/-- `who` is host software through function `f`, and the device runs. -/
def State.hostAt (s : State) (who : Sender) (f : Fin 17) : Prop :=
  who = .host f ∧ s.pw.inReset = false ∧ s.pw.held = false ∧ s.tripped = false

/-! ### Jobs -/

/-- Job `i` has ended with this outcome. -/
def State.ended (t : State) (i cls reason : Nat) (result output : Bytes) : Prop :=
  (t.job? i).map (fun j => (j.ready, j.cls, j.reason, j.result, j.output)) = some (true, cls, reason, result, output)

/-- Job `i` will be answered without placement, with this class and reason, at edge `e`. -/
def State.answers (t : State) (i cls reason e : Nat) : Prop :=
  (t.job? i).map (fun j => (j.stage, j.ready, j.cls, j.reason, j.due)) = some (.answered, true, cls, reason, some e)

/-- The command `i` has been answered, to be released at edge `e`. -/
def State.commandDone (t : State) (i cls e : Nat) : Prop :=
  (t.job? i).map (fun j => (j.ready, j.cls, j.due)) = some (true, cls, some e)

/-! ### Cores -/

/-- Core `c` runs, and no store report, budget end or debug event awaits its next boundary (R534). -/
def State.calm (s : State) (c : Nat) : Prop :=
  s.cores.length = 66 ∧ s.coresRun = true ∧ (s.core c).inReset = false ∧ (s.core c).locked = false ∧ (s.core c).report = none ∧
    (s.core c).budgetDue = false ∧ (s.core c).stepping = false ∧ (s.core c).haltReq = false

/-- Core `c` can issue, and nothing but its next instruction is due: its fetch is allowed, no breakpoint, step, halt request, store report
or budget end stands, and it is privileged or has no budget (R481, R533, R543). -/
def State.issues (s : State) (c : Nat) : Prop :=
  s.calm c ∧ s.coreReady c = true ∧ s.fetchDeny c = none ∧ s.bkptHit c = false ∧ bit (s.core c).dbgCtrl 1 = false ∧
    ((s.core c).priv = true ∨ (s.core c).xbudget = 0)

/-- Core `c` as it stands when its next instruction takes effect: the load whose slot this is has completed (R492, R493). -/
def State.atIssue (s : State) (c : Nat) : CoreState := { (s.core c).slotDone with wfe := false }

/-- The state in which core `c` holds `y` and has retired one instruction, going on at `pc`; all else is unchanged. -/
def State.retired (s : State) (c : Nat) (y : CoreState) (pc : Word) : State := s.setCore c { y with pc := pc, retired := y.retired + 1 }

/-- An instruction has put `v` in `gd`, tainted if one of `srcs` was, and core `c` goes on behind it. -/
def State.gprDone (s : State) (c : Nat) (gd : Gpr) (srcs : List Gpr) (v : Word) : State :=
  s.retired c ((s.atIssue c).put gd v (srcs.any (s.core c).tainted)) ((s.core c).pc + 4)

/-- Core `c` has retired one instruction and goes on at `pc` with the registers `gpr`; its status and store buffer, memory, the registers of
the blocks and the other cores are unchanged. -/
def State.flowed (s t : State) (c : Nat) (gpr : List Word) (pc : Word) : Prop :=
  let x := s.core c
  let y := t.core c
  y.pc = pc ∧ y.gpr = gpr ∧ y.retired = x.retired + 1 ∧ y.xstatus = x.xstatus ∧ y.sb = x.sb ∧ t.regs = s.regs ∧ t.mem = s.mem ∧
    ∀ d, d ≠ c → t.core d = s.core d

/-- Core `c` may make a privileged word access to local address `addr`, in its tile SRAM or, in a warden, boot ROM or warden SRAM. -/
def State.stackMay (s : State) (c : Nat) (kind : Kind) (addr : Word) : Prop :=
  match s.route c addr with
  | .own k => k + 4 ≤ 0x40000 ∧ k % 4 = 0 ∧ s.localCheck c true kind .word k = none
  | .fab k => (k + 4 ≤ 0x40000 ∨ (0x10000000 ≤ k ∧ k + 4 ≤ 0x10800000)) ∧ k % 4 = 0 ∧ s.busCheck (coreSender c true) kind .word k = none
  | .deny _ => False

/-- The local address of the word of vector `v`. -/
def CoreState.vectorAt (x : CoreState) (v : Nat) : Word := w32 (field x.vbar 31 8 * 256 + 4 * v)

/-- The frame of an entry (R531). -/
def frameBytes (epc status cause addr : Word) : Bytes :=
  leBytes 4 epc.toNat ++ leBytes 4 status.toNat ++ leBytes 4 cause.toNat ++ leBytes 4 addr.toNat

/-- The state with the frame of an entry on core `c`'s stack. -/
def State.framed (s : State) (c : Nat) (epc cause addr : Word) : State :=
  s.write (s.fabOf c ((s.core c).xsp - 16)) (frameBytes epc (s.core c).xstatus cause addr)

/-- Core `c` can enter vector `v` without locking up (R537), its store buffer empty. -/
def State.canEnter (s : State) (c v : Nat) (epc cause addr : Word) : Prop :=
  let x := s.core c
  let sp := x.xsp - 16
  x.sb = [] ∧ 16 ≤ x.xsp.toNat ∧ x.xsplim.toNat ≤ sp.toNat ∧ x.xsp.toNat % 16 = 0 ∧ bit x.vbar 0 = true ∧ s.frameAt c sp = true ∧
    s.stackMay c .store sp ∧ s.stackMay c .store (sp + 4) ∧ s.stackMay c .store (sp + 8) ∧ s.stackMay c .store (sp + 12) ∧
    s.stackMay c .load (x.vectorAt v) ∧
    leNat ((s.framed c epc cause addr).read (s.fabOf c (x.vectorAt v)) 4) % 4 = 0

/-- Core `c` of `s` has entered vector `v` in `t` (R530): frame, XSP, XCAUSE, XADDR, XEPC, XSTATUS, XDEPTH, predictor and PC; no register
of a block, no other core and no other memory has changed. -/
def State.entered (s t : State) (c v : Nat) (epc cause addr : Word) (pri : Nat) : Prop :=
  let x := s.core c
  let y := t.core c
  let sp := x.xsp - 16
  y.xsp = sp ∧ y.xcause = cause ∧ y.xaddr = addr ∧ y.xepc = epc ∧ bit y.xstatus 0 = true ∧ bit y.xstatus 1 = false ∧ y.pri = pri ∧
    y.gpr = (s.atIssue c).gpr ∧ y.xdepth = w32 (min 255 (x.xdepth.toNat + 1)) ∧ y.predictor = List.replicate 256 0 ∧
    t.read (s.fabOf c sp) 16 = frameBytes epc x.xstatus cause addr ∧
    y.pc = w32 (leNat (t.read (s.fabOf c (x.vectorAt v)) 4)) ∧
    t.regs = s.regs ∧ (∀ d, d ≠ c → t.core d = s.core d) ∧
    ∀ p, (p < s.fabOf c sp ∨ s.fabOf c sp + 16 ≤ p) → t.byte p = s.byte p

end Machine
end Sys2Proof
end

