-- ==== Sys2Proof/Certificates/Slice0/Obligations.lean ====
section
/-! DEFINITION. The statements: every family of commands and every kind of state, from the numbered rules of the spec. -/

open Sys2Proof Sys2Proof.Machine

/-- The queue of waiting commands: a step runs the command at the front on the rest of the queue, and on an empty queue lets one felt cycle
pass (the model's choice, notes/assumptions/2.md). -/
def Obligations.StepRunsTheFrontCommand : Prop :=
  ∀ (s : State), (∀ c cs, s.pending = c :: cs → step s = exec c { s with pending := cs }) ∧
    (s.pending = [] → step s = .next { s with now := s.now + 1 })

/-- The machine after reset has its invariant: memory and registers in canonical form (the model's own representation, as Safety.lean
defines it). -/
def Obligations.ResetHasInvariant : Prop :=
State.reset.Inv

/-- Every step keeps the invariant, from every state that has it. -/
def Obligations.EveryStepKeepsInvariant : Prop :=
∀ s t : State, s.Inv → step s = .next t → t.Inv

/-- R478, R547, R561, R617, R778, R877: what reset leaves: cores at address 0, privileged, with registers, store buffer and predictor empty
and run-ahead on; every sluice entry invalid and the tables' sizes; the levels of the tamper sources; the egress times; the fixed journal
bits; and no command waiting. -/
def Obligations.ResetLeaves : Prop :=
  (∀ c : Core, let x := State.reset.core c
    x.pc = 0 ∧ x.priv = true ∧ (∀ g : Gpr, x.rd g = 0) ∧ x.sb = [] ∧ (∀ b ∈ x.predictor, b = 0) ∧ x.returns = [] ∧ x.taint = 0 ∧ x.spec = 6) ∧
  (∀ n : Fin 4736, State.reset.reg (R.SLUICE_ATTR n) = 0 ∧ State.reset.reg (R.SLUICE_BASE n) = 0 ∧ State.reset.reg (R.SLUICE_BASEH n) = 0) ∧
  (∀ t : Fin 37, (State.reset.shown (R.SLUICE_TABLE t)).toNat =
    (if t.val < 26 ∨ (32 ≤ t.val ∧ t.val < 35) then 32 else if 35 ≤ t.val then 128 else 0)) ∧
  (∀ m : Fin 8, State.reset.regField (R.TAMPER_SRC_CFG m) 1 0 = (if m.val = 4 then 2 else if m.val < 6 then 1 else 0) ∧
    State.reset.regField (R.TAMPER_SRC_CFG m) 11 8 = if m.val = 4 ∨ m.val = 6 then 1 else 3) ∧
  (∀ p : Fin 64, State.reset.reg (R.NETW_EGRESS p) = if p.val < 16 ∨ 48 ≤ p.val then 1180 else 1140) ∧
  State.reset.reg (R.EVT_JNL 7) = 0x00000700 ∧ State.reset.reg (R.EVT_JNL 9) = 0x4FFFFF3F ∧ State.reset.reg (R.EVT_JNL 12) = 0x00001C41 ∧
  State.reset.pending = []

/-- R11, R12, R26, R894: a plain write changes the writable bits of its register and no other register; a read-only register stays; locked
bits stay and are recorded with code 3; a value out of range leaves the register and is recorded with code 4; a vat core may not write a
control block and is recorded with code 1. -/
def Obligations.RegisterWriteKinds : Prop :=
  ∀ (s : State) (who : Sender) (v : Word),
    (∀ p ∈ [(R.BEAT_TICK_DIV, 0xFFFF#32), (R.BEAT_PPS_LIMIT, 0xFFFF#32)], s.wardenAt who .store p.1 →
      Completes (.registerWrite who .word p.1 v) s fun t =>
        t.reg p.1 = s.reg p.1 &&& ~~~p.2 ||| v &&& p.2 ∧ s.onlyRegs t [p.1]) ∧
    (s.wardenAt who .store R.BEAT_STATUS → Completes (.registerWrite who .word R.BEAT_STATUS v) s fun t => s.onlyRegs t []) ∧
    (s.wardenAt who .store R.BEAT_CTRL → s.regBit R.BEAT_CTRL 31 = true → bit v 0 = false → (v ^^^ s.reg R.BEAT_CTRL) &&& 0x80000038 ≠ 0 →
      Completes (.registerWrite who .word R.BEAT_CTRL v) s fun t =>
        t.reg R.BEAT_CTRL = s.reg R.BEAT_CTRL ∧ t.regField (R.ERRC_LAST 0 0) 31 24 = 3 ∧ t.reg (R.ERRC_LAST 0 1) = 0) ∧
    (s.wardenAt who .store R.EVT_WDOG_CTRL → s.regBit R.EVT_WDOG_CTRL 31 = false → field v 9 0 = 0 →
      Completes (.registerWrite who .word R.EVT_WDOG_CTRL v) s fun t =>
        t.reg R.EVT_WDOG_CTRL = s.reg R.EVT_WDOG_CTRL ∧ t.regField (R.ERRC_LAST 0x0D 0) 31 24 = 4) ∧
    (∀ (c : Core) (p : Bool), who = .core c p → c.val < 64 → s.live c →
      Completes (.registerWrite who .word R.BEAT_TICK_DIV v) s fun t =>
        t.reg R.BEAT_TICK_DIV = s.reg R.BEAT_TICK_DIV ∧ t.regField (R.ERRC_LAST 0 0) 31 24 = 1 ∧
        t.regField (R.ERRC_LAST 0 0) 23 17 = c.val)

/-- R873 to R876: a doorbell raises event 576 + n, and counts in the weir when it is pending already; clearing pending bits clears their
weir counts; a warden's ring raises a vat's local event 32 + n. -/
def Obligations.DoorbellPendClearAndRing : Prop :=
  ∀ (s : State) (who : Sender) (v : Word),
    (∀ (c : Core) (p : Bool), who = .core c p → s.live c → s.busCheck who .store .word R.EVT_DOORBELL = none →
      let n := 576 + field v 5 0
      Completes (.evtDoorbell who v) s fun t =>
        t.pends n ∧ t.reg (R.EVT_WEIR n) = if s.regBit (R.EVT_PEND (n / 32)) (n % 32) then satInc (s.reg (R.EVT_WEIR n)) else s.reg (R.EVT_WEIR n)) ∧
    (∀ k : Fin 20, s.wardenAt who .store (R.EVT_PEND k) →
      Completes (.evtPendClear who k v) s fun t =>
        t.reg (R.EVT_PEND k) = s.reg (R.EVT_PEND k) &&& ~~~v ∧ (∀ i, i < 32 → bit v i = true → t.reg (R.EVT_WEIR (32 * k + i)) = 0) ∧
        s.onlyRegs t (R.EVT_PEND k :: ((List.range 32).filter (bit v)).map fun i => R.EVT_WEIR (32 * k + i))) ∧
    (∀ u : Vat, s.wardenAt who .store (R.VEV_RING u) →
      Completes (.vevRing who u v) s fun t =>
        t.regBit (R.VEV_PEND_HI u) (field v 4 0) = true ∧ s.onlyRegs t [R.VEV_PEND_HI u] ∧
        ∀ i, i < 32 → i ≠ field v 4 0 → t.regBit (R.VEV_PEND_HI u) i = s.regBit (R.VEV_PEND_HI u) i)

/-- R870, R875: an event arriving at the controller sets its pending bit, or adds one to its weir when the bit is set, and no other event's
bit changes, whatever the event. -/
def Obligations.EventArrivalOnce : Prop :=
  ∀ (s : State) (n : Nat), n < 640 →
    (s.pendEvent n).pends n ∧
    (s.pendEvent n).reg (R.EVT_WEIR n) =
      (if s.regBit (R.EVT_PEND (n / 32)) (n % 32) then satInc (s.reg (R.EVT_WEIR n)) else s.reg (R.EVT_WEIR n)) ∧
    s.onlyRegs (s.pendEvent n) [R.EVT_PEND (n / 32), R.EVT_WEIR n] ∧
    ∀ i, i < 32 → i ≠ n % 32 → (s.pendEvent n).regBit (R.EVT_PEND (n / 32)) i = s.regBit (R.EVT_PEND (n / 32)) i

/-- R882, R885, R887: recording an entry keeps the first since the source was cleared, always the latest, and the count; it goes to the
shared queue with the source in the sender's place, or is counted as lost when 64 entries stand there; the source's event is raised only by
the first entry. -/
def Obligations.ErrorCaptureRecords : Prop :=
  ∀ (s : State) (src : Nat) (e : ErrEntry), src < 128 →
    let t := s.capture src e
    (∀ w : Fin 4, t.reg (R.ERRC_LAST src w) = w32 (e.words.getD w 0)) ∧
    t.reg (R.ERRC_COUNT src) = satInc (s.reg (R.ERRC_COUNT src)) ∧
    (s.reg (R.ERRC_COUNT src) = 0 → ∀ w : Fin 4, t.reg (R.ERRC_FIRST src w) = w32 (e.words.getD w 0)) ∧
    (s.reg (R.ERRC_COUNT src) ≠ 0 → ∀ w : Fin 4, t.reg (R.ERRC_FIRST src w) = s.reg (R.ERRC_FIRST src w)) ∧
    (s.ev.errQ.length < 64 → t.ev.errQ = s.ev.errQ ++ [(src, e.forQueue src)]) ∧
    (64 ≤ s.ev.errQ.length → t.ev.errQ = s.ev.errQ ∧ t.regBit R.ERRC_Q_FLAGS 0 = true ∧
      t.reg R.ERRC_Q_LOST = satInc (s.reg R.ERRC_Q_LOST)) ∧
    (s.reg (R.ERRC_COUNT src) = 0 → t.pends (if src < 0x26 then 448 + src else 486)) ∧
    (s.reg (R.ERRC_COUNT src) ≠ 0 → s.ev.errQ.length < 64 → ∀ k : Fin 20, t.reg (R.EVT_PEND k) = s.reg (R.EVT_PEND k))

/-- R886, R899: ERRC_CLEAR with bit 0 set zeroes the source's count and first entry, its latest entry staying; ERRC_Q_POP removes the head
of the shared queue. The first entry reading zero after a clear is the model's choice (notes/assumptions/30.md). R888, R889: EVT_TRACE_PUT
writes one 16-byte entry at the write pointer and advances it; an entry that would make it equal to the read pointer is discarded and
counted. -/
def Obligations.ErrorAndTraceCommands : Prop :=
  (∀ (s : State) (who : Sender) (v : Word), bit v 0 = true →
     (∀ k : Fin 128, s.wardenAt who .store (R.ERRC_CLEAR k) →
       Completes (.errcClear who k v) s fun t =>
         t.reg (R.ERRC_COUNT k) = 0 ∧ (∀ w : Fin 4, t.reg (R.ERRC_FIRST k w) = 0) ∧
         s.onlyRegs t [R.ERRC_COUNT k, R.ERRC_FIRST k 0, R.ERRC_FIRST k 1, R.ERRC_FIRST k 2, R.ERRC_FIRST k 3]) ∧
     (s.wardenAt who .store R.ERRC_Q_POP →
       Completes (.errcQPop who v) s fun t => t.ev.errQ = s.ev.errQ.drop 1 ∧ s.onlyRegs t [])) ∧
  (∀ (s : State) (who : Sender) (v : Word), s.wardenAt who .store R.EVT_TRACE_PUT → s.reg R.EVT_TRACE_SIZE ≠ 0 →
     let size := (s.reg R.EVT_TRACE_SIZE).toNat
     let wr := (s.reg R.EVT_TRACE_WR).toNat
     let a := 0x10000000 + (s.reg R.EVT_TRACE_BASE).toNat + wr
     let entry := leBytes 2 0xFFFF ++ leBytes 1 (stopOf who) ++ [0] ++ leBytes 4 s.beat ++ leBytes 4 s.phase ++ leBytes 4 v.toNat
     ((wr + 16) % size ≠ (s.reg R.EVT_TRACE_RD).toNat →
       Completes (.evtTracePut who v) s fun t =>
         t.read a 16 = entry ∧ t.reg R.EVT_TRACE_WR = w32 ((wr + 16) % size) ∧ (∀ j, j ≠ R.EVT_TRACE_WR → t.reg j = s.reg j) ∧
         ∀ p, (p < a ∨ a + 16 ≤ p) → t.byte p = s.byte p) ∧
     ((wr + 16) % size = (s.reg R.EVT_TRACE_RD).toNat →
       Completes (.evtTracePut who v) s fun t =>
         t.reg R.EVT_TRACE_LOST = satInc (s.reg R.EVT_TRACE_LOST) ∧ t.reg R.EVT_TRACE_WR = s.reg R.EVT_TRACE_WR ∧
         (s.ev.traceDrop = false → t.pends 487)))

/-- R790: a byte written while the transmitter is on leaves behind those that wait; while it is off it waits; with 1,024 bytes in the FIFO
it is dropped and counted. A read takes the oldest byte received, and a character received enters the receive FIFO or sets the overrun bit.
-/
def Obligations.ConsoleBytes : Prop :=
  ∀ (s : State) (who : Sender) (v : Word) (b : Byte),
    (s.wardenAt who .store R.MGMT_UART_DATA →
      (s.uartFill < 1024 → s.regBit R.MGMT_UART_CTRL 16 = true →
        Completes (.uartTransmitWrite who v) s fun t =>
          t.out = ⟨.console, s.beat, s.lk.uartTx ++ [by8 v.toNat]⟩ :: s.out ∧ t.lk.uartTx = [] ∧ s.onlyRegs t []) ∧
      (s.uartFill < 1024 → s.regBit R.MGMT_UART_CTRL 16 = false →
        Completes (.uartTransmitWrite who v) s fun t => t.lk.uartTx = s.lk.uartTx ++ [by8 v.toNat] ∧ t.out = s.out ∧ s.onlyRegs t []) ∧
      (1024 ≤ s.uartFill →
        Completes (.uartTransmitWrite who v) s fun t =>
          t.reg R.MGMT_UART_TX_LOST = satInc (s.reg R.MGMT_UART_TX_LOST) ∧ t.pends 237 ∧ t.out = s.out)) ∧
    (∀ bs, s.wardenAt who .load R.MGMT_UART_DATA → s.lk.uartRx = b :: bs →
      Completes (.uartReceiveRead who) s fun t => t.lk.uartRx = bs ∧ s.onlyRegs t []) ∧
    (s.regBit R.MGMT_UART_CTRL 17 = true →
      (s.lk.uartRx.length < 1024 → Completes (.uartByteReceived b) s fun t => t.lk.uartRx = s.lk.uartRx ++ [b] ∧ s.onlyRegs t []) ∧
      (1024 ≤ s.lk.uartRx.length →
        Completes (.uartByteReceived b) s fun t => t.regBit R.MGMT_UART_STATUS 31 = true ∧ t.lk.uartRx = s.lk.uartRx))

/-- R485: sums, differences and products, which wrap modulo 2^32. Each goes to `gd` alone, and the core goes on behind the instruction.
R485: logic, comparisons and shifts by bits [4:0] of `gb`. R484: the operations with a constant. ADDI, SLTI and SLTIU extend the sign, the
logical ones extend with zeros, and AUIPC starts from the instruction's own address. -/
def Obligations.AxAluResults : Prop :=
  (∀ (s : State) (c : Core) (gd ga gb : Gpr), s.issues c →
     let a := (s.core c).rd ga
     let b := (s.core c).rd gb
     exec (.add c gd ga gb) s = .next (s.gprDone c gd [ga, gb] (w32 (a.toNat + b.toNat))) ∧
     exec (.sub c gd ga gb) s = .next (s.gprDone c gd [ga, gb] (BitVec.ofInt 32 (a.toInt - b.toInt))) ∧
     exec (.mul c gd ga gb) s = .next (s.gprDone c gd [ga, gb] (w32 (a.toNat * b.toNat))) ∧
     exec (.mulh c gd ga gb) s = .next (s.gprDone c gd [ga, gb] (BitVec.ofInt 32 (a.toInt * b.toInt / 2 ^ 32))) ∧
     exec (.mulhu c gd ga gb) s = .next (s.gprDone c gd [ga, gb] (w32 (a.toNat * b.toNat / 2 ^ 32)))) ∧
  (∀ (s : State) (c : Core) (gd ga gb : Gpr), s.issues c →
     let a := (s.core c).rd ga
     let b := (s.core c).rd gb
     let n := b.toNat % 32
     exec (.andR c gd ga gb) s = .next (s.gprDone c gd [ga, gb] (a &&& b)) ∧
     exec (.orR c gd ga gb) s = .next (s.gprDone c gd [ga, gb] (a ||| b)) ∧
     exec (.xorR c gd ga gb) s = .next (s.gprDone c gd [ga, gb] (a ^^^ b)) ∧
     exec (.nor c gd ga gb) s = .next (s.gprDone c gd [ga, gb] (~~~(a ||| b))) ∧
     exec (.slt c gd ga gb) s = .next (s.gprDone c gd [ga, gb] (if a.toInt < b.toInt then 1 else 0)) ∧
     exec (.sltu c gd ga gb) s = .next (s.gprDone c gd [ga, gb] (if a.toNat < b.toNat then 1 else 0)) ∧
     exec (.sll c gd ga gb) s = .next (s.gprDone c gd [ga, gb] (w32 (a.toNat * 2 ^ n))) ∧
     exec (.srl c gd ga gb) s = .next (s.gprDone c gd [ga, gb] (w32 (a.toNat / 2 ^ n))) ∧
     exec (.sra c gd ga gb) s = .next (s.gprDone c gd [ga, gb] (BitVec.ofInt 32 (a.toInt / 2 ^ n))) ∧
     exec (.ror c gd ga gb) s = .next (s.gprDone c gd [ga, gb] (a >>> n ||| a <<< (32 - n)))) ∧
  (∀ (s : State) (c : Core) (gd ga : Gpr) (imm : BitVec 16) (sh : BitVec 5), s.issues c →
     let a := (s.core c).rd ga
     let n := sh.toNat
     exec (.addi c gd ga imm) s = .next (s.gprDone c gd [ga] (BitVec.ofInt 32 (a.toInt + imm.toInt))) ∧
     exec (.andi c gd ga imm) s = .next (s.gprDone c gd [ga] (a &&& w32 imm.toNat)) ∧
     exec (.ori c gd ga imm) s = .next (s.gprDone c gd [ga] (a ||| w32 imm.toNat)) ∧
     exec (.xori c gd ga imm) s = .next (s.gprDone c gd [ga] (a ^^^ w32 imm.toNat)) ∧
     exec (.slti c gd ga imm) s = .next (s.gprDone c gd [ga] (if a.toInt < imm.toInt then 1 else 0)) ∧
     exec (.sltiu c gd ga imm) s = .next (s.gprDone c gd [ga] (if a.toNat < (imm.signExtend 32).toNat then 1 else 0)) ∧
     exec (.lui c gd imm) s = .next (s.gprDone c gd [] (w32 (imm.toNat * 65536))) ∧
     exec (.auipc c gd imm) s = .next (s.gprDone c gd [] ((s.core c).pc + w32 (imm.toNat * 65536))) ∧
     exec (.slli c gd ga sh) s = .next (s.gprDone c gd [ga] (w32 (a.toNat * 2 ^ n))) ∧
     exec (.srli c gd ga sh) s = .next (s.gprDone c gd [ga] (w32 (a.toNat / 2 ^ n))) ∧
     exec (.srai c gd ga sh) s = .next (s.gprDone c gd [ga] (BitVec.ofInt 32 (a.toInt / 2 ^ n))) ∧
     exec (.rori c gd ga sh) s = .next (s.gprDone c gd [ga] (a >>> n ||| a <<< (32 - n))))

/-- R486: division never raises an exception, whatever the operands; by zero it gives 0xFFFF_FFFF and the remainder `ga`; the most negative
number by −1 gives itself and the remainder 0. -/
def Obligations.AxDivisionNeverTraps : Prop :=
  ∀ (s : State) (c : Core) (gd ga gb : Gpr), s.issues c →
    let a := (s.core c).rd ga
    let b := (s.core c).rd gb
    exec (.div c gd ga gb) s = .next (s.gprDone c gd [ga, gb]
      (if b = 0 then 0xFFFFFFFF else if a = 0x80000000 ∧ b = 0xFFFFFFFF then 0x80000000 else a.sdiv b)) ∧
    exec (.divu c gd ga gb) s = .next (s.gprDone c gd [ga, gb] (if b = 0 then 0xFFFFFFFF else a / b)) ∧
    exec (.rem c gd ga gb) s = .next (s.gprDone c gd [ga, gb]
      (if b = 0 then a else if a = 0x80000000 ∧ b = 0xFFFFFFFF then 0 else a.srem b)) ∧
    exec (.remu c gd ga gb) s = .next (s.gprDone c gd [ga, gb] (if b = 0 then a else a % b))

/-- A load from a vat core's own tile SRAM, aligned and allowed by its sluice, with no buffered store on its bytes, completes with the bytes
at the address, extended as the instruction says; its value is written once its slot instruction has read the registers (R491, R492). R492,
R506: the answer to an outstanding aperture load from HBM completes it with the word read. -/
def Obligations.AxLoads : Prop :=
  (∀ (s : State) (c : Core) (gd ga : Gpr) (imm : BitVec 16), s.issues c → c.val < 64 →
     let x := s.core c
     let a := x.rd ga + imm.signExtend 32
     let at_ := 0x1000000000 + 0x1000000 * c.val + a.toNat
     let done (v : Word) : State := s.setCore c { s.atIssue c with pc := x.pc + 4, retired := x.retired + 1, slot := some (gd, v, false) }
     let free (n : Nat) : Prop := a.toNat % n = 0 ∧ ∀ e ∈ x.sb, e.fab + 4 ≤ at_ ∨ at_ + 4 ≤ e.fab
     a.toNat < 0x40000 → s.sluiceJudge 0 ⟨c, x.priv, .load, a.toNat, some c⟩ = none →
     (free 1 → exec (.lb c gd ga imm) s = .next (done ((s.byte at_).signExtend 32)) ∧
       exec (.lbu c gd ga imm) s = .next (done ((s.byte at_).zeroExtend 32))) ∧
     (free 2 → exec (.lh c gd ga imm) s = .next (done ((s.byte (at_ + 1) ++ s.byte at_).signExtend 32)) ∧
       exec (.lhu c gd ga imm) s = .next (done ((s.byte (at_ + 1) ++ s.byte at_).zeroExtend 32))) ∧
     (free 4 → exec (.lw c gd ga imm) s =
       .next (done (s.byte (at_ + 3) ++ s.byte (at_ + 2) ++ s.byte (at_ + 1) ++ s.byte at_)))) ∧
  (∀ (s : State) (c : Core) (o : OutLoad) (k l : Nat), s.cores.length = 66 → s.coresRun = true → (s.core c).inReset = false →
     (s.core c).locked = false → (s.core c).load = some o → o.size = .word → targetOf o.fab = .hbm k l →
     s.busCheck (coreSender c o.priv) .load .word o.fab = none → s.poisonAt o.fab = false →
     Completes (.loadResponse c) s fun t =>
       t = s.setCore c { s.core c with
         load := none, slot := some (o.gd, w32 (leNat (s.read o.fab 4)), false), pc := (s.core c).pc + 4, retired := (s.core c).retired + 1 })

/-- R505, R514: a store of a vat core to its own tile SRAM enters the store buffer, of 8 places, and retires; memory is unchanged until the
store is performed. R513, R514: the store at the front of the buffer, to the core's own tile SRAM, is performed: exactly its bytes change in
memory, and its place is free. -/
def Obligations.AxStores : Prop :=
  (∀ (s : State) (c : Core) (gs ga : Gpr) (imm : BitVec 16), s.issues c → c.val < 64 → (s.core c).sb.length < 8 →
     let x := s.core c
     let a := x.rd ga + imm.signExtend 32
     let at_ := 0x1000000000 + 0x1000000 * c.val + a.toNat
     let done (size : Size) : State := s.setCore c { s.atIssue c with
       pc := x.pc + 4, retired := x.retired + 1, sb := x.sb ++ [⟨a, at_, size, x.rd gs, x.priv⟩] }
     a.toNat < 0x40000 → s.sluiceJudge 0 ⟨c, x.priv, .store, a.toNat, some c⟩ = none →
     exec (.sb c gs ga imm) s = .next (done .byte) ∧
     (a.toNat % 2 = 0 → exec (.sh c gs ga imm) s = .next (done .half)) ∧
     (a.toNat % 4 = 0 → exec (.sw c gs ga imm) s = .next (done .word))) ∧
  (∀ (s : State) (c : Core) (e : StoreEntry) (es : List StoreEntry), s.calm c → c.val < 64 → (s.core c).wait = none →
     (s.core c).sb = e :: es → e.addr.toNat < 0x40000 → e.fab = 0x1000000000 + 0x1000000 * c.val + e.addr.toNat →
     Completes (.storeAcknowledged c 0) s fun t =>
       t = (s.write e.fab (leBytes (sizeBytes e.size) e.data.toNat)).setCore c { s.core c with sb := es } ∧
       t.read e.fab (sizeBytes e.size) = leBytes (sizeBytes e.size) e.data.toNat ∧
       ∀ p, (p < e.fab ∨ e.fab + sizeBytes e.size ≤ p) → t.byte p = s.byte p)

/-- R489, R517: SWAP and CAS at a vat core's own tile SRAM, with an empty store buffer: the old word goes to `gd`, and the word at `ga`
becomes `gb`, in CAS only when the old word equals `gd`. -/
def Obligations.AxTileAtomics : Prop :=
  ∀ (s : State) (c : Core) (gd ga gb : Gpr), s.issues c → c.val < 64 → (s.core c).sb = [] →
    let x := s.core c
    let a := x.rd ga
    let at_ := 0x1000000000 + 0x1000000 * c.val + a.toNat
    let old := s.byte (at_ + 3) ++ s.byte (at_ + 2) ++ s.byte (at_ + 1) ++ s.byte at_
    let stored := s.write at_ (leBytes 4 (x.rd gb).toNat)
    a.toNat % 4 = 0 → a.toNat < 0x40000 → s.sluiceJudge 0 ⟨c, x.priv, .atomic, a.toNat, some c⟩ = none →
    exec (.swap c gd ga gb) s =
      .next (stored.retired c ((s.atIssue c).put gd old (x.tainted ga || x.tainted gb)) (x.pc + 4)) ∧
    exec (.cas c gd ga gb) s =
      .next ((if old = x.rd gd then stored else s).retired c
        ((s.atIssue c).put gd old (x.tainted ga || x.tainted gb || x.tainted gd)) (x.pc + 4))

/-- R484, R487: where each conditional branch goes. R484, R487, R488: JAL links and goes to its own address plus the offset times 4; JR and
JALR go to register plus offset when that is a multiple of 4, JALR linking. A link in g0 is discarded. A target that is no multiple of 4
raises the alignment fault at the jump itself, and no register changes. -/
def Obligations.AxControlFlow : Prop :=
  (∀ (s : State) (c : Core) (ga gb : Gpr) (imm : BitVec 16), s.issues c →
     let x := s.core c
     let a := x.rd ga
     let b := x.rd gb
     let goes (taken : Bool) (t : State) : Prop :=
       s.flowed t c (s.atIssue c).gpr (if taken then BitVec.ofInt 32 (x.pc.toInt + imm.toInt * 4) else x.pc + 4)
     Completes (.beq c ga gb imm) s (goes (a == b)) ∧
     Completes (.bne c ga gb imm) s (goes (a != b)) ∧
     Completes (.blt c ga gb imm) s (goes (decide (a.toInt < b.toInt))) ∧
     Completes (.bge c ga gb imm) s (goes (decide (b.toInt ≤ a.toInt))) ∧
     Completes (.bltu c ga gb imm) s (goes (decide (a.toNat < b.toNat))) ∧
     Completes (.bgeu c ga gb imm) s (goes (decide (b.toNat ≤ a.toNat)))) ∧
  (∀ (s : State) (c : Core) (gd ga : Gpr) (imm : BitVec 16) (off : BitVec 21), s.issues c →
     let x := s.core c
     let t0 := BitVec.ofInt 32 ((x.rd ga).toInt + imm.toInt)
     let linked : List Word := if gd = 0 then (s.atIssue c).gpr else (s.atIssue c).gpr.set gd (x.pc + 4)
     Completes (.jal c gd off) s (fun t => s.flowed t c linked (BitVec.ofInt 32 (x.pc.toInt + off.toInt * 4))) ∧
     (t0.toNat % 4 = 0 →
       Completes (.jr c ga imm) s (fun t => s.flowed t c (s.atIssue c).gpr t0) ∧
       Completes (.jalr c gd ga imm) s (fun t => s.flowed t c linked t0)) ∧
     (t0.toNat % 4 ≠ 0 → s.canEnter c 3 x.pc (w32 (0x20000 + 3 * 256)) t0 →
       Completes (.jr c ga imm) s (fun t => s.entered t c 3 x.pc (w32 (0x20000 + 3 * 256)) t0 x.pri) ∧
       Completes (.jalr c gd ga imm) s (fun t => s.entered t c 3 x.pc (w32 (0x20000 + 3 * 256)) t0 x.pri)))

/-- R490, R496, R526: SRR reads the system registers at privileged level; a low word of a counter latches its high word (R497). R490, R500,
R526: SRW writes the exception registers, whose fixed bits read as zero; PRIV is not writable and a priority above 32 becomes 32. -/
def Obligations.AxSystemRegisters : Prop :=
  (∀ (s : State) (c : Core) (gd : Gpr), s.issues c → (s.core c).priv = true →
     let x := s.core c
     (∀ p ∈ [(0x000#12, w32 (if c.val < 64 then c.val else 0x10000000 + (c.val - 64))), (0x001#12, if c.val < 64 then 0xF else 0x1F),
         (0x008#12, x.spec), (0x009#12, x.squash), (0x100#12, x.vbar), (0x101#12, x.xstatus), (0x102#12, x.xcause), (0x103#12, x.xaddr),
         (0x104#12, x.xepc), (0x105#12, x.xsp), (0x106#12, x.xsplim), (0x107#12, x.xdepth), (0x108#12, x.xscratch), (0x109#12, x.xbudget),
         (0x005#12, x.cycleHi), (0x007#12, x.retiredHi)],
       exec (.srr c gd p.1) s = .next (s.gprDone c gd [] p.2)) ∧
     exec (.srr c gd 0x006) s = .next (s.retired c
       (({ s.atIssue c with retiredHi := w32 (x.retired / 2 ^ 32) } : CoreState).put gd (w32 x.retired) false) (x.pc + 4))) ∧
  (∀ (s : State) (c : Core) (ga : Gpr), s.issues c → (s.core c).priv = true →
     let x := s.core c
     let w := x.rd ga
     let done (y : CoreState) : Res := .next (s.retired c y (x.pc + 4))
     exec (.srw c ga 0x100) s = done { s.atIssue c with vbar := w &&& 0xFFFFFF01 } ∧
     exec (.srw c ga 0x105) s = done { s.atIssue c with xsp := w &&& 0xFFFFFFF0 } ∧
     exec (.srw c ga 0x106) s = done { s.atIssue c with xsplim := w &&& 0xFFFFFFF0 } ∧
     exec (.srw c ga 0x108) s = done { s.atIssue c with xscratch := w } ∧
     exec (.srw c ga 0x109) s = done { s.atIssue c with xbudget := w } ∧
     Completes (.srw c ga 0x101) s fun t =>
       (t.core c).priv = x.priv ∧ (t.core c).ie = bit w 1 ∧ (t.core c).pri = min 32 (field w 13 8) ∧ (t.core c).gpr = (s.atIssue c).gpr)

/-- R516, R518, R533: with an empty store buffer FENCE and FENCEI complete at once, and with buffered stores they wait; WFE stops issue. -/
def Obligations.AxFencesAndWait : Prop :=
  ∀ (s : State) (c : Core), s.issues c →
    let x := s.core c
    (x.sb = [] →
      exec (.fence c) s = .next (s.retired c (s.atIssue c) (x.pc + 4)) ∧
      (x.priv = true → exec (.fencei c) s = .next (s.retired c (s.atIssue c) (x.pc + 4)))) ∧
    (x.sb ≠ [] →
      exec (.fence c) s = .next (s.setCore c { s.atIssue c with wait := some .fence }) ∧
      (x.priv = true → exec (.fencei c) s = .next (s.setCore c { s.atIssue c with wait := some .fencei }))) ∧
    (x.priv = true → exec (.wfe c) s = .next (s.retired c { s.atIssue c with wfe := true } (x.pc + 4)))

/-- R530, R531: what entering a vector does, for the exceptions that an instruction raises: TRAP n, a word that R483 does not assign, and an
address that the core may not fetch from. -/
def Obligations.AxSynchronousEntries : Prop :=
  ∀ (s : State) (c : Core) (n : BitVec 8) (w : Word), s.calm c → s.coreReady c = true → s.bkptHit c = false →
    bit (s.core c).dbgCtrl 1 = false →
    let x := s.core c
    let trap := w32 (8 * 256 + n.toNat)
    (s.issues c → s.canEnter c 8 x.pc trap 0 → Completes (.trap c n) s fun t => s.entered t c 8 x.pc trap 0 x.pri) ∧
    (s.issues c → axDecode w = none → s.canEnter c 0 x.pc 0 0 →
      Completes (.illegalInstruction c w) s fun t => s.entered t c 0 x.pc 0 0 x.pri) ∧
    (s.fetchDeny c = some 1 → s.canEnter c 2 x.pc (w32 (0x10000 + 2 * 256)) x.pc →
      Completes (.instructionFetchFault c) s fun t => s.entered t c 2 x.pc (w32 (0x10000 + 2 * 256)) x.pc x.pri)

/-- R533: at an instruction boundary with interrupts enabled, the interrupt of level `l` that is due enters vector 32 + `l`, and the
priority becomes `l` + 1. R524, R535, R543: a felt access that gets no response enters vector 9, the end of the budget vector 11, and a
refused store the vector that refused it, with STORE 1, the stores behind it discarded and counted. -/
def Obligations.AxInterruptsAndReports : Prop :=
  (∀ (s : State) (c : Core) (l : Nat), s.calm c → s.coreReady c = true → (s.core c).atBoundary = true → (s.core c).ie = true →
     s.bkptHit c = false → s.irqDue c = some l →
     let x := s.core c
     let cause := w32 ((32 + l) * 256)
     s.canEnter c (32 + l) x.pc cause 0 →
     Completes (.interruptEntry c) s fun t => s.entered t c (32 + l) x.pc cause 0 (l + 1)) ∧
  (∀ (s : State) (c : Core), s.calm c → (s.core c).slot = none → (s.core c).wait = none → (s.core c).halted = false →
     let x := s.core c
     (∀ o, x.load = some o →
       let u := s.errAt errTimeout (coreSender c o.priv) .load o.fab
       u.cores = s.cores → u.canEnter c 9 x.pc (w32 (9 * 256)) o.addr →
       Completes (.feltTimeout c o.addr) s fun t => u.entered t c 9 x.pc (w32 (9 * 256)) o.addr x.pri ∧ (t.core c).load = none) ∧
     (x.load = none → x.priv = false → x.xbudget ≠ 0 → s.canEnter c 11 x.pc (w32 (11 * 256)) 0 →
       Completes (.budgetExpiry c) s fun t => s.entered t c 11 x.pc (w32 (11 * 256)) 0 x.pri ∧ (t.core c).xbudget = 0) ∧
     (∀ e es v sub, x.load = none → x.sb = e :: es → s.storeCheck c e = some (v, sub) →
       let u := (s.busDenied (coreSender c e.priv) .store e.fab (v, sub)).updCore c fun y => { y with sb := [] }
       let cause := w32 (2 ^ 31 + es.length % 8 * 2 ^ 28 + sub * 65536 + v * 256)
       u.cores = (s.updCore c fun y => { y with sb := [] }).cores → u.coresRun = true → u.canEnter c v x.pc cause e.addr →
       Completes (.refusedStore c) s fun t => u.entered t c v x.pc cause e.addr x.pri ∧ (t.core c).sb = []))

/-- R532: XRET undoes the entry: after TRAP n has entered its handler, an XRET that the handler issues with the frame as it was made goes
back to the instruction, with status, stack pointer and depth as before. -/
def Obligations.AxTrapThenReturn : Prop :=
  ∀ (s t : State) (c : Core) (n : BitVec 8), s.issues c → s.canEnter c 8 (s.core c).pc (w32 (8 * 256 + n.toNat)) 0 →
    (s.core c).priv = true → (s.core c).xstatus = restoredStatus c (s.core c).xstatus → (s.core c).xdepth.toNat < 255 →
    exec (.trap c n) s = .next t → t.issues c → t.stackMay c .load (t.core c).xsp → t.stackMay c .load ((t.core c).xsp + 4) →
    Completes (.xret c) t fun u =>
      (u.core c).pc = (s.core c).pc ∧ (u.core c).xstatus = (s.core c).xstatus ∧ (u.core c).xsp = (s.core c).xsp ∧
      (u.core c).xdepth = (s.core c).xdepth ∧ (u.core c).gpr = (s.atIssue c).gpr ∧ u.mem = t.mem ∧ u.regs = s.regs

/-- R482 to R485, R490: decoding and encoding agree. An instruction's word decodes to it with every operand, and a word that decodes is the
word of what it decodes to: no two words share a meaning, and every word with a non-zero zero field is refused. -/
def Obligations.AxDecodeEncodeAgree : Prop :=
∀ (w : Word) (i : AxInstr), axDecode w = some i ↔ axEncode i = some w

/-- R490, worked example, and R495: four words written out from the encoding tables. -/
def Obligations.AxWordsOfTheSpec : Prop :=
  axDecode 0x08A3FFFC = some (.aluImm .add 5 3 (sextImm 0xFFFC)) ∧ axDecode 0x50E20008 = some (.load .word false 7 2 8) ∧
    axDecode 0x04004021 = some (.trap 0x21) ∧ axDecode 0x00000000 = some (.alu .add 0 0 0) ∧ axDecode 0xA4000000 = none

/-- R609 to R611, R643: a monitor whose voted state becomes asserted counts one excursion, and one more for each 100 ms; it stops counting
when the state clears; a sensor that disagrees with its partners is counted apart, with event 304 + m. R612, R616, R619, R622: a source
trips at the excursion that brings those within its window to COUNT: at ALARM it raises its event, at a higher level than the response in
progress it starts that response, latches its number and asserts FAULT_N. -/
def Obligations.MonitorsAndTrips : Prop :=
  (∀ (s : State) (m : Fin 5) (sensors : BitVec 3) (low : Bool) (temp : BitVec 16),
     let asserted := s.regBit R.TAMPER_STATUS (16 + m)
     (s.tm.onBat = false → s.pins.vin = true → voted sensors = true → asserted = false → s.exempt m low = false →
       Completes (.monitorAssert m sensors low temp) s fun t =>
         t.regBit R.TAMPER_STATUS (16 + m) = true ∧ t.regField (R.TAMPER_SRC_STATE m) 18 16 = sensors.toNat ∧
         t.reg (R.TAMPER_SRC_EXC m) = satInc (s.reg (R.TAMPER_SRC_EXC m))) ∧
     (∀ t0, s.tm.heldAt.getD m none = some t0 → asserted = true → s.tm.onBat = false → s.exempt m low = false →
       Completes (.monitorHeld m low) s fun t =>
         t.reg (R.TAMPER_SRC_EXC m) = satInc (s.reg (R.TAMPER_SRC_EXC m)) ∧ t.now = max s.now (t0 + 100000000)) ∧
     (voted sensors = false → asserted = true →
       Completes (.monitorDeassert m sensors temp) s fun t =>
         t.regBit R.TAMPER_STATUS (16 + m) = false ∧ t.reg (R.TAMPER_SRC_EXC m) = s.reg (R.TAMPER_SRC_EXC m) ∧
         t.tm.heldAt.getD m none = none) ∧
     (s.tm.onBat = false → s.pins.vin = true → sensors ≠ 0 → sensors ≠ 7 → voted sensors = asserted →
       Completes (.sensorDissent m sensors) s fun t =>
         t.reg (R.TAMPER_SRC_DISSENT m) = satInc (s.reg (R.TAMPER_SRC_DISSENT m)) ∧ t.pends (304 + m) ∧
         t.reg (R.TAMPER_SRC_EXC m) = s.reg (R.TAMPER_SRC_EXC m))) ∧
  (∀ (s : State) (m : Fin 8),
     let cfg := s.reg (R.TAMPER_SRC_CFG m)
     let recent := (s.tm.times.getD m []).filter fun t => decide (s.now < t + field cfg 21 16 * 1000000000)
     let level := field cfg 1 0
     let t := s.excursion m
     (recent.length + 1 < field cfg 11 8 → t.tm.resp = s.tm.resp ∧ t.reg R.TAMPER_LATCH = s.reg R.TAMPER_LATCH) ∧
     (field cfg 11 8 ≤ recent.length + 1 → (s.tm.armed = false ∨ level = 0) → t.tm.resp = s.tm.resp ∧ t.pends (296 + m)) ∧
     (field cfg 11 8 ≤ recent.length + 1 → s.tm.armed = true → s.tm.resp < level → (s.reg R.TAMPER_EVID_COUNT).toNat < 256 →
       t.tm.resp = level ∧ t.regBit R.TAMPER_LATCH 31 = true ∧ t.regField R.TAMPER_LATCH 11 8 = m ∧ t.pins.fault = true ∧ t.bt.stop = true))

/-- R613, R619, R620, R625, R630: the ends of the responses, the acknowledgement, a burn that waited for charge, and sampling on battery. -/
def Obligations.TamperResponses : Prop :=
  ∀ (s : State),
    let latch := s.reg R.TAMPER_LATCH
    let n := (s.reg R.TAMPER_EVID_COUNT).toNat
    (s.tm.resp = 1 → Completes .clearResponseDone s fun t =>
      t.regBit R.TAMPER_LATCH 29 = true ∧ t.tm.resp = 0 ∧ t.pw.inReset = true ∧ t.reg R.RESET_CAUSE = 10 ∧
      ∀ i : Fin 16, t.reg (R.RESET_BKP i) = 0) ∧
    (s.tm.resp = 2 → Completes .eraseResponseDone s fun t =>
      t.regBit R.TAMPER_LATCH 30 = true ∧ t.tm.resp = 0 ∧ t.pw.inReset = true ∧ t.reg R.RESET_CAUSE = 10 ∧ t.ks.drk = none ∧
      t.jn.signKey = none ∧ t.deepData 0x0001 = none) ∧
    (∀ (who : Sender) (v : Word), s.wardenAt who .store R.TAMPER_ACK → bit v 0 = true → bit latch 28 = false →
      (bit latch 31 = true → bit latch 30 = true ∨ (field latch 1 0 ≠ 2 ∧ bit latch 29 = true)) →
      Completes (.tamperAck who v) s fun t =>
        t.regField R.TAMPER_LATCH 31 29 = 0 ∧ t.regField R.TAMPER_LATCH 23 16 = 0 ∧ t.regField R.TAMPER_LATCH 15 0 = field latch 15 0 ∧
        s.onlyRegs t [R.TAMPER_LATCH]) ∧
    ((s.pins.vin = true ∨ s.pins.vbat = true) → bit latch 28 = true → n < 256 →
      Completes .evidenceBurnPending s fun t =>
        t.regBit R.TAMPER_LATCH 28 = false ∧ t.tm.charge = 1 ∧
        ∀ i, n ≤ i → i < 256 → (∀ k, n ≤ k → k < i → Config.evidenceBad k = true) → Config.evidenceBad i = false →
          t.regBit (R.TAMPER_EVID (i / 32)) (i % 32) = true ∧ t.reg R.TAMPER_EVID_COUNT = w32 (i + 1)) ∧
    (∀ m : Fin 5, s.tm.onBat = true → s.tm.alive = true →
      Completes (.batterySample m false) s (fun t => t.tm.samples.getD m 0 = 0 ∧ s.onlyRegs t []) ∧
      (s.regField (R.TAMPER_SRC_CFG m) 11 8 ≤ s.tm.samples.getD m 0 + 1 → s.tm.armed = true → s.regField (R.TAMPER_SRC_CFG m) 1 0 ≠ 0 →
        n < 256 → bit latch 31 = false →
        Completes (.batterySample m true) s fun t =>
          t.regBit R.TAMPER_LATCH 31 = true ∧ t.regField R.TAMPER_LATCH 11 8 = m ∧ t.tm.resp = s.tm.resp))

/-- R615, R624, R626, R638, R650: what the supplies' coming and going does to the battery domain, to volatile memory and to the excursion
counts. -/
def Obligations.BatteryDomain : Prop :=
  ∀ (s : State),
    (s.pins.vbat = true → Completes .vbatLow s fun t => t.regBit R.TAMPER_STATUS 2 = true ∧ (s.pins.vin = true → t.pends 315)) ∧
    (s.pins.vbat = false → s.tm.alive = false →
      Completes .vbatFirstApplied s fun t =>
        t.pins.vbat = true ∧ t.tm.alive = true ∧ t.tm.rtcAt = s.now ∧ t.reg R.TAMPER_EVID_COUNT = s.reg R.TAMPER_EVID_COUNT ∧
        ∀ m : Fin 8, t.reg (R.TAMPER_SRC_CFG m) = w32 (tamperSrcCfg m)) ∧
    (s.pins.vin = false → Completes .vbatRemoved s fun t =>
      t.pins.vbat = false ∧ t.tm.alive = false ∧ t.reg R.TAMPER_LATCH = 0 ∧ t.reg R.TAMPER_EVID_COUNT = s.reg R.TAMPER_EVID_COUNT) ∧
    (s.pins.vin = true → Completes .lossOfMainPower s fun t =>
      t.pins.vin = false ∧ t.tm.onBat = s.pins.vbat ∧ t.tm.times = List.replicate 8 [] ∧ t.bt.jobs = [] ∧
      (∀ p, 0x10000000 ≤ p → p < 0x10800000 → t.byte p = 0) ∧ (s.pins.vbat = true → t.reg R.TAMPER_LATCH = s.reg R.TAMPER_LATCH)) ∧
    (s.pins.vin = false → s.tm.alive = true → s.tm.scrap = false → s.regBit R.TAMPER_LATCH 31 = false → s.regBit R.TAMPER_LATCH 28 = false →
      Completes .powerOnReset s fun t =>
        t.pins.vin = true ∧ t.pw.inReset = true ∧ t.pw.held = false ∧ t.reg R.RESET_CAUSE = 1 ∧ (∀ i : Fin 16, t.reg (R.RESET_BKP i) = 0) ∧
        (t.regBit R.RESET_STATUS 1 = true → t.regField R.RESET_STATUS 5 4 = 1 ∧ t.pends 397) ∧
        (t.regBit R.RESET_STATUS 1 = false → t.regField R.RESET_STATUS 5 4 = 0 ∧ t.pends 398))

/-- R19 to R23, R635, R636, R892: felt transfers are taken only with the right tag and a greater sequence number; mismatches stop a warden
pair; the watchdogs are restarted by a kick, warn at half their period and reset at its end. -/
def Obligations.FeltTagsAndWardenPairs : Prop :=
  ∀ (s : State) (src dst : Stop) (addr seq job : Nat) (tagOk : Bool), s.cores.length = 66 → s.pw.inReset = false →
    let ok := s.feltOk src dst seq tagOk
    (ok = true →
      Completes (.feltTransfer src dst addr seq tagOk) s (fun t => t.lk.feltSeq.lookup (src.val, dst.val) = some seq ∧ s.onlyRegs t []) ∧
      Completes (.feltRepeat src dst addr seq tagOk job) s (fun t => t.lk.feltSeq.lookup (src.val, dst.val) = some seq ∧ s.onlyRegs t [])) ∧
    (ok = false →
      Completes (.feltTransfer src dst addr seq tagOk) s (fun t =>
        t.reg R.TAMPER_TAG_FAILS = satInc (s.reg R.TAMPER_TAG_FAILS) ∧ t.reg R.TAMPER_TAG_LAST = w32 (src.val * 65536 + dst.val) ∧
        t.lk.feltSeq = s.lk.feltSeq) ∧
      ∀ j, s.job? job = some j →
        Completes (.feltRepeat src dst addr seq tagOk job) s fun t => (t.job? job).map (·.feltLost) = some true) ∧
    (s.tripped = false → (s.core 65).inReset = false →
      Completes .servicePairMismatch s fun t => (t.core 65).inReset = true ∧ t.pends 489 ∧ t.core 64 = s.core 64) ∧
    (s.tripped = false → (s.core 64).inReset = false → s.running = true →
      Completes .primaryPairMismatch s fun t =>
        (t.core 64).inReset = true ∧ t.bt.stop = true ∧ t.bt.resetAfter = some (s.bt.resetAfter.getD 8) ∧ t.core 65 = s.core 65) ∧
    (∀ (who : Sender) (t0 : Nat), s.wardenAt who .store R.EVT_WDOG_KICK → who = .core 64 true → s.ev.wdogP = some t0 →
      Completes (.watchdogKick who 0x4B) s fun t =>
        t.ev.wdogP = some s.now ∧ t.ev.warned.1 = false ∧ t.ev.wdogS = s.ev.wdogS ∧ s.onlyRegs t []) ∧
    (∀ t0, s.ev.wdogP = some t0 →
      (s.ev.warned.1 = false → Completes (.watchdogWarning 0) s fun t => t.ev.warned.1 = true ∧ t.pends 488) ∧
      Completes (.watchdogExpiry 0) s fun t => t.reg R.RESET_CAUSE = 11 ∧ t.pw.inReset = true ∧ t.regField R.RESET_STATUS 5 4 = 0) ∧
    (∀ t0, s.ev.wdogS = some t0 →
      Completes (.watchdogExpiry 1) s fun t => (t.core 65).inReset = true ∧ t.pends 489 ∧ t.ev.wdogS = none ∧ t.core 64 = s.core 64)

/-- R650 to R654, R684 to R688, R692: rails and domains come up one behind the other; an attempt that fails is tried again after its pause,
and the third failure holds the device with the item's code in the backup register. R652, R657, R689, R694, R415: the power-fail sequence
from the fall of PWRFAIL_N or the loss of a rail up to the held device, its own cold reset once supply is back, and what a regulator that
fails to answer leads to. -/
def Obligations.PowerSequences : Prop :=
  (∀ (s : State), s.pw.held = false →
     (s.pins.vin = true → s.pw.good = false → Completes .vinCoreGood s fun t => t.pw.good = true ∧ t.railOn 0 = true) ∧
     (∀ r : Fin 6, s.railOn r = true → s.railReady r = false →
       Completes (.railReady r) s fun t =>
         t.railReady r = true ∧ (r.val < 5 → t.railOn (r + 1) = true) ∧
         (r.val = 5 → ∀ n ∈ [64, 65, 66], s.domState n = 0 → t.domState n = 1)) ∧
     (∀ n : Fin 68, s.domState n = 1 → n.val ∉ s.pw.coming → Completes (.domainReady n) s fun t => t.domState n = 2) ∧
     (∀ (n : Fin 16) (onRc : Bool), s.centralOn = true → nbit s.pw.plls n = false →
       Completes (.pllLock n onRc) s fun t =>
         nbit t.pw.plls n = true ∧ (onRc = true → n.val < 8 → s.regBit R.RESET_STATUS 3 = false → t.regBit R.RESET_STATUS 3 = true ∧ t.pends 389)) ∧
     (∀ n : Fin 2, s.pw.inReset = false → nbit s.pw.hbm n = false →
       Completes (.hbmTrainingDone n) s fun t => nbit t.pw.hbm n = true ∧ t.regField (R.HBMC_STATUS n) 2 0 = 7) ∧
     (∀ (item : StartItem) (detail : Fin 6), s.attempting item = true →
       ((s.pw.fails.lookup item).getD 0 < 2 →
         Completes (.railAttemptTimeout item detail) s fun t =>
           t.pw.pauses = s.pw.pauses ++ [(item, s.now)] ∧ t.pw.held = false ∧ t.pends (if (itemCode item).1 = 3 then 388 else 387) ∧
           t.reg R.RESET_ATTEMPTS = w32 (min 255 ((s.reg R.RESET_ATTEMPTS).toNat + 1))) ∧
       (2 ≤ (s.pw.fails.lookup item).getD 0 →
         Completes (.railAttemptTimeout item detail) s fun t =>
           t.pw.held = true ∧ t.pins.fault = true ∧ (∀ r : Fin 6, t.railOn r = false) ∧
           t.reg (R.RESET_BKP 16) = w32 ((itemCode item).1 * 2 ^ 24 + (itemCode item).2 * 65536 + 3 * 256 + detail.val))) ∧
     (∀ (r : Fin 6) (t0 : Nat), s.pw.pauses.lookup (.rail r) = some t0 →
       Completes (.retryPauseEnd (.rail r)) s fun t =>
         t.railOn r = true ∧ t.pw.pauses = s.pw.pauses.filter (fun x => x.1 != .rail r) ∧ t.now = max s.now (t0 + 1000000))) ∧
  (∀ (s : State),
     (s.regBit R.PMU_STATUS 4 = false → s.pw.held = false →
       Completes .powerFail s fun t =>
         t.regBit R.PMU_STATUS 4 = true ∧ t.bt.stop = true ∧ t.ev.wdogP = none ∧ t.ev.wdogS = none ∧ t.pw.fallAt = some s.now ∧ t.pends 384 ∧
         t.pins.pwrfail = true) ∧
     (∀ t0, s.pw.fallAt = some t0 → s.regBit R.PMU_STATUS 4 = true →
       (s.pw.drained = false → Completes .powerFailDrainDone s fun t => t.pw.drained = true ∧ t.pends 268) ∧
       Completes .holdupEnd s fun t =>
         t.pw.held = true ∧ t.pw.inReset = true ∧ t.regBit R.PMU_STATUS 4 = false ∧ t.bt.jobs = [] ∧ (∀ n : Fin 67, t.domState n = 0) ∧
         ∀ r : Fin 6, t.railOn r = false) ∧
     (s.pins.pwrfail = true → Completes .pwrfailRise s fun t =>
       t.pins.pwrfail = false ∧ t.pw.riseAt = some s.now ∧ (s.pins.vin = true → t.pends 385)) ∧
     (s.pw.held = true → s.pins.pwroff = false → s.pins.pwrfail = false → s.pins.vin = true →
       Completes .heldSelfReset s fun t => t.reg R.RESET_CAUSE = 3 ∧ t.pw.inReset = true ∧ t.pw.held = false ∧ t.regField R.RESET_STATUS 5 4 = 0) ∧
     (∀ r : Fin 6, s.pw.held = false → s.pw.inReset = false → s.railReady r = true →
       Completes (.railLost r) s fun t =>
         t.railReady r = false ∧ (r.val ≤ 2 → t.pins.fault = true ∧ t.regBit R.PMU_STATUS 4 = true) ∧ (3 ≤ r.val → t.pends 400)) ∧
     (s.pw.held = false → s.pw.inReset = false →
       Completes (.pmbAlert none) s (fun t => t.regBit R.PMU_STATUS 3 = true ∧ t.pends 399) ∧
       Completes (.pmbusTelemetryPoll true none) s (fun t => t.pw.pmbFails = 0 ∧ s.onlyRegs t []) ∧
       (s.pw.pmbFails < 2 → Completes (.pmbusTelemetryPoll false none) s fun t => t.pw.pmbFails = s.pw.pmbFails + 1 ∧ s.onlyRegs t []) ∧
       (s.pw.pmbFails = 2 → Completes (.pmbusTelemetryPoll false none) s fun t =>
         t.pw.pmbFails = 0 ∧ t.regBit R.PMU_STATUS 3 = true ∧ t.pends 399)))

/-- R48, R658 to R664, R709: temperature and power samples, what parks a vat and what lets it join again. -/
def Obligations.ParkingDecisions : Prop :=
  ∀ (s : State) (v : Vat),
    (∀ temp : Int, s.pw.held = false → s.pw.inReset = false → temp < s.regField R.PMU_TJ_SHUT 7 0 →
      (temp < s.regField R.PMU_TJ_PARK 7 0 →
        Completes (.vatTempSample v temp) s fun t =>
          t.regField (R.PMU_DOM_STATE v) 23 16 = tempBits temp ∧ t.pw.hot.getD v 0 = 0 ∧
          t.maskBit R.PMU_PARK_THERM_LO v = s.maskBit R.PMU_PARK_THERM_LO v) ∧
      (s.regField R.PMU_TJ_PARK 7 0 ≤ temp → s.pw.hot.getD v 0 = 2 → s.present v = true → s.maskBit R.PMU_PARK_THERM_LO v = false →
        Completes (.vatTempSample v temp) s fun t => t.maskBit R.PMU_PARK_THERM_LO v = true ∧ t.pends 391)) ∧
    (∀ t0, s.pw.cool.getD v none = some t0 → s.maskBit R.PMU_PARK_THERM_LO v = true → s.regBit R.PMU_STATUS 2 = false →
      Completes (.thermalUnpark v) s fun t => t.maskBit R.PMU_PARK_THERM_LO v = false ∧ t.now = max s.now (t0 + 100000000)) ∧
    (∀ t0, s.pw.stopCool = some t0 → s.regBit R.PMU_STATUS 2 = true →
      Completes .thermalStopRelease s fun t => t.regBit R.PMU_STATUS 2 = false ∧ t.pends 394) ∧
    (∀ mv da : Fin 4096, s.pw.held = false → s.pw.inReset = false → 5250 * s.regField R.PMU_PWR_LIMIT 9 0 < mv.val * da.val →
      (s.pw.overs = 0 → Completes (.pmuPowerSample mv da) s fun t =>
        t.reg R.PMU_VIN_MV = w32 mv ∧ t.reg R.PMU_VIN_DA = w32 da ∧ t.pw.overs = 1 ∧ t.regBit R.PMU_STATUS 1 = s.regBit R.PMU_STATUS 1) ∧
      (1 ≤ s.pw.overs → s.regBit R.PMU_STATUS 1 = false → Completes (.pmuPowerSample mv da) s fun t =>
        t.regBit R.PMU_STATUS 1 = true ∧ t.pends 390)) ∧
    (∀ (who : Sender) (w : Word), s.wardenAt who .store R.PMU_PWR_LIMIT → s.regBit R.PMU_CTRL 31 = false → 100 ≤ w.toNat →
      w.toNat ≤ 648 → w.toNat ≤ (s.reg R.PMU_PWR_LIMIT).toNat → s.reg R.PMU_PWR_LIMIT &&& 0xFFFFFC00 = 0 →
      Completes (.pmuPwrLimitWrite who w) s fun t =>
        t.reg R.PMU_PWR_LIMIT = w ∧
        t.reg R.PMU_VAT_CAP = w32 (min 64 ((50 * w.toNat - (s.reg R.PMU_BASE_W).toNat) / max 1 (s.reg R.PMU_VAT_W).toNat) - s.pw.lowered)) ∧
    (s.pw.inReset = false → s.pw.held = false → v.val ∈ s.pw.coming →
      Completes (.vatJoin v true) s (fun t => v.val ∈ t.bt.up ∧ v.val ∉ t.pw.coming ∧ t.domState v = 2) ∧
      Completes (.vatJoin v false) s (fun t => t.maskBit R.PMU_PARK_FAULT_LO v = true ∧ v.val ∉ t.pw.coming)) ∧
    (s.domState v = 3 → s.inAdmission v = false → s.vatHolds v = false →
      Completes (.vatPowerGate v) s fun t => t.domState v = 0 ∧ ∀ a, a < 0x1000000 → t.byte (vatAddr v a) = 0)

/-- R798, R800: a line that fails its MAC and passes when read again is only counted; one that fails again is poisoned and recorded; a hot
stack raises its event. -/
def Obligations.HbmErrors : Prop :=
  ∀ (s : State) (n : Fin 2) (line : Nat) (who : Sender) (temp : Int), s.pw.inReset = false → nbit s.pw.hbm n = true →
    Completes (.hbmLineMacFail n line true who) s (fun t =>
      t.reg (R.HBMC_RETRIES n) = satInc (s.reg (R.HBMC_RETRIES n)) ∧ t.pends (418 + n) ∧ t.lk.poison = s.lk.poison) ∧
    Completes (.hbmLineMacFail n line false who) s (fun t =>
      (n.val, line % 0x10000000) ∈ t.lk.poison ∧ t.reg (R.HBMC_MAC_FAILS n) = satInc (s.reg (R.HBMC_MAC_FAILS n)) ∧ t.pends (416 + n) ∧
      t.regField (R.ERRC_LAST (0x23 + n) 0) 31 24 = 8) ∧
    (95 ≤ temp → temp < 105 → Completes (.hbmStackHot n temp) s fun t =>
      t.reg (R.HBMC_TEMP n) = w32 (tempBits temp) ∧ t.regBit (R.HBMC_STATUS n) 3 = true ∧ t.pends (420 + n))

/-- R665 to R671, R690, R707: what each reset source and each command of RESET_CMD does, and the end of a reset. -/
def Obligations.ResetSources : Prop :=
  ∀ (s : State) (who : Sender), s.cores.length = 66 →
    let begins (cause kind : Nat) (t : State) : Prop :=
      t.reg R.RESET_CAUSE = w32 cause ∧ t.regField R.RESET_STATUS 5 4 = kind ∧ t.pw.inReset = true ∧ t.pw.held = false ∧
      t.pins.resetDrv = true ∧ t.bt.jobs = [] ∧ t.ev.errQ = [] ∧ (∀ c : Core, (t.core c).inReset = true) ∧
      ∀ p, 0x107F0000 ≤ p → p < 0x10800000 → t.byte p = s.byte p
    (s.pins.resetDrv = false → s.regBit R.PMU_STATUS 4 = false → s.pins.vin = true → s.pw.held = false →
      Completes .resetNAsserted s (begins 5 2)) ∧
    (s.wardenAt who .store R.RESET_CMD →
      (s.regBit R.RESET_CTRL 0 = true → Completes (.resetCmdWarm who 0x5A) s (begins 6 2)) ∧
      (s.regBit R.RESET_CTRL 0 = false → Completes (.resetCmdWarm who 0x5A) s fun t =>
        t.pw = s.pw ∧ t.regField (R.ERRC_LAST 9 0) 31 24 = 5 ∧ t.reg R.RESET_CAUSE = s.reg R.RESET_CAUSE) ∧
      (s.regBit R.RESET_CTRL 1 = true → Completes (.resetCmdCold who 0x5A) s fun t =>
        t.reg R.RESET_CAUSE = 2 ∧ t.pw.inReset = true ∧ t.pins.enRail = 0 ∧ ∀ c : Core, (t.core c).inReset = true) ∧
      (∀ v : Vat, s.parkedFor v = true → s.inAdmission v = false → s.vatHolds v = false →
        Completes (.resetCmdVatReset who 0x5A v) s fun t =>
          (t.core v).inReset = true ∧ (∀ a, a < 0x1000000 → t.byte (vatAddr v a) = 0) ∧ v.val ∉ t.bt.up ∧
          ∀ d, d ≠ v.val → t.core d = s.core d) ∧
      Completes (.resetCmdServicePair who 0x5A) s (fun t => (t.core 65).inReset = false ∧ t.core 64 = s.core 64 ∧ s.onlyRegs { t with cores := s.cores } []) ∧
      Completes (.resetCmdClrFail who 0x5A) s (fun t =>
        t.reg (R.RESET_BKP 16) = 0 ∧ t.reg (R.RESET_BKP 17) = 0 ∧ s.onlyRegs t [R.RESET_BKP 16, R.RESET_BKP 17])) ∧
    (s.pw.inReset = true → s.pw.held = false → s.pins.resetIn = false → s.resetReady = true →
      Completes .resetRelease s fun t =>
        t.pw.inReset = false ∧ t.pins.resetDrv = false ∧ t.now = max s.now (s.pw.endAt + 2000000) ∧ (t.core 64).inReset = false ∧
        (t.core 65).inReset = false ∧ t.ev.wdogP = some t.now ∧ t.ev.wdogS = some t.now) ∧
    (∀ i, s.md.commit = some (i, none) → s.mouldState = 4 → s.job? i = none → Completes .fullRemouldReset s (begins 7 2))

/-- R680, R691, R696 to R702: the start enables the spring behind verified firmware and is a failure without it; once its work is done it
starts the beat; a SHUTDOWN stops admission; the self-test's result decides how the start goes on. -/
def Obligations.StartAndShutdown : Prop :=
  ∀ (s : State),
    (∀ (kat : BitVec 64) (late : Bool), s.pw.inReset = false → s.pw.held = false → s.quiet = false → s.springOn = false →
      Completes (.deviceStart true kat late) s (fun t => t.springOn = true ∧ t.pw.held = false) ∧
      Completes (.deviceStart false kat late) s (fun t =>
        t.pw.held = true ∧ t.reg (R.RESET_BKP 16) = w32 (8 * 2 ^ 24 + 256 + 5) ∧ t.pins.fault = true)) ∧
    (∀ kat : BitVec 64, s.pw.inReset = false → s.pw.held = false → s.quiet = false → s.springOn = true → s.pw.started = true →
      exec (.deviceStart true kat true) s = .next s.beatStart) ∧
    (∀ (i : Nat) (j : Job), s.command i 0x8020 = some j → s.pw.shut = none →
      Completes (.shutdown i) s fun t => t.pw.shut = some (i, byteAt j.desc 0x20 == 1) ∧ t.bt.stop = true) ∧
    (∀ (pass : BitVec 64) (cells : BitVec 128), s.pw.selfTest = 1 → s.pw.held = false → s.pw.shut = none → s.pw.inReset = true →
      s.centralOn = true →
      Completes (.selfTestComplete pass 0 0 cells) s (fun t => t.pw.selfTest = 2 ∧ t.pw.passMask = pass.toNat ∧ t.pw.held = false) ∧
      Completes (.selfTestComplete pass 1 0x0A cells) s (fun t =>
        t.pw.held = true ∧ t.reg (R.RESET_BKP 16) = w32 (6 * 2 ^ 24 + 0x0A * 65536 + 256 + 5)) ∧
      Completes .selfTestConditionsTimeout s (fun t => t.pw.selfTest = 2 ∧ t.regBit R.RESET_STATUS 2 = true ∧ t.pends 395))

/-- R567, R568, R571, R572, R590, R593: a full set of samples of a cell in service becomes a seed; a full store discards it; the test
pattern takes the place of samples; health failures take a cell out of service, and its start-up test brings it back; raw samples fill the
FIFO. -/
def Obligations.SpringSeedsAndHealth : Prop :=
  ∀ (s : State) (c : Fin 128) (samples : Bytes) (w : Word), s.springOn = true →
    let x := s.spr.cells.getD c NoiseCell.none
    (s.springRaw = false → s.spr.device ≠ none → s.spr.cmdAt = none → s.spr.outHeld = false →
      (s.springTest = false → x.inService = true → s.springFault = false → samples.length = 80 →
        (s.spr.store.length < 1024 →
          Completes (.seedComplete c samples) s fun t => t.spr.store = s.spr.store ++ [sha256 samples] ∧ s.onlyRegs t []) ∧
        (1024 ≤ s.spr.store.length → Completes (.seedComplete c samples) s fun t => t.spr.store = s.spr.store ∧ s.onlyRegs t [])) ∧
      (s.springTest = true → s.spr.store.length < 1024 →
        Completes (.seedComplete c samples) s fun t =>
          t.spr.store = s.spr.store ++ [s.patternSeed s.spr.pattern] ∧ t.spr.pattern = s.spr.pattern + 1)) ∧
    (∀ apt : Bool, s.springTest = false → s.springRaw = false → x.inService = true →
      Completes (.cellHealthFailure c apt) s fun t =>
        let y := t.spr.cells.getD c NoiseCell.none
        y.inService = false ∧ y.fails = x.fails + 1 ∧ y.excluded = decide (4 ≤ x.fails + 1) ∧
        t.reg (if apt then R.SPRING_APT_FAILS else R.SPRING_RCT_FAILS) =
          satInc (s.reg (if apt then R.SPRING_APT_FAILS else R.SPRING_RCT_FAILS)) ∧ t.pends (if apt then 353 else 352)) ∧
    (s.springRaw = false → x.inService = false → x.excluded = false → x.testing = false →
      Completes (.cellRetest c) s fun t =>
        (t.spr.cells.getD c NoiseCell.none).testing = true ∧ t.now = max s.now (x.leftAt + 1000000) ∧ s.onlyRegs t []) ∧
    (x.testing = true → ∀ apt : Bool,
      Completes (.cellStartupComplete c true apt) s fun t =>
        (t.spr.cells.getD c NoiseCell.none).testing = false ∧ (t.spr.cells.getD c NoiseCell.none).inService = true) ∧
    (s.springRaw = true → bit (s.reg R.SPRING_RAW_SEL) 7 = false → field (s.reg R.SPRING_RAW_SEL) 6 0 = c.val →
      (s.spr.rawFifo.length < 256 →
        Completes (.rawSampleWord c w) s fun t => t.spr.rawFifo = s.spr.rawFifo ++ [w] ∧ s.onlyRegs t []) ∧
      (256 ≤ s.spr.rawFifo.length →
        Completes (.rawSampleWord c w) s fun t =>
          t.spr.rawFifo = s.spr.rawFifo ∧ t.reg R.SPRING_RAW_LOST = satInc (s.reg R.SPRING_RAW_LOST) ∧ t.pends 362))

/-- R575, R580, R581, R583, R601: reseeds of a vat instance and a lane, each with the oldest seed of its vat's slots; of the device DRBG
from the store, when it falls due, on command, and when a commanded one finds no seed in time; and the command to instantiate a lane again.
R571, R588 to R593, R598, R599, R603: enabling the spring, raw mode and the test pattern, and what a read of an output register takes. -/
def Obligations.SpringReseedsAndModes : Prop :=
  (∀ (s : State) (v : Vat) (who : Sender) (d : Drbg) (x : Bytes) (xs : List Bytes),
     (s.replayVat v = false → s.reseedDue v = true → s.prOn v true = false →
       (s.vatErr v = false → (s.unit v).vatInst = some d → (s.unit v).lane = none →
         ((s.unit v).seeds = x :: xs →
           Completes (.periodicReseed v) s fun t =>
             (t.unit v).vatInst = some (drbgReseed d x []) ∧ (t.unit v).seeds = xs ∧ t.reg (R.VDR_LAST_RESEED v) = w32 s.beat ∧
             s.onlyRegs t [R.VDR_LAST_RESEED v]) ∧
         ((s.unit v).seeds = [] → Completes (.periodicReseed v) s fun t => t.pends 364)) ∧
       (s.laneErr v = false → (s.unit v).vatInst = none → (s.unit v).lane = some d → (s.unit v).seeds = x :: xs →
         Completes (.periodicReseed v) s fun t =>
           (t.unit v).lane = some (drbgReseed d x []) ∧ (t.unit v).seeds = xs ∧ t.reg (R.VDR_LANE_RESEED v) = w32 s.beat)) ∧
     (s.springRaw = false → s.devErr = false → s.spr.device = some d → s.spr.store = x :: xs →
       Completes .deviceDrbgReseed s (fun t => t.spr.device = some (drbgReseed d x []) ∧ t.spr.store = xs ∧ t.spr.devEdge = s.beat) ∧
       (s.wardenAt who .store R.SPRING_CMD →
         Completes (.springReseed who) s fun t => t.spr.device = some (drbgReseed d x s.addin) ∧ t.spr.store = xs)) ∧
     (∀ t0, s.spr.cmdAt = some t0 →
       Completes .deviceDrbgReseedTimeout s fun t =>
         t.now = max s.now (t0 + 1000000) ∧ t.devErr = true ∧ t.spr.cmdAt = none ∧ t.pends 360) ∧
     (s.springRaw = false → s.wardenAt who .store R.SPRING_CMD →
       ((s.deckleOfVat v).isSome →
         Completes (.springReinstLane who v) s fun t => t.spr.reinst = s.spr.reinst ++ [v.val] ∧ s.onlyRegs t []) ∧
       (s.deckleOfVat v = none →
         Completes (.springReinstLane who v) s fun t => t.spr.reinst = s.spr.reinst ∧ t.regField (R.ERRC_LAST 7 0) 31 24 = 4))) ∧
  (∀ (s : State) (who : Sender),
     (s.wardenAt who .store R.SPRING_CTRL → s.regField R.SPRING_CTRL 21 16 ≤ 32 →
       (s.springOn = false →
         Completes (.springEnable who) s fun t =>
           t.springOn = true ∧ t.springStarting = true ∧
           t.spr.cells = s.spr.cells.map fun c => if c.excluded then c else { c with inService := false, testing := true }) ∧
       (s.springRaw = false → s.rawAllowed = true → s.guarded 3 = false →
         Completes (.springRawEnter who) s fun t =>
           t.springRaw = true ∧ t.spr.store = [] ∧ t.spr.devQueue = [] ∧ t.spr.rawFifo = [] ∧ t.pends 361) ∧
       (s.springRaw = false → s.guarded 3 = true →
         Completes (.springRawEnter who) s fun t => t.springRaw = false ∧ t.spr = s.spr ∧ t.regField (R.ERRC_LAST 7 0) 31 24 = 3) ∧
       (s.springRaw = true →
         Completes (.springRawExit who) s fun t =>
           t.springRaw = false ∧ t.spr.store = [] ∧ t.spr.rawFifo = [] ∧ t.spr.outHeld = true ∧ t.pends 361) ∧
       (s.springTest = false → s.life = 0 →
         Completes (.springTest who) s fun t => t.springTest = true ∧ t.spr.pattern = 0 ∧ t.pends 363) ∧
       (s.springTest = false → s.life ≠ 0 →
         Completes (.springTest who) s fun t => t.springTest = false ∧ t.spr = s.spr ∧ t.regField (R.ERRC_LAST 7 0) 31 24 = 5)) ∧
     (s.wardenAt who .load R.SPRING_OUT → s.springRaw = false →
       (s.devErr = false → s.spr.outHeld = false → s.spr.device ≠ none → 4 ≤ s.spr.devQueue.length →
         Completes (.springOutRead who) s fun t => t.spr.devQueue = s.spr.devQueue.drop 4 ∧ s.onlyRegs t []) ∧
       (s.devErr = true → Completes (.springOutRead who) s fun t => t.spr = s.spr ∧ t.regField (R.ERRC_LAST 7 0) 31 24 = 1)) ∧
     (∀ x xs, s.wardenAt who .load R.SPRING_RAW → s.springRaw = true → s.spr.rawFifo = x :: xs →
       Completes (.springRawRead who) s fun t => t.spr.rawFifo = xs ∧ s.onlyRegs t []) ∧
     (∀ v : Vat, s.vatCoreAt who v → s.vatErr v = false → (s.unit v).vatInst.isSome →
       Completes (.vdrOutRead who v) s fun t =>
         t.reg (R.VDR_DRAWS v) = satAdd (s.reg (R.VDR_DRAWS v)) 4 ∧ s.onlyRegs t [R.VDR_DRAWS v]))

/-- R806 to R811: what brings a link up and down, the frame a member sends in its slot, and what a frame received is counted as. -/
def Obligations.UloonLinks : Prop :=
  ∀ (s : State) (u : Fin 8) (peer : Fin 16) (id : Word) (rootOk : Bool) (us : Nat) (life : Fin 5) (hops delay : Nat),
    (s.inPond = true → s.regBit R.ULOON_POND_CFG (8 + u) = true → s.regBit (R.ULOON_LINK_STATUS u) 0 = false →
      (s.linkCause peer id rootOk us life = 0 →
        Completes (.uloonLinkUp u peer id rootOk us life hops delay) s fun t =>
          t.reg (R.ULOON_LINK_STATUS u) = w32 (3 + peer * 16) ∧ t.reg (R.ULOON_LINK_DELAY u) = w32 (delay % 65536) ∧
          t.lk.peers.lookup u.val = some peer.val ∧ (t.lk.linkKeys.lookup u.val).isSome) ∧
      (s.linkCause peer id rootOk us life ≠ 0 →
        Completes (.uloonLinkUp u peer id rootOk us life hops delay) s fun t =>
          t.reg (R.ULOON_LINK_STATUS u) = w32 (s.linkCause peer id rootOk us life * 256) ∧ t.pends (208 + u) ∧ t.lk = s.lk)) ∧
    (s.regBit (R.ULOON_LINK_STATUS u) 0 = true →
      Completes (.uloonLinkDown u) s fun t =>
        t.regField (R.ULOON_LINK_STATUS u) 1 0 = 0 ∧ t.lk.linkKeys.lookup u.val = none ∧ t.lk.peers.lookup u.val = none ∧
        (s.lk.leadPaths = [u.val] → s.regBit R.BEAT_STATUS 3 = true → s.running = true → s.regBit R.BEAT_STATUS 6 = false →
          t.regBit R.BEAT_STATUS 6 = true ∧ t.pends 243)) ∧
    (∀ t0, s.lk.leadWait = some t0 → (∀ n ∈ s.lk.good, n = 0) →
      (s.lk.startWanted = false →
        Completes .uloonLeaderWaitExpiry s fun t => t.lk.leadWait = none ∧ t.now = max s.now (t0 + 2000000000) ∧ s.onlyRegs t []) ∧
      (s.lk.startWanted = true → s.regField R.BEAT_STATUS 1 0 = 0 → s.regBit R.BEAT_STATUS 3 = false → s.regField R.BEAT_CTRL 5 4 = 0 →
        s.regBit R.BEAT_CTRL 3 = true →
        Completes .uloonLeaderWaitExpiry s fun t => t.lk.leadWait = none ∧ t.regBit R.BEAT_STATUS 1 = true)) ∧
    (s.running = true → s.inPond = true → s.now < s.bt.edgeAt + s.member * s.beatNs / 16 + 200 → (s.lk.peers.map (·.1)).Nodup →
      (∀ p ∈ s.lk.peers, p.1 < 8) →
      Completes .uloonSlotTransmit s fun t =>
        t.now = s.bt.edgeAt + s.member * s.beatNs / 16 + 200 ∧
        ∀ p ∈ s.lk.peers, t.reg (R.ULOON_LINK_TX_FRAMES p.1) = satInc (s.reg (R.ULOON_LINK_TX_FRAMES p.1)) ∧
          ∃ bs, (⟨.uloon p.1, s.beat, bs⟩ : Output) ∈ t.out) ∧
    (∀ (start beat : Nat) (sync : Bool) (offset : Int) (msgs : List PondMsg), s.regBit (R.ULOON_LINK_STATUS u) 1 = true →
      Completes (.uloonSlotFrameReceived u peer start false sync beat offset msgs) s (fun t =>
        t.reg (R.ULOON_LINK_RX_BAD u) = satInc (s.reg (R.ULOON_LINK_RX_BAD u)) ∧ s.onlyRegs t [R.ULOON_LINK_RX_BAD u]) ∧
      (s.running = true → inWindow s.beatNs start (s.reg (R.ULOON_LINK_DELAY u)).toNat peer = false →
        Completes (.uloonSlotFrameReceived u peer start true sync beat offset msgs) s fun t =>
          t.reg (R.ULOON_LINK_RX_LATE u) = satInc (s.reg (R.ULOON_LINK_RX_LATE u)) ∧
          (s.lk.late.getD peer 0 = 3 → s.regBit R.ULOON_MIRROR_MASK peer = true →
            t.regBit R.ULOON_MIRROR_MASK peer = false ∧ t.pends (208 + u))) ∧
      (s.running = true → inWindow s.beatNs start (s.reg (R.ULOON_LINK_DELAY u)).toNat peer = true →
        Completes (.uloonSlotFrameReceived u peer start true sync beat offset msgs) s fun t =>
          t.reg (R.ULOON_LINK_RX_FRAMES u) = satInc (s.reg (R.ULOON_LINK_RX_FRAMES u)) ∧ t.regBit R.ULOON_POND_STATUS (16 + peer) = true)) ∧
    (∀ d : Deckle, s.inPond = true → s.regBit (R.KEYS_DCFG d) 2 = true → s.spr.device ≠ none → 32 ≤ s.spr.devQueue.length →
      (∀ m, m < s.member → ¬ (s.regBit R.ULOON_MIRROR_MASK m = true ∧ nbit (s.reg (R.KEYS_MIRROR_LIST d)).toNat m = true)) →
      Completes (.transportKeyDistribute d) s fun t =>
        (t.ks.transport.find? fun x => x.1 == d.val) =
          some (d.val, ((s.ks.transport.find? fun x => x.1 == d.val).map (fun x => x.2.1)).getD 0 + 1, s.spr.devQueue.take 32))

/-- R49, R52 to R55, R58, R61, R64 to R67: an edge follows the last by one period and raises BEAT_COUNT by one; START begins at once, at the
next TIME_PPS edge, or with the pond's beat; a close precedes its edge by 500 felt cycles; the period changes only while nothing runs. R56,
R801 to R803: an edge of TIME_PPS is accepted by its spacing and counted, or ignored; 1.1 s without one clear the status; TIME_10M is good
within 50 parts per million, and its loss is holdover for a beat that follows it. -/
def Obligations.BeatAndTime : Prop :=
  (∀ (s : State) (who : Sender) (v : Word),
     (s.quiet = false → Completes .beatEdge s fun t =>
       t.beat = (s.beat + 1) % 2 ^ 64 ∧ t.bt.edgeAt = s.bt.edgeAt + s.bt.period ∧ t.bt.closed = false ∧ s.bt.edgeAt + s.bt.period ≤ t.now) ∧
     (s.quiet = true → exec .beatEdge s = .next s) ∧
     (s.running = true → s.bt.closed = false → Completes .reamClose s fun t =>
       t.bt.closed = true ∧ t.bt.gate = decide (943719 ≤ s.journalFill) ∧ t.now = max s.now (s.bt.edgeAt + s.bt.period - 500)) ∧
     (s.wardenAt who .store R.BEAT_CTRL → s.regBit R.BEAT_CTRL 31 = false → s.regField R.BEAT_STATUS 1 0 = 0 →
       s.regBit R.BEAT_STATUS 3 = false → s.lk.leadWait = none → field v 5 4 ≠ 3 →
       Completes (.beatStart who v) s fun t =>
         (field v 5 4 ≠ 2 → bit v 3 = false →
           t.regField R.BEAT_STATUS 1 0 = 1 ∧ t.beat = 0 ∧ t.bt.edgeAt = s.now ∧ t.bt.period = 500 * s.regField R.BEAT_PERIOD 6 0) ∧
         (field v 5 4 ≠ 2 → bit v 3 = true → t.regBit R.BEAT_STATUS 1 = true ∧ t.regBit R.BEAT_STATUS 0 = false) ∧
         (field v 5 4 = 2 → t.regBit R.BEAT_STATUS 3 = true ∧ t.regBit R.BEAT_STATUS 0 = false) ∧
         t.regField R.BEAT_STATUS 5 4 = field v 5 4) ∧
     (s.wardenAt who .store R.BEAT_PERIOD → s.regBit R.ADMIT_STATUS 0 = false → s.bt.jobs = [] → 10 ≤ field v 6 0 → field v 6 0 ≤ 100 →
       Completes (.beatPeriodWrite who v) s fun t => t.regField R.BEAT_PERIOD 6 0 = field v 6 0 ∧ s.onlyRegs t [R.BEAT_PERIOD]) ∧
     (s.wardenAt who .store R.BEAT_PERIOD → s.regBit R.ADMIT_STATUS 0 = true →
       Completes (.beatPeriodWrite who v) s fun t => t.reg R.BEAT_PERIOD = s.reg R.BEAT_PERIOD ∧ t.regField (R.ERRC_LAST 0 0) 31 24 = 4) ∧
     (s.wardenAt who .store R.BEAT_TQ_SEL →
       Completes (.beatTqSelWrite who v) s fun t => t.regField R.BEAT_TQ_SEL 27 0 = field v 27 0 ∧ s.onlyRegs t [R.BEAT_TQ_SEL]) ∧
     (s.running = true → s.regField R.BEAT_TICK_DIV 15 0 ≠ 0 → s.beat % s.regField R.BEAT_TICK_DIV 15 0 = 0 →
       Completes .beatTick s fun t => t.pends 240) ∧
     (s.running = true → s.regBit R.BEAT_STATUS 6 = false →
       Completes .referenceLost s fun t => t.regBit R.BEAT_STATUS 6 = true ∧ t.pends 243)) ∧
  (∀ (s : State) (at_ : Nat) (ppb : Int),
     (s.regBit R.TIME_CTRL 0 = true → s.regBit R.BEAT_STATUS 1 = false → s.bt.ppsAt = none →
       Completes (.timePpsEdge at_) s fun t =>
         t.regBit R.TIME_STATUS 0 = true ∧ t.reg64 R.TIME_SEC_LO = (s.reg64 R.TIME_SEC_LO + 1) % 2 ^ 64 ∧ t.bt.ppsAt = some (max s.now at_) ∧
         (s.running = true → t.reg64 R.BEAT_PPS_COUNT_LO = s.beat ∧ t.regBit R.BEAT_STATUS 2 = true ∧ t.pends 241)) ∧
     (∀ t0, s.regBit R.TIME_CTRL 0 = true → s.bt.ppsAt = some t0 → max s.now at_ < t0 + 999999000 →
       Completes (.timePpsEdge at_) s fun t =>
         t.reg R.TIME_PPS_BAD = satInc (s.reg R.TIME_PPS_BAD) ∧ t.bt.ppsAt = some t0 ∧ s.onlyRegs t [R.TIME_PPS_BAD]) ∧
     (∀ t0, s.bt.ppsAt = some t0 → s.regBit R.TIME_STATUS 0 = true →
       Completes .ppsLoss s fun t =>
         t.regBit R.TIME_STATUS 0 = false ∧ t.reg R.TIME_PPS_MISSING = satInc (s.reg R.TIME_PPS_MISSING) ∧ t.pends 235 ∧
         t.now = max s.now (t0 + 1100000000)) ∧
     Completes (.time10mCheck ppb) s (fun t =>
       t.reg R.TIME_REF10_PPB = BitVec.ofInt 32 ppb ∧
       t.regBit R.TIME_STATUS 1 = (s.regBit R.TIME_CTRL 2 && decide (-50000 ≤ ppb) && decide (ppb ≤ 50000)) ∧
       (t.regBit R.TIME_STATUS 1 ≠ s.regBit R.TIME_STATUS 1 → t.pends 235) ∧
       (t.regBit R.TIME_STATUS 1 = false → s.running = true → s.regField R.BEAT_STATUS 5 4 = 1 → s.regBit R.BEAT_STATUS 6 = false →
         t.regBit R.BEAT_STATUS 6 = true ∧ t.pends 243)))

/-- R240, R258, R259, R288: a descriptor that fails a check is answered MALFORMED at the next edge with the first check's reason; one that
passes waits, or is BUSY at a full deckle; a command is staged; frames are taken apart; a descriptor whose wait is over is BUSY. -/
def Obligations.DescriptorsReceived : Prop :=
  ∀ (s : State) (f : Fin 17) (q : Fin 8) (d : Deckle) (desc input : Bytes) (who : Sender) (v : Word),
    let b := padTo 64 desc
    let k := fnDeckle f
    let c := dVerb b
    let fails := firstFail (s.admitChecks (.host f q) k b (input.take (dInLen b)) ⟨s.winSize f, false, true⟩)
    (∀ r, fails = some r → Completes (.descriptorReceived (.host f q) d desc input) s fun t =>
      t.bt.nextJob = s.bt.nextJob + 1 ∧
      ∃ j ∈ t.bt.jobs, j.id = s.bt.nextJob ∧ j.stage = .answered ∧ j.cls = 2 ∧ j.reason = r ∧ j.due = some s.nextEdge) ∧
    (fails = none → (txnVerb c || queuedCmd c) = true → s.scopeClosed (.host f q) k c = false →
      (8192 ≤ (s.waitingOf k).length → Completes (.descriptorReceived (.host f q) d desc input) s fun t =>
        ∃ j ∈ t.bt.jobs, j.id = s.bt.nextJob ∧ j.stage = .answered ∧ j.cls = 3 ∧ j.reason = 0x0101 ∧ j.due = some s.nextEdge) ∧
      ((s.waitingOf k).length < 8192 → s.bt.closed = false → Completes (.descriptorReceived (.host f q) d desc input) s fun t =>
        ∃ j ∈ t.bt.jobs, j.id = s.bt.nextJob ∧ j.stage = .waiting ∧ j.desc = b ∧ j.eligible = s.openEdge)) ∧
    (fails = none → (txnVerb c || queuedCmd c) = false → Completes (.descriptorReceived (.host f q) d desc input) s fun t =>
      ∃ j ∈ t.bt.jobs, j.id = s.bt.nextJob ∧ j.stage = .command ∧ j.ready = false) ∧
    ((f.val, q.val) ∈ s.bt.inflight → s.staged k = 0 → Completes (.hostDescriptorReceived f q desc input) s fun t =>
      t.bt.nextJob = s.bt.nextJob + 1 ∧ t.bt.inflight = s.bt.inflight.erase (f.val, q.val)) ∧
    (∀ (port : Fin 64) (m : NetMeta) (p : Bytes),
      (s.routeOf port m = none → Completes (.frameReceived port m p) s fun t =>
        t.reg (R.NETW_RX_NOROUTE port) = satInc (s.reg (R.NETW_RX_NOROUTE port)) ∧ t.bt = s.bt ∧ s.onlyRegs t [R.NETW_RX_NOROUTE port]) ∧
      (∀ e, s.routeOf port m = some e → frameOk p = false → Completes (.frameReceived port m p) s fun t =>
        t.reg (R.NETW_RX_FRAMEHDR port) = satInc (s.reg (R.NETW_RX_FRAMEHDR port)) ∧ t.pends 251 ∧ t.bt.jobs = s.bt.jobs) ∧
      (∀ e, s.routeOf port m = some e → frameOk p = true → Completes (.frameReceived port m p) s fun t =>
        t.bt.nextJob = s.bt.nextJob + byteAt p 4 ∧ t.bt.nextReq = s.bt.nextReq + 1 ∧
        t.reg64 (R.NETW_RX_OK_LO port) = (s.reg64 (R.NETW_RX_OK_LO port) + 1) % 2 ^ 64)) ∧
    (∀ (i : Nat) (j : Job), s.job? i = some j → s.bt.closed = true → s.waitOver j s.nextEdge = true →
      Completes (.waitLimitExpiry i) s fun t =>
        (t.job? i).map (fun x => (x.stage, x.cls, x.due)) = some (.answered, 3, some s.nextEdge)) ∧
    (s.wardenAt who .store R.ADMIT_CTRL →
      (s.springRaw = false → Completes (.admitOpenWrite who v) s fun t => t.regBit R.ADMIT_CTRL 0 = bit v 0) ∧
      (s.springRaw = true → bit v 0 = true →
        Completes (.admitOpenWrite who v) s fun t => t.regBit R.ADMIT_CTRL 0 = s.regBit R.ADMIT_CTRL 0)) ∧
    (s.wardenAt who .store (R.ADMIT_WAIT_LIMIT d) → s.regBit R.ADMIT_CTRL 31 = false → s.reg (R.ADMIT_WAIT_LIMIT d) &&& 0xFFFFF000 = 0 →
      1 ≤ field v 11 0 → Completes (.admitWaitLimitWrite who d v) s fun t =>
        t.reg (R.ADMIT_WAIT_LIMIT d) = v &&& 0xFFF ∧ s.onlyRegs t [R.ADMIT_WAIT_LIMIT d])

/-- R85 to R87, R238, R251: at its due edge a job that is ready and committed is released, its completion in the ring of its queue; a
failing output copy turns it into FAULT 0x0505; a job that is late is counted, and its vat parked where the vat is the cause. -/
def Obligations.CouchReleases : Prop :=
  ∀ (s : State) (i : Nat) (j : Job), s.quiet = false → s.job? i = some j → j.due = some s.beat →
    let written (f : Fin 17) (q : Fin 8) (r : Rel) (t : State) : Prop := j.src = .host f q → s.queueOn f q = true → s.hostReach f = true →
      (⟨.completionRing f q, s.beat, s.completionOf j r (s.ringPhase f q)⟩ : Output) ∈ t.out ∧
      t.reg (R.HOSTIF_CQ_TAIL f q) = w32 (((s.reg (R.HOSTIF_CQ_TAIL f q)).toNat + 1) % s.ringSize f q)
    (j.ready = true → (j.onVat = none ∨ j.committed = true) →
      Completes (.couchRelease i) s (fun t => t.job? i = none ∧ ∀ f q, written f q j.rel t) ∧
      (∀ f q, j.src = .host f q → j.rel.output ≠ [] → Completes (.outputCopyFail i) s fun t =>
        t.job? i = none ∧ written f q ⟨6, 0x0505, [], []⟩ t ∧ t.reg R.COUCH_COPY_FAIL = satInc (s.reg R.COUCH_COPY_FAIL) ∧ t.pends 253)) ∧
    (j.onVat.isSome → (j.ready = false ∨ j.committed = false) →
      Completes (.missedEdge i true) s fun t =>
        t.job? i = none ∧ t.reg R.BEAT_MISS_COUNT = satInc (s.reg R.BEAT_MISS_COUNT) ∧ t.pends 245 ∧
        (j.surcharge = 0 → ∀ v, j.vat = some v → v < 64 → t.maskBit R.PMU_PARK_FAULT_LO v = true))

/-- R233 to R235, R248, R782, R785 to R787, R961: ring pointers and enables written by host software, what closing a queue does to its jobs,
and what a reset of a function, of the link and the loss of Bus Master Enable do. -/
def Obligations.HostRings : Prop :=
  ∀ (s : State) (who : Sender) (f : Fin 17) (q : Fin 8) (v : Word), s.hostAt who f →
    (v.toNat < s.ringSize f q → Completes (.sqTailWrite who f q v) s fun t =>
      t.reg (R.HOSTIF_SQ_TAIL f q) = s.reg (R.HOSTIF_SQ_TAIL f q) &&& 0xFFFFF000 ||| v &&& 0xFFF ∧
      (s.fetches f q = true → 0 < s.freeEntries f q →
        (s.reg (R.HOSTIF_SQ_HEAD f q)).toNat ≠ (t.reg (R.HOSTIF_SQ_TAIL f q)).toNat →
        (⟨.hostFetch f q (s.reg (R.HOSTIF_SQ_HEAD f q)).toNat, s.beat, []⟩ : Output) ∈ t.out ∧ (f.val, q.val) ∈ t.bt.inflight)) ∧
    (s.ringSize f q ≤ v.toNat → Completes (.sqTailWrite who f q v) s fun t =>
      t.reg (R.HOSTIF_SQ_TAIL f q) = s.reg (R.HOSTIF_SQ_TAIL f q) ∧ t.regField (R.ERRC_LAST 0x11 0) 31 24 = 5) ∧
    Completes (.cqHeadWrite who f q v) s (fun t =>
      t.reg (R.HOSTIF_CQ_HEAD f q) = s.reg (R.HOSTIF_CQ_HEAD f q) &&& 0xFFFFF000 ||| v &&& 0xFFF ∧ (f.val, q.val) ∉ t.bt.full) ∧
    (1 ≤ f.val → Completes (.dqHeadWrite who f v) s fun t =>
      t.reg (R.HOSTIF_DQ_HEAD (f - 1)) = s.reg (R.HOSTIF_DQ_HEAD (f - 1)) &&& 0xFFFFF000 ||| v &&& 0xFFF ∧ (f.val, 8) ∉ t.bt.full) ∧
    (s.queueOn f q = false → 4 ≤ field v 19 16 → field v 19 16 ≤ 12 → field v 27 24 ≤ 8 →
      Completes (.hostQueueEnable who f q false v) s fun t =>
        t.queueOn f q = true ∧ t.reg (R.HOSTIF_SQ_TAIL f q) = 0 ∧ t.reg (R.HOSTIF_SQ_HEAD f q) = 0 ∧ t.reg (R.HOSTIF_CQ_HEAD f q) = 0 ∧
        t.reg (R.HOSTIF_CQ_TAIL f q) = 0 ∧ t.ringPhase f q = 1 ∧ t.ringSize f q = 2 ^ field v 19 16) ∧
    (1 ≤ f.val → s.regBit (R.HOSTIF_DQ_CTRL (f - 1)) 0 = false → 4 ≤ field v 19 16 → field v 19 16 ≤ 12 →
      Completes (.hostQueueEnable who f q true v) s fun t =>
        t.regBit (R.HOSTIF_DQ_CTRL (f - 1)) 0 = true ∧ t.reg (R.HOSTIF_DQ_HEAD (f - 1)) = 0 ∧ t.reg (R.HOSTIF_DQ_TAIL (f - 1)) = 0) ∧
    (s.queueOn f q = true → field v 19 16 = s.regField (R.HOSTIF_Q_CTRL f q) 19 16 → field v 27 24 ≤ 8 →
      Completes (.hostQueueClose who f q v) s fun t =>
        t.queueOn f q = false ∧
        ∀ i j, s.job? i = some j → j.isWaiting = true → j.ofQueue f q = true → s.reachable j = true →
          (t.job? i).map (fun x => (x.stage, x.cls, x.reason)) = some (.answered, 5, 0x0301)) ∧
    (1 ≤ f.val → Completes (.functionLevelReset f) s fun t =>
      (∀ r : Fin 8, t.queueOn f r = false) ∧ t.hostReach f = false ∧ t.pends (215 + f) ∧ t.reg (R.HOSTIF_WIN_SIZE f) = 0) ∧
    Completes .hostConventionalReset s (fun t =>
      (∀ (g : Fin 17) (r : Fin 8), t.queueOn g r = false) ∧ (∀ g : Fin 17, t.hostReach g = false) ∧ t.pends 239) ∧
    Completes (.busMasterDisable f) s (fun t => t.hostReach f = false ∧ s.onlyRegs t [R.HOSTIF_STATUS f]) ∧
    (∀ bme : BitVec 17, Completes (.hostLinkUp bme) s fun t =>
      (∀ g : Fin 17, t.hostReach g = bme.getLsbD g) ∧ t.pends 239)

/-- R260 to R272: CANCEL removes what waits and marks what runs; ABORT ends what its scope selects at the edge after e0 and completes two
edges after e0. -/
def Obligations.CancelAndAbort : Prop :=
  ∀ (s : State) (i k : Nat) (j x : Job), s.job? k = some x → s.reachable x = true → k < i →
    (∀ f q, s.command i 0x0601 = some j → j.src = .host f q → byteAt j.desc 0x20 = 0xFF → x.ofQueue f q = true →
      tagMatch x.desc (leAt j.desc 0x24 4) (leAt j.desc 0x28 4) = true →
      Completes (.cancel i) s fun t =>
        (t.job? i).map (fun y => (y.ready, y.cls, y.due)) = some (true, 0, some s.openEdge) ∧
        (x.isWaiting = true → (t.job? k).map (fun y => (y.stage, y.cls, y.reason, y.due)) = some (.answered, 5, 0x0301, some s.openEdge)) ∧
        (x.onVat.isSome → x.cls ≠ 4 → (t.job? k).map (·.marked) = some true)) ∧
    (s.command i 0x0602 = some j → (∀ a ∈ s.bt.aborts, a.job ≠ i) → byteAt j.desc 0x20 = 1 → x.deckle = j.deckle →
      x.ofQueue (j.deckle + 1) (byteAt j.desc 0x21) = true → (x.ready && x.cls == 4) = false →
      Completes (.abort i) s fun t =>
        t.regBit R.ADMIT_STATUS 2 = true ∧ t.reg R.ADMIT_ABORT_EDGE = w32 (s.edgeAfter (s.now + 2000)) ∧
        (t.job? k).map (fun y => (y.ready, y.cls, y.due)) = some (true, 4, some (s.edgeAfter (s.now + 2000) + 1)) ∧
        ∀ v e, x.onVat = some (v, e) → v < 64 → t.inAdmission v = false) ∧
    (∀ a, (s.bt.aborts.find? fun y => y.job == i && y.drain.isNone) = some a → s.quiet = false →
      (s.beat = a.e0 + 1 → (∃ r, (k, r) ∈ a.ends) → x.due = some s.beat → x.ready = true → (x.onVat = none ∨ x.committed = true) →
        Completes (.abortRelease i) s fun t => t.job? k = none) ∧
      (s.beat = a.e0 + 2 → Completes (.abortComplete i) s fun t => a ∉ t.bt.aborts ∧ t.job? i = none ∧ t.pends 250))

/-- R274 to R279: a DRAIN closes its scope and flushes what waits there, completes when nothing of the scope is left, and ends it at its
limit; a RESUME is due at the first edge after the next close. R280 to R283, R393 to R395: a settings command is noted for the edge after
its close and completes there; JOURNAL_READ answers with the blocks it names. -/
def Obligations.QueueCommands : Prop :=
  (∀ (s : State) (i : Nat) (j : Job),
     (s.command i 0x0603 = some j → (∀ x ∈ s.bt.drains, x.job ≠ i) → Completes (.drain i) s fun t =>
       (∃ x ∈ t.bt.drains, x.job = i ∧ (x.deckle, x.queue) = scopeOf j ∧ x.done = false ∧ x.limit = leAt j.desc 0x24 4) ∧
       (byteAt j.desc 0x23 = 0 → t.bt.jobs = s.bt.jobs) ∧
       ∀ k x f r, byteAt j.desc 0x23 = 1 → byteAt j.desc 0x20 = 0 → s.job? k = some x → x.isWaiting = true → x.deckle = j.deckle →
         x.src = .host f r → r.val = byteAt j.desc 0x21 →
         (t.job? k).map (fun y => (y.stage, y.cls, y.reason, y.due)) = some (.answered, 3, 0x0105, some s.openEdge)) ∧
     (∀ x, (s.bt.drains.find? fun y => y.job == i) = some x →
       (s.drainOver x = true → Completes (.drainComplete i) s fun t => t.pends 249) ∧
       (s.limitOver x = true → Completes (.drainLimitExpiry i) s fun t =>
         (∃ a ∈ t.bt.aborts, a.drain = some i) ∧
         ∀ k y, s.job? k = some y → x.holds y = true → s.reachable y = true → (y.ready && y.cls == 4) = false →
           (t.job? k).map (fun z => (z.ready, z.cls)) = some (true, 4))) ∧
     (s.command i 0x8003 = some j → (∀ r ∈ s.bt.resumes, r.1 ≠ i) → Completes (.resume i) s fun t =>
       (i, (scopeOf j).1, (scopeOf j).2, s.openEdge) ∈ t.bt.resumes ∧ t.bt.jobs = s.bt.jobs ∧ s.onlyRegs t [])) ∧
  (∀ (s : State) (i : Nat) (j : Job),
     (s.command i 0x8001 = some j → Completes (.seqSettings i) s fun t =>
       t.bt.settings = s.bt.settings ++ [⟨s.openEdge + 1, j.deckle, false, byteAt j.desc 0x20, j.input⟩] ∧
       (t.job? i).map (fun y => (y.ready, y.cls, y.due)) = some (true, 0, some (s.openEdge + 1)) ∧ s.onlyRegs t []) ∧
     (s.command i 0x8002 = some j → Completes (.pkeSettings i) s fun t =>
       t.bt.settings = s.bt.settings ++ [⟨s.openEdge + 1, j.deckle, true, byteAt j.desc 0x20, j.input⟩] ∧
       (t.job? i).map (fun y => (y.ready, y.cls, y.due)) = some (true, 0, some (s.openEdge + 1)) ∧ s.onlyRegs t []) ∧
     (s.job? i = some j → journalReadTaken j = true → byteAt j.desc 0x20 = 0 → leAt j.desc 0x30 2 = 1 →
       Completes (.journalRead i) s fun t =>
         (t.job? i).map (fun y => (y.ready, y.cls, y.output)) = some (true, 0, s.journalBlock j.deckle (leAt j.desc 0x28 8)) ∧ s.onlyRegs t []))

/-- R100, R101, R242: a symmetric or key verb that its vat works on ends there and then OK, REFUSED or FAULT; without OK it gives neither
RESULT nor output; a read set that failed makes it FAULT 0x4002. R446, R447, R544: a user verb whose key is not alive is REFUSED without
running; its program ends it OK with its output area, FAULT with its exception, or not at all within its tariff. -/
def Obligations.VerbsEnd : Prop :=
  (∀ (s : State) (i : Nat) (x : Work) (p : Instr × Nat),
     p ∈ [(.pinTranslate i, 0x0101), (.pinVerify i, 0x0102), (.macGenerate i, 0x0103), (.macVerify i, 0x0104), (.cryptogramVerify i, 0x0105),
       (.dukptDerive i, 0x0106), (.tokenize i, 0x0107), (.detokenize i, 0x0108), (.dataTranslate i, 0x0109), (.seal i, 0x0301), (.openV i, 0x0302),
       (.hash i, 0x0303), (.keyImport i, 0x0401), (.keyExport i, 0x0402), (.keyGenerate i, 0x0403), (.keyUpdate i, 0x0404), (.keyRetire i, 0x0405),
       (.random i, 0x0501), (.noop i, 0x0502), (.vaultSet i, 0x8004)] →
     s.work i p.2 = some x →
     Completes p.1 s fun t => ∃ cls reason result output, t.ended i cls reason result output ∧ cls ∈ [0, 1, 6] ∧ (cls = 0 → reason = 0) ∧
       (cls ≠ 0 → result = [] ∧ output = []) ∧ (x.j.readSet = 3 → cls = 6 ∧ reason = 0x4002)) ∧
  (∀ (s : State) (i : Nat) (j : Job) (u : UserVerb) (x : Work), s.job? i = some j → s.userVerb j.deckle (dVerb j.desc) = some u →
     s.work i (dVerb j.desc) = some x → x.j.readSet ≠ 3 →
     (∀ r, nbit u.flags 0 = true → firstFail (s.keyAlive x.j.deckle (dKeyA x.j.desc) (s.keyFor x (dKeyA x.j.desc))) = some r →
       Completes (.userVerb i) s fun t => t.ended i 1 r [] []) ∧
     (u.tariff = 1 → nbit u.flags 0 = false → Completes (.userVerb i) s fun t => (t.job? i).map (·.ready) = some false) ∧
     Completes (.userVerb i) s (fun t =>
       (t.job? i).map (·.ready) = some false ∨ (∃ out, t.ended i 0 0 [] out) ∨ t.ended i 6 0x1801 [] [] ∨ t.ended i 6 0x0501 [] [] ∨
       ∃ r, t.ended i 1 r [] []))

/-- R104, R116 to R119, R148 to R155, R242: what MAC_GENERATE, MAC_VERIFY, SEAL, OPEN, HASH, RANDOM and NOOP give when their keys are
suitable, and the first failing check's reason when they are not. -/
def Obligations.SymmetricResults : Prop :=
  ∀ (s : State) (i : Nat) (x : Work), x.j.readSet ≠ 3 →
    let b := x.j.desc
    let m := x.j.input
    let ra := s.keyFor x (dKeyA b)
    let len := macLenOf x.j.set (dAlg b) (byteAt b 0x20)
    (s.work i 0x0103 = some x →
      (firstFail (s.macChecks x ra false) = none →
        Completes (.macGenerate i) s fun t => t.ended i 0 0 [] ((macFull (dAlg b) ra.key m).take len)) ∧
      ∀ r, firstFail (s.macChecks x ra false) = some r → Completes (.macGenerate i) s fun t => t.ended i 1 r [] []) ∧
    (s.work i 0x0104 = some x → ksnPresent (slice b 0x24 12) = false → firstFail (s.macChecks x ra true) = none → len ≤ m.length →
      ((macFull (dAlg b) ra.key (m.take (m.length - len))).take len = m.drop (m.length - len) →
        Completes (.macVerify i) s fun t => t.ended i 0 0 [] []) ∧
      ((macFull (dAlg b) ra.key (m.take (m.length - len))).take len ≠ m.drop (m.length - len) →
        Completes (.macVerify i) s fun t => t.ended i 1 0x1201 [] [])) ∧
    (s.work i 0x0301 = some x → byteAt b 0x25 = 1 → firstFail (s.sealChecks x ra) = none →
      let g := gcmEnc ra.key (slice b 0x28 12) (m.take (leAt b 0x20 4)) (m.drop (leAt b 0x20 4))
      Completes (.seal i) s fun t => t.ended i 0 0 (slice b 0x28 12) (g.1 ++ g.2.take (tagLenOf b))) ∧
    (s.work i 0x0302 = some x → firstFail (s.keyChecks x.j.deckle (dKeyA b) ra [uD0] [mD, mB] (ktAes ra.ktype)) = none →
      let n := tagLenOf b
      let c := (m.take (m.length - n)).drop (leAt b 0x20 4)
      let right := (gcmTag ra.key (slice b 0x28 12) (m.take (leAt b 0x20 4)) c).take n = m.drop (m.length - n)
      (right → Completes (.openV i) s fun t => t.ended i 0 0 [] (ctrMode 4 (aesEnc ra.key) (slice b 0x28 12 ++ [0, 0, 0, 2]) c)) ∧
      (¬ right → Completes (.openV i) s fun t => t.ended i 1 0x1701 [] [])) ∧
    (s.work i 0x0303 = some x → Completes (.hash i) s fun t => t.ended i 0 0 [] (hashOf (dAlg b) m)) ∧
    (∀ d, s.work i 0x0501 = some x → byteAt b 0x20 = 0 → s.laneErr x.v = false → (s.unit x.v).lane = some d →
      let g := drbgGenerate d (dOutLen b) (slice b 0x24 (byteAt b 0x21))
      Completes (.random i) s fun t =>
        t.ended i 0 0 [] g.1 ∧ (t.unit x.v).lane = some g.2 ∧ t.reg (R.VDR_RANDOM x.v) = satInc (s.reg (R.VDR_RANDOM x.v))) ∧
    (s.work i 0x0501 = some x → s.laneErr x.v = true → Completes (.random i) s fun t => t.ended i 6 0x1801 [] []) ∧
    (s.work i 0x0502 = some x → Completes (.noop i) s fun t => t.ended i 0 0 (leBytes 8 x.b ++ zeros 8) [])

/-- R136, R138: with no check digit, DETOKENIZE's digits undo TOKENIZE's, for the same key, tweak and profile. -/
def Obligations.TokensInvert : Prop :=
  ∀ (key b : Bytes) (lead trail : Nat) (ds : List Nat), (∀ d ∈ ds, d < 10) → lead + trail + 6 ≤ ds.length → ds.length ≤ 32 →
    tokenDigits false key b lead trail 0 (tokenDigits true key b lead trail 0 ds) = ds ∧
    (tokenDigits true key b lead trail 0 ds).length = ds.length ∧
    (tokenDigits true key b lead trail 0 ds).take lead = ds.take lead ∧
    (tokenDigits true key b lead trail 0 ds).drop (ds.length - trail) = ds.drop (ds.length - trail)

/-- R167 to R169, R216 to R220, R224, R228: a public-key verb leaves its result in its vat's engine, busy until the done edge, where it is
handed over and the operand memory is zero; START, WIPE and the locks do as their rules say. -/
def Obligations.PublicKeyEngine : Prop :=
  ∀ (s : State) (i : Nat) (v : Vat) (who : Sender) (w : Word),
    (∀ p ∈ [(Instr.sign i, 0x0201), (.verify i, 0x0202), (.keypair i, 0x0203), (.agree i, 0x0204), (.encapsulate i, 0x0205)],
      ∀ x, s.pkeWork i p.2 = some x → x.v < s.pk.length →
      Completes p.1 s fun t => (t.pke x.v).job = some i ∧ (t.pke x.v).done = true ∧ (t.pke x.v).ended = false ∧ t.pkeBusy x.v = true ∧
        (t.job? i).map (·.ready) = some false) ∧
    (s.pkeBusy v = true → (s.pke v).done = true → (s.pke v).ended = false →
      (Completes (.pkeWorkEnd v true true) s fun t =>
        (t.pke v).ended = true ∧ (t.pke v).bad = none ∧ (∀ a, 0x100 ≤ a → a < 0x1100 → t.byte (pkeMem v + a) = 0) ∧
        ∀ a, 0x2500 ≤ a → a < 0x4000 → t.byte (pkeMem v + a) = 0) ∧
      (Completes (.pkeWorkEnd v false true) s fun t => (t.pke v).bad = some 0x2F03 ∧ t.regBit (R.PKE_STATUS v) 4 = true)) ∧
    (∀ j, s.pkeBusy v = true → (s.reg (R.PKE_DONE_EDGE v)).toNat = s.beat % 2 ^ 32 → (s.pke v).job = some i → s.job? i = some j →
      (s.pke v).done = true → (s.pke v).ended = true → (s.pke v).bad = none →
      ((s.pke v).rounds ≤ 24 → Completes (.pkeDoneEdge v true) s fun t =>
        (if (s.pke v).vd.1 = 0 then t.ended i 0 0 (s.pke v).result (s.pke v).output else t.ended i (s.pke v).vd.1 (s.pke v).vd.2 [] []) ∧
        t.pkeBusy v = false ∧ t.regBit (R.PKE_STATUS v) 1 = true ∧ (t.pke v).job = none ∧
        t.reg (R.PKE_JOBS v) = satInc (s.reg (R.PKE_JOBS v)) ∧ ∀ a, a < 0x4000 → t.byte (pkeMem v + a) = 0) ∧
      (24 < (s.pke v).rounds → s.regBit (R.PKE_STATUS v) 2 = false → Completes (.pkeDoneEdge v true) s fun t =>
        (t.job? i).map (·.due) = some (some (j.admitEdge + 2 * (j.due.getD 0 - j.admitEdge))) ∧ t.regBit (R.PKE_STATUS v) 2 = true ∧
        t.pkeBusy v = true)) ∧
    (s.vatCoreAt who v →
      let blk := s.read (pkeMem v) 0x100
      let need := pkeTariff (leAt blk 0 2) (byteAt blk 2)
      (bit w 1 = false → s.pkeBusy v = false → 1 ≤ need → need ≤ leAt blk 4 4 → byteAt blk 3 = 0 → allZero (slice blk 0x40 192) = true →
        Completes (.pkeStart who v w) s fun t =>
          t.pkeBusy v = true ∧ t.reg (R.PKE_JOB v) = w32 (byteAt blk 2 * 65536 + leAt blk 0 2) ∧
          t.reg (R.PKE_DONE_EDGE v) = w32 ((s.beat + leAt blk 4 4 - 1) % 2 ^ 32)) ∧
      (s.pkeBusy v = true → bit w 1 = false → Completes (.pkeStart who v w) s fun t =>
        t.reg (R.PKE_JOB v) = s.reg (R.PKE_JOB v) ∧ t.regField (R.ERRC_LAST (0x40 + v) 0) 31 24 = 5) ∧
      (s.pkeBusy v = false → bit w 0 = false → Completes (.pkeWipe who v w) s fun t =>
        (∀ a, a < 0x4000 → t.byte (pkeMem v + a) = 0) ∧ (∀ p, p < pkeMem v ∨ pkeMem v + 0x4000 ≤ p → t.byte p = s.byte p) ∧
        t.regBit (R.PKE_STATUS v) 3 = true) ∧
      (s.regBit (R.SYM_LOCK v) 0 = false → Completes (.symLockWrite who v w) s fun t =>
        t.regBit (R.SYM_LOCK v) 0 = bit w 0 ∧ s.onlyRegs t [R.SYM_LOCK v]) ∧
      (s.regBit (R.SYM_LOCK v) 0 = true → bit w 0 = false → Completes (.symLockWrite who v w) s fun t =>
        t.regBit (R.SYM_LOCK v) 0 = true ∧ t.regField (R.ERRC_LAST (0x40 + v) 0) 31 24 = 3) ∧
      (s.regBit (R.PKE_LOCK v) 0 = false → Completes (.pkeLockWrite who v w) s fun t =>
        t.regBit (R.PKE_LOCK v) 0 = bit w 0 ∧ s.onlyRegs t [R.PKE_LOCK v]))

/-- R315, R323, R334 to R340, R359, R951, R954: a key verb that ends OK holds one change until its due edge, and changes nothing otherwise;
the change commits with its record, or is given up when CANCEL marked the job; invalidations empty windows; the mirror list only loses
members. -/
def Obligations.KeyChanges : Prop :=
  ∀ (s : State) (i : Nat),
    (∀ p ∈ [(Instr.keyImport i, 0x0401), (.keyGenerate i, 0x0403), (.keyUpdate i, 0x0404), (.keyRetire i, 0x0405)],
      ∀ x, s.work i p.2 = some x → Completes p.1 s fun t =>
        ((t.job? i).map (·.cls) = some 0 ∧ ∃ c, t.ks.changes = s.ks.changes ++ [c] ∧ c.job = i ∧ c.deckle = x.j.deckle ∧
          c.handle = c.record.handle ∧ c.due = x.j.due.getD 0 ∧ c.record.since = x.j.due.getD 0) ∨
        ((t.job? i).map (·.cls) ≠ some 0 ∧ t.ks.changes = s.ks.changes)) ∧
    (∀ c j, (s.ks.changes.find? fun c => c.job == i) = some c → s.job? i = some j → s.beat + 1 = c.due → c.sync = false → c.stage = .admitted →
      (j.marked = false → j.ready = true → j.cls = 0 → Completes (.keyChangeCommit i) s fun t =>
        t.keyNow c.record.deckle c.record.handle = c.record ∧
        (∀ v ∈ s.vatsOf c.record.deckle, (v, c.record.handle, c.record.gen) ∈ t.ks.invals) ∧
        ((s.chain c.record.deckle).present = true → ∃ p ∈ t.jn.queue, p.kind = 3 ∧ p.key = some c.record)) ∧
      (j.marked = true → Completes (.keyChangeCommit i) s fun t =>
        (∃ d ∈ t.ks.changes, d.job = i ∧ d.stage = .rolledBack) ∧
        ∀ r ∈ t.ks.recs, r.deckle = c.deckle → r.handle = c.handle → r.state ≠ 2)) ∧
    (∀ (v : Vat) h g, (v.val, h, g) ∈ s.ks.invals → Completes (.vatInvalidation v h g) s fun t =>
      (∀ e ∈ t.ks.window, e.vat = v.val → e.handle = h → g ≤ e.gen) ∧ (v.val, h, g) ∉ t.ks.invals ∧
      t.regBit (R.VEV_PEND_LO v) 5 = true) ∧
    (∀ (who : Sender) (d : Deckle) (w : Word), s.wardenAt who .store (R.KEYS_MIRROR_LIST d) → s.regBit R.KEYS_CTRL 31 = false →
      (w &&& 0xFFFF &&& ~~~(s.reg (R.KEYS_MIRROR_LIST d)) = 0 → Completes (.keysMirrorListWrite who d w) s fun t =>
        t.regField (R.KEYS_MIRROR_LIST d) 15 0 = field w 15 0 ∧ s.onlyRegs t [R.KEYS_MIRROR_LIST d]) ∧
      (w &&& 0xFFFF &&& ~~~(s.reg (R.KEYS_MIRROR_LIST d)) ≠ 0 → Completes (.keysMirrorListWrite who d w) s fun t =>
        t.reg (R.KEYS_MIRROR_LIST d) = s.reg (R.KEYS_MIRROR_LIST d) ∧ t.regField (R.ERRC_LAST 5 0) 31 24 = 4))

/-- R346, R353, R355 to R358: the two-phase change at its origin and at its peers, mirrored records and counters, and resynchronisation. -/
def Obligations.Mirroring : Prop :=
  ∀ (s : State) (d : Deckle) (p : Fin 16) (h g : Nat) (m : KeyMsg),
    (∀ c ∈ s.ks.changes, c.deckle = d.val → c.handle = h → c.record.gen = g → c.sync = true → c.stage = .prepared → s.beat < c.edge + 9 →
      p.val ∈ c.peers → s.regBit R.ULOON_MIRROR_MASK p = true →
      Completes (.syncAckReceived d p h g true false) s (fun t => { c with acks := p.val :: c.acks } ∈ t.ks.changes) ∧
      Completes (.syncAckReceived d p h g false false) s (fun t => { c with nacks := p.val :: c.nacks } ∈ t.ks.changes)) ∧
    Completes (.syncAckReceived d p h g true true) s (fun t =>
      ∀ x ∈ t.ks.decisions, x.deckle = d.val → x.handle = h → x.gen = g → p.val ∉ x.waiting) ∧
    (∀ i c j, (s.ks.changes.find? fun c => c.job == i) = some c → s.job? i = some j → c.sync = true → c.stage = .prepared →
      c.edge + 9 ≤ s.beat →
      (j.marked = false → (∀ q ∈ c.peers, q ∈ c.acks) → Completes (.syncCommitDecision i) s fun t =>
        (∃ e ∈ t.ks.changes, e.job = i ∧ e.stage = .committed) ∧
        t.ks.mail = s.ks.mail ++ [⟨3, 2, s.member, 16, c.deckle, c.handle, c.record.gen, []⟩]) ∧
      (j.marked = false → j.cls = 0 → (∃ q ∈ c.peers, q ∉ c.acks) → Completes (.syncCommitDecision i) s fun t =>
        (∃ e ∈ t.ks.changes, e.job = i ∧ e.stage = .rolledBack) ∧ t.pends 282 ∧
        (t.job? i).map (fun j => (j.cls, j.reason)) = some (if c.nacks = [] then (6, 0x3020) else (1, 0x3021)) ∧
        t.ks.mail = s.ks.mail ++ [⟨3, 3, s.member, 16, c.deckle, c.handle, c.record.gen, []⟩])) ∧
    (∀ x ∈ s.ks.decisions, x.deckle = d.val → x.handle = h → x.gen = g → p.val ∈ x.waiting → x.since + 64 ≤ s.beat →
      Completes (.syncDecisionTimeout d p h g) s fun t =>
        t.regBit R.ULOON_MIRROR_MASK p = false ∧ t.reg R.ULOON_REMOVALS = satInc (s.reg R.ULOON_REMOVALS) ∧ t.pends 285 ∧
        ∀ y ∈ t.ks.decisions, p.val ∉ y.waiting) ∧
    (s.mirrors d p = true →
      let own := s.ks.changes.any fun c => c.deckle == d.val && c.handle == m.handle && c.sync && c.stage == .prepared
      (own = false → Completes (.syncPrepareReceived d p m) s fun t =>
        (∃ q ∈ t.ks.prepares, q.deckle = d.val ∧ q.origin = p.val ∧ q.record.handle = m.handle ∧ q.record.gen = m.gen) ∧
        t.ks.mail = s.ks.mail ++ [⟨3, 0, s.member, p, d, m.handle, m.gen, [0]⟩]) ∧
      (own = true → s.member ≤ p.val → Completes (.syncPrepareReceived d p m) s fun t =>
        t.ks.prepares = s.ks.prepares ∧ t.ks.mail = s.ks.mail ++ [⟨3, 1, s.member, p, d, m.handle, m.gen, [0]⟩]) ∧
      (∀ q, (s.ks.prepares.find? fun q => q.deckle == d.val && q.origin == p.val && q.record.handle == h && q.record.gen == g) = some q →
        ((s.keyNow d h).gen < g → Completes (.syncDecisionReceived d p h g true) s fun t =>
          t.keyNow q.record.deckle h = { q.record with since := s.beat + 1 } ∧ q ∉ t.ks.prepares) ∧
        Completes (.syncDecisionReceived d p h g false) s (fun t => t.ks.recs = s.ks.recs ∧ q ∉ t.ks.prepares)) ∧
      ((s.keyNow d m.handle).gen < m.gen → Completes (.mirrorApplyReceived d p m) s fun t =>
        (t.keyNow d m.handle).gen = m.gen ∧ (t.keyNow d m.handle).since = s.beat + 1) ∧
      (m.gen < (s.keyNow d m.handle).gen → Completes (.mirrorApplyReceived d p m) s fun t => t.ks = s.ks ∧ t.pends 285) ∧
      (∀ values : List (Nat × Nat), Completes (.mirrorCountersReceived d p values) s fun t =>
        ∀ x ∈ values, hTerm x.1 = true → s.regBit (R.KEYS_DCFG d) 4 = true → x.2 ≤ t.counterNow d x.1 (s.keyNow d x.1).lastCtr) ∧
      (∀ recs : List KeyMsg, Completes (.mirrorResync d p recs) s fun t =>
        t.regBit R.KEYS_STATUS 3 = false ∧ ∀ q ∈ t.ks.prepares, q.deckle = d.val → q.origin ≠ p.val))

/-- R373, R382, R390, R391: a chain past its records or beats starts its next seal epoch with event 262; an open block closes 64 beats after
its first record, as the next number; a completed write makes its block durable; the lowest unreleased block is released when the conditions
hold and only then. -/
def Obligations.JournalBlocks : Prop :=
  ∀ (s : State) (k : Fin 17),
    let c := s.chain k.val
    (c.present = true → c.nextKey = none → (16777216 ≤ s.nextSeq k.val - c.sealSeq ∨ 1048576 ≤ s.beat - c.sealBeat) →
      Completes (.sealEpochRotate k) s fun t =>
        (t.chain k.val).nextKey = some (s.freeBytes 32) ∧ t.pends 262 ∧ t.nextSeq k.val = s.nextSeq k.val ∧
        ∃ p, t.jn.queue = s.jn.queue ++ [p] ∧ p.kind = 0x10 ∧ p.chain = k.val) ∧
    (c.openRecs ≠ [] → (c.openLines = 63 ∨ c.openBeat + 64 ≤ s.beat) → s.nextJbn k.val + 1 < 2 ^ 64 →
      Completes (.journalBlockClose k) s fun t =>
        (t.chain k.val).openRecs = [] ∧ t.nextJbn k.val = s.nextJbn k.val + 1 ∧
        ∃ b ∈ (t.chain k.val).blocks, b.jbn = s.nextJbn k.val ∧ b.image = s.blockImage k.val ∧ b.lines = c.openLines) ∧
    (¬ (c.openRecs ≠ [] ∧ (c.openLines = 63 ∨ c.openBeat + 64 ≤ s.beat)) → exec (.journalBlockClose k) s = .next s) ∧
    (∀ jbn, (c.blocks.any fun b => b.jbn == jbn && b.written) = true →
      Completes (.journalBlockDurable ⟨k.val, by omega⟩ jbn) s fun t =>
        (t.chain k.val).blocks = c.blocks.map (fun b => if b.jbn = jbn then { b with durable := true } else b) ∧
        t.reg (R.JOURNAL_DUR k.val) = w32 (t.lowNotDurable k.val) ∧ s.onlyRegs t [R.JOURNAL_DUR k.val, R.JOURNAL_REL k.val]) ∧
    (∀ b rest, c.blocks = b :: rest →
      (s.releasable k.val b = true → Completes (.journalBlockRelease k) s fun t =>
        (t.chain k.val).blocks.map (·.jbn) = rest.map (·.jbn) ∧ t.nextJbn k.val = s.nextJbn k.val) ∧
      ((b.durable = false ∨ (s.reg (R.JOURNAL_ARCH k.val)).toNat ≤ b.jbn ∨ b.keys.all s.writtenBack = false) →
        exec (.journalBlockRelease k) s = .next s))

/-- R408, R410, R793, R794, R824: the one read set of a surcharged job and what becomes of each of its blocks; an NVMe command's completion,
Abort, controller reset and failure, and the loss and return of a port's link. -/
def Obligations.ReservoirPorts : Prop :=
  ∀ (s : State) (q : Fin 16),
    let mine (c : NvmeCmd) : Bool := c.port == q.val
    (∀ (i rbn : Nat) (j : Job) (x : Work), s.job? i = some j → j.asWork = some x → x.b = s.beat → j.surcharge ≠ 0 → j.readSet = 0 →
      s.dataBlock x = some rbn →
      Completes (.reservoirReadSet i) s fun t =>
        t.now = max s.now (s.bt.edgeAt + 2000) ∧
        (t.job? i).map (fun y => (y.readSet, y.reads)) = some (1, rbn :: (s.treeBlocks rbn).map fun n => ((s.nsFind 6 16).map (·.rbn)).getD 0 + n) ∨
        s.nsFind 6 16 = none) ∧
    (∀ (i rbn : Nat) (j : Job), s.job? i = some j →
      (s.inTime j rbn = true →
        Completes (.reservoirReadComplete i rbn true) s (fun t =>
          (t.job? i).map (fun y => (y.readSet, y.reads)) =
            some (if j.readSet = 3 then 3 else if j.reads.erase rbn = [] then 2 else 1, j.reads.erase rbn) ∧ s.onlyRegs t []) ∧
        Completes (.reservoirReadComplete i rbn false) s (fun t =>
          (t.job? i).map (·.readSet) = some 3 ∧ t.reg R.RESV_INTEG_FAIL = satInc (s.reg R.RESV_INTEG_FAIL) ∧
          t.regBit R.RESV_STATUS 2 = true ∧ t.pends 263)) ∧
      (s.inTime j rbn = false → ∀ ok, exec (.reservoirReadComplete i rbn ok) s = .next s)) ∧
    (∀ (n : Nat) (c : NvmeCmd), (s.lk.nvme.filter mine)[n]? = some c →
      (c.kind = .read → Completes (.nvmeCompletion q n true) s fun t =>
        t.lk.nvme = s.lk.nvme.erase c ∧ s.onlyRegs t [R.RESPORT_LAT_MAX q.val] ∧
        t.reg (R.RESPORT_LAT_MAX q.val) = w32 (max (s.reg (R.RESPORT_LAT_MAX q.val)).toNat ((s.now - c.issued) / 1000))) ∧
      Completes (.nvmeCompletion q n false) s (fun t =>
        t.lk.nvme = s.lk.nvme.erase c ∧ t.reg (R.RESPORT_ERRORS q.val) = satInc (s.reg (R.RESPORT_ERRORS q.val)) ∧
        t.reg R.RESV_IO_ERR = satInc (s.reg R.RESV_IO_ERR) ∧ t.pends 265)) ∧
    (∀ c, s.nvmeFirst q.val (fun c => c.aborted.isNone) = some c → Completes (.nvmeCommandTimeout q) s fun t =>
      t.now = max s.now (c.issued + s.regField (R.RESPORT_CFG q.val) 31 16 * 1000000) ∧ { c with aborted := some t.now } ∈ t.lk.nvme ∧
      t.reg (R.RESPORT_TIMEOUTS q.val) = satInc (s.reg (R.RESPORT_TIMEOUTS q.val)) ∧ t.regBit (R.RESPORT_EVT_STATUS q.val) 3 = true ∧
      (s.regBit (R.RESPORT_EVT_EN q.val) 3 = true → t.pends (192 + q.val))) ∧
    (∀ c, s.nvmeFirst q.val (fun c => c.aborted.isSome) = some c → Completes (.nvmeAbortTimeout q) s fun t =>
      t.now = max s.now (c.aborted.getD 0 + 100000000) ∧ t.regBit (R.RESPORT_STATUS q.val) 8 = false ∧
      t.reg (R.RESPORT_RESETS q.val) = satInc (s.reg (R.RESPORT_RESETS q.val)) ∧ (∀ x ∈ t.lk.nvme, mine x = true → x.kind ≠ .read) ∧
      ∀ x ∈ s.lk.nvme, x.kind ≠ .read → x ∈ t.lk.nvme) ∧
    (∀ p, (s.lk.nvmeReset.find? fun p => p.1 == q.val) = some p → Completes (.nvmeReadyTimeout q) s fun t =>
      t.now = max s.now (p.2 + 2000000000) ∧ t.regBit (R.RESPORT_STATUS q.val) 10 = true ∧ ∀ x ∈ t.lk.nvme, mine x = false) ∧
    (∀ removed, s.regBit (R.RESPORT_STATUS q.val) 0 = true → Completes (.reservoirLinkLoss q removed) s fun t =>
      t.regBit (R.RESPORT_STATUS q.val) 0 = false ∧ t.regBit (R.RESPORT_STATUS q.val) 8 = false ∧ (∀ x ∈ t.lk.nvme, mine x = false) ∧
      ∀ x ∈ s.lk.nvme, mine x = false → x ∈ t.lk.nvme) ∧
    (∀ (gen : Fin 6) (width : Fin 3) (ident : Word), s.reg (R.RESPORT_CFG q.val) ≠ 0 → s.regBit (R.RESPORT_STATUS q.val) 10 = false →
      gen.val ≠ 0 → width.val ≠ 0 → Completes (.reservoirLinkUp q gen width ident) s fun t =>
        t.regBit (R.RESPORT_STATUS q.val) 0 = true ∧ t.regBit (R.RESPORT_STATUS q.val) 8 = true ∧
        t.regField (R.RESPORT_STATUS q.val) 3 1 = gen.val ∧ t.reg (R.RESPORT_IDENT q.val) = ident ∧
        ∀ c ∈ s.lk.nvme, mine c = true → { c with issued := s.now, aborted := none } ∈ t.lk.nvme)

/-- R452 to R458, R463, R464: a MOULD_LOAD replaces its staging area and answers what its checks found; MOULD_ABANDON empties it; a
MOULD_COMMIT is refused with the reason of its first failing check, or commits, and a deckle reopens once its vats are back. -/
def Obligations.MouldCommands : Prop :=
  ∀ (s : State) (i : Nat) (j : Job),
    let answered (t : State) (cls reason : Nat) : Prop :=
      (t.job? i).map (fun y => (y.ready, y.cls, y.reason, y.due)) = some (true, cls, reason, some s.nextEdge)
    (s.command i 0x8010 = some j → (∀ l ∈ s.md.loads, l.1 ≠ i) →
      (s.committing = true → Completes (.mouldLoad i) s fun t => answered t 1 0x5013 ∧ t.md = s.md) ∧
      (s.committing = false → Completes (.mouldLoad i) s fun t =>
        t.md.loads = s.md.loads ++ [(i, mouldTarget j.desc, (firstFail (s.mouldChecks j.input)).getD 0, j.input)] ∧
        t.stagedAt (mouldTarget j.desc) = none ∧ t.md.committed = s.md.committed ∧ s.onlyRegs t [])) ∧
    (∀ tg r im, s.job? i = some j → (s.md.loads.find? fun l => l.1 == i) = some (i, tg, r, im) →
      (r ≠ 0 → Completes (.mouldLoadComplete i) s fun t => answered t 1 r ∧ t.reg R.MOULD_LAST_REASON = w32 r) ∧
      (r = 0 → Completes (.mouldLoadComplete i) s fun t =>
        answered t 0 0 ∧ t.stagedAt tg = some im ∧
        (t.job? i).map (·.result) = some (partId (imageHead im) ++ leBytes 4 (partSvn (imageHead im)) ++ zeros 4))) ∧
    (s.command i 0x8012 = some j → Completes (.mouldAbandon i) s fun t =>
      t.stagedAt (mouldTarget j.desc) = none ∧ answered t 0 0 ∧ t.md.committed = s.md.committed ∧ s.onlyRegs t []) ∧
    (s.command i 0x8011 = some j → (s.md.commit.map (·.1)) ≠ some i →
      (s.stagedAt (mouldTarget j.desc) = none → Completes (.mouldCommit i) s fun t => answered t 1 0x5012 ∧ t.md = s.md) ∧
      ∀ im, s.stagedAt (mouldTarget j.desc) = some im →
        (partId (imageHead im) ≠ slice j.desc 0x28 8 → Completes (.mouldCommit i) s fun t => answered t 1 0x5012 ∧ t.md = s.md) ∧
        (partId (imageHead im) = slice j.desc 0x28 8 →
          (∀ r, firstFail (s.commitChecks im (mouldTarget j.desc)) = some r →
            Completes (.mouldCommit i) s fun t => answered t 1 r ∧ t.md = s.md) ∧
          (mouldTarget j.desc ≤ 16 → firstFail (s.commitChecks im (mouldTarget j.desc)) = none → Completes (.mouldCommit i) s fun t =>
            t.md.committed = some (s.mouldAfter im) ∧ t.regField R.MOULD_STATUS 2 0 = (if mouldTarget j.desc = 16 then 4 else 3) ∧
            (mouldTarget j.desc ≠ 16 → t.regField R.MOULD_STATUS 15 12 = mouldTarget j.desc ∧ mouldTarget j.desc ∈ t.md.closed)))) ∧
    (∀ d : Deckle, s.md.commit = some (i, some d.val) →
      (s.mouldState = 3 → s.vatsBack d.val = true → Completes .deckleReopen s fun t =>
        t.regField R.MOULD_STATUS 2 0 = 1 ∧ t.reg (R.MOULD_D_APPLY d.val) = w32 s.beat ∧ t.md.commit = none ∧ d.val ∉ t.md.closed) ∧
      (s.vatsBack d.val = false → exec .deckleReopen s = .next s))

/-- R12, R549, R551 to R556: a write of ATTR that sets VALID needs a legal entry; a valid or locked entry keeps its base; a locked entry
changes only by a SLUICE_CLEAR that names its owner while that owner is applying or the device restarts; an access that no entry matches is
refused at user level, and one that two match at any. -/
def Obligations.SluiceEntries : Prop :=
  ∀ (s : State) (who : Sender) (v : Word) (n : Fin 4736), n.val % 128 < sluiceEntries (n.val / 128) →
    let a := R.SLUICE_ATTR n.val
    let b := R.SLUICE_BASE n.val
    let r := tableRegion (n.val / 128)
    let w := v &&& 0xFFFF3F3F
    let kept (k code : Nat) (t : State) : Prop := t.reg k = s.reg k ∧ t.regField (R.ERRC_LAST 0x0F 0) 31 24 = code
    (s.wardenAt who .store a →
      (s.regBit a 30 = false → (bit w 31 = true → attrOk w (s.sluiceBase n.val) r.1 r.2 = true) →
        Completes (.sluiceAttrWrite who none n v) s fun t => t.reg a = w ∧ s.onlyRegs t [a]) ∧
      (s.regBit a 30 = false → bit w 31 = true → attrOk w (s.sluiceBase n.val) r.1 r.2 = false →
        Completes (.sluiceAttrWrite who none n v) s (kept a 4)) ∧
      (s.regBit a 30 = true → w ≠ s.reg a → Completes (.sluiceAttrWrite who none n v) s (kept a 3))) ∧
    (s.wardenAt who .store b →
      (s.regBit a 30 = false → s.regBit a 31 = false →
        Completes (.sluiceBaseWrite who none n false v) s fun t => t.reg b = v &&& 0xFFFFFFE0 ∧ s.onlyRegs t [b]) ∧
      (s.regBit a 30 = false → s.regBit a 31 = true → Completes (.sluiceBaseWrite who none n false v) s (kept b 5))) ∧
    (s.wardenAt who .store R.SLUICE_CLEAR → bit v 31 = true →
      let ours := s.regField R.MOULD_STATUS 2 0 = 4 ∨ (s.regField R.MOULD_STATUS 2 0 = 3 ∧ s.regField R.MOULD_STATUS 15 12 = field v 4 0)
      (ours → Completes (.sluiceClear who v) s fun t =>
        (s.regField a 23 19 = field v 4 0 → t.regBit a 31 = false ∧ t.regBit a 30 = false) ∧
        (s.regField a 23 19 ≠ field v 4 0 → t.reg a = s.reg a) ∧ t.reg b = s.reg b) ∧
      (¬ ours → Completes (.sluiceClear who v) s (kept a 5))) ∧
    (∀ (c : Core) (p : Bool) (kind : Kind) (size : Size) (adr : Nat), 0x8000000000 ≤ adr → adr < 0x8800000000 →
      let tb := if adr < 0x8400000000 then 0x23 else 0x24
      let hits := (s.deviceTable tb).filter fun e => s.sluiceMatches e ⟨c.val, p, kind, adr, none⟩
      (hits = [] → p = false → s.busCheck (.core c p) kind size adr = some (7, 1)) ∧
      (∀ e f l, hits = e :: f :: l → s.busCheck (.core c p) kind size adr = some (7, 3)))

/-- R857 to R862: opening a session draws a nonce; a verified approval of a listed custodian is counted; at the first edge after its time a
session ends refused with cause 4; grants lapse at their time; QUORUM_GUARD only gains bits; and a committed list replaces the old one. -/
def Obligations.QuorumSessions : Prop :=
  ∀ (s : State),
    (∀ (i : Nat) (j : Job), s.command i 0x8050 = some j → s.cd.session = none → (s.deepData 0x0106).isSome →
      (∀ g, g < 16 → nbit (leAt j.desc 0x20 2) g = true → qThresh s.custodians g ≠ 0) →
      Completes (.quorumOpen i) s fun t =>
        (t.cd.session.map fun x => (x.job, x.groups)) = some (i, leAt j.desc 0x20 2) ∧ t.regBit R.QUORUM_STATUS 0 = true ∧
        t.regField R.QUORUM_STATUS 23 8 = 0 ∧ t.pends 234) ∧
    (∀ (x : Session) (src : Fin 3) (pub sig : Bytes) (i : Nat), s.cd.session = some x → s.tripped = false → s.freshCard src x.opened = true →
      (List.range (qCount s.custodians)).find? (fun k => qKey s.custodians k == sha384 pub) = some i → i < 16 → pub.length = 65 →
      ecdsaVerify p256 pub (s.quorumHash x.groups i) sig = true →
      Completes (.quorumApproval src pub sig true) s fun t =>
        nbit (t.regField R.QUORUM_STATUS 23 8) i = true ∧ t.reg R.QUORUM_FAILS = s.reg R.QUORUM_FAILS) ∧
    (∀ x, s.cd.session = some x → x.ends ≤ s.bt.edgeAt →
      Completes .quorumTimeout s fun t =>
        t.cd.session = none ∧ t.regBit R.QUORUM_STATUS 0 = false ∧ t.regField R.QUORUM_STATUS 7 4 = 4 ∧
        t.reg R.QUORUM_GRANT = s.reg R.QUORUM_GRANT ∧ t.pends 234) ∧
    (s.reg R.QUORUM_GRANT ≠ 0 → Completes .quorumGrantLapse s fun t => t.reg R.QUORUM_GRANT = 0 ∧ t.pends 234) ∧
    (∀ (who : Sender) (v : Word), s.wardenAt who .store R.QUORUM_GUARD →
      Completes (.quorumGuardWrite who v) s fun t =>
        t.reg R.QUORUM_GUARD = s.reg R.QUORUM_GUARD ||| v &&& 0xFFFF ∧ s.onlyRegs t [R.QUORUM_GUARD]) ∧
    (∀ (i : Nat) (j : Job), s.command i 0x8051 = some j → (s.deepData 0x0106).isSome → s.granted 15 = true → listOk j.input = true →
      Completes (.quorumList i) s fun t => (∀ k : Fin 3, t.deep.at (deepAt 0x0106 k) = some (deepImage 0x0106 0x5A (s.deepGen 0x0106 + 1) (j.input.take 1056))) ∧
        t.granted 15 = false)

/-- R715, R721 to R728: an accepted extension hashes the digest onto its register and counts it; the stage only rises, and stage 2 derives
the CDI from W[0] to W[2] and the state; SPDM requests are answered by the service pair in order, errors for a wrong version, order or code,
in the formats that notes/assumptions/28.md names. -/
def Obligations.WatermarkAndAttestation : Prop :=
  ∀ (s : State) (who : Sender) (v : Word) (vdm : Bool) (m : Bytes),
    let i := field v 3 0
    let c := s.spdm vdm
    let up := (s.mctpOn vdm && s.serviceUp) = true
    let sent (t : State) (r : Bytes) : Prop := t.out = (⟨.mctp (b2n vdm), s.beat, 5 :: r⟩ : Output) :: s.out
    (s.pw.inReset = false → bit v 31 = true →
      (extendOk i s.stage who = true → Completes (.wmarkExtend who v) s fun t =>
        t.wmark i = sha384 (s.wmark i ++ s.regBytes (R.WMARK_EXT_DATA 0) 12) ∧ t.reg (R.WMARK_COUNT i) = satInc (s.reg (R.WMARK_COUNT i)) ∧
        s.onlyRegs t (R.WMARK_COUNT i :: (List.range 12).map fun k => R.WMARK_VALUE (12 * i + k))) ∧
      (extendOk i s.stage who = false → Completes (.wmarkExtend who v) s fun t =>
        t.wmark i = s.wmark i ∧ t.reg (R.WMARK_COUNT i) = s.reg (R.WMARK_COUNT i))) ∧
    (s.pw.inReset = false → bit v 0 = true →
      (s.stage = 0 → Completes (.wmarkAdvance v) s fun t => t.stage = 1 ∧ s.onlyRegs t [R.WMARK_STAGE]) ∧
      (s.stage = 1 → Completes (.wmarkAdvance v) s fun t =>
        t.stage = 2 ∧ t.regBit R.WMARK_STATUS 1 = true ∧ s.onlyRegs t [R.WMARK_STAGE, R.WMARK_STATUS] ∧
        t.lf.cdi = some (hmacOf 0x22 uds (s.wmark 0 ++ s.wmark 1 ++ s.wmark 2 ++ [by8 (s.life + 16 * b2n (s.regBit R.LIFE_STATUS 4))]))) ∧
      (2 ≤ s.stage → exec (.wmarkAdvance v) s = .next s)) ∧
    (up → byteAt m 0 = 0x10 → Completes (.getVersion vdm m) s fun t => (t.spdm vdm).step = 1 ∧ sent t (bytes [0x10, 0x04, 0, 0, 0, 1, 0x00, 0x12])) ∧
    (up → byteAt m 0 ≠ 0x12 →
      ∀ p ∈ [Instr.getCapabilities vdm m, .negotiateAlgorithms vdm m, .getDigests vdm m, .getCertificate vdm m, .challenge vdm m,
        .getMeasurements vdm m, .spdmUnsupportedRequest vdm m],
      Completes p s fun t => sent t [0x12, 0x7F, 0x41, 0] ∧ t.spdm vdm = c) ∧
    (up → byteAt m 0 = 0x12 →
      (c.step = 1 → 20 ≤ m.length → Completes (.getCapabilities vdm m) s fun t => (t.spdm vdm).step = 2) ∧
      (c.step = 2 → 32 ≤ m.length → byteAt m 6 % 2 = 1 → byteAt m 8 / 128 % 2 = 1 → byteAt m 12 / 2 % 2 = 1 →
        Completes (.negotiateAlgorithms vdm m) s fun t => (t.spdm vdm).step = 3) ∧
      (c.step ≠ 3 → ∀ p ∈ [Instr.getDigests vdm m, .getCertificate vdm m, .challenge vdm m, .getMeasurements vdm m],
        Completes p s fun t => sent t [0x12, 0x7F, 4, 0] ∧ t.spdm vdm = c) ∧
      (c.step = 3 → Completes (.getDigests vdm m) s fun t => sent t (bytes [0x12, 0x01, 0, 1] ++ sha384 s.spdmChain)) ∧
      (c.step = 3 → 8 ≤ m.length → byteAt m 2 = 0 → leAt m 4 2 < s.spdmChain.length → leAt m 6 2 ≤ s.spdmChain.length - leAt m 4 2 →
        leAt m 6 2 ≤ 4088 → Completes (.getCertificate vdm m) s fun t =>
          ∃ h : Bytes, h.length = 8 ∧ sent t (h ++ slice s.spdmChain (leAt m 4 2) (leAt m 6 2))) ∧
      (c.step = 3 → 36 ≤ m.length → byteAt m 2 = 0 → byteAt m 3 = 0 → Completes (.challenge vdm m) s fun t =>
        ∃ g : Bytes, sent t (bytes [0x12, 0x03, 0, 1] ++ sha384 s.spdmChain ++ s.spdmNonce.1 ++ s.opaqueData c.fmt1 ++ g)) ∧
      (c.step = 3 → 4 ≤ m.length → byteAt m 2 % 2 = 0 → byteAt m 3 ≤ 0x22 → Completes (.getMeasurements vdm m) s fun t =>
        ∃ h : Bytes, h.length = 8 ∧ sent t (h ++ s.measRecord (byteAt m 3) ++ s.spdmNonce.1 ++ s.opaqueData c.fmt1)) ∧
      Completes (.spdmUnsupportedRequest vdm m) s (fun t => sent t [0x12, 0x7F, 7, by8 (byteAt m 1)])) ∧
    (s.serviceUp = false → ∀ p ∈ [Instr.getVersion vdm m, .getCapabilities vdm m, .getDigests vdm m, .challenge vdm m], exec p s = .next s)

/-- R720, R734, R739 to R744, R945: IDENTITY outside the blank state is refused; a challenge is drawn and lapses; a LIFE_CHANGE whose first
failing check is c is refused with cause c, and spends the challenge from cause 2 on; the test port offers an instruction by the lifecycle
state, and LIFE_AUTH's five commands act only while it is selected. -/
def Obligations.LifecycleAndTestPort : Prop :=
  ∀ (s : State) (i : Nat) (j : Job),
    let answered (t : State) (cls : Nat) (out : Bytes) : Prop :=
      (t.job? i).map (fun y => (y.ready, y.cls, y.output, y.due)) = some (true, cls, out, some s.nextEdge)
    let cause (t : State) : Nat := t.regField R.LIFE_STATUS 19 16
    let held (t : State) (n : Bytes) : Prop :=
      t.lf.challenge = some (n, s.rtcSec + 60) ∧ t.reg R.LIFE_CHAL_EXP = w32 (s.rtcSec + 60) ∧ t.regBit R.LIFE_STATUS 5 = true
    let k := s.lifeCheck (byteAt j.desc 0x20) j.input
    (s.command i 0x8032 = some j →
      (s.life ≠ 0 → Completes (.identity i) s fun t => answered t 1 [] ∧ cause t = 1) ∧
      (s.life = 0 → byteAt j.desc 0x20 = 0 → Completes (.identity i) s fun t => answered t 0 (s.uid ++ devicePub) ∧ s.onlyRegs t []) ∧
      (s.life = 0 → byteAt j.desc 0x20 ≠ 0 → s.chainGood j.input = false → Completes (.identity i) s fun t => answered t 1 [] ∧ cause t = 8)) ∧
    (s.command i 0x8030 = some j → Completes (.lifeChallenge i) s fun t =>
      ∃ n, held t n ∧ answered t 0 (n ++ s.uid ++ leBytes 4 (s.rtcSec + 60) ++ zeros 12)) ∧
    (∀ n e, s.lf.challenge = some (n, e) → Completes .lifeChallengeExpiry s fun t =>
      t.now = max s.now (s.tm.rtcAt + e * 1000000000) ∧ t.lf.challenge = none ∧ t.reg R.LIFE_CHAL_EXP = 0 ∧ t.regBit R.LIFE_STATUS 5 = false) ∧
    (s.command i 0x8031 = some j → s.lf.moving = none →
      (k ≠ 0 → Completes (.lifeChange i) s fun t =>
        answered t 1 [] ∧ cause t = k ∧ (2 ≤ k → t.lf.challenge = none ∧ t.reg R.LIFE_AUTH_FAILS = satInc (s.reg R.LIFE_AUTH_FAILS)) ∧
        (k = 1 → t.lf.challenge = s.lf.challenge)) ∧
      (k = 0 → byteAt j.desc 0x20 = 1 → Completes (.lifeChange i) s fun t =>
        answered t 0 [] ∧ t.regBit R.TAMPER_CTRL 31 = true ∧ t.lf.tapIr = 0xFF) ∧
      (k = 0 → opCold (byteAt j.desc 0x20) = true → s.running = true → Completes (.lifeChange i) s fun t =>
        t.lf.moving = some ⟨some i, byteAt j.desc 0x20, j.input, false⟩ ∧ t.bt.stop = true ∧
        ∀ n x, s.job? n = some x → x.isWaiting = true →
          (t.job? n).map (fun y => (y.stage, y.cls, y.reason, y.due)) = some (.answered, 3, 0x0104, some s.nextEdge))) ∧
    (∀ (ir : BitVec 8) (dr : BitVec 85),
      (tapOffered ir.toNat s.life = false → Completes (.tapInstructionLoad ir dr) s fun t => t.lf.tapIr = 0xFF ∧ t.lf.dbgSel = s.lf.dbgSel) ∧
      (tapOffered ir.toNat s.life = true → Completes (.tapInstructionLoad ir dr) s fun t =>
        t.lf.tapIr = ir.toNat ∧ (ir = 0x30 → t.lf.dbgSel = dr.toNat % 256) ∧ (ir ≠ 0x30 → t.lf.dbgSel = s.lf.dbgSel) ∧
        (ir = 0x01 → t.out = (⟨.testPort, s.beat, leBytes 4 (s.reg R.LIFE_IDCODE).toNat⟩ : Output) :: s.out))) ∧
    (s.authOn = true →
      Completes .lifeAuthNewChallenge s (fun t => ∃ n, held t n ∧ t.lf.readIdx = 0) ∧
      (∀ n e, s.lf.challenge = some (n, e) → s.lf.readIdx < 13 → Completes .lifeAuthReadWord s fun t =>
        t.lf.word = w32 (leAt (n ++ s.uid ++ leBytes 4 e ++ zeros 12) (4 * s.lf.readIdx) 4) ∧ t.lf.readIdx = s.lf.readIdx + 1) ∧
      (∀ w, s.lf.token.length < 1388 → Completes (.lifeAuthAppend w) s fun t => t.lf.token = s.lf.token ++ [w]) ∧
      (∀ w, 1388 ≤ s.lf.token.length → exec (.lifeAuthAppend w) s = .next s) ∧
      Completes .lifeAuthEmpty s (fun t => t.lf.token = []) ∧
      (let b := (s.lf.token.map fun w => leBytes 4 w.toNat).flatten
       let op := byteAt b 4
       let c := if opToken op s.life then s.lifeCheck op b else if opFrom op s.life then 3 else 1
       s.lf.moving = none → c ≠ 0 → Completes .lifeAuthSubmit s fun t => t.lf.tapDone = true ∧ t.lf.tapCause = c ∧ t.lf.token = [] ∧ cause t = c)) ∧
    (s.authOn = false →
      ∀ p ∈ [Instr.lifeAuthNewChallenge, .lifeAuthReadWord, .lifeAuthAppend 0, .lifeAuthSubmit, .lifeAuthEmpty], exec p s = .next s)

/-- R745 to R747: while DBG_DATA is offered and DBG_SEL names a core, its commands halt and resume it, step it over one instruction, and
read and write its registers, its system registers and its memory; a core that is not halted answers them with code 1, and what the debug
path never reaches, or does not exist, with code 2; with DBG_DATA not selected they do nothing. A breakpoint halts a core before its
instruction. -/
def Obligations.DebugCommands : Prop :=
  ∀ (s : State) (c : Nat), s.cores.length = 66 → c < 66 →
    let x := s.core c
    let shown (t : State) (code : Nat) (w : Word) : Prop := t.lf.dbgCode = code ∧ t.lf.dbgData = w
    let free := x.locked = false ∧ x.inReset = false ∧ x.atBoundary = true ∧ x.report = none ∧ x.budgetDue = false ∧ bit x.dbgCtrl 0 = false
    (s.dbgOn = true → s.dbgCore = some c →
      (x.halted = true → Completes .debugHalt s fun t => shown t 0 0 ∧ t.core c = x) ∧
      (x.halted = false → free → x.stepping = false → Completes .debugHalt s fun t =>
        shown t 0 0 ∧ (t.core c).halted = true ∧ (t.core c).dbgStatus = 7 ∧ (t.core c).pc = x.pc ∧ (t.core c).gpr = x.gpr) ∧
      (x.halted = true → free → x.stepping = false → x.haltReq = false → Completes .debugResume s fun t =>
        shown t 0 0 ∧ (t.core c).halted = false ∧ (t.core c).pc = x.pc) ∧
      (∀ (n : BitVec 12) (v : Word), x.halted = false →
        ∀ p ∈ [Instr.debugResume, .debugStep, .debugReadRegister n, .debugWriteRegister n v, .debugReadSystemRegister n,
          .debugWriteSystemRegister n v, .debugLoad, .debugStore v],
        Completes p s fun t => shown t 1 0 ∧ t.cores = s.cores ∧ t.mem = s.mem ∧ t.regs = s.regs) ∧
      (x.halted = true →
        (∀ op gd ga gb, free → x.priv = true → x.wfe = false → s.coresRun = true → s.fetchDeny c = none →
          axDecode (s.fetchWord c) = some (.alu op gd ga gb) → Completes .debugStep s fun t =>
            shown t 0 0 ∧ (t.core c).halted = true ∧ (t.core c).dbgStatus = 5 ∧ (t.core c).pc = x.pc + 4 ∧ (t.core c).retired = x.retired + 1 ∧
            (gd ≠ 0 → x.gpr.length = 32 → (t.core c).rd gd = op.eval (x.rd ga) (x.rd gb))) ∧
        (∀ g : Gpr, Completes (.debugReadRegister (BitVec.ofNat 12 g.val)) s fun t => shown t 0 (x.rd g) ∧ t.core c = x) ∧
        Completes (.debugReadRegister 32) s (fun t => shown t 0 x.pc) ∧
        (∀ (n : BitVec 12) (v : Word), 32 < n.toNat →
          Completes (.debugReadRegister n) s (fun t => shown t 2 0 ∧ t.core c = x) ∧
          Completes (.debugWriteRegister n v) s (fun t => shown t 2 0 ∧ t.core c = x)) ∧
        (∀ (g : Gpr) (v : Word), x.gpr.length = 32 → Completes (.debugWriteRegister (BitVec.ofNat 12 g.val) v) s fun t =>
          shown t 0 0 ∧ (t.core c).rd g = (if g = 0 then 0 else v) ∧ (∀ h : Gpr, h ≠ g → (t.core c).rd h = x.rd h) ∧ (t.core c).pc = x.pc) ∧
        (∀ v : Word, Completes (.debugWriteRegister 32 v) s fun t => shown t 0 0 ∧ (t.core c).pc = v ∧ (t.core c).gpr = x.gpr) ∧
        (∀ n : BitVec 12,
          (∀ r, s.sysRead c n.toNat true = some r → Completes (.debugReadSystemRegister n) s fun t => shown t 0 r.1) ∧
          (s.sysRead c n.toNat true = none → Completes (.debugReadSystemRegister n) s fun t => shown t 2 0) ∧
          (∀ v t', s.sysWrite c n.toNat v true = some t' → Completes (.debugWriteSystemRegister n v) s fun t => shown t 0 0 ∧ t.core c = t'.core c) ∧
          (∀ v, s.sysWrite c n.toNat v true = none → Completes (.debugWriteSystemRegister n v) s fun t => shown t 2 0 ∧ t.core c = x)) ∧
        (let a := s.lf.dbgAddr
         ((dbgBarred (s.fabOf c a) = true ∨ a.toNat % 4 ≠ 0) → ∀ v, ∀ p ∈ [Instr.debugLoad, .debugStore v],
            Completes p s fun t => shown t 2 0 ∧ t.mem = s.mem ∧ t.regs = s.regs) ∧
         (dbgBarred (s.fabOf c a) = false → a.toNat % 4 = 0 →
            (∀ w u, x.sb = [] → s.coreLoad c true .word a = (.ok w, u) → Completes .debugLoad s fun t => shown t 0 w) ∧
            (∀ d u, x.sb = [] → s.coreLoad c true .word a = (.error d, u) → Completes .debugLoad s fun t => shown t (if d.1 = 7 then 3 else 2) 0) ∧
            (∀ v u, s.coreStore c true .word a v = (none, u) → Completes (.debugStore v) s fun t => shown t 0 0 ∧ t.mem = u.mem ∧ t.regs = u.regs) ∧
            (∀ v d u, s.coreStore c true .word a v = (some d, u) → Completes (.debugStore v) s fun t => shown t (if d.1 = 7 then 3 else 2) 0)))) ∧
      ∀ a, Completes (.debugSetAddress a) s fun t => t.lf.dbgAddr = a ∧ shown t 0 0 ∧ t.cores = s.cores) ∧
    (s.dbgOn = false → ∀ p ∈ [Instr.debugHalt, .debugResume, .debugStep, .debugSetAddress 0, .debugLoad, .debugStore 0], exec p s = .next s) ∧
    (s.coreReady c = true → x.atBoundary = true → s.bkptHit c = true → bit x.dbgCtrl 0 = false → ∀ d : Core, d.val = c →
      Completes (.debugBreakpoint d) s fun t => (t.core c).halted = true ∧ (t.core c).dbgStatus = 3 ∧ (t.core c).pc = x.pc)

/-- R752 to R761, R766: a vat is quarantined once its jobs have released, while another vat of its deckle stays; a run begins or is refused
with the cause of its first failing check, and its comparison is released after the last recomputed release; a vat leaves quarantine by its
release. -/
def Obligations.ReplayCommands : Prop :=
  ∀ (s : State) (i : Nat) (j : Job) (v : Vat), (∀ r ∈ s.lf.runs, r.vat < 64) →
    let u := byteAt j.desc 0x20
    let a := replayAsk j
    let refused (c : Nat) (t : State) : Prop := t.commandDone i 1 s.nextEdge ∧ t.regField R.REPLAY_STATUS 23 16 = c
    (s.command i 0x8040 = some j → s.replayBegun i = false →
      (s.othersIn j.deckle u = false → Completes (.replayQuarantine i) s (refused 8)) ∧
      (s.othersIn j.deckle u = true → Completes (.replayQuarantine i) s fun t =>
        (u, i) ∈ t.lf.quarantine ∧ t.regs = s.regs ∧ (s.inAdmission u = true → t.bt.parking.any (fun p => p.1 == u) = true))) ∧
    (∀ p, (s.lf.quarantine.find? fun p => p.1 == v.val && ((s.job? p.2).any fun j => dVerb j.desc == 0x8040)) = some p →
      (s.inAdmission v = false → s.vatHolds v = false → (s.bt.parking.any fun q => q.1 == v.val) = false →
        Completes (.replayQuarantineReady v) s fun t =>
          t.quarantined v = true ∧ t.commandDone p.2 0 s.nextEdge ∧ p ∉ t.lf.quarantine ∧ v.val ∈ t.bt.up) ∧
      ((s.inAdmission v = true ∨ s.vatHolds v = true) → exec (.replayQuarantineReady v) s = .next s)) ∧
    (s.command i 0x8041 = some j → s.replayBegun i = false →
      (∀ c, s.replayCheck a j = some c → Completes (.replayRun i) s (refused c)) ∧
      (s.replayCheck a j = none → Completes (.replayRun i) s fun t =>
        t.reg R.REPLAY_R0 = w32 s.openEdge ∧ ∃ r, t.lf.runs = r :: s.lf.runs ∧ r.job = i ∧ r.vat = a.qvat ∧ r.r0 = s.openEdge)) ∧
    (∀ r, (s.lf.runs.find? fun r => r.vat == v.val) = some r → (s.job? r.job).isSome = true →
      (r.last ≤ s.beat → Completes (.replayRunComplete v) s fun t =>
        (t.job? r.job).map (fun y => (y.ready, y.cls, y.result, y.output, y.due)) = some (true, 0, r.result, r.output, some (max (r.last + 1) s.nextEdge)) ∧
        r ∉ t.lf.runs ∧ t.reg R.REPLAY_RUNS = satInc (s.reg R.REPLAY_RUNS) ∧ t.reg R.REPLAY_MISMATCH = satAdd (s.reg R.REPLAY_MISMATCH) r.misses) ∧
      (s.beat < r.last → exec (.replayRunComplete v) s = .next s)) ∧
    (s.command i 0x8042 = some j → s.replayBegun i = false →
      ((s.lf.runs.any fun r => r.vat == u) = true → Completes (.replayRelease i) s (refused 7)) ∧
      ((s.lf.runs.any fun r => r.vat == u) = false →
        (s.quarantined u = false → Completes (.replayRelease i) s (refused 1)) ∧
        (s.quarantined u = true → u < 64 → Completes (.replayRelease i) s fun t =>
          t.quarantined u = false ∧ (s.maskBit R.PMU_PARK_FAULT_LO u = true → t.commandDone i 0 s.nextEdge) ∧
          (s.maskBit R.PMU_PARK_FAULT_LO u = false → (u, i) ∈ t.lf.quarantine))))

/-- R768 to R772: a powered port's link comes up and goes down, and with it the MKA peer that a valid MKPDU gave it; R769, R960: a received
frame is counted by the first check it fails, or goes on to its route; R774: ARP and Neighbor Discovery are answered for the port's own
addresses; R772, R777: a response frame leaves, or is dropped while there is no live peer. -/
def Obligations.NetworkPorts : Prop :=
  ∀ (s : State) (p : Fin 64),
    let up := s.regBit (R.NETW_STATUS p) 0 = true
    let noted (i : Nat) (t : State) : Prop := t.regBit (R.NETW_EVT_STATUS p) i = true
    let counted (k : Nat) (t : State) : Prop := t.reg k = satInc (s.reg k) ∧ s.onlyRegs t [k]
    let sending := s.tm.resp = 0 ∧ s.regBit R.PMU_STATUS 4 = false
    let sent (t : State) (f : Bytes) : Prop := t.out = (⟨.network p, s.beat, f⟩ : Output) :: s.out
    (up → Completes (.networkLinkChange p false) s fun t =>
      t.regBit (R.NETW_STATUS p) 0 = false ∧ t.regBit (R.NETW_STATUS p) 3 = false ∧ noted 0 t) ∧
    (s.portPowered p = true → ¬ up → Completes (.networkLinkChange p true) s fun t => t.regField (R.NETW_STATUS p) 2 0 = 7 ∧ noted 0 t) ∧
    (s.portPowered p = false → exec (.networkLinkChange p true) s = .next s) ∧
    (up → (s.deckleOfPort p).isSome = true →
      (s.cakOk p = true → ∀ sa, Completes (.mkaFrame p true true sa) s fun t =>
        t.regBit (R.NETW_STATUS p) 3 = true ∧
        ∀ an, sa = some an → t.regBit (R.NETW_STATUS p) 4 = true ∧ t.regField (R.NETW_STATUS p) 11 8 = 5 * an.val) ∧
      (s.cakOk p = true → ∀ live sa, exec (.mkaFrame p false live sa) s = .next s) ∧
      (s.cakOk p = false → ∀ icv live sa, Completes (.mkaFrame p icv live sa) s fun t => t.regBit (R.NETW_STATUS p) 3 = false ∧ noted 1 t)) ∧
    (s.regBit (R.NETW_STATUS p) 3 = true → Completes (.mkaLivePeerLost p) s fun t =>
      t.regBit (R.NETW_STATUS p) 3 = false ∧ t.regBit (R.NETW_STATUS p) 4 = false ∧ noted 1 t) ∧
    (up → Completes (.pauseFrame p) s (counted (R.NETW_RX_PAUSE p)) ∧
      ∀ (f : Bytes), let e := etherParse f
        (∀ mac, Completes (.networkFrameReceived p f false mac) s (counted (R.NETW_RX_FCS p))) ∧
        (f.length ≤ 9212 → e.2.1 = 0x8808 → ∀ mac, Completes (.networkFrameReceived p f true mac) s (counted (R.NETW_RX_PAUSE p))) ∧
        (f.length ≤ 9212 → e.2.1 ≠ 0x8808 →
          Completes (.networkFrameReceived p f true false) s (counted (R.NETW_RX_MACSEC p)) ∧
          (s.portSecure p = true →
            (vlanOk e.1 (s.portVlan p) = false → Completes (.networkFrameReceived p f true true) s (counted (R.NETW_RX_VLAN p))) ∧
            (vlanOk e.1 (s.portVlan p) = true →
              let d := ipParse (beNat (slice f 6 6)) (e.1.getD 0) e.2.1 e.2.2 (s.portIp4 p) (s.portIp6 p)
              (d = none → Completes (.networkFrameReceived p f true true) s (counted (R.NETW_RX_L3 p))) ∧
              ∀ m u, d = some (m, u) → Completes (.networkFrameReceived p f true true) s fun t => t = s.frameIn p m u)))) ∧
    (s.portSecure p = true → sending → ∀ (mac ip : Nat),
      (∀ target, target ≠ 0 → beNat (s.portIp4 p) = target → Completes (.arpRequest p mac ip target) s fun t =>
        sent t (etherFrame (beBytes 6 mac) (s.portMac p) (s.portVlan p) 0x0806
          ([0, 1, 8, 0, 6, 4, 0, 2] ++ s.portMac p ++ s.portIp4 p ++ beBytes 6 mac ++ beBytes 4 ip))) ∧
      (∀ target, beNat (s.portIp4 p) ≠ target → exec (.arpRequest p mac ip target) s = .next s) ∧
      (∀ target, ((beBytes 16 target = s.portIp6 p ∧ target ≠ 0) ∨ beBytes 16 target = linkLocal (s.portMac p)) →
        Completes (.neighborSolicitation p mac ip target) s fun t => ∃ sum : Bytes, sum.length = 2 ∧
          sent t (etherFrame (beBytes 6 mac) (s.portMac p) (s.portVlan p) 0x86DD ([0x60, 0, 0, 0, 0, 32, 58, 255] ++ beBytes 16 target ++
            beBytes 16 ip ++ ([136, 0] ++ sum ++ [0x60, 0, 0, 0] ++ beBytes 16 target ++ [2, 1] ++ s.portMac p))))) ∧
    (∀ r, (s.bt.responses.find? fun r => r.onPort p) = some r → (queueFit p s.bt.responses).1 = s.bt.responses →
      (queueFit p s.bt.responses).2.2 = 0 →
      (s.bt.jobs.any fun j => j.due == some r.edge && (match j.frame with | some f => f.req == r.frame.req | none => false)) = false →
      (s.portSecure p = true → sending → s.reg64 (R.NETW_TX_OK_LO p) + 1 < 2 ^ 64 → Completes (.responseFrameTransmit p) s fun t =>
        t.bt.responses = s.bt.responses.erase r ∧ t.reg64 (R.NETW_TX_OK_LO p) = s.reg64 (R.NETW_TX_OK_LO p) + 1 ∧
        (∃ f, sent t (r.ether (s.portMac p) f)) ∧ (r.edge = s.beat → s.bt.edgeAt + (s.reg (R.NETW_EGRESS p)).toNat ≤ t.now)) ∧
      (s.portSecure p = false → Completes (.responseFrameTransmit p) s fun t =>
        t.bt.responses = s.bt.responses.erase r ∧ t.reg (R.NETW_TX_DROP p) = satInc (s.reg (R.NETW_TX_DROP p)) ∧ noted 2 t ∧ t.out = s.out))

/-- R788, R789, R922: the MCTP control commands are answered on a binding that carries MCTP while the service pair is up, in the formats
that notes/assumptions/19.md names; the endpoint ID is kept by binding; any other packet is counted; a clock held low changes nothing else.
-/
def Obligations.ManagementPort : Prop :=
  ∀ (s : State) (vdm : Bool) (inst : BitVec 5),
    let sent (t : State) (cmd : Byte) (d : Bytes) : Prop :=
      t.out = (⟨.mctp (b2n vdm), s.beat, [0, by8 inst.toNat, cmd] ++ d⟩ : Output) :: s.out
    let up := s.mctpOn vdm = true ∧ s.serviceUp = true
    (up → (∀ (op : Fin 4) (eid : BitVec 8), op.val < 2 → eid.toNat ≠ 0 → eid.toNat ≠ 0xFF →
        Completes (.setEndpointId vdm inst op eid) s fun t =>
          t.mctpEid vdm = eid.toNat ∧ t.mctpEid (!vdm) = s.mctpEid (!vdm) ∧ t.pends 236 ∧ sent t 1 [0, 0, by8 eid.toNat, 0]) ∧
      (∀ (op : Fin 4) (eid : BitVec 8), (2 ≤ op.val ∨ eid.toNat = 0 ∨ eid.toNat = 0xFF) →
        Completes (.setEndpointId vdm inst op eid) s fun t => s.onlyRegs t [] ∧ sent t 1 [2]) ∧
      Completes (.getEndpointId vdm inst) s (fun t => sent t 2 [0, by8 (s.mctpEid vdm), 0, 0] ∧ s.onlyRegs t []) ∧
      Completes (.getEndpointUuid vdm inst) s (fun t => (∃ u : Bytes, u.length = 16 ∧ sent t 3 ([0] ++ u)) ∧ s.onlyRegs t []) ∧
      (∀ type, Completes (.getMctpVersionSupport vdm inst type) s fun t =>
        sent t 4 (if type.toNat = 0xFF ∨ type.toNat = 0 ∨ type.toNat = 5 then [0, 1, 0xF1, 0xF3, 0xFF, 0] else [0x80]) ∧ s.onlyRegs t []) ∧
      Completes (.getMessageTypeSupport vdm inst) s (fun t => sent t 5 [0, 2, 0, 5] ∧ s.onlyRegs t [])) ∧
    (s.mctpOn vdm = true → Completes (.mctpPacketDrop vdm) s fun t =>
      t.reg R.MGMT_MCTP_DROPS = satInc (s.reg R.MGMT_MCTP_DROPS) ∧ s.onlyRegs t [R.MGMT_MCTP_DROPS]) ∧
    (s.mctpOn vdm = false → exec (.mctpPacketDrop vdm) s = .next s ∧ exec (.getEndpointId vdm inst) s = .next s) ∧
    ∀ pm, Completes (.smbusClockLowTimeout pm) s fun t => s.onlyRegs t [] ∧ t.bt = s.bt ∧ t.lk = s.lk

/-- R827 to R840: a contact slot's activation, its answer to reset, PPS, exchanges, timeouts, clock stop, deactivation and removal, with
their states, errors and events. -/
def Obligations.ContactSlots : Prop :=
  ∀ (s : State) (n : Fin 2) (who : Sender), s.cardsLive = true → s.cd.slots.length = 2 →
    let k := n.val
    let x := s.slot k
    let st (t : State) : Nat := t.regField (R.CARD_STATUS k) 6 4
    let noted (i : Nat) (t : State) : Prop := t.regBit (R.CARD_EVT_STATUS k) i = true
    let powered (t : State) : Bool := t.regBit (R.CARD_STATUS k) 0
    let failed (e : Nat) (t : State) : Prop :=
      st t = 6 ∧ powered t = false ∧ t.regField (R.CARD_STATUS k) 19 16 = e ∧ t.reg (R.CARD_ERRORS k) = satInc (s.reg (R.CARD_ERRORS k)) ∧ noted 4 t
    let activates (c : Nat) (t : State) : Prop := st t = 2 ∧ powered t = true ∧ (t.slot k).step = .atr ∧ (t.slot k).cls = c
    let again (c : Nat) (np : Bool) (t : State) : Prop :=
      powered t = false ∧ (t.slot k).retryAt = some (s.now + 10000000) ∧ (t.slot k).next = c ∧ (t.slot k).noPps = np
    let t1 := s.regBit (R.CARD_PROTO k) 0
    let busy := x.step = .exchange
    (s.regBit (R.CARD_CTRL k) 0 = true → s.cardPresent k = false → Completes (.cardInserted n) s fun t =>
      t.cardPresent k = true ∧ noted 0 t ∧ activates (if s.regBit (R.CARD_CTRL k) 2 then 0 else 1) t) ∧
    (x.step = .atr →
      (∀ atr timely, (timely = false ∨ atrParse atr = none) →
        (x.noPps = true → Completes (.cardAtrReceived n atr timely) s (failed 5)) ∧
        (x.noPps = false → x.warm = true → Completes (.cardAtrReceived n atr timely) s (failed 2)) ∧
        (x.noPps = false → x.warm = false → Completes (.cardAtrReceived n atr timely) s fun t => (t.slot k).warm = true ∧ s.onlyRegs t [])) ∧
      (∀ atr gs, atrParse atr = some gs →
        Completes (.cardAtrReceived n atr true) s (fun t =>
          t.regField (R.CARD_STATUS k) 25 20 = atr.length ∧ (t.regBytes (R.CARD_ATR k 0) 9).take atr.length = atr) ∧
        ((atrFacts gs).t15 = none → (atrFacts gs).protos = [0] → (atrFacts gs).ta1 = none → (atrFacts gs).ta2 = none →
          Completes (.cardAtrReceived n atr true) s fun t => st t = 3 ∧ noted 2 t ∧ t.regBit (R.CARD_PROTO k) 0 = false)) ∧
      (x.noPps = false → x.cls = 0 → s.regBit (R.CARD_CTRL k) 3 = true → Completes (.cardAtrTimeout n false) s (again 1 false)) ∧
      (x.noPps = false → (x.cls ≠ 0 ∨ s.regBit (R.CARD_CTRL k) 3 = false) → Completes (.cardAtrTimeout n false) s (failed 1)) ∧
      (x.noPps = false → x.warm = true → Completes (.cardAtrTimeout n true) s (failed 2))) ∧
    (∀ r, x.retryAt = some r → s.cardPresent k = true → Completes (.cardRetryDelayEnd n) s fun t => t.now = max s.now r ∧ activates x.next t) ∧
    (x.step = .pps →
      (∀ e, e = x.last → Completes (.cardPpsResponse n e) s fun t =>
        t.regField (R.CARD_PROTO k) 7 4 = byteAt e 2 / 16 ∧ t.regField (R.CARD_PROTO k) 11 8 = byteAt e 2 % 16 ∧ (t1 = false → st t = 3 ∧ noted 2 t)) ∧
      (∀ e, e ≠ x.last → Completes (.cardPpsResponse n e) s (again x.cls true)) ∧
      Completes (.cardPpsTimeout n) s (again x.cls true)) ∧
    (s.wardenAt who .store (R.CARD_CMD k) →
      (s.cardPresent k = true → powered s = false → Completes (.cardActivate who n) s (activates (if s.regBit (R.CARD_CTRL k) 2 then 0 else 1))) ∧
      Completes (.cardDeactivate who n) s (fun t => st t = 0 ∧ powered t = false) ∧
      (let tx := (s.regBytes (R.CARD_TXBUF k 0) 66).take (s.reg (R.CARD_TX_LEN k)).toNat
       ((st s = 3 ∨ st s = 5) → 4 ≤ (s.reg (R.CARD_TX_LEN k)).toNat → Completes (.cardSend who n) s fun t =>
          st t = 4 ∧ (t.slot k).step = .exchange ∧ (t.slot k).tx = tx ∧ (t.slot k).startAt = s.now ∧
          (t1 = false → t.out = (⟨.card k, s.beat, padTo 5 (tx.take 5)⟩ : Output) :: s.out)) ∧
       ((st s ≠ 3 ∧ st s ≠ 5) → Completes (.cardSend who n) s fun t =>
          st t = st s ∧ t.out = s.out ∧ t.regField (R.ERRC_LAST 0x14 0) 31 24 = 5))) ∧
    (busy → t1 = false → x.part = 0 → x.ns = 0 → x.rx.length ≤ 256 → Completes (.cardBlockReceived n [0x90, 0x00] true) s fun t =>
      st t = 3 ∧ t.reg (R.CARD_SW k) = 0x9000 ∧ t.reg (R.CARD_RX_LEN k) = w32 x.rx.length ∧ noted 3 t) ∧
    (busy → t1 = true → (∀ p ∈ [Instr.cardBlockReceived n [] false, .cardWaitTimeout n],
      (x.tries < 3 → Completes p s fun t => (t.slot k).tries = x.tries + 1 ∧ st t = st s) ∧
      (3 ≤ x.tries → x.resyncs < 3 → Completes p s fun t => (t.slot k).step = .resynch ∧ (t.slot k).resyncs = x.resyncs + 1) ∧
      (3 ≤ x.tries → 3 ≤ x.resyncs → Completes p s (failed 4)))) ∧
    (busy → t1 = false → Completes (.cardWaitTimeout n) s (failed 4)) ∧
    (st s = 4 → Completes (.cardExchangeTimeout n) s fun t =>
      failed 6 t ∧ t.now = max s.now (x.startAt + 1000000 * (s.reg (R.CARD_APDU_MAX k)).toNat)) ∧
    (st s = 3 → s.regBit (R.CARD_CTRL k) 5 = true → x.clkStop ≠ 0 → Completes (.cardClockStop n) s fun t => st t = 5 ∧ (t.slot k).clkOff = true) ∧
    (s.cardPresent k = true → Completes (.cardRemoved n) s fun t =>
      t.cardPresent k = false ∧ powered t = false ∧ st t = 0 ∧ t.reg (R.CARD_REMOVALS k) = satInc (s.reg (R.CARD_REMOVALS k)) ∧ noted 1 t ∧
      (st s = 4 → t.regField (R.CARD_STATUS k) 19 16 = 7))

/-- R841 to R850: pings and polls of the contactless reader, its activation and exchanges, timeouts, deselection and the list of UIDs. -/
def Obligations.ContactlessReader : Prop :=
  ∀ (s : State) (who : Sender), s.cardsLive = true →
    let c := s.cd.cless
    let st (t : State) : Nat := t.regField R.CLESS_STATUS 6 4
    let noted (i : Nat) (t : State) : Prop := t.regBit R.CLESS_EVT_STATUS i = true
    let failed (e : Nat) (t : State) : Prop :=
      t.regField R.CLESS_STATUS 19 16 = e ∧ t.reg R.CLESS_ERRORS = satInc (s.reg R.CLESS_ERRORS) ∧ noted 3 t ∧ t.cd.cless.step = .deselect
    (s.regBit R.CLESS_CTRL 0 = true → c.step = .idle → ∀ amp cards,
      (s.regBit R.RESET_STATUS 3 = true → Completes (.clessPing amp cards) s fun t =>
        st t = 0 ∧ t.regField R.CLESS_STATUS 19 16 = 8 ∧ t.reg R.CLESS_POLLS = s.reg R.CLESS_POLLS) ∧
      (s.regBit R.RESET_STATUS 3 = false →
        (s.regBit R.CLESS_STATUS 0 = false →
          (let base := if c.pings = [] then amp else c.pings.sum / c.pings.length
           100 * (max amp base - min amp base) ≤ (s.reg R.CLESS_DETUNE).toNat * base) → Completes (.clessPing amp cards) s fun t =>
            t.reg R.CLESS_POLLS = s.reg R.CLESS_POLLS ∧ st t = 1 ∧ t.cd.cless.pings = (amp :: c.pings).take 16) ∧
        (s.regBit R.CLESS_STATUS 0 = true → Completes (.clessPing amp []) s fun t => t.reg R.CLESS_POLLS = satInc (s.reg R.CLESS_POLLS)) ∧
        (∀ uid sak, s.regBit R.CLESS_STATUS 0 = true → s.listed uid = false → nbit sak 5 = true →
          Completes (.clessPing amp [(uid, sak)]) s fun t =>
            t.reg R.CLESS_POLLS = satInc (s.reg R.CLESS_POLLS) ∧ t.cd.cless.step = .ats ∧ t.cd.cless.uid = uid ∧ noted 0 t ∧ st t = 2))) ∧
    (c.step = .pps → Completes (.clessFrameReceived [0xD0] true) s fun t =>
      st t = 3 ∧ t.regBit R.CLESS_STATUS 1 = true ∧ t.cd.cless.step = .idle ∧ noted 1 t ∧
      t.regField R.CLESS_STATUS 23 20 = if byteAt c.last 2 = 0x0A then 4 else 2) ∧
    (c.step = .exchange →
      (c.blk < 2 → c.rx = [] → c.tx.length ≤ c.sent + c.part → Completes (.clessFrameReceived [by8 (2 + c.blk), 0x90, 0x00] true) s fun t =>
        st t = 3 ∧ t.reg R.CLESS_SW = 0x9000 ∧ t.reg R.CLESS_RX_LEN = 0 ∧ noted 2 t ∧ t.cd.cless.blk = 1 - c.blk) ∧
      (∀ p ∈ [Instr.clessFwtTimeout, .clessFrameReceived [] false],
        (c.tries < 2 → Completes p s fun t => t.cd.cless.tries = c.tries + 1 ∧ t.cd.cless.step = .exchange ∧ s.onlyRegs t []) ∧
        (2 ≤ c.tries → Completes p s (failed 4))) ∧
      Completes .clessExchangeTimeout s (fun t => failed 6 t ∧ t.now = max s.now (c.startAt + 1000000 * (s.reg R.CLESS_APDU_MAX).toNat))) ∧
    (s.wardenAt who .store R.CLESS_CMD →
      (st s = 3 → 4 ≤ (s.reg R.CLESS_TX_LEN).toNat → Completes (.clessSend who) s fun t =>
        st t = 4 ∧ t.cd.cless.step = .exchange ∧ t.cd.cless.tx = (s.regBytes (R.CLESS_TXBUF 0) 66).take (s.reg R.CLESS_TX_LEN).toNat ∧
        t.cd.cless.startAt = s.now) ∧
      (st s ≠ 3 → Completes (.clessSend who) s fun t => st t = st s ∧ t.out = s.out ∧ t.regField (R.ERRC_LAST 0x15 0) 31 24 = 5) ∧
      (s.regBit R.CLESS_STATUS 1 = true → Completes (.clessDeselect who) s fun t =>
        t.regBit R.CLESS_STATUS 1 = false ∧ t.cd.cless.step = .deselect ∧ (c.uid, s.now) ∈ t.cd.cless.list)) ∧
    (∀ e, c.list.getLast? = some e → Completes .clessUidExpiry s fun t =>
      t.cd.cless.list = c.list.dropLast ∧ t.now = max s.now (e.2 + 1000000000 * (s.reg R.CLESS_MEMORY).toNat))
end

