-- ==== Sys2Proof/Laws/Sparse.lean ====
section
/-! SUPPORT. The laws of sparse maps: a read after a write, and the canonical form that every operation keeps. -/

namespace Sys2Proof.Machine

section
variable {α : Type} [DecidableEq α] (d : Nat → α)

omit [DecidableEq α] in
theorem spGet_spDel_same (m : List (Nat × α)) (k : Nat) : spGet d (spDel m k) k = d k := by
  induction m with
  | nil => rfl
  | cons e m ih => simp only [spDel]; split <;> simp_all [spGet]

omit [DecidableEq α] in
theorem spGet_spDel_other (m : List (Nat × α)) {k j : Nat} (h : j ≠ k) : spGet d (spDel m k) j = spGet d m j := by
  induction m with
  | nil => rfl
  | cons e m ih => simp only [spDel]; split <;> simp_all [spGet]

omit [DecidableEq α] in
theorem spGet_spIns_same (m : List (Nat × α)) (k : Nat) (v : α) : spGet d (spIns m k v) k = v := by
  induction m with
  | nil => simp [spIns, spGet]
  | cons e m ih => simp only [spIns]; repeat' split
                   all_goals simp_all [spGet]

omit [DecidableEq α] in
theorem spGet_spIns_other (m : List (Nat × α)) {k j : Nat} (v : α) (h : j ≠ k) :
    spGet d (spIns m k v) j = spGet d m j := by
  induction m with
  | nil => simp [spIns, spGet, h]
  | cons e m ih => simp only [spIns]; repeat' split
                   all_goals simp_all [spGet]

/-- Reading the key that was written gives the value written. -/
theorem spGet_spSet_same (m : List (Nat × α)) (k : Nat) (v : α) : spGet d (spSet d m k v) k = v := by
  unfold spSet; split
  · rw [spGet_spDel_same]; exact (Eq.symm ‹_›)
  · exact spGet_spIns_same d m k v

/-- Every other key reads as before. -/
theorem spGet_spSet_other (m : List (Nat × α)) {k j : Nat} (v : α) (h : j ≠ k) :
    spGet d (spSet d m k v) j = spGet d m j := by
  unfold spSet; split
  · exact spGet_spDel_other d m h
  · exact spGet_spIns_other d m v h

/-- The canonical form, as a proposition. -/
theorem spWf_iff (m : List (Nat × α)) :
    spWf d m = true ↔ (m.map (·.1)).Pairwise (· < ·) ∧ ∀ e ∈ m, e.2 ≠ d e.1 := by
  simp [spWf]

/-- A map with entries taken out keeps the canonical form. -/
theorem spWf_sublist {m l : List (Nat × α)} (h : spWf d m = true) (hl : l.Sublist m) : spWf d l = true := by
  rw [spWf_iff] at h ⊢
  exact ⟨h.1.sublist (hl.map _), fun e he => h.2 e (hl.subset he)⟩

omit [DecidableEq α] in
theorem spDel_sublist (m : List (Nat × α)) (k : Nat) : (spDel m k).Sublist m := by
  induction m with
  | nil => exact List.Sublist.refl _
  | cons e m ih => simp only [spDel]; split
                   · exact ih.cons _
                   · exact ih.cons_cons _

omit [DecidableEq α] in
theorem spIns_keys (m : List (Nat × α)) (k : Nat) (v : α) (j : Nat) :
    j ∈ (spIns m k v).map (·.1) → j = k ∨ j ∈ m.map (·.1) := by
  induction m with
  | nil => simp [spIns]
  | cons e m ih =>
    simp only [spIns]
    repeat' split
    all_goals simp only [List.map_cons, List.mem_cons]
    · tauto
    · tauto
    · intro h; rcases h with h | h
      · tauto
      · rcases ih h with h | h <;> tauto

omit [DecidableEq α] in
theorem spIns_mem (m : List (Nat × α)) (k : Nat) (v : α) (e : Nat × α) :
    e ∈ spIns m k v → e = (k, v) ∨ e ∈ m := by
  induction m with
  | nil => simp [spIns]
  | cons x m ih =>
    simp only [spIns]
    repeat' split
    all_goals simp only [List.mem_cons]
    · tauto
    · tauto
    · intro h; rcases h with h | h
      · tauto
      · rcases ih h with h | h <;> tauto

omit [DecidableEq α] in
theorem spIns_sorted (m : List (Nat × α)) (k : Nat) (v : α) (h : (m.map (·.1)).Pairwise (· < ·)) :
    ((spIns m k v).map (·.1)).Pairwise (· < ·) := by
  induction m with
  | nil => simp [spIns]
  | cons e m ih =>
    simp only [List.map_cons, List.pairwise_cons] at h
    simp only [spIns]
    split
    · simp only [List.map_cons, List.pairwise_cons, List.mem_cons]
      refine ⟨?_, h.1, h.2⟩
      rintro a (rfl | ha)
      · assumption
      · exact lt_trans ‹_› (h.1 a ha)
    · split
      · subst k; simpa only [List.map_cons, List.pairwise_cons] using h
      · simp only [List.map_cons, List.pairwise_cons]
        refine ⟨fun a ha => ?_, ih h.2⟩
        rcases spIns_keys m k v a ha with rfl | ha
        · omega
        · exact h.1 a ha

/-- A write keeps the canonical form. -/
theorem spWf_spSet (m : List (Nat × α)) (k : Nat) (v : α) (h : spWf d m = true) : spWf d (spSet d m k v) = true := by
  unfold spSet; split
  · exact spWf_sublist d h (spDel_sublist m k)
  · rw [spWf_iff] at h ⊢
    refine ⟨spIns_sorted m k v h.1, fun e he => ?_⟩
    rcases spIns_mem m k v e he with rfl | he
    · assumption
    · exact h.2 e he

end

end Sys2Proof.Machine
end

