-- ==== Sys2Proof/Laws/State.lean ====
section
/-! SUPPORT. One lemma per field and update of the state, and the laws of registers and memory: what was written reads back, and
everything else reads as before. -/

namespace Sys2Proof.Machine

variable (s : State)


@[simp] theorem State.setReg_pending (k : Nat) (v : Word) : (s.setReg k v).pending = s.pending := rfl
@[simp] theorem State.setReg_now (k : Nat) (v : Word) : (s.setReg k v).now = s.now := rfl
@[simp] theorem State.setReg_regs (k : Nat) (v : Word) : (s.setReg k v).regs = spSet regReset s.regs k v := rfl
@[simp] theorem State.setReg_shadows (k : Nat) (v : Word) : (s.setReg k v).shadows = s.shadows := rfl
@[simp] theorem State.setReg_mem (k : Nat) (v : Word) : (s.setReg k v).mem = s.mem := rfl
@[simp] theorem State.setReg_freeCtr (k : Nat) (v : Word) : (s.setReg k v).freeCtr = s.freeCtr := rfl
@[simp] theorem State.setReg_out (k : Nat) (v : Word) : (s.setReg k v).out = s.out := rfl
@[simp] theorem State.setReg_ev (k : Nat) (v : Word) : (s.setReg k v).ev = s.ev := rfl
@[simp] theorem State.setReg_bt (k : Nat) (v : Word) : (s.setReg k v).bt = s.bt := rfl
@[simp] theorem State.setReg_spr (k : Nat) (v : Word) : (s.setReg k v).spr = s.spr := rfl
@[simp] theorem State.setReg_pk (k : Nat) (v : Word) : (s.setReg k v).pk = s.pk := rfl
@[simp] theorem State.setReg_ks (k : Nat) (v : Word) : (s.setReg k v).ks = s.ks := rfl
@[simp] theorem State.setReg_deep (k : Nat) (v : Word) : (s.setReg k v).deep = s.deep := rfl
@[simp] theorem State.setReg_jn (k : Nat) (v : Word) : (s.setReg k v).jn = s.jn := rfl
@[simp] theorem State.setReg_md (k : Nat) (v : Word) : (s.setReg k v).md = s.md := rfl
@[simp] theorem State.setReg_pins (k : Nat) (v : Word) : (s.setReg k v).pins = s.pins := rfl
@[simp] theorem State.setReg_lk (k : Nat) (v : Word) : (s.setReg k v).lk = s.lk := rfl
@[simp] theorem State.setReg_tm (k : Nat) (v : Word) : (s.setReg k v).tm = s.tm := rfl
@[simp] theorem State.setReg_pw (k : Nat) (v : Word) : (s.setReg k v).pw = s.pw := rfl
@[simp] theorem State.setReg_cores (k : Nat) (v : Word) : (s.setReg k v).cores = s.cores := rfl
@[simp] theorem State.setReg_lf (k : Nat) (v : Word) : (s.setReg k v).lf = s.lf := rfl
@[simp] theorem State.setReg_cd (k : Nat) (v : Word) : (s.setReg k v).cd = s.cd := rfl

@[simp] theorem State.setByte_pending (a : Nat) (v : Byte) : (s.setByte a v).pending = s.pending := rfl
@[simp] theorem State.setByte_now (a : Nat) (v : Byte) : (s.setByte a v).now = s.now := rfl
@[simp] theorem State.setByte_regs (a : Nat) (v : Byte) : (s.setByte a v).regs = s.regs := rfl
@[simp] theorem State.setByte_shadows (a : Nat) (v : Byte) : (s.setByte a v).shadows = s.shadows := rfl
@[simp] theorem State.setByte_mem (a : Nat) (v : Byte) : (s.setByte a v).mem = spSet memReset s.mem a v := rfl
@[simp] theorem State.setByte_freeCtr (a : Nat) (v : Byte) : (s.setByte a v).freeCtr = s.freeCtr := rfl
@[simp] theorem State.setByte_out (a : Nat) (v : Byte) : (s.setByte a v).out = s.out := rfl
@[simp] theorem State.setByte_ev (a : Nat) (v : Byte) : (s.setByte a v).ev = s.ev := rfl
@[simp] theorem State.setByte_bt (a : Nat) (v : Byte) : (s.setByte a v).bt = s.bt := rfl
@[simp] theorem State.setByte_spr (a : Nat) (v : Byte) : (s.setByte a v).spr = s.spr := rfl
@[simp] theorem State.setByte_pk (a : Nat) (v : Byte) : (s.setByte a v).pk = s.pk := rfl
@[simp] theorem State.setByte_ks (a : Nat) (v : Byte) : (s.setByte a v).ks = s.ks := rfl
@[simp] theorem State.setByte_deep (a : Nat) (v : Byte) : (s.setByte a v).deep = s.deep := rfl
@[simp] theorem State.setByte_jn (a : Nat) (v : Byte) : (s.setByte a v).jn = s.jn := rfl
@[simp] theorem State.setByte_md (a : Nat) (v : Byte) : (s.setByte a v).md = s.md := rfl
@[simp] theorem State.setByte_pins (a : Nat) (v : Byte) : (s.setByte a v).pins = s.pins := rfl
@[simp] theorem State.setByte_lk (a : Nat) (v : Byte) : (s.setByte a v).lk = s.lk := rfl
@[simp] theorem State.setByte_tm (a : Nat) (v : Byte) : (s.setByte a v).tm = s.tm := rfl
@[simp] theorem State.setByte_pw (a : Nat) (v : Byte) : (s.setByte a v).pw = s.pw := rfl
@[simp] theorem State.setByte_cores (a : Nat) (v : Byte) : (s.setByte a v).cores = s.cores := rfl
@[simp] theorem State.setByte_lf (a : Nat) (v : Byte) : (s.setByte a v).lf = s.lf := rfl
@[simp] theorem State.setByte_cd (a : Nat) (v : Byte) : (s.setByte a v).cd = s.cd := rfl

@[simp] theorem State.tookFree_pending (n : Nat) : (s.tookFree n).pending = s.pending := rfl
@[simp] theorem State.tookFree_now (n : Nat) : (s.tookFree n).now = s.now := rfl
@[simp] theorem State.tookFree_regs (n : Nat) : (s.tookFree n).regs = s.regs := rfl
@[simp] theorem State.tookFree_shadows (n : Nat) : (s.tookFree n).shadows = s.shadows := rfl
@[simp] theorem State.tookFree_mem (n : Nat) : (s.tookFree n).mem = s.mem := rfl
@[simp] theorem State.tookFree_freeCtr (n : Nat) : (s.tookFree n).freeCtr = s.freeCtr + n := rfl
@[simp] theorem State.tookFree_out (n : Nat) : (s.tookFree n).out = s.out := rfl
@[simp] theorem State.tookFree_ev (n : Nat) : (s.tookFree n).ev = s.ev := rfl
@[simp] theorem State.tookFree_bt (n : Nat) : (s.tookFree n).bt = s.bt := rfl
@[simp] theorem State.tookFree_spr (n : Nat) : (s.tookFree n).spr = s.spr := rfl
@[simp] theorem State.tookFree_pk (n : Nat) : (s.tookFree n).pk = s.pk := rfl
@[simp] theorem State.tookFree_ks (n : Nat) : (s.tookFree n).ks = s.ks := rfl
@[simp] theorem State.tookFree_deep (n : Nat) : (s.tookFree n).deep = s.deep := rfl
@[simp] theorem State.tookFree_jn (n : Nat) : (s.tookFree n).jn = s.jn := rfl
@[simp] theorem State.tookFree_md (n : Nat) : (s.tookFree n).md = s.md := rfl
@[simp] theorem State.tookFree_pins (n : Nat) : (s.tookFree n).pins = s.pins := rfl
@[simp] theorem State.tookFree_lk (n : Nat) : (s.tookFree n).lk = s.lk := rfl
@[simp] theorem State.tookFree_tm (n : Nat) : (s.tookFree n).tm = s.tm := rfl
@[simp] theorem State.tookFree_pw (n : Nat) : (s.tookFree n).pw = s.pw := rfl
@[simp] theorem State.tookFree_cores (n : Nat) : (s.tookFree n).cores = s.cores := rfl
@[simp] theorem State.tookFree_lf (n : Nat) : (s.tookFree n).lf = s.lf := rfl
@[simp] theorem State.tookFree_cd (n : Nat) : (s.tookFree n).cd = s.cd := rfl

@[simp] theorem State.wipe_pending (a n : Nat) : (s.wipe a n).pending = s.pending := rfl
@[simp] theorem State.wipe_now (a n : Nat) : (s.wipe a n).now = s.now := rfl
@[simp] theorem State.wipe_regs (a n : Nat) : (s.wipe a n).regs = s.regs := rfl
@[simp] theorem State.wipe_shadows (a n : Nat) : (s.wipe a n).shadows = s.shadows := rfl
@[simp] theorem State.wipe_mem (a n : Nat) : (s.wipe a n).mem = s.mem.filter fun c => decide (c.1 < a) || decide (a + n ≤ c.1) := rfl
@[simp] theorem State.wipe_freeCtr (a n : Nat) : (s.wipe a n).freeCtr = s.freeCtr := rfl
@[simp] theorem State.wipe_out (a n : Nat) : (s.wipe a n).out = s.out := rfl
@[simp] theorem State.wipe_ev (a n : Nat) : (s.wipe a n).ev = s.ev := rfl
@[simp] theorem State.wipe_bt (a n : Nat) : (s.wipe a n).bt = s.bt := rfl
@[simp] theorem State.wipe_spr (a n : Nat) : (s.wipe a n).spr = s.spr := rfl
@[simp] theorem State.wipe_pk (a n : Nat) : (s.wipe a n).pk = s.pk := rfl
@[simp] theorem State.wipe_ks (a n : Nat) : (s.wipe a n).ks = s.ks := rfl
@[simp] theorem State.wipe_deep (a n : Nat) : (s.wipe a n).deep = s.deep := rfl
@[simp] theorem State.wipe_jn (a n : Nat) : (s.wipe a n).jn = s.jn := rfl
@[simp] theorem State.wipe_md (a n : Nat) : (s.wipe a n).md = s.md := rfl
@[simp] theorem State.wipe_pins (a n : Nat) : (s.wipe a n).pins = s.pins := rfl
@[simp] theorem State.wipe_lk (a n : Nat) : (s.wipe a n).lk = s.lk := rfl
@[simp] theorem State.wipe_tm (a n : Nat) : (s.wipe a n).tm = s.tm := rfl
@[simp] theorem State.wipe_pw (a n : Nat) : (s.wipe a n).pw = s.pw := rfl
@[simp] theorem State.wipe_cores (a n : Nat) : (s.wipe a n).cores = s.cores := rfl
@[simp] theorem State.wipe_lf (a n : Nat) : (s.wipe a n).lf = s.lf := rfl
@[simp] theorem State.wipe_cd (a n : Nat) : (s.wipe a n).cd = s.cd := rfl

@[simp] theorem State.setCore_pending (c : Nat) (x : CoreState) : (s.setCore c x).pending = s.pending := rfl
@[simp] theorem State.setCore_now (c : Nat) (x : CoreState) : (s.setCore c x).now = s.now := rfl
@[simp] theorem State.setCore_regs (c : Nat) (x : CoreState) : (s.setCore c x).regs = s.regs := rfl
@[simp] theorem State.setCore_shadows (c : Nat) (x : CoreState) : (s.setCore c x).shadows = s.shadows := rfl
@[simp] theorem State.setCore_mem (c : Nat) (x : CoreState) : (s.setCore c x).mem = s.mem := rfl
@[simp] theorem State.setCore_freeCtr (c : Nat) (x : CoreState) : (s.setCore c x).freeCtr = s.freeCtr := rfl
@[simp] theorem State.setCore_out (c : Nat) (x : CoreState) : (s.setCore c x).out = s.out := rfl
@[simp] theorem State.setCore_ev (c : Nat) (x : CoreState) : (s.setCore c x).ev = s.ev := rfl
@[simp] theorem State.setCore_bt (c : Nat) (x : CoreState) : (s.setCore c x).bt = s.bt := rfl
@[simp] theorem State.setCore_spr (c : Nat) (x : CoreState) : (s.setCore c x).spr = s.spr := rfl
@[simp] theorem State.setCore_pk (c : Nat) (x : CoreState) : (s.setCore c x).pk = s.pk := rfl
@[simp] theorem State.setCore_ks (c : Nat) (x : CoreState) : (s.setCore c x).ks = s.ks := rfl
@[simp] theorem State.setCore_deep (c : Nat) (x : CoreState) : (s.setCore c x).deep = s.deep := rfl
@[simp] theorem State.setCore_jn (c : Nat) (x : CoreState) : (s.setCore c x).jn = s.jn := rfl
@[simp] theorem State.setCore_md (c : Nat) (x : CoreState) : (s.setCore c x).md = s.md := rfl
@[simp] theorem State.setCore_pins (c : Nat) (x : CoreState) : (s.setCore c x).pins = s.pins := rfl
@[simp] theorem State.setCore_lk (c : Nat) (x : CoreState) : (s.setCore c x).lk = s.lk := rfl
@[simp] theorem State.setCore_tm (c : Nat) (x : CoreState) : (s.setCore c x).tm = s.tm := rfl
@[simp] theorem State.setCore_pw (c : Nat) (x : CoreState) : (s.setCore c x).pw = s.pw := rfl
@[simp] theorem State.setCore_cores (c : Nat) (x : CoreState) : (s.setCore c x).cores = s.cores.set c x := rfl
@[simp] theorem State.setCore_lf (c : Nat) (x : CoreState) : (s.setCore c x).lf = s.lf := rfl
@[simp] theorem State.setCore_cd (c : Nat) (x : CoreState) : (s.setCore c x).cd = s.cd := rfl

@[simp] theorem State.setPke_pending (v : Nat) (u : PkeUnit) : (s.setPke v u).pending = s.pending := rfl
@[simp] theorem State.setPke_now (v : Nat) (u : PkeUnit) : (s.setPke v u).now = s.now := rfl
@[simp] theorem State.setPke_regs (v : Nat) (u : PkeUnit) : (s.setPke v u).regs = s.regs := rfl
@[simp] theorem State.setPke_shadows (v : Nat) (u : PkeUnit) : (s.setPke v u).shadows = s.shadows := rfl
@[simp] theorem State.setPke_mem (v : Nat) (u : PkeUnit) : (s.setPke v u).mem = s.mem := rfl
@[simp] theorem State.setPke_freeCtr (v : Nat) (u : PkeUnit) : (s.setPke v u).freeCtr = s.freeCtr := rfl
@[simp] theorem State.setPke_out (v : Nat) (u : PkeUnit) : (s.setPke v u).out = s.out := rfl
@[simp] theorem State.setPke_ev (v : Nat) (u : PkeUnit) : (s.setPke v u).ev = s.ev := rfl
@[simp] theorem State.setPke_bt (v : Nat) (u : PkeUnit) : (s.setPke v u).bt = s.bt := rfl
@[simp] theorem State.setPke_spr (v : Nat) (u : PkeUnit) : (s.setPke v u).spr = s.spr := rfl
@[simp] theorem State.setPke_pk (v : Nat) (u : PkeUnit) : (s.setPke v u).pk = s.pk.set v u := rfl
@[simp] theorem State.setPke_ks (v : Nat) (u : PkeUnit) : (s.setPke v u).ks = s.ks := rfl
@[simp] theorem State.setPke_deep (v : Nat) (u : PkeUnit) : (s.setPke v u).deep = s.deep := rfl
@[simp] theorem State.setPke_jn (v : Nat) (u : PkeUnit) : (s.setPke v u).jn = s.jn := rfl
@[simp] theorem State.setPke_md (v : Nat) (u : PkeUnit) : (s.setPke v u).md = s.md := rfl
@[simp] theorem State.setPke_pins (v : Nat) (u : PkeUnit) : (s.setPke v u).pins = s.pins := rfl
@[simp] theorem State.setPke_lk (v : Nat) (u : PkeUnit) : (s.setPke v u).lk = s.lk := rfl
@[simp] theorem State.setPke_tm (v : Nat) (u : PkeUnit) : (s.setPke v u).tm = s.tm := rfl
@[simp] theorem State.setPke_pw (v : Nat) (u : PkeUnit) : (s.setPke v u).pw = s.pw := rfl
@[simp] theorem State.setPke_cores (v : Nat) (u : PkeUnit) : (s.setPke v u).cores = s.cores := rfl
@[simp] theorem State.setPke_lf (v : Nat) (u : PkeUnit) : (s.setPke v u).lf = s.lf := rfl
@[simp] theorem State.setPke_cd (v : Nat) (u : PkeUnit) : (s.setPke v u).cd = s.cd := rfl

@[simp] theorem State.mapLf_pending (f : LifeState → LifeState) : (s.mapLf f).pending = s.pending := rfl
@[simp] theorem State.mapLf_now (f : LifeState → LifeState) : (s.mapLf f).now = s.now := rfl
@[simp] theorem State.mapLf_regs (f : LifeState → LifeState) : (s.mapLf f).regs = s.regs := rfl
@[simp] theorem State.mapLf_shadows (f : LifeState → LifeState) : (s.mapLf f).shadows = s.shadows := rfl
@[simp] theorem State.mapLf_mem (f : LifeState → LifeState) : (s.mapLf f).mem = s.mem := rfl
@[simp] theorem State.mapLf_freeCtr (f : LifeState → LifeState) : (s.mapLf f).freeCtr = s.freeCtr := rfl
@[simp] theorem State.mapLf_out (f : LifeState → LifeState) : (s.mapLf f).out = s.out := rfl
@[simp] theorem State.mapLf_ev (f : LifeState → LifeState) : (s.mapLf f).ev = s.ev := rfl
@[simp] theorem State.mapLf_bt (f : LifeState → LifeState) : (s.mapLf f).bt = s.bt := rfl
@[simp] theorem State.mapLf_spr (f : LifeState → LifeState) : (s.mapLf f).spr = s.spr := rfl
@[simp] theorem State.mapLf_pk (f : LifeState → LifeState) : (s.mapLf f).pk = s.pk := rfl
@[simp] theorem State.mapLf_ks (f : LifeState → LifeState) : (s.mapLf f).ks = s.ks := rfl
@[simp] theorem State.mapLf_deep (f : LifeState → LifeState) : (s.mapLf f).deep = s.deep := rfl
@[simp] theorem State.mapLf_jn (f : LifeState → LifeState) : (s.mapLf f).jn = s.jn := rfl
@[simp] theorem State.mapLf_md (f : LifeState → LifeState) : (s.mapLf f).md = s.md := rfl
@[simp] theorem State.mapLf_pins (f : LifeState → LifeState) : (s.mapLf f).pins = s.pins := rfl
@[simp] theorem State.mapLf_lk (f : LifeState → LifeState) : (s.mapLf f).lk = s.lk := rfl
@[simp] theorem State.mapLf_tm (f : LifeState → LifeState) : (s.mapLf f).tm = s.tm := rfl
@[simp] theorem State.mapLf_pw (f : LifeState → LifeState) : (s.mapLf f).pw = s.pw := rfl
@[simp] theorem State.mapLf_cores (f : LifeState → LifeState) : (s.mapLf f).cores = s.cores := rfl
@[simp] theorem State.mapLf_lf (f : LifeState → LifeState) : (s.mapLf f).lf = f s.lf := rfl
@[simp] theorem State.mapLf_cd (f : LifeState → LifeState) : (s.mapLf f).cd = s.cd := rfl

@[simp] theorem State.mapTm_pending (f : TamperState → TamperState) : (s.mapTm f).pending = s.pending := rfl
@[simp] theorem State.mapTm_now (f : TamperState → TamperState) : (s.mapTm f).now = s.now := rfl
@[simp] theorem State.mapTm_regs (f : TamperState → TamperState) : (s.mapTm f).regs = s.regs := rfl
@[simp] theorem State.mapTm_shadows (f : TamperState → TamperState) : (s.mapTm f).shadows = s.shadows := rfl
@[simp] theorem State.mapTm_mem (f : TamperState → TamperState) : (s.mapTm f).mem = s.mem := rfl
@[simp] theorem State.mapTm_freeCtr (f : TamperState → TamperState) : (s.mapTm f).freeCtr = s.freeCtr := rfl
@[simp] theorem State.mapTm_out (f : TamperState → TamperState) : (s.mapTm f).out = s.out := rfl
@[simp] theorem State.mapTm_ev (f : TamperState → TamperState) : (s.mapTm f).ev = s.ev := rfl
@[simp] theorem State.mapTm_bt (f : TamperState → TamperState) : (s.mapTm f).bt = s.bt := rfl
@[simp] theorem State.mapTm_spr (f : TamperState → TamperState) : (s.mapTm f).spr = s.spr := rfl
@[simp] theorem State.mapTm_pk (f : TamperState → TamperState) : (s.mapTm f).pk = s.pk := rfl
@[simp] theorem State.mapTm_ks (f : TamperState → TamperState) : (s.mapTm f).ks = s.ks := rfl
@[simp] theorem State.mapTm_deep (f : TamperState → TamperState) : (s.mapTm f).deep = s.deep := rfl
@[simp] theorem State.mapTm_jn (f : TamperState → TamperState) : (s.mapTm f).jn = s.jn := rfl
@[simp] theorem State.mapTm_md (f : TamperState → TamperState) : (s.mapTm f).md = s.md := rfl
@[simp] theorem State.mapTm_pins (f : TamperState → TamperState) : (s.mapTm f).pins = s.pins := rfl
@[simp] theorem State.mapTm_lk (f : TamperState → TamperState) : (s.mapTm f).lk = s.lk := rfl
@[simp] theorem State.mapTm_tm (f : TamperState → TamperState) : (s.mapTm f).tm = f s.tm := rfl
@[simp] theorem State.mapTm_pw (f : TamperState → TamperState) : (s.mapTm f).pw = s.pw := rfl
@[simp] theorem State.mapTm_cores (f : TamperState → TamperState) : (s.mapTm f).cores = s.cores := rfl
@[simp] theorem State.mapTm_lf (f : TamperState → TamperState) : (s.mapTm f).lf = s.lf := rfl
@[simp] theorem State.mapTm_cd (f : TamperState → TamperState) : (s.mapTm f).cd = s.cd := rfl

@[simp] theorem State.mapKs_pending (f : KeysState → KeysState) : (s.mapKs f).pending = s.pending := rfl
@[simp] theorem State.mapKs_now (f : KeysState → KeysState) : (s.mapKs f).now = s.now := rfl
@[simp] theorem State.mapKs_regs (f : KeysState → KeysState) : (s.mapKs f).regs = s.regs := rfl
@[simp] theorem State.mapKs_shadows (f : KeysState → KeysState) : (s.mapKs f).shadows = s.shadows := rfl
@[simp] theorem State.mapKs_mem (f : KeysState → KeysState) : (s.mapKs f).mem = s.mem := rfl
@[simp] theorem State.mapKs_freeCtr (f : KeysState → KeysState) : (s.mapKs f).freeCtr = s.freeCtr := rfl
@[simp] theorem State.mapKs_out (f : KeysState → KeysState) : (s.mapKs f).out = s.out := rfl
@[simp] theorem State.mapKs_ev (f : KeysState → KeysState) : (s.mapKs f).ev = s.ev := rfl
@[simp] theorem State.mapKs_bt (f : KeysState → KeysState) : (s.mapKs f).bt = s.bt := rfl
@[simp] theorem State.mapKs_spr (f : KeysState → KeysState) : (s.mapKs f).spr = s.spr := rfl
@[simp] theorem State.mapKs_pk (f : KeysState → KeysState) : (s.mapKs f).pk = s.pk := rfl
@[simp] theorem State.mapKs_ks (f : KeysState → KeysState) : (s.mapKs f).ks = f s.ks := rfl
@[simp] theorem State.mapKs_deep (f : KeysState → KeysState) : (s.mapKs f).deep = s.deep := rfl
@[simp] theorem State.mapKs_jn (f : KeysState → KeysState) : (s.mapKs f).jn = s.jn := rfl
@[simp] theorem State.mapKs_md (f : KeysState → KeysState) : (s.mapKs f).md = s.md := rfl
@[simp] theorem State.mapKs_pins (f : KeysState → KeysState) : (s.mapKs f).pins = s.pins := rfl
@[simp] theorem State.mapKs_lk (f : KeysState → KeysState) : (s.mapKs f).lk = s.lk := rfl
@[simp] theorem State.mapKs_tm (f : KeysState → KeysState) : (s.mapKs f).tm = s.tm := rfl
@[simp] theorem State.mapKs_pw (f : KeysState → KeysState) : (s.mapKs f).pw = s.pw := rfl
@[simp] theorem State.mapKs_cores (f : KeysState → KeysState) : (s.mapKs f).cores = s.cores := rfl
@[simp] theorem State.mapKs_lf (f : KeysState → KeysState) : (s.mapKs f).lf = s.lf := rfl
@[simp] theorem State.mapKs_cd (f : KeysState → KeysState) : (s.mapKs f).cd = s.cd := rfl

@[simp] theorem State.mapPw_pending (f : PowerState → PowerState) : (s.mapPw f).pending = s.pending := rfl
@[simp] theorem State.mapPw_now (f : PowerState → PowerState) : (s.mapPw f).now = s.now := rfl
@[simp] theorem State.mapPw_regs (f : PowerState → PowerState) : (s.mapPw f).regs = s.regs := rfl
@[simp] theorem State.mapPw_shadows (f : PowerState → PowerState) : (s.mapPw f).shadows = s.shadows := rfl
@[simp] theorem State.mapPw_mem (f : PowerState → PowerState) : (s.mapPw f).mem = s.mem := rfl
@[simp] theorem State.mapPw_freeCtr (f : PowerState → PowerState) : (s.mapPw f).freeCtr = s.freeCtr := rfl
@[simp] theorem State.mapPw_out (f : PowerState → PowerState) : (s.mapPw f).out = s.out := rfl
@[simp] theorem State.mapPw_ev (f : PowerState → PowerState) : (s.mapPw f).ev = s.ev := rfl
@[simp] theorem State.mapPw_bt (f : PowerState → PowerState) : (s.mapPw f).bt = s.bt := rfl
@[simp] theorem State.mapPw_spr (f : PowerState → PowerState) : (s.mapPw f).spr = s.spr := rfl
@[simp] theorem State.mapPw_pk (f : PowerState → PowerState) : (s.mapPw f).pk = s.pk := rfl
@[simp] theorem State.mapPw_ks (f : PowerState → PowerState) : (s.mapPw f).ks = s.ks := rfl
@[simp] theorem State.mapPw_deep (f : PowerState → PowerState) : (s.mapPw f).deep = s.deep := rfl
@[simp] theorem State.mapPw_jn (f : PowerState → PowerState) : (s.mapPw f).jn = s.jn := rfl
@[simp] theorem State.mapPw_md (f : PowerState → PowerState) : (s.mapPw f).md = s.md := rfl
@[simp] theorem State.mapPw_pins (f : PowerState → PowerState) : (s.mapPw f).pins = s.pins := rfl
@[simp] theorem State.mapPw_lk (f : PowerState → PowerState) : (s.mapPw f).lk = s.lk := rfl
@[simp] theorem State.mapPw_tm (f : PowerState → PowerState) : (s.mapPw f).tm = s.tm := rfl
@[simp] theorem State.mapPw_pw (f : PowerState → PowerState) : (s.mapPw f).pw = f s.pw := rfl
@[simp] theorem State.mapPw_cores (f : PowerState → PowerState) : (s.mapPw f).cores = s.cores := rfl
@[simp] theorem State.mapPw_lf (f : PowerState → PowerState) : (s.mapPw f).lf = s.lf := rfl
@[simp] theorem State.mapPw_cd (f : PowerState → PowerState) : (s.mapPw f).cd = s.cd := rfl

@[simp] theorem State.mapLk_pending (f : LinkState → LinkState) : (s.mapLk f).pending = s.pending := rfl
@[simp] theorem State.mapLk_now (f : LinkState → LinkState) : (s.mapLk f).now = s.now := rfl
@[simp] theorem State.mapLk_regs (f : LinkState → LinkState) : (s.mapLk f).regs = s.regs := rfl
@[simp] theorem State.mapLk_shadows (f : LinkState → LinkState) : (s.mapLk f).shadows = s.shadows := rfl
@[simp] theorem State.mapLk_mem (f : LinkState → LinkState) : (s.mapLk f).mem = s.mem := rfl
@[simp] theorem State.mapLk_freeCtr (f : LinkState → LinkState) : (s.mapLk f).freeCtr = s.freeCtr := rfl
@[simp] theorem State.mapLk_out (f : LinkState → LinkState) : (s.mapLk f).out = s.out := rfl
@[simp] theorem State.mapLk_ev (f : LinkState → LinkState) : (s.mapLk f).ev = s.ev := rfl
@[simp] theorem State.mapLk_bt (f : LinkState → LinkState) : (s.mapLk f).bt = s.bt := rfl
@[simp] theorem State.mapLk_spr (f : LinkState → LinkState) : (s.mapLk f).spr = s.spr := rfl
@[simp] theorem State.mapLk_pk (f : LinkState → LinkState) : (s.mapLk f).pk = s.pk := rfl
@[simp] theorem State.mapLk_ks (f : LinkState → LinkState) : (s.mapLk f).ks = s.ks := rfl
@[simp] theorem State.mapLk_deep (f : LinkState → LinkState) : (s.mapLk f).deep = s.deep := rfl
@[simp] theorem State.mapLk_jn (f : LinkState → LinkState) : (s.mapLk f).jn = s.jn := rfl
@[simp] theorem State.mapLk_md (f : LinkState → LinkState) : (s.mapLk f).md = s.md := rfl
@[simp] theorem State.mapLk_pins (f : LinkState → LinkState) : (s.mapLk f).pins = s.pins := rfl
@[simp] theorem State.mapLk_lk (f : LinkState → LinkState) : (s.mapLk f).lk = f s.lk := rfl
@[simp] theorem State.mapLk_tm (f : LinkState → LinkState) : (s.mapLk f).tm = s.tm := rfl
@[simp] theorem State.mapLk_pw (f : LinkState → LinkState) : (s.mapLk f).pw = s.pw := rfl
@[simp] theorem State.mapLk_cores (f : LinkState → LinkState) : (s.mapLk f).cores = s.cores := rfl
@[simp] theorem State.mapLk_lf (f : LinkState → LinkState) : (s.mapLk f).lf = s.lf := rfl
@[simp] theorem State.mapLk_cd (f : LinkState → LinkState) : (s.mapLk f).cd = s.cd := rfl

@[simp] theorem State.mapPins_pending (f : Pins → Pins) : (s.mapPins f).pending = s.pending := rfl
@[simp] theorem State.mapPins_now (f : Pins → Pins) : (s.mapPins f).now = s.now := rfl
@[simp] theorem State.mapPins_regs (f : Pins → Pins) : (s.mapPins f).regs = s.regs := rfl
@[simp] theorem State.mapPins_shadows (f : Pins → Pins) : (s.mapPins f).shadows = s.shadows := rfl
@[simp] theorem State.mapPins_mem (f : Pins → Pins) : (s.mapPins f).mem = s.mem := rfl
@[simp] theorem State.mapPins_freeCtr (f : Pins → Pins) : (s.mapPins f).freeCtr = s.freeCtr := rfl
@[simp] theorem State.mapPins_out (f : Pins → Pins) : (s.mapPins f).out = s.out := rfl
@[simp] theorem State.mapPins_ev (f : Pins → Pins) : (s.mapPins f).ev = s.ev := rfl
@[simp] theorem State.mapPins_bt (f : Pins → Pins) : (s.mapPins f).bt = s.bt := rfl
@[simp] theorem State.mapPins_spr (f : Pins → Pins) : (s.mapPins f).spr = s.spr := rfl
@[simp] theorem State.mapPins_pk (f : Pins → Pins) : (s.mapPins f).pk = s.pk := rfl
@[simp] theorem State.mapPins_ks (f : Pins → Pins) : (s.mapPins f).ks = s.ks := rfl
@[simp] theorem State.mapPins_deep (f : Pins → Pins) : (s.mapPins f).deep = s.deep := rfl
@[simp] theorem State.mapPins_jn (f : Pins → Pins) : (s.mapPins f).jn = s.jn := rfl
@[simp] theorem State.mapPins_md (f : Pins → Pins) : (s.mapPins f).md = s.md := rfl
@[simp] theorem State.mapPins_pins (f : Pins → Pins) : (s.mapPins f).pins = f s.pins := rfl
@[simp] theorem State.mapPins_lk (f : Pins → Pins) : (s.mapPins f).lk = s.lk := rfl
@[simp] theorem State.mapPins_tm (f : Pins → Pins) : (s.mapPins f).tm = s.tm := rfl
@[simp] theorem State.mapPins_pw (f : Pins → Pins) : (s.mapPins f).pw = s.pw := rfl
@[simp] theorem State.mapPins_cores (f : Pins → Pins) : (s.mapPins f).cores = s.cores := rfl
@[simp] theorem State.mapPins_lf (f : Pins → Pins) : (s.mapPins f).lf = s.lf := rfl
@[simp] theorem State.mapPins_cd (f : Pins → Pins) : (s.mapPins f).cd = s.cd := rfl

@[simp] theorem State.mapSpr_pending (f : SpringState → SpringState) : (s.mapSpr f).pending = s.pending := rfl
@[simp] theorem State.mapSpr_now (f : SpringState → SpringState) : (s.mapSpr f).now = s.now := rfl
@[simp] theorem State.mapSpr_regs (f : SpringState → SpringState) : (s.mapSpr f).regs = s.regs := rfl
@[simp] theorem State.mapSpr_shadows (f : SpringState → SpringState) : (s.mapSpr f).shadows = s.shadows := rfl
@[simp] theorem State.mapSpr_mem (f : SpringState → SpringState) : (s.mapSpr f).mem = s.mem := rfl
@[simp] theorem State.mapSpr_freeCtr (f : SpringState → SpringState) : (s.mapSpr f).freeCtr = s.freeCtr := rfl
@[simp] theorem State.mapSpr_out (f : SpringState → SpringState) : (s.mapSpr f).out = s.out := rfl
@[simp] theorem State.mapSpr_ev (f : SpringState → SpringState) : (s.mapSpr f).ev = s.ev := rfl
@[simp] theorem State.mapSpr_bt (f : SpringState → SpringState) : (s.mapSpr f).bt = s.bt := rfl
@[simp] theorem State.mapSpr_spr (f : SpringState → SpringState) : (s.mapSpr f).spr = f s.spr := rfl
@[simp] theorem State.mapSpr_pk (f : SpringState → SpringState) : (s.mapSpr f).pk = s.pk := rfl
@[simp] theorem State.mapSpr_ks (f : SpringState → SpringState) : (s.mapSpr f).ks = s.ks := rfl
@[simp] theorem State.mapSpr_deep (f : SpringState → SpringState) : (s.mapSpr f).deep = s.deep := rfl
@[simp] theorem State.mapSpr_jn (f : SpringState → SpringState) : (s.mapSpr f).jn = s.jn := rfl
@[simp] theorem State.mapSpr_md (f : SpringState → SpringState) : (s.mapSpr f).md = s.md := rfl
@[simp] theorem State.mapSpr_pins (f : SpringState → SpringState) : (s.mapSpr f).pins = s.pins := rfl
@[simp] theorem State.mapSpr_lk (f : SpringState → SpringState) : (s.mapSpr f).lk = s.lk := rfl
@[simp] theorem State.mapSpr_tm (f : SpringState → SpringState) : (s.mapSpr f).tm = s.tm := rfl
@[simp] theorem State.mapSpr_pw (f : SpringState → SpringState) : (s.mapSpr f).pw = s.pw := rfl
@[simp] theorem State.mapSpr_cores (f : SpringState → SpringState) : (s.mapSpr f).cores = s.cores := rfl
@[simp] theorem State.mapSpr_lf (f : SpringState → SpringState) : (s.mapSpr f).lf = s.lf := rfl
@[simp] theorem State.mapSpr_cd (f : SpringState → SpringState) : (s.mapSpr f).cd = s.cd := rfl

@[simp] theorem State.mapBt_pending (f : BeatState → BeatState) : (s.mapBt f).pending = s.pending := rfl
@[simp] theorem State.mapBt_now (f : BeatState → BeatState) : (s.mapBt f).now = s.now := rfl
@[simp] theorem State.mapBt_regs (f : BeatState → BeatState) : (s.mapBt f).regs = s.regs := rfl
@[simp] theorem State.mapBt_shadows (f : BeatState → BeatState) : (s.mapBt f).shadows = s.shadows := rfl
@[simp] theorem State.mapBt_mem (f : BeatState → BeatState) : (s.mapBt f).mem = s.mem := rfl
@[simp] theorem State.mapBt_freeCtr (f : BeatState → BeatState) : (s.mapBt f).freeCtr = s.freeCtr := rfl
@[simp] theorem State.mapBt_out (f : BeatState → BeatState) : (s.mapBt f).out = s.out := rfl
@[simp] theorem State.mapBt_ev (f : BeatState → BeatState) : (s.mapBt f).ev = s.ev := rfl
@[simp] theorem State.mapBt_bt (f : BeatState → BeatState) : (s.mapBt f).bt = f s.bt := rfl
@[simp] theorem State.mapBt_spr (f : BeatState → BeatState) : (s.mapBt f).spr = s.spr := rfl
@[simp] theorem State.mapBt_pk (f : BeatState → BeatState) : (s.mapBt f).pk = s.pk := rfl
@[simp] theorem State.mapBt_ks (f : BeatState → BeatState) : (s.mapBt f).ks = s.ks := rfl
@[simp] theorem State.mapBt_deep (f : BeatState → BeatState) : (s.mapBt f).deep = s.deep := rfl
@[simp] theorem State.mapBt_jn (f : BeatState → BeatState) : (s.mapBt f).jn = s.jn := rfl
@[simp] theorem State.mapBt_md (f : BeatState → BeatState) : (s.mapBt f).md = s.md := rfl
@[simp] theorem State.mapBt_pins (f : BeatState → BeatState) : (s.mapBt f).pins = s.pins := rfl
@[simp] theorem State.mapBt_lk (f : BeatState → BeatState) : (s.mapBt f).lk = s.lk := rfl
@[simp] theorem State.mapBt_tm (f : BeatState → BeatState) : (s.mapBt f).tm = s.tm := rfl
@[simp] theorem State.mapBt_pw (f : BeatState → BeatState) : (s.mapBt f).pw = s.pw := rfl
@[simp] theorem State.mapBt_cores (f : BeatState → BeatState) : (s.mapBt f).cores = s.cores := rfl
@[simp] theorem State.mapBt_lf (f : BeatState → BeatState) : (s.mapBt f).lf = s.lf := rfl
@[simp] theorem State.mapBt_cd (f : BeatState → BeatState) : (s.mapBt f).cd = s.cd := rfl

@[simp] theorem State.mapJn_pending (f : JournalState → JournalState) : (s.mapJn f).pending = s.pending := rfl
@[simp] theorem State.mapJn_now (f : JournalState → JournalState) : (s.mapJn f).now = s.now := rfl
@[simp] theorem State.mapJn_regs (f : JournalState → JournalState) : (s.mapJn f).regs = s.regs := rfl
@[simp] theorem State.mapJn_shadows (f : JournalState → JournalState) : (s.mapJn f).shadows = s.shadows := rfl
@[simp] theorem State.mapJn_mem (f : JournalState → JournalState) : (s.mapJn f).mem = s.mem := rfl
@[simp] theorem State.mapJn_freeCtr (f : JournalState → JournalState) : (s.mapJn f).freeCtr = s.freeCtr := rfl
@[simp] theorem State.mapJn_out (f : JournalState → JournalState) : (s.mapJn f).out = s.out := rfl
@[simp] theorem State.mapJn_ev (f : JournalState → JournalState) : (s.mapJn f).ev = s.ev := rfl
@[simp] theorem State.mapJn_bt (f : JournalState → JournalState) : (s.mapJn f).bt = s.bt := rfl
@[simp] theorem State.mapJn_spr (f : JournalState → JournalState) : (s.mapJn f).spr = s.spr := rfl
@[simp] theorem State.mapJn_pk (f : JournalState → JournalState) : (s.mapJn f).pk = s.pk := rfl
@[simp] theorem State.mapJn_ks (f : JournalState → JournalState) : (s.mapJn f).ks = s.ks := rfl
@[simp] theorem State.mapJn_deep (f : JournalState → JournalState) : (s.mapJn f).deep = s.deep := rfl
@[simp] theorem State.mapJn_jn (f : JournalState → JournalState) : (s.mapJn f).jn = f s.jn := rfl
@[simp] theorem State.mapJn_md (f : JournalState → JournalState) : (s.mapJn f).md = s.md := rfl
@[simp] theorem State.mapJn_pins (f : JournalState → JournalState) : (s.mapJn f).pins = s.pins := rfl
@[simp] theorem State.mapJn_lk (f : JournalState → JournalState) : (s.mapJn f).lk = s.lk := rfl
@[simp] theorem State.mapJn_tm (f : JournalState → JournalState) : (s.mapJn f).tm = s.tm := rfl
@[simp] theorem State.mapJn_pw (f : JournalState → JournalState) : (s.mapJn f).pw = s.pw := rfl
@[simp] theorem State.mapJn_cores (f : JournalState → JournalState) : (s.mapJn f).cores = s.cores := rfl
@[simp] theorem State.mapJn_lf (f : JournalState → JournalState) : (s.mapJn f).lf = s.lf := rfl
@[simp] theorem State.mapJn_cd (f : JournalState → JournalState) : (s.mapJn f).cd = s.cd := rfl

@[simp] theorem State.mapMd_pending (f : MouldState → MouldState) : (s.mapMd f).pending = s.pending := rfl
@[simp] theorem State.mapMd_now (f : MouldState → MouldState) : (s.mapMd f).now = s.now := rfl
@[simp] theorem State.mapMd_regs (f : MouldState → MouldState) : (s.mapMd f).regs = s.regs := rfl
@[simp] theorem State.mapMd_shadows (f : MouldState → MouldState) : (s.mapMd f).shadows = s.shadows := rfl
@[simp] theorem State.mapMd_mem (f : MouldState → MouldState) : (s.mapMd f).mem = s.mem := rfl
@[simp] theorem State.mapMd_freeCtr (f : MouldState → MouldState) : (s.mapMd f).freeCtr = s.freeCtr := rfl
@[simp] theorem State.mapMd_out (f : MouldState → MouldState) : (s.mapMd f).out = s.out := rfl
@[simp] theorem State.mapMd_ev (f : MouldState → MouldState) : (s.mapMd f).ev = s.ev := rfl
@[simp] theorem State.mapMd_bt (f : MouldState → MouldState) : (s.mapMd f).bt = s.bt := rfl
@[simp] theorem State.mapMd_spr (f : MouldState → MouldState) : (s.mapMd f).spr = s.spr := rfl
@[simp] theorem State.mapMd_pk (f : MouldState → MouldState) : (s.mapMd f).pk = s.pk := rfl
@[simp] theorem State.mapMd_ks (f : MouldState → MouldState) : (s.mapMd f).ks = s.ks := rfl
@[simp] theorem State.mapMd_deep (f : MouldState → MouldState) : (s.mapMd f).deep = s.deep := rfl
@[simp] theorem State.mapMd_jn (f : MouldState → MouldState) : (s.mapMd f).jn = s.jn := rfl
@[simp] theorem State.mapMd_md (f : MouldState → MouldState) : (s.mapMd f).md = f s.md := rfl
@[simp] theorem State.mapMd_pins (f : MouldState → MouldState) : (s.mapMd f).pins = s.pins := rfl
@[simp] theorem State.mapMd_lk (f : MouldState → MouldState) : (s.mapMd f).lk = s.lk := rfl
@[simp] theorem State.mapMd_tm (f : MouldState → MouldState) : (s.mapMd f).tm = s.tm := rfl
@[simp] theorem State.mapMd_pw (f : MouldState → MouldState) : (s.mapMd f).pw = s.pw := rfl
@[simp] theorem State.mapMd_cores (f : MouldState → MouldState) : (s.mapMd f).cores = s.cores := rfl
@[simp] theorem State.mapMd_lf (f : MouldState → MouldState) : (s.mapMd f).lf = s.lf := rfl
@[simp] theorem State.mapMd_cd (f : MouldState → MouldState) : (s.mapMd f).cd = s.cd := rfl

@[simp] theorem State.mapCd_pending (f : CardState → CardState) : (s.mapCd f).pending = s.pending := rfl
@[simp] theorem State.mapCd_now (f : CardState → CardState) : (s.mapCd f).now = s.now := rfl
@[simp] theorem State.mapCd_regs (f : CardState → CardState) : (s.mapCd f).regs = s.regs := rfl
@[simp] theorem State.mapCd_shadows (f : CardState → CardState) : (s.mapCd f).shadows = s.shadows := rfl
@[simp] theorem State.mapCd_mem (f : CardState → CardState) : (s.mapCd f).mem = s.mem := rfl
@[simp] theorem State.mapCd_freeCtr (f : CardState → CardState) : (s.mapCd f).freeCtr = s.freeCtr := rfl
@[simp] theorem State.mapCd_out (f : CardState → CardState) : (s.mapCd f).out = s.out := rfl
@[simp] theorem State.mapCd_ev (f : CardState → CardState) : (s.mapCd f).ev = s.ev := rfl
@[simp] theorem State.mapCd_bt (f : CardState → CardState) : (s.mapCd f).bt = s.bt := rfl
@[simp] theorem State.mapCd_spr (f : CardState → CardState) : (s.mapCd f).spr = s.spr := rfl
@[simp] theorem State.mapCd_pk (f : CardState → CardState) : (s.mapCd f).pk = s.pk := rfl
@[simp] theorem State.mapCd_ks (f : CardState → CardState) : (s.mapCd f).ks = s.ks := rfl
@[simp] theorem State.mapCd_deep (f : CardState → CardState) : (s.mapCd f).deep = s.deep := rfl
@[simp] theorem State.mapCd_jn (f : CardState → CardState) : (s.mapCd f).jn = s.jn := rfl
@[simp] theorem State.mapCd_md (f : CardState → CardState) : (s.mapCd f).md = s.md := rfl
@[simp] theorem State.mapCd_pins (f : CardState → CardState) : (s.mapCd f).pins = s.pins := rfl
@[simp] theorem State.mapCd_lk (f : CardState → CardState) : (s.mapCd f).lk = s.lk := rfl
@[simp] theorem State.mapCd_tm (f : CardState → CardState) : (s.mapCd f).tm = s.tm := rfl
@[simp] theorem State.mapCd_pw (f : CardState → CardState) : (s.mapCd f).pw = s.pw := rfl
@[simp] theorem State.mapCd_cores (f : CardState → CardState) : (s.mapCd f).cores = s.cores := rfl
@[simp] theorem State.mapCd_lf (f : CardState → CardState) : (s.mapCd f).lf = s.lf := rfl
@[simp] theorem State.mapCd_cd (f : CardState → CardState) : (s.mapCd f).cd = f s.cd := rfl

/-! ### Registers and memory -/

@[simp] theorem State.setReg_byte (k : Nat) (v : Word) (p : Nat) : (s.setReg k v).byte p = s.byte p := rfl
@[simp] theorem State.setReg_core (k : Nat) (v : Word) (p : Nat) : (s.setReg k v).core p = s.core p := rfl
@[simp] theorem State.setByte_reg (a : Nat) (v : Byte) (r : Nat) : (s.setByte a v).reg r = s.reg r := rfl
@[simp] theorem State.setByte_core (a : Nat) (v : Byte) (p : Nat) : (s.setByte a v).core p = s.core p := rfl
@[simp] theorem State.tookFree_reg (n : Nat) (r : Nat) : (s.tookFree n).reg r = s.reg r := rfl
@[simp] theorem State.tookFree_byte (n : Nat) (p : Nat) : (s.tookFree n).byte p = s.byte p := rfl
@[simp] theorem State.tookFree_core (n : Nat) (p : Nat) : (s.tookFree n).core p = s.core p := rfl
@[simp] theorem State.wipe_reg (a n : Nat) (r : Nat) : (s.wipe a n).reg r = s.reg r := rfl
@[simp] theorem State.wipe_core (a n : Nat) (p : Nat) : (s.wipe a n).core p = s.core p := rfl
@[simp] theorem State.setCore_reg (c : Nat) (x : CoreState) (r : Nat) : (s.setCore c x).reg r = s.reg r := rfl
@[simp] theorem State.setCore_byte (c : Nat) (x : CoreState) (p : Nat) : (s.setCore c x).byte p = s.byte p := rfl
@[simp] theorem State.setPke_reg (v : Nat) (u : PkeUnit) (r : Nat) : (s.setPke v u).reg r = s.reg r := rfl
@[simp] theorem State.setPke_byte (v : Nat) (u : PkeUnit) (p : Nat) : (s.setPke v u).byte p = s.byte p := rfl
@[simp] theorem State.setPke_core (v : Nat) (u : PkeUnit) (p : Nat) : (s.setPke v u).core p = s.core p := rfl
@[simp] theorem State.mapLf_reg (f : LifeState → LifeState) (r : Nat) : (s.mapLf f).reg r = s.reg r := rfl
@[simp] theorem State.mapLf_byte (f : LifeState → LifeState) (p : Nat) : (s.mapLf f).byte p = s.byte p := rfl
@[simp] theorem State.mapLf_core (f : LifeState → LifeState) (p : Nat) : (s.mapLf f).core p = s.core p := rfl
@[simp] theorem State.mapTm_reg (f : TamperState → TamperState) (r : Nat) : (s.mapTm f).reg r = s.reg r := rfl
@[simp] theorem State.mapTm_byte (f : TamperState → TamperState) (p : Nat) : (s.mapTm f).byte p = s.byte p := rfl
@[simp] theorem State.mapTm_core (f : TamperState → TamperState) (p : Nat) : (s.mapTm f).core p = s.core p := rfl
@[simp] theorem State.mapKs_reg (f : KeysState → KeysState) (r : Nat) : (s.mapKs f).reg r = s.reg r := rfl
@[simp] theorem State.mapKs_byte (f : KeysState → KeysState) (p : Nat) : (s.mapKs f).byte p = s.byte p := rfl
@[simp] theorem State.mapKs_core (f : KeysState → KeysState) (p : Nat) : (s.mapKs f).core p = s.core p := rfl
@[simp] theorem State.mapPw_reg (f : PowerState → PowerState) (r : Nat) : (s.mapPw f).reg r = s.reg r := rfl
@[simp] theorem State.mapPw_byte (f : PowerState → PowerState) (p : Nat) : (s.mapPw f).byte p = s.byte p := rfl
@[simp] theorem State.mapPw_core (f : PowerState → PowerState) (p : Nat) : (s.mapPw f).core p = s.core p := rfl
@[simp] theorem State.mapLk_reg (f : LinkState → LinkState) (r : Nat) : (s.mapLk f).reg r = s.reg r := rfl
@[simp] theorem State.mapLk_byte (f : LinkState → LinkState) (p : Nat) : (s.mapLk f).byte p = s.byte p := rfl
@[simp] theorem State.mapLk_core (f : LinkState → LinkState) (p : Nat) : (s.mapLk f).core p = s.core p := rfl
@[simp] theorem State.mapPins_reg (f : Pins → Pins) (r : Nat) : (s.mapPins f).reg r = s.reg r := rfl
@[simp] theorem State.mapPins_byte (f : Pins → Pins) (p : Nat) : (s.mapPins f).byte p = s.byte p := rfl
@[simp] theorem State.mapPins_core (f : Pins → Pins) (p : Nat) : (s.mapPins f).core p = s.core p := rfl
@[simp] theorem State.mapSpr_reg (f : SpringState → SpringState) (r : Nat) : (s.mapSpr f).reg r = s.reg r := rfl
@[simp] theorem State.mapSpr_byte (f : SpringState → SpringState) (p : Nat) : (s.mapSpr f).byte p = s.byte p := rfl
@[simp] theorem State.mapSpr_core (f : SpringState → SpringState) (p : Nat) : (s.mapSpr f).core p = s.core p := rfl
@[simp] theorem State.mapBt_reg (f : BeatState → BeatState) (r : Nat) : (s.mapBt f).reg r = s.reg r := rfl
@[simp] theorem State.mapBt_byte (f : BeatState → BeatState) (p : Nat) : (s.mapBt f).byte p = s.byte p := rfl
@[simp] theorem State.mapBt_core (f : BeatState → BeatState) (p : Nat) : (s.mapBt f).core p = s.core p := rfl
@[simp] theorem State.mapJn_reg (f : JournalState → JournalState) (r : Nat) : (s.mapJn f).reg r = s.reg r := rfl
@[simp] theorem State.mapJn_byte (f : JournalState → JournalState) (p : Nat) : (s.mapJn f).byte p = s.byte p := rfl
@[simp] theorem State.mapJn_core (f : JournalState → JournalState) (p : Nat) : (s.mapJn f).core p = s.core p := rfl
@[simp] theorem State.mapMd_reg (f : MouldState → MouldState) (r : Nat) : (s.mapMd f).reg r = s.reg r := rfl
@[simp] theorem State.mapMd_byte (f : MouldState → MouldState) (p : Nat) : (s.mapMd f).byte p = s.byte p := rfl
@[simp] theorem State.mapMd_core (f : MouldState → MouldState) (p : Nat) : (s.mapMd f).core p = s.core p := rfl
@[simp] theorem State.mapCd_reg (f : CardState → CardState) (r : Nat) : (s.mapCd f).reg r = s.reg r := rfl
@[simp] theorem State.mapCd_byte (f : CardState → CardState) (p : Nat) : (s.mapCd f).byte p = s.byte p := rfl
@[simp] theorem State.mapCd_core (f : CardState → CardState) (p : Nat) : (s.mapCd f).core p = s.core p := rfl

theorem State.reg_setReg (k j : Nat) (v : Word) : (s.setReg k v).reg j = if j = k then v else s.reg j := by
  unfold State.reg State.setReg
  split
  · subst j; exact spGet_spSet_same regReset s.regs k v
  · exact spGet_spSet_other regReset s.regs v ‹_›

@[simp] theorem State.reg_setReg_same (k : Nat) (v : Word) : (s.setReg k v).reg k = v := by simp [State.reg_setReg]

theorem State.reg_setReg_other {k j : Nat} (v : Word) (h : j ≠ k) : (s.setReg k v).reg j = s.reg j := by
  simp [State.reg_setReg, h]

theorem State.byte_setByte (a p : Nat) (v : Byte) : (s.setByte a v).byte p = if p = a then v else s.byte p := by
  unfold State.byte State.setByte
  split
  · subst p; exact spGet_spSet_same memReset s.mem a v
  · exact spGet_spSet_other memReset s.mem v ‹_›

@[simp] theorem State.byte_setByte_same (a : Nat) (v : Byte) : (s.setByte a v).byte a = v := by simp [State.byte_setByte]

/-- A write changes nothing below its first byte. -/
theorem State.write_byte_below (bs : Bytes) (a p : Nat) (h : p < a) : (s.write a bs).byte p = s.byte p := by
  induction bs generalizing s a with
  | nil => rfl
  | cons b bs ih => rw [State.write, ih _ _ (by omega), State.byte_setByte]; simp; omega

/-- A write changes nothing from behind its last byte on. -/
theorem State.write_byte_above (bs : Bytes) (a p : Nat) (h : a + bs.length ≤ p) : (s.write a bs).byte p = s.byte p := by
  induction bs generalizing s a with
  | nil => rfl
  | cons b bs ih =>
    simp only [List.length_cons] at h
    rw [State.write, ih _ _ (by omega), State.byte_setByte]; simp; omega

/-- A byte that was written reads as it was written. -/
theorem State.write_byte_within (bs : Bytes) (a i : Nat) (h : i < bs.length) : (s.write a bs).byte (a + i) = bs[i] := by
  induction bs generalizing s a i with
  | nil => simp at h
  | cons b bs ih =>
    rw [State.write]
    cases i with
    | zero => rw [Nat.add_zero, State.write_byte_below _ _ _ _ (by omega)]; simp
    | succ i =>
      have := ih (s.setByte a b) (a + 1) i (by simpa using h)
      rw [show a + (i + 1) = a + 1 + i by omega, this]; simp

/-- A wiped byte reads as an unwritten one. -/
theorem State.wipe_byte (a n p : Nat) : (s.wipe a n).byte p = if a ≤ p ∧ p < a + n then memReset p else s.byte p := by
  unfold State.byte State.wipe
  simp only
  induction s.mem with
  | nil => simp [spGet]
  | cons e m ih =>
    simp only [List.filter_cons]
    by_cases h : decide (e.1 < a) || decide (a + n ≤ e.1)
    · rw [if_pos h]
      simp only [spGet]
      by_cases hp : p = e.1
      · subst hp; simp at h; rw [if_pos rfl, if_pos rfl, if_neg (by omega)]
      · simp [hp, ih]
    · rw [if_neg h, ih]
      simp only [spGet]
      by_cases hp : p = e.1
      · subst hp; simp at h; rw [if_pos (by omega), if_pos (by omega)]
      · simp [hp]

@[simp] theorem State.write_pending (a : Nat) (bs : Bytes) : (s.write a bs).pending = s.pending := by
  induction bs generalizing s a with
  | nil => rfl
  | cons b bs ih => rw [State.write, ih]; rfl
@[simp] theorem State.write_now (a : Nat) (bs : Bytes) : (s.write a bs).now = s.now := by
  induction bs generalizing s a with
  | nil => rfl
  | cons b bs ih => rw [State.write, ih]; rfl
@[simp] theorem State.write_regs (a : Nat) (bs : Bytes) : (s.write a bs).regs = s.regs := by
  induction bs generalizing s a with
  | nil => rfl
  | cons b bs ih => rw [State.write, ih]; rfl
@[simp] theorem State.write_shadows (a : Nat) (bs : Bytes) : (s.write a bs).shadows = s.shadows := by
  induction bs generalizing s a with
  | nil => rfl
  | cons b bs ih => rw [State.write, ih]; rfl
@[simp] theorem State.write_freeCtr (a : Nat) (bs : Bytes) : (s.write a bs).freeCtr = s.freeCtr := by
  induction bs generalizing s a with
  | nil => rfl
  | cons b bs ih => rw [State.write, ih]; rfl
@[simp] theorem State.write_out (a : Nat) (bs : Bytes) : (s.write a bs).out = s.out := by
  induction bs generalizing s a with
  | nil => rfl
  | cons b bs ih => rw [State.write, ih]; rfl
@[simp] theorem State.write_ev (a : Nat) (bs : Bytes) : (s.write a bs).ev = s.ev := by
  induction bs generalizing s a with
  | nil => rfl
  | cons b bs ih => rw [State.write, ih]; rfl
@[simp] theorem State.write_bt (a : Nat) (bs : Bytes) : (s.write a bs).bt = s.bt := by
  induction bs generalizing s a with
  | nil => rfl
  | cons b bs ih => rw [State.write, ih]; rfl
@[simp] theorem State.write_spr (a : Nat) (bs : Bytes) : (s.write a bs).spr = s.spr := by
  induction bs generalizing s a with
  | nil => rfl
  | cons b bs ih => rw [State.write, ih]; rfl
@[simp] theorem State.write_pk (a : Nat) (bs : Bytes) : (s.write a bs).pk = s.pk := by
  induction bs generalizing s a with
  | nil => rfl
  | cons b bs ih => rw [State.write, ih]; rfl
@[simp] theorem State.write_ks (a : Nat) (bs : Bytes) : (s.write a bs).ks = s.ks := by
  induction bs generalizing s a with
  | nil => rfl
  | cons b bs ih => rw [State.write, ih]; rfl
@[simp] theorem State.write_deep (a : Nat) (bs : Bytes) : (s.write a bs).deep = s.deep := by
  induction bs generalizing s a with
  | nil => rfl
  | cons b bs ih => rw [State.write, ih]; rfl
@[simp] theorem State.write_jn (a : Nat) (bs : Bytes) : (s.write a bs).jn = s.jn := by
  induction bs generalizing s a with
  | nil => rfl
  | cons b bs ih => rw [State.write, ih]; rfl
@[simp] theorem State.write_md (a : Nat) (bs : Bytes) : (s.write a bs).md = s.md := by
  induction bs generalizing s a with
  | nil => rfl
  | cons b bs ih => rw [State.write, ih]; rfl
@[simp] theorem State.write_pins (a : Nat) (bs : Bytes) : (s.write a bs).pins = s.pins := by
  induction bs generalizing s a with
  | nil => rfl
  | cons b bs ih => rw [State.write, ih]; rfl
@[simp] theorem State.write_lk (a : Nat) (bs : Bytes) : (s.write a bs).lk = s.lk := by
  induction bs generalizing s a with
  | nil => rfl
  | cons b bs ih => rw [State.write, ih]; rfl
@[simp] theorem State.write_tm (a : Nat) (bs : Bytes) : (s.write a bs).tm = s.tm := by
  induction bs generalizing s a with
  | nil => rfl
  | cons b bs ih => rw [State.write, ih]; rfl
@[simp] theorem State.write_pw (a : Nat) (bs : Bytes) : (s.write a bs).pw = s.pw := by
  induction bs generalizing s a with
  | nil => rfl
  | cons b bs ih => rw [State.write, ih]; rfl
@[simp] theorem State.write_cores (a : Nat) (bs : Bytes) : (s.write a bs).cores = s.cores := by
  induction bs generalizing s a with
  | nil => rfl
  | cons b bs ih => rw [State.write, ih]; rfl
@[simp] theorem State.write_lf (a : Nat) (bs : Bytes) : (s.write a bs).lf = s.lf := by
  induction bs generalizing s a with
  | nil => rfl
  | cons b bs ih => rw [State.write, ih]; rfl
@[simp] theorem State.write_cd (a : Nat) (bs : Bytes) : (s.write a bs).cd = s.cd := by
  induction bs generalizing s a with
  | nil => rfl
  | cons b bs ih => rw [State.write, ih]; rfl

@[simp] theorem State.write_reg (a : Nat) (bs : Bytes) (k : Nat) : (s.write a bs).reg k = s.reg k := by simp [State.reg]

@[simp] theorem State.write_core (a : Nat) (bs : Bytes) (c : Nat) : (s.write a bs).core c = s.core c := by simp [State.core]

theorem State.core_setCore (c j : Nat) (x : CoreState) (h : c < s.cores.length) :
    (s.setCore c x).core j = if j = c then x else s.core j := by
  unfold State.core State.setCore
  simp only [List.getD_eq_getElem?_getD, List.getElem?_set]
  split
  · subst c; simp [h]
  · rw [if_neg (Ne.symm ‹_›)]

/-! ### The canonical form of memory and of the register file -/

theorem memWf_setByte (a : Nat) (v : Byte) (h : memWf s.mem) : memWf (s.setByte a v).mem := spWf_spSet memReset s.mem a v h

theorem memWf_write (a : Nat) (bs : Bytes) (h : memWf s.mem) : memWf (s.write a bs).mem := by
  induction bs generalizing s a with
  | nil => exact h
  | cons b bs ih => exact ih _ _ (memWf_setByte s a b h)

theorem memWf_filter (p : Host.Cell → Bool) (m : List Host.Cell) (h : memWf m) : memWf (m.filter p) :=
  spWf_sublist memReset h List.filter_sublist

theorem memWf_wipe (a n : Nat) (h : memWf s.mem) : memWf (s.wipe a n).mem := memWf_filter _ _ h

theorem memWf_reset : memWf State.reset.mem := by decide

theorem regsWf_setReg (k : Nat) (v : Word) (h : spWf regReset s.regs = true) : spWf regReset (s.setReg k v).regs = true :=
  spWf_spSet regReset s.regs k v h

end Sys2Proof.Machine
end

