-- ==== Sys2Proof/Laws/Ax32.lean ====
section
/-! SUPPORT. What the shared operations of the AX32 core do: a core written reads back, a calm boundary changes nothing, and an instruction
that issues runs its body on the state in which the load before it has completed. -/

namespace Sys2Proof.Machine

theorem State.core_setCore_same (s : State) (c : Nat) (x : CoreState) (h : s.cores.length = 66) (hc : c < 66) :
    (s.setCore c x).core c = x := by
  rw [State.core_setCore _ _ _ _ (by omega)]; simp

theorem State.core_setCore_other (s : State) {c d : Nat} (x : CoreState) (h : d ≠ c) : (s.setCore c x).core d = s.core d := by
  unfold State.core State.setCore
  simp only [List.getD_eq_getElem?_getD, List.getElem?_set, if_neg (Ne.symm h)]

@[simp] theorem State.setCore_setCore (s : State) (c : Nat) (x y : CoreState) : (s.setCore c x).setCore c y = s.setCore c y := by
  simp [State.setCore, List.set_set]

/-- The load that completes at issue changes a register, its taint and the slot, nothing else. -/
theorem CoreState.slotDone_fields (x : CoreState) :
    x.slotDone = { x with gpr := x.slotDone.gpr, taint := x.slotDone.taint, slot := none } := by
  unfold CoreState.slotDone
  split
  · unfold CoreState.put; split <;> simp
  · cases x; simp_all

theorem CoreState.put_fields (x : CoreState) (g : Gpr) (v : Word) (t : Bool) :
    x.put g v t = { x with gpr := (x.put g v t).gpr, taint := (x.put g v t).taint } := by
  unfold CoreState.put; split <;> simp

/-- A register that was written reads as it was written, but g0 as zero. -/
theorem CoreState.rd_put_same (x : CoreState) (g : Gpr) (v : Word) (t : Bool) (h : x.gpr.length = 32) :
    (x.put g v t).rd g = if g = 0 then 0 else v := by
  unfold CoreState.put CoreState.rd
  by_cases hg : g = 0
  · simp [hg]
  · have := g.isLt
    simp [hg, List.getD_eq_getElem?_getD, h]

/-- Every other register reads as before. -/
theorem CoreState.rd_put_other (x : CoreState) {g j : Gpr} (v : Word) (t : Bool) (h : j ≠ g) : (x.put g v t).rd j = x.rd j := by
  unfold CoreState.put CoreState.rd
  split
  · rfl
  · have : g.val ≠ j.val := fun e => h (Fin.ext e.symm)
    split <;> simp [List.getD_eq_getElem?_getD, this]

/-- Nothing is due at a calm boundary. -/
theorem State.boundary_calm (s : State) (c : Nat) (h1 : (s.core c).report = none) (h2 : (s.core c).budgetDue = false)
    (h3 : (s.core c).stepping = false) (h4 : (s.core c).haltReq = false) : s.boundary c = s := by
  unfold State.boundary
  simp [h1, h2, h3, h4]

theorem State.fetchDeny_setCore (s : State) (c : Nat) (x : CoreState) (h : s.cores.length = 66) (hc : c < 66)
    (h1 : x.pc = (s.core c).pc) (h2 : x.priv = (s.core c).priv) (h3 : x.aper = (s.core c).aper) :
    (s.setCore c x).fetchDeny c = s.fetchDeny c := by
  unfold State.fetchDeny State.route
  simp only [State.core_setCore_same s c x h hc, h1, h2, h3]
  rfl

theorem State.atIssue_fields (s : State) (c : Nat) :
    s.atIssue c = { s.core c with gpr := (s.atIssue c).gpr, taint := (s.atIssue c).taint, slot := none, wfe := false } := by
  unfold State.atIssue; rw [CoreState.slotDone_fields]

theorem State.coreReady_facts (s : State) (c : Nat) (h : s.coreReady c = true) :
    (s.core c).locked = false ∧ (s.core c).inReset = false ∧ (s.core c).load = none ∧ (s.core c).wait = none := by
  unfold State.coreReady at h; simp_all

/-- An instruction that issues runs its body. -/
theorem State.issue_eq (s : State) (c : Nat) (hc : c < 66) (priv : Bool) (worst : Nat) (body : CoreState → State → State) (h : s.issues c)
    (hp : priv = true → (s.core c).priv = true) :
    s.issue c priv worst body = (body (s.core c) (s.setCore c (s.atIssue c))).boundary c := by
  obtain ⟨⟨h1, h2, h3, h4, h5, h6, h7, h8⟩, r, f, b, d, p⟩ := h
  have hf := s.atIssue_fields c
  have e : ({ (s.core c).slotDone with wfe := false, stepping := false } : CoreState) = s.atIssue c := by
    have := CoreState.slotDone_fields (s.core c)
    unfold State.atIssue; rw [this]; simp [h7]
  have e2 : (s.setCore c (s.atIssue c)).fetchDeny c = none := by
    rw [State.fetchDeny_setCore _ _ _ h1 hc, f] <;> rw [hf] <;> rfl
  have hs : (s.setCore c (s.atIssue c)).spendBudget c worst = s.setCore c (s.atIssue c) := by
    unfold State.spendBudget
    rw [State.core_setCore_same s c _ h1 hc, hf]
    rcases p with p | p
    · simp only [CoreState.priv] at p ⊢; simp [p]
    · simp [p]
  unfold State.issue
  simp only [r, b, h7, d, not_true_eq_false, if_false, Bool.and_false, Bool.or_false, Bool.false_eq_true, false_and, e, e2, hs]
  split
  · rename_i hh; exact absurd (hp hh.1) hh.2
  · rfl

/-- A computing instruction that issues. -/
theorem State.compute_eq (s : State) (c : Core) (worst : Nat) (gd : Gpr) (srcs : List Gpr) (f : CoreState → Word) (h : s.issues c) :
    s.compute c worst gd srcs f = s.gprDone c gd srcs (f (s.core c)) := by
  unfold State.compute
  rw [State.issue_eq s c c.isLt false worst _ h (by simp)]
  obtain ⟨⟨h1, h2, h3, h4, h5, h6, h7, h8⟩, r, fd, b, d, p⟩ := h
  simp only [State.updCore, State.retire, State.gprDone, State.retired, State.core_setCore_same _ _ _ h1 c.isLt, State.setCore_setCore]
  rw [State.boundary_calm] <;> rw [State.core_setCore_same _ _ _ h1 c.isLt, CoreState.put_fields, State.atIssue_fields] <;>
    simp [h5, h6, h7, h8]

end Sys2Proof.Machine
end

