-- ==== Sys2Proof/WellFormed.lean ====
section
/-! DEFINITION. Which commands a device can meet: checks on the operands that their types do not already bound. -/

namespace Sys2Proof

/-- Whether a command's operands are ones the device can meet. -/
def wellFormed : Instr → Bool
  | _ => true

end Sys2Proof
end

/-! SUPPORT. What every step keeps: memory and the register file in canonical form, and 66 cores (R11, R25).

One lemma for each function of the model that makes a state, `Inv.<function>`: where its argument has the invariant, so has its result. A
proof follows the function's own text: `h.setReg.bump` where it sets a register and bumps another, `.ite a b` where it branches on a condition,
`h.foldl fun _ _ h => …` where it folds, and `split` where it matches. -/

namespace Sys2Proof.Machine.State

variable {s t : State}

/-! ### Results and combinators -/

/-- A command's result, where it is a state, has the invariant. -/
def Keeps (r : Res) : Prop := ∀ t, r = .next t → t.Inv

theorem Keeps.next (h : s.Inv) : Keeps (.next s) := by
  rintro t ⟨⟩
  exact h

/-- The invariant speaks of the registers, memory and cores only. -/
theorem Inv.upd {pending now shadows freeCtr out ev bt spr pk ks deep jn md pins lk tm pw lf cd} (h : s.Inv) :
    Inv ⟨pending, now, s.regs, shadows, s.mem, freeCtr, out, ev, bt, spr, pk, ks, deep, jn, md, pins, lk, tm, pw, s.cores, lf, cd⟩ :=
  h

theorem Inv.ite {c : Prop} {_ : Decidable c} (hs : s.Inv) (ht : t.Inv) : (if c then s else t).Inv := by
  split
  · exact hs
  · exact ht

theorem Inv.ite_fst {α : Type} {c : Prop} {_ : Decidable c} {p q : State × α} (hp : p.1.Inv) (hq : q.1.Inv) :
    (if c then p else q).1.Inv := by
  split
  · exact hp
  · exact hq

theorem Inv.ite_snd {α : Type} {c : Prop} {_ : Decidable c} {p q : α × State} (hp : p.2.Inv) (hq : q.2.Inv) :
    (if c then p else q).2.Inv := by
  split
  · exact hp
  · exact hq

theorem Inv.ite_sndsnd {α β : Type} {c : Prop} {_ : Decidable c} {p q : α × β × State} (hp : p.2.2.Inv)
    (hq : q.2.2.Inv) : (if c then p else q).2.2.Inv := by
  split
  · exact hp
  · exact hq

theorem Inv.ite_mid {α β : Type} {c : Prop} {_ : Decidable c} {p q : α × State × β} (hp : p.2.1.Inv) (hq : q.2.1.Inv) :
    (if c then p else q).2.1.Inv := by
  split
  · exact hp
  · exact hq

/-- For a state that a pattern names. -/
theorem Inv.of_eq {α : Type} {p : α × State} {a : α} (h : p.2.Inv) (e : p = (a, t)) : t.Inv := by
  subst e
  exact h

theorem Inv.of_eq_mid {α β : Type} {p : α × State × β} {a : α} {b : β} (h : p.2.1.Inv) (e : p = (a, t, b)) : t.Inv := by
  subst e
  exact h

theorem Inv.foldl {α : Type} {l : List α} {f : State → α → State} (h : s.Inv) (hf : ∀ t a, t.Inv → (f t a).Inv) :
    (l.foldl f s).Inv := by
  induction l generalizing s with
  | nil => exact h
  | cons a l ih => exact ih (hf s a h)

/-- An answer, where there is one, comes with a state that has the invariant. -/
def OptInv {α : Type} (st : α → State) (o : Option α) : Prop := ∀ a, o = some a → (st a).Inv

theorem OptInv.none {α : Type} {st : α → State} : OptInv st none := nofun

theorem OptInv.some {α : Type} {st : α → State} {a : α} (h : (st a).Inv) : OptInv st (some a) := by
  rintro b ⟨⟩
  exact h

theorem OptInv.ite {α : Type} {st : α → State} {c : Prop} {_ : Decidable c} {p q : Option α} (hp : OptInv st p)
    (hq : OptInv st q) : OptInv st (if c then p else q) := by
  split
  · exact hp
  · exact hq

theorem OptInv.getD {o : Option State} (ho : OptInv id o) (h : s.Inv) : (o.getD s).Inv := by
  cases o with
  | none => exact h
  | some t => exact ho t rfl

/-! ### The three tables that the invariant is about -/

theorem Inv.filterRegs {p : Nat × Word → Bool} (h : s.Inv) : Inv { s with regs := s.regs.filter p } := by
  obtain ⟨hm, hr, hc⟩ := h
  exact ⟨hm, spWf_sublist regReset hr List.filter_sublist, hc⟩

theorem Inv.filterMem {p : Host.Cell → Bool} {lk : LinkState} (h : s.Inv) :
    Inv { s with mem := s.mem.filter p, lk := lk } := by
  obtain ⟨hm, hr, hc⟩ := h
  exact ⟨memWf_filter p _ hm, hr, hc⟩

theorem Inv.mapCores {f : CoreState → CoreState} (h : s.Inv) : Inv { s with cores := s.cores.map f } := by
  obtain ⟨hm, hr, hc⟩ := h
  exact ⟨hm, hr, (List.length_map ..).trans hc⟩

theorem Inv.setReg {k : Nat} {v : Word} (h : s.Inv) : (s.setReg k v).Inv := by
  obtain ⟨hm, hr, hc⟩ := h
  exact ⟨hm, regsWf_setReg s k v hr, hc⟩

theorem Inv.setByte {a : Nat} {v : Byte} (h : s.Inv) : (s.setByte a v).Inv := by
  obtain ⟨hm, hr, hc⟩ := h
  exact ⟨memWf_setByte s a v hm, hr, hc⟩

theorem Inv.write {a : Nat} {bs : Bytes} (h : s.Inv) : (s.write a bs).Inv := by
  induction bs generalizing s a with
  | nil => exact h
  | cons b bs ih => exact ih h.setByte

theorem Inv.wipe {a n : Nat} (h : s.Inv) : (s.wipe a n).Inv := by
  obtain ⟨hm, hr, hc⟩ := h
  exact ⟨memWf_wipe s a n hm, hr, hc⟩

theorem Inv.setCore {c : Nat} {x : CoreState} (h : s.Inv) : (s.setCore c x).Inv := by
  obtain ⟨hm, hr, hc⟩ := h
  exact ⟨hm, hr, (List.length_set ..).trans hc⟩

/-! ### Machine/Ops.lean -/

theorem Inv.setRegField {k hi lo v : Nat} (h : s.Inv) : (s.setRegField k hi lo v).Inv := h.setReg
theorem Inv.setRegBit {k i : Nat} {b : Bool} (h : s.Inv) : (s.setRegBit k i b).Inv := h.setReg
theorem Inv.bump {k : Nat} (h : s.Inv) : (s.bump k).Inv := h.setReg
theorem Inv.bumpBy {k n : Nat} (h : s.Inv) : (s.bumpBy k n).Inv := h.setReg
theorem Inv.setReg64 {k v : Nat} (h : s.Inv) : (s.setReg64 k v).Inv := h.setReg.setReg
theorem Inv.bump64 {k n : Nat} (h : s.Inv) : (s.bump64 k n).Inv := h.setReg64
theorem Inv.setMaskBit {lo v : Nat} {b : Bool} (h : s.Inv) : (s.setMaskBit lo v b).Inv := h.setRegBit
theorem Inv.setRegBytes {k : Nat} {bs : Bytes} (h : s.Inv) : (s.setRegBytes k bs).Inv := h.foldl fun _ _ h => h.setReg
theorem Inv.setRegs {l : List (Nat × Nat)} (h : s.Inv) : (s.setRegs l).Inv := h.foldl fun _ _ h => h.setReg
theorem Inv.mapLf {f : LifeState → LifeState} (h : s.Inv) : (s.mapLf f).Inv := h.upd
theorem Inv.tookFree {n : Nat} (h : s.Inv) : (s.tookFree n).Inv := h.upd
theorem Inv.emit {p : OutPort} {bs : Bytes} (h : s.Inv) : (s.emit p bs).Inv := .ite h h.upd

theorem Inv.journalEvent {n stop data : Nat} (h : s.Inv) : (s.journalEvent n stop data).Inv :=
  .ite (.ite h.upd.setRegBit h.upd.setReg) h

theorem Inv.pendEvent {n : Nat} (h : s.Inv) : (s.pendEvent n).Inv := .ite h.bump h.setRegBit

theorem Inv.arrive {n stop data : Nat} (h : s.Inv) : (s.arrive n stop data).Inv :=
  have h := h.pendEvent.journalEvent
  .ite h.pendEvent.journalEvent h

theorem Inv.traceEntry {n stop data : Nat} (h : s.Inv) : (s.traceEntry n stop data).1.Inv :=
  .ite_fst h (.ite_fst h.upd.bump h.upd.write.setReg)

theorem Inv.raiseOnly {n stop data : Nat} (h : s.Inv) : (s.raiseOnly n stop data).Inv :=
  .ite (.ite h.arrive.traceEntry.arrive h.arrive.traceEntry) h.arrive

theorem Inv.mapTm {f : TamperState → TamperState} (h : s.Inv) : (s.mapTm f).Inv := h.upd

theorem Inv.burnFrom {f i : Nat} (h : s.Inv) : (s.burnFrom f i).Inv := by
  induction f generalizing s i with
  | zero => exact h
  | succ f ih =>
    have hb {k} {v : Word} {a b c} : (((s.setRegBit a b c).setReg k v).raiseOnly 311).Inv :=
      h.setRegBit.setReg.raiseOnly
    exact .ite h (.ite (ih h.raiseOnly) (.ite hb.raiseOnly hb))

theorem Inv.burn (h : s.Inv) : s.burn.Inv := .ite h.setRegBit h.mapTm.setRegBit.burnFrom
theorem Inv.latch {m l : Nat} (h : s.Inv) : (s.latch m l).Inv := .setReg (.ite h h.setReg)
theorem Inv.cardsOff (h : s.Inv) : s.cardsOff.Inv := h.setReg.setReg.upd

theorem Inv.respond {m level : Nat} (h : s.Inv) : (s.respond m level).Inv :=
  have h := Inv.ite h.raiseOnly.mapTm h
  .ite
    (have h := h.latch.mapTm.upd.cardsOff
     .ite h h.burn)
    h.setRegField

theorem Inv.trip {m : Nat} (h : s.Inv) : (s.trip m).Inv :=
  .ite h.mapTm.setRegField.raiseOnly h.mapTm.setRegField.respond

theorem Inv.excursion {m : Nat} (h : s.Inv) : (s.excursion m).Inv :=
  have h := Inv.ite h.bump.raiseOnly h.bump
  .ite h.mapTm.setRegField.trip h.mapTm.setRegField

theorem Inv.raise {n stop data : Nat} (h : s.Inv) : (s.raise n stop data).Inv :=
  .ite h.raiseOnly.excursion (.ite h.raiseOnly.excursion h.raiseOnly)

theorem Inv.raiseLocal {v e : Nat} (h : s.Inv) : (s.raiseLocal v e).Inv := h.setRegBit
theorem Inv.updCore {c : Nat} {f : CoreState → CoreState} (h : s.Inv) : (s.updCore c f).Inv := h.setCore
theorem Inv.resetCore {c : Nat} {held : Bool} (h : s.Inv) : (s.resetCore c held).Inv := h.setCore

theorem Inv.capture {src : Nat} {e : ErrEntry} (h : s.Inv) : (s.capture src e).Inv := by
  unfold State.capture
  extract_lets +onlyGivenNames _ _ s₁ s₂ s₃ _ _ _ s₄
  have h₁ : s₁.Inv := .ite h.setRegs h
  have h₄ : s₄.Inv :=
    .ite h₁.setRegs.bump.upd (.ite h₁.setRegs.bump.setRegBit.bump h₁.setRegs.bump.setRegBit.bump.raise)
  exact .ite h₄.raise h₄

theorem Inv.errAt {code : Nat} {who : Sender} {k : Kind} {a : Nat} (h : s.Inv) : (s.errAt code who k a).Inv := h.capture

/-! ### Machine/MouldRead.lean -/

theorem Inv.mapBt {f : BeatState → BeatState} (h : s.Inv) : (s.mapBt f).Inv := h.upd
theorem Inv.mapJn {f : JournalState → JournalState} (h : s.Inv) : (s.mapJn f).Inv := h.upd
theorem Inv.mapMd {f : MouldState → MouldState} (h : s.Inv) : (s.mapMd f).Inv := h.upd
theorem Inv.updJob {i : Nat} {f : Job → Job} (h : s.Inv) : (s.updJob i f).Inv := h.mapBt
theorem Inv.queueRec {p : PendRec} (h : s.Inv) : (s.queueRec p).Inv := .ite h.upd h

/-! ### Machine/Spring.lean -/

theorem Inv.mapSpr {f : SpringState → SpringState} (h : s.Inv) : (s.mapSpr f).Inv := h.upd
theorem Inv.setUnit {v : Nat} {u : DrbgUnit} (h : s.Inv) : (s.setUnit v u).Inv := h.mapSpr
theorem Inv.setCell {c : Nat} {x : NoiseCell} (h : s.Inv) : (s.setCell c x).Inv := h.mapSpr
theorem Inv.parkAt {v e : Nat} (h : s.Inv) : (s.parkAt v e).Inv := .ite h h.upd
theorem Inv.parkNext {v : Nat} (h : s.Inv) : (s.parkNext v).Inv := h.parkAt
theorem Inv.parkFault {v : Nat} (h : s.Inv) : (s.parkFault v).Inv := h.setMaskBit.parkNext
theorem Inv.parkMiss {v e : Nat} (h : s.Inv) : (s.parkMiss v e).Inv := h.setMaskBit.parkAt
theorem Inv.lowSeeds (h : s.Inv) : s.lowSeeds.Inv := .ite h.mapSpr.raise h

theorem Inv.takeSeed (h : s.Inv) : OptInv Prod.snd s.takeSeed := by
  unfold State.takeSeed
  split
  · exact .none
  · exact .some h.mapSpr.lowSeeds

theorem Inv.devReseed {add : Bytes} (h : s.Inv) : (s.devReseed add).Inv := by
  unfold State.devReseed
  split
  · next ht => exact Inv.mapSpr (h.takeSeed _ ht)
  · exact h

theorem Inv.devInstantiate (h : s.Inv) : s.devInstantiate.Inv := by
  unfold State.devInstantiate
  refine .ite ?_ h
  split
  · exact h.mapSpr.lowSeeds
  · exact h

theorem Inv.drawDev {n : Nat} (h : s.Inv) : (s.drawDev n).2.Inv := by
  induction n generalizing s with
  | zero => exact h
  | succ n ih =>
    refine ih (.mapSpr ?_)
    split
    · exact h.mapSpr
    · exact h

theorem Inv.replaySeed {v inst cause : Nat} {seeds : Bytes} (h : s.Inv) : (s.replaySeed v inst cause seeds).Inv := by
  unfold State.replaySeed
  split
  · exact .ite h.queueRec h
  · exact h

theorem Inv.instVat {v n cause : Nat} (h : s.Inv) : (s.instVat v n cause).Inv :=
  .ite h h.drawDev.replaySeed.setUnit.setMaskBit.setReg.setReg

theorem Inv.instLane {v d cause : Nat} (h : s.Inv) : (s.instLane v d cause).Inv :=
  .ite h h.drawDev.replaySeed.setUnit.setMaskBit.setReg.setReg

theorem Inv.drawVatAux {v k n : Nat} (h : s.Inv) : (State.drawVatAux v k s n).2.Inv := by
  induction k generalizing s n with
  | zero => exact h
  | succ k ih => exact .ite_snd h (ih h.setUnit)

theorem Inv.drawVat {v n : Nat} (h : s.Inv) : OptInv Prod.snd (s.drawVat v n) := .ite .none (.some h.drawVatAux.bumpBy)

theorem Inv.drawLane {v n : Nat} {pr : Bool} {add : Bytes} {p : Bytes × State} (h : s.Inv)
    (e : s.drawLane v n pr add = .ok p) : p.2.Inv := by
  unfold State.drawLane at e
  dsimp only at e
  split at e
  · cases e
  · split at e
    · cases e
    · split at e
      · split at e
        · cases e
          exact h.instLane.setUnit.bump
        · cases e
      · split at e
        · split at e
          · cases e
          · cases e
            exact h.setUnit.setReg.bump
        · cases e
          exact h.setUnit.bump

theorem Inv.seedIn {x : Bytes} (h : s.Inv) : (s.seedIn x).Inv :=
  .ite h <|
    have h := Inv.ite h.mapSpr.devInstantiate.devReseed.mapSpr h.mapSpr.devInstantiate
    .ite h.devReseed.mapSpr h

theorem Inv.topUp {v k : Nat} (h : s.Inv) : (s.topUp v k).Inv := by
  induction k generalizing s with
  | zero => exact h
  | succ k ih =>
    refine .ite h ?_
    split
    · exact h
    · next ht => exact ih (Inv.setUnit (h.takeSeed _ ht))

theorem Inv.allotSeeds (h : s.Inv) : s.allotSeeds.Inv := .ite h (h.foldl fun _ _ h => .ite h.topUp.mapSpr h.topUp)
theorem Inv.serviceCheck (h : s.Inv) : s.serviceCheck.Inv := .ite h (.ite h.setRegBit.raise (.ite h.setRegBit.raise h))

theorem Inv.cellFail {c : Nat} {apt : Bool} (h : s.Inv) : (s.cellFail c apt).Inv :=
  have h := h.bump.raise
  .ite h (.serviceCheck (.ite h.setCell.raise h.setCell))

theorem Inv.startCells (h : s.Inv) : s.startCells.Inv := h.mapSpr
theorem Inv.startDone (h : s.Inv) : s.startDone.Inv := .ite h.setRegBit.raise.serviceCheck.devInstantiate h
theorem Inv.springEnable (h : s.Inv) : s.springEnable.Inv := h.setRegBit.startCells.setRegBit
theorem Inv.rawEnter (h : s.Inv) : s.rawEnter.Inv := h.setRegBit.mapSpr.raise
theorem Inv.rawExit (h : s.Inv) : s.rawExit.Inv := h.setRegBit.mapSpr.startCells.raise
theorem Inv.testEnter (h : s.Inv) : s.testEnter.Inv := h.setRegBit.mapSpr.raise
theorem Inv.springLeaveBlank (h : s.Inv) : s.springLeaveBlank.Inv := h.setRegBit.mapSpr.setRegBit.startCells
theorem Inv.springClear (h : s.Inv) : s.springClear.Inv := h.mapSpr

theorem Inv.springCtrl {who : Sender} {w : Word} (h : s.Inv) : (s.springCtrl who w).Inv :=
  have h := Inv.ite h.springEnable h
  have h := Inv.ite (.ite h.rawEnter h.errAt) (.ite h.rawExit h)
  .ite (.ite h.testEnter h.errAt) (.ite h.setRegBit h)

theorem Inv.springCmd {who : Sender} {w : Word} (h : s.Inv) : (s.springCmd who w).Inv := by
  unfold State.springCmd
  refine .ite h.errAt ?_
  extract_lets +onlyGivenNames s
  have h : s.Inv := .ite (.ite h.mapSpr h.devReseed) h
  refine .ite ?_ h
  extract_lets +onlyGivenNames _
  split
  · exact h.mapSpr
  · exact h.errAt

theorem Inv.reinstLanes (h : s.Inv) : s.reinstLanes.Inv := by
  unfold State.reinstLanes
  refine .ite h ?_
  extract_lets +onlyGivenNames _
  refine .mapSpr ?_
  refine .foldl h.devReseed fun _ _ h => ?_
  split
  · exact h.instLane
  · exact h

theorem Inv.springOut (h : s.Inv) : OptInv Prod.snd s.springOut := .ite .none (.some h.drawDev)

theorem Inv.springRawRead (h : s.Inv) : (s.springRawRead).2.Inv := by
  unfold State.springRawRead
  split
  · exact h.mapSpr
  · exact h

theorem Inv.vdrOut {v : Nat} (h : s.Inv) : OptInv Prod.snd (s.vdrOut v) := by
  unfold State.vdrOut
  split
  · next he => exact .some (h.drawVat _ he)
  · exact .none

theorem Inv.periodicOne {v : Nat} {lane : Bool} (h : s.Inv) : (s.periodicOne v lane).Inv := by
  unfold State.periodicOne
  extract_lets +onlyGivenNames _ _
  refine .ite (.ite (.ite h.instLane h) (.ite h.instVat h)) ?_
  split
  · extract_lets +onlyGivenNames _
    refine .ite ?_ ?_
    · split
      · exact h.setUnit.setReg
      · exact h
    · split
      · exact h.setUnit.setReg
      · exact h
  · exact
      have h := h.setUnit.raise
      .ite h (.ite (.ite h h.setMaskBit.raise.raiseLocal) (.ite h h.setMaskBit.raise.raiseLocal.parkFault))

theorem Inv.execPeriodicReseed {v : Vat} (h : s.Inv) : Keeps (execPeriodicReseed v s) :=
  have h := Inv.ite h.periodicOne h
  .next <| .ite h.periodicOne h

theorem Inv.execDeviceDrbgReseedTimeout (h : s.Inv) : Keeps (execDeviceDrbgReseedTimeout s) := by
  unfold Machine.execDeviceDrbgReseedTimeout
  refine .next ?_
  split
  · exact h.upd.mapSpr.setRegBit.raise
  · exact h

/-! ### Machine/KeyStore.lean -/

theorem Inv.mapKs {f : KeysState → KeysState} (h : s.Inv) : (s.mapKs f).Inv := h.upd
theorem Inv.install {r : KeyRec} (h : s.Inv) : (s.install r).Inv := h.mapKs
theorem Inv.replaceRec {r : KeyRec} (h : s.Inv) : (s.replaceRec r).Inv := h.mapKs
theorem Inv.pruneKeys (h : s.Inv) : s.pruneKeys.Inv := h.mapKs
theorem Inv.writeCounter {c : CounterWrite} (h : s.Inv) : (s.writeCounter c).Inv := h.mapKs
theorem Inv.pruneCounters (h : s.Inv) : s.pruneCounters.Inv := h.mapKs
theorem Inv.deepWrite {id : Nat} {data : Bytes} (h : s.Inv) : (s.deepWrite id data).Inv := h.upd.queueRec
theorem Inv.deepErase {id : Nat} (h : s.Inv) : (s.deepErase id).Inv := h.upd

theorem Inv.deepRepair {id : Nat} (h : s.Inv) : (s.deepRepair id).1.Inv := by
  unfold State.deepRepair
  split
  · exact h
  · exact h.upd

/-! ### Machine/Resv.lean -/

theorem Inv.setNode {k i : Nat} {b : Bytes} (h : s.Inv) : (s.setNode k i b).Inv := h.upd

theorem Inv.treeUp {k i f : Nat} (h : s.Inv) : (s.treeUp k i f).Inv := by
  induction f generalizing s k i with
  | zero => exact h
  | succ f ih => exact ih h.setNode

theorem Inv.mapLk {f : LinkState → LinkState} (h : s.Inv) : (s.mapLk f).Inv := h.upd
theorem Inv.ioError (h : s.Inv) : s.ioError.Inv := h.bump.raise

theorem Inv.nvmeIssue {q : Nat} {kind : NvmeKind} {lba rbn : Nat} {data : Bytes} (h : s.Inv) :
    (s.nvmeIssue q kind lba rbn data).Inv := by
  unfold State.nvmeIssue
  refine .ite ?_ h.ioError
  extract_lets +onlyGivenNames _
  split <;> exact h.mapLk.emit

theorem Inv.writeTreeBlock {t : Nat} (h : s.Inv) : (s.writeTreeBlock t).Inv := by
  unfold State.writeTreeBlock
  split
  · exact h
  · exact h.nvmeIssue.bump64

theorem Inv.resvWrite {n : Ns} {j : Nat} {data : Bytes} (h : s.Inv) : (s.resvWrite n j data).Inv :=
  h.nvmeIssue.bump64.upd.setNode.treeUp.foldl fun _ _ h => h.writeTreeBlock

theorem Inv.resvIssueRead {rbn : Nat} (h : s.Inv) : (s.resvIssueRead rbn).Inv := by
  unfold State.resvIssueRead
  split
  · exact h.nvmeIssue.bump64
  · exact h

theorem Inv.integFail (h : s.Inv) : s.integFail.Inv := h.bump.setRegBit.raise
theorem Inv.commitTree (h : s.Inv) : s.commitTree.Inv := .ite h.deepWrite.setReg h
theorem Inv.saveCounters {d j n : Nat} (h : s.Inv) : (s.saveCounters d j n).Inv := h.upd

theorem Inv.sweepOne {d : Nat} (h : s.Inv) : (s.sweepOne d).Inv := by
  unfold State.sweepOne
  split
  · extract_lets +onlyGivenNames _ _
    split
    · exact h.upd.resvWrite
    · exact h.upd
  · split
    · exact h.resvWrite.saveCounters.upd
    · exact h

theorem Inv.flushPorts (h : s.Inv) : s.flushPorts.Inv := .ite (h.upd.foldl fun _ _ h => .ite h.nvmeIssue h) h

theorem Inv.sweep (h : s.Inv) : s.sweep.Inv :=
  .ite (h.flushPorts.foldl fun _ _ h => .ite (h.foldl fun _ _ h => h.sweepOne) h) h

/-! ### Machine/Journal.lean -/

theorem Inv.setChain {k : Nat} {c : Chain} (h : s.Inv) : (s.setChain k c).Inv := h.mapJn
theorem Inv.refreshChain {k : Nat} (h : s.Inv) : (s.refreshChain k).Inv := h.setRegs
theorem Inv.fillPeak (h : s.Inv) : s.fillPeak.Inv := h.setReg
theorem Inv.ringFull (h : s.Inv) : s.ringFull.Inv := h.setRegBit

theorem Inv.drainOne {k : Nat} (h : s.Inv) : (s.drainOne k).Inv := by
  unfold State.drainOne
  extract_lets +onlyGivenNames _
  split
  · exact h
  · extract_lets +onlyGivenNames _
    refine .ite ?_ (.ite h h.setChain.ringFull.raise)
    split
    · exact .ite (.ite h h.setChain.ringFull.raise) h.setChain.resvWrite.ringFull
    · exact h

theorem Inv.drainChain {k : Nat} (h : s.Inv) : (s.drainChain k).Inv := h.foldl fun _ _ h => h.drainOne

theorem Inv.closeBlock {k : Nat} (h : s.Inv) : (s.closeBlock k).Inv :=
  .ite h (.refreshChain (.drainChain (.ite h.setChain.setReg64.raise h.setChain.setReg64)))

theorem Inv.commitRec {p : PendRec} (h : s.Inv) : (s.commitRec p).Inv := by
  unfold State.commitRec
  extract_lets +onlyGivenNames _ _ _ _ _ _ _ _ s
  have h : s.Inv := .setReg64 (.setChain (.ite h.closeBlock h))
  split
  · exact h.updJob
  · exact h

theorem Inv.commitQueue (h : s.Inv) : s.commitQueue.Inv := .ite (h.mapJn.foldl fun _ _ h => h.commitRec) h

theorem Inv.rejectAt {src : Source} {d cls reason tag e : Nat} (h : s.Inv) : (s.rejectAt src d cls reason tag e).Inv :=
  h.mapJn

theorem Inv.queueRejects (h : s.Inv) : s.queueRejects.Inv := h.mapJn.foldl fun _ _ h => h.queueRec

theorem Inv.queueHeld (h : s.Inv) : s.queueHeld.Inv :=
  .foldl (h.upd.foldl fun _ _ h => h.setRegBit) fun _ _ h => h.queueRec

theorem Inv.takeEvents {n : Nat} (h : s.Inv) : (s.takeEvents n).Inv :=
  .setRegField (h.upd.foldl fun _ _ h => h.queueRec)

theorem Inv.drainEvents (h : s.Inv) : s.drainEvents.Inv := .ite (.ite h.takeEvents.queueHeld h.takeEvents) h
theorem Inv.closeHeads (h : s.Inv) : s.closeHeads.Inv := h.foldl fun _ _ h => .ite h.setChain h

theorem Inv.signRoot (h : s.Inv) : s.signRoot.Inv :=
  have h := h.mapJn.setReg64.setRegBit
  .ite h.bump.raise h

theorem Inv.drainRoot (h : s.Inv) : s.drainRoot.Inv := by
  unfold State.drainRoot
  split
  · exact .mapJn (h.foldl fun _ _ h => h.resvWrite)
  · exact h

theorem Inv.halfCheck (h : s.Inv) : s.halfCheck.Inv := .ite h.mapJn.raise h.mapJn

theorem Inv.journalBeat (h : s.Inv) : s.journalBeat.Inv :=
  have h := h.drainEvents.queueRejects.commitQueue
  .fillPeak (.halfCheck (.drainRoot (.foldl (.ite h.closeHeads.signRoot h) fun _ _ h => h.drainChain)))

theorem Inv.startEpoch {k : Nat} (h : s.Inv) : (s.startEpoch k).Inv := h.setChain.tookFree.queueRec.raise

theorem Inv.execJournalBlockRelease {k : Fin 17} (h : s.Inv) : Keeps (execJournalBlockRelease k s) := by
  unfold Machine.execJournalBlockRelease
  extract_lets +onlyGivenNames _
  refine .next ?_
  split
  · exact .ite h.setChain.drainChain.refreshChain h
  · exact h

theorem Inv.writeStateBlock {orderly : Bool} (h : s.Inv) : (s.writeStateBlock orderly).Inv := h.deepWrite

/-! ### Machine/KeyUse.lean -/

theorem Inv.loadWindow {v : Nat} {r : KeyRec} (h : s.Inv) : (s.loadWindow v r).Inv := .ite h h.mapKs
theorem Inv.invalidate {v hd g : Nat} (h : s.Inv) : (s.invalidate v hd g).Inv := h.raiseLocal.mapKs
theorem Inv.sendInvals {d hd g : Nat} (h : s.Inv) : (s.sendInvals d hd g).Inv := h.mapKs
theorem Inv.windowEdge (h : s.Inv) : s.windowEdge.Inv := .mapKs (h.foldl fun _ _ h => h.invalidate)
theorem Inv.wipeWindow {v : Nat} (h : s.Inv) : (s.wipeWindow v).Inv := h.mapKs

theorem Inv.writeSlotBlock {d hd : Nat} (h : s.Inv) : (s.writeSlotBlock d hd).Inv := by
  unfold State.writeSlotBlock
  split
  · exact h.resvWrite
  · exact h

theorem Inv.writeBack {r : KeyRec} (h : s.Inv) : (s.writeBack r).Inv := .writeSlotBlock (.ite h.mapKs h.mapKs)

theorem Inv.recoverKey {d hd : Nat} (h : s.Inv) : (s.recoverKey d hd).Inv := by
  unfold State.recoverKey
  extract_lets +onlyGivenNames _ _ _ _
  split
  · exact h.mapKs.install.bump.raise
  · refine .ite h.mapKs.install.bump.raise ?_
    extract_lets +onlyGivenNames _ _ _ s
    have h : s.Inv := .ite h.mapKs.install.mapKs.writeSlotBlock.bump.raise h.mapKs.install
    exact .ite h.mapKs.writeSlotBlock.bump.raise h

theorem Inv.tagFail {d hd : Nat} (h : s.Inv) : (s.tagFail d hd).Inv := h.recoverKey.raise.sendInvals

theorem Inv.ksnAccept {x : Work} {r : KeyRec} {ksn : Bytes} (h : s.Inv) : (s.ksnAccept x r ksn).Inv :=
  .ite h.writeCounter.updJob h

theorem Inv.useKeys {x : Work} {a b : Option KeyRec} (h : s.Inv) : (s.useKeys x a b).Inv :=
  h.updJob.foldl fun _ _ h =>
    have h := Inv.ite h.bump h
    .ite h.tagFail h.loadWindow

theorem Inv.finish {x : Work} {vd : Nat × Nat} {result output : Bytes} (h : s.Inv) :
    (s.finish x vd result output).Inv := h.updJob

theorem Inv.symDone {x : Work} {vd : Nat × Nat} (h : s.Inv) : (s.symDone x vd).Inv :=
  have h := h.raiseLocal.bump64
  .ite h.bump h

theorem Inv.jobDraw {v n : Nat} (h : s.Inv) : (s.jobDraw v n).2.2.Inv := by
  unfold State.jobDraw
  refine .ite_sndsnd h ?_
  split
  · next he => exact h.drawVat _ he
  · exact h

/-! ### Machine/Couch.lean -/

theorem Inv.flipPhase {f q : Nat} (h : s.Inv) : (s.flipPhase f q).Inv := h.mapBt
theorem Inv.startPhase {f q : Nat} (h : s.Inv) : (s.startPhase f q).Inv := h.mapBt
theorem Inv.ringWrote {f q n tail head : Nat} (h : s.Inv) : (s.ringWrote f q n tail head).Inv := .ite h.mapBt h
theorem Inv.ringFreed {f q : Nat} (h : s.Inv) : (s.ringFreed f q).Inv := h.mapBt
theorem Inv.hostLost {f : Nat} (h : s.Inv) : (s.hostLost f).Inv := h.bump
theorem Inv.sendVector {f v : Nat} (h : s.Inv) : (s.sendVector f v).Inv := .ite h h.emit

theorem Inv.releaseHost {j : Job} {r : Rel} {f q : Nat} (h : s.Inv) : (s.releaseHost j r f q).Inv :=
  .ite h <| .ite (.ite h.hostLost h.hostLost.hostLost) <|
    have h := Inv.ite h h.emit
    .ite h.emit.ringWrote.setReg.flipPhase h.emit.ringWrote.setReg

theorem Inv.releaseNet {j : Job} {r : Rel} {fr : FrameRef} (h : s.Inv) : (s.releaseNet j r fr).Inv := h.mapBt

theorem Inv.diagnose {j : Job} {r : Rel} (h : s.Inv) : (s.diagnose j r).Inv :=
  .ite h <| .ite h.hostLost <| .ite h.bump.raise <|
    have h := h.emit.ringWrote.setReg
    .ite h.flipPhase h

theorem Inv.countRelease {d cls : Nat} (h : s.Inv) : (s.countRelease d cls).Inv :=
  .ite h <|
    have h := h.bump64.setReg
    .ite h.bump (.ite h.bump (.ite h.bump (.ite h.bump (.ite h.bump.raise h))))

theorem Inv.dropJob {i : Nat} (h : s.Inv) : (s.dropJob i).Inv := h.mapBt.mapKs.pruneKeys.pruneCounters

theorem Inv.interrupts {j : Job} {diagWas : Nat} (h : s.Inv) : (s.interrupts j diagWas).Inv := by
  unfold State.interrupts
  extract_lets +onlyGivenNames s
  have h : s.Inv := by
    unfold s
    split
    · exact .ite h.sendVector h
    · exact h
  exact .ite h.sendVector h

theorem Inv.release {j : Job} {r : Rel} (h : s.Inv) : (s.release j r).Inv := by
  unfold State.release
  refine .ite h ?_
  extract_lets +onlyGivenNames _ s
  have h : s.Inv := by
    unfold s
    split
    · exact h.releaseHost
    · exact h.releaseNet
    · exact h
  exact h.diagnose.countRelease.interrupts.dropJob

theorem Inv.outcome {i cls reason : Nat} {result output : Bytes} (h : s.Inv) :
    (s.outcome i cls reason result output).Inv := h.updJob

theorem Inv.execCouchRelease {job : Nat} (h : s.Inv) : Keeps (execCouchRelease job s) := by
  unfold Machine.execCouchRelease
  refine .next ?_
  split
  · exact .ite h.release h
  · exact h

theorem Inv.execOutputCopyFail {job : Nat} (h : s.Inv) : Keeps (execOutputCopyFail job s) := by
  unfold Machine.execOutputCopyFail
  refine .next ?_
  split
  · split
    · exact .ite h.bump.errAt.raise.release h
    · exact h
  · exact h

/-! ### Machine/Pay.lean -/

theorem Inv.execPinTranslate {job : Nat} (h : s.Inv) : Keeps (execPinTranslate job s) := by
  unfold Machine.execPinTranslate
  refine .next ?_
  split
  · exact h
  · exact
      have h := h.jobDraw.useKeys
      .symDone (.finish (.ite h.ksnAccept h))

theorem Inv.execPinVerify {job : Nat} (h : s.Inv) : Keeps (execPinVerify job s) := by
  unfold Machine.execPinVerify
  refine .next ?_
  split
  · exact h
  · exact h.useKeys.finish.symDone

theorem Inv.execMacGenerate {job : Nat} (h : s.Inv) : Keeps (execMacGenerate job s) := by
  unfold Machine.execMacGenerate
  refine .next ?_
  split
  · exact h
  · exact h.useKeys.finish.symDone

theorem Inv.execMacVerify {job : Nat} (h : s.Inv) : Keeps (execMacVerify job s) := by
  unfold Machine.execMacVerify
  refine .next ?_
  split
  · exact h
  · exact .symDone (.finish (.ite h.useKeys.ksnAccept h.useKeys))

theorem Inv.execCryptogramVerify {job : Nat} (h : s.Inv) : Keeps (execCryptogramVerify job s) := by
  unfold Machine.execCryptogramVerify
  refine .next ?_
  split
  · exact h
  · exact h.useKeys.finish.symDone

theorem Inv.execDukptDerive {job : Nat} (h : s.Inv) : Keeps (execDukptDerive job s) := by
  unfold Machine.execDukptDerive
  refine .next ?_
  split
  · exact h
  · exact
      have h := h.jobDraw.useKeys
      .symDone (.finish (.ite h.ksnAccept h))

theorem Inv.putEntry {v : Nat} {e : VaultEntry} (h : s.Inv) : (s.putEntry v e).Inv := h.mapKs.mapJn.queueRec

theorem Inv.execTokenize {job : Nat} (h : s.Inv) : Keeps (execTokenize job s) := by
  unfold Machine.execTokenize
  refine .next ?_
  split
  · exact h
  · exact .symDone (.finish (.ite h.useKeys.putEntry h.useKeys))

theorem Inv.execDetokenize {job : Nat} (h : s.Inv) : Keeps (execDetokenize job s) := by
  unfold Machine.execDetokenize
  refine .next ?_
  split
  · exact h
  · exact h.useKeys.finish.symDone

theorem Inv.execDataTranslate {job : Nat} (h : s.Inv) : Keeps (execDataTranslate job s) := by
  unfold Machine.execDataTranslate
  refine .next ?_
  split
  · exact h
  · exact
      have h := h.jobDraw.useKeys
      .symDone (.finish (.ite h.ksnAccept h))

theorem Inv.sealAccept {x : Work} {ra : KeyRec} (h : s.Inv) : (s.sealAccept x ra).Inv := h.writeCounter.updJob

theorem Inv.execSeal {job : Nat} (h : s.Inv) : Keeps (execSeal job s) := by
  unfold Machine.execSeal
  refine .next ?_
  split
  · exact h
  · exact
      have h := h.jobDraw.useKeys
      .symDone (.finish (.ite h.sealAccept h))

theorem Inv.execOpenV {job : Nat} (h : s.Inv) : Keeps (execOpenV job s) := by
  unfold Machine.execOpenV
  refine .next ?_
  split
  · exact h
  · exact h.useKeys.finish.symDone

theorem Inv.execHash {job : Nat} (h : s.Inv) : Keeps (execHash job s) := by
  unfold Machine.execHash
  refine .next ?_
  split
  · exact h
  · exact h.finish.symDone

theorem Inv.execRandom {job : Nat} (h : s.Inv) : Keeps (execRandom job s) := by
  unfold Machine.execRandom
  refine .next ?_
  split
  · exact h
  · dsimp only
    split
    · next he => exact (h.drawLane he).finish.symDone
    · exact h.finish.symDone

theorem Inv.execNoop {job : Nat} (h : s.Inv) : Keeps (execNoop job s) := by
  unfold Machine.execNoop
  refine .next ?_
  split
  · exact h
  · exact h.finish

/-! ### Machine/KeyVerbs.lean -/

theorem Inv.drawSalt (h : s.Inv) : (s.drawSalt).2.Inv := h.drawDev

theorem Inv.hold {x : Work} {r : KeyRec} {sync : Bool} (h : s.Inv) : (s.hold x r sync).Inv :=
  .ite h.mapKs.queueRec.mapKs h.mapKs

theorem Inv.finishKey {x : Work} {vd : Nat × Nat} {r : KeyRec} {sync : Bool} {output : Bytes} (h : s.Inv) :
    (s.finishKey x vd r sync output).Inv := .finish (.ite h.hold h)

theorem Inv.drawKey {v kt n k : Nat} (h : s.Inv) : (s.drawKey v kt n k).2.2.Inv := by
  induction k generalizing s with
  | zero => exact h
  | succ k ih => exact .ite_sndsnd (ih h.jobDraw) h.jobDraw

theorem Inv.execKeyImport {job : Nat} (h : s.Inv) : Keeps (execKeyImport job s) := by
  unfold Machine.execKeyImport
  refine .next ?_
  split
  · exact h
  · exact .ite h.drawSalt.finishKey h.drawSalt.useKeys.finishKey

theorem Inv.execKeyExport {job : Nat} (h : s.Inv) : Keeps (execKeyExport job s) := by
  unfold Machine.execKeyExport
  refine .next ?_
  split
  · exact h
  · exact .ite h.useKeys.finish h.jobDraw.useKeys.finish

theorem Inv.execKeyGenerate {job : Nat} (h : s.Inv) : Keeps (execKeyGenerate job s) := by
  unfold Machine.execKeyGenerate
  refine .next ?_
  split
  · exact h
  · extract_lets +onlyGivenNames _ _ _ _ _ _ g q salt
    have hg : g.2.2.Inv := h.drawKey
    have hq : q.2.2.Inv := .ite_sndsnd hg.jobDraw hg
    have hs : salt.2.Inv := hq.drawSalt
    exact .finishKey (.ite hs.useKeys hs)

theorem Inv.execKeyUpdate {job : Nat} (h : s.Inv) : Keeps (execKeyUpdate job s) := by
  unfold Machine.execKeyUpdate
  refine .next ?_
  split
  · exact h
  · extract_lets +onlyGivenNames _ _ _ _ _ _ salt
    have hs : salt.2.Inv := h.drawSalt
    refine .ite hs.useKeys.finishKey (.ite ?_ hs.useKeys.finishKey)
    exact .finishKey (.useKeys (.ite_sndsnd hs.drawKey.jobDraw hs.drawKey))

theorem Inv.execKeyRetire {job : Nat} (h : s.Inv) : Keeps (execKeyRetire job s) := by
  unfold Machine.execKeyRetire
  refine .next ?_
  split
  · exact h
  · exact h.drawSalt.useKeys.finishKey

theorem Inv.setStage {job : Nat} {g : ChangeStage} (h : s.Inv) : (s.setStage job g).Inv := h.mapKs
theorem Inv.abandonIndex {d hd : Nat} (h : s.Inv) : (s.abandonIndex d hd).Inv := h.mapKs
theorem Inv.mailApply {r : KeyRec} (h : s.Inv) : (s.mailApply r).Inv := .ite h.mapKs h

theorem Inv.putVersion {r : KeyRec} (h : s.Inv) : (s.putVersion r).Inv :=
  .sendInvals (.ite h.install.writeCounter h.install)

theorem Inv.keyCommit {r : KeyRec} {rank vat : Nat} {job : Option Nat} (h : s.Inv) : (s.keyCommit r rank vat job).Inv :=
  h.queueRec

theorem Inv.commitChange {c : KeyChange} (h : s.Inv) : (s.commitChange c).Inv := by
  unfold State.commitChange
  split
  · exact h
  · exact .ite (.ite h.putVersion h) (.ite h (.ite h.setStage.abandonIndex h.keyCommit.setStage.putVersion.mailApply))

theorem Inv.execKeyChangeCommit {job : Nat} (h : s.Inv) : Keeps (execKeyChangeCommit job s) := by
  unfold Machine.execKeyChangeCommit
  refine .next ?_
  split
  · exact .ite h.commitChange h
  · exact h

theorem Inv.post {m : Mail} (h : s.Inv) : (s.post m).Inv := h.mapKs

theorem Inv.reply {what dest d hd g : Nat} {decision : Bool} (h : s.Inv) : (s.reply what dest d hd g decision).Inv :=
  h.post

theorem Inv.rollBack {c : KeyChange} (h : s.Inv) : (s.rollBack c).Inv := h.queueRec.setStage.bump.raise.updJob

theorem Inv.execSyncCommitDecision {job : Nat} (h : s.Inv) : Keeps (execSyncCommitDecision job s) := by
  unfold Machine.execSyncCommitDecision
  refine .next ?_
  split
  · exact
      .ite
        (have h := Inv.ite h.keyCommit.setStage h.rollBack
         .ite h.post h.post.mapKs)
        h
  · exact h

theorem Inv.dropPeer {m : Nat} (h : s.Inv) : (s.dropPeer m).Inv := h.setRegBit.mapKs

theorem Inv.applyMirror {d kind : Nat} {m : KeyMsg} (h : s.Inv) : (s.applyMirror d kind m).Inv :=
  .ite h.drawSalt.queueRec.putVersion (.ite h.raise (.ite h h.replaceRec.bump.raise))

theorem Inv.execSyncDecisionReceived {d : Deckle} {origin : Fin 16} {handle gen : Nat} {commit : Bool} (h : s.Inv) :
    Keeps (execSyncDecisionReceived d origin handle gen commit s) := by
  unfold Machine.execSyncDecisionReceived
  refine .next ?_
  refine .ite h ?_
  extract_lets +onlyGivenNames _
  split
  · exact h.reply
  · exact .reply (.ite h.mapKs.queueRec (.ite h.mapKs.keyCommit.putVersion h.mapKs.raise))

theorem Inv.execMirrorResync {d : Deckle} {member : Fin 16} {recs : List KeyMsg} (h : s.Inv) :
    Keeps (execMirrorResync d member recs s) :=
  .next <| .ite h <| .setRegBit <| .mapKs <|
    .foldl (.foldl (h.foldl fun _ _ h => .ite h.mailApply h.applyMirror) fun _ _ h => h.mailApply) fun _ _ h =>
      h.queueRec

/-! ### Machine/Pke.lean -/

theorem Inv.setPke {v : Nat} {u : PkeUnit} (h : s.Inv) : (s.setPke v u).Inv := h.upd
theorem Inv.pkeEvent {v i : Nat} (h : s.Inv) : (s.pkeEvent v i).Inv := .ite h.setRegBit.raiseLocal h.setRegBit
theorem Inv.pkeBegin {v verb alg edge : Nat} (h : s.Inv) : (s.pkeBegin v verb alg edge).Inv := h.setReg.setRegs

theorem Inv.pkeHold {x : Work} {vd : Nat × Nat} {result output : Bytes} {rounds : Nat} (h : s.Inv) :
    (s.pkeHold x vd result output rounds).Inv := .setPke (.ite h h.pkeBegin)

theorem Inv.pkeDraw {x : Work} {n : Nat} (h : s.Inv) : (s.pkeDraw x n).2.2.Inv := h.jobDraw

theorem Inv.execSign {job : Nat} (h : s.Inv) : Keeps (execSign job s) := by
  unfold Machine.execSign
  refine .next ?_
  split
  · exact h
  · exact h.pkeDraw.useKeys.pkeHold

theorem Inv.execVerify {job : Nat} (h : s.Inv) : Keeps (execVerify job s) := by
  unfold Machine.execVerify
  refine .next ?_
  split
  · exact h
  · exact h.pkeDraw.useKeys.pkeHold

theorem Inv.execKeypair {job : Nat} (h : s.Inv) : Keeps (execKeypair job s) := by
  unfold Machine.execKeypair
  refine .next ?_
  split
  · exact h
  · extract_lets +onlyGivenNames _ _ _ _ _ _ r _ _ _ q _ _ salt _ _ t₁ t₂
    have hr : r.2.2.Inv := h.pkeDraw
    have hq : q.2.2.Inv := .ite_sndsnd hr.jobDraw hr
    have h₁ : t₁.Inv := .ite hq.drawSalt.useKeys hq.drawSalt
    have h₂ : t₂.Inv := .ite h₁.hold h₁
    exact h₂.pkeHold

theorem Inv.execAgree {job : Nat} (h : s.Inv) : Keeps (execAgree job s) := by
  unfold Machine.execAgree
  refine .next ?_
  split
  · exact h
  · exact h.pkeDraw.useKeys.pkeHold

theorem Inv.execEncapsulate {job : Nat} (h : s.Inv) : Keeps (execEncapsulate job s) := by
  unfold Machine.execEncapsulate
  refine .next ?_
  split
  · exact h
  · exact h.pkeDraw.useKeys.pkeHold

theorem Inv.pkeWipeAll {v : Nat} (h : s.Inv) : (s.pkeWipeAll v).Inv := h.wipe.setRegBit
theorem Inv.pkeStop {v : Nat} (h : s.Inv) : (s.pkeStop v).Inv := h.pkeWipeAll.setRegBit.setPke

theorem Inv.execPkeWorkEnd {v : Vat} {readBack check : Bool} (h : s.Inv) : Keeps (execPkeWorkEnd v readBack check s) :=
  .next <| .ite
    (have h := h.wipe.wipe
     .setPke (.ite h h.setRegBit))
    h

theorem Inv.pkeHandOver {v : Nat} {readBack : Bool} (h : s.Inv) : (s.pkeHandOver v readBack).Inv := by
  unfold State.pkeHandOver
  extract_lets +onlyGivenNames _ _ _ _ _ _ _ s₁ s₂ s₃ _ s₄
  have h₁ : s₁.Inv := .setRegBit (.setRegBit (.setRegBit (.wipe (.ite h.write h))))
  have h₂ : s₂.Inv := .ite h₁ h₁.setRegBit
  have h₃ : s₃.Inv := .ite h₂ h₂.setReg
  have h₄ : s₄.Inv := .ite h₃.setPke.bump.pkeEvent h₃.setPke.bump.pkeEvent.parkMiss
  split
  · exact h₄.updJob
  · exact h₄

theorem Inv.pkeOver {v : Nat} {j : Job} {b : Nat} (h : s.Inv) : (s.pkeOver v j b).Inv :=
  h.setRegBit.setReg.updJob.pkeEvent

theorem Inv.execPkeDoneEdge {v : Vat} {readBack : Bool} (h : s.Inv) : Keeps (execPkeDoneEdge v readBack s) := by
  unfold Machine.execPkeDoneEdge
  extract_lets +onlyGivenNames _
  refine .next ?_
  refine .ite ?_ h
  split
  · exact .ite h.pkeOver h.pkeHandOver
  · exact h.pkeHandOver

theorem Inv.pkeCmd {who : Sender} {v : Nat} {w : Word} (h : s.Inv) : (s.pkeCmd who v w).Inv :=
  have h := Inv.ite (.ite h.errAt h.pkeWipeAll) h
  .ite (.ite h.errAt h.pkeBegin) h

/-! ### Machine/Release.lean -/

theorem Inv.lateCounter {x : Work} (h : s.Inv) : (s.lateCounter x).Inv := by
  unfold State.lateCounter
  extract_lets _ _ _ dukpt
  have hd (ksn checks) : (dukpt ksn checks).Inv := .ite h.ksnAccept h
  split
  · exact hd _ _
  · exact hd _ _
  · exact hd _ _
  · exact hd _ _
  · exact .ite h.sealAccept h
  · exact h

theorem Inv.lateKeys {x : Work} (h : s.Inv) : (s.lateKeys x).Inv := .ite h.updJob h

theorem Inv.lateUse {j : Job} (h : s.Inv) : (s.lateUse j).Inv := by
  unfold State.lateUse
  split
  · exact h.lateKeys.lateCounter
  · exact h

theorem Inv.missEdge {j : Job} {vatCause : Bool} (h : s.Inv) : (s.missEdge j vatCause).Inv :=
  have h := h.bump.raise
  have h := Inv.ite h.bump.bump.raise h
  have h := Inv.ite h.parkMiss h
  .release (.ite h.lateUse h.lateUse.queueRec)

theorem Inv.execMissedEdge {job : Nat} {vatCause : Bool} (h : s.Inv) : Keeps (execMissedEdge job vatCause s) := by
  unfold Machine.execMissedEdge
  refine .next ?_
  split
  · exact .ite h.missEdge h
  · exact h

theorem Inv.releaseDue {j : Job} (h : s.Inv) : (s.releaseDue j).Inv :=
  .ite (.ite h.release h) (.ite h.release h.missEdge)

theorem Inv.releaseLate (h : s.Inv) : s.releaseLate.Inv := h.foldl fun _ _ h => h.releaseDue

/-! ### Machine/Admission.lean -/

theorem Inv.answerAt {j : Job} {cls reason e : Nat} (h : s.Inv) : (s.answerAt j cls reason e).Inv := h.updJob.rejectAt

theorem Inv.receive {src : Source} {d : Nat} {b input : Bytes} {fr : Option FrameRef} {a : Area} (h : s.Inv) :
    (s.receive src d b input fr a).Inv := by
  unfold State.receive
  extract_lets +onlyGivenNames _ _ _ _ _
  split
  · exact h.mapBt.answerAt
  · exact
      .ite h.mapBt <| .ite h.mapBt.answerAt <| .ite h.mapBt.answerAt <| .ite h.mapBt.answerAt <|
        have h := h.mapBt.updJob
        .ite h.raise h

theorem Inv.receiveAll {src : Source} {d : Nat} {fr : FrameRef} {area : Bytes} {l : List Bytes} {used : Nat}
    (h : s.Inv) : (s.receiveAll src d fr area l used).Inv := by
  induction l generalizing s used with
  | nil => exact h
  | cons b bs ih => exact ih h.receive

theorem Inv.frameIn {port : Fin 64} {m : NetMeta} {payload : Bytes} (h : s.Inv) : (s.frameIn port m payload).Inv := by
  unfold State.frameIn
  split
  · exact h.bump
  · exact .ite h.bump.raise h.mapBt.bump64.receiveAll

theorem Inv.hostFetch {f q k : Nat} (h : s.Inv) : (s.hostFetch f q k).Inv := by
  induction k generalizing s with
  | zero => exact h
  | succ k ih => exact .ite (ih h.emit.setReg.mapBt) h

theorem Inv.fetchAll {f : Nat} (h : s.Inv) : (s.fetchAll f).Inv := h.foldl fun _ _ h => h.hostFetch

theorem Inv.execDescriptorReceived {src : Source} {d : Deckle} {desc input : Bytes} (h : s.Inv) :
    Keeps (execDescriptorReceived src d desc input s) := by
  unfold Machine.execDescriptorReceived
  refine .next ?_
  split <;> exact h.receive

theorem Inv.waitExpire {j : Job} {e : Nat} (h : s.Inv) : (s.waitExpire j e).Inv := h.answerAt

theorem Inv.execWaitLimitExpiry {job : Nat} (h : s.Inv) : Keeps (execWaitLimitExpiry job s) := by
  unfold Machine.execWaitLimitExpiry
  refine .next ?_
  split
  · exact .ite h.waitExpire h
  · exact h

/-! ### Machine/Events.lean -/

theorem Inv.doorbell {who : Sender} {v : Word} (h : s.Inv) : (s.doorbell who v).Inv := h.raise

theorem Inv.pendClear {k : Nat} {v : Word} (h : s.Inv) : (s.pendClear k v).Inv :=
  .setReg (h.foldl fun _ _ h => .ite h.setReg h)

theorem Inv.tracePut {who : Sender} {v : Word} (h : s.Inv) : (s.tracePut who v).Inv :=
  .ite h.traceEntry.raise h.traceEntry

theorem Inv.vevRing {v : Nat} {w : Word} (h : s.Inv) : (s.vevRing v w).Inv := h.raiseLocal

theorem Inv.errcClear {k : Nat} {v : Word} (h : s.Inv) : (s.errcClear k v).Inv :=
  .ite (h.setReg.foldl fun _ _ h => h.setReg) h

theorem Inv.errcPop {v : Word} (h : s.Inv) : (s.errcPop v).Inv := .ite h.upd h

/-! ### Machine/Watermark.lean -/

theorem Inv.idSign {d : Nat} {m : Bytes} (h : s.Inv) : (s.idSign d m).2.Inv := h.tookFree

theorem Inv.issueCert {facts : Bytes} (h : s.Inv) : (s.issueCert facts).2.Inv := by
  unfold State.issueCert
  dsimp only
  exact h.idSign

theorem Inv.extend {i : Nat} {d : Bytes} (h : s.Inv) : (s.extend i d).Inv := h.setRegBytes.bump

theorem Inv.wmarkExtend {who : Sender} {w : Word} (h : s.Inv) : (s.wmarkExtend who w).Inv :=
  .ite h (.ite h.extend h.errAt)

theorem Inv.deriveAlias (h : s.Inv) : s.deriveAlias.Inv := h.issueCert.upd.setRegBit
theorem Inv.wmarkAdvance {w : Word} (h : s.Inv) : (s.wmarkAdvance w).Inv := .ite h (.ite h.setReg.deriveAlias h.setReg)
theorem Inv.measure {i : Nat} {d : Bytes} (h : s.Inv) : (s.measure i d).Inv := .ite h.extend h

theorem Inv.measurePart {d : Nat} {p : Bytes} (h : s.Inv) : (s.measurePart d p).Inv :=
  h.measure.foldl fun _ _ h => h.measure

/-! ### Machine/Commands.lean -/

theorem Inv.answerCmd {i e cls reason : Nat} {result output : Bytes} (h : s.Inv) :
    (s.answerCmd i e cls reason result output).Inv := h.updJob

theorem Inv.replayShow {cause : Nat} (h : s.Inv) : (s.replayShow cause).Inv := h.setReg

theorem Inv.replayRec {d : Nat} {facts : Bytes} {cause : Nat} (h : s.Inv) : (s.replayRec d facts cause).Inv :=
  h.queueRec

theorem Inv.replayMark {d v op e : Nat} (h : s.Inv) : (s.replayMark d v op e).Inv := h.queueRec.measure

theorem Inv.replayStop {r : ReplayRun} {e cls reason cause : Nat} (h : s.Inv) :
    (s.replayStop r e cls reason cause).Inv := h.mapLf.replayRec.answerCmd.replayShow

theorem Inv.cancelJobs {pick : Job → Bool} {e : Nat} (h : s.Inv) : (s.cancelJobs pick e).1.Inv :=
  .foldl (h.foldl fun _ _ h => h.answerAt.bump) fun _ _ h => h.updJob.bump

theorem Inv.execCancel {job : Nat} (h : s.Inv) : Keeps (execCancel job s) := by
  unfold Machine.execCancel
  refine .next ?_
  split
  · split
    · exact h.cancelJobs.queueRec.answerCmd
    · exact h
  · exact h

theorem Inv.touchVat {v back : Nat} (h : s.Inv) : (s.touchVat v back).Inv :=
  have h := h.pkeStop.wipeWindow
  .ite h.setMaskBit.mapBt h.mapBt

theorem Inv.unplace {v : Nat} (h : s.Inv) : (s.unplace v).Inv := h.mapBt

theorem Inv.abortJobs {job d : Nat} {pick : Job → Bool} {all : List Nat} {drain : Option Nat} (h : s.Inv) :
    (s.abortJobs job d pick all drain).Inv := by
  unfold State.abortJobs
  extract_lets +onlyGivenNames _ _ _ _ _ _ _ _ _ _ s _
  have h : s.Inv :=
    .foldl (.foldl (h.foldl fun _ _ h => h.answerAt) fun _ _ h => h.lateUse.updJob) fun _ _ h => h.touchVat.unplace
  exact .ite h.mapBt (.setReg (.setRegBit (.ite h.mapBt (h.mapBt.foldl fun _ _ h => h.replayStop))))

theorem Inv.execAbort {job : Nat} (h : s.Inv) : Keeps (execAbort job s) := by
  unfold Machine.execAbort
  refine .next ?_
  split
  · exact .ite h h.abortJobs
  · exact h

theorem Inv.abortRelease {a : Abort} (h : s.Inv) : (s.abortRelease a).Inv := by
  unfold State.abortRelease
  refine .foldl h fun _ _ h => ?_
  split
  · exact .ite h.releaseDue h
  · exact h

theorem Inv.execAbortRelease {job : Nat} (h : s.Inv) : Keeps (execAbortRelease job s) := by
  unfold Machine.execAbortRelease
  refine .next ?_
  split
  · exact .ite h.abortRelease h
  · exact h

theorem Inv.abortDone {a : Abort} (h : s.Inv) : (s.abortDone a).Inv := by
  unfold State.abortDone
  extract_lets +onlyGivenNames _
  refine .ite h.mapBt ?_
  extract_lets +onlyGivenNames s _
  have h : s.Inv := h.mapBt.setRegBit.raise
  split
  · exact h.answerCmd.release
  · exact h.answerCmd

theorem Inv.execAbortComplete {job : Nat} (h : s.Inv) : Keeps (execAbortComplete job s) := by
  unfold Machine.execAbortComplete
  refine .next ?_
  split
  · exact .ite h.abortDone h
  · exact h

theorem Inv.execDrain {job : Nat} (h : s.Inv) : Keeps (execDrain job s) := by
  unfold Machine.execDrain
  refine .next ?_
  split
  · exact .ite h (.mapBt (h.foldl fun _ _ h => h.answerAt))
  · exact h

theorem Inv.updDrain {i : Nat} {f : Drain → Drain} (h : s.Inv) : (s.updDrain i f).Inv := h.mapBt
theorem Inv.reopen {d : Nat} {q : Option Nat} (h : s.Inv) : (s.reopen d q).Inv := h.mapBt

theorem Inv.resumeNow {r : Nat × Nat × Option Nat × Nat} (h : s.Inv) : (s.resumeNow r).Inv :=
  .ite h h.reopen.mapBt.fetchAll.answerCmd

theorem Inv.resumesDue (h : s.Inv) : s.resumesDue.Inv := h.foldl fun _ _ h => h.resumeNow

theorem Inv.drainDone {x : Drain} (h : s.Inv) : (s.drainDone x).Inv := by
  unfold State.drainDone
  extract_lets +onlyGivenNames s₁ s₂ _ s₃
  have h₁ : s₁.Inv := by
    unfold s₁
    split
    · exact h.abortDone
    · exact h
  have h₂ : s₂.Inv := h₁.updDrain.raise
  have h₃ : s₃.Inv := by
    unfold s₃
    split
    · exact h₂.answerCmd.release
    · exact h₂.answerCmd
  exact h₃.resumesDue

theorem Inv.execDrainComplete {job : Nat} (h : s.Inv) : Keeps (execDrainComplete job s) := by
  unfold Machine.execDrainComplete
  refine .next ?_
  split
  · exact .ite h.drainDone h
  · exact h

theorem Inv.drainLimit {x : Drain} (h : s.Inv) : (s.drainLimit x).Inv := h.abortJobs.updDrain

theorem Inv.execDrainLimitExpiry {job : Nat} (h : s.Inv) : Keeps (execDrainLimitExpiry job s) := by
  unfold Machine.execDrainLimitExpiry
  refine .next ?_
  split
  · exact .ite h.drainLimit h
  · exact h

theorem Inv.execResume {job : Nat} (h : s.Inv) : Keeps (execResume job s) := by
  unfold Machine.execResume
  refine .next ?_
  split
  · exact .ite h h.mapBt
  · exact h

theorem Inv.takeSettings {j : Job} {pke : Bool} (h : s.Inv) : (s.takeSettings j pke).Inv := h.mapBt.answerCmd

theorem Inv.execSeqSettings {job : Nat} (h : s.Inv) : Keeps (execSeqSettings job s) := by
  unfold Machine.execSeqSettings
  refine .next ?_
  split
  · exact h.takeSettings
  · exact h

theorem Inv.execPkeSettings {job : Nat} (h : s.Inv) : Keeps (execPkeSettings job s) := by
  unfold Machine.execPkeSettings
  refine .next ?_
  split
  · exact h.takeSettings
  · exact h

theorem Inv.journalRead {j : Job} (h : s.Inv) : (s.journalRead j).Inv := h.outcome

theorem Inv.execJournalRead {job : Nat} (h : s.Inv) : Keeps (execJournalRead job s) := by
  unfold Machine.execJournalRead
  refine .next ?_
  split
  · exact .ite h.journalRead h
  · exact h

theorem Inv.archiveMove {j : Job} (h : s.Inv) : (s.archiveMove j).Inv := h.setReg.queueRec

theorem Inv.execVaultSet {job : Nat} (h : s.Inv) : Keeps (execVaultSet job s) := by
  unfold Machine.execVaultSet
  refine .next ?_
  split
  · exact h
  · extract_lets +onlyGivenNames _ _ _ e _ _ _ _ t
    clear_value e
    have h : t.Inv := by
      unfold t
      split
      · exact .ite h.useKeys.putEntry h.useKeys
      · exact h.useKeys
    exact h.finish

/-! ### Machine/Beat.lean -/

theorem Inv.place {j : Job} {v e : Nat} (h : s.Inv) : (s.place j v e).Inv := h.updJob

theorem Inv.placePk {order : List Nat} {e : Nat} {l : List Job} (h : s.Inv) : (s.placePk order e l).Inv := by
  induction l generalizing s with
  | nil => exact h
  | cons j js ih =>
    unfold State.placePk
    split
    · exact ih h.place
    · exact h

theorem Inv.placeSym {order : List Nat} {e : Nat} {l : List Job} {last : Option Nat} {stuck : List (Source × Nat)}
    {put : List (Nat × Nat)} (h : s.Inv) : (s.placeSym order e l last stuck put).Inv := by
  induction l generalizing s last stuck put with
  | nil => exact h
  | cons j js ih =>
    unfold State.placeSym
    refine .ite (ih h) ?_
    extract_lets +onlyGivenNames near try_
    clear_value near try_
    split
    · exact ih h.place
    · exact ih h

theorem Inv.placeReads {d e : Nat} (h : s.Inv) : (s.placeReads d e).Inv := h.foldl fun _ _ h => h.updJob

theorem Inv.placeDeckle {e d : Nat} (h : s.Inv) : (s.placeDeckle e d).Inv :=
  .ite h.placeReads h.placeReads.placePk.placeSym

theorem Inv.recheck {e : Nat} (h : s.Inv) : (s.recheck e).Inv := by
  unfold State.recheck
  refine .foldl h fun _ _ h => ?_
  split
  · exact h.answerAt
  · exact h

theorem Inv.closeReam (h : s.Inv) : s.closeReam.Inv :=
  have h := h.upd.mapBt.allotSeeds
  .ite (h.foldl fun _ _ h => h.answerAt) (.ite (.fillPeak (h.recheck.foldl fun _ _ h => h.placeDeckle)) h.recheck)

theorem Inv.settle (h : s.Inv) : s.settle.Inv :=
  .foldl (.foldl (h.releaseLate.foldl fun _ _ h => h.abortDone) fun _ _ h => h.drainLimit) fun _ _ h => h.drainDone

theorem Inv.journalReads (h : s.Inv) : s.journalReads.Inv :=
  .foldl (h.foldl fun _ _ h => h.journalRead) fun _ _ h => h.archiveMove

theorem Inv.queueJobs (h : s.Inv) : s.queueJobs.Inv :=
  .foldl (.foldl (h.foldl fun _ _ h => h.queueRec) fun _ _ h => h.queueRec) fun _ _ h => h.queueRec

theorem Inv.commitBeat (h : s.Inv) : s.commitBeat.Inv :=
  .ite (h.journalBeat.foldl fun _ _ h => h.writeBack) h.journalBeat

theorem Inv.mailCounters (h : s.Inv) : s.mailCounters.Inv := .ite (h.foldl fun _ _ h => .ite h.post h) h

theorem Inv.endBeat (h : s.Inv) : s.endBeat.Inv := by
  unfold State.endBeat
  extract_lets +onlyGivenNames _ _ _ _ _ _ s _
  have h : s.Inv :=
    .commitTree <| .sweep <| .commitBeat <| .queueJobs <|
      .foldl (.journalReads (.foldl (h.settle.foldl fun _ _ h => h.commitChange) fun _ _ h => h.abandonIndex)) fun _ _ h =>
        h.waitExpire
  exact .mailCounters (.ite h.writeStateBlock h)

theorem Inv.loadVatSet {v : Nat} {t : DSet} (h : s.Inv) : (s.loadVatSet v t).Inv :=
  .foldl (h.setReg.setReg.setReg.setReg.foldl fun _ _ h => h.setReg.setReg) fun _ _ h => h.setReg

theorem Inv.settingsEdge (h : s.Inv) : s.settingsEdge.Inv :=
  h.mapBt.foldl fun _ _ h => h.mapMd.foldl fun _ _ h => h.loadVatSet

theorem Inv.parkVat {v : Nat} (h : s.Inv) : (s.parkVat v).Inv :=
  have h := h.setMaskBit.mapBt
  .ite h.setRegField.raise h.setRegField

theorem Inv.joinVat {v : Nat} (h : s.Inv) : (s.joinVat v).Inv := h.setMaskBit.setRegField.raise

theorem Inv.vatsEdge (h : s.Inv) : s.vatsEdge.Inv :=
  .foldl (.mapBt (.foldl (.mapBt (h.foldl fun _ _ h => h.parkVat)) fun _ _ h => h.setMaskBit)) fun _ _ h => h.joinVat

theorem Inv.openEdgeActs (h : s.Inv) : s.openEdgeActs.Inv :=
  .ite
    (have h := h.setRegBit.setRegField.setReg
     .raise (.measure (.ite h.upd.raise h.upd)))
    h.setRegBit

theorem Inv.gateEdge (h : s.Inv) : s.gateEdge.Inv :=
  have h := h.setRegBit.setRegBit
  .ite h.raise (.ite h.raise h)

theorem Inv.waitsEdge (h : s.Inv) : s.waitsEdge.Inv := h.mapBt

theorem Inv.allocIndex {j : Job} (h : s.Inv) : (s.allocIndex j).Inv := by
  unfold State.allocIndex
  split
  · exact h
  · exact
      .ite h <|
        have h := h.setReg.updJob
        .ite h.install.raise h.install

theorem Inv.admitOne {j : Job} (h : s.Inv) : (s.admitOne j).Inv := by
  unfold State.admitOne
  split
  · exact .ite h (.ite h.updJob (.ite h.updJob.bump64 h.updJob))
  · exact h

theorem Inv.admitEdge (h : s.Inv) : s.admitEdge.Inv :=
  .upd (.foldl (h.foldl fun _ _ h => h.admitOne) fun _ _ h => h.foldl fun _ _ h => h.allocIndex)

theorem Inv.localEdge (h : s.Inv) : s.localEdge.Inv := h.foldl fun _ _ h => .ite h.raiseLocal.raiseLocal h.raiseLocal

theorem Inv.atEdge (h : s.Inv) : s.atEdge.Inv :=
  h.windowEdge.settingsEdge.vatsEdge.gateEdge.waitsEdge.openEdgeActs.resumesDue.admitEdge.localEdge.reinstLanes

theorem Inv.firstEdge {n t : Nat} (h : s.Inv) : (s.firstEdge n t).Inv :=
  h.upd.setReg64.setRegField.mapBt.setRegBit.atEdge

theorem Inv.beatEdge (h : s.Inv) : s.beatEdge.Inv :=
  .ite h (.atEdge (.mapBt (.setReg64 (.upd (.endBeat (.ite h h.closeReam))))))

theorem Inv.beatStart (h : s.Inv) : s.beatStart.Inv :=
  .ite h (.ite h.upd (.ite h.setRegField.setRegBit (.ite h.setRegField.setRegBit h.setRegField.firstEdge)))

theorem Inv.ppsCapture (h : s.Inv) : s.ppsCapture.Inv :=
  .ite h <|
    have h := h.setReg64.setReg.setRegBit.raise
    .ite h.raise h

theorem Inv.execTimePpsEdge {at_ : Nat} (h : s.Inv) : Keeps (execTimePpsEdge at_ s) := by
  unfold Machine.execTimePpsEdge
  refine .next ?_
  refine .ite h ?_
  extract_lets +onlyGivenNames _ _
  refine .ite h.upd.bump ?_
  extract_lets +onlyGivenNames _ _ s
  have h : s.Inv := .bump64 (.setRegBit (.mapBt (.ite h.upd.setReg h.upd)))
  exact .ite h.firstEdge h.ppsCapture

theorem Inv.execPpsLoss (h : s.Inv) : Keeps (execPpsLoss s) := by
  unfold Machine.execPpsLoss
  refine .next ?_
  split
  · exact .ite h.upd.setRegBit.bump.mapBt.raise h
  · exact h

theorem Inv.execTime10mCheck {ppb : Int} (h : s.Inv) : Keeps (execTime10mCheck ppb s) :=
  have h := h.setReg.setRegBit
  have h := Inv.ite h h.raise
  .next <| .ite h.setRegBit.raise h

theorem Inv.clearRegs {lo hi : Nat} (h : s.Inv) : (s.clearRegs lo hi).Inv := h.filterRegs

theorem Inv.vatLost {v : Nat} (h : s.Inv) : (s.vatLost v).Inv :=
  h.wipe.clearRegs.setUnit.setPke.wipeWindow.mapBt.resetCore

/-! ### Machine/Sluice.lean -/

theorem Inv.sluiceRefused {t : Nat} {a : SluiceAccess} {sub fa : Nat} (h : s.Inv) : (s.sluiceRefused t a sub fa).Inv := by
  unfold State.sluiceRefused
  extract_lets +onlyGivenNames _ _ s₁ _ s₂
  have h₁ : s₁.Inv := by
    unfold s₁
    split
    · exact h.bump.setReg.setReg
    · exact .setReg (.setReg (.setReg (.ite h.bump.bump h.bump)))
  have h₂ : s₂.Inv := .ite h₁.errAt.raise h₁.errAt
  split
  · exact .ite h₂.raise h₂
  · exact h₂

theorem Inv.writeAttr {who : Sender} {n : Nat} {v : Word} (h : s.Inv) : (s.writeAttr who n v).Inv :=
  .ite (.ite h h.errAt) (.ite h.errAt h.setReg)

theorem Inv.writeVslAttr {who : Sender} {u i : Nat} {v : Word} (h : s.Inv) : (s.writeVslAttr who u i v).Inv :=
  .ite (.ite h h.errAt) (.ite h.errAt h.setReg)

theorem Inv.writeSluiceBase {who : Sender} {k ka : Nat} {mask v : Word} (h : s.Inv) :
    (s.writeSluiceBase who k ka mask v).Inv := .ite (.ite h h.errAt) (.ite h.errAt h.setReg)

theorem Inv.clearOwner {owner : Nat} (h : s.Inv) : (s.clearOwner owner).Inv :=
  h.foldl fun _ _ h => h.foldl fun _ _ h => .ite h.setReg h

theorem Inv.sluiceClear {who : Sender} {v : Word} (h : s.Inv) : (s.sluiceClear who v).Inv :=
  .ite h (.ite h.clearOwner h.errAt)

theorem Inv.placeEntry {owner : Nat} {e : SluiceLine} (h : s.Inv) : (s.placeEntry owner e).Inv := by
  unfold State.placeEntry
  split
  · exact h.setRegs
  · exact h

theorem Inv.placeSection {owner : Nat} {l : List SluiceLine} (h : s.Inv) : (s.placeSection owner l).Inv :=
  h.foldl fun _ _ h => h.placeEntry

theorem Inv.placeNew {owner : Nat} {l : List SluiceLine} (h : s.Inv) : (s.placeNew owner l).Inv :=
  h.foldl fun _ _ h => .ite h h.placeEntry

theorem Inv.placeLocal {v : Nat} {l : List SluiceLine} (h : s.Inv) : (s.placeLocal v l).Inv :=
  h.foldl fun _ _ h => h.setRegs

/-! ### Machine/Mould.lean -/

theorem Inv.loadPort {p : Nat} (h : s.Inv) : (s.loadPort p).Inv := by
  unfold State.loadPort
  extract_lets +onlyGivenNames _ _
  split
  · exact h.setRegField.setRegs.setRegBytes
  · exact h.setRegField

theorem Inv.loadDevice (h : s.Inv) : s.loadDevice.Inv := by
  unfold State.loadDevice
  extract_lets +onlyGivenNames _ _ _ _ _ s₁ _ _ _ _ s₂ _ _
  have h₁ : s₁.Inv := h.setReg.setReg.setRegs.foldl fun _ _ h => h.setRegs
  have h₂ : s₂.Inv := by
    unfold s₂
    refine .foldl (.foldl (.ite h₁.setReg.setRegs h₁.setReg) fun _ _ h => h.loadPort) fun _ _ h => ?_
    split
    · exact h.setReg
    · exact h
  exact h₂.setRegs.placeSection

theorem Inv.loadRoutes {p : Nat} {l : List Bytes} (h : s.Inv) : (s.loadRoutes p l).Inv :=
  h.clearRegs.foldl fun _ _ h => h.setRegBytes

theorem Inv.mouldDeckleRegs {d : Nat} (h : s.Inv) : (s.mouldDeckleRegs d).Inv := by
  unfold State.mouldDeckleRegs
  extract_lets +onlyGivenNames _
  split <;> exact h.setRegs

theorem Inv.mouldRegs (h : s.Inv) : s.mouldRegs.Inv := h.setRegs.foldl fun _ _ h => h.mouldDeckleRegs.setReg

theorem Inv.loadDeckle {d : Nat} (h : s.Inv) : (s.loadDeckle d).Inv := by
  unfold State.loadDeckle
  extract_lets +onlyGivenNames _
  split
  · exact h.setRegs.foldl fun _ _ h => h.loadRoutes
  · exact .placeNew (.placeSection (h.mapMd.setRegs.setRegField.setReg.mapBt.foldl fun _ _ h => h.loadRoutes))

theorem Inv.loadVat {v : Nat} (h : s.Inv) : (s.loadVat v).Inv := by
  unfold State.loadVat
  split
  · exact h
  · exact h.loadVatSet.placeLocal.write

theorem Inv.createChain {k : Nat} (h : s.Inv) : (s.createChain k).Inv := h.setChain.setRegs.queueRec.startEpoch
theorem Inv.removeDeckle {d : Nat} (h : s.Inv) : (s.removeDeckle d).Inv := h.deepErase.setChain.clearRegs.mapKs
theorem Inv.createDeckle {d : Nat} (h : s.Inv) : (s.createDeckle d).Inv := h.tookFree.deepWrite.mapKs.setRegs
theorem Inv.raiseFloors {m : MouldSet} (h : s.Inv) : (s.raiseFloors m).1.Inv := .ite_fst h h.deepWrite
theorem Inv.mouldRecord {op d : Nat} {p : Bytes} (h : s.Inv) : (s.mouldRecord op d p).Inv := h.queueRec
theorem Inv.stageAt {t : Nat} {im : Option Bytes} (h : s.Inv) : (s.stageAt t im).Inv := h.mapMd
theorem Inv.refuseMould {job r : Nat} (h : s.Inv) : (s.refuseMould job r).Inv := h.setReg.answerCmd

theorem Inv.execMouldLoad {job : Nat} (h : s.Inv) : Keeps (execMouldLoad job s) := by
  unfold Machine.execMouldLoad
  refine .next ?_
  split
  · exact h
  · exact .ite h (.ite h.refuseMould h.stageAt.mapMd)

theorem Inv.execMouldLoadComplete {job : Nat} (h : s.Inv) : Keeps (execMouldLoadComplete job s) := by
  unfold Machine.execMouldLoadComplete
  refine .next ?_
  split
  · exact h
  · exact .ite h.mapMd.refuseMould h.mapMd.stageAt.answerCmd

theorem Inv.execMouldAbandon {job : Nat} (h : s.Inv) : Keeps (execMouldAbandon job s) := by
  unfold Machine.execMouldAbandon
  refine .next ?_
  split
  · exact h
  · exact h.stageAt.answerCmd

theorem Inv.commitMould {m : MouldSet} {op d : Nat} {p : Bytes} (h : s.Inv) : (s.commitMould m op d p).Inv :=
  .foldl
    (.raiseFloors <| .foldl
       (.foldl (.mouldRecord (.mapMd (.deepWrite (h.foldl fun _ _ h => h.createDeckle)))) fun _ _ h => h.mouldRecord)
       fun _ _ h => h.mouldRecord)
    fun _ _ h => h.deepErase

theorem Inv.applyDeckle {d : Nat} {m : MouldSet} (h : s.Inv) : (s.applyDeckle d m).Inv := by
  unfold State.applyDeckle
  extract_lets +onlyGivenNames _ _ _ s₁ s₂ _
  have h₁ : s₁.Inv := .mapMd <| .clearOwner <| h.foldl fun _ _ h =>
    have h := h.setMaskBit.vatLost.mapBt.setMaskBit.mapLf
    .ite h h.setRegField.upd
  have h₂ : s₂.Inv := .ite h₁.removeDeckle h₁
  exact .mouldRegs (.loadDeckle (.ite h₂.createChain (.ite h₂.startEpoch h₂)))

theorem Inv.execMouldCommit {job : Nat} (h : s.Inv) : Keeps (execMouldCommit job s) := by
  unfold Machine.execMouldCommit
  refine .next ?_
  split
  · exact h
  · refine .ite h ?_
    extract_lets +onlyGivenNames _
    split
    · exact h.refuseMould
    · extract_lets +onlyGivenNames _
      refine .ite h.refuseMould ?_
      split
      · exact h.refuseMould
      · exact
          have h := h.bump.mapMd
          .ite h.commitMould.mapMd.setRegField.answerCmd
            h.commitMould.stageAt.measurePart.setRegField.setRegField.applyDeckle

theorem Inv.execDeckleReopen (h : s.Inv) : Keeps (execDeckleReopen s) := by
  unfold Machine.execDeckleReopen
  refine .next ?_
  split
  · refine .ite ?_ h
    extract_lets +onlyGivenNames s₁ _ s₂ _
    have h₁ : s₁.Inv := h.setReg.setReg
    have h₂ : s₂.Inv := h₁.mapMd.mapBt
    split
    · exact h₂.answerCmd.release
    · exact h₂.answerCmd
  · exact h

theorem Inv.startMould (h : s.Inv) : s.startMould.Inv := by
  unfold State.startMould
  split
  · exact h.mapMd.mouldRegs
  · exact
      .mouldRecord <| .setRegField <| .mouldRegs <| .foldl
        (.loadDevice <|
           .foldl (.measure (.mapMd (.setRegBit (.raiseFloors (h.foldl fun _ _ h => h.deepErase))))) fun _ _ h =>
             h.measurePart)
        fun _ _ h => h.loadDeckle

/-! ### Machine/ReadSets.lean -/

theorem Inv.execReservoirReadSet {job : Nat} (h : s.Inv) : Keeps (execReservoirReadSet job s) := by
  unfold Machine.execReservoirReadSet
  refine .next ?_
  split
  · split
    · refine .ite ?_ h
      split
      · exact h.upd.updJob.foldl fun _ _ h => h.resvIssueRead
      · exact h
    · exact h
  · exact h

theorem Inv.blockIn {j : Job} {rbn : Nat} {ok : Bool} (h : s.Inv) : (s.blockIn j rbn ok).Inv := h.updJob

theorem Inv.execReservoirReadComplete {job rbn : Nat} {ok : Bool} (h : s.Inv) :
    Keeps (execReservoirReadComplete job rbn ok s) := by
  unfold Machine.execReservoirReadComplete
  refine .next ?_
  split
  · exact .ite (.ite h.blockIn h.blockIn.integFail) h
  · exact h

theorem Inv.portEvent {q i : Nat} (h : s.Inv) : (s.portEvent q i).Inv := .ite h.setRegBit.raise h.setRegBit

theorem Inv.nvmeFail {c : NvmeCmd} (h : s.Inv) : (s.nvmeFail c).Inv := by
  unfold State.nvmeFail
  extract_lets +onlyGivenNames _
  split
  · exact h.ioError.foldl fun _ _ h => h.blockIn
  · split
    · exact .ite h.ioError h.ioError.setChain
    · exact h.ioError
  · exact h.ioError.mapJn

theorem Inv.nvmeDrop {c : NvmeCmd} (h : s.Inv) : (s.nvmeDrop c).Inv := h.mapLk

theorem Inv.execNvmeCompletion {q : Fin 16} {n : Nat} {ok : Bool} (h : s.Inv) : Keeps (execNvmeCompletion q n ok s) := by
  unfold Machine.execNvmeCompletion
  refine .next ?_
  split
  · exact h
  · extract_lets +onlyGivenNames _
    refine .ite h.nvmeDrop.bump.nvmeFail ?_
    split
    · exact h.nvmeDrop.setReg
    · split
      · exact .ite h.nvmeDrop.mapJn h.nvmeDrop
      · exact h.nvmeDrop
    · exact h.nvmeDrop

theorem Inv.execNvmeCommandTimeout {q : Fin 16} (h : s.Inv) : Keeps (execNvmeCommandTimeout q s) := by
  unfold Machine.execNvmeCommandTimeout
  refine .next ?_
  split
  · exact h.upd.mapLk.emit.bump.portEvent
  · exact h

theorem Inv.execNvmeAbortTimeout {q : Fin 16} (h : s.Inv) : Keeps (execNvmeAbortTimeout q s) := by
  unfold Machine.execNvmeAbortTimeout
  refine .next ?_
  split
  · exact h.upd.setRegBit.setRegBit.bump.portEvent.mapLk.foldl fun _ _ h => h.nvmeDrop.nvmeFail
  · exact h

theorem Inv.execNvmeReadyTimeout {q : Fin 16} (h : s.Inv) : Keeps (execNvmeReadyTimeout q s) := by
  unfold Machine.execNvmeReadyTimeout
  refine .next ?_
  split
  · exact h.upd.mapLk.setRegBit.setRegBit.portEvent.foldl fun _ _ h => h.nvmeDrop.nvmeFail
  · exact h

theorem Inv.execReservoirLinkLoss {q : Fin 16} {removed : Bool} (h : s.Inv) :
    Keeps (execReservoirLinkLoss q removed s) :=
  .next <| .ite (h.setReg.mapLk.portEvent.foldl fun _ _ h => h.nvmeDrop.nvmeFail) h

theorem Inv.execReservoirLinkUp {q : Fin 16} {gen : Fin 6} {width : Fin 3} {ident : Word} (h : s.Inv) :
    Keeps (execReservoirLinkUp q gen width ident s) := by
  unfold Machine.execReservoirLinkUp
  refine .next ?_
  refine .ite h ?_
  extract_lets +onlyGivenNames _ _ _ s _
  have h : s.Inv := h.setReg.setReg.mapLk.foldl fun _ _ h => h.emit
  exact .foldl (.ite h h.portEvent) fun _ _ h => h.drainChain

/-! ### Machine/Reset.lean -/

theorem Inv.mapPw {f : PowerState → PowerState} (h : s.Inv) : (s.mapPw f).Inv := h.upd
theorem Inv.lifeState (h : s.Inv) : s.lifeState.Inv := .ite h.setRegField.mapTm h.setRegField.mapTm.mapCores
theorem Inv.lifeRecord (h : s.Inv) : s.lifeRecord.Inv := h.setReg.setRegBytes.setRegBytes
theorem Inv.certClear (h : s.Inv) : s.certClear.Inv := h.setRegBytes
theorem Inv.certWrite {result pass : Nat} (h : s.Inv) : (s.certWrite result pass).Inv := h.certClear.setRegs.setRegBytes

theorem Inv.clearDevice {cold : Bool} (h : s.Inv) : (s.clearDevice cold).Inv := by
  unfold State.clearDevice
  refine Inv.setRegField (Inv.mapJn (Inv.mapKs ?_))
  obtain ⟨hm, hr, -⟩ := h
  exact ⟨memWf_filter _ _ hm, spWf_sublist regReset hr List.filter_sublist, by simp⟩

theorem Inv.resetTail {cause kind : Nat} (h : s.Inv) : (s.resetTail cause kind).Inv :=
  h.upd.mapPw.setReg.setRegField.setRegField.setRegBit.lifeState

theorem Inv.warmReset {cause kind : Nat} (h : s.Inv) : (s.warmReset cause kind).Inv := h.clearDevice.bump.resetTail
theorem Inv.powerAfresh (h : s.Inv) : s.powerAfresh.Inv := h.upd.mapPw.setRegField.foldl fun _ _ h => h.setRegBit

theorem Inv.coldReset {cause : Nat} {quick : Bool} (h : s.Inv) : (s.coldReset cause quick).Inv :=
  have h := h.clearDevice.powerAfresh.certClear.setRegBit
  .ite (.ite h.mapPw.resetTail.raise h.mapPw.resetTail) h.mapPw.resetTail.raise

theorem Inv.resetWhenDone (h : s.Inv) : s.resetWhenDone.Inv := by
  unfold State.resetWhenDone
  split
  · exact .ite h.warmReset h
  · exact h

theorem Inv.execFullRemouldReset (h : s.Inv) : Keeps (execFullRemouldReset s) := by
  unfold Machine.execFullRemouldReset
  refine .next ?_
  split
  · exact .ite h.warmReset h
  · exact h

/-! ### Machine/Drain.lean -/

theorem Inv.withhold {j : Job} (h : s.Inv) : (s.withhold j).Inv := .ite h h.queueRec
theorem Inv.unplaceAll (h : s.Inv) : s.unplaceAll.Inv := h.mapBt

theorem Inv.journalCommitAll (h : s.Inv) : s.journalCommitAll.Inv := by
  unfold State.journalCommitAll
  extract_lets +onlyGivenNames _ _ _ s
  have h : s.Inv := .commitQueue (.queueRejects (.queueHeld (.takeEvents (h.unplaceAll.foldl fun _ _ h => h.withhold))))
  exact .ite h.closeHeads.signRoot h

theorem Inv.journalDrain (h : s.Inv) : s.journalDrain.Inv := by
  unfold State.journalDrain
  extract_lets +onlyGivenNames _ _ _ s _ _
  have h : s.Inv := by
    unfold s
    refine
      .foldl (.foldl (.drainRoot (h.foldl fun _ _ h => h.closeBlock.drainChain)) fun _ _ h => h.sweepOne) fun _ _ h =>
        ?_
    split
    · exact h.foldl fun _ _ h => h.sweepOne
    · exact h
  exact h.mapJn.mapLk.commitTree.writeStateBlock

/-! ### Machine/Network.lean -/

theorem Inv.netEvent {p i : Nat} (h : s.Inv) : (s.netEvent p i).Inv := .ite h.setRegBit.raise h.setRegBit
theorem Inv.mkaLost {p : Nat} (h : s.Inv) : (s.mkaLost p).Inv := .ite h.setRegField.netEvent h
theorem Inv.netDown {p : Nat} (h : s.Inv) : (s.netDown p).Inv := .ite h.mkaLost.setRegField.netEvent h

theorem Inv.execMkaFrame {port : Fin 64} {icvOk live : Bool} {sa : Option (Fin 4)} (h : s.Inv) :
    Keeps (execMkaFrame port icvOk live sa s) := by
  unfold Machine.execMkaFrame
  extract_lets +onlyGivenNames _
  refine .next ?_
  refine .ite h ?_
  refine .ite h.mkaLost.netEvent ?_
  refine .ite h ?_
  extract_lets +onlyGivenNames s
  have h : s.Inv := .ite h h.setRegBit.netEvent
  split
  · exact h.setReg
  · exact h

theorem Inv.execNetworkFrameReceived {port : Fin 64} {frame : Bytes} {fcsOk macsecOk : Bool} (h : s.Inv) :
    Keeps (execNetworkFrameReceived port frame fcsOk macsecOk s) := by
  unfold Machine.execNetworkFrameReceived
  extract_lets +onlyGivenNames _ _
  refine .next ?_
  refine .ite h ?_
  refine .ite h.bump ?_
  refine .ite h.bump ?_
  refine .ite h.bump ?_
  refine .ite h.bump ?_
  split
  · exact h.frameIn
  · exact h.bump

theorem Inv.txDrop {p : Nat} (h : s.Inv) : (s.txDrop p).Inv := h.bump.netEvent

theorem Inv.execResponseFrameTransmit {port : Fin 64} (h : s.Inv) : Keeps (execResponseFrameTransmit port s) := by
  unfold Machine.execResponseFrameTransmit
  extract_lets +onlyGivenNames _
  refine .next ?_
  extract_lets +onlyGivenNames _ s _
  have h : s.Inv := h.mapBt.foldl fun _ _ h => h.txDrop
  split
  · exact h.setReg
  · exact
      .ite h.setReg <|
        have h := h.setReg.mapBt
        have h := Inv.ite h.upd h
        .ite h.txDrop h.tookFree.emit.bump64

/-! ### Machine/HostPort.lean -/

theorem Inv.queueEvent {f : Nat} (h : s.Inv) : (s.queueEvent f).Inv := h.raise

theorem Inv.queuesOff {f : Nat} (h : s.Inv) : (s.queuesOff f).Inv := by
  unfold State.queuesOff
  extract_lets +onlyGivenNames s _
  have h : s.Inv := h.foldl fun _ _ h => h.setRegBit
  exact .mapBt (.setRegBit (.ite h h.setRegBit))

theorem Inv.functionReset {f : Nat} (h : s.Inv) : (s.functionReset f).Inv :=
  .queueEvent (.clearRegs (.mapBt (.ite h.queuesOff.abortJobs h.queuesOff)))

theorem Inv.mctpSend {vdm : Bool} {m : Bytes} (h : s.Inv) : (s.mctpSend vdm m).Inv := h.emit

theorem Inv.mctpReply {vdm : Bool} {inst : BitVec 5} {cmd : Nat} {data : Bytes} (h : s.Inv) :
    (s.mctpReply vdm inst cmd data).Inv := .ite h.mctpSend h

theorem Inv.uartFlush (h : s.Inv) : s.uartFlush.Inv := .ite h.emit.mapLk h
theorem Inv.uartWrite {v : Word} (h : s.Inv) : (s.uartWrite v).Inv := .ite h.bump.raise h.mapLk.uartFlush

theorem Inv.uartRead (h : s.Inv) : (s.uartRead).2.Inv := by
  unfold State.uartRead
  split
  · exact h
  · exact h.mapLk

/-! ### Machine/Uloon.lean -/

theorem Inv.pondStatus (h : s.Inv) : s.pondStatus.Inv := h.setRegField.setRegBit.setRegBit

theorem Inv.execUloonLinkUp {u : Fin 8} {peer : Fin 16} {pondId : Word} {rootOk : Bool} {halfUs : Nat} {life : Fin 5}
    {hops delay : Nat} (h : s.Inv) : Keeps (execUloonLinkUp u peer pondId rootOk halfUs life hops delay s) :=
  .next <| .ite h <| .ite h.setReg.raise <|
    have h := h.setRegs.tookFree.mapLk
    .ite h.pondStatus.raise h.pondStatus

theorem Inv.pathGone {u : Nat} (h : s.Inv) : (s.pathGone u).Inv := .ite h.mapLk.setRegBit.raise h.mapLk

theorem Inv.execUloonLinkDown {u : Fin 8} (h : s.Inv) : Keeps (execUloonLinkDown u s) := by
  unfold Machine.execUloonLinkDown
  refine .next ?_
  refine .ite h ?_
  extract_lets +onlyGivenNames peer _ s₁ s₂
  clear_value peer
  have h₁ : s₁.Inv := h.setRegField.mapLk
  have h₂ : s₂.Inv := by
    unfold s₂
    split
    · exact .ite h₁ h₁.setRegBit
    · exact h₁
  exact h₂.pathGone.pondStatus

theorem Inv.execUloonLeaderWaitExpiry (h : s.Inv) : Keeps (execUloonLeaderWaitExpiry s) := by
  unfold Machine.execUloonLeaderWaitExpiry
  refine .next ?_
  split
  · exact .ite h (.ite h.upd.mapLk.beatStart h.upd.mapLk)
  · exact h

theorem Inv.lateFrom {u m : Nat} (h : s.Inv) : (s.lateFrom u m).Inv :=
  .ite h.mapLk.dropPeer.bump.setRegBit.pondStatus.raise h.mapLk

theorem Inv.resync {m : Nat} (h : s.Inv) : (s.resync m).Inv := h.foldl fun _ _ h => .ite h.post.setRegBit h

theorem Inv.goodFrom {u m : Nat} {sync same : Bool} (h : s.Inv) : (s.goodFrom u m sync same).Inv :=
  have h := h.mapLk.setRegBit.pondStatus
  .ite h.setRegBit.resync.raise h

theorem Inv.takeMessage {u : Nat} {sync same : Bool} {m : PondMsg} (h : s.Inv) : (s.takeMessage u sync same m).Inv :=
  .ite h <|
    have h := Inv.ite h.mapLk.mapLk h.mapLk
    .ite h.goodFrom h

theorem Inv.takeBeat {sender delay beat : Nat} {offset : Int} (h : s.Inv) : (s.takeBeat sender delay beat offset).Inv :=
  .ite (.ite h.mapLk.firstEdge h) (.ite h.setReg.setRegBit.setRegBit h.setRegBit)

theorem Inv.execUloonSlotFrameReceived {u : Fin 8} {sender : Fin 16} {start : Nat} {tagOk sync : Bool} {beat : Nat}
    {offset : Int} {msgs : List PondMsg} (h : s.Inv) :
    Keeps (execUloonSlotFrameReceived u sender start tagOk sync beat offset msgs s) :=
  .next <| .ite h <| .ite h.bump <|
    have h := Inv.ite h.upd h
    .ite h.bump.lateFrom <|
      have h := h.bump.goodFrom
      .takeBeat (.foldl (.ite h.mapLk h) fun _ _ h => h.takeMessage)

/-! ### Machine/Cards.lean -/

theorem Inv.mapCd {f : CardState → CardState} (h : s.Inv) : (s.mapCd f).Inv := h.upd
theorem Inv.setSlot {n : Nat} {x : CardSlot} (h : s.Inv) : (s.setSlot n x).Inv := h.mapCd
theorem Inv.updSlot {n : Nat} {f : CardSlot → CardSlot} (h : s.Inv) : (s.updSlot n f).Inv := h.setSlot
theorem Inv.updCless {f : ClessState → ClessState} (h : s.Inv) : (s.updCless f).Inv := h.mapCd
theorem Inv.cardEvent {n i : Nat} (h : s.Inv) : (s.cardEvent n i).Inv := .ite h.setRegBit.raise h.setRegBit
theorem Inv.cardOff {n k : Nat} (h : s.Inv) : (s.cardOff n k).Inv := h.setRegBit.setRegField.updSlot
theorem Inv.cardError {n err : Nat} (h : s.Inv) : (s.cardError n err).Inv := h.cardOff.setRegField.bump.cardEvent

theorem Inv.cardActivate {n c : Nat} {noPps : Bool} (h : s.Inv) : (s.cardActivate n c noPps).Inv :=
  h.setRegBit.setRegField.setRegField.setRegs.updSlot

theorem Inv.cardAgain {n c : Nat} {noPps : Bool} (h : s.Inv) : (s.cardAgain n c noPps).Inv := h.cardOff.updSlot
theorem Inv.cardCmdActivate {n : Nat} (h : s.Inv) : (s.cardCmdActivate n).Inv := .ite h.cardActivate h
theorem Inv.cardCmdDeactivate {n : Nat} (h : s.Inv) : (s.cardCmdDeactivate n).Inv := h.cardOff
theorem Inv.cardSends {n : Nat} {b : Bytes} (h : s.Inv) : (s.cardSends n b).Inv := h.emit.updSlot
theorem Inv.cardReady {n : Nat} (h : s.Inv) : (s.cardReady n).Inv := h.setRegField.updSlot.cardEvent
theorem Inv.cardSettled {n : Nat} (h : s.Inv) : (s.cardSettled n).Inv := .ite h.cardSends.updSlot h.cardReady

theorem Inv.cardParams {n f d div : Nat} (h : s.Inv) : (s.cardParams n f d div).Inv :=
  h.setRegField.setRegField.setRegField

theorem Inv.atrBad {n : Nat} (h : s.Inv) : (s.atrBad n).Inv := .ite h.cardError (.ite h.cardError h.updSlot)

theorem Inv.atrGood {n : Nat} {atr : Bytes} {a : AtrFacts} (h : s.Inv) : (s.atrGood n atr a).Inv := by
  unfold State.atrGood
  extract_lets +onlyGivenNames _ s _
  have h : s.Inv := h.setRegBytes.setRegField
  refine .ite (.ite h.cardAgain h.cardError) ?_
  refine .ite h.cardError ?_
  refine .ite h.cardError ?_
  extract_lets +onlyGivenNames _ _ s _ _
  have h : s.Inv := h.setReg.setReg
  split
  · exact h.updSlot.cardParams.cardSettled
  · exact .ite h.updSlot.cardSends.updSlot h.updSlot.cardSettled

theorem Inv.execCardAtrReceived {n : Fin 2} {atr : Bytes} {timely : Bool} (h : s.Inv) :
    Keeps (execCardAtrReceived n atr timely s) := by
  unfold Machine.execCardAtrReceived
  refine .next ?_
  refine .ite h ?_
  split
  · exact h.atrGood
  · exact h.atrBad

theorem Inv.execCardRetryDelayEnd {n : Fin 2} (h : s.Inv) : Keeps (execCardRetryDelayEnd n s) := by
  unfold Machine.execCardRetryDelayEnd
  extract_lets +onlyGivenNames _
  refine .next ?_
  split
  · exact .ite h.upd.cardActivate h
  · exact h

theorem Inv.ppsFail {n : Nat} (h : s.Inv) : (s.ppsFail n).Inv := h.cardAgain

theorem Inv.cardDone {n : Nat} {data : Bytes} {sw : Nat} (h : s.Inv) : (s.cardDone n data sw).Inv :=
  h.setRegBytes.setRegs.setRegField.updSlot.cardEvent

theorem Inv.sendI {n : Nat} (h : s.Inv) : (s.sendI n).Inv := h.cardSends.updSlot

theorem Inv.cardCmdSend {who : Sender} {n : Nat} (h : s.Inv) : (s.cardCmdSend who n).Inv :=
  .ite h.errAt <|
    have h := h.setRegField.setRegField
    .ite h.updSlot.sendI h.updSlot.cardSends.updSlot

theorem Inv.t0Char {n : Nat} {b : Byte} (h : s.Inv) : (s.t0Char n b).Inv :=
  .ite h <| .ite h.setSlot <| .ite (.ite h.cardSends.updSlot (.ite h.cardSends.updSlot h.cardDone)) <|
    .ite h (.ite h.setSlot (.ite (.ite h.emit.setSlot h.setSlot) h.cardError))

theorem Inv.t1Error {n : Nat} (h : s.Inv) : (s.t1Error n).Inv :=
  .ite (.ite h.updSlot.cardSends h.updSlot.emit) (.ite h.emit.updSlot h.cardError)

theorem Inv.t1Good {n pcb : Nat} {inf : Bytes} (h : s.Inv) : (s.t1Good n pcb inf).Inv :=
  .ite (.ite h.cardReady h.t1Error) <| .ite (.ite h.updSlot.sendI h.t1Error) <|
    .ite h.emit.updSlot <| .ite h.emit.setRegField <| .ite h.emit.cardError <| .ite
      (.ite h.t1Error <|
         have h := h.updSlot.updSlot
         .ite h.emit (.ite h.cardError h.cardDone))
      <|
      .ite (.ite h.updSlot.updSlot.sendI (.ite h.cardSends.updSlot h.t1Error)) h.t1Error

theorem Inv.execCardBlockReceived {n : Fin 2} {data : Bytes} {ok : Bool} (h : s.Inv) :
    Keeps (execCardBlockReceived n data ok s) := by
  unfold Machine.execCardBlockReceived
  extract_lets +onlyGivenNames _ _
  refine .next ?_
  refine .ite h ?_
  refine .ite ?_ (.ite (.updSlot (h.foldl fun _ _ h => h.t0Char)) (.ite h.cardError h.updSlot))
  split
  · exact h.t1Good
  · exact h.t1Error

theorem Inv.clessEvent {i : Nat} (h : s.Inv) : (s.clessEvent i).Inv := .ite h.setRegBit.raise h.setRegBit
theorem Inv.clessShow {k : Nat} (h : s.Inv) : (s.clessShow k).Inv := h.setRegField.setRegField
theorem Inv.clessSends {b : Bytes} (h : s.Inv) : (s.clessSends b).Inv := h.emit.updCless
theorem Inv.fieldOff {k : Nat} (h : s.Inv) : (s.fieldOff k).Inv := h.setRegField.updCless.clessShow
theorem Inv.remember {uid : Bytes} (h : s.Inv) : (s.remember uid).Inv := h.updCless

theorem Inv.nextCard {f : Nat} (h : s.Inv) : (State.nextCard f s).Inv := by
  induction f generalizing s with
  | zero => exact h
  | succ f ih =>
    unfold State.nextCard
    split
    · exact h.updCless.clessShow
    · have hr {c} : (s.updCless c).Inv := h.updCless
      exact
        .ite (ih hr.remember.clessSends) <|
          .ite (ih hr.remember.clessSends) hr.setRegs.updCless.clessEvent.clessSends.clessShow

theorem Inv.poll {cards : List (Bytes × Nat)} (h : s.Inv) : (s.poll cards).Inv :=
  have h := h.bump.setRegBit.clessShow
  .ite (.ite h.emit.fieldOff h.emit.updCless.clessShow) h.emit.updCless.nextCard

theorem Inv.deselect (h : s.Inv) : s.deselect.Inv := h.remember.setRegBit.clessSends.updCless.clessShow
theorem Inv.clessError {err : Nat} (h : s.Inv) : (s.clessError err).Inv := h.setRegField.bump.clessEvent.deselect

theorem Inv.clessFail (h : s.Inv) : s.clessFail.Inv := by
  unfold State.clessFail
  extract_lets +onlyGivenNames _
  split
  · exact h
  · exact h.nextCard
  · exact .ite h.clessError h.emit.updCless
  · exact .ite h.clessError h.clessSends.updCless

theorem Inv.clessReady {r : Nat} (h : s.Inv) : (s.clessReady r).Inv :=
  h.setRegBit.setRegField.updCless.clessShow.clessEvent

theorem Inv.atsIn {b : Bytes} (h : s.Inv) : (s.atsIn b).Inv :=
  .ite h.clessFail (.ite h.setReg.updCless.clessReady h.setReg.updCless.clessSends.updCless)

theorem Inv.clessI (h : s.Inv) : s.clessI.Inv := h.clessSends.updCless

theorem Inv.clessBlock {b : Bytes} (h : s.Inv) : (s.clessBlock b).Inv :=
  .ite (.ite h.clessFail h.clessSends.updCless) <|
    .ite (.ite h.updCless.clessI (.ite h.clessSends.updCless h.clessFail)) <| .ite
      (.ite h.updCless.clessSends <|
         .ite h.updCless.clessError h.updCless.setRegBytes.setRegs.updCless.clessShow.clessEvent)
      h.clessFail

theorem Inv.execClessFrameReceived {data : Bytes} {ok : Bool} (h : s.Inv) : Keeps (execClessFrameReceived data ok s) := by
  unfold Machine.execClessFrameReceived
  refine .next ?_
  refine .ite h ?_
  split
  · exact h
  · exact h.nextCard
  · exact .ite h.atsIn h.clessFail
  · exact .ite h.clessReady h.clessFail
  · exact .ite h.clessBlock h.clessFail

theorem Inv.clessCmdSend {who : Sender} (h : s.Inv) : (s.clessCmdSend who).Inv :=
  .ite h.errAt h.clessShow.setRegField.updCless.clessI

theorem Inv.clessCmdDeselect (h : s.Inv) : s.clessCmdDeselect.Inv := .ite h.deselect h
theorem Inv.clessEnable (h : s.Inv) : s.clessEnable.Inv := .ite (.ite h.clessShow h) h.fieldOff

theorem Inv.execClessUidExpiry (h : s.Inv) : Keeps (execClessUidExpiry s) := by
  unfold Machine.execClessUidExpiry
  refine .next ?_
  split
  · exact .ite h.upd.updCless.clessShow h
  · exact h

/-! ### Machine/Quorum.lean -/

theorem Inv.consume {g : Nat} (h : s.Inv) : (s.consume g).Inv := .ite h.setRegBit.raise h
theorem Inv.quorumRefuse {job cause : Nat} (h : s.Inv) : (s.quorumRefuse job cause).Inv := h.setRegField.answerCmd

theorem Inv.execQuorumOpen {job : Nat} (h : s.Inv) : Keeps (execQuorumOpen job s) := by
  unfold Machine.execQuorumOpen
  refine .next ?_
  split
  · exact
      .ite h <| .ite h.quorumRefuse <|
        .ite h.quorumRefuse (.ite h.quorumRefuse h.drawDev.setRegBytes.mapCd.setRegField.setRegField.setRegBit.raise)
  · exact h

theorem Inv.grant {x : Session} (h : s.Inv) : (s.grant x).Inv := h.setReg.setReg.mapCd.setRegBit.raise.answerCmd

theorem Inv.execQuorumApproval {src : Fin 3} {pub sig : Bytes} {ok : Bool} (h : s.Inv) :
    Keeps (execQuorumApproval src pub sig ok s) := by
  unfold Machine.execQuorumApproval
  refine .next ?_
  split
  · exact h
  · refine .ite h ?_
    extract_lets +onlyGivenNames _
    split
    · exact h.bump
    · exact .ite h.bump (.ite h.setRegField.grant h.setRegField)

theorem Inv.execQuorumTimeout (h : s.Inv) : Keeps (execQuorumTimeout s) := by
  unfold Machine.execQuorumTimeout
  refine .next ?_
  split
  · exact .ite h h.mapCd.setRegBit.quorumRefuse.raise
  · exact h

theorem Inv.execQuorumList {job : Nat} (h : s.Inv) : Keeps (execQuorumList job s) := by
  unfold Machine.execQuorumList
  refine .next ?_
  split
  · exact .ite h.quorumRefuse (.ite h.quorumRefuse h.deepWrite.setRegBit.consume.answerCmd)
  · exact h

/-! ### Machine/Tamper.lean -/

theorem Inv.feltTake {src dst seq : Nat} (h : s.Inv) : (s.feltTake src dst seq).Inv := h.mapLk

theorem Inv.feltLoss {src dst : Nat} (h : s.Inv) : (s.feltLoss src dst).Inv := by
  unfold State.feltLoss
  refine .ite ?_ h
  split
  · exact h.mapKs.bump.raise
  · exact .ite h h.setUnit.bump

theorem Inv.feltDiscard {src dst addr : Nat} (h : s.Inv) : (s.feltDiscard src dst addr).Inv := h.bump.setRegs.excursion
theorem Inv.servicePairDown (h : s.Inv) : s.servicePairDown.Inv := h.resetCore.upd.raise

theorem Inv.primaryPairDown {c : Nat} (h : s.Inv) : (s.primaryPairDown c).Inv :=
  .ite h.mapBt.upd h.mapBt.upd.resetWhenDone

theorem Inv.monitorCount {m : Nat} {low : Bool} (h : s.Inv) : (s.monitorCount m low).Inv :=
  .ite h.mapTm h.mapTm.excursion

theorem Inv.execMonitorAssert {m : Fin 5} {sensors : BitVec 3} {low : Bool} {temp : BitVec 16} (h : s.Inv) :
    Keeps (execMonitorAssert m sensors low temp s) :=
  .next <| .ite h <|
    have h := h.setRegBit.setRegField
    .monitorCount (.ite h.setReg h)

theorem Inv.execMonitorHeld {m : Fin 5} {low : Bool} (h : s.Inv) : Keeps (execMonitorHeld m low s) := by
  unfold Machine.execMonitorHeld
  refine .next ?_
  split
  · exact .ite h.upd.monitorCount h
  · exact h

theorem Inv.execMonitorDeassert {m : Fin 5} {sensors : BitVec 3} {temp : BitVec 16} (h : s.Inv) :
    Keeps (execMonitorDeassert m sensors temp s) :=
  .next <| .ite h <|
    have h := h.setRegBit.setRegField
    .mapTm (.ite h.setReg h)

theorem Inv.batteryTrip {m : Nat} (h : s.Inv) : (s.batteryTrip m).Inv :=
  .ite h.mapTm <|
    have h := Inv.ite h.mapTm.mapTm h.mapTm
    .ite h.setRegField (.ite h.latch h.latch.burn)

theorem Inv.scrapIf (h : s.Inv) : s.scrapIf.Inv := .ite h.setRegBit.mapTm h
theorem Inv.eraseRoots (h : s.Inv) : s.eraseRoots.Inv := .mapJn (.mapKs (h.foldl fun _ _ h => h.deepErase))
theorem Inv.tamperAck (h : s.Inv) : s.tamperAck.Inv := .ite h h.setReg
theorem Inv.batteryFirst (h : s.Inv) : s.batteryFirst.Inv := h.filterRegs

theorem Inv.execLossOfMainPower (h : s.Inv) : Keeps (execLossOfMainPower s) :=
  .next <| .ite h <|
    have h := h.clearDevice.upd.mapTm.setRegField.setReg
    .ite h h.batteryFirst.mapTm

/-! ### Machine/Power.lean -/

theorem Inv.railShow (h : s.Inv) : s.railShow.Inv := h.setReg.setRegBit
theorem Inv.mapPins {f : Pins → Pins} (h : s.Inv) : (s.mapPins f).Inv := h.upd
theorem Inv.railEnable {r : Nat} (h : s.Inv) : (s.railEnable r).Inv := .railShow (.mapPins (.ite h h.emit.emit))
theorem Inv.railDisable {r : Nat} (h : s.Inv) : (s.railDisable r).Inv := h.mapPins.railShow
theorem Inv.railsOff (h : s.Inv) : s.railsOff.Inv := h.foldl fun _ _ h => h.railDisable
theorem Inv.setDom {n k : Nat} (h : s.Inv) : (s.setDom n k).Inv := h.setRegField

theorem Inv.execRailReady {r : Fin 6} (h : s.Inv) : Keeps (execRailReady r s) :=
  .next <| .ite h <|
    have h := h.mapPins.railShow
    .ite h.railEnable (h.foldl fun _ _ h => .ite h.setDom h)

theorem Inv.itemOff {i : StartItem} (h : s.Inv) : (s.itemOff i).Inv := by
  unfold State.itemOff
  split
  · exact h.railDisable
  · exact h.railDisable
  · exact h.setDom
  · exact h

theorem Inv.itemOn {i : StartItem} (h : s.Inv) : (s.itemOn i).Inv := by
  unfold State.itemOn
  split
  · exact h.railEnable
  · exact h.railEnable
  · exact h.setDom
  · exact h

theorem Inv.startFailure {stage item attempts detail : Nat} (h : s.Inv) :
    (s.startFailure stage item attempts detail).Inv := h.setRegs.railsOff.mapPins.mapPw

theorem Inv.execRetryPauseEnd {item : StartItem} (h : s.Inv) : Keeps (execRetryPauseEnd item s) := by
  unfold Machine.execRetryPauseEnd
  refine .next ?_
  split
  · exact .ite h h.upd.mapPw.itemOn
  · exact h

theorem Inv.powerFail (h : s.Inv) : s.powerFail.Inv :=
  .ite h (.cardsOff (.mapPw (.upd (.mapBt (.setRegBit (.ite h.raise.certWrite h.raise))))))

theorem Inv.execPowerFailDrainDone (h : s.Inv) : Keeps (execPowerFailDrainDone s) := by
  unfold Machine.execPowerFailDrainDone
  refine .next ?_
  split
  · exact .ite h (.raise (.mapPw (.ite h.upd.journalCommitAll.journalDrain h.upd)))
  · exact h

theorem Inv.execHoldupEnd (h : s.Inv) : Keeps (execHoldupEnd s) := by
  unfold Machine.execHoldupEnd
  refine .next ?_
  split
  · exact .ite h (.mapPw (.mapPins (h.upd.clearDevice.setRegBit.railsOff.foldl fun _ _ h => h.setDom)))
  · exact h

theorem Inv.execPwrfailRise (h : s.Inv) : Keeps (execPwrfailRise s) :=
  .next <| .ite h <|
    have h := h.mapPins.mapPw
    .ite h.raise h

theorem Inv.linksDrop (h : s.Inv) : s.linksDrop.Inv := by
  refine
    Inv.foldl (.foldl (.foldl (.foldl h fun _ _ h => h.netDown) fun _ _ h => ?_) fun _ _ h => ?_) fun _ _ h =>
      h.setRegBit
  · split
    · next he => exact h.execReservoirLinkLoss _ he
    · exact h
  · split
    · next he => exact h.execUloonLinkDown _ he
    · exact h

theorem Inv.railLost {r : Nat} (h : s.Inv) : (s.railLost r).Inv :=
  .ite h <|
    have h := h.mapPins.railShow
    .ite h.mapPins.powerFail (.ite h.linksDrop.raise h.cardsOff.fieldOff.raise)

theorem Inv.pmbError {fault : Option (Fin 6)} (h : s.Inv) : (s.pmbError fault).Inv := by
  unfold State.pmbError
  extract_lets +onlyGivenNames _ s
  have h : s.Inv := .raise (.setRegBit (h.foldl fun _ _ h => .ite h h.emit))
  split
  · exact h.railLost
  · exact h

theorem Inv.execPmbusTelemetryPoll {ok : Bool} {fault : Option (Fin 6)} (h : s.Inv) :
    Keeps (execPmbusTelemetryPoll ok fault s) := by
  unfold Machine.execPmbusTelemetryPoll
  refine .next ?_
  refine .ite h ?_
  extract_lets +onlyGivenNames s
  have h : s.Inv := h.foldl fun _ _ h => .ite h (h.foldl fun _ _ h => h.emit)
  exact .ite h.mapPw (.ite h.mapPw.pmbError h.mapPw)

theorem Inv.parkPower {v : Nat} (h : s.Inv) : (s.parkPower v).Inv := h.setMaskBit.mapPw.parkNext.raise

theorem Inv.capVats {f : Nat} (h : s.Inv) : (State.capVats f s).Inv := by
  induction f generalizing s with
  | zero => exact h
  | succ f ih =>
    refine .ite h ?_
    split
    · exact ih h.parkPower
    · exact h

theorem Inv.unpark {v : Nat} (h : s.Inv) : (s.unpark v).Inv := h.mapPw.setDom.mapBt.raise
theorem Inv.uncapVats (h : s.Inv) : s.uncapVats.Inv := h.foldl fun _ _ h => .ite h.setMaskBit.unpark h
theorem Inv.recap (h : s.Inv) : s.recap.Inv := h.setReg.capVats.uncapVats

theorem Inv.execPmuPowerSample {mv da : Fin 4096} (h : s.Inv) : Keeps (execPmuPowerSample mv da s) :=
  .next <| .ite h <| .ite (.ite h.setRegs.mapPw (.recap (.ite h.setRegs.mapPw h.setRegs.mapPw.setRegBit.raise))) <|
    .ite (.ite h.setRegs.mapPw.mapPw.setRegBit.recap h.setRegs.mapPw) h.setRegs.mapPw

theorem Inv.parkThermal {v : Nat} (h : s.Inv) : (s.parkThermal v).Inv :=
  .ite h (h.setMaskBit.mapPw.parkNext.raise.foldl fun _ _ h => h.replayStop)

theorem Inv.thermalStop (h : s.Inv) : s.thermalStop.Inv :=
  .ite h.mapPw (.raise (.mapPw (.mapPins (.setRegBit (h.foldl fun _ _ h => h.parkThermal)))))

theorem Inv.execVatTempSample {v : Vat} {t : Int} (h : s.Inv) : Keeps (execVatTempSample v t s) :=
  .next <| .ite h <|
    have h := Inv.ite h.setRegField.setReg.mapPw.parkThermal h.setRegField.setReg.mapPw
    .ite h.thermalStop h

theorem Inv.execThermalUnpark {v : Vat} (h : s.Inv) : Keeps (execThermalUnpark v s) := by
  unfold Machine.execThermalUnpark
  extract_lets +onlyGivenNames _
  refine .next ?_
  split
  · exact
      .ite h <|
        have h := h.upd.setMaskBit
        .ite h (.ite h.unpark h.setMaskBit)
  · exact h

theorem Inv.execThermalStopRelease (h : s.Inv) : Keeps (execThermalStopRelease s) := by
  unfold Machine.execThermalStopRelease
  refine .next ?_
  split
  · exact .ite h h.upd.setRegBit.mapPins.raise
  · exact h

theorem Inv.execHbmStackHot {n : Fin 2} {t : Int} (h : s.Inv) : Keeps (execHbmStackHot n t s) :=
  .next <| .ite h <|
    have h := h.setReg.setRegBit
    have h := Inv.ite h.raise h
    .ite h.thermalStop h

theorem Inv.resetCmd {who : Sender} {w : Word} (h : s.Inv) : (s.resetCmd who w).Inv := by
  unfold State.resetCmd
  extract_lets +onlyGivenNames _ _
  refine .ite h.errAt ?_
  split
  · exact h
  · exact .ite h.warmReset h.errAt
  · exact .ite h.coldReset h.errAt
  · exact h.resetCore.upd
  · exact .ite h.vatLost h.errAt
  · exact h.setRegs
  · exact h.errAt

theorem Inv.wdogKick {who : Sender} {w : Word} (h : s.Inv) : (s.wdogKick who w).Inv := by
  unfold State.wdogKick
  split
  · exact .ite h (.ite h.upd (.ite h.upd h))
  · exact h

theorem Inv.execWatchdogWarning {p : Fin 2} (h : s.Inv) : Keeps (execWatchdogWarning p s) := by
  unfold Machine.execWatchdogWarning
  refine .next ?_
  split
  · exact h.upd.raise
  · exact h

theorem Inv.execWatchdogExpiry {p : Fin 2} (h : s.Inv) : Keeps (execWatchdogExpiry p s) := by
  unfold Machine.execWatchdogExpiry
  refine .next ?_
  split
  · exact .ite h.upd.warmReset h.upd.servicePairDown
  · exact h

/-! ### Machine/Start.lean -/

theorem Inv.batteryLoss (h : s.Inv) : s.batteryLoss.Inv :=
  .ite h.mapTm <|
    have h := Inv.ite h.mapTm h.mapTm.batteryFirst
    .ite h.setRegBit.latch.burn h.setRegBit

theorem Inv.latchComplete (h : s.Inv) : s.latchComplete.Inv :=
  have h := Inv.ite h.eraseRoots.certClear.setRegBit (.ite h.certClear.setRegBit h)
  .scrapIf (.ite h.burn h)

theorem Inv.execPowerOnReset (h : s.Inv) : Keeps (execPowerOnReset s) := by
  unfold Machine.execPowerOnReset
  refine .next ?_
  refine .ite h ?_
  extract_lets +onlyGivenNames _ _ s₁ _ s₂ _ s₃
  have h₁ : s₁.Inv := h.upd.mapTm
  have h₂ : s₂.Inv := .latchComplete (.ite h₁.batteryLoss h₁)
  have h₃ : s₃.Inv := .ite h₂.coldReset.raise h₂.coldReset
  exact .ite h₃.raise h₃

theorem Inv.recoverChain {st : Bytes} {k : Nat} (h : s.Inv) : (s.recoverChain st k).Inv :=
  .ite h <|
    have h := h.setChain.setReg64.setReg64.setReg
    .refreshChain (.startEpoch (.queueRec (.ite h.queueRec.bump.raise h)))

theorem Inv.recoverJournal (h : s.Inv) : s.recoverJournal.Inv := by
  unfold State.recoverJournal
  extract_lets +onlyGivenNames _ _ _ s₁ _ s₂ s₃ _
  have h₁ : s₁.Inv := h.setReg.setReg64
  have h₂ : s₂.Inv := .ite h₁.raise h₁
  have h₃ : s₃.Inv := .ite h₂.createChain (h₂.foldl fun _ _ h => h.recoverChain)
  exact .raise (.writeStateBlock (.setRegBit (.ite h₃.setRegs h₃.setRegBit)))

theorem Inv.recoverCounters {d : Nat} (h : s.Inv) : (s.recoverCounters d).Inv := by
  unfold State.recoverCounters
  extract_lets +onlyGivenNames _ _
  refine .foldl h fun _ _ h => ?_
  split
  · exact .ite h.writeCounter h
  · exact h

theorem Inv.recoverVault {d : Nat} (h : s.Inv) : (s.recoverVault d).Inv := h.mapKs
theorem Inv.recoverNext {d : Nat} (h : s.Inv) : (s.recoverNext d).Inv := h.foldl fun _ _ h => h.setReg

theorem Inv.recoverDeckle {d : Nat} (h : s.Inv) : (s.recoverDeckle d).Inv :=
  .recoverNext (.recoverVault (.recoverCounters (h.foldl fun _ _ h => h.recoverKey)))

theorem Inv.chooseRecords (h : s.Inv) : s.chooseRecords.Inv :=
  h.foldl fun _ _ h =>
    .ite
      (have h := Inv.ite h.raise.setRegBit h.raise
       .ite h.setRegBit h)
      <|
      h.deepRepair.foldl fun _ _ h => h.raise.bump

theorem Inv.setJcert {c : Bytes} (h : s.Inv) : (s.setJcert c).Inv := h.deepWrite

theorem Inv.finishLife (h : s.Inv) : s.finishLife.Inv := by
  unfold State.finishLife
  extract_lets s₁ s₂ s
  have h₁ : s₁.Inv := .foldl h fun _ _ h => h.deepErase
  have h₂ : s₂.Inv := .ite h₁ h₁.setJcert
  have h : s.Inv := .ite h h₂.mapKs.mapJn
  exact .ite h.eraseRoots h

theorem Inv.reportLatch (h : s.Inv) : s.reportLatch.Inv := .ite h.raise.raise.tamperAck h

theorem Inv.katShow {v : Nat} {bad : Option Nat} (h : s.Inv) : (s.katShow v bad).Inv :=
  h.setRegField.setRegField.setRegField

theorem Inv.startVat {v : Nat} (h : s.Inv) : (s.startVat v).Inv := by
  unfold State.startVat
  extract_lets +onlyGivenNames s₁ s₂ s₃ _
  have h₁ : s₁.Inv := h.instVat.loadVat
  have h₂ : s₂.Inv := by
    unfold s₂
    split
    · exact h₁.instLane
    · exact h₁
  have h₃ : s₃.Inv := h₂.katShow.resetCore.mapBt
  exact .ite h₃.setDom.mapBt h₃.setDom

theorem Inv.failVat {v : Nat} (h : s.Inv) : (s.failVat v).Inv := h.setMaskBit.setDom
theorem Inv.katFail {v : Nat} (h : s.Inv) : (s.katFail v).Inv := h.katShow.tookFree.failVat

theorem Inv.startVats {kat : Nat} (h : s.Inv) : (s.startVats kat).Inv :=
  .foldl
    (.devReseed <| .capVats <| .setReg <|
       .foldl (.foldl (h.foldl fun _ _ h => h.failVat.raise) fun _ _ h => h.katFail) fun _ _ h => .ite h h.setDom)
    fun _ _ h => h.startVat

theorem Inv.startStageOne (h : s.Inv) : s.startStageOne.Inv :=
  have h := Inv.ite h.extend.wmarkAdvance h
  .springEnable (.setRegs (.wipe (.ite h.extend.extend.wmarkAdvance h)))

theorem Inv.startInterfaces (h : s.Inv) : s.startInterfaces.Inv := by
  unfold State.startInterfaces
  extract_lets +onlyGivenNames _
  split
  · exact h.setReg.setRegBit.setReg
  · exact h.setReg

theorem Inv.startWork {kat : Nat} (h : s.Inv) : (s.startWork kat).Inv := by
  unfold State.startWork
  extract_lets +onlyGivenNames _ s
  have h : s.Inv := h.chooseRecords.finishLife.lifeState.lifeRecord.startInterfaces.reportLatch
  refine .ite h.mouldRegs.measure ?_
  refine .ite h.coldReset.raise ?_
  extract_lets +onlyGivenNames s _ _ _ _
  have h : s.Inv := by
    unfold s
    split
    · exact h.setRegBytes
    · exact h
  exact .setRegBit (.startVats (.setRegBit (h.mapMd.recoverJournal.startMould.foldl fun _ _ h => h.recoverDeckle)))

theorem Inv.execDeviceStart {fwOk : Bool} {kat : BitVec 64} {late : Bool} (h : s.Inv) :
    Keeps (execDeviceStart fwOk kat late s) :=
  .next <| .ite h <| .ite (.ite h.startStageOne h.startFailure) <|
    have h := Inv.ite h h.mapPw.startWork
    .ite h.beatStart h

theorem Inv.replayBack {v : Nat} (h : s.Inv) : (s.replayBack v).Inv :=
  h.foldl fun _ _ h => h.replayMark.answerCmd.replayShow.mapLf

theorem Inv.execShutdown {job : Nat} (h : s.Inv) : Keeps (execShutdown job s) := by
  unfold Machine.execShutdown
  refine .next ?_
  split
  · exact h
  · exact .ite h (.mapPw (.mapBt (h.foldl fun _ _ h => h.answerAt)))

theorem Inv.secretsOff (h : s.Inv) : s.secretsOff.Inv :=
  .filterMem (.mapJn (.mapKs (.springClear (.foldl h fun _ _ h => h.vatLost))))

theorem Inv.powerOff {result pass : Nat} (h : s.Inv) : (s.powerOff result pass).Inv := by
  unfold State.powerOff
  extract_lets s₁ s₂ s₃
  have h₂ : s₂.Inv := .railsOff (.foldl h.certWrite.clearDevice fun _ _ h => h.setDom)
  exact h₂.mapPins.mapPw

theorem Inv.shutEdge (h : s.Inv) : s.shutEdge.Inv := by
  unfold State.shutEdge
  split
  · exact h
  · split
    · exact .ite h (.answerCmd (.ite h.journalCommitAll.journalDrain h))
    · extract_lets +onlyGivenNames s
      have h : s.Inv := .secretsOff (.ite h.journalCommitAll.journalDrain h)
      exact .ite h.setRegField.setRegField.mapPw h.powerOff

theorem Inv.excludeCells {cells : BitVec 128} (h : s.Inv) : (s.excludeCells cells).Inv := h.mapSpr

/-! ### Machine/Life.lean -/

theorem Inv.lifeRefuse {job cause : Nat} (h : s.Inv) : (s.lifeRefuse job cause).Inv := h.setRegField.answerCmd

theorem Inv.execIdentity {job : Nat} (h : s.Inv) : Keeps (execIdentity job s) := by
  unfold Machine.execIdentity
  refine .next ?_
  split
  · exact h
  · exact .ite h.lifeRefuse (.ite h.answerCmd (.ite h.lifeRefuse h.deepWrite.answerCmd))

theorem Inv.spend (h : s.Inv) : s.spend.Inv := h.mapLf.setReg.setRegBit

theorem Inv.newChallenge (h : s.Inv) : s.newChallenge.Inv :=
  .setRegBit (.setReg (.mapLf (.ite_snd h.drawDev h.tookFree)))

theorem Inv.execLifeChallenge {job : Nat} (h : s.Inv) : Keeps (execLifeChallenge job s) := by
  unfold Machine.execLifeChallenge
  refine .next ?_
  split
  · exact h
  · exact h.newChallenge.answerCmd

theorem Inv.execLifeChallengeExpiry (h : s.Inv) : Keeps (execLifeChallengeExpiry s) := by
  unfold Machine.execLifeChallengeExpiry
  refine .next ?_
  split
  · exact h.upd.spend
  · exact h

theorem Inv.putLife {st op signer : Nat} {raise : Bool} {digests : Bytes} (h : s.Inv) :
    (s.putLife st op signer raise digests).Inv := h.deepWrite.lifeRecord

theorem Inv.lifeApply {op : Nat} {b : Bytes} (h : s.Inv) : (s.lifeApply op b).Inv := by
  unfold State.lifeApply
  extract_lets _
  split
  · exact h.springLeaveBlank.tookFree.deepWrite.deepWrite.mapKs.mapJn.issueCert.setJcert.putLife.setRegBit
  · exact h.putLife.setRegBit.mapLf.lifeState
  · exact h.putLife.setRegBit
  · exact h.mapLf.mapCores.putLife.setRegBit
  · exact h.setRegBit.eraseRoots
  · exact h.putLife.lifeState

theorem Inv.lifeMake {m : LifeMove} (h : s.Inv) : (s.lifeMake m).Inv :=
  .mapLf (.lifeApply (.secretsOff (.mapBt (.ite h.journalCommitAll.journalDrain h))))

theorem Inv.lifeGo {job : Option Nat} {op : Nat} {b : Bytes} (h : s.Inv) : (s.lifeGo job op b).Inv := by
  unfold State.lifeGo
  extract_lets +onlyGivenNames ok
  have hok (t : State) (h : t.Inv) : (ok t).Inv := by
    unfold ok
    split
    · exact h.answerCmd
    · exact h.mapLf
  refine .ite (hok _ h.lifeApply) ?_
  extract_lets +onlyGivenNames s₁ s₂
  have h : s₂.Inv := .mapBt (.foldl h fun _ _ h => h.answerAt)
  exact .ite h.mapLf (hok _ h.lifeMake).coldReset

theorem Inv.lifeEdge (h : s.Inv) : s.lifeEdge.Inv := by
  unfold State.lifeEdge
  split
  · exact h
  · refine .ite ?_ (.ite h h.coldReset)
    extract_lets +onlyGivenNames _
    split
    · exact h.lifeMake.answerCmd
    · exact h.lifeMake.mapLf

theorem Inv.lifeTry {op : Nat} {b : Bytes} (h : s.Inv) : (s.lifeTry op b).2.Inv :=
  have h := Inv.ite h.spend h
  .ite h (.ite h.setRegField.spend.bump h.setRegField)

theorem Inv.execLifeChange {job : Nat} (h : s.Inv) : Keeps (execLifeChange job s) := by
  unfold Machine.execLifeChange
  refine .next ?_
  split
  · exact h
  · exact .ite h (.ite h.lifeTry.lifeGo h.lifeTry.answerCmd)

theorem Inv.authShow (h : s.Inv) : s.authShow.Inv := h.emit

theorem Inv.execLifeAuthSubmit (h : s.Inv) : Keeps (execLifeAuthSubmit s) := by
  unfold Machine.execLifeAuthSubmit
  refine .next (.ite h ?_)
  extract_lets +onlyGivenNames _ _ s _ r
  have hr : r.2.Inv := .ite_snd h.mapLf.lifeTry h.mapLf.setRegField
  exact .authShow (.ite hr.lifeGo hr.mapLf)

/-! ### Machine/Shown.lean -/

theorem Inv.latchRead {who : Sender} {k : Nat} (h : s.Inv) : (s.latchRead who k).2.Inv := by
  unfold State.latchRead
  extract_lets +onlyGivenNames _
  split
  · exact h.upd
  · exact .ite_snd h.upd h

theorem Inv.readReg {who : Sender} {k : Nat} (h : s.Inv) : OptInv Prod.snd (s.readReg who k) :=
  .ite h.springOut (.ite (.some h.springRawRead) (.ite (.some h.uartRead) (.ite h.vdrOut (.some h.latchRead))))

/-! ### Machine/Writes.lean -/

theorem Inv.afterWrite {who : Sender} {k : Nat} {old v : Word} (h : s.Inv) : (s.afterWrite who k old v).Inv :=
  .ite (.ite h.beatStart h) (.ite h.springCtrl (.ite h.recap (.ite h.uartFlush (.ite (.ite h h.clessEnable) h))))

theorem Inv.plainWrite {who : Sender} {k : Nat} {v : Word} {r : RegRow} (h : s.Inv) : (s.plainWrite who k v r).Inv := by
  unfold State.plainWrite
  extract_lets +onlyGivenNames _ _ _ _ s _ _ _ _
  have h : s.Inv := .ite h.errAt h
  refine .ite h.errAt ?_
  extract_lets +onlyGivenNames rg
  clear_value rg
  split
  · exact h.errAt
  · exact h.errAt.setReg.afterWrite
  · exact .afterWrite (.setReg (h.foldl fun _ _ h => h.consume))

theorem Inv.queueStart {f q : Nat} (h : s.Inv) : (s.queueStart f q).Inv := h.setRegs.startPhase
theorem Inv.queueClose {f q : Nat} (h : s.Inv) : (s.queueClose f q).Inv := h.cancelJobs.mapBt
theorem Inv.diagStart {d : Nat} (h : s.Inv) : (s.diagStart d).Inv := h.setRegs.startPhase

theorem Inv.hostWrite {who : Sender} {f o k : Nat} {v : Word} {r : RegRow} (h : s.Inv) :
    (s.hostWrite who f o k v r).Inv :=
  .ite h.errAt <| .ite (.ite h.plainWrite.queueStart (.ite h.plainWrite.queueClose h.plainWrite)) <|
    .ite (.ite h.plainWrite.diagStart h.plainWrite) <|
      .ite h.plainWrite.ringFreed (.ite h.plainWrite.ringFreed.hostFetch (.ite h.plainWrite.hostFetch h.plainWrite))

theorem Inv.cardCmd {who : Sender} {n : Nat} {v : Word} (h : s.Inv) : (s.cardCmd who n v).Inv :=
  have h := Inv.ite h.cardCmdActivate h
  have h := Inv.ite h.cardCmdDeactivate h
  .ite h.cardCmdSend h

theorem Inv.clessCmd {who : Sender} {v : Word} (h : s.Inv) : (s.clessCmd who v).Inv :=
  have h := Inv.ite h.clessCmdDeselect h
  .ite h.clessCmdSend h

theorem Inv.admitCtrl {who : Sender} {v : Word} {r : RegRow} (h : s.Inv) : (s.admitCtrl who v r).Inv :=
  .ite h.errAt.plainWrite h.plainWrite

theorem Inv.sluiceWrite {who : Sender} {o : Nat} {v : Word} (h : s.Inv) : (s.sluiceWrite who o v).Inv := by
  unfold State.sluiceWrite
  refine .ite h.sluiceClear ?_
  refine .ite h ?_
  extract_lets +onlyGivenNames _
  refine .ite h ?_
  split
  · exact h.writeSluiceBase
  · exact h.writeSluiceBase
  · exact h.writeAttr
  · exact h

theorem Inv.vatWrite {who : Sender} {v o k : Nat} {w : Word} {r : RegRow} (h : s.Inv) :
    (s.vatWrite who v o k w r).Inv := by
  unfold State.vatWrite
  refine .ite h.pkeCmd ?_
  refine .ite ?_ (.ite h.vevRing h.plainWrite)
  extract_lets +onlyGivenNames _
  split
  · exact h.writeSluiceBase
  · exact h.writeVslAttr
  · exact h

theorem Inv.commandWrite {who : Sender} {k : Nat} {v : Word} {r : RegRow} (h : s.Inv) :
    OptInv id (s.commandWrite who k v r) := by
  refine
    .ite (.some h.admitCtrl) <| .ite (.some h.springCmd) <|
      .ite (.some (.ite h.tamperAck h)) <| .ite (.some h.resetCmd) <| .ite (.some h.wmarkAdvance) <|
        .ite (.some h.wmarkExtend) <| .ite (.some h.doorbell) <| .ite (.some h.wdogKick) <| .ite (.some h.tracePut) <|
          .ite (.some h.errcPop) <| .ite (.some h.uartWrite) <| .ite (.some h.clessCmd) <| .ite (.some h.setReg) ?_
  split
  · exact .some h.pendClear
  · exact .some h.errcClear
  · exact .some h.cardCmd
  · exact .none

theorem Inv.writeReg {who : Sender} {k : Nat} {v : Word} (h : s.Inv) : (s.writeReg who k v).Inv := by
  unfold State.writeReg
  extract_lets
  split
  · exact h
  · exact .ite h.vatWrite (.ite h.sluiceWrite (.ite h.hostWrite (h.commandWrite.getD h.plainWrite)))

/-! ### Machine/Bus.lean -/

theorem Inv.busDenied {who : Sender} {kind : Kind} {a : Nat} {d : Deny} (h : s.Inv) : (s.busDenied who kind a d).Inv := by
  unfold State.busDenied
  refine .ite ?_ h.errAt
  split
  · extract_lets +onlyGivenNames _
    split
    · exact h.sluiceRefused.raiseLocal
    · exact h.sluiceRefused
  · exact h

theorem Inv.setDeepByte {o : Nat} {b : Byte} (h : s.Inv) : (s.setDeepByte o b).Inv := .ite h.upd h.setByte

theorem Inv.memWrite {a n : Nat} {v : Word} (h : s.Inv) : (s.memWrite a n v).Inv :=
  .ite (h.foldl fun _ _ h => h.setDeepByte) h.write

theorem Inv.poisonRead {who : Sender} {kind : Kind} {a : Nat} (h : s.Inv) : (s.poisonRead who kind a).Inv :=
  h.raise.errAt

theorem Inv.busLoad {who : Sender} {size : Size} {a : Nat} (h : s.Inv) : (s.busLoad who size a).2.Inv := by
  unfold State.busLoad
  split
  · exact h.busDenied
  · refine .ite_snd ?_ (.ite_snd h.poisonRead h)
    split
    · next he => exact h.readReg _ he
    · exact h.errAt

theorem Inv.busStore {who : Sender} {size : Size} {a : Nat} {v : Word} (h : s.Inv) : (s.busStore who size a v).2.Inv := by
  unfold State.busStore
  split
  · exact h.busDenied
  · exact .ite h.writeReg h.memWrite

theorem Inv.busAtomic {who : Sender} {a : Nat} {f : Word → Option Word} (h : s.Inv) : (s.busAtomic who a f).2.Inv := by
  unfold State.busAtomic
  split
  · exact h.busDenied
  · refine .ite_snd h.poisonRead ?_
    dsimp only
    split
    · exact h.memWrite
    · exact h

theorem Inv.localDenied {v : Nat} {priv : Bool} {kind : Kind} {a : Nat} {d : Deny} (h : s.Inv) :
    (s.localDenied v priv kind a d).Inv := .ite h.sluiceRefused.raiseLocal (.ite h.errAt h)

theorem Inv.localLoad {v : Nat} {priv : Bool} {size : Size} {a : Nat} (h : s.Inv) : (s.localLoad v priv size a).2.Inv := by
  unfold State.localLoad
  split
  · exact h.localDenied
  · extract_lets
    split
    · exact h.tookFree
    · split
      · next he => exact h.readReg _ he
      · exact h.errAt
    · exact h

theorem Inv.localStore {v : Nat} {priv : Bool} {size : Size} {a : Nat} {w : Word} (h : s.Inv) :
    (s.localStore v priv size a w).2.Inv := by
  unfold State.localStore
  split
  · exact h.localDenied
  · dsimp only
    split
    · exact h
    · exact h.writeReg
    · exact h.write

theorem Inv.regCommand {who : Sender} {size : Size} {a : Nat} {v : Word} (h : s.Inv) :
    (s.regCommand who size a v).Inv := by
  unfold State.regCommand
  extract_lets +onlyGivenNames _ own
  clear_value own
  refine .ite h ?_
  split
  · exact h.localStore
  · exact h.busStore

theorem Inv.readCommand {who : Sender} {a : Nat} (h : s.Inv) : (s.readCommand who a).Inv := by
  unfold State.readCommand
  extract_lets +onlyGivenNames _ own
  clear_value own
  refine .ite h ?_
  split
  · exact h.localLoad
  · exact h.busLoad

/-! ### Machine/RegCommands.lean -/

theorem Inv.wr {who : Sender} {a : Nat} {v : Word} (h : s.Inv) : (s.wr who a v).Inv := h.regCommand
theorem Inv.springBit {who : Sender} {i : Nat} {b : Bool} (h : s.Inv) : (s.springBit who i b).Inv := h.wr
theorem Inv.resetWrite {who : Sender} {key : Byte} {cmd : Nat} (h : s.Inv) : (s.resetWrite who key cmd).Inv := h.wr

/-! ### Machine/Ax32.lean -/

theorem Inv.coreLoad {c : Nat} {priv : Bool} {size : Size} {addr : Word} (h : s.Inv) :
    (s.coreLoad c priv size addr).2.Inv := by
  unfold State.coreLoad
  split
  · exact h.localLoad
  · exact h.busLoad
  · exact h

theorem Inv.coreStore {c : Nat} {priv : Bool} {size : Size} {addr v : Word} (h : s.Inv) :
    (s.coreStore c priv size addr v).2.Inv := by
  unfold State.coreStore
  split
  · exact h.localStore
  · exact h.busStore
  · exact h

theorem Inv.storePerform {c : Nat} {e : StoreEntry} (h : s.Inv) : (s.storePerform c e).Inv := by
  unfold State.storePerform
  refine .ite ?_ h.busStore
  split
  · exact h
  · exact h.writeReg
  · exact h.write

theorem Inv.flushStack {c : Nat} {l : List StoreEntry} (h : s.Inv) : (s.flushStack c l).Inv := by
  induction l generalizing s with
  | nil => exact h
  | cons e es ih =>
    refine .ite ?_ (ih h)
    split
    · exact ih h.storePerform.updCore
    · exact h

theorem Inv.lockup {c : Nat} (h : s.Inv) : (s.lockup c).Inv :=
  .ite h.setCore.setRegs.parkFault <|
    .ite h.setCore.write.mapPins.primaryPairDown h.setCore.write.mapPins.servicePairDown

theorem Inv.pushWords {c : Nat} {a : Word} {l : List Word} (h : s.Inv) : (s.pushWords c a l).2.Inv := by
  induction l generalizing s a with
  | nil => exact h
  | cons w ws ih =>
    unfold State.pushWords
    split
    · next he => exact ih (h.coreStore.of_eq he)
    · next he => exact h.coreStore.of_eq he

theorem Inv.squash {c : Nat} (h : s.Inv) : (s.squash c).Inv := .ite h.updCore.tookFree h

theorem Inv.enter {c v : Nat} {cause addr epc : Word} {pri : Option Nat} (h : s.Inv) :
    (s.enter c v cause addr epc pri).Inv := by
  unfold State.enter
  extract_lets +onlyGivenNames _ _ _
  refine .ite h.squash.lockup ?_
  extract_lets +onlyGivenNames _ _
  refine .ite h.squash.flushStack.pushWords.lockup ?_
  split
  · next he =>
      have h := Inv.of_eq h.squash.flushStack.pushWords.coreLoad he
      exact h.lockup
  · next he =>
      have h := Inv.of_eq h.squash.flushStack.pushWords.coreLoad he
      exact .ite h.lockup h.updCore

theorem Inv.trapTo {c v sub : Nat} {addr : Word} {n : Nat} (h : s.Inv) : (s.trapTo c v sub addr n).Inv := h.enter
theorem Inv.denied {c : Nat} {d : Deny} {addr : Word} (h : s.Inv) : (s.denied c d addr).Inv := h.trapTo

theorem Inv.xret {c : Nat} (h : s.Inv) : (s.xret c).Inv := by
  unfold State.xret
  extract_lets +onlyGivenNames _
  refine .ite h.lockup ?_
  extract_lets +onlyGivenNames _
  split
  · next he =>
      have h := Inv.of_eq h.flushStack.coreLoad he
      exact h.lockup
  · next he =>
      have h := Inv.of_eq h.flushStack.coreLoad he
      split
      · next he =>
          have h := Inv.of_eq h.coreLoad he
          exact h.lockup
      · next he =>
          have h := Inv.of_eq h.coreLoad he
          exact h.updCore

theorem Inv.debugEvent {c why : Nat} (h : s.Inv) : (s.debugEvent c why).Inv := .ite h.setCore.enter h.setCore.updCore

theorem Inv.boundary {c : Nat} (h : s.Inv) : (s.boundary c).Inv := by
  unfold State.boundary
  extract_lets +onlyGivenNames _
  refine .ite h ?_
  extract_lets +onlyGivenNames s₁ _ s₂ _
  have h₁ : s₁.Inv := by
    unfold s₁
    split
    · exact h.setCore.enter
    · exact h
  have h₂ : s₂.Inv := .ite h₁.setCore.enter h₁
  exact .ite h₂ (.ite h₂.debugEvent (.ite h₂.debugEvent h₂))

theorem Inv.fetchFault {c sub : Nat} (h : s.Inv) : (s.fetchFault c sub).Inv := by
  unfold State.fetchFault
  extract_lets +onlyGivenNames _ s
  have h : s.Inv := by
    unfold s
    refine .ite h ?_
    split
    · exact h.sluiceRefused.raiseLocal
    · exact h.sluiceRefused
    · exact h
  exact h.trapTo

theorem Inv.spendBudget {c worst : Nat} (h : s.Inv) : (s.spendBudget c worst).Inv := .ite h h.setCore.tookFree

theorem Inv.issue {c : Nat} {priv : Bool} {worst : Nat} {body : CoreState → State → State} (h : s.Inv)
    (hb : ∀ x t, t.Inv → (body x t).Inv) : (s.issue c priv worst body).Inv := by
  unfold State.issue
  refine .ite h (.ite h.debugEvent ?_)
  extract_lets
  split
  · exact h.setCore.fetchFault.boundary
  · exact .ite h.setCore.trapTo.boundary (hb _ _ h.setCore.spendBudget).boundary

theorem Inv.retire {c : Nat} {pc : Word} (h : s.Inv) : (s.retire c pc).Inv := h.updCore

theorem Inv.compute {c worst : Nat} {gd : Gpr} {srcs : List Gpr} {f : CoreState → Word} (h : s.Inv) :
    (s.compute c worst gd srcs f).Inv := h.issue fun _ _ h => h.updCore.retire

theorem Inv.loadDone {c : Nat} {gd : Gpr} {v : Word} {taint : Bool} (h : s.Inv) : (s.loadDone c gd v taint).Inv :=
  h.updCore.retire

theorem Inv.doLoad {c : Nat} {size : Size} {signed : Bool} {gd ga : Gpr} {imm : BitVec 16} (h : s.Inv) :
    (s.doLoad c size signed gd ga imm).Inv := by
  unfold State.doLoad
  extract_lets +onlyGivenNames _ _ _ _ _
  refine .ite h ?_
  refine .issue h fun _ _ h => ?_
  refine .ite h.trapTo ?_
  split
  · exact h.denied
  · split
    · exact h.loadDone
    · split
      · next he =>
          have h := Inv.of_eq h.localLoad he
          exact h.loadDone
      · next he =>
          have h := Inv.of_eq h.localLoad he
          exact h.denied
  · exact .ite h.loadDone h.updCore

theorem Inv.doStore {c : Nat} {size : Size} {gs ga : Gpr} {imm : BitVec 16} (h : s.Inv) :
    (s.doStore c size gs ga imm).Inv := by
  refine .ite h (.issue h fun _ _ h => .ite h.trapTo ?_)
  split
  · exact h.denied
  · split
    · exact h.localDenied.denied
    · exact h.updCore.retire
  · exact h.updCore.retire

theorem Inv.doAtomic {c : Nat} {gd : Gpr} {a : Word} {taint back : Bool} {f : Word → Option Word} (h : s.Inv) :
    (s.doAtomic c gd a taint back f).Inv := by
  unfold State.doAtomic
  extract_lets +onlyGivenNames x done fail
  have hd (t : State) (v) (h : t.Inv) : (done t v).Inv := h.updCore.retire
  have hf (t : State) (d) (h : t.Inv) : (fail t d).Inv := h.updCore.denied
  refine .ite (hf _ _ h) ?_
  split
  · exact hf _ _ h
  · split
    · exact hf _ _ h.localDenied
    · refine hd _ _ ?_
      split
      · exact h.write
      · exact h
  · refine .ite h ?_
    split
    · next he => exact hd _ _ (h.busAtomic.of_eq he)
    · next he => exact hf _ _ (h.busAtomic.of_eq he)

theorem Inv.waitGo {c : Nat} {back : Bool} (h : s.Inv) : (s.waitGo c back).Inv := by
  unfold State.waitGo
  extract_lets +onlyGivenNames _
  refine .ite h ?_
  split
  · exact h
  · exact h.setCore.retire
  · exact h.setCore.retire
  · exact h.doAtomic
  · exact h.doAtomic

theorem Inv.doWait {c : Nat} {priv : Bool} {worst : Nat} {w : CoreState → Waiting} (h : s.Inv) :
    (s.doWait c priv worst w).Inv := h.issue fun _ _ h => h.updCore.waitGo

theorem Inv.branched {c : Nat} {x : CoreState} {taken tainted : Bool} (h : s.Inv) :
    (s.branched c x taken tainted).Inv := .ite h (.updCore (.ite h h.squash))

theorem Inv.branch {c : Nat} {ga gb : Gpr} {imm : BitVec 16} {f : Word → Word → Bool} (h : s.Inv) :
    (s.branch c ga gb imm f).Inv := h.issue fun _ _ h => h.branched.retire

theorem Inv.link {c : Nat} {gd : Gpr} {pc : Word} {taint : Bool} (h : s.Inv) : (s.link c gd pc taint).Inv := h.updCore

theorem Inv.jump {c : Nat} {gd : Option Gpr} {ga : Gpr} {imm : BitVec 16} (h : s.Inv) : (s.jump c gd ga imm).Inv := by
  unfold State.jump
  refine .issue h fun _ _ h => ?_
  extract_lets +onlyGivenNames _
  refine .ite h.trapTo ?_
  extract_lets +onlyGivenNames s₁ s₂
  have h₁ : s₁.Inv := .ite h h.squash
  have h₂ : s₂.Inv := by
    unfold s₂
    split
    · exact h₁.link
    · exact .ite h₁ h₁.updCore
  exact h₂.retire

theorem Inv.sysRead {c n : Nat} {dbg : Bool} (h : s.Inv) : OptInv Prod.snd (s.sysRead c n dbg) := by
  unfold State.sysRead
  extract_lets x plain
  have hp (w) : OptInv Prod.snd (plain w) := .some h
  refine .ite (hp _) (.ite (hp _) (.ite (.ite .none (.ite (hp _) (.ite (hp _) (.ite (hp _) .none)))) ?_))
  split
  case h_3 | h_5 => exact .some h.setCore
  case h_21 => exact .none
  all_goals exact hp _

theorem Inv.sysLocked {c : Nat} (h : s.Inv) : (s.sysLocked c).Inv := h.capture.tookFree

theorem Inv.sysWrite {c n : Nat} {w : Word} {dbg : Bool} (h : s.Inv) : OptInv id (s.sysWrite c n w dbg) := by
  unfold State.sysWrite
  extract_lets x put aper
  have hs : OptInv id (some s) := .some h
  have hp (y) : OptInv id (put y) := .some h.setCore
  have ha (i v) : OptInv id (aper i v) := .ite (.some (.ite h h.sysLocked)) (hp _)
  refine .ite (ha _ _) (.ite (ha _ _) (.ite (.ite .none (.ite (hp _) (.ite hs (.ite (hp _) .none)))) ?_))
  split
  case h_10 => exact .ite (.some (.ite h h.sysLocked)) (hp _)
  case h_17 => exact .none
  case h_11 | h_12 | h_13 | h_14 | h_15 | h_16 => exact hp _
  all_goals exact hs

/-! ### Machine/Ax32Rows.lean -/

theorem Inv.srr {c : Nat} {gd : Gpr} {n : Nat} (h : s.Inv) : (s.srr c gd n).Inv := by
  refine .issue h fun _ _ h => ?_
  split
  · exact h.trapTo
  · next he => exact Inv.retire (.updCore (h.sysRead _ he))

theorem Inv.srw {c : Nat} {ga : Gpr} {n : Nat} (h : s.Inv) : (s.srw c ga n).Inv := by
  refine .issue h fun _ _ h => ?_
  split
  · exact h.trapTo
  · next he => exact Inv.retire (h.sysWrite _ he)

theorem Inv.trapInstr {c n : Nat} (h : s.Inv) : (s.trapInstr c n).Inv := h.issue fun _ _ h => h.trapTo
theorem Inv.xretInstr {c : Nat} (h : s.Inv) : (s.xretInstr c).Inv := h.issue fun _ _ h => h.xret.updCore
theorem Inv.wfeInstr {c : Nat} (h : s.Inv) : (s.wfeInstr c).Inv := h.issue fun _ _ h => h.retire.updCore

theorem Inv.jal {c : Nat} {gd : Gpr} {off : BitVec 21} (h : s.Inv) : (s.jal c gd off).Inv :=
  h.issue fun _ _ h => h.link.retire

theorem Inv.swapInstr {c : Nat} {gd ga gb : Gpr} (h : s.Inv) : (s.swapInstr c gd ga gb).Inv := h.doWait
theorem Inv.casInstr {c : Nat} {gd ga gb : Gpr} (h : s.Inv) : (s.casInstr c gd ga gb).Inv := h.doWait

theorem Inv.ax {c : Nat} {i : AxInstr} (h : s.Inv) : (s.ax c i).Inv := by
  unfold State.ax
  split
  · exact h.compute
  · exact h.compute
  · exact h.compute
  · exact h.compute
  · exact h.doLoad
  · exact h.doStore
  · exact h.swapInstr
  · exact h.casInstr
  · exact h.branch
  · exact h.jal
  · exact h.jump
  · exact h.jump
  · exact h.srr
  · exact h.srw
  · exact h.trapInstr
  · exact h.xretInstr
  · exact h.doWait
  · exact h.doWait
  · exact h.wfeInstr

theorem Inv.loadResponse {c : Nat} (h : s.Inv) : (s.loadResponse c).Inv := by
  unfold State.loadResponse
  extract_lets +onlyGivenNames _
  refine .ite h ?_
  split
  · split
    · next he =>
        have h := Inv.of_eq h.busLoad he
        exact h.loadDone.boundary
    · next he =>
        have h := Inv.of_eq h.busLoad he
        exact h.updCore.denied.boundary
  · exact .ite h.waitGo.boundary h

theorem Inv.storeAcked {c i : Nat} (h : s.Inv) : (s.storeAcked c i).Inv := by
  unfold State.storeAcked
  extract_lets +onlyGivenNames _
  refine .ite h ?_
  split
  · exact h
  · exact .ite h h.storePerform.updCore.waitGo.boundary

theorem Inv.storeLost {c : Nat} {e : StoreEntry} {d : Deny} (h : s.Inv) : (s.storeLost c e d).Inv :=
  h.updCore.waitGo.boundary

theorem Inv.refusedStore {c : Nat} (h : s.Inv) : (s.refusedStore c).Inv := by
  unfold State.refusedStore
  extract_lets +onlyGivenNames _
  refine .ite h ?_
  split
  · exact h
  · split
    · exact h
    · exact h.busDenied.storeLost

theorem Inv.feltTimeout {c : Nat} {addr : Word} (h : s.Inv) : (s.feltTimeout c addr).Inv := by
  unfold State.feltTimeout
  extract_lets +onlyGivenNames _
  refine .ite h ?_
  split
  · exact .ite h.errAt.updCore.denied.boundary h
  · split
    · exact .ite h.errAt.storeLost h
    · split
      · exact .ite h.errAt.updCore.denied.boundary h
      · exact .ite h.errAt.updCore.denied.boundary h
      · exact h

theorem Inv.interruptEntry {c : Nat} (h : s.Inv) : (s.interruptEntry c).Inv := by
  unfold State.interruptEntry
  extract_lets +onlyGivenNames _
  refine .ite h ?_
  split
  · exact h.enter.boundary
  · exact h

theorem Inv.budgetExpiry {c : Nat} (h : s.Inv) : (s.budgetExpiry c).Inv := .ite h h.setCore.boundary

theorem Inv.illegal {c : Nat} {w : Word} (h : s.Inv) : (s.illegal c w).Inv := by
  unfold State.illegal
  split
  · exact h
  · exact h.issue fun _ _ h => h.trapTo

theorem Inv.fetchRefused {c : Nat} (h : s.Inv) : (s.fetchRefused c).Inv := .ite (h.issue fun _ _ h => h) h

/-! ### Machine/Debug.lean -/

theorem Inv.dbgShow {code : Nat} {w : Word} (h : s.Inv) : (s.dbgShow code w).Inv := h.mapLf.emit

theorem Inv.dbgDo {f : Nat → State → State} (h : s.Inv) (hf : ∀ c t, t.Inv → (f c t).Inv) : (s.dbgDo f).Inv := by
  refine .ite h ?_
  split
  · exact hf _ _ h
  · exact h

theorem Inv.dbgHalted {f : Nat → State → State} (h : s.Inv) (hf : ∀ c t, t.Inv → (f c t).Inv) : (s.dbgHalted f).Inv :=
  .dbgDo h fun _ _ h => .ite (hf _ _ h) h.dbgShow

theorem Inv.fetchRun {c : Nat} (h : s.Inv) : (s.fetchRun c).Inv := by
  unfold State.fetchRun
  refine .ite h.fetchRefused ?_
  split
  · exact h.ax
  · exact h.illegal

theorem Inv.execDebugStep (h : s.Inv) : Keeps (execDebugStep s) :=
  .next <| h.dbgHalted fun _ _ h =>
    have h := h.updCore.fetchRun
    .dbgShow (.ite h.fetchRun h)

theorem Inv.execDebugReadRegister {n : BitVec 12} (h : s.Inv) : Keeps (execDebugReadRegister n s) := by
  refine .next (.dbgHalted h fun _ _ h => ?_)
  split
  · exact h.dbgShow
  · exact .ite h.dbgShow h.dbgShow

theorem Inv.execDebugWriteRegister {n : BitVec 12} {v : Word} (h : s.Inv) : Keeps (execDebugWriteRegister n v s) := by
  refine .next (.dbgHalted h fun _ _ h => ?_)
  split
  · exact h.updCore.dbgShow
  · exact .ite h.updCore.dbgShow h.dbgShow

theorem Inv.execDebugReadSystemRegister {n : BitVec 12} (h : s.Inv) : Keeps (execDebugReadSystemRegister n s) := by
  refine .next (.dbgHalted h fun _ _ h => ?_)
  split
  · next he => exact Inv.dbgShow (h.sysRead _ he)
  · exact h.dbgShow

theorem Inv.execDebugWriteSystemRegister {n : BitVec 12} {v : Word} (h : s.Inv) :
    Keeps (execDebugWriteSystemRegister n v s) := by
  refine .next (.dbgHalted h fun _ _ h => ?_)
  split
  · next he => exact Inv.dbgShow (h.sysWrite _ he)
  · exact h.dbgShow

theorem Inv.execDebugLoad (h : s.Inv) : Keeps (execDebugLoad s) := by
  unfold Machine.execDebugLoad
  refine .next ?_
  refine .dbgHalted h fun _ _ h => ?_
  extract_lets +onlyGivenNames _ _
  refine .ite h.dbgShow ?_
  refine .ite h.dbgShow ?_
  refine .ite h ?_
  split
  · next he =>
      have h := Inv.of_eq h.coreLoad he
      exact h.dbgShow
  · next he =>
      have h := Inv.of_eq h.coreLoad he
      exact h.dbgShow

theorem Inv.execDebugStore {v : Word} (h : s.Inv) : Keeps (execDebugStore v s) := by
  unfold Machine.execDebugStore
  refine .next ?_
  refine .dbgHalted h fun _ _ h => ?_
  extract_lets +onlyGivenNames _
  refine .ite h.dbgShow ?_
  split
  · next he =>
      have h := Inv.of_eq h.coreStore he
      exact h.dbgShow
  · next he =>
      have h := Inv.of_eq h.coreStore he
      exact h.dbgShow

/-! ### Machine/UserVerb.lean -/

theorem Inv.userWrite {u : UserRun} {a : Nat} {b : Bytes} (h : s.Inv) : (s.userWrite u a b).Inv := by
  unfold State.userWrite
  refine .foldl h fun _ _ h => ?_
  split
  · exact h.setByte
  · exact h

theorem Inv.userTrap {w : Work} {k : Option KeyRec} {u : UserRun} {x : CoreState} {n : Nat} (h : s.Inv) :
    (s.userTrap w k u x n).2.1.Inv := by
  unfold State.userTrap
  extract_lets g bad back ret block
  have hblock (f m) : (block f m).2.1.Inv := by
    refine .ite_mid h ?_
    split
    · exact h.userWrite
    · exact h
  split
  · exact h
  · refine .ite_mid h ?_
    split
    · next he => exact Inv.userWrite (h.drawVat _ he)
    · exact h
  · exact hblock _ _
  · exact hblock _ _
  · refine .ite_mid h ?_
    split
    · exact h.userWrite
    · exact h
  · exact .ite_mid h h.userWrite
  · exact h
  · exact h

theorem Inv.userLoad {v : Nat} {u : UserRun} {size : Size} {a : Word} (h : s.Inv) : (s.userLoad v u size a).2.Inv := by
  unfold State.userLoad
  extract_lets +onlyGivenNames _
  refine .ite_snd h ?_
  split
  · exact h
  · exact h.coreLoad

theorem Inv.userStore {v : Nat} {u : UserRun} {size : Size} {a d : Word} (h : s.Inv) :
    (s.userStore v u size a d).2.Inv := by
  unfold State.userStore
  extract_lets +onlyGivenNames _ _
  refine .ite_snd h ?_
  split
  · exact .ite_snd h.write (.ite h.busDenied h.localDenied)
  · split
    · next he =>
        have h := Inv.of_eq h.coreStore he
        exact h
    · next he =>
        have h := Inv.of_eq h.coreStore he
        exact h

theorem Inv.userAtomic {v : Nat} {u : UserRun} {a : Word} {f : Word → Option Word} (h : s.Inv) :
    (s.userAtomic v u a f).2.Inv := by
  unfold State.userAtomic
  refine .ite_snd h ?_
  split
  · refine .ite_snd ?_ (.ite h.localDenied h.busDenied)
    dsimp only
    split
    · exact h.write
    · exact h
  · split
    · exact h
    · exact h.busAtomic
    · split
      · exact h.localDenied
      · dsimp only
        split
        · exact h.write
        · exact h

theorem Inv.userInstr {w : Work} {k : Option KeyRec} {u : UserRun} {i : AxInstr} (h : s.Inv) :
    (s.userInstr w k u i).2.1.Inv := by
  unfold State.userInstr
  extract_lets x y next go stop jump
  have hjump (y t) : (jump y t).2.1.Inv := .ite_mid h h
  cases i with
  | load => 
    dsimp only
    split
    · next he => exact h.userLoad.of_eq he
    · next he => exact h.userLoad.of_eq he
  | store =>
    dsimp only
    split
    · next he => exact h.userStore.of_eq he
    · next he => exact h.userStore.of_eq he
    · next he => exact h.userStore.of_eq he
  | swap =>
    dsimp only
    split
    · next he => exact h.userAtomic.of_eq he
    · next he => exact h.userAtomic.of_eq he
  | cas =>
    dsimp only
    split
    · next he => exact h.userAtomic.of_eq he
    · next he => exact h.userAtomic.of_eq he
  | jr => exact hjump _ _
  | jalr => exact hjump _ _
  | srr => exact .ite_mid h h
  | trap => exact h.userTrap
  | _ => exact h

theorem Inv.userRun {w : Work} {k : Option KeyRec} {limit f : Nat} {u : UserRun} (h : s.Inv) :
    (State.userRun w k limit f s u).2.1.Inv := by
  induction f generalizing s u with
  | zero => exact h
  | succ f ih =>
    unfold State.userRun
    refine .ite_mid h ?_
    split
    · exact .ite h h.localDenied
    · split
      · exact h
      · exact .ite_mid (ih h.tookFree.userInstr) h.tookFree.userInstr

theorem Inv.userLayOut {w : Work} {p : UserPlan} (h : s.Inv) : (s.userLayOut w p).Inv := h.write.write.wipe.wipe

theorem Inv.userWork {x : Work} {u : UserVerb} (h : s.Inv) : (s.userWork x u).Inv := by
  unfold State.userWork
  extract_lets +onlyGivenNames _ _ _ _ s
  have h : s.Inv := .ite h.useKeys h
  refine .ite h.finish ?_
  extract_lets +onlyGivenNames p share limit
  have hr {k r} : (State.userRun x k limit limit (s.userLayOut x p) r).2.1.Inv := h.userLayOut.userRun
  split
  · next he => exact hr.of_eq_mid he
  · next he => exact (hr.of_eq_mid he).finish
  · next he => exact (hr.of_eq_mid he).finish
  · next he => exact (hr.of_eq_mid he).finish.updJob

theorem Inv.execUserVerb {job : Nat} (h : s.Inv) : Keeps (execUserVerb job s) := by
  unfold Machine.execUserVerb
  refine .next ?_
  split
  · exact h
  · split
    · exact h.userWork
    · exact h

/-! ### Machine/Replay.lean -/

theorem Inv.replayRefuse {job cause : Nat} (h : s.Inv) : (s.replayRefuse job cause).Inv := h.answerCmd.replayShow

theorem Inv.execReplayQuarantine {job : Nat} (h : s.Inv) : Keeps (execReplayQuarantine job s) := by
  unfold Machine.execReplayQuarantine
  refine .next ?_
  split
  · exact h
  · exact .ite h (.ite h.replayRefuse (.mapLf (.ite h.parkNext h)))

theorem Inv.reloadVat {v : Nat} (h : s.Inv) : (s.reloadVat v).Inv := h.vatLost.loadVat.katShow.resetCore.mapBt

theorem Inv.execReplayQuarantineReady {v : Vat} (h : s.Inv) : Keeps (execReplayQuarantineReady v s) := by
  unfold Machine.execReplayQuarantineReady
  extract_lets +onlyGivenNames _
  refine .next ?_
  split
  · exact h
  · exact .ite h h.reloadVat.setMaskBit.setDom.mapLf.replayMark.answerCmd.replayShow

theorem Inv.execReplayRelease {job : Nat} (h : s.Inv) : Keeps (execReplayRelease job s) := by
  unfold Machine.execReplayRelease
  refine .next ?_
  split
  · exact h
  · exact
      .ite h <| .ite h.replayRefuse <| .ite h.replayRefuse <|
        have h := h.vatLost.setMaskBit
        .ite h.setDom.replayMark.answerCmd.replayShow h.unpark.mapLf

theorem Inv.replayVerb {verb id : Nat} (h : s.Inv) : (s.replayVerb verb id).Inv := by
  unfold State.replayVerb
  extract_lets r
  have hr : Keeps r := by
    unfold r
    split
    exacts [h.execPinTranslate, h.execPinVerify, h.execMacGenerate, h.execMacVerify, h.execCryptogramVerify, h.execDukptDerive,
      h.execTokenize, h.execDetokenize, h.execDataTranslate, h.execSign, h.execVerify, h.execKeypair, h.execAgree, h.execEncapsulate,
      h.execSeal, h.execOpenV, h.execHash, h.execKeyImport, h.execKeyExport, h.execKeyGenerate, h.execKeyUpdate, h.execKeyRetire,
      h.execRandom, h.execNoop, h.execVaultSet, h.execUserVerb]
  clear_value r
  split
  · exact hr _ rfl
  · exact h

theorem Inv.replayGo {a : ReplayAsk} {j : Job} (h : s.Inv) : (s.replayGo a j).Inv :=
  h.setUnit.tookFree.setReg.mapLf.replayShow

theorem Inv.execReplayRun {job : Nat} (h : s.Inv) : Keeps (execReplayRun job s) := by
  unfold Machine.execReplayRun
  refine .next ?_
  split
  · exact h
  · extract_lets +onlyGivenNames _
    refine .ite h ?_
    split
    · extract_lets +onlyGivenNames bad s
      clear_value bad
      have h : s.Inv := by
        unfold s
        split
        · exact h.setReg64
        · exact h
      exact h.replayRec.replayRefuse
    · exact h.replayGo

theorem Inv.execReplayRunComplete {v : Vat} (h : s.Inv) : Keeps (execReplayRunComplete v s) := by
  unfold Machine.execReplayRunComplete
  refine .next ?_
  split
  · exact h
  · exact .ite h h.mapLf.replayRec.replayShow.bump.bumpBy.answerCmd

/-! ### Machine/Spdm.lean -/

theorem Inv.setSpdm {vdm : Bool} {c : SpdmConv} (h : s.Inv) : (s.setSpdm vdm c).Inv := h.mapLf
theorem Inv.spdmSend {vdm : Bool} {r : Bytes} (h : s.Inv) : (s.spdmSend vdm r).Inv := h.mctpSend
theorem Inv.spdmError {vdm : Bool} {code data : Nat} (h : s.Inv) : (s.spdmError vdm code data).Inv := h.spdmSend

theorem Inv.spdmServe {vdm : Bool} {m : Bytes} {f : State → State} (h : s.Inv) (hf : ∀ t, t.Inv → (f t).Inv) :
    (s.spdmServe vdm m f).Inv := .ite h (.ite h.spdmError (hf _ h))

theorem Inv.spdmSign {ctx : String} {m : Bytes} (h : s.Inv) : (s.spdmSign ctx m).2.Inv := h.idSign
theorem Inv.spdmNonce (h : s.Inv) : (s.spdmNonce).2.Inv := .ite_snd h.drawDev h.tookFree

theorem Inv.execChallenge {vdm : Bool} {m : Bytes} (h : s.Inv) : Keeps (execChallenge vdm m s) :=
  .next <| h.spdmServe fun _ h => .ite h.spdmError (.ite h.spdmError h.spdmNonce.spdmSign.setSpdm.spdmSend)

theorem Inv.execGetMeasurements {vdm : Bool} {m : Bytes} (h : s.Inv) : Keeps (execGetMeasurements vdm m s) :=
  .next <| h.spdmServe fun _ h =>
    .ite h.spdmError (.ite h.spdmError (.ite h.spdmNonce.spdmSign.setSpdm.spdmSend h.spdmNonce.setSpdm.spdmSend))

/-! ### Machine/Dispatch.lean -/

/-- Every command keeps the invariant. -/
theorem Inv.exec {i : Instr} (h : s.Inv) : Keeps (exec i s) := by
  cases i with
  | registerWrite => exact .next <| h.regCommand
  | servicePairMismatch => exact .next <| .ite h h.servicePairDown
  | primaryPairMismatch => exact .next <| .ite h h.resetCore.primaryPairDown
  | feltTransfer => exact .next <| .ite h (.ite h.feltTake h.feltDiscard.feltLoss)
  | feltRepeat => exact .next <| .ite h (.ite h.feltTake h.feltDiscard.updJob)
  | beatEdge => exact .next <| .ite h.beatEdge.resetWhenDone.shutEdge.lifeEdge h
  | beatTick => exact .next <| .ite h.raise h
  | reamClose => exact .next <| .ite h.closeReam h
  | beatStart | beatPeriodWrite | beatTqSelWrite | pkeStart | pkeWipe | symLockWrite | pkeLockWrite
  | admitOpenWrite | admitWaitLimitWrite | sqTailWrite | cqHeadWrite | dqHeadWrite | hostQueueEnable
  | hostQueueClose | keysMirrorListWrite | sluiceAttrWrite | sluiceBaseWrite | sluiceClear | springReseed
  | springReinstLane | tamperAck | pmuPwrLimitWrite | watchdogKick | uartTransmitWrite | cardActivate
  | cardDeactivate | cardSend | clessSend | clessDeselect | quorumGuardWrite | evtDoorbell | evtPendClear
  | vevRing | evtTracePut | errcClear | errcQPop =>
    exact .next <| h.wr
  | referenceLost => exact .next <| .ite h.setRegBit.raise h
  | timePpsEdge => exact h.execTimePpsEdge
  | ppsLoss => exact h.execPpsLoss
  | time10mCheck => exact h.execTime10mCheck
  | descriptorReceived => exact h.execDescriptorReceived
  | waitLimitExpiry => exact h.execWaitLimitExpiry
  | couchRelease => exact h.execCouchRelease
  | outputCopyFail => exact h.execOutputCopyFail
  | missedEdge => exact h.execMissedEdge
  | vatPowerGate => exact .next <| .ite h.vatLost.setRegField h
  | reservoirReadSet => exact h.execReservoirReadSet
  | reservoirReadComplete => exact h.execReservoirReadComplete
  | pinTranslate => exact h.execPinTranslate
  | pinVerify => exact h.execPinVerify
  | macGenerate => exact h.execMacGenerate
  | macVerify => exact h.execMacVerify
  | cryptogramVerify => exact h.execCryptogramVerify
  | dukptDerive => exact h.execDukptDerive
  | tokenize => exact h.execTokenize
  | detokenize => exact h.execDetokenize
  | dataTranslate => exact h.execDataTranslate
  | openV => exact h.execOpenV
  | hash => exact h.execHash
  | random => exact h.execRandom
  | noop => exact h.execNoop
  | sign => exact h.execSign
  | verify => exact h.execVerify
  | keypair => exact h.execKeypair
  | agree => exact h.execAgree
  | encapsulate => exact h.execEncapsulate
  | pkeWorkEnd => exact h.execPkeWorkEnd
  | pkeDoneEdge => exact h.execPkeDoneEdge
  | cancel => exact h.execCancel
  | abort => exact h.execAbort
  | abortRelease => exact h.execAbortRelease
  | abortComplete => exact h.execAbortComplete
  | drain => exact h.execDrain
  | drainComplete => exact h.execDrainComplete
  | drainLimitExpiry => exact h.execDrainLimitExpiry
  | resume => exact h.execResume
  | seqSettings => exact h.execSeqSettings
  | pkeSettings => exact h.execPkeSettings
  | frameReceived => exact .next <| h.frameIn
  | hostDescriptorReceived => exact .next <| .ite (.ite h.raise h.mapBt.receive) h
  | functionLevelReset => exact .next <| .ite (h.foldl fun _ _ h => h.functionReset) h.functionReset
  | hostConventionalReset =>
    exact .next <| .raise (.foldl (h.foldl fun _ _ h => h.functionReset) fun _ _ h => h.setRegBit)
  | busMasterDisable => exact .next <| h.setRegBit
  | keyImport => exact h.execKeyImport
  | keyExport => exact h.execKeyExport
  | keyGenerate => exact h.execKeyGenerate
  | keyUpdate => exact h.execKeyUpdate
  | keyRetire => exact h.execKeyRetire
  | keyChangeCommit => exact h.execKeyChangeCommit
  | vatInvalidation => exact .next <| .ite h.invalidate h
  | syncPrepareReceived => exact .next <| .ite h (.ite h.reply h.drawSalt.queueRec.mapKs.reply)
  | syncAckReceived => exact .next <| .ite h.mapKs h.mapKs
  | syncCommitDecision => exact h.execSyncCommitDecision
  | syncDecisionReceived => exact h.execSyncDecisionReceived
  | syncDecisionTimeout => exact .next <| .ite h.dropPeer.bump.raise h
  | mirrorApplyReceived => exact .next <| .ite h.applyMirror h
  | mirrorCountersReceived => exact .next <| .ite (h.foldl fun _ _ h => .ite h.writeCounter h) h
  | mirrorResync => exact h.execMirrorResync
  | sealEpochRotate => exact .next <| .ite h.startEpoch h
  | journalBlockClose => exact .next <| .ite h.closeBlock h
  | journalBlockDurable => exact .next <| .ite (.ite h.mapJn h) (.ite h.setChain.refreshChain h)
  | journalBlockRelease => exact h.execJournalBlockRelease
  | journalRead => exact h.execJournalRead
  | vaultSet => exact h.execVaultSet
  | nvmeCommandTimeout => exact h.execNvmeCommandTimeout
  | nvmeAbortTimeout => exact h.execNvmeAbortTimeout
  | nvmeReadyTimeout => exact h.execNvmeReadyTimeout
  | nvmeCompletion => exact h.execNvmeCompletion
  | reservoirLinkLoss => exact h.execReservoirLinkLoss
  | mouldLoad => exact h.execMouldLoad
  | mouldLoadComplete => exact h.execMouldLoadComplete
  | mouldCommit => exact h.execMouldCommit
  | deckleReopen => exact h.execDeckleReopen
  | fullRemouldReset => exact h.execFullRemouldReset
  | mouldAbandon => exact h.execMouldAbandon
  | add | sub | andR | orR | xorR | nor | slt | sltu | sll | srl | sra | ror | mul | mulh | mulhu | div
  | divu | rem | remu | addi | andi | ori | xori | slti | sltiu | lui | slli | srli | srai | rori | auipc
  | lb | lbu | lh | lhu | lw | sb | sh | sw | swap | cas | beq | bne | blt | bge | bltu | bgeu | jal | jr
  | jalr | srr | srw | trap | xret | fence | fencei | wfe =>
    exact .next <| h.ax
  | loadResponse => exact .next <| h.loadResponse
  | interruptEntry => exact .next <| h.interruptEntry
  | refusedStore => exact .next <| h.refusedStore
  | feltTimeout => exact .next <| h.feltTimeout
  | budgetExpiry => exact .next <| h.budgetExpiry
  | userVerb => exact h.execUserVerb
  | seedComplete => exact .next <| .ite h (.ite h.mapSpr.seedIn (.ite h.seedIn h))
  | cellHealthFailure => exact .next <| .ite h.cellFail h
  | cellRetest => exact .next <| .ite h.upd.setCell h
  | cellStartupComplete => exact .next <| .ite (.ite h.setCell.serviceCheck.startDone h.cellFail.startDone) h
  | periodicReseed => exact h.execPeriodicReseed
  | deviceDrbgReseed => exact .next <| .ite h h.devReseed
  | deviceDrbgReseedTimeout => exact h.execDeviceDrbgReseedTimeout
  | springEnable | springRawEnter | springRawExit | springTest => exact .next <| h.springBit
  | springOutRead | springRawRead | vdrOutRead | uartReceiveRead => exact .next <| h.readCommand
  | monitorAssert => exact h.execMonitorAssert
  | monitorHeld => exact h.execMonitorHeld
  | evidenceBurnPending => exact .next <| .ite (.ite h.mapTm.burn h.mapTm) h
  | sensorDissent => exact .next <| .ite h h.setRegField.bump.raise
  | batterySample => exact .next <| .ite h (.ite h.mapTm (.ite h.mapTm.batteryTrip h.mapTm))
  | clearResponseDone => exact .next <| .ite h h.journalCommitAll.journalDrain.certClear.setRegBit.scrapIf.warmReset
  | eraseResponseDone => exact .next <| .ite h h.eraseRoots.certClear.setRegBit.scrapIf.warmReset
  | vbatLow => exact .next <| .ite h (.ite h.setRegBit.raise h.setRegBit)
  | powerOnReset => exact h.execPowerOnReset
  | vinCoreGood => exact .next <| .ite h h.mapPw.railEnable
  | railReady => exact h.execRailReady
  | railAttemptTimeout =>
    exact .next <| .ite h (.ite h.mapPw.setReg.raise.startFailure h.mapPw.setReg.raise.itemOff.mapPw)
  | retryPauseEnd => exact h.execRetryPauseEnd
  | domainReady => exact .next <| .ite h (.ite (h.setDom.foldl fun _ _ h => .ite h.setDom h) h.setDom)
  | pllLock => exact .next <| .ite h (.ite h.mapPw.setRegBit.raise h.mapPw)
  | hbmTrainingDone => exact .next <| .ite h h.mapPw.setRegField
  | railLost => exact .next <| .ite h h.railLost
  | pmbAlert => exact .next <| .ite h h.pmbError
  | pmbusTelemetryPoll => exact h.execPmbusTelemetryPoll
  | vatTempSample => exact h.execVatTempSample
  | thermalUnpark => exact h.execThermalUnpark
  | thermalStopRelease => exact h.execThermalStopRelease
  | pmuPowerSample => exact h.execPmuPowerSample
  | vatJoin => exact .next <| .ite h (.ite h.mapPw.vatLost.devReseed.startVat.replayBack h.mapPw.katFail.replayBack)
  | resetNAsserted => exact .next <| .ite h (.ite h.coldReset h.warmReset)
  | resetRelease => exact .next <| .ite h h.upd.mapLk.tookFree.mapPw.resetCore.resetCore.upd
  | deviceStart => exact h.execDeviceStart
  | resetCmdWarm | resetCmdCold | resetCmdVatReset | resetCmdServicePair | resetCmdClrFail =>
    exact .next <| h.resetWrite
  | powerFail => exact .next <| h.mapPins.powerFail.mapPw
  | powerFailDrainDone => exact h.execPowerFailDrainDone
  | holdupEnd => exact h.execHoldupEnd
  | pwrfailRise => exact h.execPwrfailRise
  | heldSelfReset => exact .next <| .ite h h.upd.coldReset
  | shutdown => exact h.execShutdown
  | selfTestComplete => exact .next <| .ite h (.ite h.powerOff (.ite h (.ite h.startFailure h.excludeCells.mapPw)))
  | selfTestConditionsTimeout => exact .next <| .ite h (.ite h.raise.powerOff (.ite h h.setRegBit.mapPw.raise))
  | watchdogWarning => exact h.execWatchdogWarning
  | watchdogExpiry => exact h.execWatchdogExpiry
  | wmarkExtend => exact .next <| .ite h h.wmarkExtend
  | wmarkAdvance => exact .next <| .ite h h.wmarkAdvance
  | getVersion => exact .next <| .ite h (.ite h.spdmError h.setSpdm.spdmSend)
  | getCapabilities | negotiateAlgorithms | getCertificate =>
    exact .next <| h.spdmServe fun _ h => .ite h.spdmError (.ite h.spdmError h.setSpdm.spdmSend)
  | getDigests => exact .next <| h.spdmServe fun _ h => .ite h.spdmError h.setSpdm.spdmSend
  | challenge => exact h.execChallenge
  | getMeasurements => exact h.execGetMeasurements
  | spdmUnsupportedRequest => exact .next <| h.spdmServe fun _ h => h.spdmError
  | identity => exact h.execIdentity
  | lifeChallenge => exact h.execLifeChallenge
  | lifeChallengeExpiry => exact h.execLifeChallengeExpiry
  | lifeChange => exact h.execLifeChange
  | tapInstructionLoad =>
    exact .next <| .ite h.mapLf.emit (.ite h.mapLf.emit.tookFree.mapLf (.ite h.mapLf.mapLf h.mapLf))
  | lifeAuthNewChallenge => exact .next <| .ite h h.newChallenge.mapLf.authShow
  | lifeAuthReadWord => exact .next <| .ite h h.mapLf.tookFree.authShow
  | lifeAuthAppend | lifeAuthEmpty => exact .next <| .ite h h.mapLf.authShow
  | lifeAuthSubmit => exact h.execLifeAuthSubmit
  | debugHalt => exact .next <| h.dbgDo fun _ _ h => .ite h.dbgShow h.updCore.boundary.dbgShow
  | debugResume => exact .next <| h.dbgHalted fun _ _ h => h.updCore.boundary.dbgShow
  | debugStep => exact h.execDebugStep
  | debugReadRegister => exact h.execDebugReadRegister
  | debugWriteRegister => exact h.execDebugWriteRegister
  | debugReadSystemRegister => exact h.execDebugReadSystemRegister
  | debugWriteSystemRegister => exact h.execDebugWriteSystemRegister
  | debugSetAddress => exact .next <| h.dbgDo fun _ _ h => h.mapLf.dbgShow
  | debugLoad => exact h.execDebugLoad
  | debugStore => exact h.execDebugStore
  | debugBreakpoint => exact .next <| .ite h.debugEvent h
  | replayQuarantine => exact h.execReplayQuarantine
  | replayQuarantineReady => exact h.execReplayQuarantineReady
  | replayRun => exact h.execReplayRun
  | replayRunComplete => exact h.execReplayRunComplete
  | replayRelease => exact h.execReplayRelease
  | networkLinkChange => exact .next <| .ite h.netDown (.ite h.setRegField.netEvent h)
  | mkaFrame => exact h.execMkaFrame
  | networkFrameReceived => exact h.execNetworkFrameReceived
  | pauseFrame | mctpPacketDrop => exact .next <| .ite h.bump h
  | arpRequest | neighborSolicitation => exact .next <| .ite h.emit h
  | responseFrameTransmit => exact h.execResponseFrameTransmit
  | setEndpointId => exact .next <| .ite h (.ite h.mctpReply (.mctpReply (.raise (.ite h.setRegField h.setRegField))))
  | getEndpointId | getEndpointUuid | getMctpVersionSupport | getMessageTypeSupport => exact .next <| h.mctpReply
  | uartByteReceived => exact .next <| .ite h (.ite h.setRegBit h.mapLk)
  | hbmLineMacFail => exact .next <| .ite h (.ite h.bump.raise h.mapLk.bump.setRegs.raise.errAt)
  | hbmStackHot => exact h.execHbmStackHot
  | uloonLinkUp => exact h.execUloonLinkUp
  | uloonLeaderWaitExpiry => exact h.execUloonLeaderWaitExpiry
  | uloonSlotTransmit => exact .next <| .ite h (h.upd.mapKs.mapLk.foldl fun _ _ h => h.emit.bump)
  | uloonSlotFrameReceived => exact h.execUloonSlotFrameReceived
  | transportKeyDistribute => exact .next <| .ite h (h.drawDev.mapKs.foldl fun _ _ h => .ite h.post h)
  | cardInserted => exact .next <| .ite h h.setRegBit.updSlot.cardEvent.cardActivate
  | cardAtrReceived => exact h.execCardAtrReceived
  | cardAtrTimeout => exact .next <| .ite h (.ite h.atrBad (.ite h.cardError (.ite h.cardAgain h.cardError)))
  | cardRetryDelayEnd => exact h.execCardRetryDelayEnd
  | cardPpsResponse => exact .next <| .ite h (.ite h.cardParams.cardSettled h.ppsFail)
  | cardPpsTimeout => exact .next <| .ite h.ppsFail h
  | cardBlockReceived => exact h.execCardBlockReceived
  | cardWaitTimeout => exact .next <| .ite h (.ite h.t1Error h.cardError)
  | cardExchangeTimeout => exact .next <| .ite h.upd.cardError h
  | cardClockStop => exact .next <| .ite h.setRegField.updSlot h
  | cardRemoved => exact .next <| .ite h (.cardEvent (.bump (.setRegBit (.cardOff (.ite h.cardError h)))))
  | clessPing => exact .next <| .ite h (.ite h.fieldOff.setRegField (.ite h.poll (.ite h.poll h.updCless.clessShow)))
  | clessFrameReceived => exact h.execClessFrameReceived
  | clessFwtTimeout => exact .next <| .ite h.clessFail h
  | clessExchangeTimeout => exact .next <| .ite h.upd.clessError h
  | clessUidExpiry => exact h.execClessUidExpiry
  | quorumOpen => exact h.execQuorumOpen
  | quorumList => exact h.execQuorumList
  | quorumApproval => exact h.execQuorumApproval
  | quorumTimeout => exact h.execQuorumTimeout
  | quorumGrantLapse => exact .next <| .ite h h.upd.setReg.raise
  | illegalInstruction => exact .next <| h.illegal
  | instructionFetchFault => exact .next <| h.fetchRefused
  | storeAcknowledged => exact .next <| h.storeAcked
  | lossOfMainPower => exact h.execLossOfMainPower
  | vbatFirstApplied => exact .next <| .ite h (.ite h.upd h.upd.batteryFirst.mapTm)
  | vbatRemoved => exact .next <| .ite h.upd h.upd.batteryFirst.mapTm
  | monitorDeassert => exact h.execMonitorDeassert
  | rawSampleWord => exact .next <| .ite (.ite h.mapSpr h.bump.raise) h
  | mkaLivePeerLost => exact .next <| h.mkaLost
  | hostLinkUp => exact .next <| .foldl (.raise (h.foldl fun _ _ h => h.setRegField)) fun _ _ h => h.fetchAll
  | reservoirLinkUp => exact h.execReservoirLinkUp
  | uloonLinkDown => exact h.execUloonLinkDown
  | smbusClockLowTimeout => exact .next <| .ite h.emit h.emit
  -- The command left is SEAL, whose name is a keyword of Lean.
  | _ => exact h.execSeal

end Sys2Proof.Machine.State

namespace Sys2Proof.Machine

/-- Settles O3: a step takes a command off the queue, or the clock on, and every command keeps the invariant. -/
theorem everyStepKeepsInvariant : Obligations.EveryStepKeepsInvariant := by
  intro s t h hs
  unfold step at hs
  split at hs
  next => cases hs; exact h.upd
  next c cs _ => exact State.Inv.exec (s := { s with pending := cs }) h.upd t hs

/-- Settles O2: memory at reset is canonical, every register table is empty and every core is there. -/
theorem resetHasInvariant : Obligations.ResetHasInvariant := ⟨memWf_reset, by decide, by decide⟩

end Sys2Proof.Machine

/-! SUPPORT. What raising an event and capturing an error write: registers of the event controller's and of error capture's blocks. -/

namespace Sys2Proof.Machine

variable {s : State}

/-! ### Registers that a raised event leaves as they are -/

theorem State.pendEvent_reg_above {n k : Nat} (hn : n < 1024) (hk : 0x100E00000 ≤ k) : (s.pendEvent n).reg k = s.reg k := by
  have h₁ : k ≠ R.EVT_WEIR n := by simp only [R.EVT_WEIR]; omega
  have h₂ : k ≠ R.EVT_PEND (n / 32) := by simp only [R.EVT_PEND]; omega
  unfold State.pendEvent
  split
  · exact s.reg_setReg_other _ h₁
  · exact s.reg_setReg_other _ h₂

theorem State.journalEvent_reg_above {n stop data k : Nat} (hn : n < 1024) (hk : 0x100E00000 ≤ k) :
    (s.journalEvent n stop data).reg k = s.reg k := by
  have h₁ : k ≠ R.EVT_JHELD (n / 32) := by simp only [R.EVT_JHELD]; omega
  have h₂ : k ≠ R.JOURNAL_EVFIFO := by simp only [R.JOURNAL_EVFIFO]; omega
  unfold State.journalEvent
  split
  · split
    · exact State.reg_setReg_other _ _ h₁
    · exact State.reg_setReg_other _ _ h₂
  · rfl

theorem State.arrive_reg_above {n stop data k : Nat} (hn : n < 1024) (hk : 0x100E00000 ≤ k) :
    (s.arrive n stop data).reg k = s.reg k := by
  have h {t : State} {m stop data : Nat} (hm : m < 1024) : ((t.pendEvent m).journalEvent m stop data).reg k = t.reg k := by
    rw [State.journalEvent_reg_above hm hk, State.pendEvent_reg_above hm hk]
  unfold State.arrive
  dsimp only
  split
  · rw [h (by omega), h hn]
  · rw [h hn]

theorem State.traceEntry_reg_above {n stop data k : Nat} (hk : 0x100E00000 ≤ k) : (s.traceEntry n stop data).1.reg k = s.reg k := by
  have h₁ : k ≠ R.EVT_TRACE_LOST := by simp only [R.EVT_TRACE_LOST]; omega
  have h₂ : k ≠ R.EVT_TRACE_WR := by simp only [R.EVT_TRACE_WR]; omega
  unfold State.traceEntry
  dsimp only
  split
  · rfl
  · split
    · exact State.reg_setReg_other _ _ h₁
    · rw [State.reg_setReg_other _ _ h₂, State.write_reg]
      rfl

theorem State.raiseOnly_reg_above {n stop data k : Nat} (hn : n < 1024) (hk : 0x100E00000 ≤ k) :
    (s.raiseOnly n stop data).reg k = s.reg k := by
  unfold State.raiseOnly
  dsimp only
  split
  · split
    · rw [State.arrive_reg_above (by omega) hk, State.traceEntry_reg_above hk, State.arrive_reg_above hn hk]
    · rw [State.traceEntry_reg_above hk, State.arrive_reg_above hn hk]
  · exact State.arrive_reg_above hn hk

/-- Events 318, 263 and 269 are excursions as well (R607); no other event changes a register beyond the event controller's block. -/
theorem State.raise_reg_above {n stop data k : Nat} (hn : n < 1024) (h₁ : n ≠ 318) (h₂ : n ≠ 263) (h₃ : n ≠ 269)
    (hk : 0x100E00000 ≤ k) : (s.raise n stop data).reg k = s.reg k := by
  unfold State.raise
  simp only [h₁, h₂, h₃, or_self, if_false]
  exact State.raiseOnly_reg_above hn hk

/-! ### Error capture -/

/-- The four words of an entry stand at the address they are put at. -/
theorem State.putEntry_reg {e : ErrEntry} {k j : Nat} :
    (s.setRegs (e.words.zipIdx.map fun p => (k + 4 * p.2, p.1))).reg j =
      if j = k + 12 then e.phase else if j = k + 8 then e.beat else if j = k + 4 then e.addr else if j = k then e.info else s.reg j := by
  simp [State.setRegs, ErrEntry.words, State.reg_setReg]

/-- Beside its events, error capture writes the last entry, and the first entry, count, queue flag and lost count that `k` is not. -/
theorem State.capture_reg {src : Nat} {e : ErrEntry} {k : Nat} (hs : src < 0x80) (hk : 0x100E00000 ≤ k) (hc : k ≠ R.ERRC_COUNT src)
    (hf : k ≠ R.ERRC_Q_FLAGS) (hl : k ≠ R.ERRC_Q_LOST) (h : k < R.ERRC_FIRST src 0 ∨ R.ERRC_FIRST src 3 < k) :
    (s.capture src e).reg k = (s.setRegs (e.words.zipIdx.map fun p => (R.ERRC_LAST src 0 + 4 * p.2, p.1))).reg k := by
  simp only [R.ERRC_FIRST] at h
  unfold State.capture
  extract_lets +onlyGivenNames _ put s₁ s₂ s₃ _ _ _ s₄
  have h₁ : s₁.reg k = s.reg k := by
    unfold s₁
    split
    · rw [State.putEntry_reg, if_neg, if_neg, if_neg, if_neg] <;> simp only [R.ERRC_FIRST] <;> omega
    · rfl
  have h₃ : s₃.reg k = s₂.reg k := s₂.reg_setReg_other _ hc
  have h₄ : s₄.reg k = s₃.reg k := by
    have hb : ((s₃.setRegBit R.ERRC_Q_FLAGS 0 true).bump R.ERRC_Q_LOST).reg k = s₃.reg k := by
      rw [State.bump, State.reg_setReg_other _ _ hl, State.setRegBit, State.reg_setReg_other _ _ hf]
    unfold s₄
    split
    · rfl
    · split
      · exact hb
      · rw [State.raise_reg_above (by decide) (by decide) (by decide) (by decide) hk]
        exact hb
  have h₂ : s₂.reg k = (s.setRegs (e.words.zipIdx.map fun p => (R.ERRC_LAST src 0 + 4 * p.2, p.1))).reg k := by
    unfold s₂ put
    rw [State.putEntry_reg, State.putEntry_reg, h₁]
  rw [← h₂, ← h₃, ← h₄]
  split
  · split
    · exact State.raise_reg_above (by omega) (by omega) (by omega) (by omega) hk
    · exact State.raise_reg_above (by omega) (by omega) (by omega) (by omega) hk
  · rfl

/-- The last entry of a source is the one just captured. -/
theorem State.capture_reg_last {src : Nat} {e : ErrEntry} (hs : src < 0x80) : (s.capture src e).reg (R.ERRC_LAST src 0) = e.info := by
  rw [State.capture_reg hs, State.putEntry_reg] <;>
    simp only [R.ERRC_FIRST, R.ERRC_LAST, R.ERRC_COUNT, R.ERRC_Q_FLAGS, R.ERRC_Q_LOST] <;> [skip; omega; omega; omega; omega; omega]
  simp

/-- Error capture changes no register beyond its block. -/
theorem State.capture_reg_above {src : Nat} {e : ErrEntry} {k : Nat} (hs : src < 0x80) (hk : 0x100F00000 ≤ k) :
    (s.capture src e).reg k = s.reg k := by
  have hl : k ≠ R.ERRC_LAST src 0 + 12 ∧ k ≠ R.ERRC_LAST src 0 + 8 ∧ k ≠ R.ERRC_LAST src 0 + 4 ∧ k ≠ R.ERRC_LAST src 0 := by
    simp only [R.ERRC_LAST]
    omega
  obtain ⟨h₃, h₂, h₁, h₀⟩ := hl
  rw [State.capture_reg hs (by omega), State.putEntry_reg, if_neg h₃, if_neg h₂, if_neg h₁, if_neg h₀] <;>
    simp only [R.ERRC_FIRST, R.ERRC_COUNT, R.ERRC_Q_FLAGS, R.ERRC_Q_LOST] <;> omega

/-- CODE of an entry that the record of a core's access shows (R883). -/
theorem State.errEntry_code {code : Nat} {c : Core} {p : Bool} {kind : Kind} {a : Nat} (hc : code < 256) :
    field (s.errEntry code (.core c p) kind a).info 31 24 = code := by
  have hb : b2n (privOf (.core c p)) ≤ 1 := by cases p <;> simp [privOf, b2n]
  have hs : stopOf (.core c p) < 127 := by
    have := c.isLt
    simp only [stopOf]
    split
    · omega
    · split <;> omega
  have hk : kind.code ≤ 3 := by cases kind <;> decide
  have ha : a / 2 ^ 32 % 4096 < 4096 := Nat.mod_lt _ (by decide)
  simp only [field, State.errEntry, BitVec.toNat_ofNat]
  omega

/-- An access to the SLUICE_CFG block that ends as an error leaves the block's registers, and shows its code. -/
theorem State.errAt_sluice {code a k : Nat} {c : Core} {p : Bool} {kind : Kind} (hc : code < 256) (ha : 0x100F00000 ≤ a)
    (ha' : a < 0x101000000) (hk : 0x100F00000 ≤ k) :
    (s.errAt code (.core c p) kind a).reg k = s.reg k ∧ (s.errAt code (.core c p) kind a).regField (R.ERRC_LAST 0x0F 0) 31 24 = code := by
  have h : errSource a = 0x0F := by
    simp only [errSource]
    rw [if_pos (by omega), if_pos (by omega)]
    omega
  unfold State.errAt
  rw [h]
  refine ⟨State.capture_reg_above (by decide) hk, ?_⟩
  rw [State.regField, State.capture_reg_last (by decide)]
  exact State.errEntry_code hc

end Sys2Proof.Machine

/-! SUPPORT. Writes of sluice entries and SLUICE_CLEAR, and how a stack's sluice judges an access (R547 to R556). -/

namespace Sys2Proof.Machine

variable {s : State}

/-! ### A warden's write of a SLUICE_CFG register -/

/-- A sender that may write is a core at privileged level. -/
theorem State.wardenAt.core {who : Sender} {kind : Kind} {a : Nat} (h : s.wardenAt who kind a) : ∃ c, who = .core c true := by
  obtain ⟨c, hwho, -⟩ := h
  exact ⟨c, hwho⟩

theorem regRow?_of_mem_sluicecfg {r : RegRow} {k : Nat} (hr : r ∈ rowsSluicecfg) (hk : r.key ≤ k) (hd : dimsMatch r.dims (k - r.key) = true)
    (h₀ : 0x100F00000 ≤ k) (h₁ : k < 0x101000000) : regRow? k ≠ none := by
  have hi : (k - 0x100000000) / 0x100000 = 15 := by omega
  unfold regRow?
  rw [if_pos (by omega), hi]
  have hf : (rowsSluicecfg.find? fun r => decide (r.key ≤ k) && dimsMatch r.dims (k - r.key)).isSome = true :=
    List.find?_isSome.mpr ⟨r, hr, by simp [hk, hd]⟩
  exact Option.isSome_iff_ne_none.mp hf

theorem State.writeReg_sluice {who : Sender} {k : Nat} {v : Word} (hr : regRow? k ≠ none) (h₀ : 0x100F00000 ≤ k) (h₁ : k < 0x101000000) :
    s.writeReg who k v = s.sluiceWrite who (k - 0x100F00000) v := by
  have hc : canonReg k = k := by
    unfold canonReg
    rw [if_neg (by omega), if_neg (by omega)]
  obtain ⟨r, hr⟩ := Option.ne_none_iff_exists'.mp hr
  unfold State.writeReg
  simp only [hc, hr]
  rw [if_neg (by omega), if_pos ⟨h₀, h₁⟩]

/-- A running warden's admitted word write of a SLUICE_CFG register is the block's own (R547). -/
theorem State.wr_sluice {who : Sender} {k : Nat} {v : Word} (h : s.wardenAt who .store k) (hr : regRow? k ≠ none) (h₀ : 0x100F00000 ≤ k)
    (h₁ : k < 0x101000000) (h₄ : k % 4 = 0) : s.wr who k v = s.sluiceWrite who (k - 0x100F00000) v := by
  obtain ⟨c, rfl, hc, ⟨hreset, hheld, htrip, hcore, hlock⟩, hbus⟩ := h
  have ht : targetOf k = .control 15 := by
    unfold targetOf
    rw [if_neg (by omega), if_neg (by omega), if_neg (by omega), if_pos (by omega), show (k - 0x100000000) / 0x100000 = 15 by omega]
  have hg : isRegister k = true := by
    simp only [isRegister, ht, isMsix]
    simp
    omega
  have hs : s.busStore (.core c true) .word k v = (none, s.writeReg (.core c true) k v) := by
    unfold State.busStore
    rw [hbus]
    simp [hg]
  unfold State.wr State.regCommand
  simp only [hreset, hheld, htrip, hcore, hlock, ht, hs, sizeBytes, h₄]
  simp [State.writeReg_sluice hr h₀ h₁]

/-! ### Writes of an entry -/

section
variable {n : Fin 4736} {who : Sender} {v : Word} (hv : n.val % 128 < sluiceEntries (n.val / 128))
include hv

/-- An admitted write of ATTR is the entry's (R552). -/
theorem exec_sluiceAttrWrite (h : s.wardenAt who .store (R.SLUICE_ATTR n.val)) :
    exec (.sluiceAttrWrite who none n v) s = .next (s.writeAttr who n.val v) := by
  have hn := n.isLt
  refine congrArg Host.Outcome.next (?_ : s.wr who (R.SLUICE_ATTR n.val) v = _)
  have hr : regRow? (R.SLUICE_ATTR n.val) ≠ none := by
    refine regRow?_of_mem_sluicecfg (r := { key := 0x100f10008, dims := [(0x10, 4736)], rwl := 0xffff3f3f }) (by decide) ?_ ?_ ?_ ?_ <;>
      simp [R.SLUICE_ATTR, dimsMatch] <;> omega
  rw [State.wr_sluice h hr] <;> simp only [R.SLUICE_ATTR] <;> [skip; omega; omega; omega]
  unfold State.sluiceWrite
  have hi : (0x100f10008 + 0x10 * n.val - 0x100F00000 - 0x10000) / 16 = n.val := by omega
  have ho : (0x100f10008 + 0x10 * n.val - 0x100F00000) % 16 = 8 := by omega
  rw [if_neg (by omega), if_neg (by omega)]
  simp only [hi, ho]
  rw [if_neg (by omega)]

/-- An admitted write of BASE is the entry's (R553). -/
theorem exec_sluiceBaseWrite (h : s.wardenAt who .store (R.SLUICE_BASE n.val)) :
    exec (.sluiceBaseWrite who none n false v) s = .next (s.writeSluiceBase who (R.SLUICE_BASE n.val) (R.SLUICE_ATTR n.val) 0xFFFFFFE0 v) := by
  have hn := n.isLt
  refine congrArg Host.Outcome.next (?_ : s.wr who (R.SLUICE_BASE n.val) v = _)
  have hr : regRow? (R.SLUICE_BASE n.val) ≠ none := by
    refine regRow?_of_mem_sluicecfg (r := { key := 0x100f10000, dims := [(0x10, 4736)], rwl := 0xffffffe0 }) (by decide) ?_ ?_ ?_ ?_ <;>
      simp [R.SLUICE_BASE, dimsMatch] <;> omega
  rw [State.wr_sluice h hr] <;> simp only [R.SLUICE_BASE] <;> [skip; omega; omega; omega]
  unfold State.sluiceWrite
  have hi : (0x100f10000 + 0x10 * n.val - 0x100F00000 - 0x10000) / 16 = n.val := by omega
  have ho : (0x100f10000 + 0x10 * n.val - 0x100F00000) % 16 = 0 := by omega
  rw [if_neg (by omega), if_neg (by omega)]
  simp only [hi, ho]
  rw [if_neg (by omega)]

end

/-- An admitted write of SLUICE_CLEAR is the command (R556). -/
theorem exec_sluiceClear {who : Sender} {v : Word} (h : s.wardenAt who .store R.SLUICE_CLEAR) :
    exec (.sluiceClear who v) s = .next (s.sluiceClear who v) := by
  refine congrArg Host.Outcome.next (?_ : s.wr who R.SLUICE_CLEAR v = _)
  have hr : regRow? R.SLUICE_CLEAR ≠ none :=
    regRow?_of_mem_sluicecfg (r := { key := 0x100f00000, wo := 0x8000001f }) (by decide) (by decide) (by decide) (by decide) (by decide)
  rw [State.wr_sluice h hr (by decide) (by decide) (by decide)]
  rfl

/-- A register given a value keeps all else. -/
theorem State.setReg_onlyRegs {k : Nat} {v : Word} : (s.setReg k v).reg k = v ∧ s.onlyRegs (s.setReg k v) [k] :=
  ⟨s.reg_setReg_same k v, rfl, rfl, fun _ hj => s.reg_setReg_other v (by simpa using hj)⟩

theorem State.writeAttr_unlocked {who : Sender} {n : Nat} {v : Word} (hl : s.regBit (R.SLUICE_ATTR n) 30 = false) :
    s.writeAttr who n v =
      if bit (v &&& attrMask) 31 = true ∧ attrOk (v &&& attrMask) (s.sluiceBase n) (tableRegion (n / 128)).1 (tableRegion (n / 128)).2 = false then
        s.errAt errRange who .store (R.SLUICE_ATTR n)
      else s.setReg (R.SLUICE_ATTR n) (v &&& attrMask) := by
  simp [State.writeAttr, hl]

theorem State.writeAttr_locked {who : Sender} {n : Nat} {v : Word} (hl : s.regBit (R.SLUICE_ATTR n) 30 = true)
    (hw : v &&& attrMask ≠ s.reg (R.SLUICE_ATTR n)) : s.writeAttr who n v = s.errAt errLocked who .store (R.SLUICE_ATTR n) := by
  unfold State.writeAttr
  simp only [hl, if_true, if_neg hw]

theorem State.writeSluiceBase_invalid {who : Sender} {k ka : Nat} {mask v : Word} (hl : s.regBit ka 30 = false)
    (hv : s.regBit ka 31 = false) : s.writeSluiceBase who k ka mask v = s.setReg k (v &&& mask) := by
  simp [State.writeSluiceBase, hl, hv]

theorem State.writeSluiceBase_valid {who : Sender} {k ka : Nat} {mask v : Word} (hl : s.regBit ka 30 = false)
    (hv : s.regBit ka 31 = true) : s.writeSluiceBase who k ka mask v = s.errAt errIgnored who .store k := by
  simp [State.writeSluiceBase, hl, hv]

/-! ### SLUICE_CLEAR -/

/-- What SLUICE_CLEAR for `owner` makes of an ATTR value. -/
def clearedAttr (owner : Nat) (w : Word) : Word := if field w 23 19 = owner ∧ w ≠ 0 then setField w 31 30 0 else w

/-- Clearing VALID and LOCK leaves the other bits. -/
theorem setField_top_zero_toNat {w : Word} : (setField w 31 30 0).toNat = w.toNat % 2 ^ 30 := by
  have h : setField w 31 30 0 = w &&& 0x3FFFFFFF := by simp [setField]
  rw [h, BitVec.toNat_and]
  exact Nat.and_two_pow_sub_one_eq_mod w.toNat 30

theorem clearedAttr_of_owner_ne {owner : Nat} {w : Word} (h : field w 23 19 ≠ owner) : clearedAttr owner w = w := if_neg fun hw => h hw.1

/-- A cleared entry is neither valid nor locked. -/
theorem bit_clearedAttr {owner i : Nat} {w : Word} (h : field w 23 19 = owner) (hi : 30 ≤ i) : bit (clearedAttr owner w) i = false := by
  unfold clearedAttr
  split
  · rw [bit, ← BitVec.testBit_toNat, setField_top_zero_toNat, Nat.testBit_mod_two_pow]
    simp
    omega
  next hw =>
    have : w = 0 := by simpa [h] using hw
    simp [this, bit]

theorem clearedAttr_idem {owner : Nat} {w : Word} : clearedAttr owner (clearedAttr owner w) = clearedAttr owner w := by
  by_cases h : field w 23 19 = owner ∧ w ≠ 0
  · have hw : clearedAttr owner w = setField w 31 30 0 := if_pos h
    rw [hw, clearedAttr]
    split
    · apply BitVec.eq_of_toNat_eq
      simp only [setField_top_zero_toNat, Nat.mod_mod]
    · rfl
  · have hw : clearedAttr owner w = w := if_neg h
    rw [hw, hw]

/-- One entry's part of SLUICE_CLEAR. -/
def State.clearEntry (s : State) (owner m : Nat) : State :=
  let k := R.SLUICE_ATTR m
  if field (s.reg k) 23 19 = owner ∧ s.reg k ≠ 0 then s.setReg k (setField (s.reg k) 31 30 0) else s

/-- The entries of the device tables. -/
def sluiceIndices : List Nat := (List.range 0x25).flatMap fun t => (List.range (sluiceEntries t)).map fun i => 128 * t + i

theorem mem_sluiceIndices {n : Nat} (hn : n < 4736) (hv : n % 128 < sluiceEntries (n / 128)) : n ∈ sluiceIndices := by
  simp only [sluiceIndices, List.mem_flatMap, List.mem_map, List.mem_range]
  exact ⟨n / 128, by omega, n % 128, hv, Nat.div_add_mod n 128⟩

theorem State.clearOwner_eq {owner : Nat} : s.clearOwner owner = sluiceIndices.foldl (fun t m => t.clearEntry owner m) s := by
  simp only [sluiceIndices, List.foldl_flatMap, List.foldl_map]
  rfl

theorem State.clearEntry_reg_attr {owner m n : Nat} : (s.clearEntry owner m).reg (R.SLUICE_ATTR n) =
    if m = n then clearedAttr owner (s.reg (R.SLUICE_ATTR n)) else s.reg (R.SLUICE_ATTR n) := by
  by_cases hm : m = n
  · subst hm
    simp only [State.clearEntry, clearedAttr, if_true]
    split
    · exact State.reg_setReg_same s _ _
    · rfl
  · have hk : R.SLUICE_ATTR n ≠ R.SLUICE_ATTR m := by simp only [R.SLUICE_ATTR]; omega
    rw [if_neg hm]
    unfold State.clearEntry
    dsimp only
    split
    · exact State.reg_setReg_other _ _ hk
    · rfl

theorem State.clearEntry_reg_base {owner m n : Nat} : (s.clearEntry owner m).reg (R.SLUICE_BASE n) = s.reg (R.SLUICE_BASE n) := by
  have hk : R.SLUICE_BASE n ≠ R.SLUICE_ATTR m := by simp only [R.SLUICE_BASE, R.SLUICE_ATTR]; omega
  unfold State.clearEntry
  dsimp only
  split
  · exact State.reg_setReg_other _ _ hk
  · rfl

theorem State.foldl_clearEntry_reg_attr {owner n : Nat} {ms : List Nat} :
    (ms.foldl (fun t m => t.clearEntry owner m) s).reg (R.SLUICE_ATTR n) =
      if n ∈ ms then clearedAttr owner (s.reg (R.SLUICE_ATTR n)) else s.reg (R.SLUICE_ATTR n) := by
  induction ms generalizing s with
  | nil => rfl
  | cons m ms ih =>
    rw [List.foldl_cons, ih, State.clearEntry_reg_attr]
    by_cases hm : m = n <;> by_cases hmem : n ∈ ms <;> simp [hm, hmem, clearedAttr_idem, eq_comm (a := n)]

theorem State.clearOwner_reg_attr {owner n : Nat} (hn : n < 4736) (hv : n % 128 < sluiceEntries (n / 128)) :
    (s.clearOwner owner).reg (R.SLUICE_ATTR n) = clearedAttr owner (s.reg (R.SLUICE_ATTR n)) := by
  rw [State.clearOwner_eq, State.foldl_clearEntry_reg_attr, if_pos (mem_sluiceIndices hn hv)]

theorem State.clearOwner_reg_base {owner n : Nat} : (s.clearOwner owner).reg (R.SLUICE_BASE n) = s.reg (R.SLUICE_BASE n) := by
  rw [State.clearOwner_eq]
  exact List.foldlRecOn sluiceIndices _ (motive := fun (t : State) => t.reg (R.SLUICE_BASE n) = s.reg (R.SLUICE_BASE n)) rfl
    fun t ht m _ => State.clearEntry_reg_base.trans ht

/-- SLUICE_CLEAR makes the owner's entries invalid and unlocked, and leaves the others and every base (R556). -/
theorem State.clearOwner_entry {owner n : Nat} (hn : n < 4736) (hv : n % 128 < sluiceEntries (n / 128)) :
    (s.regField (R.SLUICE_ATTR n) 23 19 = owner →
      (s.clearOwner owner).regBit (R.SLUICE_ATTR n) 31 = false ∧ (s.clearOwner owner).regBit (R.SLUICE_ATTR n) 30 = false) ∧
    (s.regField (R.SLUICE_ATTR n) 23 19 ≠ owner → (s.clearOwner owner).reg (R.SLUICE_ATTR n) = s.reg (R.SLUICE_ATTR n)) ∧
    (s.clearOwner owner).reg (R.SLUICE_BASE n) = s.reg (R.SLUICE_BASE n) := by
  simp only [State.regBit, State.clearOwner_reg_attr hn hv]
  exact ⟨fun h => ⟨bit_clearedAttr h (by decide), bit_clearedAttr h (by decide)⟩, clearedAttr_of_owner_ne, State.clearOwner_reg_base⟩

/-- The owner named is applying, or the device restarts. -/
theorem State.sluiceClear_ours {who : Sender} {v : Word} (hv : bit v 31 = true)
    (h : s.regField R.MOULD_STATUS 2 0 = 4 ∨ (s.regField R.MOULD_STATUS 2 0 = 3 ∧ s.regField R.MOULD_STATUS 15 12 = field v 4 0)) :
    s.sluiceClear who v = s.clearOwner (field v 4 0) := by
  unfold State.sluiceClear
  simp only [hv, not_true_eq_false, if_false, if_pos h]

theorem State.sluiceClear_others {who : Sender} {v : Word} (hv : bit v 31 = true)
    (h : ¬ (s.regField R.MOULD_STATUS 2 0 = 4 ∨ (s.regField R.MOULD_STATUS 2 0 = 3 ∧ s.regField R.MOULD_STATUS 15 12 = field v 4 0))) :
    s.sluiceClear who v = s.errAt errIgnored who .store R.SLUICE_CLEAR := by
  unfold State.sluiceClear
  simp only [hv, not_true_eq_false, if_false, if_neg h]

/-! ### Accesses to HBM -/

/-- The sluice of a stack judges a core's access to its half of HBM; the memory has no rules of its own (R31). -/
theorem State.busCheck_hbm {c : Core} {p : Bool} {kind : Kind} {size : Size} {a : Nat} (h₀ : 0x8000000000 ≤ a) (h₁ : a < 0x8800000000) :
    s.busCheck (.core c p) kind size a =
      (s.sluiceJudge (if a < 0x8400000000 then 0x23 else 0x24) ⟨c.val, p, kind, a, none⟩).map fun sub => (7, sub) := by
  have ht : targetOf a = .hbm ((a - 0x8000000000) / 0x400000000) ((a - 0x8000000000) % 0x400000000 / 64) := by
    unfold targetOf
    rw [if_neg (by omega), if_neg (by omega), if_neg (by omega), if_neg (by omega), if_neg (by omega), if_pos (by omega)]
  have htb : 0x23 + (a - 0x8000000000) / 0x400000000 = if a < 0x8400000000 then 0x23 else 0x24 := by split <;> omega
  simp only [State.busCheck, State.ruleCheck, sluiceView, ht, htb]

/-- No entry matches: at user level the access is refused (R551). -/
theorem State.sluiceJudge_none {t : Nat} {x : SluiceAccess} (hx : x.tile = none) (hp : x.priv = false)
    (h : (s.deviceTable t).filter (fun e => s.sluiceMatches e x) = []) : s.sluiceJudge t x = some 1 := by
  simp [State.sluiceJudge, hx, h, hp]

/-- Two entries match: the access is refused at any level (R549). -/
theorem State.sluiceJudge_overlap {t : Nat} {x : SluiceAccess} {e f : SluiceEntry} {l : List SluiceEntry} (hx : x.tile = none)
    (h : (s.deviceTable t).filter (fun e => s.sluiceMatches e x) = e :: f :: l) : s.sluiceJudge t x = some 3 := by
  simp [State.sluiceJudge, hx, h]

end Sys2Proof.Machine

namespace Sys2Proof
open Machine

/-- Settles O51: each write is the block's own, and what it records of a refusal lies in error capture's block. -/
theorem sluiceEntries : Obligations.SluiceEntries := by
  intro s who v n hv a b r w kept
  have hn := n.isLt
  have hka {c : Core} {code k : Nat} (hk : 0x100F00000 ≤ k) (hk' : k < 0x101000000) (hcode : code < 256) :
      kept k code (s.errAt code (.core c true) .store k) := State.errAt_sluice hcode hk hk' hk
  have ha : 0x100F00000 ≤ a ∧ a < 0x101000000 := by simp only [a, R.SLUICE_ATTR]; omega
  have hb : 0x100F00000 ≤ b ∧ b < 0x101000000 := by simp only [b, R.SLUICE_BASE]; omega
  refine ⟨fun hwho => ?_, fun hwho => ?_, fun hwho h31 => ?_, fun c p kind size adr h₀ h₁ => ?_⟩
  · obtain ⟨c, rfl⟩ := hwho.core
    have hwr := exec_sluiceAttrWrite (v := v) hv hwho
    refine ⟨fun hl hok => ⟨_, hwr, ?_⟩, fun hl hval hok => ⟨_, hwr, ?_⟩, fun hl hne => ⟨_, hwr, ?_⟩⟩
    · rw [State.writeAttr_unlocked hl, if_neg fun ⟨hval, hbad⟩ => Bool.false_ne_true (hbad.symm.trans (hok hval))]
      exact State.setReg_onlyRegs
    · rw [State.writeAttr_unlocked hl, if_pos ⟨hval, hok⟩]
      exact hka ha.1 ha.2 (by decide)
    · rw [State.writeAttr_locked hl hne]
      exact hka ha.1 ha.2 (by decide)
  · obtain ⟨c, rfl⟩ := hwho.core
    have hwr := exec_sluiceBaseWrite (v := v) hv hwho
    refine ⟨fun hl hval => ⟨_, hwr, ?_⟩, fun hl hval => ⟨_, hwr, ?_⟩⟩
    · rw [State.writeSluiceBase_invalid hl hval]
      exact State.setReg_onlyRegs
    · rw [State.writeSluiceBase_valid hl hval]
      exact hka hb.1 hb.2 (by decide)
  · obtain ⟨c, rfl⟩ := hwho.core
    have hwr := exec_sluiceClear (v := v) hwho
    refine ⟨fun ours => ⟨_, hwr, ?_⟩, fun ours => ⟨_, hwr, ?_⟩⟩
    · rw [State.sluiceClear_ours h31 ours]
      exact State.clearOwner_entry hn hv
    · rw [State.sluiceClear_others h31 ours]
      exact State.errAt_sluice (by decide) (by decide) (by decide) ha.1
  · rw [State.busCheck_hbm h₀ h₁]
    exact ⟨fun hits hp => by rw [State.sluiceJudge_none rfl hp hits]; rfl, fun e f l hits => by rw [State.sluiceJudge_overlap rfl hits]; rfl⟩

end Sys2Proof

/-! SUPPORT. Bits and fields of a word that was written, and what a raised event and an excursion leave as they are (R607 to R623,
R870 to R889). -/

namespace Sys2Proof.Machine

/-! ### Bits and fields -/

theorem bit_setField {w : Word} {hi lo v i : Nat} :
    bit (setField w hi lo v) i = if lo ≤ i ∧ i ≤ hi ∧ i < 32 then v.testBit (i - lo) else bit w i := by
  have hm : ((2 ^ (hi + 1 - lo) - 1) * 2 ^ lo).testBit i = (decide (lo ≤ i) && decide (i ≤ hi)) := by
    rw [Nat.testBit_mul_two_pow, Nat.testBit_two_pow_sub_one]
    by_cases h : lo ≤ i <;> simp [h]
    omega
  simp only [bit, setField, BitVec.getLsbD_or, BitVec.getLsbD_and, BitVec.getLsbD_not, BitVec.getLsbD_ofNat, hm, Nat.testBit_mul_two_pow]
  by_cases hi32 : i < 32
  · by_cases h₁ : lo ≤ i <;> by_cases h₂ : i ≤ hi <;> simp [hi32, h₁, h₂]
  · simp [hi32, BitVec.getLsbD_of_ge w i (by omega)]

theorem bit_setBit {w : Word} {i j : Nat} {b : Bool} (hi : i < 32) : bit (setBit w i b) j = if j = i then b else bit w j := by
  rw [setBit, bit_setField]
  by_cases h : j = i
  · subst h
    cases b <;> simp [hi]
  · rw [if_neg (by omega), if_neg h]

theorem testBit_field {w : Word} {hi lo i : Nat} : (field w hi lo).testBit i = (decide (i < hi + 1 - lo) && bit w (lo + i)) := by
  rw [field, Nat.testBit_mod_two_pow, Nat.testBit_div_two_pow, Nat.add_comm i lo]
  rfl

/-- A field that was written reads as the low bits of the value. -/
theorem field_setField_same {w : Word} {hi lo v : Nat} (h : hi < 32) : field (setField w hi lo v) hi lo = v % 2 ^ (hi + 1 - lo) := by
  refine Nat.eq_of_testBit_eq fun i => ?_
  rw [testBit_field, bit_setField, Nat.testBit_mod_two_pow]
  by_cases hi' : i < hi + 1 - lo
  · rw [if_pos (by omega), Nat.add_sub_cancel_left]
  · simp [hi']

/-- A field apart from the one that was written reads as before. -/
theorem field_setField_other {w : Word} {hi lo hi' lo' v : Nat} (h : hi < lo' ∨ hi' < lo) :
    field (setField w hi' lo' v) hi lo = field w hi lo := by
  refine Nat.eq_of_testBit_eq fun i => ?_
  rw [testBit_field, testBit_field, bit_setField]
  by_cases hi' : i < hi + 1 - lo
  · rw [if_neg (by omega)]
  · simp [hi']

variable {s t u : State}

theorem State.regBit_setRegBit {k i j : Nat} {b : Bool} (hi : i < 32) :
    (s.setRegBit k i b).regBit k j = if j = i then b else s.regBit k j := by
  rw [State.regBit, State.setRegBit, State.reg_setReg_same, bit_setBit hi]
  rfl

@[simp] theorem State.maskBit_setMaskBit_same {lo v : Nat} {b : Bool} : (s.setMaskBit lo v b).maskBit lo v = b := by
  rw [State.maskBit, State.setMaskBit, State.regBit_setRegBit (by omega), if_pos rfl]

/-! ### Raised events -/

/-- A register that the arrival of an event may change: the event controller's, and JOURNAL_EVFIFO. -/
def eventReg (k : Nat) : Prop := k = R.JOURNAL_EVFIFO ∨ (0x100D00000 ≤ k ∧ k < 0x100E00000)

/-- From `s` to `t` events have been raised, and nothing else has happened: beside their registers, the trace and the event controller's
queues all is as before, and what was pending is pending. -/
structure State.EventsOnly (s t : State) : Prop where
  rest : ∃ regs mem fifo held traceDrop, t = { s with regs, mem, ev := { s.ev with fifo, held, traceDrop } }
  reg : ∀ k, ¬ eventReg k → t.reg k = s.reg k
  pend : ∀ n < 640, s.pends n → t.pends n

namespace State.EventsOnly

theorem refl : s.EventsOnly s := ⟨⟨_, _, _, _, _, rfl⟩, fun _ _ => rfl, fun _ _ h => h⟩

theorem trans (h₁ : s.EventsOnly t) (h₂ : t.EventsOnly u) : s.EventsOnly u := by
  refine ⟨?_, fun k hk => (h₂.reg k hk).trans (h₁.reg k hk), fun n hn h => h₂.pend n hn (h₁.pend n hn h)⟩
  obtain ⟨_, _, _, _, _, rfl⟩ := h₁.rest
  obtain ⟨_, _, _, _, _, rfl⟩ := h₂.rest
  exact ⟨_, _, _, _, _, rfl⟩

theorem now (h : s.EventsOnly t) : t.now = s.now := by
  obtain ⟨_, _, _, _, _, rfl⟩ := h.rest
  rfl

theorem bt (h : s.EventsOnly t) : t.bt = s.bt := by
  obtain ⟨_, _, _, _, _, rfl⟩ := h.rest
  rfl

theorem lk (h : s.EventsOnly t) : t.lk = s.lk := by
  obtain ⟨_, _, _, _, _, rfl⟩ := h.rest
  rfl

theorem pw (h : s.EventsOnly t) : t.pw = s.pw := by
  obtain ⟨_, _, _, _, _, rfl⟩ := h.rest
  rfl

theorem core (h : s.EventsOnly t) (c : Nat) : t.core c = s.core c := by
  obtain ⟨_, _, _, _, _, rfl⟩ := h.rest
  rfl

theorem wdogS (h : s.EventsOnly t) : t.ev.wdogS = s.ev.wdogS := by
  obtain ⟨_, _, _, _, _, rfl⟩ := h.rest
  rfl

theorem warned (h : s.EventsOnly t) : t.ev.warned = s.ev.warned := by
  obtain ⟨_, _, _, _, _, rfl⟩ := h.rest
  rfl

theorem maskBit (h : s.EventsOnly t) {lo v : Nat} (hk : ¬ eventReg (lo + 4 * (v / 32))) : t.maskBit lo v = s.maskBit lo v := by
  rw [State.maskBit, State.regBit, h.reg _ hk]
  rfl

theorem ite {c : Prop} {_ : Decidable c} (ht : s.EventsOnly t) (hu : s.EventsOnly u) : s.EventsOnly (if c then t else u) := by
  split <;> assumption

theorem ofEv {fifo held traceDrop} : s.EventsOnly { s with ev := { s.ev with fifo, held, traceDrop } } :=
  ⟨⟨_, _, _, _, _, rfl⟩, fun _ _ => rfl, fun _ _ h => h⟩

theorem write {a : Nat} {bs : Bytes} : s.EventsOnly (s.write a bs) := by
  refine ⟨⟨s.regs, (s.write a bs).mem, s.ev.fifo, s.ev.held, s.ev.traceDrop, ?_⟩, fun _ _ => s.write_reg a bs _, fun n _ h => ?_⟩
  · induction bs generalizing s a with
    | nil => rfl
    | cons b bs ih => exact ih
  · rwa [State.pends, State.regBit, State.write_reg]

/-- A register of the event controller beside the pending bits. -/
theorem setReg {k : Nat} {v : Word} (hk : eventReg k) (hp : k < R.EVT_PEND 0 ∨ R.EVT_PEND 20 ≤ k) : s.EventsOnly (s.setReg k v) := by
  refine ⟨⟨_, _, _, _, _, rfl⟩, fun j hj => s.reg_setReg_other v fun h => hj (h ▸ hk), fun n hn h => ?_⟩
  have hne : R.EVT_PEND (n / 32) ≠ k := by
    simp only [R.EVT_PEND] at hp ⊢
    omega
  rwa [State.pends, State.regBit, State.reg_setReg_other _ _ hne]

/-- A pending bit that is set. -/
theorem setPend {n : Nat} (hn : n < 640) : s.EventsOnly (s.setRegBit (R.EVT_PEND (n / 32)) (n % 32) true) := by
  have hk : eventReg (R.EVT_PEND (n / 32)) := by
    simp only [eventReg, R.EVT_PEND]
    omega
  refine ⟨⟨_, _, _, _, _, rfl⟩, fun j hj => s.reg_setReg_other _ fun h => hj (h ▸ hk), fun m hm h => ?_⟩
  by_cases hmn : R.EVT_PEND (m / 32) = R.EVT_PEND (n / 32)
  · rw [State.pends, hmn, State.regBit_setRegBit (by omega)]
    split
    · rfl
    · exact hmn ▸ h
  · rwa [State.pends, State.regBit, State.setRegBit, State.reg_setReg_other _ _ hmn]

theorem pendEvent {n : Nat} (hn : n < 640) : s.EventsOnly (s.pendEvent n) := by
  refine .ite (.setReg ?_ ?_) (.setPend hn)
  all_goals simp only [eventReg, R.EVT_WEIR, R.EVT_PEND]; omega

theorem journalEvent {n stop data : Nat} (hn : n < 640) : s.EventsOnly (s.journalEvent n stop data) := by
  refine .ite (.ite (.trans .ofEv (.setReg ?_ ?_)) (.trans .ofEv (.setReg (.inl rfl) (.inl (by decide))))) .refl
  all_goals simp only [eventReg, R.EVT_JHELD, R.EVT_PEND]; omega

/-- Beyond its pending bit or weir, an arrival is the journal's, and perhaps that of event 261. -/
theorem arrive {n stop data : Nat} (hn : n < 640) : (s.pendEvent n).EventsOnly (s.arrive n stop data) :=
  .ite (.trans (.journalEvent hn) (.trans (.pendEvent (by decide)) (.journalEvent (by decide)))) (.journalEvent hn)

theorem traceEntry {n stop data : Nat} : s.EventsOnly (s.traceEntry n stop data).1 := by
  unfold State.traceEntry
  dsimp only
  split
  · exact .refl
  · split
    · exact .trans .ofEv (.setReg (.inr (by decide)) (.inl (by decide)))
    · exact .trans .ofEv (.trans .write (.setReg (.inr (by decide)) (.inl (by decide))))

/-- What follows the setting of its pending bit, when an event enters the controller, the journal and the trace. -/
theorem raiseOnly_of_pendEvent {n stop data : Nat} (hn : n < 640) : (s.pendEvent n).EventsOnly (s.raiseOnly n stop data) :=
  .ite (.ite (.trans (.arrive hn) (.trans .traceEntry (.trans (.pendEvent (by decide)) (.arrive (by decide))))) (.trans (.arrive hn) .traceEntry))
    (.arrive hn)

theorem raiseOnly {n stop data : Nat} (hn : n < 640) : s.EventsOnly (s.raiseOnly n stop data) :=
  .trans (.pendEvent hn) (.raiseOnly_of_pendEvent hn)

end State.EventsOnly

theorem State.pendEvent_pends {n : Nat} : (s.pendEvent n).pends n := by
  unfold State.pendEvent
  split
  next h =>
    have hne : R.EVT_PEND (n / 32) ≠ R.EVT_WEIR n := by
      simp only [R.EVT_PEND, R.EVT_WEIR]
      omega
    rwa [State.pends, State.regBit, State.bump, State.reg_setReg_other _ _ hne]
  next => rw [State.pends, State.regBit_setRegBit (by omega), if_pos rfl]

/-- An event that is no excursion (R607) enters the controller, the journal and the trace, and no more. -/
theorem State.raise_eq_raiseOnly {n stop data : Nat} (h : n ∉ [318, 263, 269]) : s.raise n stop data = s.raiseOnly n stop data := by
  simp only [List.mem_cons, List.not_mem_nil, or_false, not_or] at h
  obtain ⟨h₁, h₂, h₃⟩ := h
  simp only [State.raise, h₁, h₂, h₃, or_self, if_false]

theorem State.raise_eventsOnly {n stop data : Nat} (hn : n < 640) (h : n ∉ [318, 263, 269]) : s.EventsOnly (s.raise n stop data) := by
  rw [State.raise_eq_raiseOnly h]
  exact .raiseOnly hn

/-- A raised event is pending (R870). -/
theorem State.raise_pends {n stop data : Nat} (hn : n < 640) (h : n ∉ [318, 263, 269]) : (s.raise n stop data).pends n := by
  rw [State.raise_eq_raiseOnly h]
  exact (State.EventsOnly.raiseOnly_of_pendEvent hn).pend n hn State.pendEvent_pends

end Sys2Proof.Machine

/-! SUPPORT. What an excursion leaves as it is, and a warden's write of a control block's register. -/

namespace Sys2Proof.Machine

variable {s t u : State}

/-! ### Excursions -/

/-- A register from TAMPER_TAG_FAILS to TAMPER_TAG_ADDR_HI, which count and show discarded transfers (R635). -/
abbrev tagReg (k : Nat) : Prop := 0x100800018 ≤ k ∧ k < 0x100800028

/-- From `s` to `t` excursions have been counted, with the trips and responses they lead to, and nothing else has happened. -/
structure State.ExcursionOnly (s t : State) : Prop where
  rest : ∃ regs mem ev tm pins cd stop, t = { s with regs, mem, ev, tm, pins, cd, bt := { s.bt with stop } }
  reg : ∀ k, tagReg k → t.reg k = s.reg k

namespace State.ExcursionOnly

theorem lk (h : s.ExcursionOnly t) : t.lk = s.lk := by
  obtain ⟨_, _, _, _, _, _, _, rfl⟩ := h.rest
  rfl

theorem jobs (h : s.ExcursionOnly t) : t.bt.jobs = s.bt.jobs := by
  obtain ⟨_, _, _, _, _, _, _, rfl⟩ := h.rest
  rfl

theorem refl : s.ExcursionOnly s := ⟨⟨_, _, _, _, _, _, _, rfl⟩, fun _ _ => rfl⟩

theorem trans (h₁ : s.ExcursionOnly t) (h₂ : t.ExcursionOnly u) : s.ExcursionOnly u := by
  refine ⟨?_, fun k hk => (h₂.reg k hk).trans (h₁.reg k hk)⟩
  obtain ⟨_, _, _, _, _, _, _, rfl⟩ := h₁.rest
  obtain ⟨_, _, _, _, _, _, _, rfl⟩ := h₂.rest
  exact ⟨_, _, _, _, _, _, _, rfl⟩

theorem ite {c : Prop} {_ : Decidable c} (ht : s.ExcursionOnly t) (hu : s.ExcursionOnly u) : s.ExcursionOnly (if c then t else u) := by
  split <;> assumption

theorem setReg {k : Nat} {v : Word} (h : s.ExcursionOnly t) (hk : ¬ tagReg k) : s.ExcursionOnly (t.setReg k v) :=
  h.trans ⟨⟨_, _, _, _, _, _, _, rfl⟩, fun _ hj => t.reg_setReg_other v fun e => hk (e ▸ hj)⟩

theorem setRegField {k hi lo v : Nat} (h : s.ExcursionOnly t) (hk : ¬ tagReg k) : s.ExcursionOnly (t.setRegField k hi lo v) := h.setReg hk
theorem setRegBit {k i : Nat} {b : Bool} (h : s.ExcursionOnly t) (hk : ¬ tagReg k) : s.ExcursionOnly (t.setRegBit k i b) := h.setReg hk

theorem mapTm {f : TamperState → TamperState} (h : s.ExcursionOnly t) : s.ExcursionOnly (t.mapTm f) :=
  h.trans ⟨⟨_, _, _, _, _, _, _, rfl⟩, fun _ _ => rfl⟩

theorem stopped {pins : Pins} {stop : Bool} (h : s.ExcursionOnly t) : s.ExcursionOnly { t with pins, bt := { t.bt with stop } } :=
  h.trans ⟨⟨_, _, _, _, _, _, _, rfl⟩, fun _ _ => rfl⟩

theorem raiseOnly {n stop data : Nat} (h : s.ExcursionOnly t) (hn : n < 640) : s.ExcursionOnly (t.raiseOnly n stop data) := by
  have hr : t.EventsOnly (t.raiseOnly n stop data) := .raiseOnly hn
  refine h.trans ⟨?_, fun k hk => hr.reg k ?_⟩
  · obtain ⟨_, _, _, _, _, e⟩ := hr.rest
    exact ⟨_, _, _, _, _, _, _, e⟩
  · simp only [tagReg, eventReg, R.JOURNAL_EVFIFO] at hk ⊢
    omega

theorem burnFrom {f i : Nat} (h : s.ExcursionOnly t) : s.ExcursionOnly (t.burnFrom f i) := by
  induction f generalizing t i with
  | zero => exact h
  | succ f ih =>
    unfold State.burnFrom
    split
    next => exact h
    next hi =>
      have hk : ¬ tagReg (R.TAMPER_EVID (i / 32)) := by
        simp only [tagReg, R.TAMPER_EVID]
        omega
      have hb {b n} : s.ExcursionOnly (((t.setRegBit (R.TAMPER_EVID (i / 32)) b true).setReg R.TAMPER_EVID_COUNT n).raiseOnly 311) :=
        ((h.setRegBit hk).setReg (by decide)).raiseOnly (by decide)
      exact .ite (ih (h.raiseOnly (by decide))) (.ite (hb.raiseOnly (by decide)) hb)

theorem burn (h : s.ExcursionOnly t) : s.ExcursionOnly t.burn :=
  .ite (h.setRegBit (by decide)) (h.mapTm.setRegBit (by decide)).burnFrom

theorem latch {m l : Nat} (h : s.ExcursionOnly t) : s.ExcursionOnly (t.latch m l) := .setReg (.ite h (h.setReg (by decide))) (by decide)

theorem cardsOff (h : s.ExcursionOnly t) : s.ExcursionOnly t.cardsOff :=
  ((h.setReg (by decide)).setReg (by decide)).trans ⟨⟨_, _, _, _, _, _, _, rfl⟩, fun _ _ => rfl⟩

theorem respond {m level : Nat} (h : s.ExcursionOnly t) : s.ExcursionOnly (t.respond m level) :=
  have h := ExcursionOnly.ite (h.raiseOnly (by decide)).mapTm h
  .ite
    (have h := h.latch.mapTm.stopped.cardsOff
     .ite h h.burn)
    (h.setRegField (by decide))

section
variable {m : Nat} (hm : m < 8)
include hm

theorem trip (h : s.ExcursionOnly t) : s.ExcursionOnly (t.trip m) := by
  have hk : ¬ tagReg (R.TAMPER_SRC_STATE m) := by
    simp only [tagReg, R.TAMPER_SRC_STATE]
    omega
  exact
    have h := h.mapTm.setRegField hk
    .ite (h.raiseOnly (by omega)) h.respond

/-- One excursion of a source (R611, R612). -/
theorem excursion (h : s.ExcursionOnly t) : s.ExcursionOnly (t.excursion m) := by
  have hx : ¬ tagReg (R.TAMPER_SRC_EXC m) ∧ ¬ tagReg (R.TAMPER_SRC_STATE m) := by
    simp only [tagReg, R.TAMPER_SRC_EXC, R.TAMPER_SRC_STATE]
    omega
  obtain ⟨hexc, hstate⟩ := hx
  exact
    have h := ExcursionOnly.ite ((h.setReg hexc).raiseOnly (by omega)) (h.setReg hexc)
    .ite ((h.mapTm.setRegField hstate).trip hm) (h.mapTm.setRegField hstate)

end

end State.ExcursionOnly
end Sys2Proof.Machine

/-! SUPPORT. Felt transfers (R22, R634 to R636), what a reset leaves in the registers of RESET (R665, R666), mismatches of the warden pairs
(R19, R20), a warden's write of a control block's register, and the watchdogs (R892, R893). -/

namespace Sys2Proof.Machine

variable {s : State}

/-! ### Felt transfers -/

theorem State.feltTake_lookup {src dst seq : Nat} : (s.feltTake src dst seq).lk.feltSeq.lookup (src, dst) = some seq := by
  simp [State.feltTake, State.mapLk]

/-- A discarded transfer is counted and shown; beyond that it is an excursion of source 5 (R635). -/
theorem State.feltDiscard_facts {src dst addr : Nat} :
    (s.feltDiscard src dst addr).reg R.TAMPER_TAG_FAILS = satInc (s.reg R.TAMPER_TAG_FAILS) ∧
    (s.feltDiscard src dst addr).reg R.TAMPER_TAG_LAST = w32 (src * 65536 + dst) ∧
    (s.feltDiscard src dst addr).lk = s.lk ∧ (s.feltDiscard src dst addr).bt.jobs = s.bt.jobs := by
  have h := State.ExcursionOnly.excursion (m := 5) (by decide) (.refl (s := (s.bump R.TAMPER_TAG_FAILS).setRegs
    [(R.TAMPER_TAG_LAST, src * 65536 + dst), (R.TAMPER_TAG_ADDR_LO, addr), (R.TAMPER_TAG_ADDR_HI, addr / 2 ^ 32 % 4096)]))
  refine ⟨(h.reg _ (by decide)).trans ?_, (h.reg _ (by decide)).trans ?_, h.lk, h.jobs⟩ <;>
    simp [State.setRegs, State.bump, State.reg_setReg]

/-- What a lost transfer takes with it (R317, R577) is no felt state. -/
theorem State.feltLoss_facts {src dst : Nat} :
    (s.feltLoss src dst).lk = s.lk ∧ ∀ k, tagReg k → (s.feltLoss src dst).reg k = s.reg k := by
  unfold State.feltLoss
  split
  · split
    next e _ =>
      have h := State.raise_eventsOnly (s := (s.mapKs fun k => { k with invals := k.invals.erase e }).bump R.KEYS_INVAL_LOST) (n := 283)
        (stop := 83) (data := 0) (by decide) (by decide)
      refine ⟨h.lk, fun k hk => (h.reg k ?_).trans (State.reg_setReg_other _ _ ?_)⟩ <;>
        simp only [eventReg, tagReg, R.JOURNAL_EVFIFO, R.KEYS_INVAL_LOST] at hk ⊢ <;> omega
    next =>
      dsimp only
      split
      · exact ⟨rfl, fun _ _ => rfl⟩
      · refine ⟨rfl, fun k hk => State.reg_setReg_other _ _ ?_⟩
        simp only [tagReg, R.SPRING_SEED_LOST] at hk ⊢
        omega
  · exact ⟨rfl, fun _ _ => rfl⟩

theorem State.job?_updJob {i : Nat} {f : Job → Job} (hf : ∀ j, (f j).id = j.id) : (s.updJob i f).job? i = (s.job? i).map f := by
  have hid : ((fun j : Job => j.id == i) ∘ fun j => if j.id = i then f j else j) = fun j => j.id == i := by
    funext j
    by_cases h : j.id = i <;> simp [h, hf]
  have hmap : (s.updJob i f).job? i = (s.job? i).map fun j => if j.id = i then f j else j := by
    unfold State.job? State.updJob State.mapBt
    rw [List.find?_map, hid]
  rw [hmap]
  refine Option.map_congr fun j hj => if_pos ?_
  simpa using List.find?_some hj

/-- A job whose sender's repetition is discarded as well is lost (R636). -/
theorem State.feltDiscard_feltLost {src dst addr job : Nat} {j : Job} (hj : s.job? job = some j) :
    (((s.feltDiscard src dst addr).updJob job fun j => { j with feltLost := true }).job? job).map (·.feltLost) = some true := by
  obtain ⟨-, -, -, hjobs⟩ := State.feltDiscard_facts (s := s) (src := src) (dst := dst) (addr := addr)
  have hj' : (s.feltDiscard src dst addr).job? job = some j := by rwa [State.job?, hjobs]
  rw [State.job?_updJob, hj']
  · rfl
  · exact fun _ => rfl

section
variable {src dst : Stop} {addr seq : Nat} {tagOk : Bool} (hr : s.pw.inReset = false)
include hr

theorem exec_feltTransfer : exec (.feltTransfer src dst addr seq tagOk) s = .next
    (if s.feltOk src.val dst.val seq tagOk then s.feltTake src.val dst.val seq
     else (s.feltDiscard src.val dst.val addr).feltLoss src.val dst.val) := by
  change execFeltTransfer src dst addr seq tagOk s = _
  simp only [execFeltTransfer, hr, Bool.false_eq_true, if_false]

theorem exec_feltRepeat {job : Nat} : exec (.feltRepeat src dst addr seq tagOk job) s = .next
    (if s.feltOk src.val dst.val seq tagOk then s.feltTake src.val dst.val seq
     else (s.feltDiscard src.val dst.val addr).updJob job fun j => { j with feltLost := true }) := by
  change execFeltRepeat src dst addr seq tagOk job s = _
  simp only [execFeltRepeat, hr, Bool.false_eq_true, if_false]

end

/-! ### A device reset -/

theorem State.lifeState_reg {k : Nat} (hk : k ≠ R.LIFE_STATUS) : s.lifeState.reg k = s.reg k := by
  unfold State.lifeState
  dsimp only
  split <;> exact State.reg_setReg_other _ _ hk

theorem State.lifeState_pw : s.lifeState.pw = s.pw := by
  unfold State.lifeState
  dsimp only
  split <;> rfl

/-- Every device reset leaves its cause and the kind of the start that follows (R665, R666). -/
theorem State.warmReset_facts {cause kind : Nat} :
    (s.warmReset cause kind).reg R.RESET_CAUSE = w32 cause ∧ (s.warmReset cause kind).pw.inReset = true ∧
    (s.warmReset cause kind).regField R.RESET_STATUS 5 4 = kind % 4 := by
  simp only [State.warmReset, State.resetTail, State.regField]
  rw [State.lifeState_reg (by decide), State.lifeState_reg (by decide), State.lifeState_pw]
  refine ⟨?_, rfl, ?_⟩
  · simp [State.setRegBit, State.setRegField, State.reg_setReg]
  · rw [State.setRegBit, State.reg_setReg_same, setBit, field_setField_other (by decide), State.setRegField, State.reg_setReg_same]
    exact field_setField_same (by decide)

/-! ### The warden pairs -/

/-- The service pair is held in reset with its event and without its watchdog; the primary pair is as before (R19). -/
theorem State.servicePairDown_facts (h : s.cores.length = 66) :
    (s.servicePairDown.core 65).inReset = true ∧ s.servicePairDown.pends 489 ∧ s.servicePairDown.ev.wdogS = none ∧
    s.servicePairDown.core 64 = s.core 64 := by
  have hr := State.raise_eventsOnly (s := { s.resetCore 65 true with ev := { s.ev with wdogS := none } }) (n := 489) (stop := 83) (data := 0)
    (by decide) (by decide)
  refine ⟨?_, State.raise_pends (by decide) (by decide), hr.wdogS, (hr.core 64).trans (State.core_setCore_other s _ (by decide))⟩
  exact (congrArg CoreState.inReset ((hr.core 65).trans (State.core_setCore_same s 65 _ h (by decide)))).trans rfl

theorem exec_servicePairMismatch (hr : s.pw.inReset = false) (ht : s.tripped = false) (hc : (s.core 65).inReset = false) :
    exec .servicePairMismatch s = .next s.servicePairDown := by
  change execServicePairMismatch s = _
  simp [execServicePairMismatch, hr, ht, hc]

theorem exec_primaryPairMismatch (hr : s.pw.inReset = false) (ht : s.tripped = false) (hc : (s.core 64).inReset = false) :
    exec .primaryPairMismatch s = .next ((s.resetCore 64 true).primaryPairDown 8) := by
  change execPrimaryPairMismatch s = _
  simp [execPrimaryPairMismatch, hr, ht, hc]

/-- With the beat running the primary pair's reset waits for what has been admitted (R20). -/
theorem State.primaryPairDown_running {c : Nat} (h : s.running = true) :
    s.primaryPairDown c =
      { s with bt := { s.bt with stop := true, resetAfter := some (s.bt.resetAfter.getD c) }, ev := { s.ev with wdogP := none } } :=
  if_pos h

/-! ### A warden's write of a control block's register -/

/-- A running warden's admitted word write of a register of a control block below SLUICE_CFG is the block's own (R11). -/
theorem State.wr_control {who : Sender} {k : Nat} {v : Word} {r : RegRow} (h : s.wardenAt who .store k) (hr : regRow? k = some r)
    (h₀ : 0x100000000 ≤ k) (h₁ : k < 0x100F00000) (h₄ : k % 4 = 0) :
    s.wr who k v = (s.commandWrite who k v r).getD (s.plainWrite who k v r) := by
  obtain ⟨c, rfl, hc, ⟨hreset, hheld, htrip, hcore, hlock⟩, hbus⟩ := h
  have ht : targetOf k = .control ((k - 0x100000000) / 0x100000) := by
    unfold targetOf
    rw [if_neg (by omega), if_neg (by omega), if_neg (by omega), if_pos (by omega)]
  have hg : isRegister k = true := by
    simp only [isRegister, ht, isMsix]
    simp
    omega
  have hcanon : canonReg k = k := by
    unfold canonReg
    rw [if_neg (by omega), if_neg (by omega)]
  have hw : s.writeReg (.core c true) k v = (s.commandWrite (.core c true) k v r).getD (s.plainWrite (.core c true) k v r) := by
    unfold State.writeReg
    simp only [hcanon, hr]
    rw [if_neg (by omega), if_neg (by omega), if_neg (by omega)]
  unfold State.wr State.regCommand State.busStore
  simp only [hreset, hheld, htrip, hcore, hlock, ht, hbus, hg, hw, sizeBytes, h₄]
  simp

/-! ### Watchdogs -/

/-- An admitted write of EVT_WDOG_KICK is the kick (R892). -/
theorem exec_watchdogKick {who : Sender} {v : Word} (h : s.wardenAt who .store R.EVT_WDOG_KICK) :
    exec (.watchdogKick who v) s = .next (s.wdogKick who v) := by
  refine congrArg Host.Outcome.next (?_ : s.wr who R.EVT_WDOG_KICK v = _)
  rw [State.wr_control (r := { key := 0x100d00024, wo := 0xff }) h rfl (by decide) (by decide) (by decide)]
  rfl

/-- The primary pair's kick starts its watchdog again and takes back its warning. -/
theorem State.wdogKick_primary {p : Bool} {t₀ : Nat} (h : s.ev.wdogP = some t₀) :
    s.wdogKick (.core 64 p) 0x4B = { s with ev := { s.ev with wdogP := some s.now, warned := (false, s.ev.warned.2) } } := by
  simp [State.wdogKick, h]

theorem exec_watchdogWarning_primary {t₀ : Nat} (h : s.ev.wdogP = some t₀) (hw : s.ev.warned.1 = false) :
    exec (.watchdogWarning 0) s = .next
      (({ s with now := max s.now (t₀ + s.wdogPeriod / 2), ev := { s.ev with warned := (true, s.ev.warned.2) } } : State).raise 488) := by
  change execWatchdogWarning 0 s = _
  simp [execWatchdogWarning, h, hw]

theorem exec_watchdogExpiry_primary {t₀ : Nat} (h : s.ev.wdogP = some t₀) :
    exec (.watchdogExpiry 0) s = .next (({ s with now := max s.now (t₀ + s.wdogPeriod) } : State).warmReset 11 0) := by
  change execWatchdogExpiry 0 s = _
  simp [execWatchdogExpiry, h]

theorem exec_watchdogExpiry_service {t₀ : Nat} (h : s.ev.wdogS = some t₀) :
    exec (.watchdogExpiry 1) s = .next ({ s with now := max s.now (t₀ + s.wdogPeriod) } : State).servicePairDown := by
  change execWatchdogExpiry 1 s = _
  simp [execWatchdogExpiry, h]

end Sys2Proof.Machine

namespace Sys2Proof
open Machine

/-- Settles O27: a discarded transfer is an excursion, which leaves felt state, jobs and the tag registers; a mismatch and an expiry raise
their events behind the pair's reset, and the primary pair's expiry is a warm reset. -/
theorem feltTagsAndWardenPairs : Obligations.FeltTagsAndWardenPairs := by
  intro s src dst addr seq job tagOk h66 hreset ok
  refine ⟨fun hok => ?_, fun hok => ?_, fun htrip h65 => ?_, fun htrip h64 hrun => ?_,
    fun who t₀ hwho hcore ht => ?_, fun t₀ ht => ?_, fun t₀ ht => ?_⟩
  · refine ⟨⟨_, exec_feltTransfer hreset, ?_⟩, _, exec_feltRepeat hreset, ?_⟩ <;> rw [if_pos hok] <;>
      exact ⟨State.feltTake_lookup, rfl, rfl, fun _ _ => rfl⟩
  · have hno : ¬ s.feltOk src.val dst.val seq tagOk = true := Bool.eq_false_iff.mp hok
    refine ⟨⟨_, exec_feltTransfer hreset, ?_⟩, fun j hj => ⟨_, exec_feltRepeat hreset, ?_⟩⟩ <;> rw [if_neg hno]
    · obtain ⟨hfails, hlast, hlk, -⟩ := State.feltDiscard_facts (s := s) (src := src.val) (dst := dst.val) (addr := addr)
      obtain ⟨hlk', hreg⟩ := State.feltLoss_facts (s := s.feltDiscard src.val dst.val addr) (src := src.val) (dst := dst.val)
      exact ⟨(hreg _ (by decide)).trans hfails, (hreg _ (by decide)).trans hlast, congrArg _ (hlk'.trans hlk)⟩
    · exact State.feltDiscard_feltLost hj
  · obtain ⟨hheld, hpend, -, hother⟩ := State.servicePairDown_facts h66
    exact ⟨_, exec_servicePairMismatch hreset htrip h65, hheld, hpend, hother⟩
  · refine ⟨_, exec_primaryPairMismatch hreset htrip h64, ?_⟩
    rw [State.primaryPairDown_running (s := s.resetCore 64 true) hrun]
    exact ⟨congrArg CoreState.inReset (State.core_setCore_same s 64 _ h66 (by decide)), rfl, rfl, State.core_setCore_other s _ (by decide)⟩
  · subst hcore
    refine ⟨_, exec_watchdogKick hwho, ?_⟩
    rw [State.wdogKick_primary ht]
    exact ⟨rfl, rfl, rfl, rfl, rfl, fun _ _ => rfl⟩
  · refine ⟨fun hw => ⟨_, exec_watchdogWarning_primary ht hw, ?_, State.raise_pends (by decide) (by decide)⟩, _, exec_watchdogExpiry_primary ht,
      State.warmReset_facts⟩
    exact congrArg Prod.fst (State.raise_eventsOnly (by decide) (by decide)).warned
  · obtain ⟨hheld, hpend, hdog, hother⟩ := State.servicePairDown_facts (s := { s with now := max s.now (t₀ + s.wdogPeriod) }) h66
    exact ⟨_, exec_watchdogExpiry_service ht, hheld, hpend, hdog, hother⟩

end Sys2Proof

/-! SUPPORT. Parking for power and for temperature, and what the cap's changes leave as it is (R658 to R664, R709). -/

namespace Sys2Proof.Machine

variable {s t : State}

/-! ### Registers of the PMU -/

/-- A register of the PMU below its masks of vats parked for power: its settings, its status, its cap, and the vats parked for temperature. -/
abbrev capReg (k : Nat) : Prop := 0x100A00000 ≤ k ∧ k < 0x100A00028

theorem not_eventReg_of_pmu {k : Nat} (h₀ : 0x100A00000 ≤ k) (h₁ : k < 0x100B00000) : ¬ eventReg k := by
  simp only [eventReg, R.JOURNAL_EVFIFO]
  omega

theorem State.maskBit_eq_of_reg {lo v : Nat} (h : t.reg (lo + 4 * (v / 32)) = s.reg (lo + 4 * (v / 32))) : t.maskBit lo v = s.maskBit lo v :=
  congrArg (bit · (v % 32)) h

theorem State.regBit_eq_of_reg {k i : Nat} (h : t.reg k = s.reg k) : t.regBit k i = s.regBit k i := congrArg (bit · i) h

theorem State.regField_eq_of_reg {k hi lo : Nat} (h : t.reg k = s.reg k) : t.regField k hi lo = s.regField k hi lo :=
  congrArg (field · hi lo) h

theorem State.domState_setDom {n k : Nat} : (s.setDom n k).domState n = k % 8 := by
  rw [State.domState, State.setDom, State.regField, State.setRegField, State.reg_setReg_same]
  exact field_setField_same (by decide)

theorem State.parkNext_reg {v k : Nat} : (s.parkNext v).reg k = s.reg k := by
  unfold State.parkNext State.parkAt
  dsimp only
  split <;> rfl

theorem State.parkNext_now {v : Nat} : (s.parkNext v).now = s.now := by
  unfold State.parkNext State.parkAt
  dsimp only
  split <;> rfl

/-! ### The cap on active vats (R658, R659, R709) -/

/-- From `s` to `t` vats have been parked for power and unparked: no time has passed, the PMU's settings, status and cap are as before, and
what was pending is pending. -/
structure State.CapOnly (s t : State) : Prop where
  now : t.now = s.now
  reg : ∀ k, capReg k → t.reg k = s.reg k
  pend : ∀ n < 640, s.pends n → t.pends n

namespace State.CapOnly

theorem refl : s.CapOnly s := ⟨rfl, fun _ _ => rfl, fun _ _ h => h⟩

theorem ite {c : Prop} {_ : Decidable c} {u : State} (ht : s.CapOnly t) (hu : s.CapOnly u) : s.CapOnly (if c then t else u) := by
  split <;> assumption

theorem setReg {k : Nat} {v : Word} (h : s.CapOnly t) (h₀ : 0x100A00028 ≤ k) (h₁ : k < 0x100B00000) : s.CapOnly (t.setReg k v) := by
  refine ⟨h.now, fun j hj => (State.reg_setReg_other _ _ ?_).trans (h.reg j hj), fun n hn hp => ?_⟩
  · have := hj.2
    omega
  · have hne : R.EVT_PEND (n / 32) ≠ k := by
      simp only [R.EVT_PEND]
      omega
    exact (State.regBit_eq_of_reg (State.reg_setReg_other _ _ hne)).trans (h.pend n hn hp)

theorem mapPw {f : PowerState → PowerState} (h : s.CapOnly t) : s.CapOnly (t.mapPw f) := ⟨h.now, h.reg, h.pend⟩
theorem mapBt {f : BeatState → BeatState} (h : s.CapOnly t) : s.CapOnly (t.mapBt f) := ⟨h.now, h.reg, h.pend⟩

theorem parkNext {v : Nat} (h : s.CapOnly t) : s.CapOnly (t.parkNext v) :=
  ⟨State.parkNext_now.trans h.now, fun k hk => State.parkNext_reg.trans (h.reg k hk),
    fun n hn hp => (State.regBit_eq_of_reg State.parkNext_reg).trans (h.pend n hn hp)⟩

theorem raise {n : Nat} (h : s.CapOnly t) (hn : n < 640) (hx : n ∉ [318, 263, 269]) : s.CapOnly (t.raise n) :=
  have hr : t.EventsOnly (t.raise n) := State.raise_eventsOnly hn hx
  ⟨hr.now.trans h.now, fun k hk => (hr.reg k (not_eventReg_of_pmu hk.1 (by omega))).trans (h.reg k hk),
    fun m hm hp => hr.pend m hm (h.pend m hm hp)⟩

section
variable {v : Nat} (hv : v < 64)
include hv

theorem setParkPwr {b : Bool} (h : s.CapOnly t) : s.CapOnly (t.setMaskBit R.PMU_PARK_PWR_LO v b) :=
  h.setReg (by simp only [R.PMU_PARK_PWR_LO]; omega) (by simp only [R.PMU_PARK_PWR_LO]; omega)

theorem parkPower (h : s.CapOnly t) : s.CapOnly (t.parkPower v) := by
  unfold State.parkPower
  exact (h.setParkPwr hv).mapPw.parkNext.raise (by decide) (by decide)

theorem unpark (h : s.CapOnly t) : s.CapOnly (t.unpark v) :=
  (h.mapPw.setReg (by simp only [R.PMU_DOM_STATE]; omega) (by simp only [R.PMU_DOM_STATE]; omega)).mapBt.raise (by decide) (by decide)

end

end State.CapOnly

theorem State.lt_of_mem_activeVats {v : Nat} (h : v ∈ s.activeVats) : v < 64 := List.mem_range.mp (List.mem_of_mem_filter h)

/-- The vat that is parked next is one of those that count against the cap (R659). -/
theorem State.parkChoice_lt {v : Nat} (h : s.parkChoice = some v) : v < 64 := by
  have hlast {p : Nat → Bool} {w : Nat} (hw : (s.activeVats.filter p).getLast? = some w) : w < 64 :=
    State.lt_of_mem_activeVats (List.mem_of_mem_filter (List.mem_of_getLast? hw))
  unfold State.parkChoice at h
  dsimp only at h
  split at h
  next w hw =>
    cases h
    exact hlast hw
  next =>
    obtain ⟨d, -, hd⟩ := Option.bind_eq_some_iff.mp h
    exact hlast hd

theorem State.CapOnly.capVats {f : Nat} (h : s.CapOnly t) : s.CapOnly (t.capVats f) := by
  induction f generalizing t with
  | zero => exact h
  | succ f ih =>
    unfold State.capVats
    split
    · exact h
    · split
      next hv => exact ih (h.parkPower (State.parkChoice_lt hv))
      next => exact h

theorem State.CapOnly.uncapVats (h : s.CapOnly t) : s.CapOnly t.uncapVats :=
  List.foldlRecOn (List.range 64) _ (motive := s.CapOnly) h fun _ hu _ hv =>
    .ite ((hu.setParkPwr (List.mem_range.mp hv)).unpark (List.mem_range.mp hv)) hu

/-- A change of the cap writes PMU_VAT_CAP; the rest is parking and unparking (R658). -/
theorem State.recap_capOnly : (s.setReg R.PMU_VAT_CAP (w32 s.vatCap)).CapOnly s.recap := State.CapOnly.refl.capVats.uncapVats

theorem State.recap_reg {k : Nat} (hk : capReg k) (hc : k ≠ R.PMU_VAT_CAP) : s.recap.reg k = s.reg k :=
  (State.recap_capOnly.reg k hk).trans (s.reg_setReg_other _ hc)

theorem State.recap_reg_cap : s.recap.reg R.PMU_VAT_CAP = w32 s.vatCap :=
  (State.recap_capOnly.reg _ (by decide)).trans (s.reg_setReg_same _ _)

theorem State.recap_pends {n : Nat} (hn : n < 640) (h : s.pends n) : s.recap.pends n := by
  refine State.recap_capOnly.pend n hn ((State.regBit_eq_of_reg (s.reg_setReg_other _ ?_)).trans h)
  simp only [R.EVT_PEND, R.PMU_VAT_CAP]
  omega

/-! ### Power samples (R664) -/

/-- A sample over the limit: both readings shown, and counted with those before it. -/
def State.overSampled (s : State) (mv da : Nat) : State :=
  (s.setRegs [(R.PMU_VIN_MV, mv), (R.PMU_VIN_DA, da)]).mapPw fun p =>
    { p with overs := s.pw.overs + 1, underAt := none, lowered := p.lowered + (if 3 ≤ s.pw.overs + 1 then 1 else 0) }

theorem State.overSampled_reg_mv {mv da : Nat} : (s.overSampled mv da).reg R.PMU_VIN_MV = w32 mv :=
  (State.reg_setReg_other _ _ (by decide : R.PMU_VIN_MV ≠ R.PMU_VIN_DA)).trans (State.reg_setReg_same _ _ _)

theorem State.overSampled_reg_da {mv da : Nat} : (s.overSampled mv da).reg R.PMU_VIN_DA = w32 da := State.reg_setReg_same _ _ _

theorem State.overSampled_reg {mv da k : Nat} (h₁ : k ≠ R.PMU_VIN_MV) (h₂ : k ≠ R.PMU_VIN_DA) : (s.overSampled mv da).reg k = s.reg k :=
  (State.reg_setReg_other _ _ h₂).trans (State.reg_setReg_other _ _ h₁)

/-- The first sample over the limit has no consequence yet; a further one shows that the device is over its limit and changes the cap. -/
theorem exec_pmuPowerSample_over {mv da : Fin 4096} (hh : s.pw.held = false) (hr : s.pw.inReset = false)
    (hp : 5250 * s.regField R.PMU_PWR_LIMIT 9 0 < mv.val * da.val) :
    exec (.pmuPowerSample mv da) s = .next
      (if s.pw.overs = 0 then s.overSampled mv.val da.val
       else State.recap <| if s.regBit R.PMU_STATUS 1 then s.overSampled mv.val da.val
         else ((s.overSampled mv.val da.val).setRegBit R.PMU_STATUS 1 true).raise 390) := by
  have hl : (s.setRegs [(R.PMU_VIN_MV, mv.val), (R.PMU_VIN_DA, da.val)]).regField R.PMU_PWR_LIMIT 9 0 = s.regField R.PMU_PWR_LIMIT 9 0 :=
    State.regField_eq_of_reg (State.overSampled_reg (mv := mv.val) (da := da.val) (by decide) (by decide))
  have hs : (s.overSampled mv.val da.val).regBit R.PMU_STATUS 1 = s.regBit R.PMU_STATUS 1 :=
    State.regBit_eq_of_reg (State.overSampled_reg (by decide) (by decide))
  have hn : s.pw.overs + 1 = 1 ↔ s.pw.overs = 0 := by omega
  change execPmuPowerSample mv da s = _
  unfold execPmuPowerSample
  simp only [hh, hr, hl, if_pos hp, Bool.false_eq_true, or_self, if_false, ← hs, ← hn]
  rfl

end Sys2Proof.Machine

/-! SUPPORT. Temperature samples and parking for temperature (R660, R661). -/

namespace Sys2Proof.Machine

variable {s t : State}

/-! ### Replay's records -/

theorem State.queueRec_reg {p : PendRec} {k : Nat} : (s.queueRec p).reg k = s.reg k := by
  unfold State.queueRec
  split <;> rfl

theorem State.queueRec_pw {p : PendRec} : (s.queueRec p).pw = s.pw := by
  unfold State.queueRec
  split <;> rfl

theorem State.queueRec_bt {p : PendRec} : (s.queueRec p).bt = s.bt := by
  unfold State.queueRec
  split <;> rfl

/-- A run that ends shows in REPLAY_STATUS and in no other register. -/
theorem State.replayStop_reg {r : ReplayRun} {e cls reason cause k : Nat} (hk : k ≠ R.REPLAY_STATUS) :
    (s.replayStop r e cls reason cause).reg k = s.reg k :=
  (State.reg_setReg_other _ _ hk).trans State.queueRec_reg

/-! ### Parking for temperature (R660) -/

theorem State.parkThermal_reg {v k : Nat} (hm : s.maskBit R.PMU_PARK_THERM_LO v = false) (hk : k ≠ R.REPLAY_STATUS) :
    (s.parkThermal v).reg k =
      ((((s.setMaskBit R.PMU_PARK_THERM_LO v true).mapPw fun p => { p with coming := p.coming.filter (· != v) }).parkNext v).raise 391).reg k := by
  unfold State.parkThermal
  rw [if_neg (by simp [hm])]
  exact List.foldlRecOn _ _ (motive := fun u : State => u.reg k = _) rfl fun _ hu _ _ => (State.replayStop_reg hk).trans hu

theorem State.parkThermal_facts {v : Nat} (hv : v < 64) (hm : s.maskBit R.PMU_PARK_THERM_LO v = false) :
    (s.parkThermal v).maskBit R.PMU_PARK_THERM_LO v = true ∧ (s.parkThermal v).pends 391 := by
  constructor
  · have hk : R.PMU_PARK_THERM_LO + 4 * (v / 32) ≠ R.REPLAY_STATUS := by
      simp only [R.PMU_PARK_THERM_LO, R.REPLAY_STATUS]
      omega
    rw [State.maskBit_eq_of_reg (State.parkThermal_reg hm hk), (State.raise_eventsOnly (by decide) (by decide)).maskBit,
      State.maskBit_eq_of_reg (State.parkNext_reg.trans (State.mapPw_reg _ _ _))]
    · exact State.maskBit_setMaskBit_same
    · exact not_eventReg_of_pmu (by simp only [R.PMU_PARK_THERM_LO]; omega) (by simp only [R.PMU_PARK_THERM_LO]; omega)
  · exact (State.regBit_eq_of_reg (State.parkThermal_reg hm (by decide))).trans (State.raise_pends (by decide) (by decide))

theorem State.parkThermal_reg_shut {v : Nat} : (s.parkThermal v).reg R.PMU_TJ_SHUT = s.reg R.PMU_TJ_SHUT := by
  by_cases hm : s.maskBit R.PMU_PARK_THERM_LO v = true
  · rw [State.parkThermal, if_pos hm]
  · rw [State.parkThermal_reg (Bool.eq_false_iff.mpr hm) (by decide), (State.raise_eventsOnly (by decide) (by decide)).reg _
      (not_eventReg_of_pmu (by decide) (by decide)), State.parkNext_reg]
    refine State.reg_setReg_other _ _ ?_
    simp only [R.PMU_TJ_SHUT, R.PMU_PARK_THERM_LO]
    omega

/-! ### Temperature samples (R660, R661) -/

/-- The hottest of all sensors, that of vat `v` reading `temp`. -/
def State.hottest (s : State) (v : Nat) (temp : Int) : Int :=
  (List.range 67).foldl (fun m n => max m ((s.setRegField (R.PMU_DOM_STATE v) 23 16 (tempBits temp)).domTemp n)) temp

/-- The reading of vat `v`'s sensor and the hottest of all stand in their registers. -/
def State.tempShown (s : State) (v : Nat) (temp : Int) : State :=
  (s.setRegField (R.PMU_DOM_STATE v) 23 16 (tempBits temp)).setReg R.PMU_TJ_MAX (w32 (tempBits (s.hottest v temp)))

/-- Consecutive hot samples of vat `v`, the one that reads `temp` among them. -/
def State.hotSamples (s : State) (v : Nat) (temp : Int) : Nat :=
  if (s.regField R.PMU_TJ_PARK 7 0 : Int) ≤ temp then s.pw.hot.getD v 0 + 1 else 0

/-- The sample counts as hot, and decides since when the vat, and every sensor, has been cool. -/
def State.tempCounted (s : State) (v : Nat) (temp top : Int) : State :=
  s.mapPw fun p =>
    { p with hot := p.hot.set v (s.hotSamples v temp)
             cool := p.cool.set v (if temp ≤ s.coolAt then some ((s.pw.cool.getD v none).getD s.now) else none)
             stopCool := if top ≤ s.coolAt then some (p.stopCool.getD s.now) else none }

theorem State.tempCounted_reg {v k : Nat} {temp top : Int} : (s.tempCounted v temp top).reg k = s.reg k := rfl

/-- Vat `v` is parked by its third hot sample in a row. -/
def State.tempParked (s : State) (v : Nat) (temp : Int) : State :=
  let u := (s.tempShown v temp).tempCounted v temp (s.hottest v temp)
  if 3 ≤ s.hotSamples v temp ∧ s.present v then u.parkThermal v else u

theorem State.tempShown_reg {v k : Nat} {temp : Int} (h₁ : k ≠ R.PMU_DOM_STATE v) (h₂ : k ≠ R.PMU_TJ_MAX) :
    (s.tempShown v temp).reg k = s.reg k :=
  (State.reg_setReg_other _ _ h₂).trans (State.reg_setReg_other _ _ h₁)

theorem tempBits_lt {temp : Int} : tempBits temp < 256 := by
  unfold tempBits
  omega

theorem State.tempShown_temp {v : Nat} {temp : Int} : (s.tempShown v temp).regField (R.PMU_DOM_STATE v) 23 16 = tempBits temp := by
  have hne : R.PMU_DOM_STATE v ≠ R.PMU_TJ_MAX := by
    simp only [R.PMU_DOM_STATE, R.PMU_TJ_MAX]
    omega
  rw [State.regField, State.tempShown, State.reg_setReg_other _ _ hne, State.setRegField, State.reg_setReg_same,
    field_setField_same (by decide)]
  exact Nat.mod_eq_of_lt tempBits_lt

section
variable {v : Vat} {temp : Int}

/-- A reading is no limit, and says of no vat that it is present. -/
theorem State.tempShown_reg_kept {k : Nat} (h : k < 0x100A00040 ∨ 0x100A00200 ≤ k) : (s.tempShown v.val temp).reg k = s.reg k := by
  refine State.tempShown_reg ?_ ?_ <;> simp only [R.PMU_DOM_STATE, R.PMU_TJ_MAX] <;> omega

theorem State.tempShown_hotSamples : (s.tempShown v.val temp).hotSamples v.val temp = s.hotSamples v.val temp := by
  unfold State.hotSamples State.regField
  rw [State.tempShown_reg_kept (.inl (by decide))]
  rfl

theorem State.tempShown_present : (s.tempShown v.val temp).present v.val = s.present v.val :=
  State.maskBit_eq_of_reg (State.tempShown_reg_kept (.inr (by simp only [R.LIFE_VATS_LO]; omega)))

theorem State.tempCounted_maskBit_therm {top : Int} :
    ((s.tempShown v.val temp).tempCounted v.val temp top).maskBit R.PMU_PARK_THERM_LO v.val = s.maskBit R.PMU_PARK_THERM_LO v.val :=
  State.maskBit_eq_of_reg (State.tempCounted_reg.trans (State.tempShown_reg_kept (.inl (by simp only [R.PMU_PARK_THERM_LO]; omega))))

theorem State.tempParked_reg_shut : (s.tempParked v.val temp).reg R.PMU_TJ_SHUT = s.reg R.PMU_TJ_SHUT := by
  have h : ((s.tempShown v.val temp).tempCounted v.val temp (s.hottest v.val temp)).reg R.PMU_TJ_SHUT = s.reg R.PMU_TJ_SHUT :=
    State.tempCounted_reg.trans (State.tempShown_reg_kept (.inl (by decide)))
  unfold State.tempParked
  dsimp only
  split
  · exact State.parkThermal_reg_shut.trans h
  · exact h

/-- A sample below TJ_PARK shows its reading, starts the count of hot samples again, and parks nothing. -/
theorem State.tempParked_cool (h : temp < s.regField R.PMU_TJ_PARK 7 0) :
    (s.tempParked v.val temp).regField (R.PMU_DOM_STATE v.val) 23 16 = tempBits temp ∧ (s.tempParked v.val temp).pw.hot.getD v.val 0 = 0 ∧
    (s.tempParked v.val temp).maskBit R.PMU_PARK_THERM_LO v.val = s.maskBit R.PMU_PARK_THERM_LO v.val := by
  have hhot : s.hotSamples v.val temp = 0 := if_neg (not_le.mpr h)
  have hset : s.tempParked v.val temp = (s.tempShown v.val temp).tempCounted v.val temp (s.hottest v.val temp) :=
    if_neg (by simp [hhot])
  rw [hset]
  refine ⟨(State.regField_eq_of_reg State.tempCounted_reg).trans State.tempShown_temp, ?_, State.tempCounted_maskBit_therm⟩
  have hz : (s.tempShown v.val temp).hotSamples v.val temp = 0 := State.tempShown_hotSamples.trans hhot
  simp only [State.tempCounted, State.mapPw, hz, List.getD_eq_getElem?_getD, List.getElem?_set, if_true]
  split <;> rfl

/-- The third sample in a row from TJ_PARK on parks a vat that is present. -/
theorem State.tempParked_hot (h : s.regField R.PMU_TJ_PARK 7 0 ≤ temp) (h₂ : s.pw.hot.getD v.val 0 = 2) (hp : s.present v.val = true)
    (hm : s.maskBit R.PMU_PARK_THERM_LO v.val = false) :
    (s.tempParked v.val temp).maskBit R.PMU_PARK_THERM_LO v.val = true ∧ (s.tempParked v.val temp).pends 391 := by
  have hhot : s.hotSamples v.val temp = 3 := (if_pos h).trans (by rw [h₂])
  have hset : s.tempParked v.val temp = ((s.tempShown v.val temp).tempCounted v.val temp (s.hottest v.val temp)).parkThermal v.val :=
    if_pos ⟨hhot.ge, hp⟩
  rw [hset]
  exact State.parkThermal_facts v.isLt (State.tempCounted_maskBit_therm.trans hm)

/-- Below TJ_SHUT a sample can park its vat and no more. -/
theorem exec_vatTempSample (hh : s.pw.held = false) (hr : s.pw.inReset = false) (ht : temp < s.regField R.PMU_TJ_SHUT 7 0) :
    exec (.vatTempSample v temp) s = .next (s.tempParked v.val temp) := by
  have hexec : execVatTempSample v temp s = .next
      (if s.pw.held ∨ s.pw.inReset then s else
        let u := s.tempShown v.val temp
        let w := u.tempCounted v.val temp (s.hottest v.val temp)
        let x := if 3 ≤ u.hotSamples v.val temp ∧ u.present v.val then w.parkThermal v.val else w
        if (x.regField R.PMU_TJ_SHUT 7 0 : Int) ≤ temp then x.thermalStop else x) := rfl
  have hs : ¬ ((s.tempParked v.val temp).regField R.PMU_TJ_SHUT 7 0 : Int) ≤ temp := by
    rw [State.regField, State.tempParked_reg_shut]
    exact not_le.mpr ht
  refine hexec.trans (congrArg Host.Outcome.next ?_)
  rw [if_neg (by simp [hh, hr])]
  dsimp only
  rw [State.tempShown_hotSamples, State.tempShown_present]
  exact if_neg hs

end

end Sys2Proof.Machine

/-! SUPPORT. The ends of thermal parking and stop (R660, R661), the write of the power limit (R709), a vat that joins admission (R662, R663)
and one that is power-gated (R48). -/

namespace Sys2Proof.Machine

variable {s t : State}

/-! ### The end of a thermal parking and of a thermal stop (R660, R661) -/

/-- The park bit of vat `v` is taken back 100 ms after the felt time `t₀`. -/
def State.thermalFreed (s : State) (v t₀ : Nat) : State :=
  ({ s with now := max s.now (t₀ + 100000000) } : State).setMaskBit R.PMU_PARK_THERM_LO v false

/-- Vat `v` stays parked for another cause, is unparked, or stays parked for power as the cap decides. -/
def State.unparkWithinCap (s : State) (v : Nat) : State :=
  if s.parkedFor v then s else if s.activeVats.length < s.vatCap then s.unpark v else s.setMaskBit R.PMU_PARK_PWR_LO v true

section
variable {v : Vat} {t₀ : Nat}

theorem State.unparkWithinCap_capOnly : s.CapOnly (s.unparkWithinCap v.val) :=
  .ite .refl (.ite (State.CapOnly.refl.unpark v.isLt) (State.CapOnly.refl.setParkPwr v.isLt))

theorem State.CapOnly.maskBit_therm (h : s.CapOnly t) : t.maskBit R.PMU_PARK_THERM_LO v.val = s.maskBit R.PMU_PARK_THERM_LO v.val :=
  State.maskBit_eq_of_reg (h.reg _ (by simp only [capReg, R.PMU_PARK_THERM_LO]; omega))

theorem exec_thermalUnpark (hc : s.pw.cool.getD v.val none = some t₀) (hm : s.maskBit R.PMU_PARK_THERM_LO v.val = true)
    (hs : s.regBit R.PMU_STATUS 2 = false) :
    exec (.thermalUnpark v) s = .next ((s.thermalFreed v.val t₀).unparkWithinCap v.val) := by
  change execThermalUnpark v s = _
  unfold execThermalUnpark
  simp only [hc, hm, hs, not_true_eq_false, Bool.false_eq_true, or_self, if_false]
  rfl

end

/-- The stop's flag is taken back 1 s after the felt time `t₀`, and FAULT_N follows. -/
def State.stopReleased (s : State) (t₀ : Nat) : State :=
  (({ s with now := max s.now (t₀ + 1000000000) } : State).setRegBit R.PMU_STATUS 2 false).mapPins fun p =>
    { p with fault := decide ((s.setRegBit R.PMU_STATUS 2 false).regField R.RESET_STATUS 9 8 ≠ 1) }

theorem State.stopReleased_status {t₀ : Nat} : (s.stopReleased t₀).regBit R.PMU_STATUS 2 = false := by
  rw [State.stopReleased, State.regBit_eq_of_reg (State.mapPins_reg _ _ _), State.regBit_setRegBit (by decide), if_pos rfl]

theorem exec_thermalStopRelease {t₀ : Nat} (hc : s.pw.stopCool = some t₀) (hs : s.regBit R.PMU_STATUS 2 = true) :
    exec .thermalStopRelease s = .next ((s.stopReleased t₀).raise 394) := by
  change execThermalStopRelease s = _
  unfold execThermalStopRelease
  simp only [hc, hs, not_true_eq_false, if_false]
  rfl

/-! ### The power limit (R709) -/

/-- A write of unlocked fields that is in range and in no guarded group puts `w` in the register (R11). -/
theorem State.plainWrite_ok {who : Sender} {k : Nat} {v w : Word} {r : RegRow} (hk : k ≠ R.SPRING_CTRL) (hl : s.rowLocked k r = false)
    (hw : (s.reg k &&& ~~~((writeMasks k r).1 ||| (writeMasks k r).2)) ||| (v &&& ((writeMasks k r).1 ||| (writeMasks k r).2)) = w)
    (hg : s.guardGroups k w = []) (hr : s.rangeOf k v w = .ok) :
    s.plainWrite who k v r = (s.setReg k (w &&& ~~~(v &&& w32 r.w1c))).afterWrite who k (s.reg k) v := by
  unfold State.plainWrite
  simp only [if_neg hk, hl, hw, hg, hr, Bool.false_eq_true, false_and, if_false, List.any_nil, ite_self, List.foldl_nil]

/-- The row of PMU_PWR_LIMIT. -/
def pwrLimitRow : RegRow := { key := 0x100a00008, rwl := 0x3ff, lock := some (0x100a00000, 31) }

/-- An admitted write of PMU_PWR_LIMIT that is unlocked, in range and no rise takes effect, and the cap follows. -/
theorem exec_pmuPwrLimitWrite {who : Sender} {w : Word} (h : s.wardenAt who .store R.PMU_PWR_LIMIT) (hl : s.regBit R.PMU_CTRL 31 = false)
    (h₀ : 100 ≤ w.toNat) (h₁ : w.toNat ≤ 648) (hle : w.toNat ≤ (s.reg R.PMU_PWR_LIMIT).toNat)
    (hres : s.reg R.PMU_PWR_LIMIT &&& 0xFFFFFC00 = 0) :
    exec (.pmuPwrLimitWrite who w) s = .next (s.setReg R.PMU_PWR_LIMIT w).recap := by
  refine congrArg Host.Outcome.next (?_ : s.wr who R.PMU_PWR_LIMIT w = _)
  rw [State.wr_control (r := pwrLimitRow) h rfl (by decide) (by decide) (by decide)]
  change s.plainWrite who R.PMU_PWR_LIMIT w pwrLimitRow = _
  have hunlocked : s.rowLocked R.PMU_PWR_LIMIT pwrLimitRow = false := hl
  have hlow : w &&& 0x3FF = w := by
    refine BitVec.eq_of_toNat_eq ?_
    rw [BitVec.toNat_and, show (0x3FF : Word).toNat = 2 ^ 10 - 1 from rfl, Nat.and_two_pow_sub_one_eq_mod]
    omega
  have hw : (s.reg R.PMU_PWR_LIMIT &&& 0xFFFFFC00) ||| (w &&& 0x3FF) = w := by
    rw [hres, hlow]
    exact BitVec.zero_or
  have hguard : s.guardGroups R.PMU_PWR_LIMIT w = [] := by
    change (if (s.reg R.PMU_PWR_LIMIT).toNat < w.toNat then [5] else []) = []
    exact if_neg (by omega)
  have hrange : s.rangeOf R.PMU_PWR_LIMIT w w = .ok := by
    change inRangeIf (between 100 w.toNat 648) = .ok
    simp [inRangeIf, between, h₀, h₁]
  refine (State.plainWrite_ok (by decide) hunlocked hw hguard hrange).trans ?_
  have hclear : w &&& ~~~(w &&& w32 pwrLimitRow.w1c) = w := by
    rw [show w32 pwrLimitRow.w1c = 0#32 from rfl, BitVec.and_zero, BitVec.not_zero, BitVec.and_allOnes]
  rw [hclear]
  rfl

/-! ### A vat that joins admission (R662, R663) -/

theorem State.raise_pw {n : Nat} (hn : n < 640) (hx : n ∉ [318, 263, 269]) : (s.raise n).pw = s.pw := (State.raise_eventsOnly hn hx).pw

theorem State.lowSeeds_pw : s.lowSeeds.pw = s.pw := by
  unfold State.lowSeeds
  split
  · exact State.raise_pw (by decide) (by decide)
  · rfl

theorem State.takeSeed_pw {p : Bytes × State} (h : s.takeSeed = some p) : p.2.pw = s.pw := by
  unfold State.takeSeed at h
  split at h
  · cases h
  · cases h
    exact State.lowSeeds_pw

theorem State.devReseed_pw {add : Bytes} : (s.devReseed add).pw = s.pw := by
  unfold State.devReseed
  split
  next h => exact State.takeSeed_pw h
  next => rfl

theorem State.drawDev_pw {n : Nat} : (s.drawDev n).2.pw = s.pw := by
  induction n generalizing s with
  | zero => rfl
  | succ n ih =>
    unfold State.drawDev
    dsimp only
    split <;> exact ih

theorem State.replaySeed_pw {v inst cause : Nat} {seeds : Bytes} : (s.replaySeed v inst cause seeds).pw = s.pw := by
  unfold State.replaySeed
  split
  · split
    · exact State.queueRec_pw
    · rfl
  · rfl

theorem State.instVat_pw {v n cause : Nat} : (s.instVat v n cause).pw = s.pw := by
  unfold State.instVat
  split
  · rfl
  · simp [State.setUnit, State.setMaskBit, State.setRegBit, State.replaySeed_pw, State.drawDev_pw]

theorem State.instLane_pw {v d cause : Nat} : (s.instLane v d cause).pw = s.pw := by
  unfold State.instLane
  split
  · rfl
  · simp [State.setUnit, State.setMaskBit, State.setRegBit, State.replaySeed_pw, State.drawDev_pw]

theorem State.foldl_pw {α : Type} {l : List α} {f : State → α → State} (hf : ∀ u a, (f u a).pw = u.pw) : (l.foldl f s).pw = s.pw :=
  List.foldlRecOn l f (motive := fun u => u.pw = s.pw) rfl fun u hu a _ => (hf u a).trans hu

theorem State.setRegs_pw {l : List (Nat × Nat)} : (s.setRegs l).pw = s.pw := State.foldl_pw fun _ _ => rfl

theorem State.loadVatSet_pw {v : Nat} {d : DSet} : (s.loadVatSet v d).pw = s.pw := by
  unfold State.loadVatSet
  dsimp only
  rw [State.foldl_pw, State.foldl_pw] <;> simp

theorem State.placeLocal_pw {v : Nat} {l : List SluiceLine} : (s.placeLocal v l).pw = s.pw := by
  unfold State.placeLocal
  rw [State.foldl_pw]
  exact fun u p => State.setRegs_pw

theorem State.loadVat_pw {v : Nat} : (s.loadVat v).pw = s.pw := by
  unfold State.loadVat
  split
  · rfl
  · rw [State.write_pw, State.placeLocal_pw, State.loadVatSet_pw]

/-- A vat that starts is up and on. -/
theorem State.startVat_facts {v : Nat} : v ∈ (s.startVat v).bt.up ∧ (s.startVat v).domState v = 2 ∧ (s.startVat v).pw = s.pw := by
  unfold State.startVat
  extract_lets s₁ s₂ s₃ s₄
  have hpw : s₂.pw = s.pw := by
    unfold s₂ s₁
    split <;> simp only [State.instLane_pw, State.loadVat_pw, State.instVat_pw]
  clear_value s₂
  have hup : v ∈ s₄.bt.up := by simp [s₄, s₃, State.setDom, State.setRegField]
  have hdom : s₄.domState v = 2 := State.domState_setDom
  have hpw : s₄.pw = s.pw := by simp [s₄, s₃, State.setDom, State.setRegField, State.resetCore, State.katShow, hpw]
  clear_value s₄
  split
  · exact ⟨hup, hdom, hpw⟩
  · exact ⟨hup, hdom, hpw⟩

/-- From `s` to `t` a replay command has been answered: power, the vats that are up, and every register below the watermark's are as before. -/
structure State.ReplayOnly (s t : State) : Prop where
  pw : t.pw = s.pw
  up : t.bt.up = s.bt.up
  reg : ∀ k < 0x100B00000, t.reg k = s.reg k

theorem State.ReplayOnly.trans {u : State} (h₁ : s.ReplayOnly t) (h₂ : t.ReplayOnly u) : s.ReplayOnly u :=
  ⟨h₂.pw.trans h₁.pw, h₂.up.trans h₁.up, fun k hk => (h₂.reg k hk).trans (h₁.reg k hk)⟩

theorem State.ReplayOnly.setReg {k : Nat} {v : Word} (h : s.ReplayOnly t) (hk : 0x100B00000 ≤ k) : s.ReplayOnly (t.setReg k v) :=
  h.trans ⟨rfl, rfl, fun _ hj => t.reg_setReg_other v (by omega)⟩

theorem State.ReplayOnly.measure {i : Nat} {d : Bytes} (h : s.ReplayOnly t) : s.ReplayOnly (t.measure i d) := by
  unfold State.measure
  split
  · refine State.ReplayOnly.setReg (List.foldlRecOn _ _ (motive := s.ReplayOnly) h fun _ hu _ _ => hu.setReg ?_) ?_ <;>
      simp only [R.WMARK_VALUE, R.WMARK_COUNT] <;> omega
  · exact h

theorem State.ReplayOnly.queueRec {p : PendRec} (h : s.ReplayOnly t) : s.ReplayOnly (t.queueRec p) :=
  h.trans ⟨State.queueRec_pw, congrArg BeatState.up State.queueRec_bt, fun _ _ => State.queueRec_reg⟩

theorem State.ReplayOnly.answerCmd {i e cls reason : Nat} {result output : Bytes} (h : s.ReplayOnly t) :
    s.ReplayOnly (t.answerCmd i e cls reason result output) := h.trans ⟨rfl, rfl, fun _ _ => rfl⟩

theorem State.replayBack_replayOnly {v : Nat} : s.ReplayOnly (s.replayBack v) := by
  unfold State.replayBack
  refine List.foldlRecOn _ _ (motive := s.ReplayOnly) ⟨rfl, rfl, fun _ _ => rfl⟩ fun u hu p _ => ?_
  exact ((hu.queueRec.measure.answerCmd).setReg (by decide)).trans ⟨rfl, rfl, fun _ _ => rfl⟩

theorem State.ReplayOnly.domState {n : Nat} (h : s.ReplayOnly t) (hn : n < 64) : t.domState n = s.domState n :=
  State.regField_eq_of_reg (h.reg _ (by simp only [R.PMU_DOM_STATE]; omega))

/-- A vat whose tests fail is parked for a fault. -/
theorem State.katFail_facts {v : Nat} (hv : v < 64) : (s.katFail v).maskBit R.PMU_PARK_FAULT_LO v = true ∧ (s.katFail v).pw = s.pw := by
  refine ⟨?_, rfl⟩
  refine (State.maskBit_eq_of_reg (State.reg_setReg_other _ _ ?_)).trans State.maskBit_setMaskBit_same
  simp only [R.PMU_PARK_FAULT_LO, R.PMU_DOM_STATE]
  omega

theorem State.vatLost_pw {v : Nat} : (s.vatLost v).pw = s.pw := rfl

theorem State.ReplayOnly.maskBit_fault {v : Nat} (h : s.ReplayOnly t) (hv : v < 64) :
    t.maskBit R.PMU_PARK_FAULT_LO v = s.maskBit R.PMU_PARK_FAULT_LO v :=
  State.maskBit_eq_of_reg (h.reg _ (by simp only [R.PMU_PARK_FAULT_LO]; omega))

/-- Vat `v` no longer comes up. -/
def State.notComing (s : State) (v : Nat) : State := s.mapPw fun p => { p with coming := p.coming.filter (· != v) }

theorem State.notComing_coming {v : Nat} : v ∉ (s.notComing v).pw.coming := by simp [State.notComing]

/-- A vat loaded and tested is up and on, and comes up no longer. -/
theorem State.joined_facts {v : Nat} (hv : v < 64) :
    v ∈ (((((s.notComing v).vatLost v).devReseed []).startVat v).replayBack v).bt.up ∧
    v ∉ (((((s.notComing v).vatLost v).devReseed []).startVat v).replayBack v).pw.coming ∧
    (((((s.notComing v).vatLost v).devReseed []).startVat v).replayBack v).domState v = 2 := by
  have hrep := State.replayBack_replayOnly (s := (((s.notComing v).vatLost v).devReseed []).startVat v) (v := v)
  obtain ⟨hup, hdom, hpw⟩ := State.startVat_facts (s := ((s.notComing v).vatLost v).devReseed []) (v := v)
  rw [hrep.up, hrep.pw, hrep.domState hv, hpw, State.devReseed_pw, State.vatLost_pw]
  exact ⟨hup, State.notComing_coming, hdom⟩

/-- A vat that fails its tests is parked for a fault, and comes up no longer. -/
theorem State.notJoined_facts {v : Nat} (hv : v < 64) :
    (((s.notComing v).katFail v).replayBack v).maskBit R.PMU_PARK_FAULT_LO v = true ∧
    v ∉ (((s.notComing v).katFail v).replayBack v).pw.coming := by
  have hrep := State.replayBack_replayOnly (s := (s.notComing v).katFail v) (v := v)
  obtain ⟨hfault, hpw⟩ := State.katFail_facts (s := s.notComing v) hv
  rw [hrep.maskBit_fault hv, hrep.pw, hpw]
  exact ⟨hfault, State.notComing_coming⟩

/-- VAT_JOIN loads and starts a vat that comes up, or parks it, as its tests say. -/
theorem exec_vatJoin {v : Vat} (hr : s.pw.inReset = false) (hh : s.pw.held = false) (hv : v.val ∈ s.pw.coming) :
    exec (.vatJoin v true) s = .next (((((s.notComing v.val).vatLost v.val).devReseed []).startVat v.val).replayBack v.val) ∧
    exec (.vatJoin v false) s = .next (((s.notComing v.val).katFail v.val).replayBack v.val) := by
  have hc : s.pw.coming.contains v.val = true := List.contains_iff_mem.mpr hv
  have h {ok : Bool} : exec (.vatJoin v ok) s = .next
      (if ok then ((((s.notComing v.val).vatLost v.val).devReseed []).startVat v.val).replayBack v.val
       else ((s.notComing v.val).katFail v.val).replayBack v.val) := by
    change execVatJoin v ok s = _
    unfold execVatJoin
    simp only [hr, hh, hc, not_true_eq_false, Bool.false_eq_true, or_self, if_false]
    rfl
  exact ⟨h.trans (congrArg _ (if_pos rfl)), h.trans (congrArg _ (if_neg Bool.false_ne_true))⟩

/-! ### Power gating (R48) -/

/-- A vat that loses its state has memory of zeros. -/
theorem State.vatLost_byte {v a : Nat} (ha : a < 0x1000000) : (s.vatLost v).byte (vatAddr v a) = 0 := by
  refine (State.wipe_byte s (0x1000000000 + 0x1000000 * v) 0x1000000 (vatAddr v a)).trans (if_pos ?_)
  unfold vatAddr
  omega

theorem exec_vatPowerGate {v : Vat} (hd : s.domState v.val = 3) (ha : s.inAdmission v.val = false) (hh : s.vatHolds v.val = false) :
    exec (.vatPowerGate v) s = .next ((s.vatLost v.val).setDom v.val 0) := by
  change execVatPowerGate v s = _
  unfold execVatPowerGate
  rw [if_pos ⟨hd, by simp [ha], by simp [hh]⟩]
  rfl

end Sys2Proof.Machine

namespace Sys2Proof
open Machine

/-- Settles O29: parking for power and unparking leave the PMU's status, cap and thermal masks, so what a sample, a write or an end of parking
has set in them stands; a vat that joins or is gated has its domain set last. -/
theorem parkingDecisions : Obligations.ParkingDecisions := by
  intro s v
  have hv := v.isLt
  refine ⟨fun temp hh hr ht => ⟨fun hcool => ?_, fun hpark h₂ hp hm => ?_⟩, fun t₀ hc hm hs => ?_, fun t₀ hc hs => ?_,
    fun mv da hh hr hp => ⟨fun ho => ?_, fun ho hs => ?_⟩, fun who w hwho hl h₀ h₁ hle hres => ?_,
    fun hr hh hc => ?_, fun hd ha hh => ?_⟩
  · exact ⟨_, exec_vatTempSample hh hr ht, State.tempParked_cool hcool⟩
  · exact ⟨_, exec_vatTempSample hh hr ht, State.tempParked_hot hpark h₂ hp hm⟩
  · have h := State.unparkWithinCap_capOnly (s := s.thermalFreed v.val t₀) (v := v)
    exact ⟨_, exec_thermalUnpark hc hm hs, h.maskBit_therm.trans State.maskBit_setMaskBit_same, h.now⟩
  · refine ⟨_, exec_thermalStopRelease hc hs, ?_, State.raise_pends (by decide) (by decide)⟩
    rw [State.regBit_eq_of_reg ((State.raise_eventsOnly (by decide) (by decide)).reg _ (not_eventReg_of_pmu (by decide) (by decide)))]
    exact State.stopReleased_status
  · exact ⟨_, (exec_pmuPowerSample_over hh hr hp).trans (congrArg _ (if_pos ho)), State.overSampled_reg_mv, State.overSampled_reg_da,
      congrArg (· + 1) ho, State.regBit_eq_of_reg (State.overSampled_reg (by decide) (by decide))⟩
  · refine ⟨_, (exec_pmuPowerSample_over hh hr hp).trans (congrArg _ ((if_neg (by omega)).trans (congrArg _ (if_neg (by simp [hs]))))), ?_, ?_⟩
    · rw [State.regBit_eq_of_reg (State.recap_reg (by decide) (by decide)), State.regBit_eq_of_reg ((State.raise_eventsOnly (by decide)
        (by decide)).reg _ (not_eventReg_of_pmu (by decide) (by decide))), State.regBit_setRegBit (by decide), if_pos rfl]
    · exact State.recap_pends (by decide) (State.raise_pends (by decide) (by decide))
  · have hlim : (s.setReg R.PMU_PWR_LIMIT w).regField R.PMU_PWR_LIMIT 9 0 = w.toNat := by
      rw [State.regField, State.reg_setReg_same, field]
      omega
    refine ⟨_, exec_pmuPwrLimitWrite hwho hl h₀ h₁ hle hres, ?_, ?_⟩
    · exact (State.recap_reg (by decide) (by decide)).trans (State.reg_setReg_same _ _ _)
    · rw [State.recap_reg_cap, State.vatCap, hlim, State.reg_setReg_other _ _ (by decide), State.reg_setReg_other _ _ (by decide)]
      rfl
  · obtain ⟨hjoin, hfail⟩ := exec_vatJoin hr hh hc
    exact ⟨⟨_, hjoin, State.joined_facts hv⟩, _, hfail, State.notJoined_facts hv⟩
  · exact ⟨_, exec_vatPowerGate hd ha hh, State.domState_setDom, fun a ha => State.vatLost_byte ha⟩

end Sys2Proof

/-! SUPPORT. An edge commanded while no beat runs (R49, R52), and a missed edge of a late read set (R87). -/

namespace Sys2Proof.Machine

variable {s : State}

/-! ### Edges -/

/-- BEAT_EDGE does nothing while the generator produces no edges. -/
theorem exec_beatEdge_stopped (h : s.running = false) : exec .beatEdge s = .next s := by
  change execBeatEdge s = _
  simp [execBeatEdge, h]

/-! ### Missed edges -/

theorem exec_missedEdge {i : Nat} {j : Job} {vatCause : Bool} (hj : s.job? i = some j) (hdue : j.due = some s.beat)
    (hvat : j.onVat.isSome) (hlate : j.ready = false ∨ j.committed = false) :
    exec (.missedEdge i vatCause) s = .next (s.missEdge j vatCause) := by
  have hmiss : j.due = some s.beat ∧ j.onVat.isSome ∧ ¬ (j.ready ∧ j.committed) := by
    refine ⟨hdue, hvat, ?_⟩
    rcases hlate with h | h <;> simp [h]
  change execMissedEdge i vatCause s = _
  simp only [execMissedEdge, hj, if_pos hmiss]

/-- A deckle, beyond the sixteen of the device, whose register RESV_DLATE would stand at the address of EVT_PEND 7. -/
def aliasedDeckle : Nat := (R.EVT_PEND 7 - R.RESV_DLATE 0) / 0x10

/-- A job of that deckle and of a surcharged verb, which vat 0 has run in beat 0; its read set is late and its record not committed. -/
def aliasedLateJob : Job :=
  { State.reset.newJob (.host 0 0) aliasedDeckle [] [] none with
    stage := .admitted 0 0, surcharge := 1, due := some 0, ready := true, vat := some 0 }

/-- The machine after reset, with that job and with events 224 to 244 pending. -/
def aliasedLateState : State :=
  (State.reset.mapBt fun b => { b with jobs := [aliasedLateJob], nextJob := 1 }).setReg (R.EVT_PEND 7) 0x1FFFFF

/-- Event 245 makes EVT_PEND 7 read 0x3FFFFF; counting the late read set there carries out of its bit. -/
theorem missEdge_not_pends : ¬ (aliasedLateState.missEdge aliasedLateJob true).pends 245 := by
  unfold State.pends
  decide +kernel

end Sys2Proof.Machine

namespace Sys2Proof
open Machine

/-- Refutes O36: after reset the generator does not run, so BEAT_EDGE leaves BEAT_COUNT as it is, where the first clause has it rise by one
in every state that is not quiet. -/
theorem not_beatAndTime : ¬ Obligations.BeatAndTime := by
  unfold Obligations.BeatAndTime
  intro h
  obtain ⟨hclauses, -⟩ := h
  obtain ⟨hedge, -⟩ := hclauses State.reset (.host 0) 0
  obtain ⟨t, ht, hbeat, -⟩ := hedge (by decide)
  rw [exec_beatEdge_stopped (by decide)] at ht
  cases ht
  exact absurd hbeat (by decide)

/-- Refutes O38: no hypothesis bounds the job's deckle, and where the counter RESV_DLATE of its late read sets stands at EVT_PEND 7, counting
one clears the pending bit of event 245 just raised (R87). -/
theorem not_couchReleases : ¬ Obligations.CouchReleases := by
  unfold Obligations.CouchReleases
  intro h
  obtain ⟨-, hmissed⟩ := h aliasedLateState 0 aliasedLateJob (by decide) (by decide) (by decide)
  obtain ⟨t, ht, -, -, hpends, -⟩ := hmissed (by decide) (.inr rfl)
  rw [exec_missedEdge (j := aliasedLateJob) (by decide) (by decide) (by decide) (.inr rfl)] at ht
  cases ht
  exact missEdge_not_pends hpends

end Sys2Proof

/-! SUPPORT. FF1's digit strings and rounds, and what the token verbs make of a string of digits (R136, R138). -/

namespace Sys2Proof.Machine

/-! ### Digit strings -/

theorem strRadix_length {r m n : Nat} : (strRadix r m n).length = m := by
  induction m generalizing n with
  | zero => rfl
  | succ m ih => simp [strRadix, ih]

theorem strRadix_digits {r m n d : Nat} (hr : 1 < r) (hd : d ∈ strRadix r m n) : d < r := by
  induction m generalizing n with
  | zero => cases hd
  | succ m ih =>
    simp only [strRadix, List.mem_append, List.mem_singleton] at hd
    obtain hd | rfl := hd
    · exact ih hd
    · exact Nat.mod_lt _ (by omega)

theorem numRadix_append_singleton {r d : Nat} {x : List Nat} : numRadix r (x ++ [d]) = numRadix r x * r + d := by
  simp [numRadix]

/-- A digit string is the one of its length that spells its number. -/
theorem strRadix_numRadix {r : Nat} {x : List Nat} (hx : ∀ d ∈ x, d < r) : strRadix r x.length (numRadix r x) = x := by
  induction x using List.reverseRecOn with
  | nil => rfl
  | append_singleton x d ih =>
    have hd : d < r := hx d (by simp)
    rw [List.length_append, List.length_singleton, strRadix, numRadix_append_singleton, Nat.add_comm (_ * r), Nat.add_mul_div_right _ _ (by omega),
      Nat.div_eq_of_lt hd, Nat.zero_add, ih fun e he => hx e (by simp [he]), Nat.add_mul_mod_self_right, Nat.mod_eq_of_lt hd]

theorem numRadix_eq_ofDigits {r : Nat} {x : List Nat} : numRadix r x = Nat.ofDigits r x.reverse := by
  rw [Nat.ofDigits_eq_foldr, List.foldr_reverse, numRadix]
  simp only [Nat.cast_id, Nat.add_comm, Nat.mul_comm]

theorem numRadix_lt {r : Nat} {x : List Nat} (hr : 1 < r) (hx : ∀ d ∈ x, d < r) : numRadix r x < r ^ x.length := by
  rw [numRadix_eq_ofDigits, ← List.length_reverse]
  exact Nat.ofDigits_lt_base_pow_length hr fun d hd => hx d (List.mem_reverse.mp hd)

theorem numRadix_strRadix {r m n : Nat} (hn : n < r ^ m) : numRadix r (strRadix r m n) = n := by
  induction m generalizing n with
  | zero =>
    obtain rfl : n = 0 := by simpa using hn
    rfl
  | succ m ih =>
    have hq : n / r < r ^ m := Nat.div_lt_of_lt_mul (by rwa [Nat.pow_succ, Nat.mul_comm] at hn)
    rw [strRadix, numRadix_append_singleton, ih hq, Nat.div_add_mod']

/-! ### The rounds of FF1 -/

/-- Digits in round `i` of FF1 over `n` digits. -/
def ff1Half (n i : Nat) : Nat := if i % 2 = 0 then n / 2 else n - n / 2

/-- The halves of a digit string, and the string of two halves. -/
def ff1Split (x : List Nat) : List Nat × List Nat := (x.take (x.length / 2), x.drop (x.length / 2))
def ff1Join (p : List Nat × List Nat) : List Nat := p.1 ++ p.2

/-- Round `i` of FF1 encryption over `n` digits, and of decryption. -/
def ff1Round (key : Bytes) (r n : Nat) (tweak : Bytes) (p : List Nat × List Nat) (i : Nat) : List Nat × List Nat :=
  (p.2, strRadix r (ff1Half n i) ((numRadix r p.1 + ff1Y key r n tweak i p.2) % r ^ ff1Half n i))
def ff1Unround (key : Bytes) (r n : Nat) (tweak : Bytes) (p : List Nat × List Nat) (i : Nat) : List Nat × List Nat :=
  (strRadix r (ff1Half n i) ((numRadix r p.2 + r ^ ff1Half n i - ff1Y key r n tweak i p.1 % r ^ ff1Half n i) % r ^ ff1Half n i), p.1)

variable {key tweak : Bytes} {r n i : Nat} {p : List Nat × List Nat} {x : List Nat}

theorem ff1Enc_eq : ff1Enc key r tweak x = ff1Join ((List.range 10).foldl (ff1Round key r x.length tweak) (ff1Split x)) := rfl

theorem ff1Dec_eq : ff1Dec key r tweak x = ff1Join ((List.range 10).reverse.foldl (ff1Unround key r x.length tweak) (ff1Split x)) := rfl

/-- What the halves are before round `i`: digit strings of the lengths that the round takes. -/
structure Ff1Halves (r n i : Nat) (p : List Nat × List Nat) : Prop where
  left : p.1.length = ff1Half n i
  right : p.2.length = ff1Half n (i + 1)
  digitsLeft : ∀ d ∈ p.1, d < r
  digitsRight : ∀ d ∈ p.2, d < r

theorem ff1Half_add_two : ff1Half n (i + 2) = ff1Half n i := by simp [ff1Half]

theorem Ff1Halves.round (hr : 1 < r) (h : Ff1Halves r n i p) : Ff1Halves r n (i + 1) (ff1Round key r n tweak p i) :=
  ⟨h.right, strRadix_length.trans ff1Half_add_two.symm, h.digitsRight, fun _ => strRadix_digits hr⟩

/-- A number below the modulus comes back when what was added modulo it is taken away. -/
theorem mod_unshift {a m : Nat} (ha : a < m) (y : Nat) : ((a + y) % m + m - y % m) % m = a := by
  have hy : y % m < m := Nat.mod_lt _ (by omega)
  have hk : a + y + (m - y % m) = a + m * (y / m + 1) := by
    have := Nat.div_add_mod y m
    rw [Nat.mul_add]
    omega
  rw [Nat.add_sub_assoc hy.le, Nat.mod_add_mod, hk, Nat.add_mul_mod_self_left, Nat.mod_eq_of_lt ha]

/-- Decryption's round takes back encryption's. -/
theorem ff1Unround_ff1Round (hr : 1 < r) (h : Ff1Halves r n i p) : ff1Unround key r n tweak (ff1Round key r n tweak p i) i = p := by
  have hlt : numRadix r p.1 < r ^ ff1Half n i := h.left ▸ numRadix_lt hr h.digitsLeft
  generalize hm : r ^ ff1Half n i = m at hlt
  have hnum (y : Nat) : numRadix r (strRadix r (ff1Half n i) (y % m)) = y % m := numRadix_strRadix (hm.symm ▸ Nat.mod_lt _ (by omega))
  have hstr : strRadix r (ff1Half n i) (numRadix r p.1) = p.1 := h.left ▸ strRadix_numRadix h.digitsLeft
  simp only [ff1Unround, ff1Round, hm, hnum, mod_unshift hlt, hstr]

theorem Ff1Halves.rounds (hr : 1 < r) (h : Ff1Halves r n 0 p) (k : Nat) :
    Ff1Halves r n k ((List.range k).foldl (ff1Round key r n tweak) p) ∧
      (List.range k).reverse.foldl (ff1Unround key r n tweak) ((List.range k).foldl (ff1Round key r n tweak) p) = p := by
  induction k with
  | zero => exact ⟨h, rfl⟩
  | succ k ih =>
    obtain ⟨hk, hback⟩ := ih
    rw [List.range_succ, List.foldl_concat, List.reverse_append, List.reverse_singleton, List.singleton_append, List.foldl_cons]
    exact ⟨hk.round hr, by rw [ff1Unround_ff1Round hr hk, hback]⟩

theorem ff1Halves_split (hx : ∀ d ∈ x, d < r) : Ff1Halves r x.length 0 (ff1Split x) where
  left := by simp [ff1Split, ff1Half]; omega
  right := by simp [ff1Split, ff1Half]
  digitsLeft _ hd := hx _ (List.mem_of_mem_take hd)
  digitsRight _ hd := hx _ (List.mem_of_mem_drop hd)

theorem ff1Join_split : ff1Join (ff1Split x) = x := List.take_append_drop _ _

theorem Ff1Halves.length_join (h : Ff1Halves r n 10 p) : (ff1Join p).length = n := by
  rw [ff1Join, List.length_append, h.left, h.right]
  simp [ff1Half]
  omega

theorem Ff1Halves.split_join (h : Ff1Halves r n 10 p) : ff1Split (ff1Join p) = p := by
  rw [ff1Split, h.length_join, ff1Join]
  exact Prod.ext (List.take_left' h.left) (List.drop_left' h.left)

/-- FF1 encryption keeps the length, and decryption with the same key and tweak takes it back. -/
theorem ff1Enc_length (hr : 1 < r) (hx : ∀ d ∈ x, d < r) : (ff1Enc key r tweak x).length = x.length :=
  ((ff1Halves_split hx).rounds hr 10).1.length_join

theorem ff1Dec_ff1Enc (hr : 1 < r) (hx : ∀ d ∈ x, d < r) : ff1Dec key r tweak (ff1Enc key r tweak x) = x := by
  obtain ⟨h, hback⟩ := (ff1Halves_split hx).rounds (key := key) (tweak := tweak) hr 10
  rw [ff1Dec_eq, ff1Enc_length hr hx, ff1Enc_eq, h.split_join, hback, ff1Join_split]

/-! ### Tokens -/

/-- The tweak of a token: its leading and trailing digits, and the operands' own (R136). -/
def tokenTweak (b : Bytes) (head tail : List Nat) : Bytes :=
  undigits head ++ undigits tail ++ slice b 0x28 (byteAt b 0x25) ++ (if leAt b 0x26 2 = 0 then [] else beBytes 2 (leAt b 0x26 2))

/-- Without a check digit a string of three parts keeps the first and the last, and FF1 works on the middle one (R136). -/
theorem tokenDigits_parts {enc : Bool} {b : Bytes} {head mid tail : List Nat} :
    tokenDigits enc key b head.length tail.length 0 (head ++ (mid ++ tail)) =
      head ++ ((if enc then ff1Enc key 10 (tokenTweak b head tail) mid else ff1Dec key 10 (tokenTweak b head tail) mid) ++ tail) := by
  have hn : (head ++ (mid ++ tail)).length - tail.length = head.length + mid.length := by simp only [List.length_append]; omega
  have hmid : ((head ++ (mid ++ tail)).take (head.length + mid.length)).drop head.length = mid := by simp [List.take_append]
  have htail : (head ++ (mid ++ tail)).drop (head.length + mid.length) = tail := by simp [List.drop_append]
  unfold tokenDigits tokenTweak
  simp only [if_true, Nat.sub_zero, List.take_length, hn, hmid, htail, List.take_left, List.append_assoc]

/-- A digit string with room for its leading and trailing digits falls into three parts. -/
theorem exists_tokenParts {ds : List Nat} {lead trail : Nat} (h : lead + trail ≤ ds.length) :
    ∃ head mid tail : List Nat, ds = head ++ (mid ++ tail) ∧ head.length = lead ∧ tail.length = trail := by
  refine ⟨ds.take lead, (ds.drop lead).take (ds.length - trail - lead), (ds.drop lead).drop (ds.length - trail - lead), ?_, ?_, ?_⟩
  · rw [List.take_append_drop, List.take_append_drop]
  · rw [List.length_take]
    omega
  · rw [List.length_drop, List.length_drop]
    omega

end Sys2Proof.Machine

namespace Sys2Proof
open Machine

/-- Settles O44: both verbs split the string alike and give FF1 the same tweak, as neither changes the leading and trailing digits; and
FF1's decryption undoes its rounds from the last to the first. -/
theorem tokensInvert : Obligations.TokensInvert := by
  intro key b lead trail ds hds hlen _
  obtain ⟨head, mid, tail, rfl, rfl, rfl⟩ := exists_tokenParts (ds := ds) (lead := lead) (trail := trail) (by omega)
  have hmid : ∀ d ∈ mid, d < 10 := fun d hd => hds d (by simp [hd])
  have henc (t : Bytes) : (ff1Enc key 10 t mid).length = mid.length := ff1Enc_length (by decide) hmid
  have hlast (m : List Nat) (hm : m.length = mid.length) :
      (head ++ (m ++ tail)).drop ((head ++ (mid ++ tail)).length - tail.length) = tail := by
    rw [← List.append_assoc head m]
    refine List.drop_left' ?_
    simp only [List.length_append, hm]
    omega
  rw [tokenDigits_parts, if_pos rfl, tokenDigits_parts, if_neg Bool.false_ne_true, ff1Dec_ff1Enc (by decide) hmid]
  exact ⟨rfl, by simp only [List.length_append, henc], by rw [List.take_left, List.take_left], (hlast _ (henc _)).trans (hlast _ rfl).symm⟩

end Sys2Proof

/-! SUPPORT. What leaves the list of jobs as it is: draws, records, events, error capture, writes to the reservoir, and every access of a
program at user level. -/

namespace Sys2Proof.Machine

variable {s t : State}

/-! ### Branches and folds -/

@[simp] theorem State.ite_jobs {c : Prop} [Decidable c] : (if c then s else t).bt.jobs = if c then s.bt.jobs else t.bt.jobs :=
  apply_ite (fun t => t.bt.jobs) c s t

theorem State.foldl_jobs {α : Type} {l : List α} {f : State → α → State} (hf : ∀ u a, (f u a).bt.jobs = u.bt.jobs) :
    (l.foldl f s).bt.jobs = s.bt.jobs :=
  List.foldlRecOn l f (motive := fun u => u.bt.jobs = s.bt.jobs) rfl fun u hu a _ => (hf u a).trans hu

/-! ### Registers, events and error capture -/

@[simp] theorem State.bump_jobs {k : Nat} : (s.bump k).bt.jobs = s.bt.jobs := rfl
@[simp] theorem State.bumpBy_jobs {k n : Nat} : (s.bumpBy k n).bt.jobs = s.bt.jobs := rfl
@[simp] theorem State.bump64_jobs {k n : Nat} : (s.bump64 k n).bt.jobs = s.bt.jobs := rfl
@[simp] theorem State.setRegBit_jobs {k i : Nat} {b : Bool} : (s.setRegBit k i b).bt.jobs = s.bt.jobs := rfl
@[simp] theorem State.setMaskBit_jobs {lo v : Nat} {b : Bool} : (s.setMaskBit lo v b).bt.jobs = s.bt.jobs := rfl
@[simp] theorem State.raiseLocal_jobs {v e : Nat} : (s.raiseLocal v e).bt.jobs = s.bt.jobs := rfl
@[simp] theorem State.setRegs_jobs {l : List (Nat × Nat)} : (s.setRegs l).bt.jobs = s.bt.jobs := State.foldl_jobs fun _ _ => rfl
@[simp] theorem State.emit_jobs {p : OutPort} {bs : Bytes} : (s.emit p bs).bt.jobs = s.bt.jobs := by simp [State.emit]
@[simp] theorem State.setUnit_jobs {v : Nat} {u : DrbgUnit} : (s.setUnit v u).bt.jobs = s.bt.jobs := rfl
@[simp] theorem State.queueRec_jobs {p : PendRec} : (s.queueRec p).bt.jobs = s.bt.jobs := congrArg BeatState.jobs State.queueRec_bt

@[simp] theorem State.pendEvent_jobs {n : Nat} : (s.pendEvent n).bt.jobs = s.bt.jobs := by simp [State.pendEvent]

@[simp] theorem State.journalEvent_jobs {n stop data : Nat} : (s.journalEvent n stop data).bt.jobs = s.bt.jobs := by
  simp [State.journalEvent]

@[simp] theorem State.arrive_jobs {n stop data : Nat} : (s.arrive n stop data).bt.jobs = s.bt.jobs := by simp [State.arrive]

@[simp] theorem State.traceEntry_jobs {n stop data : Nat} : (s.traceEntry n stop data).1.bt.jobs = s.bt.jobs := by
  unfold State.traceEntry
  dsimp only
  split
  · rfl
  · split
    · rfl
    · simp

@[simp] theorem State.raiseOnly_jobs {n stop data : Nat} : (s.raiseOnly n stop data).bt.jobs = s.bt.jobs := by simp [State.raiseOnly]

/-- The excursions that some events are as well stop admission, and leave the jobs (R607, R619). -/
@[simp] theorem State.raise_jobs {n stop data : Nat} : (s.raise n stop data).bt.jobs = s.bt.jobs := by
  unfold State.raise
  split
  · exact (State.ExcursionOnly.excursion (by decide) .refl).jobs.trans State.raiseOnly_jobs
  · split
    · exact (State.ExcursionOnly.excursion (by decide) .refl).jobs.trans State.raiseOnly_jobs
    · exact State.raiseOnly_jobs

@[simp] theorem State.capture_jobs {src : Nat} {e : ErrEntry} : (s.capture src e).bt.jobs = s.bt.jobs := by simp [State.capture]

@[simp] theorem State.errAt_jobs {code : Nat} {who : Sender} {k : Kind} {a : Nat} : (s.errAt code who k a).bt.jobs = s.bt.jobs :=
  State.capture_jobs

/-! ### The reservoir -/

@[simp] theorem State.nvmeIssue_jobs {q : Nat} {kind : NvmeKind} {lba rbn : Nat} {data : Bytes} :
    (s.nvmeIssue q kind lba rbn data).bt.jobs = s.bt.jobs := by
  unfold State.nvmeIssue
  split
  · cases kind <;> simp
  · simp [State.ioError]

@[simp] theorem State.treeUp_jobs {k i f : Nat} : (s.treeUp k i f).bt.jobs = s.bt.jobs := by
  induction f generalizing s k i with
  | zero => rfl
  | succ f ih => exact ih

@[simp] theorem State.writeTreeBlock_jobs {n : Nat} : (s.writeTreeBlock n).bt.jobs = s.bt.jobs := by
  unfold State.writeTreeBlock
  split
  · rfl
  · simp

@[simp] theorem State.resvWrite_jobs {n : Ns} {j : Nat} {data : Bytes} : (s.resvWrite n j data).bt.jobs = s.bt.jobs := by
  unfold State.resvWrite
  dsimp only
  rw [State.foldl_jobs fun _ _ => State.writeTreeBlock_jobs, State.treeUp_jobs]
  exact State.nvmeIssue_jobs

/-! ### Keys -/

@[simp] theorem State.install_jobs {r : KeyRec} : (s.install r).bt.jobs = s.bt.jobs := rfl
@[simp] theorem State.sendInvals_jobs {d h g : Nat} : (s.sendInvals d h g).bt.jobs = s.bt.jobs := rfl
@[simp] theorem State.writeCounter_jobs {c : CounterWrite} : (s.writeCounter c).bt.jobs = s.bt.jobs := rfl
@[simp] theorem State.loadWindow_jobs {v : Nat} {r : KeyRec} : (s.loadWindow v r).bt.jobs = s.bt.jobs := by simp [State.loadWindow]

@[simp] theorem State.writeSlotBlock_jobs {d h : Nat} : (s.writeSlotBlock d h).bt.jobs = s.bt.jobs := by
  unfold State.writeSlotBlock
  split
  · exact State.resvWrite_jobs
  · rfl

@[simp] theorem State.recoverKey_jobs {d h : Nat} : (s.recoverKey d h).bt.jobs = s.bt.jobs := by
  unfold State.recoverKey
  dsimp only
  split <;> simp

@[simp] theorem State.tagFail_jobs {d h : Nat} : (s.tagFail d h).bt.jobs = s.bt.jobs := by simp [State.tagFail]

@[simp] theorem State.putEntry_jobs {v : Nat} {e : VaultEntry} : (s.putEntry v e).bt.jobs = s.bt.jobs := by simp [State.putEntry]

@[simp] theorem State.hold_jobs {x : Work} {r : KeyRec} {sync : Bool} : (s.hold x r sync).bt.jobs = s.bt.jobs := by simp [State.hold]

/-! ### Draws -/

@[simp] theorem State.drawDev_jobs {n : Nat} : (s.drawDev n).2.bt.jobs = s.bt.jobs := by
  induction n generalizing s with
  | zero => rfl
  | succ n ih =>
    unfold State.drawDev
    dsimp only
    split <;> exact ih

@[simp] theorem State.drawSalt_jobs : s.drawSalt.2.bt.jobs = s.bt.jobs := State.drawDev_jobs

@[simp] theorem State.replaySeed_jobs {v inst cause : Nat} {seeds : Bytes} : (s.replaySeed v inst cause seeds).bt.jobs = s.bt.jobs := by
  unfold State.replaySeed
  split
  · simp
  · rfl

@[simp] theorem State.instLane_jobs {v d cause : Nat} : (s.instLane v d cause).bt.jobs = s.bt.jobs := by
  unfold State.instLane
  split
  · rfl
  · simp

theorem State.drawVatAux_jobs {v k n : Nat} : (State.drawVatAux v k s n).2.bt.jobs = s.bt.jobs := by
  induction k generalizing s n with
  | zero => rfl
  | succ k ih =>
    unfold State.drawVatAux
    split
    · rfl
    · exact ih

theorem State.drawVat_jobs {v n : Nat} {p : Bytes × State} (h : s.drawVat v n = some p) : p.2.bt.jobs = s.bt.jobs := by
  unfold State.drawVat at h
  split at h
  · cases h
  · cases h
    exact State.drawVatAux_jobs

@[simp] theorem State.jobDraw_jobs {v n : Nat} : (s.jobDraw v n).2.2.bt.jobs = s.bt.jobs := by
  unfold State.jobDraw
  split
  · rfl
  · split
    next h => exact State.drawVat_jobs h
    next => rfl

@[simp] theorem State.drawKey_jobs {v kt n k : Nat} : (s.drawKey v kt n k).2.2.bt.jobs = s.bt.jobs := by
  induction k generalizing s with
  | zero => rfl
  | succ k ih =>
    unfold State.drawKey
    dsimp only
    split
    · exact ih.trans State.jobDraw_jobs
    · exact State.jobDraw_jobs

theorem State.drawLane_jobs {v n : Nat} {pr : Bool} {add : Bytes} {p : Bytes × State} (h : s.drawLane v n pr add = .ok p) :
    p.2.bt.jobs = s.bt.jobs := by
  unfold State.drawLane at h
  dsimp only at h
  split at h
  · cases h
  · split at h
    · cases h
    · split at h
      · split at h
        · cases h
          exact State.instLane_jobs
        · cases h
      · split at h
        · split at h
          · cases h
          · cases h
            rfl
        · cases h
          rfl

/-! ### Accesses at user level -/

@[simp] theorem State.sluiceRefused_jobs {n : Nat} {a : SluiceAccess} {sub fa : Nat} : (s.sluiceRefused n a sub fa).bt.jobs = s.bt.jobs := by
  unfold State.sluiceRefused
  extract_lets s₀ s₁ s₂ s₃ s₄
  have h₁ : s₁.bt.jobs = s.bt.jobs := by
    unfold s₁
    split <;> rfl
  have h₂ : s₂.bt.jobs = s.bt.jobs := by
    unfold s₂
    split
    · rw [State.setReg_bt, State.setReg_bt, State.bump_jobs]
    · rw [State.setReg_bt, State.setReg_bt, State.setReg_bt, h₁]
  have h₄ : s₄.bt.jobs = s.bt.jobs := by
    unfold s₄
    split
    · exact State.raise_jobs.trans (State.errAt_jobs.trans h₂)
    · exact State.errAt_jobs.trans h₂
  clear_value s₄
  split
  · split
    · exact State.raise_jobs.trans h₄
    · exact h₄
  · exact h₄

@[simp] theorem State.busDenied_jobs {who : Sender} {kind : Kind} {a : Nat} {d : Deny} : (s.busDenied who kind a d).bt.jobs = s.bt.jobs := by
  unfold State.busDenied
  split
  · split
    · dsimp only
      split <;> simp
    · rfl
  · exact State.errAt_jobs

@[simp] theorem State.localDenied_jobs {v : Nat} {priv : Bool} {kind : Kind} {a : Nat} {d : Deny} :
    (s.localDenied v priv kind a d).bt.jobs = s.bt.jobs := by simp [State.localDenied]

@[simp] theorem State.poisonRead_jobs {who : Sender} {kind : Kind} {a : Nat} : (s.poisonRead who kind a).bt.jobs = s.bt.jobs := by
  simp [State.poisonRead]

@[simp] theorem State.memWrite_jobs {a n : Nat} {v : Word} : (s.memWrite a n v).bt.jobs = s.bt.jobs := by
  have hdeep {u : State} {o : Nat} {b : Byte} : (u.setDeepByte o b).bt.jobs = u.bt.jobs := by simp [State.setDeepByte]
  unfold State.memWrite
  split
  · exact State.foldl_jobs fun _ _ => hdeep
  · rw [State.write_bt]

theorem State.springOut_jobs {p : Word × State} (h : s.springOut = some p) : p.2.bt.jobs = s.bt.jobs := by
  unfold State.springOut at h
  split at h
  · cases h
  · cases h
    exact State.drawDev_jobs

theorem State.springRawRead_jobs : s.springRawRead.2.bt.jobs = s.bt.jobs := by
  unfold State.springRawRead
  split <;> rfl

theorem State.uartRead_jobs : s.uartRead.2.bt.jobs = s.bt.jobs := by
  unfold State.uartRead
  split <;> rfl

theorem State.vdrOut_jobs {v : Nat} {p : Word × State} (h : s.vdrOut v = some p) : p.2.bt.jobs = s.bt.jobs := by
  unfold State.vdrOut at h
  split at h
  next hd =>
    cases h
    exact State.drawVat_jobs hd
  next => cases h

theorem State.latchRead_jobs {who : Sender} {k : Nat} : (s.latchRead who k).2.bt.jobs = s.bt.jobs := by
  unfold State.latchRead
  dsimp only
  split
  · rfl
  · split <;> rfl

/-- A register read may draw, pop a queue or latch a shadow (R16, R598, R603). -/
theorem State.readReg_jobs {who : Sender} {k : Nat} {p : Word × State} (h : s.readReg who k = some p) : p.2.bt.jobs = s.bt.jobs := by
  unfold State.readReg at h
  extract_lets k at h
  split_ifs at h
  · exact State.springOut_jobs h
  · cases h
    exact State.springRawRead_jobs
  · cases h
    exact State.uartRead_jobs
  · exact State.vdrOut_jobs h
  · cases h
    exact State.latchRead_jobs

@[simp] theorem State.busLoad_jobs {who : Sender} {size : Size} {a : Nat} : (s.busLoad who size a).2.bt.jobs = s.bt.jobs := by
  unfold State.busLoad
  split
  · exact State.busDenied_jobs
  · split
    · split
      next h => exact State.readReg_jobs h
      next => exact State.errAt_jobs
    · split
      · exact State.poisonRead_jobs
      · rfl

@[simp] theorem State.localLoad_jobs {v : Nat} {priv : Bool} {size : Size} {a : Nat} :
    (s.localLoad v priv size a).2.bt.jobs = s.bt.jobs := by
  unfold State.localLoad
  split
  · exact State.localDenied_jobs
  · dsimp only
    split
    · rfl
    · split
      next h => exact State.readReg_jobs h
      next => exact State.errAt_jobs
    · rfl

@[simp] theorem State.busAtomic_jobs {who : Sender} {a : Nat} {f : Word → Option Word} : (s.busAtomic who a f).2.bt.jobs = s.bt.jobs := by
  unfold State.busAtomic
  split
  · exact State.busDenied_jobs
  · split
    · exact State.poisonRead_jobs
    · dsimp only
      split
      · exact State.memWrite_jobs
      · rfl

/-- At user level the one register of a control block that a core may write is EVT_DOORBELL (R25). -/
theorem State.busCheck_user_store {c a : Nat} {size : Size} (h : s.busCheck (coreSender c false) .store size a = none)
    (hr : isRegister a = true) : a = R.EVT_DOORBELL := by
  unfold State.busCheck at h
  split at h
  · cases h
  next hrule =>
    unfold isRegister at hr
    unfold State.ruleCheck coreSender at hrule
    cases ht : targetOf a with
    | control i =>
      by_contra hne
      simp [ht, mayWriteControl, wardenPriv, hne] at hrule
      split at hrule <;> cases hrule
    | vat v off =>
      have hoff : 0x600000 ≤ off := by simpa [ht] using hr
      simp only [ht, wardenPriv, Bool.and_false, Bool.false_eq_true, not_false_eq_true, if_true] at hrule
      split_ifs at hrule
      omega
    | _ => simp [ht] at hr

theorem State.writeReg_doorbell {who : Sender} {v : Word} : s.writeReg who R.EVT_DOORBELL v = s.doorbell who v := by
  unfold State.writeReg
  rfl

theorem State.writeReg_doorbell_jobs {who : Sender} {v : Word} : (s.writeReg who R.EVT_DOORBELL v).bt.jobs = s.bt.jobs := by
  rw [State.writeReg_doorbell]
  exact State.raise_jobs

@[simp] theorem State.busStore_user_jobs {c a : Nat} {size : Size} {v : Word} :
    (s.busStore (coreSender c false) size a v).2.bt.jobs = s.bt.jobs := by
  unfold State.busStore
  split
  · exact State.busDenied_jobs
  next h =>
    dsimp only
    split
    next hr =>
      rw [State.busCheck_user_store h hr]
      exact State.writeReg_doorbell_jobs
    next => exact State.memWrite_jobs

/-- Of its own local regions user level reaches tile SRAM only (R31, R508). -/
theorem State.localCheck_user {v a : Nat} {kind : Kind} {size : Size} (h : s.localCheck v false kind size a = none) : regionOf a = .tile := by
  by_contra ht
  unfold State.localCheck at h
  simp only [Bool.false_eq_true, not_false_eq_true, if_true, if_neg ht] at h
  split_ifs at h

@[simp] theorem State.localStore_user_jobs {v a : Nat} {size : Size} {w : Word} :
    (s.localStore v false size a w).2.bt.jobs = s.bt.jobs := by
  unfold State.localStore
  split
  · exact State.localDenied_jobs
  next h =>
    rw [State.localCheck_user h]
    exact congrArg BeatState.jobs (State.write_bt _ _ _)

@[simp] theorem State.coreLoad_jobs {c : Nat} {priv : Bool} {size : Size} {addr : Word} :
    (s.coreLoad c priv size addr).2.bt.jobs = s.bt.jobs := by
  unfold State.coreLoad
  split
  · exact State.localLoad_jobs
  · exact State.busLoad_jobs
  · rfl

@[simp] theorem State.coreStore_user_jobs {c : Nat} {size : Size} {addr v : Word} :
    (s.coreStore c false size addr v).2.bt.jobs = s.bt.jobs := by
  unfold State.coreStore
  split
  · exact State.localStore_user_jobs
  · exact State.busStore_user_jobs
  · rfl

/-! ### A user verb's program -/

/-- For a state that a pattern names. -/
theorem State.jobs_of_eq {α : Type} {p : α × State} {a : α} (h : p.2.bt.jobs = s.bt.jobs) (e : p = (a, t)) : t.bt.jobs = s.bt.jobs := by
  subst e
  exact h

theorem State.userWrite_jobs {u : UserRun} {a : Nat} {b : Bytes} : (s.userWrite u a b).bt.jobs = s.bt.jobs := by
  unfold State.userWrite
  refine State.foldl_jobs fun _ _ => ?_
  split <;> rfl

theorem State.userLoad_jobs {v : Nat} {u : UserRun} {size : Size} {a : Word} : (s.userLoad v u size a).2.bt.jobs = s.bt.jobs := by
  unfold State.userLoad
  dsimp only
  split
  · rfl
  · split
    · rfl
    · exact State.coreLoad_jobs

theorem State.userStore_jobs {v : Nat} {u : UserRun} {size : Size} {a d : Word} :
    (s.userStore v u size a d).2.bt.jobs = s.bt.jobs := by
  unfold State.userStore
  dsimp only
  split
  · rfl
  · split
    · split
      · simp
      · split <;> simp
    · split
      next he => exact State.jobs_of_eq (p := s.coreStore v false size a d) State.coreStore_user_jobs he
      next he => exact State.jobs_of_eq (p := s.coreStore v false size a d) State.coreStore_user_jobs he

theorem State.userAtomic_jobs {v : Nat} {u : UserRun} {a : Word} {f : Word → Option Word} :
    (s.userAtomic v u a f).2.bt.jobs = s.bt.jobs := by
  unfold State.userAtomic
  split
  · rfl
  · split
    · split
      · dsimp only
        split <;> simp
      · dsimp only
        split <;> simp
    · split
      · rfl
      · exact State.busAtomic_jobs
      · split
        · exact State.localDenied_jobs
        · dsimp only
          split <;> simp

theorem State.userTrap_jobs {w : Work} {k : Option KeyRec} {u : UserRun} {x : CoreState} {n : Nat} :
    (s.userTrap w k u x n).2.1.bt.jobs = s.bt.jobs := by
  unfold State.userTrap
  extract_lets g bad back ret block
  have hblock (f m) : (block f m).2.1.bt.jobs = s.bt.jobs := by
    unfold block
    split
    · rfl
    · split
      · exact State.userWrite_jobs
      · rfl
  split
  · rfl
  · split
    · rfl
    · split
      next h => exact State.userWrite_jobs.trans (State.drawVat_jobs h)
      next => rfl
  · exact hblock _ _
  · exact hblock _ _
  · split
    · rfl
    · split
      · exact State.userWrite_jobs
      · rfl
  · split
    · rfl
    · exact State.userWrite_jobs
  · rfl
  · rfl

theorem State.userInstr_jobs {w : Work} {k : Option KeyRec} {u : UserRun} {i : AxInstr} :
    (s.userInstr w k u i).2.1.bt.jobs = s.bt.jobs := by
  unfold State.userInstr
  extract_lets x y next go stop jump
  have hjump (y t) : (jump y t).2.1.bt.jobs = s.bt.jobs := by
    unfold jump
    split <;> rfl
  cases i with
  | load =>
    dsimp only
    split
    next he => exact State.jobs_of_eq State.userLoad_jobs he
    next he => exact State.jobs_of_eq State.userLoad_jobs he
  | store =>
    dsimp only
    split
    next he => exact State.jobs_of_eq State.userStore_jobs he
    next he => exact State.jobs_of_eq State.userStore_jobs he
    next he => exact State.jobs_of_eq State.userStore_jobs he
  | swap =>
    dsimp only
    split
    next he => exact State.jobs_of_eq State.userAtomic_jobs he
    next he => exact State.jobs_of_eq State.userAtomic_jobs he
  | cas =>
    dsimp only
    split
    next he => exact State.jobs_of_eq State.userAtomic_jobs he
    next he => exact State.jobs_of_eq State.userAtomic_jobs he
  | jr => exact hjump _ _
  | jalr => exact hjump _ _
  | srr =>
    dsimp only
    split <;> rfl
  | trap => exact State.userTrap_jobs
  | _ => rfl

theorem State.userRun_jobs {w : Work} {k : Option KeyRec} {limit f : Nat} {u : UserRun} :
    (State.userRun w k limit f s u).2.1.bt.jobs = s.bt.jobs := by
  induction f generalizing s u with
  | zero => rfl
  | succ f ih =>
    unfold State.userRun
    split
    · rfl
    · split
      · simp
      · split
        · rfl
        · dsimp only
          split
          · exact ih.trans State.userInstr_jobs
          · exact State.userInstr_jobs

theorem State.userLayOut_jobs {w : Work} {p : UserPlan} : (s.userLayOut w p).bt.jobs = s.bt.jobs := by
  simp [State.userLayOut]

end Sys2Proof.Machine

/-! SUPPORT. A job that awaits its outcome, what leaves it so, and how its vat ends it (R100, R101). -/

namespace Sys2Proof.Machine

variable {s t : State} {i : Nat} {x : Work}

/-- Job `i` stands, and its outcome is not known yet. -/
def State.Awaits (s : State) (i : Nat) : Prop := (s.job? i).map (·.ready) = some false

/-- What a vat may work on is the job of that number, and awaits its outcome. -/
theorem State.work_facts {verb : Nat} (h : s.work i verb = some x) : s.job? i = some x.j ∧ x.j.id = i ∧ s.Awaits i := by
  unfold State.work at h
  split at h
  next j hj =>
    have hid : j.id = i := by simpa using List.find?_some hj
    split at h
    · split at h
      next hc =>
        cases h
        obtain ⟨-, -, hready, -⟩ := hc
        exact ⟨hj, hid, by simpa [State.Awaits, hj] using hready⟩
      next => cases h
    · cases h
  next => cases h

namespace State.Awaits

theorem of_jobs (h : s.Awaits i) (e : t.bt.jobs = s.bt.jobs) : t.Awaits i := by
  unfold State.Awaits State.job?
  rw [e]
  exact h

theorem ite {c : Prop} {_ : Decidable c} (hs : s.Awaits i) (ht : t.Awaits i) : (if c then s else t).Awaits i := by
  split <;> assumption

theorem ite_sndsnd {α β : Type} {c : Prop} {_ : Decidable c} {p q : α × β × State} (hp : p.2.2.Awaits i) (hq : q.2.2.Awaits i) :
    (if c then p else q).2.2.Awaits i := by
  split <;> assumption

/-- For a state that a pattern names. -/
theorem of_eq_mid {α β : Type} {p : α × State × β} {a : α} {b : β} (h : p.2.1.Awaits i) (e : p = (a, t, b)) : t.Awaits i := by
  subst e
  exact h

/-- A change of jobs that keeps their numbers, and whether their outcome is known. -/
theorem updJob {k : Nat} {f : Job → Job} (h : s.Awaits i) (hf : ∀ j, (f j).id = j.id ∧ (f j).ready = j.ready) :
    (s.updJob k f).Awaits i := by
  have hid : ((fun j : Job => j.id == i) ∘ fun j => if j.id = k then f j else j) = fun j => j.id == i := by
    funext j
    by_cases hj : j.id = k <;> simp [hj, hf]
  have hready : ((fun j : Job => j.ready) ∘ fun j => if j.id = k then f j else j) = fun j => j.ready := by
    funext j
    by_cases hj : j.id = k <;> simp [hj, hf]
  unfold State.Awaits State.job? State.updJob State.mapBt at *
  rw [List.find?_map, hid, Option.map_map, hready]
  exact h

theorem useKeys {a b : Option KeyRec} (h : s.Awaits i) : (s.useKeys x a b).Awaits i := by
  unfold State.useKeys
  extract_lets one u
  have hu : u.Awaits i := h.updJob fun _ => ⟨rfl, rfl⟩
  exact hu.of_jobs (State.foldl_jobs fun _ _ => by simp [one])

theorem ksnAccept {r : KeyRec} {ksn : Bytes} (h : s.Awaits i) : (s.ksnAccept x r ksn).Awaits i :=
  ite ((h.of_jobs State.writeCounter_jobs).updJob fun _ => ⟨rfl, rfl⟩) h

theorem sealAccept {ra : KeyRec} (h : s.Awaits i) : (s.sealAccept x ra).Awaits i :=
  (h.of_jobs State.writeCounter_jobs).updJob fun _ => ⟨rfl, rfl⟩

theorem jobDraw {v n : Nat} (h : s.Awaits i) : (s.jobDraw v n).2.2.Awaits i := h.of_jobs State.jobDraw_jobs
theorem drawKey {v kt n k : Nat} (h : s.Awaits i) : (s.drawKey v kt n k).2.2.Awaits i := h.of_jobs State.drawKey_jobs
theorem drawSalt (h : s.Awaits i) : s.drawSalt.2.Awaits i := h.of_jobs State.drawSalt_jobs
theorem putEntry {v : Nat} {e : VaultEntry} (h : s.Awaits i) : (s.putEntry v e).Awaits i := h.of_jobs State.putEntry_jobs
theorem hold {r : KeyRec} {sync : Bool} (h : s.Awaits i) : (s.hold x r sync).Awaits i := h.of_jobs State.hold_jobs

/-- Without class OK a job ends with neither RESULT nor output (R101). -/
theorem finish {vd : Nat × Nat} {result output : Bytes} (h : s.Awaits x.j.id) :
    (s.finish x vd result output).ended x.j.id vd.1 vd.2 (if vd.1 = 0 then result else []) (if vd.1 = 0 then output else []) := by
  unfold State.Awaits at h
  unfold State.ended State.finish
  rw [State.job?_updJob]
  · cases hj : s.job? x.j.id with
    | none => simp [hj] at h
    | some j => rfl
  · exact fun _ => rfl

end State.Awaits

/-! ### Ends -/

theorem State.symDone_jobs {vd : Nat × Nat} : (s.symDone x vd).bt.jobs = s.bt.jobs := by simp [State.symDone]

theorem State.ended.of_jobs {cls reason : Nat} {result output : Bytes} (h : s.ended i cls reason result output)
    (e : t.bt.jobs = s.bt.jobs) : t.ended i cls reason result output := by
  unfold State.ended State.job?
  rw [e]
  exact h

/-- Job `i` has ended as R100, R101 and R242 let a verb end: OK, REFUSED or FAULT, with RESULT and output only when OK, and with the read
set's fault when that has failed. -/
def State.VerbEnded (t : State) (i : Nat) (j : Job) : Prop :=
  ∃ cls reason result output, t.ended i cls reason result output ∧ cls ∈ [0, 1, 6] ∧ (cls = 0 → reason = 0) ∧
    (cls ≠ 0 → result = [] ∧ output = []) ∧ (j.readSet = 3 → cls = 6 ∧ reason = 0x4002)

theorem verdict_faulted {j : Job} {faults checks : List (Bool × Nat)} (h : j.readSet = 3) : verdict j faults checks = (6, 0x4002) := by
  simp [verdict, firstFail, h]

theorem verdict_cls {j : Job} {faults checks : List (Bool × Nat)} :
    (verdict j faults checks).1 ∈ [0, 1, 6] ∧ ((verdict j faults checks).1 = 0 → (verdict j faults checks).2 = 0) := by
  unfold verdict
  split
  · simp
  · split <;> simp

theorem State.Awaits.finish_verbEnded {faults checks : List (Bool × Nat)} {result output : Bytes} (h : s.Awaits x.j.id) :
    (s.finish x (verdict x.j faults checks) result output).VerbEnded x.j.id x.j := by
  obtain ⟨hcls, hok⟩ := verdict_cls (j := x.j) (faults := faults) (checks := checks)
  refine ⟨_, _, _, _, h.finish, hcls, hok, fun hne => ⟨if_neg hne, if_neg hne⟩, fun hr => ?_⟩
  rw [verdict_faulted hr]
  exact ⟨rfl, rfl⟩

theorem State.VerbEnded.symDone {vd : Nat × Nat} {j : Job} (h : s.VerbEnded i j) : (s.symDone x vd).VerbEnded i j := by
  obtain ⟨cls, reason, result, output, hend, hrest⟩ := h
  exact ⟨cls, reason, result, output, hend.of_jobs State.symDone_jobs, hrest⟩

theorem State.Awaits.finishKey {faults checks : List (Bool × Nat)} {r : KeyRec} {sync : Bool} {output : Bytes} (h : s.Awaits x.j.id) :
    (s.finishKey x (verdict x.j faults checks) r sync output).VerbEnded x.j.id x.j :=
  (State.Awaits.ite h.hold h).finish_verbEnded

theorem State.VerbEnded.ite {c : Prop} {_ : Decidable c} {j : Job} (hs : s.VerbEnded i j) (ht : t.VerbEnded i j) :
    (if c then s else t).VerbEnded i j := by
  split <;> assumption

/-! ### The verbs (R100, R101, R242) -/

/-- What a command on a job's work makes of the state ends the job, as the job awaits its outcome until then. -/
theorem Completes.verbEnded {c : Instr} {verb : Nat} (h : s.work i verb = some x) (hc : exec c s = .next t)
    (hend : s.Awaits x.j.id → t.VerbEnded x.j.id x.j) : Completes c s (·.VerbEnded i x.j) := by
  obtain ⟨-, rfl, ha⟩ := State.work_facts h
  exact ⟨t, hc, hend ha⟩

theorem ends_pinTranslate (h : s.work i 0x0101 = some x) : Completes (.pinTranslate i) s (·.VerbEnded i x.j) :=
  .verbEnded h rfl fun ha => by
    rw [h]
    exact
      have ha := ha.jobDraw.useKeys
      (State.Awaits.ite ha.ksnAccept ha).finish_verbEnded.symDone

theorem ends_pinVerify (h : s.work i 0x0102 = some x) : Completes (.pinVerify i) s (·.VerbEnded i x.j) :=
  .verbEnded h rfl fun ha => by
    rw [h]
    exact ha.useKeys.finish_verbEnded.symDone

theorem ends_macGenerate (h : s.work i 0x0103 = some x) : Completes (.macGenerate i) s (·.VerbEnded i x.j) :=
  .verbEnded h rfl fun ha => by
    rw [h]
    exact ha.useKeys.finish_verbEnded.symDone

theorem ends_macVerify (h : s.work i 0x0104 = some x) : Completes (.macVerify i) s (·.VerbEnded i x.j) :=
  .verbEnded h rfl fun ha => by
    rw [h]
    exact (State.Awaits.ite ha.useKeys.ksnAccept ha.useKeys).finish_verbEnded.symDone

theorem ends_cryptogramVerify (h : s.work i 0x0105 = some x) : Completes (.cryptogramVerify i) s (·.VerbEnded i x.j) :=
  .verbEnded h rfl fun ha => by
    rw [h]
    exact ha.useKeys.finish_verbEnded.symDone

theorem ends_dukptDerive (h : s.work i 0x0106 = some x) : Completes (.dukptDerive i) s (·.VerbEnded i x.j) :=
  .verbEnded h rfl fun ha => by
    rw [h]
    exact
      have ha := ha.jobDraw.useKeys
      (State.Awaits.ite ha.ksnAccept ha).finish_verbEnded.symDone

theorem ends_tokenize (h : s.work i 0x0107 = some x) : Completes (.tokenize i) s (·.VerbEnded i x.j) :=
  .verbEnded h rfl fun ha => by
    rw [h]
    exact (State.Awaits.ite ha.useKeys.putEntry ha.useKeys).finish_verbEnded.symDone

theorem ends_detokenize (h : s.work i 0x0108 = some x) : Completes (.detokenize i) s (·.VerbEnded i x.j) :=
  .verbEnded h rfl fun ha => by
    rw [h]
    exact ha.useKeys.finish_verbEnded.symDone

theorem ends_dataTranslate (h : s.work i 0x0109 = some x) : Completes (.dataTranslate i) s (·.VerbEnded i x.j) :=
  .verbEnded h rfl fun ha => by
    rw [h]
    exact
      have ha := ha.jobDraw.useKeys
      (State.Awaits.ite ha.ksnAccept ha).finish_verbEnded.symDone

theorem ends_seal (h : s.work i 0x0301 = some x) : Completes (.seal i) s (·.VerbEnded i x.j) :=
  .verbEnded h rfl fun ha => by
    rw [h]
    exact
      have ha := ha.jobDraw.useKeys
      (State.Awaits.ite ha.sealAccept ha).finish_verbEnded.symDone

theorem ends_openV (h : s.work i 0x0302 = some x) : Completes (.openV i) s (·.VerbEnded i x.j) :=
  .verbEnded h rfl fun ha => by
    rw [h]
    exact ha.useKeys.finish_verbEnded.symDone

theorem ends_hash (h : s.work i 0x0303 = some x) : Completes (.hash i) s (·.VerbEnded i x.j) :=
  .verbEnded h rfl fun ha => by
    rw [h]
    exact ha.finish_verbEnded.symDone

theorem ends_keyImport (h : s.work i 0x0401 = some x) : Completes (.keyImport i) s (·.VerbEnded i x.j) :=
  .verbEnded h rfl fun ha => by
    rw [h]
    exact .ite ha.drawSalt.finishKey ha.drawSalt.useKeys.finishKey

theorem ends_keyExport (h : s.work i 0x0402 = some x) : Completes (.keyExport i) s (·.VerbEnded i x.j) :=
  .verbEnded h rfl fun ha => by
    rw [h]
    exact .ite ha.useKeys.finish_verbEnded ha.jobDraw.useKeys.finish_verbEnded

theorem ends_keyGenerate (h : s.work i 0x0403 = some x) : Completes (.keyGenerate i) s (·.VerbEnded i x.j) :=
  .verbEnded h rfl fun ha => by
    rw [h]
    dsimp -zeta only
    extract_lets +onlyGivenNames _ _ _ _ _ _ g q salt
    have hg : g.2.2.Awaits x.j.id := ha.drawKey
    have hq : q.2.2.Awaits x.j.id := .ite_sndsnd hg.jobDraw hg
    have hs : salt.2.Awaits x.j.id := hq.drawSalt
    exact (State.Awaits.ite hs.useKeys hs).finishKey

theorem ends_keyUpdate (h : s.work i 0x0404 = some x) : Completes (.keyUpdate i) s (·.VerbEnded i x.j) :=
  .verbEnded h rfl fun ha => by
    rw [h]
    dsimp -zeta only
    extract_lets +onlyGivenNames _ _ _ _ _ _ salt
    have hs : salt.2.Awaits x.j.id := ha.drawSalt
    refine .ite hs.useKeys.finishKey (.ite ?_ hs.useKeys.finishKey)
    extract_lets +onlyGivenNames _ _ k q
    have hk : k.2.2.Awaits x.j.id := hs.drawKey
    have hq : q.2.2.Awaits x.j.id := .ite_sndsnd hk.jobDraw hk
    exact hq.useKeys.finishKey

theorem ends_keyRetire (h : s.work i 0x0405 = some x) : Completes (.keyRetire i) s (·.VerbEnded i x.j) :=
  .verbEnded h rfl fun ha => by
    rw [h]
    exact ha.drawSalt.useKeys.finishKey

theorem ends_random (h : s.work i 0x0501 = some x) : Completes (.random i) s (·.VerbEnded i x.j) :=
  .verbEnded h rfl fun ha => by
    rw [h]
    dsimp only
    split
    next hd => exact (ha.of_jobs (State.drawLane_jobs hd)).finish_verbEnded.symDone
    next => exact ha.finish_verbEnded.symDone

theorem ends_noop (h : s.work i 0x0502 = some x) : Completes (.noop i) s (·.VerbEnded i x.j) :=
  .verbEnded h rfl fun ha => by
    rw [h]
    exact ha.finish_verbEnded

theorem ends_vaultSet (h : s.work i 0x8004 = some x) : Completes (.vaultSet i) s (·.VerbEnded i x.j) :=
  .verbEnded h rfl fun ha => by
    rw [h]
    refine State.Awaits.finish_verbEnded ?_
    split
    · exact .ite ha.useKeys.putEntry ha.useKeys
    · exact ha.useKeys

end Sys2Proof.Machine

/-! SUPPORT. How a user verb ends (R446, R447, R544). -/

namespace Sys2Proof.Machine

variable {s t : State} {i : Nat} {x : Work}

/-- The first failing check gives the verdict where the read set is good and there was no device fault (R100). -/
theorem verdict_refused {j : Job} {faults checks : List (Bool × Nat)} {r : Nat} (hr : j.readSet ≠ 3) (hf : firstFail faults = none)
    (hc : firstFail checks = some r) : verdict j faults checks = (1, r) := by
  simp [verdict, firstFail, hr, hf, hc]

theorem verdict_ok {j : Job} {faults checks : List (Bool × Nat)} (hr : j.readSet ≠ 3) (hf : firstFail faults = none)
    (hc : firstFail checks = none) : verdict j faults checks = (0, 0) := by
  simp [verdict, firstFail, hr, hf, hc]

theorem State.ended.setDetail {cls reason : Nat} {result output d : Bytes} (h : s.ended i cls reason result output) :
    (s.updJob i fun j => { j with detail := d }).ended i cls reason result output := by
  unfold State.ended at *
  rw [State.job?_updJob]
  · rwa [Option.map_map]
  · exact fun _ => rfl

theorem exec_userVerb {j : Job} {u : UserVerb} (hj : s.job? i = some j) (hu : s.userVerb j.deckle (dVerb j.desc) = some u)
    (hx : s.work i (dVerb j.desc) = some x) : exec (.userVerb i) s = .next (s.userWork x u) := by
  change execUserVerb i s = _
  unfold execUserVerb
  simp only [hj, hu, hx]

/-- The checks that a user verb's key must pass before its program runs (R446). -/
def State.userChecks (s : State) (x : Work) (u : UserVerb) : List (Bool × Nat) :=
  if nbit u.flags 0 then s.keyAlive x.j.deckle (dKeyA x.j.desc) (s.keyFor x (dKeyA x.j.desc)) else []

/-- How a user verb can stand after its vat has worked on it: without an outcome, done, without random bytes, faulted, or refused. -/
def State.UserVerbEnded (t : State) (i : Nat) : Prop :=
  (t.job? i).map (·.ready) = some false ∨ (∃ out, t.ended i 0 0 [] out) ∨ t.ended i 6 0x1801 [] [] ∨ t.ended i 6 0x0501 [] [] ∨
    ∃ r, t.ended i 1 r [] []

section
variable {u : UserVerb} (hr : x.j.readSet ≠ 3) (ha : s.Awaits x.j.id)
include hr ha

theorem State.userWork_refused {r : Nat} (hc : firstFail (s.userChecks x u) = some r) : (s.userWork x u).ended x.j.id 1 r [] [] := by
  have hvd : verdict x.j [] (s.userChecks x u) = (1, r) := verdict_refused hr rfl hc
  unfold State.userChecks at hvd
  unfold State.userWork
  extract_lets keyed ra key vd s'
  have hs : s'.Awaits x.j.id := .ite ha.useKeys ha
  have hvd : vd = (1, r) := hvd
  rw [hvd, if_pos one_ne_zero]
  exact hs.finish

theorem State.userWork_runs (hc : firstFail (s.userChecks x u) = none) : (s.userWork x u).UserVerbEnded x.j.id := by
  have hvd : verdict x.j [] (s.userChecks x u) = (0, 0) := verdict_ok hr rfl hc
  unfold State.userChecks at hvd
  unfold State.userWork
  extract_lets keyed ra key vd s' p share limit
  have hvd : vd = (0, 0) := hvd
  have hs : s'.Awaits x.j.id := .ite ha.useKeys ha
  have hrun {k} {limit f v} : (State.userRun x k limit f (s'.userLayOut x p) v).2.1.Awaits x.j.id :=
    hs.of_jobs (State.userRun_jobs.trans State.userLayOut_jobs)
  rw [hvd, if_neg (by decide)]
  split
  next he => exact .inl (hrun.of_eq_mid he)
  next he => exact .inr (.inl ⟨_, (hrun.of_eq_mid he).finish⟩)
  next he => exact .inr (.inr (.inl (hrun.of_eq_mid he).finish))
  next he => exact .inr (.inr (.inr (.inl (hrun.of_eq_mid he).finish.setDetail)))

/-- A program with a tariff of one edge has no time to run (R447). -/
theorem State.userWork_noTime (ht : u.tariff = 1) (hk : nbit u.flags 0 = false) : (s.userWork x u).Awaits x.j.id := by
  have hvd : verdict x.j [] [] = (0, 0) := verdict_ok hr rfl rfl
  unfold State.userWork
  simp only [hk, hvd, ht, Bool.false_eq_true, if_false, ne_eq, not_true_eq_false, Nat.sub_self, Nat.mul_zero, State.userRun]
  exact ha.of_jobs State.userLayOut_jobs

end

theorem State.userWork_ended {u : UserVerb} (hr : x.j.readSet ≠ 3) (ha : s.Awaits x.j.id) : (s.userWork x u).UserVerbEnded x.j.id := by
  cases hc : firstFail (s.userChecks x u) with
  | none => exact State.userWork_runs hr ha hc
  | some r => exact .inr (.inr (.inr (.inr ⟨r, State.userWork_refused hr ha hc⟩)))

end Sys2Proof.Machine

namespace Sys2Proof
open Machine

/-- Settles O42: until its end nothing that a verb or a program does on its vat takes the job away or gives it an outcome, and each verb
ends it by its verdict. -/
theorem verbsEnd : Obligations.VerbsEnd := by
  refine ⟨fun s i x => ?_, fun s i j u x hj hu hx hr => ?_⟩
  · simp only [List.forall_mem_cons]
    exact ⟨ends_pinTranslate, ends_pinVerify, ends_macGenerate, ends_macVerify, ends_cryptogramVerify, ends_dukptDerive, ends_tokenize,
      ends_detokenize, ends_dataTranslate, ends_seal, ends_openV, ends_hash, ends_keyImport, ends_keyExport, ends_keyGenerate,
      ends_keyUpdate, ends_keyRetire, ends_random, ends_noop, ends_vaultSet, List.forall_mem_nil _⟩
  · have hexec := exec_userVerb hj hu hx
    obtain ⟨-, rfl, ha⟩ := State.work_facts hx
    refine ⟨fun r hk hf => ⟨_, hexec, State.userWork_refused hr ha ?_⟩, fun ht hk => ⟨_, hexec, State.userWork_noTime hr ha ht hk⟩,
      _, hexec, State.userWork_ended hr ha⟩
    rwa [State.userChecks, if_pos hk]

end Sys2Proof

/-! SUPPORT. What MAC_GENERATE, MAC_VERIFY, SEAL, OPEN, HASH, RANDOM and NOOP give (R116 to R119, R148 to R155, R242). -/

namespace Sys2Proof.Machine

variable {s t : State} {i v n : Nat} {x : Work}

/-! ### Checks and verdicts -/

theorem firstFail_append {l m : List (Bool × Nat)} (h : firstFail l = none) : firstFail (l ++ m) = firstFail m := by
  induction l with
  | nil => rfl
  | cons c l ih =>
    obtain ⟨ok, r⟩ := c
    cases ok with
    | false => cases h
    | true => exact ih h

theorem State.Awaits.ended_ok {vd vd' : Nat × Nat} {result output : Bytes} (h : s.Awaits x.j.id) (hvd : vd = (0, 0)) :
    ((s.finish x vd result output).symDone x vd').ended x.j.id 0 0 result output := by
  subst hvd
  exact h.finish.of_jobs State.symDone_jobs

theorem State.Awaits.ended_without {vd vd' : Nat × Nat} {cls reason : Nat} {result output : Bytes} (h : s.Awaits x.j.id)
    (hvd : vd = (cls + 1, reason)) : ((s.finish x vd result output).symDone x vd').ended x.j.id (cls + 1) reason [] [] := by
  subst hvd
  exact h.finish.of_jobs State.symDone_jobs

theorem State.Awaits.completes_ok {c : Instr} {vd vd' : Nat × Nat} {result output : Bytes} (h : s.Awaits x.j.id)
    (hc : exec c t = .next ((s.finish x vd result output).symDone x vd')) (hvd : vd = (0, 0)) :
    Completes c t fun t => t.ended x.j.id 0 0 result output := ⟨_, hc, h.ended_ok hvd⟩

theorem State.Awaits.completes_without {c : Instr} {vd vd' : Nat × Nat} {cls reason : Nat} {result output : Bytes} (h : s.Awaits x.j.id)
    (hc : exec c t = .next ((s.finish x vd result output).symDone x vd')) (hvd : vd = (cls + 1, reason)) :
    Completes c t fun t => t.ended x.j.id (cls + 1) reason [] [] := ⟨_, hc, h.ended_without hvd⟩

/-! ### What each command makes of its work -/

theorem exec_macGenerate (h : s.work i 0x0103 = some x) :
    let ra := s.keyFor x (dKeyA x.j.desc)
    let vd := verdict x.j [] (s.macChecks x ra false)
    exec (.macGenerate i) s = .next (((s.useKeys x ra none).finish x vd []
      ((macFull (dAlg x.j.desc) ra.key x.j.input).take (macLenOf x.j.set (dAlg x.j.desc) (byteAt x.j.desc 0x20)))).symDone x vd) := by
  change execMacGenerate i s = _
  unfold execMacGenerate
  rw [h]

/-- Without a KSN the record's own key makes the MAC that MAC_VERIFY compares (R119, R121). -/
theorem exec_macVerify (h : s.work i 0x0104 = some x) (hk : ksnPresent (slice x.j.desc 0x24 12) = false) :
    let ra := s.keyFor x (dKeyA x.j.desc)
    let n := x.j.input.length - macLenOf x.j.set (dAlg x.j.desc) (byteAt x.j.desc 0x20)
    let mac := (macFull (dAlg x.j.desc) ra.key (x.j.input.take n)).take (macLenOf x.j.set (dAlg x.j.desc) (byteAt x.j.desc 0x20))
    let vd := verdict x.j [] (s.macChecks x ra true ++ [(mac == x.j.input.drop n, 0x1201)])
    exec (.macVerify i) s = .next (((s.useKeys x ra none).finish x vd [] []).symDone x vd) := by
  change execMacVerify i s = _
  unfold execMacVerify State.macVerifyChecks sourceKey
  rw [h]
  simp only [hk, Bool.false_eq_true, false_and, if_false, List.length_take, Nat.min_eq_left (Nat.sub_le _ _)]

/-- With the caller's nonce SEAL draws none and leaves the count (R150). -/
theorem exec_seal_caller (h : s.work i 0x0301 = some x) (hb : byteAt x.j.desc 0x25 = 1) :
    let ra := s.keyFor x (dKeyA x.j.desc)
    let vd := verdict x.j [(true, 0x1801)] (s.sealChecks x ra)
    let g := gcmEnc ra.key (slice x.j.desc 0x28 12) (x.j.input.take (leAt x.j.desc 0x20 4)) (x.j.input.drop (leAt x.j.desc 0x20 4))
    exec (.seal i) s = .next
      (((s.useKeys x ra none).finish x vd (slice x.j.desc 0x28 12) (g.1 ++ g.2.take (tagLenOf x.j.desc))).symDone x vd) := by
  change execSeal i s = _
  unfold execSeal
  rw [h]
  simp only [hb, beq_self_eq_true, if_true, Bool.not_true, Bool.false_and, Bool.false_eq_true, if_false]
  rfl

theorem exec_openV (h : s.work i 0x0302 = some x) :
    let b := x.j.desc
    let m := x.j.input
    let ra := s.keyFor x (dKeyA b)
    let n := tagLenOf b
    let c := (m.take (m.length - n)).drop (leAt b 0x20 4)
    let vd := verdict x.j [] (s.keyChecks x.j.deckle (dKeyA b) ra [uD0] [mD, mB] (ktAes ra.ktype) ++
      [((gcmTag ra.key (slice b 0x28 12) (m.take (leAt b 0x20 4)) c).take n == m.drop (m.length - n), 0x1701)])
    exec (.openV i) s = .next
      (((s.useKeys x ra none).finish x vd [] (ctrMode 4 (aesEnc ra.key) (slice b 0x28 12 ++ [0, 0, 0, 2]) c)).symDone x vd) := by
  change execOpenV i s = _
  unfold execOpenV
  rw [h]

theorem exec_hash (h : s.work i 0x0303 = some x) :
    exec (.hash i) s = .next ((s.finish x (verdict x.j [] []) [] (hashOf (dAlg x.j.desc) x.j.input)).symDone x (0, 0)) := by
  change execHash i s = _
  unfold execHash
  rw [h]

theorem exec_noop (h : s.work i 0x0502 = some x) :
    exec (.noop i) s = .next (s.finish x (verdict x.j [] []) (leBytes 8 x.b ++ zeros 8) []) := by
  change execNoop i s = _
  unfold execNoop
  rw [h]

/-! ### RANDOM (R154, R586) -/

/-- A lane that is instantiated and good answers a plain generate call, keeps its new state and counts the call. -/
theorem State.drawLane_plain {add : Bytes} {d : Drbg} (hd : (s.unit v).lane = some d) (he : s.laneErr v = false) :
    let g := drbgGenerate d n add
    s.drawLane v n false add = .ok (g.1, (s.setUnit v { s.unit v with lane := some g.2 }).bump (R.VDR_RANDOM v)) := by
  unfold State.drawLane
  simp [hd, he]

theorem State.drawLane_laneErr {pr : Bool} {add : Bytes} (he : s.laneErr v = true) : s.drawLane v n pr add = .error 0x1801 := by
  unfold State.drawLane
  dsimp only
  split
  · rfl
  · rw [if_pos he]

theorem exec_random_ok {r : Bytes × State} (h : s.work i 0x0501 = some x)
    (hd : s.drawLane x.v (dOutLen x.j.desc) (byteAt x.j.desc 0x20 % 2 == 1) (slice x.j.desc 0x24 (byteAt x.j.desc 0x21)) = .ok r) :
    exec (.random i) s = .next ((r.2.finish x (verdict x.j [] []) [] r.1).symDone x (0, 0)) := by
  change execRandom i s = _
  unfold execRandom
  simp only [h, hd]

theorem exec_random_error {e : Nat} (h : s.work i 0x0501 = some x)
    (hd : s.drawLane x.v (dOutLen x.j.desc) (byteAt x.j.desc 0x20 % 2 == 1) (slice x.j.desc 0x24 (byteAt x.j.desc 0x21)) = .error e) :
    exec (.random i) s = .next ((s.finish x (verdict x.j [(false, e)] []) [] []).symDone x (6, e)) := by
  change execRandom i s = _
  unfold execRandom
  simp only [h, hd]

/-- A unit that has a lane is one of the device's, so that what is written to it reads back. -/
theorem State.unit_setUnit_of_lane {d : Drbg} {u : DrbgUnit} (hd : (s.unit v).lane = some d) : (s.setUnit v u).unit v = u := by
  have hv : v < s.spr.units.length := by
    by_contra hv
    unfold State.unit at hd
    rw [List.getD_eq_default _ _ (by omega)] at hd
    cases hd
  simp [State.unit, State.setUnit, List.getD_eq_getElem?_getD, hv]

theorem State.symDone_unit {vd : Nat × Nat} : (s.symDone x vd).unit v = s.unit v := by
  unfold State.symDone
  dsimp only
  split <;> rfl

/-- The end of a job that is not refused writes a local event and the engine's count of jobs. -/
theorem State.symDone_reg_random {r : Nat} : (s.symDone x (0, r)).reg (R.VDR_RANDOM x.v) = s.reg (R.VDR_RANDOM x.v) := by
  have h₁ : R.VDR_RANDOM x.v ≠ R.VEV_PEND_LO x.v := by simp only [R.VDR_RANDOM, R.VEV_PEND_LO]; omega
  have h₂ : R.VDR_RANDOM x.v ≠ R.SYM_JOBS_LO x.v := by simp only [R.VDR_RANDOM, R.SYM_JOBS_LO]; omega
  have h₃ : R.VDR_RANDOM x.v ≠ R.SYM_JOBS_LO x.v + 4 := by simp only [R.VDR_RANDOM, R.SYM_JOBS_LO]; omega
  unfold State.symDone
  rw [if_neg zero_ne_one, State.bump64, State.setReg64, State.reg_setReg_other _ _ h₃, State.reg_setReg_other _ _ h₂]
  exact State.reg_setReg_other _ _ h₁

end Sys2Proof.Machine

namespace Sys2Proof
open Machine

/-- Settles O43: each command's work is a few checks, which give the verdict, and the result that it releases when none of them fails. -/
theorem symmetricResults : Obligations.SymmetricResults := by
  intro s i x hr
  refine ⟨fun h => ?_, fun h hk hc _ => ?_, fun h hb hc => ?_, fun h hc => ?_, fun h => ?_, fun d h hb he hd => ?_, fun h he => ?_,
    fun h => ?_⟩ <;>
    obtain ⟨-, rfl, ha⟩ := State.work_facts h
  · exact ⟨fun hc => ha.useKeys.completes_ok (exec_macGenerate h) (verdict_ok hr rfl hc),
      fun r hc => ha.useKeys.completes_without (exec_macGenerate h) (verdict_refused hr rfl hc)⟩
  · refine ⟨fun hmac => ha.useKeys.completes_ok (exec_macVerify h hk) (verdict_ok hr rfl ?_),
      fun hmac => ha.useKeys.completes_without (exec_macVerify h hk) (verdict_refused hr rfl ?_)⟩ <;>
      rw [firstFail_append hc] <;> simp [firstFail, hmac]
  · exact ha.useKeys.completes_ok (exec_seal_caller h hb) (verdict_ok hr rfl hc)
  · refine ⟨fun htag => ha.useKeys.completes_ok (exec_openV h) (verdict_ok hr rfl ?_),
      fun htag => ha.useKeys.completes_without (exec_openV h) (verdict_refused hr rfl ?_)⟩ <;>
      rw [firstFail_append hc] <;> simp [firstFail, htag]
  · exact ha.completes_ok (exec_hash h) (verdict_ok hr rfl rfl)
  · have hdraw := State.drawLane_plain (n := dOutLen x.j.desc) (add := slice x.j.desc 0x24 (byteAt x.j.desc 0x21)) hd he
    have ha' := ha.of_jobs (State.drawLane_jobs hdraw)
    refine ⟨_, exec_random_ok h (by rw [hb]; exact hdraw), ha'.ended_ok (verdict_ok hr rfl rfl), ?_, ?_⟩
    · rw [State.symDone_unit]
      exact congrArg DrbgUnit.lane (State.unit_setUnit_of_lane hd)
    · rw [State.symDone_reg_random]
      exact State.reg_setReg_same _ _ _
  · exact ha.completes_without (exec_random_error h (State.drawLane_laneErr he)) (by simp [verdict, firstFail, hr])
  · refine ⟨_, exec_noop h, ?_⟩
    rw [verdict_ok hr rfl rfl]
    exact ha.finish

end Sys2Proof

/-! SUPPORT. What leaves the public-key engines as they are, and how a public-key verb leaves its result in its vat's engine (R167, R168). -/

namespace Sys2Proof.Machine

variable {s t : State} {i v : Nat} {x : Work}

/-! ### What leaves the engines as they are -/

@[simp] theorem State.ite_pk {c : Prop} [Decidable c] : (if c then s else t).pk = if c then s.pk else t.pk :=
  apply_ite State.pk c s t

theorem State.foldl_pk {α : Type} {l : List α} {f : State → α → State} (hf : ∀ u a, (f u a).pk = u.pk) : (l.foldl f s).pk = s.pk :=
  List.foldlRecOn l f (motive := fun u => u.pk = s.pk) rfl fun u hu a _ => (hf u a).trans hu

@[simp] theorem State.bump_pk {k : Nat} : (s.bump k).pk = s.pk := rfl
@[simp] theorem State.setRegBit_pk {k i : Nat} {b : Bool} : (s.setRegBit k i b).pk = s.pk := rfl
@[simp] theorem State.setRegs_pk {l : List (Nat × Nat)} : (s.setRegs l).pk = s.pk := State.foldl_pk fun _ _ => rfl

/-- Raised events change no engine, nor do the excursions that some events are as well (R607, R619). -/
theorem State.raise_pk {n : Nat} (hn : n < 640) : (s.raise n).pk = s.pk := by
  have h : s.ExcursionOnly (s.raiseOnly n) := .raiseOnly .refl hn
  have hr : s.ExcursionOnly (s.raise n) := .ite (h.excursion (m := 6) (by decide)) (.ite (h.excursion (m := 7) (by decide)) h)
  obtain ⟨_, _, _, _, _, _, _, e⟩ := hr.rest
  rw [e]

@[simp] theorem State.emit_pk {p : OutPort} {bs : Bytes} : (s.emit p bs).pk = s.pk := by
  unfold State.emit
  split <;> rfl

@[simp] theorem State.ioError_pk : s.ioError.pk = s.pk := State.raise_pk (by decide)

@[simp] theorem State.nvmeIssue_pk {q : Nat} {kind : NvmeKind} {lba rbn : Nat} {data : Bytes} :
    (s.nvmeIssue q kind lba rbn data).pk = s.pk := by
  unfold State.nvmeIssue
  split
  · cases kind <;> simp
  · exact State.ioError_pk

@[simp] theorem State.treeUp_pk {k i f : Nat} : (s.treeUp k i f).pk = s.pk := by
  induction f generalizing s k i with
  | zero => rfl
  | succ f ih => exact ih

theorem State.writeTreeBlock_pk {n : Nat} : (s.writeTreeBlock n).pk = s.pk := by
  unfold State.writeTreeBlock
  split
  · rfl
  · exact State.nvmeIssue_pk

theorem State.resvWrite_pk {n : Ns} {j : Nat} {data : Bytes} : (s.resvWrite n j data).pk = s.pk := by
  unfold State.resvWrite
  dsimp only
  rw [State.foldl_pk fun _ _ => State.writeTreeBlock_pk, State.treeUp_pk]
  exact State.nvmeIssue_pk

@[simp] theorem State.writeSlotBlock_pk {d h : Nat} : (s.writeSlotBlock d h).pk = s.pk := by
  unfold State.writeSlotBlock
  split
  · exact State.resvWrite_pk
  · rfl

theorem State.recoverKey_pk {d h : Nat} : (s.recoverKey d h).pk = s.pk := by
  unfold State.recoverKey
  dsimp only
  split <;> simp [State.raise_pk, State.install]

@[simp] theorem State.tagFail_pk {d h : Nat} : (s.tagFail d h).pk = s.pk := (State.raise_pk (by decide)).trans State.recoverKey_pk

@[simp] theorem State.loadWindow_pk {r : KeyRec} : (s.loadWindow v r).pk = s.pk := by simp [State.loadWindow]

theorem State.useKeys_pk {a b : Option KeyRec} : (s.useKeys x a b).pk = s.pk := by
  unfold State.useKeys
  extract_lets one u
  exact State.foldl_pk fun _ _ => by simp [one]

theorem State.queueRec_pk {p : PendRec} : (s.queueRec p).pk = s.pk := by
  unfold State.queueRec
  split <;> rfl

theorem State.hold_pk {r : KeyRec} {sync : Bool} : (s.hold x r sync).pk = s.pk := by simp [State.hold, State.queueRec_pk]

theorem State.drawDev_pk {n : Nat} : (s.drawDev n).2.pk = s.pk := by
  induction n generalizing s with
  | zero => rfl
  | succ n ih =>
    unfold State.drawDev
    dsimp only
    split <;> exact ih

theorem State.drawVatAux_pk {k n : Nat} : (State.drawVatAux v k s n).2.pk = s.pk := by
  induction k generalizing s n with
  | zero => rfl
  | succ k ih =>
    unfold State.drawVatAux
    split
    · rfl
    · exact ih

theorem State.jobDraw_pk {n : Nat} : (s.jobDraw v n).2.2.pk = s.pk := by
  unfold State.jobDraw State.drawVat
  split
  · rfl
  · split
    next h =>
      split at h
      · cases h
      · cases h
        exact State.drawVatAux_pk
    next => rfl

/-! ### The engine of a vat -/

theorem State.pke_eq_of_pk (h : t.pk = s.pk) : t.pke v = s.pke v := congrArg (·.getD v PkeUnit.idle) h

@[simp] theorem State.pke_setPke {u : PkeUnit} (hv : v < s.pk.length) : (s.setPke v u).pke v = u := by
  simp [State.pke, List.getD_eq_getElem?_getD, hv]

/-- An engine with a result is one of the device's. -/
theorem State.lt_of_pke_done (h : (s.pke v).done = true) : v < s.pk.length := by
  by_contra hv
  rw [State.pke, List.getD_eq_default _ _ (by omega)] at h
  cases h

theorem State.pkeBegin_reg_edge {verb alg edge : Nat} :
    (s.pkeBegin v verb alg edge).reg (R.PKE_DONE_EDGE v) = w32 (edge % 2 ^ 32) := by
  simp [State.pkeBegin, State.setRegs]

theorem State.pkeBegin_reg_job {verb alg edge : Nat} : (s.pkeBegin v verb alg edge).reg (R.PKE_JOB v) = w32 (alg * 65536 + verb) := by
  simp [State.pkeBegin, State.setRegs, State.reg_setReg]

theorem State.pkeBegin_busy {verb alg edge : Nat} : (s.pkeBegin v verb alg edge).pkeBusy v = true := by
  have hodd {m : Nat} {b : Bool} : bit (w32 (m * 32 + 16 * b2n b + 1)) 0 = true := by
    simp only [bit, BitVec.getLsbD_ofNat, Nat.testBit_zero]
    simp
    omega
  simp only [State.pkeBusy, State.regBit, State.pkeBegin, State.setRegs, List.foldl_cons, List.foldl_nil]
  rw [State.reg_setReg_other _ _ (by simp), State.reg_setReg_other _ _ (by simp), State.reg_setReg_same]
  exact hodd

/-! ### A verb leaves its result in the engine (R167, R168) -/

/-- Job `i` awaits its outcome, and engine `v` is one of the device's. -/
structure State.PkeAwaits (s : State) (i v : Nat) : Prop where
  awaits : s.Awaits i
  engine : v < s.pk.length

/-- Engine `v` is busy with job `i` and holds its result; the job still awaits its outcome. -/
def State.PkeHolds (t : State) (i v : Nat) : Prop :=
  (t.pke v).job = some i ∧ (t.pke v).done = true ∧ (t.pke v).ended = false ∧ t.pkeBusy v = true ∧ (t.job? i).map (·.ready) = some false

namespace State.PkeAwaits

theorem of_pk (h : s.PkeAwaits i v) (ha : t.Awaits i) (e : t.pk = s.pk) : t.PkeAwaits i v := ⟨ha, e ▸ h.engine⟩

theorem jobDraw {u n : Nat} (h : s.PkeAwaits i v) : (s.jobDraw u n).2.2.PkeAwaits i v := h.of_pk h.awaits.jobDraw State.jobDraw_pk

theorem pkeDraw {n : Nat} (h : s.PkeAwaits i v) : (s.pkeDraw x n).2.2.PkeAwaits i v := h.jobDraw

theorem useKeys {a b : Option KeyRec} (h : s.PkeAwaits i v) : (s.useKeys x a b).PkeAwaits i v :=
  h.of_pk h.awaits.useKeys State.useKeys_pk

theorem drawSalt (h : s.PkeAwaits i v) : s.drawSalt.2.PkeAwaits i v := h.of_pk h.awaits.drawSalt State.drawDev_pk

theorem hold {r : KeyRec} {sync : Bool} (h : s.PkeAwaits i v) : (s.hold x r sync).PkeAwaits i v :=
  h.of_pk h.awaits.hold State.hold_pk

theorem ite_sndsnd {α β : Type} {c : Prop} {_ : Decidable c} {p q : α × β × State} (hp : p.2.2.PkeAwaits i v) (hq : q.2.2.PkeAwaits i v) :
    (if c then p else q).2.2.PkeAwaits i v := by
  split <;> assumption

theorem ite {c : Prop} {_ : Decidable c} (hs : s.PkeAwaits i v) (ht : t.PkeAwaits i v) : (if c then s else t).PkeAwaits i v := by
  split <;> assumption

theorem pkeBegin {u verb alg edge : Nat} (h : s.PkeAwaits i v) : (s.pkeBegin u verb alg edge).PkeAwaits i v :=
  h.of_pk (h.awaits.of_jobs (by simp [State.pkeBegin])) (by simp [State.pkeBegin])

/-- The job stays as it is, and its vat's engine holds the result, busy from now on if it was not before. -/
theorem pkeHold {vd : Nat × Nat} {result output : Bytes} {rounds : Nat} (h : s.PkeAwaits x.j.id x.v) :
    (s.pkeHold x vd result output rounds).PkeHolds x.j.id x.v := by
  unfold State.pkeHold
  extract_lets due u
  have hu : u.PkeAwaits x.j.id x.v := .ite h h.pkeBegin
  have hbusy : u.pkeBusy x.v = true := by
    unfold u
    split
    · assumption
    · exact State.pkeBegin_busy
  rw [State.PkeHolds, State.pke_setPke hu.engine]
  exact ⟨rfl, rfl, rfl, hbusy, hu.awaits⟩

end State.PkeAwaits

theorem State.pkeWork_facts {verb : Nat} (h : s.pkeWork i verb = some x) (hv : x.v < s.pk.length) :
    x.j.id = i ∧ s.PkeAwaits x.j.id x.v := by
  have hw : s.work i verb = some x := by
    unfold State.pkeWork at h
    split at h
    next hw =>
      split at h
      · exact hw.trans h
      · cases h
    next => cases h
  obtain ⟨-, rfl, ha⟩ := State.work_facts hw
  exact ⟨rfl, ha, hv⟩

/-- A command on a job's work that leaves a result in the engine does so for the job of its number. -/
theorem Completes.pkeHolds {c : Instr} {verb : Nat} (h : s.pkeWork i verb = some x) (hv : x.v < s.pk.length) (hc : exec c s = .next t)
    (ht : s.PkeAwaits x.j.id x.v → t.PkeHolds x.j.id x.v) : Completes c s (·.PkeHolds i x.v) := by
  obtain ⟨rfl, ha⟩ := State.pkeWork_facts h hv
  exact ⟨t, hc, ht ha⟩

theorem holds_sign (h : s.pkeWork i 0x0201 = some x) (hv : x.v < s.pk.length) : Completes (.sign i) s (·.PkeHolds i x.v) :=
  .pkeHolds h hv rfl fun ha => by
    rw [h]
    exact ha.pkeDraw.useKeys.pkeHold

theorem holds_verify (h : s.pkeWork i 0x0202 = some x) (hv : x.v < s.pk.length) : Completes (.verify i) s (·.PkeHolds i x.v) :=
  .pkeHolds h hv rfl fun ha => by
    rw [h]
    exact ha.pkeDraw.useKeys.pkeHold

/-- KEYPAIR may draw a padding as well, and holds the new record where its checks pass. -/
theorem holds_keypair (h : s.pkeWork i 0x0203 = some x) (hv : x.v < s.pk.length) : Completes (.keypair i) s (·.PkeHolds i x.v) :=
  .pkeHolds h hv rfl fun ha => by
    rw [h]
    dsimp -zeta only
    extract_lets +onlyGivenNames _ _ _ _ _ _ r _ _ _ q _ _ salt _ _ t₁ t₂
    have hr : r.2.2.PkeAwaits x.j.id x.v := ha.pkeDraw
    have hq : q.2.2.PkeAwaits x.j.id x.v := .ite_sndsnd hr.jobDraw hr
    have hs : salt.2.PkeAwaits x.j.id x.v := hq.drawSalt
    have h₁ : t₁.PkeAwaits x.j.id x.v := .ite hs.useKeys hs
    have h₂ : t₂.PkeAwaits x.j.id x.v := .ite h₁.hold h₁
    exact h₂.pkeHold

theorem holds_agree (h : s.pkeWork i 0x0204 = some x) (hv : x.v < s.pk.length) : Completes (.agree i) s (·.PkeHolds i x.v) :=
  .pkeHolds h hv rfl fun ha => by
    rw [h]
    exact ha.pkeDraw.useKeys.pkeHold

theorem holds_encapsulate (h : s.pkeWork i 0x0205 = some x) (hv : x.v < s.pk.length) : Completes (.encapsulate i) s (·.PkeHolds i x.v) :=
  .pkeHolds h hv rfl fun ha => by
    rw [h]
    exact ha.pkeDraw.useKeys.pkeHold

end Sys2Proof.Machine

/-! SUPPORT. The end of an engine's work, its done edge, and the overrun rule (R89, R168, R169, R217, R218). -/

namespace Sys2Proof.Machine

variable {s t : State} {i v : Nat}

@[simp] theorem State.setRegBit_byte {k p : Nat} {b : Bool} : (s.setRegBit k i b).byte p = s.byte p := rfl

theorem State.reg_setRegBit_other {k j : Nat} {b : Bool} (h : j ≠ k) : (s.setRegBit k i b).reg j = s.reg j := State.reg_setReg_other _ _ h

/-! ### The end of the work (R217) -/

theorem State.wipe_byte_zero {a n p : Nat} (h₀ : a ≤ p) (h₁ : p < a + n) : (s.wipe a n).byte p = 0 := by
  rw [State.wipe_byte, if_pos ⟨h₀, h₁⟩]
  rfl

/-- The stream buffers, the secret workspace and the randomness pool of engine `v` are written with zero, and a read-back that fails shows. -/
def State.pkeWorkWiped (s : State) (v : Nat) (readBack : Bool) : State :=
  let s := (s.wipe (pkeMem v + 0x100) 0x1000).wipe (pkeMem v + 0x2500) 0x1B00
  if readBack then s else s.setRegBit (R.PKE_STATUS v) 4 true

@[simp] theorem State.pkeWorkWiped_pk {readBack : Bool} : (s.pkeWorkWiped v readBack).pk = s.pk := by simp [State.pkeWorkWiped]

theorem State.pkeWorkWiped_byte {a : Nat} (ha : 0x100 ≤ a ∧ a < 0x1100 ∨ 0x2500 ≤ a ∧ a < 0x4000) :
    (s.pkeWorkWiped v true).byte (pkeMem v + a) = 0 := by
  change ((s.wipe (pkeMem v + 0x100) 0x1000).wipe (pkeMem v + 0x2500) 0x1B00).byte (pkeMem v + a) = 0
  rcases ha with h | h
  · rw [State.wipe_byte, if_neg (by omega), State.wipe_byte_zero (by omega) (by omega)]
  · exact State.wipe_byte_zero (by omega) (by omega)

theorem State.pkeWorkWiped_unread : (s.pkeWorkWiped v false).regBit (R.PKE_STATUS v) 4 = true := by
  unfold State.pkeWorkWiped
  dsimp only
  rw [if_neg Bool.false_ne_true, State.regBit_setRegBit (by decide), if_pos rfl]

/-- The work of a job that holds its result ends, with its own check passed. -/
theorem exec_pkeWorkEnd {v : Vat} {readBack : Bool} (hb : s.pkeBusy v = true) (hd : (s.pke v).done = true) (he : (s.pke v).ended = false) :
    exec (.pkeWorkEnd v readBack true) s = .next ((s.pkeWorkWiped v readBack).setPke v
      { s.pke v with ended := true, bad := if readBack then none else some 0x2F03 }) := by
  change execPkeWorkEnd v readBack true s = _
  unfold execPkeWorkEnd
  simp only [hb, hd, he]
  rfl

theorem pkeWorkEnd_good {v : Vat} (hb : s.pkeBusy v = true) (hd : (s.pke v).done = true) (he : (s.pke v).ended = false) :
    Completes (.pkeWorkEnd v true true) s fun t =>
      (t.pke v).ended = true ∧ (t.pke v).bad = none ∧ (∀ a, 0x100 ≤ a → a < 0x1100 → t.byte (pkeMem v + a) = 0) ∧
      ∀ a, 0x2500 ≤ a → a < 0x4000 → t.byte (pkeMem v + a) = 0 := by
  have hv : v < (s.pkeWorkWiped v true).pk.length := by simpa using State.lt_of_pke_done hd
  refine ⟨_, exec_pkeWorkEnd hb hd he, ?_⟩
  beta_reduce
  rw [State.pke_setPke hv]
  exact ⟨rfl, rfl, fun _ h₀ h₁ => State.pkeWorkWiped_byte (.inl ⟨h₀, h₁⟩), fun _ h₀ h₁ => State.pkeWorkWiped_byte (.inr ⟨h₀, h₁⟩)⟩

theorem pkeWorkEnd_unread {v : Vat} (hb : s.pkeBusy v = true) (hd : (s.pke v).done = true) (he : (s.pke v).ended = false) :
    Completes (.pkeWorkEnd v false true) s fun t => (t.pke v).bad = some 0x2F03 ∧ t.regBit (R.PKE_STATUS v) 4 = true := by
  have hv : v < (s.pkeWorkWiped v false).pk.length := by simpa using State.lt_of_pke_done hd
  refine ⟨_, exec_pkeWorkEnd hb hd he, ?_⟩
  beta_reduce
  rw [State.pke_setPke hv]
  exact ⟨rfl, State.pkeWorkWiped_unread⟩

/-! ### What an engine's event changes (R229) -/

/-- An engine's event enters PKE_EVT_STATUS, and the vat's pending events where it is enabled. -/
theorem State.pkeEvent_eq (hi : i < 16) :
    s.pkeEvent v i =
      let t := s.setRegBit (R.PKE_EVT_STATUS v) i true
      if t.regBit (R.PKE_EVT_EN v) i then t.setRegBit (R.VEV_PEND_LO v) (16 + i) true else t := by
  unfold State.pkeEvent State.raiseLocal
  rw [if_pos (show 16 + i < 32 by omega), Nat.mod_eq_of_lt (show 16 + i < 32 by omega)]

/-- Beside the event's own pending bit and the vat's, an engine's event changes no register. -/
theorem State.pkeEvent_reg {k : Nat} (hi : i < 16) (h₁ : k ≠ R.PKE_EVT_STATUS v) (h₂ : k ≠ R.VEV_PEND_LO v) :
    (s.pkeEvent v i).reg k = s.reg k := by
  rw [State.pkeEvent_eq hi]
  dsimp only
  split
  · exact (State.reg_setReg_other _ _ h₂).trans (State.reg_setReg_other _ _ h₁)
  · exact State.reg_setReg_other _ _ h₁

@[simp] theorem State.pkeEvent_pk : (s.pkeEvent v i).pk = s.pk := by
  unfold State.pkeEvent
  dsimp only
  split <;> rfl

@[simp] theorem State.pkeEvent_jobs : (s.pkeEvent v i).bt.jobs = s.bt.jobs := by
  unfold State.pkeEvent
  dsimp only
  split <;> rfl

theorem State.pkeEvent_mem : (s.pkeEvent v i).mem = s.mem := by
  unfold State.pkeEvent
  dsimp only
  split <;> rfl

theorem State.byte_of_mem {p : Nat} (h : t.mem = s.mem) : t.byte p = s.byte p := congrArg (spGet memReset · p) h

theorem State.job?_of_jobs (h : t.bt.jobs = s.bt.jobs) : t.job? i = s.job? i := by
  unfold State.job?
  rw [h]

/-! ### The hand-over (R168, R169, R218) -/

/-- Engine `v` writes `output` to its vat's tile SRAM, wipes its operand memory, is busy no more, and shows the job's rejection rounds. -/
def State.pkeReleased (s : State) (v : Nat) (output : Bytes) (rounds : Nat) : State :=
  let blk := s.read (pkeMem v) 0x40
  let s := if leAt blk 4 4 ≠ 0 then s.write (0x1000000000 + 0x1000000 * v + leAt blk 0x10 4 % 0x40000) output else s
  let s := s.wipe (pkeMem v) 0x4000
  let s := ((s.setRegBit (R.PKE_STATUS v) 0 false).setRegBit (R.PKE_STATUS v) 1 true).setRegBit (R.PKE_STATUS v) 3 true
  if rounds = 0 then s else s.setReg (R.PKE_ROUNDS v) (w32 (min 49 rounds))

section
variable {output : Bytes} {rounds : Nat}

@[simp] theorem State.pkeReleased_pk : (s.pkeReleased v output rounds).pk = s.pk := by simp [State.pkeReleased]
@[simp] theorem State.pkeReleased_jobs : (s.pkeReleased v output rounds).bt.jobs = s.bt.jobs := by simp [State.pkeReleased]

theorem State.pkeReleased_byte {a : Nat} (ha : a < 0x4000) : (s.pkeReleased v output rounds).byte (pkeMem v + a) = 0 := by
  unfold State.pkeReleased
  extract_lets blk s₁ s₂ s₃
  have h : s₂.byte (pkeMem v + a) = 0 := State.wipe_byte_zero (by omega) (by omega)
  split <;> simpa [s₃] using h

theorem State.pkeReleased_status :
    (s.pkeReleased v output rounds).regBit (R.PKE_STATUS v) 0 = false ∧ (s.pkeReleased v output rounds).regBit (R.PKE_STATUS v) 1 = true := by
  unfold State.pkeReleased
  extract_lets blk s₁ s₂ s₃
  have h {k : Nat} : (if rounds = 0 then s₃ else s₃.setReg (R.PKE_ROUNDS v) (w32 (min 49 rounds))).regBit (R.PKE_STATUS v) k =
      s₃.regBit (R.PKE_STATUS v) k := by
    refine State.regBit_eq_of_reg ?_
    split
    · rfl
    · exact State.reg_setReg_other _ _ (by simp)
  rw [h, h]
  simp [s₃, State.regBit_setRegBit]

theorem State.pkeReleased_reg {k : Nat} (h₁ : k ≠ R.PKE_STATUS v) (h₂ : k ≠ R.PKE_ROUNDS v) :
    (s.pkeReleased v output rounds).reg k = s.reg k := by
  unfold State.pkeReleased
  extract_lets blk s₁ s₂ s₃
  have hw : s₁.reg k = s.reg k := by
    unfold s₁
    split <;> simp
  have h : s₃.reg k = s.reg k := by
    simp only [s₃, s₂, State.reg_setRegBit_other h₁, State.wipe_reg, hw]
  split
  · exact h
  · rw [State.reg_setReg_other _ _ h₂, h]

end

/-- A job whose work has ended without a fault is handed over with its outcome, and the engine is free. -/
theorem State.pkeHandOver_eq (hj : (s.pke v).job = some i) (hd : (s.pke v).done = true) (he : (s.pke v).ended = true)
    (hb : (s.pke v).bad = none) :
    let o := pkeOutcome (s.pke v) none
    s.pkeHandOver v true =
      ((((s.pkeReleased v o.2.2.2 (s.pke v).rounds).setPke v PkeUnit.idle).bump (R.PKE_JOBS v)).pkeEvent v 0).updJob i fun j =>
        { j with ready := true, cls := o.1, reason := o.2.1, result := o.2.2.1, output := o.2.2.2, detail := leBytes 1 (s.pke v).rounds } := by
  unfold State.pkeHandOver State.pkeReleased
  simp only [hj, hd, he, hb]
  rfl

/-- What the release of a job that stands leaves: its outcome, a free engine that counts one more job, and an empty operand memory. -/
theorem State.pkeHandOver_facts {j : Job} (hj : (s.pke v).job = some i) (hi : s.job? i = some j) (hd : (s.pke v).done = true)
    (he : (s.pke v).ended = true) (hb : (s.pke v).bad = none) :
    let o := pkeOutcome (s.pke v) none
    let t := s.pkeHandOver v true
    t.ended i o.1 o.2.1 o.2.2.1 o.2.2.2 ∧ t.pkeBusy v = false ∧ t.regBit (R.PKE_STATUS v) 1 = true ∧ (t.pke v).job = none ∧
      t.reg (R.PKE_JOBS v) = satInc (s.reg (R.PKE_JOBS v)) ∧ ∀ a, a < 0x4000 → t.byte (pkeMem v + a) = 0 := by
  intro o t
  have hv := State.lt_of_pke_done hd
  let r := s.pkeReleased v o.2.2.2 (s.pke v).rounds
  let e := ((r.setPke v PkeUnit.idle).bump (R.PKE_JOBS v)).pkeEvent v 0
  have ht : t = e.updJob i _ := State.pkeHandOver_eq hj hd he hb
  have hreg {k : Nat} (h₁ : k ≠ R.PKE_EVT_STATUS v) (h₂ : k ≠ R.VEV_PEND_LO v) (h₃ : k ≠ R.PKE_JOBS v) : t.reg k = r.reg k := by
    rw [ht]
    exact (State.pkeEvent_reg (by decide) h₁ h₂).trans (State.reg_setReg_other _ _ h₃)
  have hstatus {k : Nat} : t.regBit (R.PKE_STATUS v) k = r.regBit (R.PKE_STATUS v) k :=
    State.regBit_eq_of_reg (hreg (by simp) (by simp) (by simp))
  obtain ⟨h₀, h₁⟩ := State.pkeReleased_status (s := s) (v := v) (output := o.2.2.2) (rounds := (s.pke v).rounds)
  refine ⟨?_, hstatus.trans h₀, hstatus.trans h₁, ?_, ?_, fun a ha => ?_⟩
  · have he : e.job? i = some j := (State.job?_of_jobs (by simp [e, r])).trans hi
    rw [ht, State.ended, State.job?_updJob, he]
    · rfl
    · exact fun _ => rfl
  · have hp : t.pke v = (r.setPke v PkeUnit.idle).pke v := by
      rw [ht]
      exact State.pke_eq_of_pk State.pkeEvent_pk
    rw [hp, State.pke_setPke (by simpa [r] using hv)]
    rfl
  · rw [ht]
    refine (State.pkeEvent_reg (by decide) (by simp) (by simp)).trans ((State.reg_setReg_same _ _ _).trans ?_)
    exact congrArg satInc (State.pkeReleased_reg (by simp) (by simp))
  · have hm : t.mem = r.mem := by
      rw [ht]
      exact State.pkeEvent_mem
    rw [State.byte_of_mem hm]
    exact State.pkeReleased_byte ha

/-! ### The done edge (R89, R168) -/

section
variable {v : Vat} {j : Job} (hbusy : s.pkeBusy v = true) (hedge : (s.reg (R.PKE_DONE_EDGE v)).toNat = s.beat % 2 ^ 32)
  (hj : (s.pke v).job = some i) (hi : s.job? i = some j) (hd : (s.pke v).done = true) (hb : (s.pke v).bad = none)
include hbusy hedge hj hi

theorem exec_pkeDoneEdge_handOver (hr : (s.pke v).rounds ≤ 24) : exec (.pkeDoneEdge v true) s = .next (s.pkeHandOver v true) := by
  change execPkeDoneEdge v true s = _
  unfold execPkeDoneEdge
  simp only [hbusy, hedge, hj, Option.bind_some, hi, Nat.not_lt.mpr hr]
  simp

include hd hb

theorem exec_pkeDoneEdge_over (hr : 24 < (s.pke v).rounds) (ho : s.regBit (R.PKE_STATUS v) 2 = false) :
    exec (.pkeDoneEdge v true) s = .next (s.pkeOver v j j.admitEdge) := by
  change execPkeDoneEdge v true s = _
  unfold execPkeDoneEdge
  simp only [hbusy, hedge, hj, Option.bind_some, hi, hd, hb, hr, ho]
  simp

end

theorem pkeOutcome_of_rounds {u : PkeUnit} (hr : u.rounds ≤ 24) :
    pkeOutcome u none = if u.vd.1 = 0 then (0, 0, u.result, u.output) else (u.vd.1, u.vd.2, [], []) := by
  unfold pkeOutcome
  by_cases h : u.vd.1 = 0 <;> simp [h, hr]

/-- The overrun rule moves the job's release on by its tariff, and the engine stays busy. -/
theorem State.pkeOver_facts {j : Job} {b : Nat} (hi : s.job? i = some j) (hbusy : s.pkeBusy v = true) :
    let t := s.pkeOver v j b
    (t.job? i).map (·.due) = some (some (b + 2 * (j.due.getD 0 - b))) ∧ t.regBit (R.PKE_STATUS v) 2 = true ∧ t.pkeBusy v = true := by
  intro t
  have hid : j.id = i := by simpa using List.find?_some hi
  have hstatus : t.reg (R.PKE_STATUS v) = (s.setRegBit (R.PKE_STATUS v) 2 true).reg (R.PKE_STATUS v) :=
    (State.pkeEvent_reg (by decide) (by simp) (by simp)).trans (State.reg_setReg_other _ _ (by simp))
  refine ⟨?_, ?_, ?_⟩
  · subst hid
    have ht : t.job? j.id = (s.job? j.id).map fun j' => { j' with due := some (b + 2 * (j.due.getD 0 - b)) } :=
      (State.job?_of_jobs State.pkeEvent_jobs).trans (State.job?_updJob fun _ => rfl)
    rw [ht, hi]
    rfl
  · rw [State.regBit_eq_of_reg hstatus, State.regBit_setRegBit (by decide), if_pos rfl]
  · rw [State.pkeBusy, State.regBit_eq_of_reg hstatus, State.regBit_setRegBit (by decide), if_neg (by decide)]
    exact hbusy

end Sys2Proof.Machine

/-! SUPPORT. A vat core's writes of the registers of its own window: commands of the public-key engine, and the engines' locks (R216, R224,
R228, R156). -/

namespace Sys2Proof.Machine

variable {s : State} {who : Sender} {v : Vat} {w : Word}

/-! ### The rows of a vat's window -/

theorem regRow?_window {o : Nat} (ho : o < 0x1000000) :
    regRow? (vatAddr v o) =
      (vatRows (o / 0x100000)).find? fun r => decide (r.key ≤ vatAddr v o) && dimsMatch r.dims (vatAddr v o - r.key) := by
  have hv := v.isLt
  have h : vatAddr v o % 0x1000000 / 0x100000 = o / 0x100000 := by
    unfold vatAddr
    omega
  unfold regRow?
  rw [if_neg (by unfold vatAddr; omega), if_pos (by unfold vatAddr; omega), h]

/-- Of the rows with one register to a vat, that at the first vat's address matches. -/
theorem windowRow_matches {o key : Nat} (ho : o < 0x1000000) (h₀ : 0x1000000000 ≤ key) (h₁ : key < 0x1001000000) :
    (decide (key ≤ vatAddr v o) && dimsMatch [(0x1000000, 64)] (vatAddr v o - key)) = decide (key = 0x1000000000 + o) := by
  have hv := v.isLt
  rw [Bool.eq_iff_iff]
  unfold vatAddr
  simp only [dimsMatch, Bool.and_eq_true, beq_iff_eq, decide_eq_true_eq]
  omega

/-! ### A vat core's write of its own window -/

/-- A running vat core's word write of a register of its own window is the window's own (R31, R508). -/
theorem State.wr_vatCore {o : Nat} {r : RegRow} (h : s.vatCoreAt who v) (hr : regRow? (vatAddr v o) = some r) (ho : o < 0x1000000)
    (hc : regionOf o = .control) (h₄ : o % 4 = 0) (hring : o ≠ 0x70000C) :
    s.wr who (vatAddr v o) w = s.vatWrite who v o (vatAddr v o) w r := by
  obtain ⟨rfl, hreset, hheld, htrip, hcore, hlock⟩ := h
  have hv := v.isLt
  have ht : targetOf (vatAddr v o) = .vat v o := by
    unfold targetOf vatAddr
    rw [if_neg (by omega), if_neg (by omega), if_neg (by omega), if_neg (by omega), if_pos (by omega)]
    congr 1 <;> omega
  have hoff : vatAddr v o % 0x1000000 = o := by
    unfold vatAddr
    omega
  have h₄' : vatAddr v o % 4 = 0 := by
    unfold vatAddr
    omega
  have hcheck : s.localCheck v true .store .word o = none := by
    unfold State.localCheck
    simp [hc, hring]
  have hcanon : canonReg (vatAddr v o) = vatAddr v o := by
    unfold canonReg vatAddr
    rw [if_neg (by omega), if_neg (by omega)]
  have hw {u : Sender} : s.writeReg u (vatAddr v o) w = s.vatWrite u v o (vatAddr v o) w r := by
    unfold State.writeReg
    simp only [hcanon, hr, hoff]
    rw [if_pos (by unfold vatAddr; omega)]
    congr 1
    unfold vatAddr
    omega
  have hstore : s.localStore v true .word o w = (none, s.vatWrite (.core ⟨v, by omega⟩ true) v o (vatAddr v o) w r) := by
    unfold State.localStore
    simp only [hcheck, hc, hw, Nat.mod_eq_of_lt (show v.val < 66 by omega)]
  unfold State.wr State.regCommand
  simp only [hreset, hheld, htrip, hcore, hlock, ht, hoff, sizeBytes, h₄', privOf]
  simp [hstore]

/-- An access to vat `v`'s window that ends as an error leaves every register beyond error capture's block, and shows its code (R882). -/
theorem State.errAt_vat {code a k : Nat} {c : Core} {p : Bool} {kind : Kind} (hc : code < 256) (ha : errSource a = 0x40 + v)
    (hk : 0x100F00000 ≤ k) :
    (s.errAt code (.core c p) kind a).reg k = s.reg k ∧
      (s.errAt code (.core c p) kind a).regField (R.ERRC_LAST (0x40 + v) 0) 31 24 = code := by
  have hv : 0x40 + v.val < 0x80 := by omega
  unfold State.errAt
  rw [ha]
  refine ⟨State.capture_reg_above hv hk, ?_⟩
  rw [State.regField, State.capture_reg_last hv]
  exact State.errEntry_code hc

theorem errSource_vat {a : Nat} (h₀ : vatAddr v 0 ≤ a) (h₁ : a < vatAddr v 0x1000000) : errSource a = 0x40 + v := by
  simp only [vatAddr] at h₀ h₁
  unfold errSource
  rw [if_neg (by omega), if_pos (by omega)]
  omega

/-! ### PKE_CMD (R216, R228) -/

theorem vatAddr_pkeCmd : R.PKE_CMD v = vatAddr v 0x204010 := by
  simp only [R.PKE_CMD, vatAddr]
  omega

theorem regRow?_pkeCmd : regRow? (vatAddr v 0x204010) = some { key := 0x1000204010, dims := [(0x1000000, 64)], wo := 0x3 } := by
  rw [regRow?_window (by decide)]
  simp [vatRows, rowsPke, windowRow_matches]

theorem State.wr_pkeCmd (h : s.vatCoreAt who v) : s.wr who (R.PKE_CMD v) w = s.pkeCmd who v w := by
  rw [vatAddr_pkeCmd, State.wr_vatCore h regRow?_pkeCmd (by decide) (by decide) (by decide) (by decide)]
  exact if_pos rfl

theorem bit_or {a b : Word} {i : Nat} : bit (a ||| b) i = (bit a i || bit b i) := BitVec.getLsbD_or

/-- The job block lets a job start: a verb and algorithm the device offers, time enough, and no reserved field set (R216). -/
def jobBlockOk (blk : Bytes) : Prop :=
  let need := pkeTariff (leAt blk 0 2) (byteAt blk 2)
  1 ≤ need ∧ need ≤ leAt blk 4 4 ∧ byteAt blk 3 = 0 ∧ allZero (slice blk 0x40 192) = true

theorem State.pkeCmd_start_free {v : Nat} (hw₁ : bit w 1 = false) (hw₀ : bit w 0 = true) (hb : s.pkeBusy v = false)
    (hok : jobBlockOk (s.read (pkeMem v) 0x100)) :
    let blk := s.read (pkeMem v) 0x100
    s.pkeCmd who v w = s.pkeBegin v (leAt blk 0 2) (byteAt blk 2) (s.beat + leAt blk 4 4 - 1) := by
  obtain ⟨hneed, htime, hflag, hzero⟩ := hok
  unfold State.pkeCmd
  simp only [hw₁, hw₀, hb, hflag, hzero, Bool.false_eq_true, if_false, if_true, ne_eq, not_true_eq_false, false_or, or_false]
  exact if_neg (by omega)

theorem State.pkeCmd_start_busy {v : Nat} (hw₁ : bit w 1 = false) (hw₀ : bit w 0 = true) (hb : s.pkeBusy v = true) :
    s.pkeCmd who v w = s.errAt errIgnored who .store (R.PKE_CMD v) := by
  unfold State.pkeCmd
  simp only [hw₁, hw₀, hb, Bool.false_eq_true, if_false, if_true, true_or]

theorem State.pkeCmd_wipe_free {v : Nat} (hw₁ : bit w 1 = true) (hw₀ : bit w 0 = false) (hb : s.pkeBusy v = false) :
    s.pkeCmd who v w = s.pkeWipeAll v := by
  unfold State.pkeCmd
  simp only [hw₁, hw₀, hb, Bool.false_eq_true, if_false, if_true]

theorem exec_pkeStart (h : s.vatCoreAt who v) : exec (.pkeStart who v w) s = .next (s.pkeCmd who v (w ||| 1)) :=
  congrArg Host.Outcome.next (State.wr_pkeCmd h)

theorem exec_pkeWipe (h : s.vatCoreAt who v) : exec (.pkeWipe who v w) s = .next (s.pkeCmd who v (w ||| 2)) :=
  congrArg Host.Outcome.next (State.wr_pkeCmd h)

theorem pkeStart_free (h : s.vatCoreAt who v) (hw : bit w 1 = false) (hb : s.pkeBusy v = false)
    (hok : jobBlockOk (s.read (pkeMem v) 0x100)) :
    let blk := s.read (pkeMem v) 0x100
    Completes (.pkeStart who v w) s fun t =>
      t.pkeBusy v = true ∧ t.reg (R.PKE_JOB v) = w32 (byteAt blk 2 * 65536 + leAt blk 0 2) ∧
      t.reg (R.PKE_DONE_EDGE v) = w32 ((s.beat + leAt blk 4 4 - 1) % 2 ^ 32) := by
  refine ⟨_, exec_pkeStart h, ?_⟩
  rw [State.pkeCmd_start_free (by rw [bit_or, hw]; rfl) (by rw [bit_or]; exact Bool.or_true _) hb hok]
  exact ⟨State.pkeBegin_busy, State.pkeBegin_reg_job, State.pkeBegin_reg_edge⟩

theorem pkeStart_busy (h : s.vatCoreAt who v) (hw : bit w 1 = false) (hb : s.pkeBusy v = true) :
    Completes (.pkeStart who v w) s fun t =>
      t.reg (R.PKE_JOB v) = s.reg (R.PKE_JOB v) ∧ t.regField (R.ERRC_LAST (0x40 + v) 0) 31 24 = 5 := by
  refine ⟨_, exec_pkeStart h, ?_⟩
  rw [State.pkeCmd_start_busy (by rw [bit_or, hw]; rfl) (by rw [bit_or]; exact Bool.or_true _) hb]
  obtain ⟨rfl, -⟩ := h
  refine State.errAt_vat (by decide) (errSource_vat ?_ ?_) ?_ <;> simp only [R.PKE_CMD, R.PKE_JOB, vatAddr] <;> omega

theorem pkeWipe_free (h : s.vatCoreAt who v) (hb : s.pkeBusy v = false) (hw : bit w 0 = false) :
    Completes (.pkeWipe who v w) s fun t =>
      (∀ a, a < 0x4000 → t.byte (pkeMem v + a) = 0) ∧ (∀ p, p < pkeMem v ∨ pkeMem v + 0x4000 ≤ p → t.byte p = s.byte p) ∧
      t.regBit (R.PKE_STATUS v) 3 = true := by
  refine ⟨_, exec_pkeWipe h, ?_⟩
  rw [State.pkeCmd_wipe_free (by rw [bit_or]; exact Bool.or_true _) (by rw [bit_or, hw]; rfl) hb]
  refine ⟨fun a ha => ?_, fun p hp => ?_, (State.regBit_setRegBit (by decide)).trans (if_pos rfl)⟩
  · exact State.setRegBit_byte.trans (State.wipe_byte_zero (by omega) (by omega))
  · rw [State.pkeWipeAll, State.setRegBit_byte, State.wipe_byte, if_neg (by omega)]

/-! ### The locks of the engines (R156, R224) -/

/-- The row of an engine's lock register, whose one bit locks itself as well. -/
def lockRow (k : Nat) : RegRow := { key := k, dims := [(0x1000000, 64)], rwl := 0x1, lock := some (k, 0) }

theorem regRow?_symLock : regRow? (vatAddr v 0x300004) = some (lockRow 0x1000300004) := by
  rw [regRow?_window (by decide)]
  simp [vatRows, rowsSym, windowRow_matches, lockRow]

theorem regRow?_pkeLock : regRow? (vatAddr v 0x204008) = some (lockRow 0x1000204008) := by
  rw [regRow?_window (by decide)]
  simp [vatRows, rowsPke, windowRow_matches, lockRow]

/-- A lock's row has no W1C bit, so that no write clears one. -/
theorem lockRow_clear {k : Nat} {x : Word} : x &&& ~~~(w &&& w32 (lockRow k).w1c) = x := by
  rw [show w32 (lockRow k).w1c = 0#32 from rfl, BitVec.and_zero, BitVec.not_zero, BitVec.and_allOnes]

section
variable {k : Nat} (hk : 0x1000000000 ≤ k)
include hk

/-- A register of a vat's window is none of an array of a control block. -/
theorem arrIx_window {base stride n : Nat} (hn : base + stride * n ≤ 0x1000000000) : arrIx k base stride n = none := if_neg (by omega)

theorem writeMasks_window {r : RegRow} : writeMasks k r = (w32 r.rw, w32 r.rwl) := by
  unfold writeMasks
  dsimp only
  rw [if_neg (by simp only [R.TAMPER_CTRL]; omega), if_neg (by simp only [R.TAMPER_SRC_CFG]; omega), if_neg (by omega),
    arrIx_window hk (by decide)]

theorem State.guardGroups_window {w : Word} : s.guardGroups k w = [] := by
  unfold State.guardGroups
  dsimp only
  rw [if_neg (by simp only [R.MOULD_CTRL]; omega), if_neg (by simp only [R.RESET_CTRL]; omega),
    if_neg (by simp only [R.SPRING_CTRL]; omega), if_neg (by simp only [R.PMU_PWR_LIMIT]; omega), arrIx_window hk (by decide)]
  rfl

theorem State.afterWrite_window {old w : Word} : s.afterWrite who k old w = s := by
  unfold State.afterWrite
  rw [if_neg (by simp only [R.BEAT_CTRL]; omega), if_neg (by simp only [R.SPRING_CTRL]; omega),
    if_neg (by simp only [R.PMU_PWR_LIMIT, R.PMU_CTRL]; omega), if_neg (by simp only [R.MGMT_UART_CTRL]; omega),
    if_neg (by simp only [R.CLESS_CTRL]; omega)]

end

/-- Register `k` of vat `v`'s window, at offset `o`, locks an engine; `k₀` is the first vat's. -/
structure LockReg (v : Vat) (k k₀ o : Nat) : Prop where
  addr : k = vatAddr v o
  first : k₀ = vatAddr 0 o
  row : regRow? k = some (lockRow k₀)
  offset : o = 0x300004 ∨ o = 0x204008

theorem lockReg_sym (v : Vat) : LockReg v (R.SYM_LOCK v) 0x1000300004 0x300004 := by
  have hk : R.SYM_LOCK v = vatAddr v 0x300004 := by
    simp only [R.SYM_LOCK, vatAddr]
    omega
  exact ⟨hk, rfl, hk ▸ regRow?_symLock, .inl rfl⟩

theorem lockReg_pke (v : Vat) : LockReg v (R.PKE_LOCK v) 0x1000204008 0x204008 := by
  have hk : R.PKE_LOCK v = vatAddr v 0x204008 := by
    simp only [R.PKE_LOCK, vatAddr]
    omega
  exact ⟨hk, rfl, hk ▸ regRow?_pkeLock, .inr rfl⟩

namespace LockReg
variable {k k₀ o : Nat} (hl : LockReg v k k₀ o)
include hl

theorem window : 0x1000000000 ≤ k ∧ k₀ + (k - 0x1000000000) / 0x1000000 * 0x1000000 = k ∧ k % 0x1000000 = o := by
  obtain ⟨rfl, rfl, -, ho⟩ := hl
  unfold vatAddr
  omega

theorem source : errSource k = 0x40 + v := by
  obtain ⟨rfl, -, -, ho⟩ := hl
  refine errSource_vat ?_ ?_ <;> unfold vatAddr <;> omega

theorem rowLocked : s.rowLocked k (lockRow k₀) = s.regBit k 0 := by
  obtain ⟨hk, hfirst, -⟩ := hl.window
  simp only [State.rowLocked, lockRow, if_pos hk, hfirst]

theorem masks : writeMasks k (lockRow k₀) = (0#32, 1#32) := writeMasks_window hl.window.1

theorem rangeOf {x : Word} : s.rangeOf k w x = .ok := by
  obtain ⟨hk, -, ho⟩ := hl.window
  unfold State.rangeOf State.rangeVat
  rw [if_pos hk, ho]
  rcases hl.offset with rfl | rfl <;> simp

theorem wr (h : s.vatCoreAt who v) : s.wr who k w = s.plainWrite who k w (lockRow k₀) := by
  obtain ⟨rfl, -, hr, ho⟩ := hl
  have hc : regionOf o = .control := by rcases ho with rfl | rfl <;> decide
  rw [State.wr_vatCore h hr (by omega) hc (by omega) (by omega), State.vatWrite, if_neg (by omega), if_neg (by omega), if_neg (by omega)]

theorem ne_springCtrl : k ≠ R.SPRING_CTRL := by
  have := hl.window.1
  simp only [R.SPRING_CTRL]
  omega

/-- While the lock is open its one bit takes the written value. -/
theorem plainWrite_open (ho : s.regBit k 0 = false) :
    s.plainWrite who k w (lockRow k₀) = s.setReg k ((s.reg k &&& ~~~1#32) ||| (w &&& 1#32)) := by
  have hk := hl.window.1
  have hw : s.reg k &&& ~~~((writeMasks k (lockRow k₀)).1 ||| (writeMasks k (lockRow k₀)).2) |||
      w &&& ((writeMasks k (lockRow k₀)).1 ||| (writeMasks k (lockRow k₀)).2) = (s.reg k &&& ~~~1#32) ||| (w &&& 1#32) := by
    rw [hl.masks, BitVec.zero_or]
  rw [State.plainWrite_ok hl.ne_springCtrl (hl.rowLocked.trans ho) hw (State.guardGroups_window hk) hl.rangeOf, State.afterWrite_window hk,
    lockRow_clear]

/-- A lock that is closed stays, and an attempt to open it is recorded. -/
theorem plainWrite_closed (hc : s.regBit k 0 = true) (hw : bit w 0 = false) :
    s.plainWrite who k w (lockRow k₀) = (s.errAt errLocked who .store k).setReg k (s.reg k) := by
  have hk := hl.window.1
  have hne : (w ^^^ s.reg k) &&& 1#32 ≠ 0#32 := fun e => by
    have h : ((w.getLsbD 0 ^^ (s.reg k).getLsbD 0) && true) = false := by
      rw [← BitVec.getLsbD_xor]
      exact (BitVec.getLsbD_and (x := w ^^^ s.reg k) (y := 1#32)).symm.trans (congrArg (bit · 0) e)
    rw [show w.getLsbD 0 = false from hw, show (s.reg k).getLsbD 0 = true from hc] at h
    cases h
  unfold State.plainWrite
  simp only [if_neg hl.ne_springCtrl, hl.masks, BitVec.ofNat_eq_ofNat, hl.rowLocked, hc, hne,
    State.guardGroups_window hk, State.afterWrite_window hk, lockRow_clear, if_true, ne_eq, not_false_eq_true, true_and, List.any_nil,
    Bool.false_eq_true, if_false, List.foldl_nil]
  rw [BitVec.and_zero, BitVec.or_zero, BitVec.not_zero, BitVec.and_allOnes]

/-- What a write leaves while the lock is open (R12). -/
theorem completes_open {c : Instr} (hc : exec c s = .next (s.plainWrite who k w (lockRow k₀))) (ho : s.regBit k 0 = false) :
    Completes c s fun t => t.regBit k 0 = bit w 0 ∧ s.onlyRegs t [k] := by
  refine ⟨_, hc, ?_⟩
  rw [hl.plainWrite_open ho]
  obtain ⟨hreg, honly⟩ :=
    State.setReg_onlyRegs (s := s) (k := k) (v := (s.reg k &&& ~~~1#32) ||| (w &&& 1#32))
  refine ⟨?_, honly⟩
  rw [State.regBit, hreg]
  simp [bit]

/-- What an attempt to open a closed lock leaves (R12). -/
theorem completes_closed {c : Instr} {core : Core} (hc : exec c s = .next (s.plainWrite (.core core true) k w (lockRow k₀)))
    (hs : s.regBit k 0 = true) (hw : bit w 0 = false) :
    Completes c s fun t => t.regBit k 0 = true ∧ t.regField (R.ERRC_LAST (0x40 + v) 0) 31 24 = 3 := by
  refine ⟨_, hc, ?_⟩
  rw [hl.plainWrite_closed hs hw]
  have hlast : R.ERRC_LAST (0x40 + v) 0 ≠ k := by
    have := hl.window.1
    simp only [R.ERRC_LAST]
    omega
  refine ⟨(congrArg (bit · 0) (State.reg_setReg_same _ _ _)).trans hs, ?_⟩
  rw [State.regField, State.reg_setReg_other _ _ hlast]
  exact (State.errAt_vat (k := 0x100F00000) (by decide) hl.source (by decide)).2

end LockReg

theorem exec_symLockWrite (h : s.vatCoreAt who v) :
    exec (.symLockWrite who v w) s = .next (s.plainWrite who (R.SYM_LOCK v) w (lockRow 0x1000300004)) :=
  congrArg Host.Outcome.next ((lockReg_sym v).wr h)

theorem exec_pkeLockWrite (h : s.vatCoreAt who v) :
    exec (.pkeLockWrite who v w) s = .next (s.plainWrite who (R.PKE_LOCK v) w (lockRow 0x1000204008)) :=
  congrArg Host.Outcome.next ((lockReg_pke v).wr h)

end Sys2Proof.Machine

namespace Sys2Proof
open Machine

/-- Settles O45: a verb leaves its result in the engine of its vat, the end of the work wipes what is secret, the done edge hands over or
begins the overrun, and PKE_CMD and the locks are the vat core's to write. -/
theorem publicKeyEngine : Obligations.PublicKeyEngine := by
  intro s i v who w
  refine ⟨?_, fun hb hd he => ⟨pkeWorkEnd_good hb hd he, pkeWorkEnd_unread hb hd he⟩,
    fun j hbusy hedge hj hi hd he hb => ⟨fun hr => ?_, fun hr ho => ?_⟩, fun h => ⟨?_, ?_, ?_, ?_, ?_, ?_⟩⟩
  · simp only [List.forall_mem_cons, List.not_mem_nil, false_implies, implies_true, and_true]
    exact ⟨fun _ => holds_sign, fun _ => holds_verify, fun _ => holds_keypair, fun _ => holds_agree, fun _ => holds_encapsulate⟩
  · obtain ⟨hend, hfree⟩ := State.pkeHandOver_facts hj hi hd he hb
    rw [pkeOutcome_of_rounds hr] at hend
    refine ⟨_, exec_pkeDoneEdge_handOver hbusy hedge hj hi hr, ?_, hfree⟩
    split
    next hvd => rwa [if_pos hvd] at hend
    next hvd => rwa [if_neg hvd] at hend
  · exact ⟨_, exec_pkeDoneEdge_over hbusy hedge hj hi hd hb hr ho, State.pkeOver_facts hi hbusy⟩
  · exact fun hw hb hneed htime hflag hzero => pkeStart_free h hw hb ⟨hneed, htime, hflag, hzero⟩
  · exact fun hb hw => pkeStart_busy h hw hb
  · exact pkeWipe_free h
  · exact (lockReg_sym v).completes_open (exec_symLockWrite h)
  · obtain ⟨rfl, -⟩ := id h
    exact (lockReg_sym v).completes_closed (exec_symLockWrite h)
  · exact (lockReg_pke v).completes_open (exec_pkeLockWrite h)

end Sys2Proof

/-! SUPPORT. A fold of which one step brings something about, the job of a number, and what becomes of it as jobs are changed, one or
many (R240, R263, R269). -/

namespace Sys2Proof.Machine

variable {s t : State} {i k : Nat} {P Q : Job → Prop}

/-- Among steps that keep `M`, and keep `N` once it holds, that of `x` brings `N` about. -/
theorem foldl_of_mem {σ α : Type} {l : List α} {f : σ → α → σ} {u : σ} {x : α} {M N : σ → Prop} (h : M u) (hx : x ∈ l)
    (hM : ∀ u, ∀ a ∈ l, M u → M (f u a)) (hMN : ∀ u, M u → N (f u x)) (hN : ∀ u, ∀ a ∈ l, N u → N (f u a)) : N (l.foldl f u) := by
  obtain ⟨l₁, l₂, rfl⟩ := List.append_of_mem hx
  rw [List.foldl_append, List.foldl_cons]
  have h₁ : M (l₁.foldl f u) := List.foldlRecOn l₁ f (motive := M) h fun u hu a ha => hM u a (List.mem_append_left _ ha) hu
  exact List.foldlRecOn l₂ f (motive := N) (hMN _ h₁) fun u hu a ha => hN u a (List.mem_append_right _ (List.mem_cons_of_mem _ ha)) hu

/-- Job `k` stands between receipt and release, and `P` holds of it. -/
def State.JobIs (s : State) (k : Nat) (P : Job → Prop) : Prop := ∃ j, s.job? k = some j ∧ P j

theorem State.id_of_job? {j : Job} (h : s.job? k = some j) : j.id = k := by simpa using List.find?_some h

theorem State.mem_of_job? {j : Job} (h : s.job? k = some j) : j ∈ s.bt.jobs := List.mem_of_find?_eq_some h

/-- Jobs changed one by one, each keeping its number. -/
theorem State.job?_of_map {f : Job → Job} (h : t.bt.jobs = s.bt.jobs.map f) (hf : ∀ j, (f j).id = j.id) :
    t.job? k = (s.job? k).map f := by
  have hid : ((fun j : Job => j.id == k) ∘ f) = fun j => j.id == k := funext fun j => congrArg (· == k) (hf j)
  unfold State.job?
  rw [h, List.find?_map, hid]

theorem State.map_job?_of_jobIs {α : Type} {g : Job → α} {a : α} (h : s.JobIs k P) (hg : ∀ j, P j → g j = a) :
    (s.job? k).map g = some a := by
  obtain ⟨j, hj, hP⟩ := h
  rw [hj, Option.map_some, hg j hP]

namespace State.JobIs

theorem of_job? {j : Job} (h : s.job? k = some j) (hP : P j) : s.JobIs k P := ⟨j, h, hP⟩

theorem mono (h : s.JobIs k P) (hPQ : ∀ j, P j → Q j) : s.JobIs k Q := by
  obtain ⟨j, hj, hP⟩ := h
  exact ⟨j, hj, hPQ j hP⟩

theorem of_jobs (h : s.JobIs k P) (e : t.bt.jobs = s.bt.jobs) : t.JobIs k P := by
  obtain ⟨j, hj, hP⟩ := h
  exact ⟨j, (State.job?_of_jobs e).trans hj, hP⟩

theorem of_map {f : Job → Job} (h : s.JobIs k P) (e : t.bt.jobs = s.bt.jobs.map f) (hf : ∀ j, (f j).id = j.id)
    (hPQ : ∀ j, P j → Q (f j)) : t.JobIs k Q := by
  obtain ⟨j, hj, hP⟩ := h
  exact ⟨f j, by rw [State.job?_of_map e hf, hj, Option.map_some], hPQ j hP⟩

/-- A change of any job that keeps its number and `P`. -/
theorem updJob {f : Job → Job} (h : s.JobIs k P) (hf : ∀ j, (f j).id = j.id) (hP : ∀ j, P j → P (f j)) : (s.updJob i f).JobIs k P := by
  refine h.of_map rfl (fun j => ?_) (fun j hj => ?_)
  · split
    · exact hf j
    · rfl
  · split
    · exact hP j hj
    · exact hj

/-- A change of the job itself. -/
theorem updJob_self {f : Job → Job} (h : s.JobIs k P) (hf : ∀ j, (f j).id = j.id) (hPQ : ∀ j, P j → Q (f j)) : (s.updJob k f).JobIs k Q := by
  obtain ⟨j, hj, hP⟩ := h
  exact ⟨f j, by rw [State.job?_updJob hf, hj, Option.map_some], hPQ j hP⟩

theorem updJob_other {f : Job → Job} (h : s.JobIs k P) (hf : ∀ j, (f j).id = j.id) (hne : i ≠ k) : (s.updJob i f).JobIs k P := by
  obtain ⟨j, hj, hP⟩ := h
  refine ⟨j, ?_, hP⟩
  have hid := State.id_of_job? hj
  rw [State.job?_of_map (s := s) rfl fun j => ?_, hj, Option.map_some, if_neg fun e => hne (e.symm.trans hid)]
  split
  · exact hf j
  · rfl

/-- A job that is answered without placement keeps its number. -/
theorem answerAt {x : Job} {cls reason e : Nat} (h : s.JobIs k P) (hP : ∀ j : Job, P j → P { j with
    stage := .answered, ready := true, cls, reason, result := [], output := [], due := some e, lines := 0 }) :
    (s.answerAt x cls reason e).JobIs k P := by
  refine .of_jobs (s := s.updJob x.id _) ?_ rfl
  exact h.updJob (fun _ => rfl) hP

theorem answerAt_self {x : Job} {cls reason e : Nat} (h : s.JobIs x.id P) (hPQ : ∀ j : Job, P j → Q { j with
    stage := .answered, ready := true, cls, reason, result := [], output := [], due := some e, lines := 0 }) :
    (s.answerAt x cls reason e).JobIs x.id Q := by
  refine .of_jobs (s := s.updJob x.id _) ?_ rfl
  exact h.updJob_self (fun _ => rfl) hPQ

theorem foldl {α : Type} {l : List α} {f : State → α → State} (h : s.JobIs k P) (hf : ∀ u a, u.JobIs k P → (f u a).JobIs k P) :
    (l.foldl f s).JobIs k P :=
  List.foldlRecOn l f (motive := fun u => u.JobIs k P) h fun u hu a _ => hf u a hu

end State.JobIs

end Sys2Proof.Machine

/-! SUPPORT. A descriptor that admission receives: what follows from its checks, and what a receipt leaves as it is (R240, R255, R259). -/

namespace Sys2Proof.Machine

variable {s t : State} {src : Source} {d n : Nat} {b desc input : Bytes} {fr : Option FrameRef} {a : Area}

/-! ### Bytes and counters -/

theorem length_padTo : (padTo n b).length = n := by
  simp only [padTo, slice, List.length_append, List.length_replicate, List.length_take, List.length_drop]
  omega

/-- What is padded already stays. -/
theorem padTo_padTo : padTo n (padTo n b) = padTo n b := by
  have h : (padTo n b).take n = padTo n b := List.take_of_length_le length_padTo.le
  rw [padTo, slice, List.drop_zero, h, length_padTo, Nat.sub_self]
  exact List.append_nil _

/-- A 64-bit counter counts modulo 2⁶⁴ (R16). -/
theorem State.reg64_setReg64 {k v : Nat} : (s.setReg64 k v).reg64 k = v % 2 ^ 64 := by
  rw [State.reg64, State.setReg64, State.reg_setReg_other _ _ (show k ≠ k + 4 by omega), State.reg_setReg_same, State.reg_setReg_same,
    BitVec.toNat_ofNat, BitVec.toNat_ofNat]
  omega

/-! ### Receipt -/

/-- Job `j` has been received, and its fate is not settled yet. -/
def State.arrived (s : State) (j : Job) : State := s.mapBt fun b => { b with jobs := b.jobs ++ [j], nextJob := b.nextJob + 1 }


/-- The job that a descriptor becomes: its bytes filled to 64, and of its input what it names. -/
def State.jobOf (s : State) (src : Source) (d : Nat) (desc input : Bytes) (fr : Option FrameRef) : Job :=
  s.newJob src d (padTo 64 desc) (input.take (dInLen (padTo 64 desc))) fr

/-- The checks of R240 on a descriptor as it is received. -/
def State.receiptFail (s : State) (src : Source) (d : Nat) (desc input : Bytes) (a : Area) : Option Nat :=
  firstFail (s.admitChecks src d (padTo 64 desc) (input.take (dInLen (padTo 64 desc))) a)

theorem State.receive_malformed {r : Nat} (h : s.receiptFail src d desc input a = some r) :
    s.receive src d desc input fr a = (s.arrived (s.jobOf src d desc input fr)).answerAt (s.jobOf src d desc input fr) 2 r s.nextEdge := by
  unfold State.receive
  extract_lets b j c depth s'
  have e : firstFail (s'.admitChecks src d b j.input a) = some r := h
  rw [e]
  rfl

/-- What becomes of a descriptor that passes its checks (R240, R259). -/
theorem State.receive_passed (h : s.receiptFail src d desc input a = none) :
    let b := padTo 64 desc
    let j := s.jobOf src d desc input fr
    let u := s.arrived j
    s.receive src d desc input fr a =
      if ¬ (txnVerb (dVerb b) ∨ queuedCmd (dVerb b)) then u
      else if s.scopeClosed src d (dVerb b) then u.answerAt j 3 0x0105 s.nextEdge
      else if 8192 ≤ (s.waitingOf d).length then u.answerAt j 3 0x0101 s.nextEdge
      else if s.bt.closed ∧ s.bt.gate then u.answerAt j 3 0x0103 s.nextEdge
      else
        let w := u.updJob j.id fun x => { x with stage := .waiting, tariff := s.tariffOf d b, surcharge := surchargeOf (s.part d) (dVerb b) }
        if (s.waitingOf d).length + 1 = 8192 then w.raise 248 else w := by
  intro b j u
  unfold State.receive
  extract_lets j' c depth s'
  have e : firstFail (s'.admitChecks src d b j'.input a) = none := h
  rw [e]
  rfl

section
variable (h : s.receiptFail src d desc input a = none)
include h

theorem State.receive_command (hc : (txnVerb (dVerb (padTo 64 desc)) || queuedCmd (dVerb (padTo 64 desc))) = false) :
    s.receive src d desc input fr a = s.arrived (s.jobOf src d desc input fr) := by
  rw [State.receive_passed h, if_pos (by simpa using hc)]

variable (hc : (txnVerb (dVerb (padTo 64 desc)) || queuedCmd (dVerb (padTo 64 desc))) = true)
  (ho : s.scopeClosed src d (dVerb (padTo 64 desc)) = false)
include hc ho

theorem State.receive_full (hd : 8192 ≤ (s.waitingOf d).length) :
    s.receive src d desc input fr a =
      (s.arrived (s.jobOf src d desc input fr)).answerAt (s.jobOf src d desc input fr) 3 0x0101 s.nextEdge := by
  rw [State.receive_passed h, if_neg (not_not.mpr ((Bool.or_eq_true _ _).mp hc)), if_neg (by simp [ho]), if_pos hd]

/-- A descriptor that passes waits, its tariff and surcharge fixed; the one that fills the deckle's queues raises event 248. -/
theorem State.receive_waiting (hd : (s.waitingOf d).length < 8192) (hclosed : s.bt.closed = false) :
    (s.receive src d desc input fr a).bt.jobs =
      ((s.arrived (s.jobOf src d desc input fr)).updJob s.bt.nextJob fun j =>
        { j with stage := .waiting, tariff := s.tariffOf d (padTo 64 desc), surcharge := surchargeOf (s.part d) (dVerb (padTo 64 desc)) }).bt.jobs := by
  rw [State.receive_passed h, if_neg (not_not.mpr ((Bool.or_eq_true _ _).mp hc)), if_neg (by simp [ho]), if_neg (by omega),
    if_neg (by simp [hclosed])]
  dsimp only
  split
  · exact State.raise_jobs
  · rfl

end

/-! ### What a receipt leaves as it is -/

/-- From `s` to `t` descriptors have been received, `n` of them: the receipt number has risen by as much, and the requests, the fetches in
flight and every register beyond the events' are as before. -/
structure State.Received (s : State) (n : Nat) (t : State) : Prop where
  nextJob : t.bt.nextJob = s.bt.nextJob + n
  nextReq : t.bt.nextReq = s.bt.nextReq
  inflight : t.bt.inflight = s.bt.inflight
  reg : ∀ k, ¬ eventReg k → t.reg k = s.reg k

namespace State.Received

theorem refl : s.Received 0 s := ⟨rfl, rfl, rfl, fun _ _ => rfl⟩

theorem ite {c : Prop} {_ : Decidable c} {u : State} (ht : s.Received n t) (hu : s.Received n u) : s.Received n (if c then t else u) := by
  split <;> assumption

theorem answerAt {j : Job} {cls reason e : Nat} (h : s.Received n t) : s.Received n (t.answerAt j cls reason e) :=
  ⟨h.nextJob, h.nextReq, h.inflight, h.reg⟩

theorem updJob {i : Nat} {f : Job → Job} (h : s.Received n t) : s.Received n (t.updJob i f) := ⟨h.nextJob, h.nextReq, h.inflight, h.reg⟩

theorem raise {e : Nat} (h : s.Received n t) (he : e < 640) (hx : e ∉ [318, 263, 269]) : s.Received n (t.raise e) := by
  have hr : t.EventsOnly (t.raise e) := State.raise_eventsOnly he hx
  exact ⟨(congrArg BeatState.nextJob hr.bt).trans h.nextJob, (congrArg BeatState.nextReq hr.bt).trans h.nextReq,
    (congrArg BeatState.inflight hr.bt).trans h.inflight, fun k hk => (hr.reg k hk).trans (h.reg k hk)⟩

theorem arrived {j : Job} (h : s.Received n t) : s.Received (n + 1) (t.arrived j) :=
  ⟨congrArg (· + 1) h.nextJob, h.nextReq, h.inflight, h.reg⟩

theorem receive (h : s.Received n t) : s.Received (n + 1) (t.receive src d desc input fr a) := by
  unfold State.receive
  extract_lets b j c depth t₁ t₂
  have h₁ : s.Received (n + 1) t₁ := h.arrived
  split
  · exact h₁.answerAt
  · exact .ite h₁ (.ite h₁.answerAt (.ite h₁.answerAt (.ite h₁.answerAt (.ite (h₁.updJob.raise (by decide) (by decide)) h₁.updJob))))

/-- A frame's descriptors are received one after another. -/
theorem receiveAll {fr : FrameRef} {area : Bytes} {l : List Bytes} {used : Nat} (h : s.Received n t) :
    s.Received (n + l.length) (t.receiveAll src d fr area l used) := by
  induction l generalizing t n used with
  | nil => exact h
  | cons b bs ih =>
    rw [List.length_cons, Nat.add_comm bs.length, ← Nat.add_assoc]
    exact ih h.receive

end State.Received

/-! ### The job of a descriptor received -/

/-- Of the jobs after a receipt, the one just received, as it then stands. -/
theorem State.exists_mem_arrived {j : Job} {f : Job → Job} {i : Nat} {P : Job → Prop} (hi : j.id = i) (hP : P (f j)) :
    ∃ x ∈ ((s.arrived j).updJob i f).bt.jobs, P x := by
  refine ⟨f j, List.mem_map.mpr ⟨j, ?_, if_pos hi⟩, hP⟩
  exact List.mem_append_right _ (List.mem_singleton.mpr rfl)

end Sys2Proof.Machine

/-! SUPPORT. Descriptors, frames and wait limits as commands, and a warden's writes of ADMIT_CTRL and the wait limits (R74, R254, R286, R288,
R589). -/

namespace Sys2Proof.Machine

variable {s t : State} {d : Deckle} {desc input : Bytes} {f : Fin 17} {q : Fin 8} {who : Sender} {v : Word}

/-! ### Descriptors of host queues -/

/-- What a host queue's descriptor may lie in: its function's data window. -/
def State.hostArea (s : State) (f : Fin 17) : Area := ⟨s.winSize f, false, true⟩

theorem exec_descriptorReceived : exec (.descriptorReceived (.host f q) d desc input) s =
    .next (s.receive (.host f q) (fnDeckle f) desc input none (s.hostArea f)) := rfl

/-- A fetched descriptor with nothing of its deckle in staging is received (R235). -/
theorem exec_hostDescriptorReceived (hi : (f.val, q.val) ∈ s.bt.inflight) (hs : s.staged (fnDeckle f) = 0) :
    exec (.hostDescriptorReceived f q desc input) s = .next
      ((s.mapBt fun b => { b with inflight := b.inflight.erase (f.val, q.val) }).receive (.host f q) (fnDeckle f) desc input none
        (s.hostArea f)) := by
  change execHostDescriptorReceived f q desc input s = _
  unfold execHostDescriptorReceived
  rw [if_pos (List.contains_iff_mem.mpr hi), if_neg fun h => h.2.2 hs]
  rfl

theorem descriptorReceived_malformed {r : Nat} (h : s.receiptFail (.host f q) (fnDeckle f) desc input (s.hostArea f) = some r) :
    Completes (.descriptorReceived (.host f q) d desc input) s fun t =>
      t.bt.nextJob = s.bt.nextJob + 1 ∧
      ∃ j ∈ t.bt.jobs, j.id = s.bt.nextJob ∧ j.stage = .answered ∧ j.cls = 2 ∧ j.reason = r ∧ j.due = some s.nextEdge := by
  refine ⟨_, exec_descriptorReceived, (State.Received.refl.receive).nextJob, ?_⟩
  rw [State.receive_malformed h]
  exact State.exists_mem_arrived rfl ⟨rfl, rfl, rfl, rfl, rfl⟩

section
variable (h : s.receiptFail (.host f q) (fnDeckle f) desc input (s.hostArea f) = none)
include h

theorem descriptorReceived_command (hc : (txnVerb (dVerb (padTo 64 desc)) || queuedCmd (dVerb (padTo 64 desc))) = false) :
    Completes (.descriptorReceived (.host f q) d desc input) s fun t =>
      ∃ j ∈ t.bt.jobs, j.id = s.bt.nextJob ∧ j.stage = .command ∧ j.ready = false := by
  refine ⟨_, exec_descriptorReceived, ?_⟩
  rw [State.receive_command h hc]
  exact ⟨_, List.mem_append_right _ (List.mem_singleton.mpr rfl), rfl, rfl, rfl⟩

variable (hc : (txnVerb (dVerb (padTo 64 desc)) || queuedCmd (dVerb (padTo 64 desc))) = true)
  (ho : s.scopeClosed (.host f q) (fnDeckle f) (dVerb (padTo 64 desc)) = false)
include hc ho

theorem descriptorReceived_full (hd : 8192 ≤ (s.waitingOf (fnDeckle f)).length) :
    Completes (.descriptorReceived (.host f q) d desc input) s fun t =>
      ∃ j ∈ t.bt.jobs, j.id = s.bt.nextJob ∧ j.stage = .answered ∧ j.cls = 3 ∧ j.reason = 0x0101 ∧ j.due = some s.nextEdge := by
  refine ⟨_, exec_descriptorReceived, ?_⟩
  rw [State.receive_full h hc ho hd]
  exact State.exists_mem_arrived rfl ⟨rfl, rfl, rfl, rfl, rfl⟩

theorem descriptorReceived_waits (hd : (s.waitingOf (fnDeckle f)).length < 8192) (hclosed : s.bt.closed = false) :
    Completes (.descriptorReceived (.host f q) d desc input) s fun t =>
      ∃ j ∈ t.bt.jobs, j.id = s.bt.nextJob ∧ j.stage = .waiting ∧ j.desc = padTo 64 desc ∧ j.eligible = s.openEdge := by
  refine ⟨_, exec_descriptorReceived, ?_⟩
  beta_reduce
  rw [State.receive_waiting h hc ho hd hclosed]
  exact State.exists_mem_arrived rfl ⟨rfl, rfl, padTo_padTo, rfl⟩

end

theorem hostDescriptorReceived_taken (hi : (f.val, q.val) ∈ s.bt.inflight) (hs : s.staged (fnDeckle f) = 0) :
    Completes (.hostDescriptorReceived f q desc input) s fun t =>
      t.bt.nextJob = s.bt.nextJob + 1 ∧ t.bt.inflight = s.bt.inflight.erase (f.val, q.val) :=
  have h := State.Received.refl.receive
  ⟨_, exec_hostDescriptorReceived hi hs, h.nextJob, h.inflight⟩

/-! ### Frames (R253 to R255, R775) -/

section
variable {port : Fin 64} {m : NetMeta} {p : Bytes} {e : Nat}

/-- A register of a network port is none that an event changes. -/
theorem not_eventReg_of_netw {k : Nat} (h : 0x101000000 ≤ k) : ¬ eventReg k := by
  simp only [eventReg, R.JOURNAL_EVFIFO]
  omega

theorem frameReceived_noRoute (h : s.routeOf port m = none) : Completes (.frameReceived port m p) s fun t =>
    t.reg (R.NETW_RX_NOROUTE port) = satInc (s.reg (R.NETW_RX_NOROUTE port)) ∧ t.bt = s.bt ∧ s.onlyRegs t [R.NETW_RX_NOROUTE port] := by
  have hx : s.frameIn port m p = s.bump (R.NETW_RX_NOROUTE port) := by
    unfold State.frameIn
    rw [h]
  refine ⟨_, congrArg Host.Outcome.next hx, ?_⟩
  obtain ⟨hreg, honly⟩ := State.setReg_onlyRegs (s := s) (k := R.NETW_RX_NOROUTE port) (v := satInc (s.reg (R.NETW_RX_NOROUTE port)))
  exact ⟨hreg, rfl, honly⟩

variable (h : s.routeOf port m = some e)
include h

theorem frameReceived_badHeader (hp : frameOk p = false) : Completes (.frameReceived port m p) s fun t =>
    t.reg (R.NETW_RX_FRAMEHDR port) = satInc (s.reg (R.NETW_RX_FRAMEHDR port)) ∧ t.pends 251 ∧ t.bt.jobs = s.bt.jobs := by
  have hx : s.frameIn port m p = (s.bump (R.NETW_RX_FRAMEHDR port)).raise 251 (portStop port) := by
    unfold State.frameIn
    rw [h]
    exact if_pos (by simp [hp])
  refine ⟨_, congrArg Host.Outcome.next hx, ?_, State.raise_pends (by decide) (by decide), State.raise_jobs⟩
  rw [(State.raise_eventsOnly (by decide) (by decide)).reg _ (not_eventReg_of_netw (by simp only [R.NETW_RX_FRAMEHDR]; omega))]
  exact State.reg_setReg_same _ _ _

theorem frameReceived_ok (hp : frameOk p = true) : Completes (.frameReceived port m p) s fun t =>
    t.bt.nextJob = s.bt.nextJob + byteAt p 4 ∧ t.bt.nextReq = s.bt.nextReq + 1 ∧
      t.reg64 (R.NETW_RX_OK_LO port) = (s.reg64 (R.NETW_RX_OK_LO port) + 1) % 2 ^ 64 := by
  let n := byteAt p 4
  let u := (s.mapBt fun b => { b with nextReq := b.nextReq + 1 }).bump64 (R.NETW_RX_OK_LO port) 1
  have hx : s.frameIn port m p = u.receiveAll (.net port m.sip m.sudp (leAt p 8 4)) e ⟨leAt p 0x0C 4, m, s.bt.nextReq⟩
      (p.drop (32 + 64 * n)) ((List.range n).map fun i => slice p (32 + 64 * i) 64) (32 + 32 * n) := by
    unfold State.frameIn
    rw [h]
    exact if_neg (by simp [hp])
  refine ⟨_, congrArg Host.Outcome.next hx, ?_⟩
  have hr := State.Received.refl.receiveAll (t := u) (src := .net port m.sip m.sudp (leAt p 8 4)) (d := e)
    (fr := ⟨leAt p 0x0C 4, m, s.bt.nextReq⟩) (area := p.drop (32 + 64 * n))
    (l := (List.range n).map fun i => slice p (32 + 64 * i) 64) (used := 32 + 32 * n)
  rw [List.length_map, List.length_range, Nat.zero_add] at hr
  refine ⟨hr.nextJob, hr.nextReq, ?_⟩
  rw [State.reg64, hr.reg _ (not_eventReg_of_netw (by simp only [R.NETW_RX_OK_LO]; omega)),
    hr.reg _ (not_eventReg_of_netw (by simp only [R.NETW_RX_OK_LO]; omega))]
  exact State.reg64_setReg64

end

/-! ### Wait limits (R74) -/

theorem waitLimitExpiry_busy {i : Nat} {j : Job} (hj : s.job? i = some j) (hc : s.bt.closed = true) (hw : s.waitOver j s.nextEdge = true) :
    Completes (.waitLimitExpiry i) s fun t =>
      (t.job? i).map (fun x => (x.stage, x.cls, x.due)) = some (.answered, 3, some s.nextEdge) := by
  have hx : execWaitLimitExpiry i s = .next (s.waitExpire j s.nextEdge) := by
    unfold execWaitLimitExpiry
    rw [hj]
    exact congrArg _ (if_pos ⟨hc, hw⟩)
  refine ⟨_, hx, ?_⟩
  obtain rfl := State.id_of_job? hj
  have h : (s.waitExpire j s.nextEdge).JobIs j.id fun x => x.stage = .answered ∧ x.cls = 3 ∧ x.due = some s.nextEdge :=
    State.JobIs.answerAt_self (State.JobIs.of_job? hj trivial : s.JobIs j.id fun _ => True) fun _ _ => ⟨rfl, rfl, rfl⟩
  exact State.map_job?_of_jobIs h fun x ⟨hs, hcls, hdue⟩ => by rw [hs, hcls, hdue]

/-! ### ADMIT_CTRL and the wait limits (R286, R288) -/

/-- The row of ADMIT_CTRL. -/
def admitCtrlRow : RegRow := { key := 0x100100000, rw := 0x1, rwl := 0x80000000, lock := some (0x100100000, 31) }

/-- OPEN takes the written value, locked or not. -/
theorem State.plainWrite_admitCtrl : (s.plainWrite who R.ADMIT_CTRL v admitCtrlRow).regBit R.ADMIT_CTRL 0 = bit v 0 := by
  have hg {u : State} {w : Word} : u.guardGroups R.ADMIT_CTRL w = [] := rfl
  have hr {u : State} {w : Word} : u.rangeOf R.ADMIT_CTRL v w = .ok := rfl
  have ha {u : State} {old : Word} : u.afterWrite who R.ADMIT_CTRL old v = u := rfl
  have hm : writeMasks R.ADMIT_CTRL admitCtrlRow = (1#32, 0x80000000#32) := rfl
  unfold State.plainWrite
  simp only [hg, hr, ha, hm, if_neg (show R.ADMIT_CTRL ≠ R.SPRING_CTRL by decide), List.any_nil, Bool.false_eq_true, if_false, ite_self,
    List.foldl_nil]
  rw [State.regBit, State.reg_setReg_same, show w32 admitCtrlRow.w1c = 0#32 from rfl]
  split <;> simp [bit]

theorem State.wr_admitCtrl (h : s.wardenAt who .store R.ADMIT_CTRL) : s.wr who R.ADMIT_CTRL v = s.admitCtrl who v admitCtrlRow :=
  State.wr_control (r := admitCtrlRow) h rfl (by decide) (by decide) (by decide)

theorem admitOpenWrite_taken (h : s.wardenAt who .store R.ADMIT_CTRL) (hr : s.springRaw = false) :
    Completes (.admitOpenWrite who v) s fun t => t.regBit R.ADMIT_CTRL 0 = bit v 0 := by
  refine ⟨_, congrArg Host.Outcome.next (State.wr_admitCtrl h), ?_⟩
  rw [State.admitCtrl, if_neg (by simp [hr])]
  exact State.plainWrite_admitCtrl

theorem admitOpenWrite_ignored (h : s.wardenAt who .store R.ADMIT_CTRL) (hr : s.springRaw = true) (hv : bit v 0 = true) :
    Completes (.admitOpenWrite who v) s fun t => t.regBit R.ADMIT_CTRL 0 = s.regBit R.ADMIT_CTRL 0 := by
  refine ⟨_, congrArg Host.Outcome.next (State.wr_admitCtrl h), ?_⟩
  beta_reduce
  rw [State.admitCtrl, if_pos ⟨hv, hr⟩, State.plainWrite_admitCtrl, bit_setBit (by decide), if_pos rfl]

/-- A register of ADMIT from the wait limits on, or of HOSTIF. -/
def queueReg (k : Nat) : Prop := (0x100100100 ≤ k ∧ k < 0x100200000) ∨ (0x101100000 ≤ k ∧ k < 0x101200000)

section
variable {k : Nat} (hk : queueReg k)
include hk

/-- A queue's register is none of the arrays whose writes have rules of their own. -/
theorem arrIx_queueReg {base stride n : Nat} (h : (0x100200000 ≤ base ∧ base + stride * n ≤ 0x101100000) ∨ 0x101200000 ≤ base) :
    arrIx k base stride n = none := by
  unfold queueReg at hk
  exact if_neg (by omega)

theorem writeMasks_queueReg {r : RegRow} : writeMasks k r = (w32 r.rw, w32 r.rwl) := by
  have hk' := hk
  unfold queueReg at hk'
  unfold writeMasks
  dsimp only
  rw [if_neg (by simp only [R.TAMPER_CTRL]; omega), if_neg (by simp only [R.TAMPER_SRC_CFG]; omega), if_neg (by omega),
    arrIx_queueReg hk (by decide)]

theorem State.guardGroups_queueReg {w : Word} : s.guardGroups k w = [] := by
  have hk' := hk
  unfold queueReg at hk'
  unfold State.guardGroups
  dsimp only
  rw [if_neg (by simp only [R.MOULD_CTRL]; omega), if_neg (by simp only [R.RESET_CTRL]; omega),
    if_neg (by simp only [R.SPRING_CTRL]; omega), if_neg (by simp only [R.PMU_PWR_LIMIT]; omega),
    arrIx_queueReg hk (by decide)]
  rfl

theorem State.afterWrite_queueReg {old w : Word} : s.afterWrite who k old w = s := by
  unfold queueReg at hk
  unfold State.afterWrite
  rw [if_neg (by simp only [R.BEAT_CTRL]; omega), if_neg (by simp only [R.SPRING_CTRL]; omega),
    if_neg (by simp only [R.PMU_PWR_LIMIT, R.PMU_CTRL]; omega), if_neg (by simp only [R.MGMT_UART_CTRL]; omega),
    if_neg (by simp only [R.CLESS_CTRL]; omega)]

/-- No write of a queue's register is a command of its own (R11). -/
theorem State.commandWrite_queueReg {r : RegRow} : s.commandWrite who k v r = none := by
  have hk' := hk
  unfold queueReg at hk'
  unfold State.commandWrite
  iterate 13
    rw [if_neg (by
      simp only [R.ADMIT_CTRL, R.SPRING_CMD, R.TAMPER_ACK, R.RESET_CMD, R.WMARK_ADVANCE, R.WMARK_EXTEND, R.EVT_DOORBELL, R.EVT_WDOG_KICK,
        R.EVT_TRACE_PUT, R.ERRC_Q_POP, R.MGMT_UART_DATA, R.CLESS_CMD, R.QUORUM_GUARD]
      omega)]
  rw [arrIx_queueReg hk (by decide), arrIx_queueReg hk (by decide), arrIx_queueReg hk (by decide)]

/-- A write in range puts the written bits of the row's unlocked masks in the register, and no more (R11). -/
theorem State.plainWrite_queueReg {r : RegRow} {w : Word} (hl : s.rowLocked k r = false) (hc : r.w1c = 0)
    (hw : (s.reg k &&& ~~~(w32 r.rw ||| w32 r.rwl)) ||| (v &&& (w32 r.rw ||| w32 r.rwl)) = w) (hr : s.rangeOf k v w = .ok) :
    s.plainWrite who k v r = s.setReg k w := by
  have hne : k ≠ R.SPRING_CTRL := by
    unfold queueReg at hk
    simp only [R.SPRING_CTRL]
    omega
  rw [State.plainWrite_ok hne hl (by rw [writeMasks_queueReg hk]; exact hw) (State.guardGroups_queueReg hk) hr, State.afterWrite_queueReg hk,
    hc, show w32 0 = 0#32 from rfl, BitVec.and_zero, BitVec.not_zero, BitVec.and_allOnes]

end

/-- The row of the wait limits. -/
def waitLimitRow : RegRow := { key := 0x100100100, dims := [(0x20, 16)], rwl := 0xfff, lock := some (0x100100000, 31) }

theorem regRow?_waitLimit : ∀ d : Deckle, regRow? (R.ADMIT_WAIT_LIMIT d) = some waitLimitRow := by decide +kernel

theorem queueReg_waitLimit : queueReg (R.ADMIT_WAIT_LIMIT d) := .inl (by simp only [R.ADMIT_WAIT_LIMIT]; omega)

theorem State.rangeOf_waitLimit {w : Word} (h₀ : 1 ≤ w.toNat) (h₁ : w.toNat ≤ 4095) : s.rangeOf (R.ADMIT_WAIT_LIMIT d) v w = .ok := by
  have hd := d.isLt
  have hix : arrIx (R.ADMIT_WAIT_LIMIT d) (R.ADMIT_WAIT_LIMIT 0) 0x20 16 = some d.val := by
    unfold arrIx
    simp only [R.ADMIT_WAIT_LIMIT]
    rw [if_pos (by omega)]
    congr 1
    omega
  unfold State.rangeOf State.rangeLow
  rw [if_neg (by simp only [R.ADMIT_WAIT_LIMIT]; omega), if_pos (by simp only [R.ADMIT_WAIT_LIMIT]; omega),
    if_neg (by simp only [R.ADMIT_WAIT_LIMIT, R.BEAT_CTRL]; omega), if_neg (by simp only [R.ADMIT_WAIT_LIMIT, R.BEAT_PERIOD]; omega),
    if_neg (by simp only [R.ADMIT_WAIT_LIMIT, R.JOURNAL_CTRL]; omega), if_neg (by simp only [R.ADMIT_WAIT_LIMIT, R.KEYS_CTRL]; omega), hix]
  simp [inRangeIf, between, h₀, h₁]

theorem toNat_and_low {w : Word} : (w &&& 0xFFF : Word).toNat = field w 11 0 := by
  rw [BitVec.toNat_and, show (0xFFF : Word).toNat = 2 ^ 12 - 1 from rfl, Nat.and_two_pow_sub_one_eq_mod]
  simp [field]

/-- An unlocked wait limit takes the low bits of the written value, which are not zero. -/
theorem State.plainWrite_waitLimit (hl : s.regBit R.ADMIT_CTRL 31 = false) (h₀ : s.reg (R.ADMIT_WAIT_LIMIT d) &&& 0xFFFFF000 = 0)
    (h₁ : 1 ≤ field v 11 0) :
    s.plainWrite who (R.ADMIT_WAIT_LIMIT d) v waitLimitRow = s.setReg (R.ADMIT_WAIT_LIMIT d) (v &&& 0xFFF) := by
  have hlock : s.rowLocked (R.ADMIT_WAIT_LIMIT d) waitLimitRow = false := by
    simp only [State.rowLocked, waitLimitRow]
    rw [if_neg (by simp only [R.ADMIT_WAIT_LIMIT]; omega)]
    exact hl
  have hlt : field v 11 0 < 2 ^ 12 := Nat.mod_lt _ (by decide)
  refine State.plainWrite_queueReg queueReg_waitLimit hlock rfl ?_ (State.rangeOf_waitLimit ?_ ?_)
  · change s.reg (R.ADMIT_WAIT_LIMIT d) &&& 0xFFFFF000 ||| v &&& 0xFFF = _
    rw [h₀]
    exact BitVec.zero_or
  · rwa [toNat_and_low]
  · rw [toNat_and_low]
    omega

theorem State.wr_waitLimit (h : s.wardenAt who .store (R.ADMIT_WAIT_LIMIT d)) :
    s.wr who (R.ADMIT_WAIT_LIMIT d) v = s.plainWrite who (R.ADMIT_WAIT_LIMIT d) v waitLimitRow := by
  have hd := d.isLt
  rw [State.wr_control h (regRow?_waitLimit d), State.commandWrite_queueReg queueReg_waitLimit, Option.getD_none] <;>
    simp only [R.ADMIT_WAIT_LIMIT] <;> omega

theorem admitWaitLimitWrite_taken (h : s.wardenAt who .store (R.ADMIT_WAIT_LIMIT d)) (hl : s.regBit R.ADMIT_CTRL 31 = false)
    (h₀ : s.reg (R.ADMIT_WAIT_LIMIT d) &&& 0xFFFFF000 = 0) (h₁ : 1 ≤ field v 11 0) :
    Completes (.admitWaitLimitWrite who d v) s fun t =>
      t.reg (R.ADMIT_WAIT_LIMIT d) = v &&& 0xFFF ∧ s.onlyRegs t [R.ADMIT_WAIT_LIMIT d] := by
  refine ⟨_, congrArg Host.Outcome.next ((State.wr_waitLimit h).trans (State.plainWrite_waitLimit hl h₀ h₁)), ?_⟩
  exact State.setReg_onlyRegs

end Sys2Proof.Machine

namespace Sys2Proof
open Machine

/-- Settles O37: a receipt takes the branch that its checks, its scope and the deckle's depth give, and the job it adds stands in the list as
that branch leaves it; a frame's receipts leave the port's counters and the request number, which are counted before. -/
theorem descriptorsReceived : Obligations.DescriptorsReceived := by
  intro s f q d desc input who v b k c fails
  refine ⟨fun r h => descriptorReceived_malformed h, fun h hc ho => ⟨descriptorReceived_full h hc ho, descriptorReceived_waits h hc ho⟩,
    fun h hc => descriptorReceived_command h hc, hostDescriptorReceived_taken, fun port m p => ⟨frameReceived_noRoute,
    fun e => frameReceived_badHeader, fun e => frameReceived_ok⟩, fun i j => waitLimitExpiry_busy, fun h => ⟨admitOpenWrite_taken h,
    admitOpenWrite_ignored h⟩, admitWaitLimitWrite_taken⟩

end Sys2Proof

/-! SUPPORT. Jobs answered, marked and ended by CANCEL, ABORT and DRAIN (R261 to R269, R276). -/

namespace Sys2Proof.Machine

variable {s t : State} {i k e cls reason : Nat} {x : Job} {P : Job → Prop} {pick : Job → Bool}

/-! ### Answers without placement -/

/-- A job that is answered without placement, with this class and reason, at edge `e`. -/
def Job.AnsweredAs (cls reason e : Nat) (j : Job) : Prop :=
  j.stage = .answered ∧ j.ready = true ∧ j.cls = cls ∧ j.reason = reason ∧ j.due = some e

/-- A fold that answers jobs, whatever it does beside their list, answers each of its jobs. -/
theorem State.foldl_answered {l : List Job} {f : State → Job → State} (hf : ∀ u j, (f u j).bt.jobs = (u.answerAt j cls reason e).bt.jobs)
    (hx : x ∈ l) (h : s.JobIs x.id fun _ => True) : (l.foldl f s).JobIs x.id (Job.AnsweredAs cls reason e) :=
  foldl_of_mem (M := fun u : State => u.JobIs x.id fun _ => True) (N := fun u : State => u.JobIs x.id (Job.AnsweredAs cls reason e)) h hx
    (fun _ j _ hu => (hu.answerAt fun _ _ => trivial).of_jobs (hf _ j))
    (fun _ hu => (hu.answerAt_self fun _ _ => ⟨rfl, rfl, rfl, rfl, rfl⟩).of_jobs (hf _ x))
    (fun _ j _ hu => (hu.answerAt fun _ _ => ⟨rfl, rfl, rfl, rfl, rfl⟩).of_jobs (hf _ j))

/-- A property that an answer keeps. -/
theorem State.JobIs.foldl_answerAt {l : List Job} {f : State → Job → State} (h : s.JobIs k P)
    (hf : ∀ u j, (f u j).bt.jobs = (u.answerAt j cls reason e).bt.jobs)
    (hP : ∀ j : Job, P j → P { j with
      stage := .answered, ready := true, cls, reason, result := [], output := [], due := some e, lines := 0 }) :
    (l.foldl f s).JobIs k P :=
  h.foldl fun _ j hu => (hu.answerAt hP).of_jobs (hf _ j)

/-! ### CANCEL (R261 to R265) -/

/-- CANCEL's mark on a job, counted (R263). -/
def State.markJob (s : State) (j : Job) : State :=
  (s.updJob j.id fun y => { y with marked := true }).bump (R.ADMIT_CANCELLED (j.deckle % 16))

theorem State.JobIs.markJob {j : Job} (h : s.JobIs k P) (hP : ∀ y : Job, P y → P { y with marked := true }) : (s.markJob j).JobIs k P := by
  refine .of_jobs (s := s.updJob j.id _) ?_ rfl
  exact h.updJob (fun _ => rfl) hP

theorem State.JobIs.markJob_self {j : Job} (h : s.JobIs j.id P) : (s.markJob j).JobIs j.id (·.marked = true) := by
  refine .of_jobs (s := s.updJob j.id _) ?_ rfl
  exact h.updJob_self (fun _ => rfl) fun _ _ => rfl

section
variable (hj : s.job? k = some x) (hp : pick x = true) (hr : s.reachable x = true)
include hj hp hr

/-- What is picked before admission is answered CANCELLED. -/
theorem State.cancelJobs_answered (hv : x.onVat = none) : (s.cancelJobs pick e).1.JobIs k (Job.AnsweredAs 5 0x0301 e) := by
  obtain rfl := State.id_of_job? hj
  unfold State.cancelJobs
  extract_lets hit out on s₁ s₂
  have hx : x ∈ out := List.mem_filter.mpr ⟨List.mem_filter.mpr ⟨State.mem_of_job? hj, by simp [hp, hr]⟩, by simp [hv]⟩
  have h₁ : s₁.JobIs x.id (Job.AnsweredAs 5 0x0301 e) := State.foldl_answered (fun _ _ => rfl) hx (.of_job? hj trivial)
  exact h₁.foldl fun _ j hu => hu.markJob fun _ h => h

/-- What is picked after admission is marked, unless an ABORT has ended it. -/
theorem State.cancelJobs_marked (hv : x.onVat.isSome) (hc : x.cls ≠ 4) : (s.cancelJobs pick e).1.JobIs k (·.marked = true) := by
  obtain rfl := State.id_of_job? hj
  unfold State.cancelJobs
  extract_lets hit out on s₁ s₂
  by_cases hm : x.marked = true
  · have h₁ : s₁.JobIs x.id (·.marked = true) :=
      State.JobIs.foldl_answerAt (.of_job? hj hm) (fun _ _ => rfl) fun _ h => h
    exact h₁.foldl fun _ j hu => hu.markJob fun _ _ => rfl
  · have hx : x ∈ on := List.mem_filter.mpr ⟨List.mem_filter.mpr ⟨State.mem_of_job? hj, by simp [hp, hr]⟩, by simp [hv, hm, hc]⟩
    have h₁ : s₁.JobIs x.id fun _ => True := State.JobIs.foldl_answerAt (.of_job? hj trivial) (fun _ _ => rfl) fun _ h => h
    exact foldl_of_mem (M := fun u : State => u.JobIs x.id fun _ => True) (N := fun u : State => u.JobIs x.id (·.marked = true)) h₁ hx
      (fun _ j _ hu => hu.markJob fun _ h => h) (fun _ hu => hu.markJob_self) fun _ j _ hu => hu.markJob fun _ _ => rfl

end

/-- CANCEL counts what it removes, and changes no register of another block. -/
theorem State.cancelJobs_reg {a : Nat} (ha : 0x100200000 ≤ a) : (s.cancelJobs pick e).1.reg a = s.reg a := by
  have hne {j : Job} : a ≠ R.ADMIT_CANCELLED (j.deckle % 16) := by
    simp only [R.ADMIT_CANCELLED]
    omega
  unfold State.cancelJobs
  extract_lets hit out on s₁ s₂
  have h₁ : s₁.reg a = s.reg a :=
    List.foldlRecOn out _ (motive := fun u : State => u.reg a = s.reg a) rfl fun _ hu _ _ => (State.reg_setReg_other _ _ hne).trans hu
  exact List.foldlRecOn on _ (motive := fun u : State => u.reg a = s.reg a) h₁ fun _ hu _ _ => (State.reg_setReg_other _ _ hne).trans hu

/-! ### The use of a key by a job that its vat never ran (R130, R271) -/

/-- A property of jobs that the keys and counter of a use have no part in. -/
def KeyBlind (P : Job → Prop) : Prop := ∀ (j : Job) keyA keyB counter, P j → P { j with keyA, keyB, counter }

theorem State.JobIs.ite {c : Prop} {_ : Decidable c} (hs : s.JobIs k P) (ht : t.JobIs k P) : (if c then s else t).JobIs k P := by
  split <;> assumption

section
variable (hP : KeyBlind P)
include hP

theorem State.JobIs.ksnAccept {w : Work} {r : KeyRec} {ksn : Bytes} (h : s.JobIs k P) : (s.ksnAccept w r ksn).JobIs k P :=
  .ite ((h.of_jobs State.writeCounter_jobs).updJob (fun _ => rfl) fun j hj => hP j j.keyA j.keyB _ hj) h

theorem State.JobIs.lateCounter {w : Work} (h : s.JobIs k P) : (s.lateCounter w).JobIs k P := by
  have hk {c : Prop} {_ : Decidable c} {r : KeyRec} {ksn : Bytes} : (if c then s.ksnAccept w r ksn else s).JobIs k P := .ite (h.ksnAccept hP) h
  unfold State.lateCounter
  dsimp only
  split <;> [exact hk; exact hk; exact hk; exact hk; skip; exact h]
  exact .ite ((h.of_jobs State.writeCounter_jobs).updJob (fun _ => rfl) fun j hj => hP j j.keyA j.keyB _ hj) h

theorem State.JobIs.lateUse {j : Job} (h : s.JobIs k P) : (s.lateUse j).JobIs k P := by
  unfold State.lateUse
  split
  · refine State.JobIs.lateCounter hP ?_
    unfold State.lateKeys
    exact .ite (h.updJob (fun _ => rfl) fun y hy => hP y _ _ y.counter hy) h
  · exact h

end

theorem State.lateUse_regs {j : Job} : (s.lateUse j).regs = s.regs := by
  have hk {u : State} {c : Prop} {_ : Decidable c} {w : Work} {r : KeyRec} {ksn : Bytes} :
      (if c then u.ksnAccept w r ksn else u).regs = u.regs := by
    split
    · unfold State.ksnAccept
      split <;> rfl
    · rfl
  unfold State.lateUse
  split
  · have hl {u : State} {w : Work} : (u.lateCounter w).regs = u.regs := by
      unfold State.lateCounter
      dsimp only
      split <;> [exact hk; exact hk; exact hk; exact hk; (split <;> rfl); rfl]
    rw [hl]
    unfold State.lateKeys
    dsimp only
    split <;> rfl
  · rfl

/-! ### ABORT (R267 to R270) -/

/-- A job that is on no vat until a close places it. -/
def Job.Unplaced (j : Job) : Prop := ∀ v e, j.stage ≠ .placed v e

/-- A job that an ABORT ends, to be released at edge `e`. -/
def Job.EndedAt (e : Nat) (j : Job) : Prop := j.ready = true ∧ j.cls = 4 ∧ j.due = some e ∧ j.Unplaced

/-- An admitted job is not one that waits for its edge. -/
theorem Job.unplaced_of_onVat {j : Job} (h : j.onVat.isSome) : j.Unplaced := by
  intro v e hs
  simp [Job.onVat, hs] at h

theorem State.touchVat_jobs {v back : Nat} : (s.touchVat v back).bt.jobs = s.bt.jobs := by
  unfold State.touchVat
  dsimp only
  split <;> rfl

/-- A touched vat leaves admission, and its engine shows that it was stopped; no other register changes. -/
theorem State.touchVat_reg {v back a : Nat} (h₁ : a ≠ R.PKE_STATUS v) (h₂ : a ≠ R.BEAT_ADMIT_LO + 4 * (v / 32)) :
    (s.touchVat v back).reg a = s.reg a := by
  have h : ((s.pkeStop v).wipeWindow v).reg a = s.reg a :=
    (State.reg_setReg_other _ _ h₁).trans (State.reg_setReg_other _ _ h₁)
  unfold State.touchVat
  extract_lets u
  split
  · exact (State.reg_setReg_other _ _ h₂).trans h
  · exact h

/-- A touched vat is out of admission. -/
theorem State.touchVat_inAdmission {v back : Nat} : (s.touchVat v back).inAdmission v = false := by
  unfold State.touchVat
  extract_lets u
  clear_value u
  split
  · exact State.maskBit_setMaskBit_same (s := u)
  next h => exact Bool.eq_false_iff.mpr h

theorem State.maskBit_setMaskBit_false {lo u v : Nat} (h : s.maskBit lo v = false) : (s.setMaskBit lo u false).maskBit lo v = false := by
  by_cases hk : lo + 4 * (v / 32) = lo + 4 * (u / 32)
  · rw [State.maskBit, hk, State.setMaskBit, State.regBit_setRegBit (by omega)]
    split
    · rfl
    · exact hk ▸ h
  · exact (State.regBit_eq_of_reg (State.reg_setReg_other _ _ hk)).trans h

theorem State.touchVat_inAdmission_other {u v back : Nat} (hv : v < 64) (h : s.inAdmission v = false) :
    (s.touchVat u back).inAdmission v = false := by
  have hne : R.BEAT_ADMIT_LO + 4 * (v / 32) ≠ R.PKE_STATUS u := by
    simp only [R.BEAT_ADMIT_LO, R.PKE_STATUS]
    omega
  have hs : ((s.pkeStop u).wipeWindow u).maskBit R.BEAT_ADMIT_LO v = false :=
    (State.maskBit_eq_of_reg ((State.reg_setReg_other _ _ hne).trans (State.reg_setReg_other _ _ hne))).trans h
  unfold State.touchVat
  extract_lets w
  have hw : w.maskBit R.BEAT_ADMIT_LO v = false := hs
  clear_value w
  split
  · change (w.setMaskBit R.BEAT_ADMIT_LO u false).maskBit R.BEAT_ADMIT_LO v = false
    exact State.maskBit_setMaskBit_false hw
  · exact hw

/-- Only a job that is placed goes back to waiting. -/
theorem State.JobIs.unplace {v : Nat} (h : s.JobIs k (Job.EndedAt e)) : (s.unplace v).JobIs k (Job.EndedAt e) := by
  refine h.of_map rfl (fun j => ?_) fun j hj => ?_
  · split
    · split <;> rfl
    · rfl
  · split
    next hs => exact absurd hs (hj.2.2.2 _ _)
    next => exact hj

theorem keyBlind_endedAt : KeyBlind (Job.EndedAt e) := fun _ _ _ _ h => h
theorem keyBlind_unplaced : KeyBlind Job.Unplaced := fun _ _ _ _ h => h

/-- The end that an ABORT gives to a job that a vat holds (R268, R271). -/
def State.endHeld (s : State) (j : Job) (reason e : Nat) : State :=
  (s.lateUse j).updJob j.id fun x => { x with ready := true, cls := clsAborted, reason := reason, result := [], output := [], due := some e }

theorem State.JobIs.endHeld {j : Job} (h : s.JobIs k (Job.EndedAt e)) : (s.endHeld j reason e).JobIs k (Job.EndedAt e) :=
  (h.lateUse keyBlind_endedAt).updJob (fun _ => rfl) fun _ hy => ⟨rfl, rfl, rfl, hy.2.2.2⟩

theorem State.JobIs.endHeld_unplaced {j : Job} (h : s.JobIs k Job.Unplaced) : (s.endHeld j reason e).JobIs k Job.Unplaced :=
  (h.lateUse keyBlind_unplaced).updJob (fun _ => rfl) fun _ hy => hy

theorem State.JobIs.endHeld_self {j : Job} (h : s.JobIs j.id Job.Unplaced) : (s.endHeld j reason e).JobIs j.id (Job.EndedAt e) :=
  (h.lateUse keyBlind_unplaced).updJob_self (fun _ => rfl) fun _ hy => ⟨rfl, rfl, rfl, hy⟩

/-- Edge e0 of an ABORT: the first later than 2 µs after its receipt, or after the edge of a DRAIN's limit (R267, R278). -/
def State.abortEdge (s : State) (drain : Option Nat) : Nat := s.edgeAfter ((if drain.isSome then s.bt.edgeAt else s.now) + 2000)

/-- From `s` to `u` an ABORT has ended the jobs that `pick` selects, to be released at edge `e`, and stopped the vats that hold one: these
have left admission (R267 to R270). Registers beyond admission's and the engines' are as before. -/
structure State.Stopped (s : State) (pick : Job → Bool) (e : Nat) (u : State) : Prop where
  ended : ∀ k x, s.job? k = some x → s.reachable x = true → (x.ready && x.cls == 4) = false → pick x = true → u.JobIs k (Job.EndedAt e)
  left : ∀ k x v b, s.job? k = some x → s.reachable x = true → (x.ready && x.cls == 4) = false → pick x = true → x.onVat = some (v, b) →
    v < 64 → u.inAdmission v = false
  reg : ∀ a, 0x100100000 ≤ a → a < 0x1000000000 → u.reg a = s.reg a

/-- An ABORT that stops no replay run ends its jobs and is noted; unless it is a DRAIN's it shows in ADMIT_STATUS (R272). -/
theorem State.abortJobs_facts {job d : Nat} {all : List Nat} {drain : Option Nat} (hall : all = [] ∨ drain.isSome) :
    ∃ u : State, ∃ a : Abort, s.Stopped pick (s.abortEdge drain + 1) u ∧ a.drain = drain ∧
      s.abortJobs job d pick all drain =
        let n := u.mapBt fun b => { b with aborts := b.aborts ++ [a] }
        if drain.isSome then n else (n.setRegBit R.ADMIT_STATUS 2 true).setReg R.ADMIT_ABORT_EDGE (w32 (s.abortEdge drain)) := by
  unfold State.abortJobs
  extract_lets e₀ live target vats side fate ends s₁ held s₂ s₃ s₄ s₅
  have htarget {x : Job} (hx : x ∈ s.bt.jobs) (hr : s.reachable x = true) (hc : (x.ready && x.cls == 4) = false) (hp : pick x = true) :
      x ∈ target :=
    List.mem_filter.mpr ⟨List.mem_filter.mpr ⟨hx, by simp [hr, hc]⟩, hp⟩
  have hvat {v : Nat} (hv : v ∈ vats) : v < 64 := List.mem_range.mp (List.mem_of_mem_filter hv)
  refine ⟨s₃, { job, deckle := d, e0 := e₀, vats, targets := target.length, collateral := side.length, ends, drain },
    ⟨fun k x hj hr hc hp => ?_, fun k x v b hj hr hc hp hv hlt => ?_, fun a h₀ h₁ => ?_⟩, ?_, ?_⟩
  · obtain rfl := State.id_of_job? hj
    have hx := htarget (State.mem_of_job? hj) hr hc hp
    have h₂ : s₂.JobIs x.id (Job.EndedAt (e₀ + 1)) := by
      by_cases hv : x.onVat.isSome
      · have h₁ : s₁.JobIs x.id Job.Unplaced :=
          State.JobIs.foldl_answerAt (.of_job? hj (Job.unplaced_of_onVat hv)) (fun _ _ => rfl) fun _ _ _ _ => nofun
        refine foldl_of_mem (M := fun u : State => u.JobIs x.id Job.Unplaced) (N := fun u : State => u.JobIs x.id (Job.EndedAt (e₀ + 1)))
          h₁ (x := x) ?_ (fun _ _ _ hu => hu.endHeld_unplaced) (fun _ hu => hu.endHeld_self) fun _ _ _ hu => hu.endHeld
        exact List.mem_append_left _ (List.mem_filter.mpr ⟨hx, hv⟩)
      · have h₁ : s₁.JobIs x.id (Job.EndedAt (e₀ + 1)) := by
          refine State.JobIs.mono (State.foldl_answered (fun _ _ => rfl) (List.mem_filter.mpr ⟨hx, ?_⟩) (.of_job? hj trivial))
            fun y ⟨hs, hy⟩ => ?_
          · simpa using hv
          · exact ⟨hy.1, hy.2.1, hy.2.2.2, by simp [Job.Unplaced, hs]⟩
        exact h₁.foldl fun _ _ hu => hu.endHeld
    exact h₂.foldl fun u v hu => (hu.of_jobs State.touchVat_jobs).unplace
  · have hmem : v ∈ vats := by
      refine List.mem_filter.mpr ⟨List.mem_range.mpr hlt, ?_⟩
      have hx := htarget (State.mem_of_job? hj) hr hc hp
      simp only [Bool.or_eq_true, List.any_eq_true]
      exact .inr ⟨x, hx, by simp [hv]⟩
    exact foldl_of_mem (M := fun _ : State => True) (N := fun u : State => u.inAdmission v = false) trivial hmem (fun _ _ _ _ => trivial)
      (fun _ _ => State.touchVat_inAdmission) fun _ _ _ hu => State.touchVat_inAdmission_other hlt hu
  · have h₁' : s₁.reg a = s.reg a := List.foldlRecOn _ _ (motive := fun u : State => u.reg a = s.reg a) rfl fun _ hu _ _ => hu
    have h₂ : s₂.reg a = s.reg a :=
      List.foldlRecOn _ _ (motive := fun u : State => u.reg a = s.reg a) h₁' fun _ hu _ _ =>
        (congrArg (spGet regReset · a) State.lateUse_regs).trans hu
    refine List.foldlRecOn _ _ (motive := fun u : State => u.reg a = s.reg a) h₂ fun u hu v hv => ?_
    have := hvat hv
    refine (State.touchVat_reg ?_ ?_).trans hu
    · simp only [R.PKE_STATUS]
      omega
    · simp only [R.BEAT_ADMIT_LO]
      omega
  · rfl
  · dsimp only
    rcases hall with rfl | h
    · rfl
    · rw [if_pos h, if_pos h]

end Sys2Proof.Machine

/-! SUPPORT. What a release, a fetch and a RESUME leave as it is: pending events and the ABORTs under way (R85, R234, R270, R277, R279). -/

namespace Sys2Proof.Machine

variable {s t u : State} {j : Job} {r : Rel} {f q k n : Nat}

/-- The event controller's registers lie above those of admission and the couch. -/
theorem not_eventReg_low (h : k < 0x100300000) : ¬ eventReg k := by
  simp only [eventReg, R.JOURNAL_EVFIFO]
  omega

/-- From `s` to `t` what was pending has stayed pending, and the same ABORTs are under way. -/
structure State.KeepsEvents (s t : State) : Prop where
  pend : ∀ n < 640, s.pends n → t.pends n
  aborts : t.bt.aborts = s.bt.aborts

namespace State.KeepsEvents

theorem refl : s.KeepsEvents s := ⟨fun _ _ h => h, rfl⟩

theorem trans (h₁ : s.KeepsEvents t) (h₂ : t.KeepsEvents u) : s.KeepsEvents u :=
  ⟨fun n hn h => h₂.pend n hn (h₁.pend n hn h), h₂.aborts.trans h₁.aborts⟩

theorem ite {c : Prop} {_ : Decidable c} (ht : s.KeepsEvents t) (hu : s.KeepsEvents u) : s.KeepsEvents (if c then t else u) := by
  split <;> assumption

theorem foldl {α : Type} {l : List α} {g : State → α → State} (h : s.KeepsEvents t)
    (hg : ∀ u a, a ∈ l → s.KeepsEvents u → s.KeepsEvents (g u a)) :
    s.KeepsEvents (l.foldl g t) :=
  List.foldlRecOn l g (motive := s.KeepsEvents) h fun u hu a ha => hg u a ha hu

/-- A change that is neither of registers nor of the ABORTs. -/
theorem of_regs (h : s.KeepsEvents t) (hr : u.regs = t.regs) (ha : u.bt.aborts = t.bt.aborts) : s.KeepsEvents u := by
  have hp : ∀ n, u.pends n ↔ t.pends n := fun n => by
    simp only [State.pends, State.regBit, State.reg, hr]
  exact ⟨fun n hn hs => (hp n).mpr (h.pend n hn hs), ha.trans h.aborts⟩

theorem setReg {v : Word} (h : s.KeepsEvents t) (hk : ¬ eventReg k) : s.KeepsEvents (t.setReg k v) := by
  refine ⟨fun n hn hs => ?_, h.aborts⟩
  have hne : R.EVT_PEND (n / 32) ≠ k := by
    rintro rfl
    simp only [eventReg, R.EVT_PEND] at hk
    omega
  rw [State.pends, State.regBit_eq_of_reg (State.reg_setReg_other _ _ hne)]
  exact h.pend n hn hs

theorem raise (h : s.KeepsEvents t) (hn : n < 640) (hx : n ∉ [318, 263, 269]) : s.KeepsEvents (t.raise n) := by
  have hr : t.EventsOnly (t.raise n) := State.raise_eventsOnly hn hx
  exact h.trans ⟨hr.pend, congrArg BeatState.aborts hr.bt⟩

theorem emit {p : OutPort} {bs : Bytes} (h : s.KeepsEvents t) : s.KeepsEvents (t.emit p bs) := .ite h (h.of_regs rfl rfl)

/-! ### A release (R85, R243 to R251, R783) -/

theorem ringWrote {m tail hd : Nat} (h : s.KeepsEvents t) : s.KeepsEvents (t.ringWrote f q m tail hd) := ite (h.of_regs rfl rfl) h

theorem dropJob (h : s.KeepsEvents t) : s.KeepsEvents (t.dropJob k) := h.of_regs rfl rfl

theorem releaseHost (h : s.KeepsEvents t) : s.KeepsEvents (t.releaseHost j r f q) := by
  have hk (a b : Nat) : ¬ eventReg (R.HOSTIF_CQ_TAIL a b) := not_eventReg_of_netw (by simp only [R.HOSTIF_CQ_TAIL]; omega)
  have hl (a : Nat) : ¬ eventReg (R.HOSTIF_LOST a) := not_eventReg_of_netw (by simp only [R.HOSTIF_LOST]; omega)
  unfold State.releaseHost
  extract_lets u c w n w₁ w₂
  have hw₂ : s.KeepsEvents w₂ := by
    have hw : s.KeepsEvents w := emit (ite h h.emit)
    exact hw.ringWrote.setReg (hk _ _)
  exact ite h (ite (ite (h.setReg (hl _)) ((h.setReg (hl _)).setReg (hl _))) (ite (hw₂.of_regs rfl rfl) hw₂))

theorem diagnose (h : s.KeepsEvents t) : s.KeepsEvents (t.diagnose j r) := by
  unfold State.diagnose
  extract_lets d n c c' hd w w'
  by_cases h16 : 16 ≤ d
  · rw [if_pos (.inl h16)]
    exact h
  · have hl : ¬ eventReg (R.HOSTIF_LOST (d + 1)) := not_eventReg_of_netw (by simp only [R.HOSTIF_LOST]; omega)
    have hk : ¬ eventReg (R.HOSTIF_DQ_TAIL d) := not_eventReg_of_netw (by simp only [R.HOSTIF_DQ_TAIL]; omega)
    have hc : ¬ eventReg (R.COUCH_DIAG_LOST d) := not_eventReg_low (by simp only [R.COUCH_DIAG_LOST]; omega)
    have hw : s.KeepsEvents w := h.emit
    have hw' : s.KeepsEvents w' := hw.ringWrote.setReg hk
    exact ite h (ite (h.setReg hl) (ite ((h.setReg hc).raise (by decide) (by decide)) (ite (hw'.of_regs rfl rfl) hw')))

theorem countRelease {d cls : Nat} (h : s.KeepsEvents t) : s.KeepsEvents (t.countRelease d cls) := by
  unfold State.countRelease
  extract_lets w
  split
  · exact h
  next h16 =>
    have hw : s.KeepsEvents w :=
      ((h.setReg (not_eventReg_low (by simp only [R.COUCH_RELEASED_LO]; omega))).setReg (not_eventReg_low (by simp only [R.COUCH_RELEASED_LO]; omega))).setReg
        (not_eventReg_low (by simp only [R.COUCH_LAST_EDGE]; omega))
    refine ite (hw.setReg (not_eventReg_low ?_)) (ite (hw.setReg (not_eventReg_low ?_)) (ite (hw.setReg (not_eventReg_low ?_))
      (ite (hw.setReg (not_eventReg_low ?_)) (ite ?_ hw))))
    · simp only [R.COUCH_REFUSED]; omega
    · simp only [R.COUCH_FAULT]; omega
    · simp only [R.ADMIT_BUSY]; omega
    · simp only [R.ADMIT_MALFORMED]; omega
    · exact (hw.setReg (not_eventReg_low (by decide))).raise (by decide) (by decide)

theorem sendVector {v : Nat} (h : s.KeepsEvents t) : s.KeepsEvents (t.sendVector f v) := ite h h.emit

theorem interrupts {was : Nat} (h : s.KeepsEvents t) : s.KeepsEvents (t.interrupts j was) := by
  unfold State.interrupts
  extract_lets w
  have hw : s.KeepsEvents w := by
    unfold w
    split
    · exact ite h.sendVector h
    · exact h
  exact ite hw.sendVector hw

theorem release (h : s.KeepsEvents t) : s.KeepsEvents (t.release j r) := by
  unfold State.release
  extract_lets was w
  have hw : s.KeepsEvents w := by
    unfold w
    split
    · exact h.releaseHost
    · refine h.of_regs rfl ?_
      unfold State.releaseNet
      dsimp only [State.mapBt]
      split <;> rfl
    · exact h
  exact ite h (hw.diagnose.countRelease.interrupts.dropJob)

/-! ### Fetches and RESUMEs (R234, R279) -/

theorem hostFetch {m : Nat} (h : s.KeepsEvents t) : s.KeepsEvents (t.hostFetch f q m) := by
  induction m generalizing t with
  | zero => exact h
  | succ m ih =>
    have hk : ¬ eventReg (R.HOSTIF_SQ_HEAD f q) := not_eventReg_of_netw (by simp only [R.HOSTIF_SQ_HEAD]; omega)
    exact ite (ih ((h.emit.setReg hk).of_regs rfl rfl)) h

theorem fetchAll (h : s.KeepsEvents t) : s.KeepsEvents (t.fetchAll f) := h.foldl fun _ _ _ hu => hu.hostFetch

theorem resumeNow {x : Nat × Nat × Option Nat × Nat} (h : s.KeepsEvents t) : s.KeepsEvents (t.resumeNow x) := by
  have hu : s.KeepsEvents ((t.reopen x.2.1 x.2.2.1).mapBt fun b => { b with resumes := b.resumes.filter fun y => y != x }) := h.of_regs rfl rfl
  exact ite h (hu.fetchAll.of_regs rfl rfl)

theorem resumesDue (h : s.KeepsEvents t) : s.KeepsEvents t.resumesDue := h.foldl fun _ _ _ hu => hu.resumeNow

end State.KeepsEvents

/-- A release is the last of its job. -/
theorem State.job?_dropJob : (s.dropJob k).job? k = none := by
  change (s.bt.jobs.filter fun j => j.id != k).find? _ = none
  simp +contextual [List.find?_eq_none]

theorem State.job?_release (h : s.quiet = false) : (s.release j r).job? j.id = none := by
  unfold State.release
  rw [if_neg (by simp [h])]
  exact State.job?_dropJob

end Sys2Proof.Machine

/-! SUPPORT. CANCEL and ABORT as commands (R261 to R265, R267 to R272). -/

namespace Sys2Proof.Machine

variable {s : State} {i k : Nat} {j x : Job} {a : Abort}

/-! ### Commands and what they reach -/

/-- A command of its verb that is not answered yet. -/
theorem State.job?_of_command {verb : Nat} (h : s.command i verb = some j) : s.job? i = some j ∧ j.stage = .command ∧ j.ready = false := by
  unfold State.command at h
  split at h
  next y hy =>
    split at h
    next hc =>
      obtain rfl := Option.some.inj h
      exact ⟨hy, hc.1, by simpa using hc.2.2.1⟩
    · contradiction
  · contradiction

theorem Job.onVat_of_isWaiting (h : x.isWaiting = true) : x.onVat = none := by
  unfold Job.isWaiting at h
  unfold Job.onVat
  split at h
  next hs => rw [hs]
  · contradiction

/-- The jobs that CANCEL picks keep what `P` says, when an answer and a mark keep it. -/
theorem State.JobIs.cancelJobs {P : Job → Prop} {pick : Job → Bool} {e : Nat} (h : s.JobIs k P)
    (ha : ∀ y : Job, P y → P { y with
      stage := .answered, ready := true, cls := 5, reason := 0x0301, result := [], output := [], due := some e, lines := 0 })
    (hm : ∀ y : Job, P y → P { y with marked := true }) : (s.cancelJobs pick e).1.JobIs k P := by
  unfold State.cancelJobs
  extract_lets hit out on s₁ s₂
  have h₁ : s₁.JobIs k P := h.foldl_answerAt (fun _ _ => rfl) ha
  exact h₁.foldl fun _ _ hu => hu.markJob hm

/-! ### CANCEL (R261 to R265) -/

/-- What a CANCEL from a host queue picks: the queue's earlier jobs whose tag matches under its mask. -/
def cancelPick (f : Nat) (ring : Nat) (j x : Job) : Bool :=
  x.ofQueue f ring && decide (x.id < j.id) && tagMatch x.desc (leAt j.desc 0x24 4) (leAt j.desc 0x28 4)

section
variable {f : Fin 17} {q : Fin 8} (hc : s.command i 0x0601 = some j) (hs : j.src = .host f q) (hq : byteAt j.desc 0x20 = 0xFF)
include hc hs hq

/-- CANCEL of the queue it was sent on: its jobs are removed or marked, and it is answered OK. -/
theorem exec_cancel : ∃ (p : PendRec) (res : Bytes), exec (.cancel i) s =
    .next (((s.cancelJobs (cancelPick f q j) s.openEdge).1.queueRec p).answerCmd i s.openEdge 0 0 res []) := by
  rw [show exec (.cancel i) s = execCancel i s from rfl]
  unfold execCancel
  rw [hc]
  dsimp only
  rw [hs]
  dsimp only
  rw [if_pos hq]
  exact ⟨_, _, rfl⟩

theorem cancel_completes (hx : s.job? k = some x) (hr : s.reachable x = true) (hk : k < i) (ho : x.ofQueue f q = true)
    (ht : tagMatch x.desc (leAt j.desc 0x24 4) (leAt j.desc 0x28 4) = true) : Completes (.cancel i) s fun t =>
      (t.job? i).map (fun y => (y.ready, y.cls, y.due)) = some (true, 0, some s.openEdge) ∧
      (x.isWaiting = true → (t.job? k).map (fun y => (y.stage, y.cls, y.reason, y.due)) = some (.answered, 5, 0x0301, some s.openEdge)) ∧
      (x.onVat.isSome → x.cls ≠ 4 → (t.job? k).map (·.marked) = some true) := by
  obtain ⟨p, res, he⟩ := exec_cancel hc hs hq
  have hu {u : State} : (u.queueRec p).bt.jobs = u.bt.jobs := State.queueRec_jobs
  have hj := (State.job?_of_command hc).1
  have hp : cancelPick f q j x = true := by
    simp [cancelPick, ho, ht, State.id_of_job? hj, State.id_of_job? hx, hk]
  refine ⟨_, he, ?_, fun hw => ?_, fun hv hcls => ?_⟩
  · have h := ((State.JobIs.of_job? (P := fun _ => True) hj trivial).cancelJobs (pick := cancelPick f q j) (e := s.openEdge)
      (fun _ h => h) fun _ h => h).of_jobs hu
    exact State.map_job?_of_jobIs (h.updJob_self (Q := fun y => y.ready = true ∧ y.cls = 0 ∧ y.due = some s.openEdge) (fun _ => rfl)
      fun _ _ => ⟨rfl, rfl, rfl⟩) fun y ⟨h₁, h₂, h₃⟩ => by rw [h₁, h₂, h₃]
  · have h := (State.cancelJobs_answered (e := s.openEdge) hx hp hr (Job.onVat_of_isWaiting hw)).of_jobs hu
    exact State.map_job?_of_jobIs (h.updJob_other (fun _ => rfl) hk.ne') fun y ⟨h₁, _, h₃, h₄, h₅⟩ => by rw [h₁, h₃, h₄, h₅]
  · have h := (State.cancelJobs_marked (e := s.openEdge) hx hp hr hv hcls).of_jobs hu
    exact State.map_job?_of_jobIs (h.updJob_other (fun _ => rfl) hk.ne') fun _ h => h

end

/-! ### ABORT (R267 to R272) -/

/-- ABORT of a queue of the sender's deckle (R266). -/
theorem exec_abort_queue (hc : s.command i 0x0602 = some j) (ha : ∀ y ∈ s.bt.aborts, y.job ≠ i) (hq : byteAt j.desc 0x20 = 1) :
    exec (.abort i) s = .next (s.abortJobs i j.deckle
      (abortPick 1 j.deckle (byteAt j.desc 0x21) (leAt j.desc 0x24 4) (leAt j.desc 0x28 4) i) [] none) := by
  change execAbort i s = _
  unfold execAbort
  rw [hc]
  dsimp only
  rw [if_neg (by simpa using ha), hq]
  rfl

theorem abort_completes (hc : s.command i 0x0602 = some j) (ha : ∀ y ∈ s.bt.aborts, y.job ≠ i) (hq : byteAt j.desc 0x20 = 1)
    (hx : s.job? k = some x) (hr : s.reachable x = true) (hk : k < i) (hd : x.deckle = j.deckle)
    (ho : x.ofQueue (j.deckle + 1) (byteAt j.desc 0x21) = true) (hcls : (x.ready && x.cls == 4) = false) :
    Completes (.abort i) s fun t =>
      t.regBit R.ADMIT_STATUS 2 = true ∧ t.reg R.ADMIT_ABORT_EDGE = w32 (s.edgeAfter (s.now + 2000)) ∧
      (t.job? k).map (fun y => (y.ready, y.cls, y.due)) = some (true, 4, some (s.edgeAfter (s.now + 2000) + 1)) ∧
      ∀ v e, x.onVat = some (v, e) → v < 64 → t.inAdmission v = false := by
  obtain ⟨u, y, hu, -, he⟩ := State.abortJobs_facts (s := s) (job := i) (d := j.deckle) (all := []) (drain := none)
    (pick := abortPick 1 j.deckle (byteAt j.desc 0x21) (leAt j.desc 0x24 4) (leAt j.desc 0x28 4) i) (.inl rfl)
  have hp : abortPick 1 j.deckle (byteAt j.desc 0x21) (leAt j.desc 0x24 4) (leAt j.desc 0x28 4) i x = true := by
    simp [abortPick, ho, hd, State.id_of_job? hx, hk]
  refine ⟨_, (exec_abort_queue hc ha hq).trans (congrArg _ he), ?_, ?_, ?_, fun v e hv hlt => ?_⟩
  · refine (State.regBit_eq_of_reg (State.reg_setReg_other _ _ (by decide))).trans ?_
    rw [State.regBit_setRegBit (by decide), if_pos rfl]
  · exact State.reg_setReg_same _ _ _
  · exact State.map_job?_of_jobIs ((hu.ended k x hx hr hcls hp).of_jobs rfl) fun z ⟨h₁, h₂, h₃, _⟩ => by
      rw [h₁, h₂, h₃]
      rfl
  · refine Eq.trans (State.maskBit_eq_of_reg ?_) (hu.left k x v e hx hr hcls hp hv hlt)
    have h₁ : R.BEAT_ADMIT_LO + 4 * (v / 32) ≠ R.ADMIT_ABORT_EDGE := by
      simp only [R.BEAT_ADMIT_LO, R.ADMIT_ABORT_EDGE]
      omega
    have h₂ : R.BEAT_ADMIT_LO + 4 * (v / 32) ≠ R.ADMIT_STATUS := by
      simp only [R.BEAT_ADMIT_LO, R.ADMIT_STATUS]
      omega
    exact (State.reg_setReg_other _ _ h₁).trans (State.reg_setReg_other _ _ h₂)

/-! ### The end of an ABORT (R270, R272) -/

/-- An ABORT that is over is gone with its command, and event 250 is pending. -/
theorem State.abortDone_facts (hd : a.drain = none) (hq : s.quiet = false) :
    a ∉ (s.abortDone a).bt.aborts ∧ (s.abortDone a).job? a.job = none ∧ (s.abortDone a).pends 250 := by
  unfold State.abortDone
  extract_lets s₁ s₂ s₃
  rw [if_neg (by simp [hd])]
  have hgone : a ∉ s₂.bt.aborts := by
    rw [show s₂.bt = s₁.bt from (State.raise_eventsOnly (by decide) (by decide)).bt]
    simp [s₁, State.mapBt]
  have hpend : s₃.pends 250 := State.raise_pends (s := s₁.setRegBit _ _ _) (by decide) (by decide)
  have hq₃ : s₃.quiet = false := by
    have hr : (s₁.setRegBit R.ADMIT_STATUS 2 (s₁.bt.aborts.any fun y => y.drain.isNone)).EventsOnly s₂ :=
      State.raise_eventsOnly (by decide) (by decide)
    have hreg : s₃.regBit R.PMU_STATUS 4 = s.regBit R.PMU_STATUS 4 :=
      State.regBit_eq_of_reg ((hr.reg _ (by unfold eventReg; decide)).trans (State.reg_setReg_other _ _ (by decide)))
    have htm : s₃.tm = s.tm := by
      obtain ⟨_, _, _, _, _, h⟩ := hr.rest
      exact (congrArg State.tm h :)
    rwa [State.quiet, State.tripped, hreg, htm]
  split
  next y hy =>
    have hk : s₃.KeepsEvents (s₃.release y y.rel) := State.KeepsEvents.refl.release
    refine ⟨?_, ?_, hk.pend _ (by decide) hpend⟩
    · rw [hk.aborts]
      exact hgone
    · rw [← State.id_of_job? hy]
      exact State.job?_release hq₃
  next hn => exact ⟨hgone, hn, hpend⟩

theorem abortComplete_completes (hf : (s.bt.aborts.find? fun y => y.job == i && y.drain.isNone) = some a) (hq : s.quiet = false)
    (he : s.beat = a.e0 + 2) : Completes (.abortComplete i) s fun t => a ∉ t.bt.aborts ∧ t.job? i = none ∧ t.pends 250 := by
  have hx : execAbortComplete i s = .next (s.abortDone a) := by
    unfold execAbortComplete
    rw [hf]
    exact congrArg _ (if_pos he)
  obtain ⟨hi, hd⟩ : a.job = i ∧ a.drain = none := by simpa using List.find?_some hf
  subst hi
  exact ⟨_, hx, State.abortDone_facts hd hq⟩

/-- What CANCEL and ABORT can reach has not been released at this edge. -/
theorem State.due_ne_of_reachable (h : s.reachable x = true) : x.due ≠ some s.beat := by
  simp only [State.reachable, Bool.and_eq_true, bne_iff_ne] at h
  exact h.1.2

end Sys2Proof.Machine

namespace Sys2Proof
open Machine

/-- Settles O40: CANCEL's and ABORT's picks, job by job; a job that stands in an ABORT's list and is due now is one that neither reaches. -/
theorem cancelAndAbort : Obligations.CancelAndAbort := fun _ _ _ _ _ hx hr hk =>
  ⟨fun _ _ hc hs hq ho ht => cancel_completes hc hs hq hx hr hk ho ht,
   fun hc ha hq hd ho hcls => abort_completes hc ha hq hx hr hk hd ho hcls,
   fun _ hf hq => ⟨fun _ _ hdue => absurd hdue (State.due_ne_of_reachable hr), fun he => abortComplete_completes hf hq he⟩⟩

end Sys2Proof

/-! SUPPORT. DRAIN, RESUME, the settings commands and JOURNAL_READ (R274 to R283, R393). -/

namespace Sys2Proof.Machine

variable {s t : State} {i k : Nat} {j y : Job} {x : Drain}

/-! ### DRAIN (R274 to R278) -/

/-- The DRAIN that a command becomes, its flush not yet counted. -/
def State.drainOf (s : State) (i : Nat) (j : Job) : Drain where
  job := i
  deckle := (scopeOf j).1
  queue := (scopeOf j).2
  flush := byteAt j.desc 0x23 == 1
  since := s.nextEdge
  limit := leAt j.desc 0x24 4
  done := false
  flushed := 0
  ended := 0

/-- What a DRAIN flushes: the waiting jobs of its scope, under MODE 1. -/
def State.drainFlush (s : State) (x : Drain) : List Job := if x.flush then s.bt.jobs.filter fun j => j.isWaiting && x.holds j else []

/-- A DRAIN's answers move no edge. -/
theorem State.foldl_answerAt_openEdge {l : List Job} : l.foldl (fun s k => s.answerAt k 3 0x0105 s.openEdge) s =
    l.foldl (fun u k => u.answerAt k 3 0x0105 s.openEdge) s := by
  induction l generalizing s with
  | nil => rfl
  | cons _ _ ih => exact ih

section
variable (hc : s.command i 0x0603 = some j) (hd : ∀ x ∈ s.bt.drains, x.job ≠ i)
include hc hd

theorem exec_drain : exec (.drain i) s =
    .next (((s.drainFlush (s.drainOf i j)).foldl (fun s k => s.answerAt k 3 0x0105 s.openEdge) s).mapBt fun b =>
      { b with drains := b.drains ++ [{ s.drainOf i j with flushed := (s.drainFlush (s.drainOf i j)).length }] }) := by
  change execDrain i s = _
  unfold execDrain
  rw [hc]
  dsimp only
  rw [if_neg (by simpa using hd)]
  rfl

theorem drain_completes : Completes (.drain i) s fun t =>
    (∃ x ∈ t.bt.drains, x.job = i ∧ (x.deckle, x.queue) = scopeOf j ∧ x.done = false ∧ x.limit = leAt j.desc 0x24 4) ∧
    (byteAt j.desc 0x23 = 0 → t.bt.jobs = s.bt.jobs) ∧
    ∀ k x f r, byteAt j.desc 0x23 = 1 → byteAt j.desc 0x20 = 0 → s.job? k = some x → x.isWaiting = true → x.deckle = j.deckle →
      x.src = .host f r → r.val = byteAt j.desc 0x21 →
      (t.job? k).map (fun y => (y.stage, y.cls, y.reason, y.due)) = some (.answered, 3, 0x0105, some s.openEdge) := by
  refine ⟨_, exec_drain hc hd, ⟨_, List.mem_append_right _ (List.mem_singleton.mpr rfl), rfl, rfl, rfl, rfl⟩, fun hm => ?_,
    fun k x f r hm hs hx hw hdk hsrc hr => ?_⟩
  · have hf : s.drainFlush (s.drainOf i j) = [] := if_neg (by simp [State.drainOf, hm])
    rw [hf]
    rfl
  · obtain rfl := State.id_of_job? hx
    have hsc : scopeOf j = (j.deckle, some (byteAt j.desc 0x21)) := if_pos hs
    have hstage : x.stage = .waiting := by
      unfold Job.isWaiting at hw
      split at hw
      · assumption
      · contradiction
    have hin : x ∈ s.drainFlush (s.drainOf i j) := by
      have hfl : (s.drainOf i j).flush = true := by simp [State.drainOf, hm]
      rw [State.drainFlush, if_pos hfl]
      refine List.mem_filter.mpr ⟨State.mem_of_job? hx, ?_⟩
      simp [hw, Drain.holds, State.drainOf, hsc, hstage, hsrc, hr, hdk]
    have h : (((s.drainFlush (s.drainOf i j)).foldl (fun s k => s.answerAt k 3 0x0105 s.openEdge) s)).JobIs x.id
        (Job.AnsweredAs 3 0x0105 s.openEdge) := by
      rw [State.foldl_answerAt_openEdge]
      exact State.foldl_answered (fun _ _ => rfl) hin (.of_job? hx trivial)
    exact State.map_job?_of_jobIs (h.of_jobs rfl) fun y ⟨h₁, _, h₃, h₄, h₅⟩ => by rw [h₁, h₃, h₄, h₅]

end

section
variable (hf : (s.bt.drains.find? fun y => y.job == i) = some x)
include hf

/-- A DRAIN that completes raises event 249, and its completion and the RESUMEs after it leave that pending. -/
theorem drainComplete_completes (ho : s.drainOver x = true) : Completes (.drainComplete i) s fun t => t.pends 249 := by
  have hx : execDrainComplete i s = .next (s.drainDone x) := by
    unfold execDrainComplete
    rw [hf]
    exact congrArg _ (if_pos ho)
  refine ⟨_, hx, ?_⟩
  unfold State.drainDone
  extract_lets s₁ s₂ s₃ s₄
  have h₂ : s₂.pends 249 := State.raise_pends (by decide) (by decide)
  have h₃ : s₂.KeepsEvents s₃ := State.KeepsEvents.refl.of_regs rfl rfl
  have h₄ : s₂.KeepsEvents s₄ := by
    unfold s₄
    split
    · exact h₃.release
    · exact h₃
  exact h₄.resumesDue.pend _ (by decide) h₂

theorem drainLimitExpiry_completes (ho : s.limitOver x = true) : Completes (.drainLimitExpiry i) s fun t =>
    (∃ a ∈ t.bt.aborts, a.drain = some i) ∧
    ∀ k y, s.job? k = some y → x.holds y = true → s.reachable y = true → (y.ready && y.cls == 4) = false →
      (t.job? k).map (fun z => (z.ready, z.cls)) = some (true, 4) := by
  have hx : execDrainLimitExpiry i s = .next (s.drainLimit x) := by
    unfold execDrainLimitExpiry
    rw [hf]
    exact congrArg _ (if_pos ho)
  have hi : x.job = i := by simpa using List.find?_some hf
  obtain ⟨u, a, hu, had, he⟩ := State.abortJobs_facts (s := s) (job := s.bt.nextJob) (d := x.deckle) (pick := fun j => x.holds j)
    (all := if x.queue.isSome then [] else s.vatsOf x.deckle) (drain := some x.job) (.inr rfl)
  refine ⟨_, hx, ?_⟩
  unfold State.drainLimit
  rw [he]
  refine ⟨⟨a, List.mem_append_right _ (List.mem_singleton.mpr rfl), had.trans (congrArg _ hi)⟩, fun k y hy hh hr hcls => ?_⟩
  exact State.map_job?_of_jobIs ((hu.ended k y hy hr hcls hh).of_jobs rfl) fun z ⟨h₁, h₂, _⟩ => by rw [h₁, h₂]

end

/-! ### RESUME (R279) -/

theorem resume_completes (hc : s.command i 0x8003 = some j) (hr : ∀ r ∈ s.bt.resumes, r.1 ≠ i) : Completes (.resume i) s fun t =>
    (i, (scopeOf j).1, (scopeOf j).2, s.openEdge) ∈ t.bt.resumes ∧ t.bt.jobs = s.bt.jobs ∧ s.onlyRegs t [] := by
  have hx : execResume i s =
      .next (s.mapBt fun b => { b with resumes := b.resumes ++ [(i, (scopeOf j).1, (scopeOf j).2, s.openEdge)] }) := by
    unfold execResume
    rw [hc]
    exact congrArg _ (if_neg (by simpa only [List.any_eq_true, beq_iff_eq, not_exists, not_and] using hr))
  exact ⟨_, hx, List.mem_append_right _ (List.mem_singleton.mpr rfl), rfl, rfl, rfl, fun _ _ => rfl⟩

/-! ### Settings (R280 to R283) -/

/-- A settings command is noted for the edge after its close, and answered OK for that edge. -/
theorem State.takeSettings_facts {pke : Bool} (hj : s.job? i = some j) :
    (s.takeSettings j pke).bt.settings = s.bt.settings ++ [⟨s.openEdge + 1, j.deckle, pke, byteAt j.desc 0x20, j.input⟩] ∧
    ((s.takeSettings j pke).job? i).map (fun y => (y.ready, y.cls, y.due)) = some (true, 0, some (s.openEdge + 1)) ∧
    s.onlyRegs (s.takeSettings j pke) [] := by
  obtain rfl := State.id_of_job? hj
  refine ⟨rfl, ?_, rfl, rfl, fun _ _ => rfl⟩
  unfold State.takeSettings
  extract_lets e u
  have h : (u.answerCmd j.id e clsOk 0 (zeros 16) []).JobIs j.id fun y => y.ready = true ∧ y.cls = 0 ∧ y.due = some e :=
    ((State.JobIs.of_job? (P := fun _ => True) hj trivial).of_jobs rfl).updJob_self (fun _ => rfl) fun _ _ => ⟨rfl, rfl, rfl⟩
  exact State.map_job?_of_jobIs h fun y ⟨h₁, h₂, h₃⟩ => by rw [h₁, h₂, h₃]

theorem exec_seqSettings (hc : s.command i 0x8001 = some j) : exec (.seqSettings i) s = .next (s.takeSettings j false) := by
  change execSeqSettings i s = _
  unfold execSeqSettings
  rw [hc]

theorem exec_pkeSettings (hc : s.command i 0x8002 = some j) : exec (.pkeSettings i) s = .next (s.takeSettings j true) := by
  change execPkeSettings i s = _
  unfold execPkeSettings
  rw [hc]

/-! ### JOURNAL_READ (R393) -/

/-- What a JOURNAL_READ of one block answers. -/
theorem State.journalRead_block (hb : byteAt j.desc 0x20 = 0) (hn : leAt j.desc 0x30 2 = 1) :
    s.journalRead j = s.outcome j.id 0 0 (zeros 16) (s.journalBlock j.deckle (leAt j.desc 0x28 8)) := by
  unfold State.journalRead
  extract_lets b n first out
  have hout : out = s.journalBlock j.deckle first := by
    unfold out
    rw [if_pos hb, show n = 1 from hn]
    simp
  rw [hout]

theorem journalRead_completes (hj : s.job? i = some j) (ht : journalReadTaken j = true) (hb : byteAt j.desc 0x20 = 0)
    (hn : leAt j.desc 0x30 2 = 1) : Completes (.journalRead i) s fun t =>
      (t.job? i).map (fun y => (y.ready, y.cls, y.output)) = some (true, 0, s.journalBlock j.deckle (leAt j.desc 0x28 8)) ∧ s.onlyRegs t [] := by
  have hx : execJournalRead i s = .next (s.outcome j.id 0 0 (zeros 16) (s.journalBlock j.deckle (leAt j.desc 0x28 8))) := by
    unfold execJournalRead
    rw [hj]
    dsimp only
    rw [if_pos ht, State.journalRead_block hb hn]
  obtain rfl := State.id_of_job? hj
  refine ⟨_, hx, ?_, rfl, rfl, fun _ _ => rfl⟩
  have h : (s.outcome j.id 0 0 (zeros 16) (s.journalBlock j.deckle (leAt j.desc 0x28 8))).JobIs j.id fun y =>
      y.ready = true ∧ y.cls = 0 ∧ y.output = s.journalBlock j.deckle (leAt j.desc 0x28 8) :=
    (State.JobIs.of_job? (P := fun _ => True) hj trivial).updJob_self (fun _ => rfl) fun _ _ => ⟨rfl, rfl, rfl⟩
  exact State.map_job?_of_jobIs h fun y ⟨h₁, h₂, h₃⟩ => by rw [h₁, h₂, h₃]

end Sys2Proof.Machine

namespace Sys2Proof
open Machine

/-- Settles O41, command by command. -/
theorem queueCommands : Obligations.QueueCommands :=
  ⟨fun _ _ _ => ⟨fun hc hd => drain_completes hc hd,
     fun _ hf => ⟨fun ho => drainComplete_completes hf ho, fun ho => drainLimitExpiry_completes hf ho⟩,
     fun hc hr => resume_completes hc hr⟩,
   fun _ _ _ => ⟨fun hc => ⟨_, exec_seqSettings hc, State.takeSettings_facts (State.job?_of_command hc).1⟩,
     fun hc => ⟨_, exec_pkeSettings hc, State.takeSettings_facts (State.job?_of_command hc).1⟩,
     fun hj ht hb hn => journalRead_completes hj ht hb hn⟩⟩

end Sys2Proof

/-! SUPPORT. A host's write of a register of its own function (R11, R782, R785, R961). -/

namespace Sys2Proof.Machine

variable {s t : State} {who : Sender} {f : Fin 17} {q : Fin 8} {v w m : Word} {k o i hi lo : Nat} {r : RegRow}

/-! ### Words that a mask lets through -/

/-- `old` with the bits of mask `m` taken from `v`. -/
def masked (old m v : Word) : Word := (old &&& ~~~m) ||| (v &&& m)

theorem bit_masked {old : Word} (h : bit m i = true) : bit (masked old m v) i = bit v i := by
  simp only [bit] at h ⊢
  simp [masked, -BitVec.getLsbD_eq_getElem, h]

theorem field_masked {old : Word} (h : ∀ i, lo ≤ i → i ≤ hi → bit m i = true) : field (masked old m v) hi lo = field v hi lo := by
  refine Nat.eq_of_testBit_eq fun i => ?_
  rw [testBit_field, testBit_field]
  by_cases hi' : i < hi + 1 - lo
  · rw [bit_masked (h _ (by omega) (by omega))]
  · simp [hi']

/-! ### The path of a host's write -/

/-- `k` is a register of some function's host interface. -/
def hostReg (k : Nat) : Prop := 0x101100000 ≤ k ∧ k < 0x101200000

theorem queueReg_of_hostReg (h : hostReg k) : queueReg k := .inr h

theorem not_eventReg_of_hostReg (h : hostReg k) : ¬ eventReg k := not_eventReg_of_netw (le_trans (by decide) h.1)

theorem hostReg_status (ho : o < 0x8000) : hostReg (R.HOSTIF_STATUS f + o) := by
  simp only [hostReg, R.HOSTIF_STATUS]
  omega

theorem hostReg_own : hostReg (R.HOSTIF_STATUS f) := hostReg_status (o := 0) (by decide)

/-- A register of a function, taken apart again. -/
theorem hostReg_split (ho : o < 0x8000) :
    (R.HOSTIF_STATUS f + o - 0x101100000) / 0x8000 = f ∧ (R.HOSTIF_STATUS f + o - 0x101100000) % 0x8000 = o := by
  simp only [R.HOSTIF_STATUS]
  omega

/-- A running function's word write of one of its registers is HOSTIF's own. -/
theorem State.wr_host (h : s.hostAt who f) (hr : regRow? (R.HOSTIF_STATUS f + o) = some r) (ho : o < 0x6000) (h₄ : o % 4 = 0) :
    s.wr who (R.HOSTIF_STATUS f + o) v = s.hostWrite who f o (R.HOSTIF_STATUS f + o) v r := by
  obtain ⟨rfl, hreset, hheld, htrip⟩ := h
  obtain ⟨hf, ho'⟩ := hostReg_split (f := f) (o := o) (by omega)
  obtain ⟨h₀, h₁⟩ := hostReg_status (f := f) (o := o) (by omega)
  have hal : (R.HOSTIF_STATUS f + o) % 4 = 0 := by
    simp only [R.HOSTIF_STATUS]
    omega
  have hown : hostOwn f (R.HOSTIF_STATUS f + o) = true := by
    simp [hostOwn]
    omega
  generalize R.HOSTIF_STATUS f + o = k at *
  have hc : s.busCheck (.host f) .store .word k = none := by simp [State.busCheck, State.ruleCheck, hown, sluiceView]
  have ht : targetOf k = .control ((k - 0x100000000) / 0x100000) := by
    unfold targetOf
    rw [if_neg (by omega), if_neg (by omega), if_neg (by omega), if_pos (by omega)]
  have hg : isRegister k = true := by
    simp only [isRegister, ht, isMsix, ho']
    simp
    omega
  have hcanon : canonReg k = k := by
    unfold canonReg
    rw [if_neg (by omega), if_neg (by omega)]
  have hw : s.writeReg (.host f) k v = s.hostWrite (.host f) f o k v r := by
    unfold State.writeReg
    simp only [hcanon, hr]
    rw [if_neg (by omega), if_neg (by omega), if_pos ⟨h₀, h₁⟩, hf, ho']
  unfold State.wr State.regCommand State.busStore
  simp only [hreset, hheld, htrip, hc, hg, hw, sizeBytes, hal]
  simp

theorem State.rangeOf_host (ho : o < 0x8000) :
    s.rangeOf (R.HOSTIF_STATUS f + o) v w = s.rangeHost f o (R.HOSTIF_STATUS f + o) v w := by
  obtain ⟨hf, ho'⟩ := hostReg_split (f := f) ho
  obtain ⟨h₀, h₁⟩ := hostReg_status (f := f) ho
  unfold State.rangeOf
  rw [if_neg (by omega), if_neg (by omega), if_neg (by omega), if_pos ⟨h₀, h₁⟩, hf, ho']

/-- A host's write in range of a register that no lock holds. -/
theorem State.plainWrite_host (ho : o < 0x8000) (hl : r.lock = none) (hrwl : r.rwl = 0) (hc : r.w1c = 0)
    (hr : s.rangeHost f o (R.HOSTIF_STATUS f + o) v (masked (s.reg (R.HOSTIF_STATUS f + o)) (w32 r.rw) v) = .ok) :
    s.plainWrite who (R.HOSTIF_STATUS f + o) v r =
      s.setReg (R.HOSTIF_STATUS f + o) (masked (s.reg (R.HOSTIF_STATUS f + o)) (w32 r.rw) v) := by
  refine State.plainWrite_queueReg (queueReg_of_hostReg (hostReg_status ho)) ?_ hc ?_ ((State.rangeOf_host ho).trans hr)
  · rw [State.rowLocked, hl]
  · rw [hrwl, show w32 0 = 0#32 from rfl, BitVec.or_zero]
    rfl

/-! ### Errors of a host's access (R883, R884) -/

theorem State.errEntry_code_host {code a : Nat} {kind : Kind} (hc : code < 256) :
    field (s.errEntry code (.host f) kind a).info 31 24 = code := by
  have hk : kind.code ≤ 3 := by cases kind <;> decide
  have ha : a / 2 ^ 32 % 4096 < 4096 := Nat.mod_lt _ (by decide)
  simp only [field, State.errEntry, BitVec.toNat_ofNat, stopOf, privOf, b2n]
  simp only [Bool.false_eq_true, if_false]
  omega

/-- An error at a host interface register shows its code in HOSTIF's entry, and leaves HOSTIF's registers. -/
theorem State.errAt_host {code : Nat} (hc : code < 256) (hk : hostReg k) (hi : hostReg i) :
    (s.errAt code (.host f) .store k).reg i = s.reg i ∧ (s.errAt code (.host f) .store k).regField (R.ERRC_LAST 0x11 0) 31 24 = code := by
  obtain ⟨h₀, h₁⟩ := hk
  have h : errSource k = 0x11 := by
    simp only [errSource]
    rw [if_pos (by omega), if_pos (by omega)]
    omega
  unfold State.errAt
  rw [h]
  refine ⟨State.capture_reg_above (by decide) (le_trans (by decide) hi.1), ?_⟩
  rw [State.regField, State.capture_reg_last (by decide)]
  exact State.errEntry_code_host hc

end Sys2Proof.Machine

/-! SUPPORT. The rows of a queue's and a diagnostic ring's registers, and what HOSTIF does on a write of each (R782, R785, R961). -/

namespace Sys2Proof.Machine

variable {s t : State} {who : Sender} {f : Fin 17} {q : Fin 8} {v w m : Word} {k o i hi lo x : Nat} {r : RegRow}

/-! ### Rows -/

def queueCtrlRow : RegRow := { key := 0x101100100, dims := [(0x8000, 17), (0x40, 8)], rw := 0xf0f0001 }
def sqTailRow : RegRow := { key := 0x101100114, dims := [(0x8000, 17), (0x40, 8)], rw := 0xfff }
def cqHeadRow : RegRow := { key := 0x10110011c, dims := [(0x8000, 17), (0x40, 8)], rw := 0xfff }
def diagCtrlRow : RegRow := { key := 0x10110812c, dims := [(0x8000, 16)], rw := 0xf0001 }
def diagHeadRow : RegRow := { key := 0x101108130, dims := [(0x8000, 16)], rw := 0xfff }

/-- Offset of register `x` of queue `q` in its function's sub-block. -/
def queueOff (q x : Nat) : Nat := 0x100 + 0x40 * q + x

theorem regRow?_queueCtrl : ∀ (f : Fin 17) (q : Fin 8), regRow? (R.HOSTIF_STATUS f + queueOff q 0) = some queueCtrlRow := by decide +kernel
theorem regRow?_sqTail : ∀ (f : Fin 17) (q : Fin 8), regRow? (R.HOSTIF_STATUS f + queueOff q 0x14) = some sqTailRow := by decide +kernel
theorem regRow?_cqHead : ∀ (f : Fin 17) (q : Fin 8), regRow? (R.HOSTIF_STATUS f + queueOff q 0x1C) = some cqHeadRow := by decide +kernel
theorem regRow?_diagCtrl : ∀ f : Fin 17, 1 ≤ f.val → regRow? (R.HOSTIF_STATUS f + 0x12C) = some diagCtrlRow := by decide +kernel
theorem regRow?_diagHead : ∀ f : Fin 17, 1 ≤ f.val → regRow? (R.HOSTIF_STATUS f + 0x130) = some diagHeadRow := by decide +kernel

theorem status_add_queueOff : R.HOSTIF_STATUS f + queueOff q x = R.HOSTIF_Q_CTRL f q + x := by
  simp only [R.HOSTIF_STATUS, R.HOSTIF_Q_CTRL, queueOff]
  omega

theorem status_add_sqTail : R.HOSTIF_STATUS f + queueOff q 0x14 = R.HOSTIF_SQ_TAIL f q := by
  simp only [R.HOSTIF_STATUS, R.HOSTIF_SQ_TAIL, queueOff]
  omega

theorem status_add_cqHead : R.HOSTIF_STATUS f + queueOff q 0x1C = R.HOSTIF_CQ_HEAD f q := by
  simp only [R.HOSTIF_STATUS, R.HOSTIF_CQ_HEAD, queueOff]
  omega

theorem hostReg_queueCtrl : hostReg (R.HOSTIF_Q_CTRL f q) := by
  simp only [hostReg, R.HOSTIF_Q_CTRL]
  omega

theorem hostReg_sqTail : hostReg (R.HOSTIF_SQ_TAIL f q) := by
  simp only [hostReg, R.HOSTIF_SQ_TAIL]
  omega

theorem status_add_diag (hf : 1 ≤ f.val) : R.HOSTIF_STATUS f + 0x12C = R.HOSTIF_DQ_CTRL (f - 1) ∧
    R.HOSTIF_STATUS f + 0x130 = R.HOSTIF_DQ_HEAD (f - 1) := by
  simp only [R.HOSTIF_STATUS, R.HOSTIF_DQ_CTRL, R.HOSTIF_DQ_HEAD]
  omega

/-- Registers of queues are words, below the vector table. -/
theorem queueOff_lt (hx : x < 0x40) : queueOff q x < 0x6000 := by
  simp only [queueOff]
  omega

theorem queueOff_mod : queueOff q x % 4 = x % 4 := by
  simp only [queueOff]
  omega

theorem queueOff_split (hx : x < 0x40) : (queueOff q x - 0x100) / 0x40 = q ∧ (queueOff q x - 0x100) % 0x40 = x ∧
    0x100 ≤ queueOff q x ∧ queueOff q x < 0x300 := by
  simp only [queueOff]
  omega

/-! ### Ranges (R11) -/

theorem State.rangeHost_pointer (hx : x = 0x14 ∨ x = 0x1C) : s.rangeHost f (queueOff q x) k v w = .ok := by
  obtain ⟨hq, hx', h₀, h₁⟩ := queueOff_split (q := q) (x := x) (by omega)
  unfold State.rangeHost
  dsimp only
  rw [if_neg (by omega), if_neg (by omega), if_neg (by omega), if_pos ⟨h₀, h₁⟩, hx']
  rcases hx with rfl | rfl <;> rfl

theorem State.rangeHost_diagHead : s.rangeHost f 0x130 k v w = .ok := rfl

/-- A ring's size stands while the ring is on, and is 2⁴ to 2¹² entries when it is turned on (R961). -/
theorem State.rangeHost_queueCtrl (hn : 4 ≤ field w 19 16 ∧ field w 19 16 ≤ 12 ∨ bit w 0 = false ∧ field w 19 16 = s.regField k 19 16)
    (ho : s.queueOn f q = true → field w 19 16 = s.regField k 19 16) (hv : field w 27 24 ≤ 8) :
    s.rangeHost f (queueOff q 0) k v w = .ok := by
  obtain ⟨hq, hx', h₀, h₁⟩ := queueOff_split (q := q) (x := 0) (by omega)
  unfold State.rangeHost
  dsimp only
  rw [if_neg (by omega), if_neg (by omega), if_neg (by omega), if_pos ⟨h₀, h₁⟩, hx', hq]
  refine if_pos ?_
  simp only [between, Bool.and_eq_true, Bool.or_eq_true, decide_eq_true_eq, Bool.not_eq_true', beq_iff_eq, hv, and_true]
  exact ⟨hn, by cases h : s.queueOn f q <;> simp [h, ho]⟩

theorem State.rangeHost_diagCtrl (h₀ : 4 ≤ field w 19 16) (h₁ : field w 19 16 ≤ 12) (ho : s.regBit k 0 = false) :
    s.rangeHost f 0x12C k v w = .ok := by
  change inRangeIf _ = _
  simp [inRangeIf, between, h₀, h₁, ho]

/-! ### What a write brings about (R782, R785, R961) -/

theorem State.hostWrite_sqTail_full (h : s.ringSize f q ≤ v.toNat) :
    s.hostWrite who f (queueOff q 0x14) k v r = s.errAt errIgnored who .store k := by
  obtain ⟨hq, hx, h₀, h₁⟩ := queueOff_split (q := q) (x := 0x14) (by omega)
  unfold State.hostWrite
  rw [hq, if_pos (show 0x100 ≤ queueOff q 0x14 ∧ queueOff q 0x14 < 0x300 from ⟨h₀, h₁⟩), hx]
  exact if_pos ⟨rfl, h⟩

theorem State.hostWrite_sqTail (h : v.toNat < s.ringSize f q) :
    s.hostWrite who f (queueOff q 0x14) k v r = (s.plainWrite who k v r).hostFetch f q 4096 := by
  obtain ⟨hq, hx, h₀, h₁⟩ := queueOff_split (q := q) (x := 0x14) (by omega)
  unfold State.hostWrite
  dsimp only
  rw [hq, if_pos (show 0x100 ≤ queueOff q 0x14 ∧ queueOff q 0x14 < 0x300 from ⟨h₀, h₁⟩), hx, if_neg fun hc => absurd hc.2 (by omega),
    if_neg (by decide), if_neg fun hc => absurd hc.1 (by decide), if_neg fun hc => ?_, if_neg (by decide), if_pos rfl]
  simp only [queueOff] at hc
  omega

theorem State.hostWrite_cqHead :
    s.hostWrite who f (queueOff q 0x1C) k v r = ((s.plainWrite who k v r).ringFreed f q).hostFetch f q 4096 := by
  obtain ⟨hq, hx, h₀, h₁⟩ := queueOff_split (q := q) (x := 0x1C) (by omega)
  unfold State.hostWrite
  dsimp only
  rw [hq, if_pos (show 0x100 ≤ queueOff q 0x1C ∧ queueOff q 0x1C < 0x300 from ⟨h₀, h₁⟩), hx, if_neg fun hc => absurd hc.1 (by decide),
    if_neg (by decide), if_neg fun hc => absurd hc.1 (by decide), if_neg fun hc => ?_, if_pos rfl]
  simp only [queueOff] at hc
  omega

theorem State.hostWrite_queueCtrl :
    s.hostWrite who f (queueOff q 0) k v r =
      let t := s.plainWrite who k v r
      if t.regBit k 0 ∧ ¬ s.regBit k 0 then t.queueStart f q
      else if s.regBit k 0 ∧ ¬ t.regBit k 0 then t.queueClose f q
      else t := by
  obtain ⟨hq, hx, h₀, h₁⟩ := queueOff_split (q := q) (x := 0) (by omega)
  unfold State.hostWrite
  dsimp only
  rw [hq, if_pos (show 0x100 ≤ queueOff q 0 ∧ queueOff q 0 < 0x300 from ⟨h₀, h₁⟩), hx, if_neg fun hc => absurd hc.1 (by decide), if_pos rfl]

theorem State.hostWrite_diagHead (hf : 1 ≤ f.val) :
    s.hostWrite who f 0x130 k v r = (s.plainWrite who k v r).ringFreed f 8 := by
  unfold State.hostWrite
  dsimp only
  rw [if_neg fun hc => absurd hc.1 (by decide), if_neg (by decide), if_neg fun hc => absurd hc.1 (by decide), if_pos ⟨rfl, hf⟩]

theorem State.hostWrite_diagCtrl (hf : 1 ≤ f.val) :
    s.hostWrite who f 0x12C k v r =
      let t := s.plainWrite who k v r
      if t.regBit k 0 ∧ ¬ s.regBit k 0 then t.diagStart (f - 1) else t := by
  unfold State.hostWrite
  dsimp only
  rw [if_neg fun hc => absurd hc.1 (by decide), if_neg (by decide), if_pos ⟨by decide, hf⟩]

end Sys2Proof.Machine

/-! SUPPORT. Fetches of a host queue, and host software's writes of its rings' pointers and enables (R233 to R235, R248, R782, R785, R961). -/

namespace Sys2Proof.Machine

variable {s t : State} {who : Sender} {f : Fin 17} {q : Fin 8} {v w : Word} {k n : Nat}

/-! ### Fetches (R234) -/

/-- From `s` to `t` descriptors of a queue have been fetched, or none. -/
structure State.Fetched (s : State) (f q : Nat) (t : State) : Prop where
  reg : ∀ k, k ≠ R.HOSTIF_SQ_HEAD f q → t.reg k = s.reg k
  full : t.bt.full = s.bt.full
  out : ∀ o ∈ s.out, o ∈ t.out
  inflight : ∀ p ∈ s.bt.inflight, p ∈ t.bt.inflight

theorem State.mem_out_emit {p : OutPort} {bs : Bytes} {o : Output} (h : o ∈ s.out) : o ∈ (s.emit p bs).out := by
  unfold State.emit
  split
  · exact h
  · exact List.mem_cons_of_mem _ h

/-- What the device sends at a port that no response stops is among its output. -/
theorem State.mem_out_emit_self {p : OutPort} {bs : Bytes} (h : p.stops = false) : (⟨p, s.beat, bs⟩ : Output) ∈ (s.emit p bs).out := by
  unfold State.emit
  rw [if_neg (by simp [h])]
  exact List.mem_cons_self

theorem State.emit_reg {p : OutPort} {bs : Bytes} : (s.emit p bs).reg k = s.reg k := by
  unfold State.emit
  split <;> rfl

theorem State.emit_bt {p : OutPort} {bs : Bytes} : (s.emit p bs).bt = s.bt := by
  unfold State.emit
  split <;> rfl

/-- One descriptor fetched from a queue's head. -/
def State.fetchOne (s : State) (f q : Nat) : State :=
  ((s.emit (.hostFetch f q (s.reg (R.HOSTIF_SQ_HEAD f q)).toNat) []).setReg (R.HOSTIF_SQ_HEAD f q)
    (w32 (((s.reg (R.HOSTIF_SQ_HEAD f q)).toNat + 1) % s.ringSize f q))).mapBt fun b => { b with inflight := b.inflight ++ [(f, q)] }

theorem State.hostFetch_succ {f q : Nat} : s.hostFetch f q (n + 1) =
    if s.fetches f q = true ∧ (s.reg (R.HOSTIF_SQ_HEAD f q)).toNat ≠ (s.reg (R.HOSTIF_SQ_TAIL f q)).toNat ∧ 0 < s.freeEntries f q then
      (s.fetchOne f q).hostFetch f q n else s := rfl

theorem State.fetchOne_fetched {f q : Nat} : s.Fetched f q (s.fetchOne f q) where
  reg _ hk := (State.reg_setReg_other _ _ hk).trans State.emit_reg
  full := by
    change (s.emit _ _).bt.full = _
    rw [State.emit_bt]
  out _ ho := State.mem_out_emit ho
  inflight _ hp := List.mem_append_left _ (State.emit_bt.symm ▸ hp)

theorem State.hostFetch_fetched {f q : Nat} : s.Fetched f q (s.hostFetch f q n) := by
  induction n generalizing s with
  | zero => exact ⟨fun _ _ => rfl, rfl, fun _ h => h, fun _ h => h⟩
  | succ n ih =>
    rw [State.hostFetch_succ]
    split
    · have h₁ : s.Fetched f q (s.fetchOne f q) := State.fetchOne_fetched
      have h₂ : (s.fetchOne f q).Fetched f q ((s.fetchOne f q).hostFetch f q n) := ih
      exact ⟨fun k hk => (h₂.reg k hk).trans (h₁.reg k hk), h₂.full.trans h₁.full, fun o ho => h₂.out o (h₁.out o ho),
        fun p hp => h₂.inflight p (h₁.inflight p hp)⟩
    · exact ⟨fun _ _ => rfl, rfl, fun _ h => h, fun _ h => h⟩

/-- A queue with a descriptor and room for its completion is fetched from, at its head first. -/
theorem State.hostFetch_first {f q : Nat} (hf : s.fetches f q = true) (hn : 0 < s.freeEntries f q)
    (hd : (s.reg (R.HOSTIF_SQ_HEAD f q)).toNat ≠ (s.reg (R.HOSTIF_SQ_TAIL f q)).toNat) :
    (⟨.hostFetch f q (s.reg (R.HOSTIF_SQ_HEAD f q)).toNat, s.beat, []⟩ : Output) ∈ (s.hostFetch f q (n + 1)).out ∧
      (f, q) ∈ (s.hostFetch f q (n + 1)).bt.inflight := by
  rw [State.hostFetch_succ, if_pos ⟨hf, hd, hn⟩]
  have h : (s.fetchOne f q).Fetched f q ((s.fetchOne f q).hostFetch f q n) := State.hostFetch_fetched
  exact ⟨h.out _ (State.mem_out_emit_self rfl), h.inflight _ (List.mem_append_right _ (List.mem_singleton.mpr rfl))⟩

/-! ### What a register's write leaves as it is -/

theorem State.beat_setReg (hk : hostReg k) : (s.setReg k w).beat = s.beat := by
  have h₀ : R.BEAT_COUNT_LO ≠ k := fun h => absurd (h ▸ hk.1) (by decide)
  have h₁ : R.BEAT_COUNT_LO + 4 ≠ k := fun h => absurd (h ▸ hk.1) (by decide)
  rw [State.beat, State.reg64, State.reg_setReg_other _ _ h₀, State.reg_setReg_other _ _ h₁]
  rfl

theorem State.reachable_setReg {j : Job} (hk : hostReg k) : (s.setReg k w).reachable j = s.reachable j := by
  rw [State.reachable, State.beat_setReg hk]
  rfl

section
variable {f q : Nat}

theorem State.fetches_setReg_sqTail : (s.setReg (R.HOSTIF_SQ_TAIL f q) w).fetches f q = s.fetches f q := by
  have h₁ : R.HOSTIF_Q_CTRL f q ≠ R.HOSTIF_SQ_TAIL f q := by simp only [R.HOSTIF_Q_CTRL, R.HOSTIF_SQ_TAIL]; omega
  unfold State.fetches State.queueOn State.hostReach State.regBit
  by_cases h₂ : R.HOSTIF_STATUS f = R.HOSTIF_SQ_TAIL f q
  · simp only [R.HOSTIF_STATUS, R.HOSTIF_SQ_TAIL] at h₂
    omega
  · rw [State.reg_setReg_other _ _ h₁, State.reg_setReg_other _ _ h₂]
    rfl

theorem State.freeEntries_setReg_sqTail : (s.setReg (R.HOSTIF_SQ_TAIL f q) w).freeEntries f q = s.freeEntries f q := by
  have h₁ : R.HOSTIF_Q_CTRL f q ≠ R.HOSTIF_SQ_TAIL f q := by simp only [R.HOSTIF_Q_CTRL, R.HOSTIF_SQ_TAIL]; omega
  have h₂ : R.HOSTIF_CQ_TAIL f q ≠ R.HOSTIF_SQ_TAIL f q := by simp only [R.HOSTIF_CQ_TAIL, R.HOSTIF_SQ_TAIL]; omega
  have h₃ : R.HOSTIF_CQ_HEAD f q ≠ R.HOSTIF_SQ_TAIL f q := by simp only [R.HOSTIF_CQ_HEAD, R.HOSTIF_SQ_TAIL]; omega
  unfold State.freeEntries State.ringSize State.regField
  rw [State.reg_setReg_other _ _ h₁, State.reg_setReg_other _ _ h₂, State.reg_setReg_other _ _ h₃]
  rfl

end

/-! ### Pointers (R234, R248, R782) -/

section
variable (h : s.hostAt who f)
include h

theorem State.wr_sqTail (hv : v.toNat < s.ringSize f q) :
    s.wr who (R.HOSTIF_SQ_TAIL f q) v =
      (s.setReg (R.HOSTIF_SQ_TAIL f q) (masked (s.reg (R.HOSTIF_SQ_TAIL f q)) 0xFFF v)).hostFetch f q 4096 := by
  rw [← status_add_sqTail, State.wr_host h (regRow?_sqTail f q) (queueOff_lt (by decide)) queueOff_mod, State.hostWrite_sqTail hv,
    State.plainWrite_host (lt_trans (queueOff_lt (by decide)) (by decide)) rfl rfl rfl (State.rangeHost_pointer (.inl rfl))]
  rfl

theorem sqTailWrite_taken (hv : v.toNat < s.ringSize f q) : Completes (.sqTailWrite who f q v) s fun t =>
    t.reg (R.HOSTIF_SQ_TAIL f q) = s.reg (R.HOSTIF_SQ_TAIL f q) &&& 0xFFFFF000 ||| v &&& 0xFFF ∧
    (s.fetches f q = true → 0 < s.freeEntries f q →
      (s.reg (R.HOSTIF_SQ_HEAD f q)).toNat ≠ (t.reg (R.HOSTIF_SQ_TAIL f q)).toNat →
      (⟨.hostFetch f q (s.reg (R.HOSTIF_SQ_HEAD f q)).toNat, s.beat, []⟩ : Output) ∈ t.out ∧ (f.val, q.val) ∈ t.bt.inflight) := by
  have hne : R.HOSTIF_SQ_TAIL f q ≠ R.HOSTIF_SQ_HEAD f q := by
    simp only [R.HOSTIF_SQ_TAIL, R.HOSTIF_SQ_HEAD]
    omega
  refine ⟨_, congrArg Host.Outcome.next (State.wr_sqTail h hv), ?_⟩
  beta_reduce
  rw [State.hostFetch_fetched.reg _ hne]
  have hhead : ∀ w, (s.setReg (R.HOSTIF_SQ_TAIL f q) w).reg (R.HOSTIF_SQ_HEAD f q) = s.reg (R.HOSTIF_SQ_HEAD f q) :=
    fun _ => State.reg_setReg_other _ _ hne.symm
  refine ⟨State.reg_setReg_same _ _ _, fun hf hn hd => ?_⟩
  rw [← hhead, ← State.beat_setReg hostReg_sqTail]
  exact State.hostFetch_first (State.fetches_setReg_sqTail.trans hf) (State.freeEntries_setReg_sqTail.symm ▸ hn) ((hhead _).symm ▸ hd)

theorem sqTailWrite_ignored (hv : s.ringSize f q ≤ v.toNat) : Completes (.sqTailWrite who f q v) s fun t =>
    t.reg (R.HOSTIF_SQ_TAIL f q) = s.reg (R.HOSTIF_SQ_TAIL f q) ∧ t.regField (R.ERRC_LAST 0x11 0) 31 24 = 5 := by
  have hx : s.wr who (R.HOSTIF_SQ_TAIL f q) v = s.errAt 5 (.host f) .store (R.HOSTIF_SQ_TAIL f q) := by
    rw [← status_add_sqTail, State.wr_host h (regRow?_sqTail f q) (queueOff_lt (by decide)) queueOff_mod,
      State.hostWrite_sqTail_full hv, h.1]
  exact ⟨_, congrArg Host.Outcome.next hx, State.errAt_host (by decide) hostReg_sqTail hostReg_sqTail⟩

theorem cqHeadWrite_taken : Completes (.cqHeadWrite who f q v) s fun t =>
    t.reg (R.HOSTIF_CQ_HEAD f q) = s.reg (R.HOSTIF_CQ_HEAD f q) &&& 0xFFFFF000 ||| v &&& 0xFFF ∧ (f.val, q.val) ∉ t.bt.full := by
  have hx : s.wr who (R.HOSTIF_CQ_HEAD f q) v =
      ((s.setReg (R.HOSTIF_CQ_HEAD f q) (masked (s.reg (R.HOSTIF_CQ_HEAD f q)) 0xFFF v)).ringFreed f q).hostFetch f q 4096 := by
    rw [← status_add_cqHead, State.wr_host h (regRow?_cqHead f q) (queueOff_lt (by decide)) queueOff_mod, State.hostWrite_cqHead,
      State.plainWrite_host (lt_trans (queueOff_lt (by decide)) (by decide)) rfl rfl rfl (State.rangeHost_pointer (.inr rfl))]
    rfl
  have hne : R.HOSTIF_CQ_HEAD f q ≠ R.HOSTIF_SQ_HEAD f q := by
    simp only [R.HOSTIF_CQ_HEAD, R.HOSTIF_SQ_HEAD]
    omega
  refine ⟨_, congrArg Host.Outcome.next hx, ?_⟩
  beta_reduce
  rw [State.hostFetch_fetched.reg _ hne, State.hostFetch_fetched.full]
  exact ⟨State.reg_setReg_same _ _ _, by simp [State.ringFreed, State.mapBt]⟩

theorem dqHeadWrite_taken (hf : 1 ≤ f.val) : Completes (.dqHeadWrite who f v) s fun t =>
    t.reg (R.HOSTIF_DQ_HEAD (f - 1)) = s.reg (R.HOSTIF_DQ_HEAD (f - 1)) &&& 0xFFFFF000 ||| v &&& 0xFFF ∧ (f.val, 8) ∉ t.bt.full := by
  have hx : s.wr who (R.HOSTIF_STATUS f + 0x130) v =
      (s.setReg (R.HOSTIF_STATUS f + 0x130) (masked (s.reg (R.HOSTIF_STATUS f + 0x130)) 0xFFF v)).ringFreed f 8 := by
    rw [State.wr_host h (regRow?_diagHead f hf) (by decide) (by decide), State.hostWrite_diagHead hf,
      State.plainWrite_host (by decide) rfl rfl rfl State.rangeHost_diagHead]
    rfl
  refine ⟨_, congrArg Host.Outcome.next hx, ?_⟩
  beta_reduce
  rw [← (status_add_diag hf).2]
  exact ⟨State.reg_setReg_same _ _ _, by simp [State.ringFreed, State.mapBt]⟩

end

/-! ### Enables and closes (R785, R961) -/

/-- What a write of a queue's control register would leave there. -/
def State.queueCtrlWord (s : State) (f q : Nat) (v : Word) : Word := masked (s.reg (R.HOSTIF_Q_CTRL f q)) 0xf0f0001 v

theorem queueCtrlWord_bit : bit (s.queueCtrlWord f q v) 0 = bit v 0 := bit_masked (by decide)

theorem queueCtrlWord_size : field (s.queueCtrlWord f q v) 19 16 = field v 19 16 :=
  field_masked fun i h₀ h₁ => by interval_cases i <;> rfl

theorem queueCtrlWord_vector : field (s.queueCtrlWord f q v) 27 24 = field v 27 24 :=
  field_masked fun i h₀ h₁ => by interval_cases i <;> rfl

/-- Setting bit 0 leaves the fields above it. -/
theorem field_or_one {hi lo : Nat} (hl : 1 ≤ lo) : field (v ||| 1) hi lo = field v hi lo := by
  refine Nat.eq_of_testBit_eq fun i => ?_
  have h₁ : bit (1 : Word) (lo + i) = false := by
    rw [bit, ← BitVec.testBit_toNat]
    exact Nat.testBit_lt_two_pow (Nat.one_lt_two_pow (by omega))
  rw [testBit_field, testBit_field, bit_or, h₁, Bool.or_false]

theorem bit_or_one : bit (v ||| 1) 0 = true := by
  rw [bit_or]
  exact Bool.or_true _

/-- A ring that starts is in its first pass. -/
theorem State.ringPhase_startPhase {f q : Nat} : (s.startPhase f q).ringPhase f q = 1 := by
  simp [State.ringPhase, State.startPhase, State.mapBt, b2n]

/-- A queue that starts has its four pointers at entry 0. -/
theorem State.queueStart_reg {f q : Nat} : (s.queueStart f q).reg k =
    if k = R.HOSTIF_SQ_TAIL f q ∨ k = R.HOSTIF_SQ_HEAD f q ∨ k = R.HOSTIF_CQ_HEAD f q ∨ k = R.HOSTIF_CQ_TAIL f q then 0 else s.reg k := by
  change (s.setRegs _).reg k = _
  simp only [State.setRegs, List.foldl_cons, List.foldl_nil, State.reg_setReg]
  grind

theorem State.diagStart_reg {d : Nat} : (s.diagStart d).reg k =
    if k = R.HOSTIF_DQ_HEAD d ∨ k = R.HOSTIF_DQ_TAIL d then 0 else s.reg k := by
  change (s.setRegs _).reg k = _
  simp only [State.setRegs, List.foldl_cons, List.foldl_nil, State.reg_setReg]
  grind

section
variable (h : s.hostAt who f)
include h

/-- A control word in range is written, and a queue that is turned on or off starts or closes. -/
theorem State.wr_queueCtrl (hn : 4 ≤ field v 19 16 ∧ field v 19 16 ≤ 12 ∨ bit v 0 = false ∧ field v 19 16 = s.regField (R.HOSTIF_Q_CTRL f q) 19 16)
    (ho : s.queueOn f q = true → field v 19 16 = s.regField (R.HOSTIF_Q_CTRL f q) 19 16) (hv : field v 27 24 ≤ 8) :
    s.wr who (R.HOSTIF_Q_CTRL f q) v =
      let t := s.setReg (R.HOSTIF_Q_CTRL f q) (s.queueCtrlWord f q v)
      if bit v 0 ∧ ¬ s.queueOn f q then t.queueStart f q
      else if s.queueOn f q ∧ ¬ bit v 0 then t.queueClose f q
      else t := by
  have hk : R.HOSTIF_STATUS f + queueOff q 0 = R.HOSTIF_Q_CTRL f q := status_add_queueOff
  have hr : s.rangeHost f (queueOff q 0) (R.HOSTIF_Q_CTRL f q) v (s.queueCtrlWord f q v) = .ok := by
    refine State.rangeHost_queueCtrl ?_ ?_ ?_
    · rwa [queueCtrlWord_bit, queueCtrlWord_size]
    · rwa [queueCtrlWord_size]
    · rwa [queueCtrlWord_vector]
  have hw := State.wr_host (v := v) h (regRow?_queueCtrl f q) (queueOff_lt (by decide)) queueOff_mod
  have hp : s.plainWrite who (R.HOSTIF_STATUS f + queueOff q 0) v queueCtrlRow = _ :=
    State.plainWrite_host (lt_trans (queueOff_lt (by decide)) (by decide)) rfl rfl rfl (by rw [hk]; exact hr)
  rw [hk] at hw hp
  have hb : (s.setReg (R.HOSTIF_Q_CTRL f q) (s.queueCtrlWord f q v)).regBit (R.HOSTIF_Q_CTRL f q) 0 = bit v 0 := by
    rw [State.regBit, State.reg_setReg_same, queueCtrlWord_bit]
  rw [hw, State.hostWrite_queueCtrl, hp]
  dsimp only
  rw [show masked (s.reg (R.HOSTIF_Q_CTRL f q)) (w32 queueCtrlRow.rw) v = s.queueCtrlWord f q v from rfl, hb]
  rfl

theorem hostQueueEnable_queue (ho : s.queueOn f q = false) (h₀ : 4 ≤ field v 19 16) (h₁ : field v 19 16 ≤ 12) (hv : field v 27 24 ≤ 8) :
    Completes (.hostQueueEnable who f q false v) s fun t =>
      t.queueOn f q = true ∧ t.reg (R.HOSTIF_SQ_TAIL f q) = 0 ∧ t.reg (R.HOSTIF_SQ_HEAD f q) = 0 ∧ t.reg (R.HOSTIF_CQ_HEAD f q) = 0 ∧
      t.reg (R.HOSTIF_CQ_TAIL f q) = 0 ∧ t.ringPhase f q = 1 ∧ t.ringSize f q = 2 ^ field v 19 16 := by
  have hx : s.wr who (R.HOSTIF_Q_CTRL f q) (v ||| 1) =
      (s.setReg (R.HOSTIF_Q_CTRL f q) (s.queueCtrlWord f q (v ||| 1))).queueStart f q := by
    rw [State.wr_queueCtrl h (.inl ?_) (fun hon => absurd hon (by simp [ho])) ?_]
    · exact if_pos ⟨bit_or_one, by simp [ho]⟩
    · rw [field_or_one (by decide)]
      exact ⟨h₀, h₁⟩
    · rwa [field_or_one (by decide)]
  have hctrl : ((s.setReg (R.HOSTIF_Q_CTRL f q) (s.queueCtrlWord f q (v ||| 1))).queueStart f q).reg (R.HOSTIF_Q_CTRL f q) =
      s.queueCtrlWord f q (v ||| 1) := by
    rw [State.queueStart_reg, if_neg, State.reg_setReg_same]
    simp only [R.HOSTIF_Q_CTRL, R.HOSTIF_SQ_TAIL, R.HOSTIF_SQ_HEAD, R.HOSTIF_CQ_HEAD, R.HOSTIF_CQ_TAIL]
    omega
  refine ⟨_, congrArg Host.Outcome.next hx, ?_, ?_, ?_, ?_, ?_, State.ringPhase_startPhase, ?_⟩
  · rw [State.queueOn, State.regBit, hctrl, queueCtrlWord_bit, bit_or_one]
  · rw [State.queueStart_reg, if_pos (by simp)]
  · rw [State.queueStart_reg, if_pos (by simp)]
  · rw [State.queueStart_reg, if_pos (by simp)]
  · rw [State.queueStart_reg, if_pos (by simp)]
  · rw [State.ringSize, State.regField, hctrl, queueCtrlWord_size, field_or_one (by decide)]

theorem hostQueueEnable_diag (hf : 1 ≤ f.val) (ho : s.regBit (R.HOSTIF_DQ_CTRL (f - 1)) 0 = false) (h₀ : 4 ≤ field v 19 16)
    (h₁ : field v 19 16 ≤ 12) : Completes (.hostQueueEnable who f q true v) s fun t =>
      t.regBit (R.HOSTIF_DQ_CTRL (f - 1)) 0 = true ∧ t.reg (R.HOSTIF_DQ_HEAD (f - 1)) = 0 ∧ t.reg (R.HOSTIF_DQ_TAIL (f - 1)) = 0 := by
  have hk := (status_add_diag hf).1
  let w := masked (s.reg (R.HOSTIF_DQ_CTRL (f - 1))) 0xf0001 (v ||| 1)
  have hsize : field w 19 16 = field v 19 16 :=
    (field_masked fun i h₀ h₁ => by interval_cases i <;> rfl).trans (field_or_one (by decide))
  have hbit : bit w 0 = true := (bit_masked (by decide)).trans bit_or_one
  have hp : s.plainWrite who (R.HOSTIF_STATUS f + 0x12C) (v ||| 1) diagCtrlRow = _ :=
    State.plainWrite_host (by decide) rfl rfl rfl (by
      rw [hk]
      exact State.rangeHost_diagCtrl (w := w) (hsize ▸ h₀) (hsize ▸ h₁) ho)
  have hw := State.wr_host (v := v ||| 1) h (regRow?_diagCtrl f hf) (by decide) (by decide)
  rw [hk] at hw hp
  have hx : s.wr who (R.HOSTIF_DQ_CTRL (f - 1)) (v ||| 1) = (s.setReg (R.HOSTIF_DQ_CTRL (f - 1)) w).diagStart (f - 1) := by
    rw [hw, State.hostWrite_diagCtrl hf, hp]
    refine if_pos ⟨?_, by simp [ho]⟩
    rw [State.regBit, State.reg_setReg_same]
    exact hbit
  have he : exec (.hostQueueEnable who f q true v) s = .next (s.wr who (R.HOSTIF_DQ_CTRL (f - 1)) (v ||| 1)) := by
    rw [← hk]
    rfl
  refine ⟨_, he.trans (congrArg Host.Outcome.next hx), ?_, ?_, ?_⟩
  · rw [State.regBit, State.diagStart_reg, if_neg, State.reg_setReg_same]
    · exact hbit
    · simp only [R.HOSTIF_DQ_CTRL, R.HOSTIF_DQ_HEAD, R.HOSTIF_DQ_TAIL]
      omega
  · rw [State.diagStart_reg, if_pos (.inl rfl)]
  · rw [State.diagStart_reg, if_pos (.inr rfl)]

theorem hostQueueClose_taken (ho : s.queueOn f q = true) (hn : field v 19 16 = s.regField (R.HOSTIF_Q_CTRL f q) 19 16)
    (hv : field v 27 24 ≤ 8) : Completes (.hostQueueClose who f q v) s fun t =>
      t.queueOn f q = false ∧
      ∀ i j, s.job? i = some j → j.isWaiting = true → j.ofQueue f q = true → s.reachable j = true →
        (t.job? i).map (fun x => (x.stage, x.cls, x.reason)) = some (.answered, 5, 0x0301) := by
  have hb : bit (setBit v 0 false) 0 = false := (bit_setBit (by decide)).trans (if_pos rfl)
  have hsize : field (setBit v 0 false) 19 16 = field v 19 16 := field_setField_other (.inr (by decide))
  have hvec : field (setBit v 0 false) 27 24 = field v 27 24 := field_setField_other (.inr (by decide))
  let u := s.setReg (R.HOSTIF_Q_CTRL f q) (s.queueCtrlWord f q (setBit v 0 false))
  have hx : s.wr who (R.HOSTIF_Q_CTRL f q) (setBit v 0 false) = u.queueClose f q := by
    rw [State.wr_queueCtrl h (.inr ⟨hb, hsize.trans hn⟩) (fun _ => hsize.trans hn) (hvec ▸ hv), hb]
    dsimp only
    rw [if_neg (by simp), if_pos ⟨ho, by simp⟩]
  refine ⟨_, congrArg Host.Outcome.next hx, ?_, fun i j hj hwait hq hr => ?_⟩
  · have hr : (u.queueClose f q).reg (R.HOSTIF_Q_CTRL f q) = u.reg (R.HOSTIF_Q_CTRL f q) :=
      State.cancelJobs_reg (le_trans (by decide) hostReg_queueCtrl.1)
    rw [State.queueOn, State.regBit, hr, State.reg_setReg_same, queueCtrlWord_bit, hb]
  · have ha := State.cancelJobs_answered (s := u) (pick := fun j => j.ofQueue f q) (e := u.openEdge) hj hq
      ((State.reachable_setReg hostReg_queueCtrl).trans hr) (Job.onVat_of_isWaiting hwait)
    exact State.map_job?_of_jobIs (ha.of_jobs rfl) fun y ⟨hs, _, hc, hr, _⟩ => by rw [hs, hc, hr]

end

end Sys2Proof.Machine

/-! SUPPORT. Resets of a function and of the link, and the loss of Bus Master Enable (R786, R787, R961). -/

namespace Sys2Proof.Machine

variable {s t : State} {f : Fin 17} {q : Fin 8} {k n : Nat}

/-! ### Registers that return to their reset values -/

theorem spGet_filter {α : Type} {d : Nat → α} {m : List (Nat × α)} {p : Nat → Bool} :
    spGet d (m.filter fun e => p e.1) k = if p k then spGet d m k else d k := by
  induction m with
  | nil => exact (ite_self _).symm
  | cons e m ih =>
    rw [List.filter_cons]
    by_cases hk : k = e.1
    · subst hk
      by_cases hp : p e.1 <;> simp [hp, spGet, ih]
    · by_cases hp : p e.1 <;> simp [hp, spGet, ih, hk]

theorem State.clearRegs_reg {lo hi : Nat} : (s.clearRegs lo hi).reg k = if lo ≤ k ∧ k < hi then regReset k else s.reg k := by
  have h : (s.clearRegs lo hi).reg k = _ := spGet_filter (p := fun a => decide (a < lo) || decide (hi ≤ a)) (m := s.regs)
  rw [h]
  by_cases hk : lo ≤ k ∧ k < hi
  · rw [if_pos hk, if_neg (by simpa using hk)]
  · rw [if_neg hk, if_pos (by simp; omega)]
    rfl

/-! ### A reset of one function (R786, R961) -/

/-- A reset of a function writes zero to its queues' controls and to its window's size. -/
theorem regReset_queueCtrl : ∀ (f : Fin 17) (q : Fin 8), regReset (R.HOSTIF_Q_CTRL f q) = 0 := by decide +kernel
theorem regReset_winSize : ∀ f : Fin 17, regReset (R.HOSTIF_WIN_SIZE f) = 0 := by decide +kernel

/-- Turning a function's queues off changes no register of another function. -/
theorem State.queuesOff_reg {g : Nat} (h : k < R.HOSTIF_STATUS g ∨ R.HOSTIF_STATUS g + 0x8000 ≤ k) : (s.queuesOff g).reg k = s.reg k := by
  simp only [R.HOSTIF_STATUS] at h
  unfold State.queuesOff
  extract_lets s₁ s₂
  have h₁ : s₁.reg k = s.reg k := by
    refine List.foldlRecOn _ _ (motive := fun u : State => u.reg k = s.reg k) rfl fun u hu r hr => (State.reg_setReg_other _ _ ?_).trans hu
    have := List.mem_range.mp hr
    simp only [R.HOSTIF_Q_CTRL]
    omega
  have h₂ : s₂.reg k = s₁.reg k := by
    unfold s₂
    split
    · rfl
    · refine State.reg_setReg_other _ _ ?_
      simp only [R.HOSTIF_DQ_CTRL]
      omega
  refine (State.reg_setReg_other _ _ ?_).trans (h₂.trans h₁)
  simp only [R.HOSTIF_STATUS]
  omega

theorem State.queuesOff_busMaster {g : Nat} : (s.queuesOff g).regBit (R.HOSTIF_STATUS g) 1 = false := by
  unfold State.queuesOff
  extract_lets s₁ s₂
  exact (State.regBit_setRegBit (s := s₂) (by decide)).trans (if_pos rfl)

/-- A reset of a function leaves HOSTIF as turning its queues off does, but for the function's own registers after its status. -/
theorem State.functionReset_reg {g : Nat} (hg : g < 17) (hk : hostReg k) :
    (s.functionReset g).reg k =
      if R.HOSTIF_STATUS g + 4 ≤ k ∧ k < R.HOSTIF_STATUS g + 0x8000 then regReset k else (s.queuesOff g).reg k := by
  unfold State.functionReset
  extract_lets mine s₁ s₂ s₃ b
  have h₂ : s₂.reg k = s₁.reg k := by
    unfold s₂
    split
    · obtain ⟨u, a, hu, -, he⟩ := State.abortJobs_facts (s := s₁) (job := s₁.bt.nextJob) (d := fnDeckle g) (all := []) (drain := none)
        (pick := mine) (.inl rfl)
      have hne₁ : k ≠ R.ADMIT_ABORT_EDGE := fun h => absurd (h ▸ hk.1) (by decide)
      have hne₂ : k ≠ R.ADMIT_STATUS := fun h => absurd (h ▸ hk.1) (by decide)
      rw [he]
      exact (State.reg_setReg_other _ _ hne₁).trans ((State.reg_setReg_other _ _ hne₂).trans
        (hu.reg k (le_trans (by decide) hk.1) (lt_trans hk.2 (by decide))))
    · rfl
  have hev : ((s₃.clearRegs (b + 4) (b + 0x8000)).queueEvent g).reg k = (s₃.clearRegs (b + 4) (b + 0x8000)).reg k :=
    (State.raise_eventsOnly (by split <;> omega) (by simp; split <;> omega)).reg k (not_eventReg_of_hostReg hk)
  rw [hev, State.clearRegs_reg]
  split
  · rfl
  · exact h₂

/-- After a reset of function `g` its queues are off, and a queue of another function that was off still is. -/
theorem State.functionReset_queueOn_self (g : Fin 17) (r : Fin 8) : (s.functionReset g).queueOn g r = false := by
  have hr : (s.functionReset g).reg (R.HOSTIF_Q_CTRL g r) = 0 := by
    rw [State.functionReset_reg g.isLt, if_pos, regReset_queueCtrl]
    · simp only [R.HOSTIF_STATUS, R.HOSTIF_Q_CTRL]
      omega
    · exact hostReg_queueCtrl
  rw [State.queueOn, State.regBit, hr]
  rfl

theorem State.functionReset_queueOn_other {g : Nat} {h : Fin 17} (hg : g < 17) (r : Fin 8) (hne : h.val ≠ g) :
    (s.functionReset g).queueOn h r = s.queueOn h r := by
  refine State.regBit_eq_of_reg ?_
  rw [State.functionReset_reg hg hostReg_queueCtrl, if_neg, State.queuesOff_reg]
  · simp only [R.HOSTIF_STATUS, R.HOSTIF_Q_CTRL]
    omega
  · simp only [R.HOSTIF_STATUS, R.HOSTIF_Q_CTRL]
    omega

theorem functionLevelReset_virtual (hf : 1 ≤ f.val) : Completes (.functionLevelReset f) s fun t =>
    (∀ r : Fin 8, t.queueOn f r = false) ∧ t.hostReach f = false ∧ t.pends (215 + f) ∧ t.reg (R.HOSTIF_WIN_SIZE f) = 0 := by
  have hx : execFunctionLevelReset f s = .next (s.functionReset f) := congrArg Host.Outcome.next (if_neg (by omega))
  refine ⟨_, hx, State.functionReset_queueOn_self f, ?_, ?_, ?_⟩
  · have hr : (s.functionReset f).reg (R.HOSTIF_STATUS f) = (s.queuesOff f).reg (R.HOSTIF_STATUS f) := by
      rw [State.functionReset_reg f.isLt hostReg_own, if_neg (by omega)]
    rw [State.hostReach, State.regBit_eq_of_reg hr, State.queuesOff_busMaster, Bool.false_and]
  · unfold State.functionReset
    extract_lets mine s₁ s₂ s₃ b
    have he : (if f.val = 0 then 238 else 215 + f.val) = 215 + f.val := if_neg (by omega)
    rw [State.queueEvent, he]
    exact State.raise_pends (by omega) (by simp; omega)
  · rw [State.functionReset_reg f.isLt, if_pos, regReset_winSize]
    · simp only [R.HOSTIF_STATUS, R.HOSTIF_WIN_SIZE]
      omega
    · simp only [hostReg, R.HOSTIF_WIN_SIZE]
      omega

/-! ### The link (R786, R787) -/

/-- What a fold over the functions leaves of a function's status, when each step sets that of its own. -/
theorem State.foldl_status {g : Fin 17} {l : List Nat} {c : Nat → Word → Word} (hg : g.val ∈ l) {P : Word → Prop} (hP : ∀ w, P (c g w)) :
    P ((l.foldl (fun u f => u.setReg (R.HOSTIF_STATUS f) (c f (u.reg (R.HOSTIF_STATUS f)))) s).reg (R.HOSTIF_STATUS g)) := by
  refine foldl_of_mem (M := fun _ : State => True) (N := fun u : State => P (u.reg (R.HOSTIF_STATUS g))) trivial hg (fun _ _ _ _ => trivial)
    (fun u _ => ?_) fun u a _ hu => ?_
  · rw [State.reg_setReg_same]
    exact hP _
  · by_cases ha : a = g.val
    · subst ha
      rw [State.reg_setReg_same]
      exact hP _
    · rw [State.reg_setReg_other]
      · exact hu
      · simp only [R.HOSTIF_STATUS]
        omega

theorem hostConventionalReset_completes : Completes .hostConventionalReset s fun t =>
    (∀ (g : Fin 17) (r : Fin 8), t.queueOn g r = false) ∧ (∀ g : Fin 17, t.hostReach g = false) ∧ t.pends 239 := by
  let u := (List.range 17).foldl State.functionReset s
  let w := (List.range 17).foldl (fun s f => s.setRegBit (R.HOSTIF_STATUS f) 2 false) u
  have hw : w.EventsOnly (w.raise 239 81) := State.raise_eventsOnly (by decide) (by decide)
  refine ⟨w.raise 239 81, rfl, fun g r => ?_, fun g => ?_, State.raise_pends (by decide) (by decide)⟩
  · have hu : u.queueOn g r = false :=
      foldl_of_mem (M := fun _ : State => True) (N := fun u : State => u.queueOn g r = false) trivial (List.mem_range.mpr g.isLt)
        (fun _ _ _ _ => trivial) (fun v _ => State.functionReset_queueOn_self g r) fun v a ha hv => by
          by_cases hag : a = g.val
          · subst hag
            exact State.functionReset_queueOn_self g r
          · exact (State.functionReset_queueOn_other (List.mem_range.mp ha) r (Ne.symm hag)).trans hv
    have hreg : w.reg (R.HOSTIF_Q_CTRL g r) = u.reg (R.HOSTIF_Q_CTRL g r) :=
      List.foldlRecOn _ _ (motive := fun v : State => v.reg (R.HOSTIF_Q_CTRL g r) = u.reg (R.HOSTIF_Q_CTRL g r)) rfl fun v hv a ha =>
        (State.reg_setReg_other _ _ (by simp only [R.HOSTIF_STATUS, R.HOSTIF_Q_CTRL]; omega)).trans hv
    exact (State.regBit_eq_of_reg ((hw.reg _ (not_eventReg_of_hostReg hostReg_queueCtrl)).trans hreg)).trans hu
  · have hb : bit (w.reg (R.HOSTIF_STATUS g)) 2 = false :=
      State.foldl_status (c := fun _ w => setBit w 2 false) (P := fun w => bit w 2 = false) (List.mem_range.mpr g.isLt) fun _ =>
        (bit_setBit (by decide)).trans (if_pos rfl)
    have hreg := hw.reg _ (not_eventReg_of_hostReg (hostReg_own (f := g)))
    rw [State.hostReach, State.regBit_eq_of_reg hreg, State.regBit_eq_of_reg hreg, State.regBit, State.regBit]
    exact (congrArg _ hb).trans (Bool.and_false _)

theorem busMasterDisable_completes : Completes (.busMasterDisable f) s fun t => t.hostReach f = false ∧ s.onlyRegs t [R.HOSTIF_STATUS f] := by
  refine ⟨_, rfl, ?_, State.setReg_onlyRegs.2⟩
  rw [State.hostReach, State.regBit_setRegBit (by decide), if_pos rfl, Bool.false_and]

/-- Fetches change no function's status. -/
theorem State.fetchAll_status {a b : Nat} : (s.fetchAll a).reg (R.HOSTIF_STATUS b) = s.reg (R.HOSTIF_STATUS b) := by
  refine List.foldlRecOn _ _ (motive := fun u : State => u.reg (R.HOSTIF_STATUS b) = s.reg (R.HOSTIF_STATUS b)) rfl fun u hu r hr => ?_
  refine (State.hostFetch_fetched.reg _ ?_).trans hu
  have := List.mem_range.mp hr
  simp only [R.HOSTIF_STATUS, R.HOSTIF_SQ_HEAD]
  omega

theorem hostLinkUp_completes {bme : BitVec 17} : Completes (.hostLinkUp bme) s fun t =>
    (∀ g : Fin 17, t.hostReach g = bme.getLsbD g) ∧ t.pends 239 := by
  let u := (List.range 17).foldl (fun s f => s.setRegField (R.HOSTIF_STATUS f) 2 1 (2 + b2n (bme.getLsbD f))) s
  have hu : u.EventsOnly (u.raise 239 81) := State.raise_eventsOnly (by decide) (by decide)
  refine ⟨(List.range 17).foldl State.fetchAll (u.raise 239 81), rfl, fun g => ?_, ?_⟩
  · have hf : ((List.range 17).foldl State.fetchAll (u.raise 239 81)).reg (R.HOSTIF_STATUS g) = u.reg (R.HOSTIF_STATUS g) :=
      List.foldlRecOn _ _ (motive := fun v : State => v.reg (R.HOSTIF_STATUS g) = u.reg (R.HOSTIF_STATUS g))
        (hu.reg _ (not_eventReg_of_hostReg hostReg_own)) fun _ hv _ _ => State.fetchAll_status.trans hv
    have hb : bit (u.reg (R.HOSTIF_STATUS g)) 1 = bme.getLsbD g ∧ bit (u.reg (R.HOSTIF_STATUS g)) 2 = true :=
      State.foldl_status (c := fun f w => setField w 2 1 (2 + b2n (bme.getLsbD f)))
        (P := fun w => bit w 1 = bme.getLsbD g ∧ bit w 2 = true) (List.mem_range.mpr g.isLt) fun w => by
          rw [bit_setField, bit_setField]
          cases bme.getLsbD g <;> exact ⟨rfl, rfl⟩
    rw [State.hostReach, State.regBit, State.regBit, hf, hb.1, hb.2, Bool.and_true]
  · have hk : (u.raise 239 81).KeepsEvents ((List.range 17).foldl State.fetchAll (u.raise 239 81)) :=
      State.KeepsEvents.refl.foldl fun _ _ _ hv => hv.fetchAll
    exact hk.pend _ (by decide) (State.raise_pends (by decide) (by decide))

end Sys2Proof.Machine

namespace Sys2Proof
open Machine

/-- Settles O39: each write by the register it names, each reset by what it leaves of HOSTIF. -/
theorem hostRings : Obligations.HostRings := fun _ _ _ _ _ h =>
  ⟨sqTailWrite_taken h, sqTailWrite_ignored h, cqHeadWrite_taken h, dqHeadWrite_taken h, hostQueueEnable_queue h, hostQueueEnable_diag h,
    hostQueueClose_taken h, functionLevelReset_virtual, hostConventionalReset_completes, busMasterDisable_completes,
    fun _ => hostLinkUp_completes⟩

end Sys2Proof

/-! SUPPORT. What leaves key custody, or the changes it holds, as it is: draws, records, raised events, writes to the reservoir, and the
use of keys (R313 to R316, R344, R345). -/

namespace Sys2Proof.Machine

variable {s t : State} {x : Work}

/-! ### Draws and records -/

/-- A draw from the device DRBG is the spring's (R579). -/
theorem State.drawDev_eq {n : Nat} : (s.drawDev n).2 = { s with spr := (s.drawDev n).2.spr } := by
  induction n generalizing s with
  | zero => rfl
  | succ n ih =>
    unfold State.drawDev
    dsimp only
    split <;> exact ih

theorem State.drawSalt_eq : s.drawSalt.2 = { s with spr := s.drawSalt.2.spr } := State.drawDev_eq

@[simp] theorem State.drawSalt_ks : s.drawSalt.2.ks = s.ks := by rw [State.drawSalt_eq]

theorem State.drawSalt_reg {k : Nat} : s.drawSalt.2.reg k = s.reg k := by
  rw [State.drawSalt_eq]
  rfl

theorem State.drawVatAux_ks {v k n : Nat} : (State.drawVatAux v k s n).2.ks = s.ks := by
  induction k generalizing s n with
  | zero => rfl
  | succ k ih =>
    unfold State.drawVatAux
    split
    · rfl
    · exact ih

theorem State.jobDraw_ks {v n : Nat} : (s.jobDraw v n).2.2.ks = s.ks := by
  unfold State.jobDraw State.drawVat
  split
  · rfl
  · split
    next h =>
      split at h
      · cases h
      · cases h
        exact State.drawVatAux_ks
    next => rfl

theorem State.drawKey_ks {v kt n k : Nat} : (s.drawKey v kt n k).2.2.ks = s.ks := by
  induction k generalizing s with
  | zero => rfl
  | succ k ih =>
    unfold State.drawKey
    dsimp only
    split
    · exact ih.trans State.jobDraw_ks
    · exact State.jobDraw_ks

/-- A record joins the journal's queue, and no more. -/
theorem State.queueRec_eq {p : PendRec} : s.queueRec p = { s with jn := (s.queueRec p).jn } := by
  unfold State.queueRec
  split <;> rfl

@[simp] theorem State.queueRec_ks {p : PendRec} : (s.queueRec p).ks = s.ks := by rw [State.queueRec_eq]

theorem State.mem_queueRec {p : PendRec} (h : (s.chain p.chain).present = true) : p ∈ (s.queueRec p).jn.queue := by
  unfold State.chain at h
  unfold State.queueRec
  rw [if_pos h]
  exact List.mem_append_right _ (List.mem_singleton_self p)

/-! ### Events and the reservoir -/

theorem State.foldl_ks {α : Type} {l : List α} {f : State → α → State} (hf : ∀ u a, (f u a).ks = u.ks) : (l.foldl f s).ks = s.ks :=
  List.foldlRecOn l f (motive := fun u => u.ks = s.ks) rfl fun u hu a _ => (hf u a).trans hu

/-- Raised events change no key, nor do the excursions that some events are as well (R607, R619). -/
theorem State.raise_ks {n : Nat} (hn : n < 640) : (s.raise n).ks = s.ks := by
  have h : s.ExcursionOnly (s.raiseOnly n) := .raiseOnly .refl hn
  have hr : s.ExcursionOnly (s.raise n) := .ite (h.excursion (m := 6) (by decide)) (.ite (h.excursion (m := 7) (by decide)) h)
  obtain ⟨_, _, _, _, _, _, _, e⟩ := hr.rest
  rw [e]

theorem State.EventsOnly.ks (h : s.EventsOnly t) : t.ks = s.ks := by
  obtain ⟨_, _, _, _, _, rfl⟩ := h.rest
  rfl

@[simp] theorem State.bump_ks {k : Nat} : (s.bump k).ks = s.ks := rfl

theorem State.emit_ks {p : OutPort} {bs : Bytes} : (s.emit p bs).ks = s.ks := by
  unfold State.emit
  split <;> rfl

theorem State.nvmeIssue_ks {q : Nat} {kind : NvmeKind} {lba rbn : Nat} {data : Bytes} :
    (s.nvmeIssue q kind lba rbn data).ks = s.ks := by
  unfold State.nvmeIssue
  split
  · cases kind <;> exact State.emit_ks
  · exact State.raise_ks (by decide)

theorem State.treeUp_ks {k i f : Nat} : (s.treeUp k i f).ks = s.ks := by
  induction f generalizing s k i with
  | zero => rfl
  | succ f ih => exact ih

theorem State.writeTreeBlock_ks {n : Nat} : (s.writeTreeBlock n).ks = s.ks := by
  unfold State.writeTreeBlock
  split
  · rfl
  · exact State.nvmeIssue_ks

theorem State.resvWrite_ks {n : Ns} {j : Nat} {data : Bytes} : (s.resvWrite n j data).ks = s.ks := by
  unfold State.resvWrite
  dsimp only
  rw [State.foldl_ks fun _ _ => State.writeTreeBlock_ks, State.treeUp_ks]
  exact State.nvmeIssue_ks

@[simp] theorem State.writeSlotBlock_ks {d h : Nat} : (s.writeSlotBlock d h).ks = s.ks := by
  unfold State.writeSlotBlock
  split
  · exact State.resvWrite_ks
  · rfl

/-! ### The changes that are held -/

theorem State.ite_changes {c : Prop} [Decidable c] :
    (if c then s else t).ks.changes = if c then s.ks.changes else t.ks.changes := apply_ite (fun t => t.ks.changes) c s t

/-- A record is recovered into the working copies and the slots (R344). -/
theorem State.recoverKey_changes {d h : Nat} : (s.recoverKey d h).ks.changes = s.ks.changes := by
  unfold State.recoverKey
  dsimp only
  split <;> simp [State.raise_ks, State.ite_changes, State.install]

theorem State.tagFail_changes {d h : Nat} : (s.tagFail d h).ks.changes = s.ks.changes :=
  (congrArg KeysState.changes (State.raise_ks (by decide))).trans State.recoverKey_changes

theorem State.loadWindow_changes {v : Nat} {r : KeyRec} : (s.loadWindow v r).ks.changes = s.ks.changes := by
  unfold State.loadWindow
  split <;> rfl

theorem State.useKeys_changes {a b : Option KeyRec} : (s.useKeys x a b).ks.changes = s.ks.changes := by
  unfold State.useKeys
  extract_lets one u
  refine List.foldlRecOn _ _ (motive := fun w : State => w.ks.changes = s.ks.changes) rfl fun w hw r _ => Eq.trans ?_ hw
  unfold one
  extract_lets w'
  have hw' : w'.ks.changes = w.ks.changes := by
    unfold w'
    split <;> rfl
  split
  · exact State.tagFail_changes.trans hw'
  · exact State.loadWindow_changes.trans hw'

end Sys2Proof.Machine

/-! SUPPORT. What a key verb holds until its due edge (R323, R334 to R339, R954). -/

namespace Sys2Proof.Machine

variable {s t u : State} {i : Nat} {x : Work}

/-- While the work of `x` goes on in `t`, its outcome is unknown and the changes held are those of `s`. -/
structure State.KeyWork (s t : State) (x : Work) : Prop where
  awaits : t.Awaits x.j.id
  changes : t.ks.changes = s.ks.changes

/-- Job `i` has ended OK with one change of its own, which takes effect at its due edge, or not OK with none. -/
def State.KeyEnded (s t : State) (i : Nat) (j : Job) : Prop :=
  ((t.job? i).map (·.cls) = some 0 ∧ ∃ c, t.ks.changes = s.ks.changes ++ [c] ∧ c.job = i ∧ c.deckle = j.deckle ∧
    c.handle = c.record.handle ∧ c.due = j.due.getD 0 ∧ c.record.since = j.due.getD 0) ∨
  ((t.job? i).map (·.cls) ≠ some 0 ∧ t.ks.changes = s.ks.changes)

theorem State.KeyEnded.ite {c : Prop} {_ : Decidable c} {j : Job} (ht : s.KeyEnded t i j) (hu : s.KeyEnded u i j) :
    s.KeyEnded (if c then t else u) i j := by
  split <;> assumption

theorem State.finish_cls {vd : Nat × Nat} {result output : Bytes} (h : s.Awaits x.j.id) :
    ((s.finish x vd result output).job? x.j.id).map (·.cls) = some vd.1 := by
  have hend := h.finish (vd := vd) (result := result) (output := output)
  obtain ⟨j, hj, e⟩ := Option.map_eq_some_iff.mp hend
  have hcls : j.cls = vd.1 := congrArg (fun p => p.2.1) e
  rw [hj, Option.map_some, hcls]

/-- A held change is the last, and the record it brings is `r`. -/
theorem State.hold_changes {r : KeyRec} {sync : Bool} : ∃ c, (s.hold x r sync).ks.changes = s.ks.changes ++ [c] ∧ c.job = x.j.id ∧
    c.deckle = x.j.deckle ∧ c.handle = r.handle ∧ c.due = x.j.due.getD 0 ∧ c.record = r := by
  unfold State.hold
  extract_lets c u w
  refine ⟨c, ?_, rfl, rfl, rfl, rfl, rfl⟩
  split
  · exact congrArg KeysState.changes (State.queueRec_ks (s := u))
  · rfl

namespace State.KeyWork

theorem refl (h : s.Awaits x.j.id) : s.KeyWork s x := ⟨h, rfl⟩

theorem ite {c : Prop} {_ : Decidable c} (ht : s.KeyWork t x) (hu : s.KeyWork u x) : s.KeyWork (if c then t else u) x := by
  split <;> assumption

theorem ite_sndsnd {α β : Type} {c : Prop} {_ : Decidable c} {p q : α × β × State} (hp : s.KeyWork p.2.2 x) (hq : s.KeyWork q.2.2 x) :
    s.KeyWork (if c then p else q).2.2 x := by
  split <;> assumption

theorem drawSalt (h : s.KeyWork t x) : s.KeyWork t.drawSalt.2 x :=
  ⟨h.awaits.drawSalt, (congrArg KeysState.changes State.drawSalt_ks).trans h.changes⟩

theorem jobDraw {v n : Nat} (h : s.KeyWork t x) : s.KeyWork (t.jobDraw v n).2.2 x :=
  ⟨h.awaits.jobDraw, (congrArg KeysState.changes State.jobDraw_ks).trans h.changes⟩

theorem drawKey {v kt n k : Nat} (h : s.KeyWork t x) : s.KeyWork (t.drawKey v kt n k).2.2 x :=
  ⟨h.awaits.drawKey, (congrArg KeysState.changes State.drawKey_ks).trans h.changes⟩

theorem useKeys {a b : Option KeyRec} (h : s.KeyWork t x) : s.KeyWork (t.useKeys x a b) x :=
  ⟨h.awaits.useKeys, State.useKeys_changes.trans h.changes⟩

/-- The job of a key verb ends with its change held when it is OK, and without one otherwise (R323, R954). -/
theorem finishKey {vd : Nat × Nat} {r : KeyRec} {sync : Bool} {output : Bytes} (h : s.KeyWork t x) (hr : r.since = x.j.due.getD 0) :
    s.KeyEnded (t.finishKey x vd r sync output) x.j.id x.j := by
  unfold State.finishKey
  dsimp only
  by_cases hvd : vd.1 = 0
  · obtain ⟨c, hc, hjob, hdeckle, hhandle, hdue, hrec⟩ := State.hold_changes (s := t) (x := x) (r := r) (sync := sync)
    rw [if_pos hvd]
    refine .inl ⟨(State.finish_cls h.awaits.hold).trans (congrArg some hvd), c, ?_, hjob, hdeckle, ?_, hdue, ?_⟩
    · exact hc.trans (by rw [h.changes])
    · rw [hhandle, hrec]
    · rw [hrec, hr]
  · rw [if_neg hvd]
    exact .inr ⟨fun e => hvd (Option.some.inj ((State.finish_cls h.awaits).symm.trans e)), h.changes⟩

end State.KeyWork

/-! ### The verbs -/

/-- What a command on a job's work makes of the state ends the job as a key verb, as the job awaits its outcome until then. -/
theorem Completes.keyEnded {c : Instr} {verb : Nat} (h : s.work i verb = some x) (hc : exec c s = .next t)
    (hend : s.KeyWork s x → s.KeyEnded t x.j.id x.j) : Completes c s (s.KeyEnded · i x.j) := by
  obtain ⟨-, rfl, ha⟩ := State.work_facts h
  exact ⟨t, hc, hend (.refl ha)⟩

theorem keyEnded_keyImport (h : s.work i 0x0401 = some x) : Completes (.keyImport i) s (s.KeyEnded · i x.j) :=
  .keyEnded h rfl fun hw => by
    rw [h]
    dsimp -zeta only
    extract_lets +onlyGivenNames b hd term salt
    have hs : s.KeyWork salt.2 x := hw.drawSalt
    refine .ite (hs.finishKey rfl) (hs.useKeys.finishKey ?_)
    split <;> rfl

theorem keyEnded_keyGenerate (h : s.work i 0x0403 = some x) : Completes (.keyGenerate i) s (s.KeyEnded · i x.j) :=
  .keyEnded h rfl fun hw => by
    rw [h]
    dsimp -zeta only
    extract_lets +onlyGivenNames _ _ _ _ _ _ g q salt
    have hg : s.KeyWork g.2.2 x := hw.drawKey
    have hq : s.KeyWork q.2.2 x := .ite_sndsnd hg.jobDraw hg
    have hs : s.KeyWork salt.2 x := hq.drawSalt
    exact (State.KeyWork.ite hs.useKeys hs).finishKey rfl

theorem keyEnded_keyUpdate (h : s.work i 0x0404 = some x) : Completes (.keyUpdate i) s (s.KeyEnded · i x.j) :=
  .keyEnded h rfl fun hw => by
    rw [h]
    dsimp -zeta only
    extract_lets +onlyGivenNames _ _ _ _ _ _ salt
    have hs : s.KeyWork salt.2 x := hw.drawSalt
    refine .ite (hs.useKeys.finishKey rfl) (.ite ?_ (hs.useKeys.finishKey rfl))
    extract_lets +onlyGivenNames _ _ k q
    have hk : s.KeyWork k.2.2 x := hs.drawKey
    have hq : s.KeyWork q.2.2 x := .ite_sndsnd hk.jobDraw hk
    exact hq.useKeys.finishKey rfl

theorem keyEnded_keyRetire (h : s.work i 0x0405 = some x) : Completes (.keyRetire i) s (s.KeyEnded · i x.j) :=
  .keyEnded h rfl fun hw => by
    rw [h]
    exact hw.drawSalt.useKeys.finishKey rfl

end Sys2Proof.Machine

/-! SUPPORT. The commit of a change, and a vat's invalidation (R315, R323, R340, R951, R954). -/

namespace Sys2Proof.Machine

variable {s t : State} {i : Nat} {j : Job} {c : KeyChange} {r : KeyRec}

/-! ### Versions of a record (R316) -/

theorem State.keyNow_of_recs {d h : Nat} (e : t.ks.recs = s.ks.recs) : t.keyNow d h = s.keyNow d h := by
  unfold State.keyNow State.keyVersions
  rw [e]

/-- The version installed last is the newest. -/
theorem State.keyNow_of_cons (e : t.ks.recs = r :: s.ks.recs) : t.keyNow r.deckle r.handle = r := by
  unfold State.keyNow State.keyVersions
  rw [e, List.filter_cons_of_pos (by simp)]
  rfl

/-- A new version joins the working copies; beside it, counters and invalidations are all that changes (R315, R327). -/
theorem State.putVersion_eq : ∃ ctrs, s.putVersion r = { s with ks := { s.ks with
    recs := r :: s.ks.recs, ctrs, invals := s.ks.invals ++ (s.vatsOf r.deckle).map fun v => (v, r.handle, r.gen) } } := by
  unfold State.putVersion
  dsimp only
  split <;> exact ⟨_, rfl⟩

theorem State.putVersion_keyNow : (s.putVersion r).keyNow r.deckle r.handle = r := by
  obtain ⟨_, e⟩ := State.putVersion_eq (s := s) (r := r)
  rw [e]
  exact State.keyNow_of_cons (s := s) rfl

theorem State.putVersion_prepares : (s.putVersion r).ks.prepares = s.ks.prepares := by
  obtain ⟨_, e⟩ := State.putVersion_eq (s := s) (r := r)
  rw [e]

/-- A record is sent to the peers, or nothing changes (R352, R354). -/
theorem State.mailApply_eq : ∃ mail, s.mailApply r = { s with ks := { s.ks with mail } } := by
  unfold State.mailApply
  extract_lets goes
  split
  · exact ⟨_, rfl⟩
  · exact ⟨s.ks.mail, rfl⟩

theorem State.vatsOf_of_md {d : Nat} (e : t.md = s.md) : t.vatsOf d = s.vatsOf d := by
  unfold State.vatsOf State.alloc State.dev
  rw [e]

/-! ### Stages and the commit record of a change -/

theorem State.mem_setStage {g : ChangeStage} (h : c ∈ s.ks.changes) (hc : c.job = i) :
    ∃ e ∈ (s.setStage i g).ks.changes, e.job = i ∧ e.stage = g :=
  ⟨_, List.mem_map.mpr ⟨c, h, if_pos hc⟩, hc, rfl⟩

theorem State.setStage_ks_of_ks {g : ChangeStage} (e : t.ks = s.ks) : (t.setStage i g).ks = (s.setStage i g).ks := by
  unfold State.setStage State.mapKs
  rw [e]

theorem State.find_change_facts (h : (s.ks.changes.find? fun c => c.job == i) = some c) : c ∈ s.ks.changes ∧ c.job = i :=
  ⟨List.mem_of_find?_eq_some h, by simpa using List.find?_some h⟩

/-- The commit record of a change joins the journal's queue where the deckle has a chain (R340). -/
theorem State.keyCommit_queued {rank vat : Nat} {job : Option Nat} (h : (s.chain r.deckle).present = true) :
    ∃ p ∈ (s.keyCommit r rank vat job).jn.queue, p.kind = 3 ∧ p.key = some r :=
  ⟨_, State.mem_queueRec h, rfl, rfl⟩

theorem State.keyCommit_md {rank vat : Nat} {job : Option Nat} : (s.keyCommit r rank vat job).md = s.md := by
  rw [State.keyCommit, State.queueRec_eq]

@[simp] theorem State.keyCommit_ks {rank vat : Nat} {job : Option Nat} : (s.keyCommit r rank vat job).ks = s.ks := State.queueRec_ks

/-! ### KEY_CHANGE_COMMIT (R340, R951, R954) -/

theorem exec_keyChangeCommit (hc : (s.ks.changes.find? fun c => c.job == i) = some c) (hdue : s.beat + 1 = c.due) :
    exec (.keyChangeCommit i) s = .next (s.commitChange c) := by
  change execKeyChangeCommit i s = _
  unfold execKeyChangeCommit
  simp only [hc, if_pos hdue]

section
variable (hj : s.job? c.job = some j) (hsync : c.sync = false) (hstage : c.stage = .admitted)
include hj hsync hstage

/-- The change of a job that ended OK and that CANCEL has not marked is journalled, installed and, where it is mirrored, sent out. -/
theorem State.commitChange_ok (hm : j.marked = false) (hr : j.ready = true) (hcls : j.cls = 0) :
    s.commitChange c =
      (((s.keyCommit c.record 2 (j.vat.getD 0) (some c.job)).setStage c.job .committed).putVersion c.record).mailApply c.record := by
  simp [State.commitChange, hj, hsync, hstage, hm, hr, hcls]

theorem State.commitChange_marked (hm : j.marked = true) :
    s.commitChange c = (s.setStage c.job .rolledBack).abandonIndex c.deckle c.handle := by
  simp [State.commitChange, hj, hsync, hstage, hm]

end

section
variable (hc : (s.ks.changes.find? fun c => c.job == i) = some c) (hj : s.job? i = some j) (hdue : s.beat + 1 = c.due)
  (hsync : c.sync = false) (hstage : c.stage = .admitted)
include hc hj hdue hsync hstage

theorem keyChangeCommit_ok (hm : j.marked = false) (hr : j.ready = true) (hcls : j.cls = 0) :
    Completes (.keyChangeCommit i) s fun t =>
      t.keyNow c.record.deckle c.record.handle = c.record ∧
      (∀ v ∈ s.vatsOf c.record.deckle, (v, c.record.handle, c.record.gen) ∈ t.ks.invals) ∧
      ((s.chain c.record.deckle).present = true → ∃ p ∈ t.jn.queue, p.kind = 3 ∧ p.key = some c.record) := by
  obtain ⟨-, rfl⟩ := State.find_change_facts hc
  refine ⟨_, (exec_keyChangeCommit hc hdue).trans (congrArg _ (State.commitChange_ok hj hsync hstage hm hr hcls)), ?_⟩
  generalize hu : (s.keyCommit c.record 2 (j.vat.getD 0) (some c.job)).setStage c.job .committed = u
  have hjn : u.jn = (s.keyCommit c.record 2 (j.vat.getD 0) (some c.job)).jn := hu ▸ rfl
  have hvats : u.vatsOf c.record.deckle = s.vatsOf c.record.deckle := State.vatsOf_of_md (hu ▸ State.keyCommit_md)
  obtain ⟨_, hput⟩ := State.putVersion_eq (s := u) (r := c.record)
  obtain ⟨_, hmail⟩ := State.mailApply_eq (s := u.putVersion c.record) (r := c.record)
  rw [hmail, hput, hvats]
  refine ⟨State.keyNow_of_cons (s := u) rfl, fun v hv => List.mem_append_right _ (List.mem_map_of_mem hv), fun h => ?_⟩
  rw [hjn]
  exact State.keyCommit_queued h

/-- A change given up leaves the index that its job took EMPTY for ever (R323). -/
theorem keyChangeCommit_marked (hm : j.marked = true) :
    Completes (.keyChangeCommit i) s fun t =>
      (∃ d ∈ t.ks.changes, d.job = i ∧ d.stage = .rolledBack) ∧
      ∀ r ∈ t.ks.recs, r.deckle = c.deckle → r.handle = c.handle → r.state ≠ 2 := by
  obtain ⟨hmem, rfl⟩ := State.find_change_facts hc
  refine ⟨_, (exec_keyChangeCommit hc hdue).trans (congrArg _ (State.commitChange_marked hj hsync hstage hm)), ?_⟩
  refine ⟨State.mem_setStage hmem rfl, fun r hr hd hh hs => ?_⟩
  have hkept := (List.mem_filter.mp hr).2
  simp [hd, hh, hs] at hkept

end

/-! ### VAT_INVALIDATION (R315, R874) -/

theorem vatInvalidation_taken {v : Vat} {h g : Nat} (hi : (v.val, h, g) ∈ s.ks.invals) : Completes (.vatInvalidation v h g) s fun t =>
    (∀ e ∈ t.ks.window, e.vat = v.val → e.handle = h → g ≤ e.gen) ∧ (v.val, h, g) ∉ t.ks.invals ∧
    t.regBit (R.VEV_PEND_LO v) 5 = true := by
  refine ⟨s.invalidate v h g, congrArg Host.Outcome.next (if_pos (List.contains_iff_mem.mpr hi)), fun e he hv hh => ?_, fun hmem => ?_, ?_⟩
  · have hkept := (List.mem_filter.mp he).2
    simpa [hv, hh] using hkept
  · have hkept := (List.mem_filter.mp hmem).2
    simp at hkept
  · exact (State.regBit_setRegBit (s := s) (by decide)).trans (if_pos rfl)

end Sys2Proof.Machine

/-! SUPPORT. A warden's write of a register that has no rule of its own, and of KEYS_MIRROR_LIST (R11, R359). -/

namespace Sys2Proof.Machine

variable {s : State} {who : Sender} {k : Nat} {v w : Word} {r : RegRow} {d : Deckle}

/-! ### Registers without a rule of their own -/

/-- Registers, outside of arrays, whose write is a command, is guarded, has a mask of its own, or has something follow from it. -/
def ruledRegs : List Nat :=
  [R.ADMIT_CTRL, R.SPRING_CMD, R.TAMPER_ACK, R.RESET_CMD, R.WMARK_ADVANCE, R.WMARK_EXTEND, R.EVT_DOORBELL, R.EVT_WDOG_KICK,
    R.EVT_TRACE_PUT, R.ERRC_Q_POP, R.MGMT_UART_DATA, R.CLESS_CMD, R.QUORUM_GUARD, R.BEAT_CTRL, R.SPRING_CTRL, R.PMU_PWR_LIMIT, R.PMU_CTRL,
    R.MGMT_UART_CTRL, R.CLESS_CTRL, R.MOULD_CTRL, R.RESET_CTRL, R.TAMPER_CTRL, R.TAMPER_SRC_CFG 4]

/-- A write of register `k` is no command and in no guarded group, its row's masks hold as they stand, and nothing follows from it. -/
abbrev OrdinaryReg (k : Nat) : Prop :=
  k ∉ ruledRegs ∧ ¬ (0x100900100 ≤ k ∧ k < 0x100900148) ∧ arrIx k (R.EVT_PEND 0) 4 20 = none ∧
    arrIx k (R.ERRC_CLEAR 0) 0x40 128 = none ∧ arrIx k (R.CARD_CMD 0) 0x80000 2 = none ∧ arrIx k (R.TAMPER_SRC_CFG 0) 0x10 8 = none ∧
    arrIx k (R.EVT_JNL 0) 4 20 = none

/-- No write of an ordinary register is a command of its own (R11). -/
theorem State.commandWrite_ordinary (hk : OrdinaryReg k) : s.commandWrite who k v r = none := by
  obtain ⟨hne, -, hpend, hclear, hcard, -, -⟩ := hk
  simp only [ruledRegs, List.mem_cons, not_or] at hne
  simp [State.commandWrite, hne, hpend, hclear, hcard]

theorem writeMasks_ordinary (hk : OrdinaryReg k) : writeMasks k r = (w32 r.rw, w32 r.rwl) := by
  obtain ⟨hne, hreset, -, -, -, -, hjnl⟩ := hk
  simp only [ruledRegs, List.mem_cons, not_or] at hne
  simp only [writeMasks, hne, hreset, hjnl, if_false]

theorem State.guardGroups_ordinary (hk : OrdinaryReg k) : s.guardGroups k w = [] := by
  obtain ⟨hne, -, -, -, -, hsrc, -⟩ := hk
  simp only [ruledRegs, List.mem_cons, not_or] at hne
  simp [State.guardGroups, hne, hsrc]

theorem State.afterWrite_ordinary {old : Word} (hk : OrdinaryReg k) : s.afterWrite who k old v = s := by
  obtain ⟨hne, -⟩ := hk
  simp only [ruledRegs, List.mem_cons, not_or] at hne
  simp [State.afterWrite, hne]

theorem ne_springCtrl_of_ordinary (hk : OrdinaryReg k) : k ≠ R.SPRING_CTRL := by
  rintro rfl
  exact hk.1 (by decide)

section
variable (hk : OrdinaryReg k) (hl : s.rowLocked k r = false)
include hk hl

/-- A write in range puts the bits of the row's masks in the register (R11). -/
theorem State.plainWrite_ordinary (hc : r.w1c = 0) (hr : s.rangeOf k v (masked (s.reg k) (w32 r.rw ||| w32 r.rwl) v) = .ok) :
    s.plainWrite who k v r = s.setReg k (masked (s.reg k) (w32 r.rw ||| w32 r.rwl) v) := by
  rw [State.plainWrite_ok (ne_springCtrl_of_ordinary hk) hl (by rw [writeMasks_ordinary hk]; rfl) (State.guardGroups_ordinary hk) hr,
    State.afterWrite_ordinary hk, hc, show w32 0 = 0#32 from rfl, BitVec.and_zero, BitVec.not_zero, BitVec.and_allOnes]

/-- A write out of range leaves the register, and is recorded (R894). -/
theorem State.plainWrite_outOfRange (hm : w32 r.rw ||| w32 r.rwl ≠ 0)
    (hr : s.rangeOf k v (masked (s.reg k) (w32 r.rw ||| w32 r.rwl) v) = .bad) :
    s.plainWrite who k v r = s.errAt errRange who .store k := by
  unfold masked at hr
  unfold State.plainWrite
  simp only [if_neg (ne_springCtrl_of_ordinary hk), writeMasks_ordinary hk, hl, State.guardGroups_ordinary hk, hr, Bool.false_eq_true,
    false_and, if_false, List.any_nil, if_neg hm]

end

/-! ### Error capture leaves the registers of the other blocks (R882) -/

/-- Below the event controller's registers an event changes JOURNAL_EVFIFO only. -/
theorem not_eventReg_of_lt (hk : k < 0x100D00000) (he : k ≠ R.JOURNAL_EVFIFO) : ¬ eventReg k := by
  unfold eventReg
  omega

/-- Beside events, error capture writes registers of its own block. -/
theorem State.capture_reg_below {src : Nat} {e : ErrEntry} (hs : src < 0x80) (hk : k < 0x100E00000) (he : ¬ eventReg k) :
    (s.capture src e).reg k = s.reg k := by
  have hraise {u : State} {n : Nat} (hn : n < 640) (hx : n ∉ [318, 263, 269]) : (u.raise n).reg k = u.reg k :=
    (State.raise_eventsOnly hn hx).reg k he
  unfold State.capture
  extract_lets +onlyGivenNames _ put s₁ s₂ s₃ _ _ _ s₄
  have hput (u : State) (a : Nat) (ha : 0x100E00000 ≤ a) : (put u a).reg k = u.reg k := by
    unfold put
    rw [State.putEntry_reg, if_neg, if_neg, if_neg, if_neg] <;> omega
  have h₁ : s₁.reg k = s.reg k := by
    unfold s₁
    split
    · exact hput s _ (by simp only [R.ERRC_FIRST]; omega)
    · rfl
  have h₂ : s₂.reg k = s.reg k := (hput s₁ _ (by simp only [R.ERRC_LAST]; omega)).trans h₁
  have h₃ : s₃.reg k = s.reg k := (State.reg_setReg_other _ _ (by simp only [R.ERRC_COUNT]; omega)).trans h₂
  have h₄ : s₄.reg k = s.reg k := by
    unfold s₄
    split
    · exact h₃
    · have hq : ((s₃.setRegBit R.ERRC_Q_FLAGS 0 true).bump R.ERRC_Q_LOST).reg k = s.reg k :=
        (State.reg_setReg_other _ _ (by simp only [R.ERRC_Q_LOST]; omega)).trans
          ((State.reg_setReg_other _ _ (by simp only [R.ERRC_Q_FLAGS]; omega)).trans h₃)
      split
      · exact hq
      · exact (hraise (by decide) (by decide)).trans hq
  split
  · refine (hraise ?_ ?_).trans h₄
    · split <;> omega
    · split
      · simp
        omega
      · decide
  · exact h₄

/-- An error at a control block below EVT leaves that block's registers, and shows its code in the block's entry (R882, R884). -/
theorem State.errAt_control {code b a : Nat} {c : Core} {p : Bool} {kind : Kind} (hc : code < 256) (hb : b < 0xD)
    (ha : (a - 0x100000000) / 0x100000 = b) (ha₀ : 0x100000000 ≤ a) (hk : k < 0x100D00000) (he : k ≠ R.JOURNAL_EVFIFO) :
    (s.errAt code (.core c p) kind a).reg k = s.reg k ∧ (s.errAt code (.core c p) kind a).regField (R.ERRC_LAST b 0) 31 24 = code := by
  have hsrc : errSource a = b := by
    unfold errSource
    rw [if_pos (by omega)]
    dsimp only
    rw [if_pos (by omega), ha]
  unfold State.errAt
  rw [hsrc]
  refine ⟨State.capture_reg_below (by omega) (by omega) (not_eventReg_of_lt hk he), ?_⟩
  rw [State.regField, State.capture_reg_last (by omega)]
  exact State.errEntry_code hc

/-! ### KEYS_MIRROR_LIST (R359) -/

/-- The row of the mirror lists. -/
def mirrorListRow : RegRow := { key := 0x100500124, dims := [(0x40, 16)], rwl := 0xffff, lock := some (0x100500000, 31) }

theorem regRow?_mirrorList : ∀ d : Deckle, regRow? (R.KEYS_MIRROR_LIST d) = some mirrorListRow := by decide +kernel

theorem ordinaryReg_mirrorList : ∀ d : Deckle, OrdinaryReg (R.KEYS_MIRROR_LIST d) := by decide +kernel

theorem State.wr_mirrorList (h : s.wardenAt who .store (R.KEYS_MIRROR_LIST d)) :
    s.wr who (R.KEYS_MIRROR_LIST d) w = s.plainWrite who (R.KEYS_MIRROR_LIST d) w mirrorListRow := by
  have hd := d.isLt
  rw [State.wr_control h (regRow?_mirrorList d), State.commandWrite_ordinary (ordinaryReg_mirrorList d), Option.getD_none] <;>
    simp only [R.KEYS_MIRROR_LIST] <;> omega

/-- In range is what adds no member. -/
theorem State.rangeOf_mirrorList :
    s.rangeOf (R.KEYS_MIRROR_LIST d) v w = inRangeIf (w &&& ~~~(s.reg (R.KEYS_MIRROR_LIST d)) == 0) := by
  have hd := d.isLt
  have hwait : arrIx (R.KEYS_MIRROR_LIST d) (R.ADMIT_WAIT_LIMIT 0) 0x20 16 = none :=
    if_neg (by simp only [R.KEYS_MIRROR_LIST, R.ADMIT_WAIT_LIMIT]; omega)
  have hlist : arrIx (R.KEYS_MIRROR_LIST d) (R.KEYS_MIRROR_LIST 0) 0x40 16 = some d.val := by
    unfold arrIx
    simp only [R.KEYS_MIRROR_LIST]
    rw [if_pos (by omega)]
    congr 1
    omega
  unfold State.rangeOf State.rangeLow
  rw [if_neg (by simp only [R.KEYS_MIRROR_LIST]; omega), if_pos (by simp only [R.KEYS_MIRROR_LIST]; omega),
    if_neg (by simp only [R.KEYS_MIRROR_LIST, R.BEAT_CTRL]; omega), if_neg (by simp only [R.KEYS_MIRROR_LIST, R.BEAT_PERIOD]; omega),
    if_neg (by simp only [R.KEYS_MIRROR_LIST, R.JOURNAL_CTRL]; omega), if_neg (by simp only [R.KEYS_MIRROR_LIST, R.KEYS_CTRL]; omega),
    hwait, hlist]

/-- What a masked write adds to a word is what the written bits within the mask add. -/
theorem masked_and_not {old m : Word} : masked old m v &&& ~~~old = v &&& m &&& ~~~old := by
  ext i
  simp [masked]
  grind

theorem State.rowLocked_mirrorList (hl : s.regBit R.KEYS_CTRL 31 = false) : s.rowLocked (R.KEYS_MIRROR_LIST d) mirrorListRow = false := by
  unfold State.rowLocked mirrorListRow
  dsimp only
  rw [if_neg (by simp only [R.KEYS_MIRROR_LIST]; omega)]
  exact hl

section
variable (h : s.wardenAt who .store (R.KEYS_MIRROR_LIST d)) (hl : s.regBit R.KEYS_CTRL 31 = false)
include h hl

theorem keysMirrorListWrite_taken (hw : w &&& 0xFFFF &&& ~~~(s.reg (R.KEYS_MIRROR_LIST d)) = 0) :
    Completes (.keysMirrorListWrite who d w) s fun t =>
      t.regField (R.KEYS_MIRROR_LIST d) 15 0 = field w 15 0 ∧ s.onlyRegs t [R.KEYS_MIRROR_LIST d] := by
  refine ⟨_, congrArg Host.Outcome.next ((State.wr_mirrorList h).trans (State.plainWrite_ordinary (ordinaryReg_mirrorList d)
    (State.rowLocked_mirrorList hl) rfl ?_)), ?_, State.setReg_onlyRegs.2⟩
  · rw [State.rangeOf_mirrorList, masked_and_not]
    exact congrArg inRangeIf (beq_iff_eq.mpr hw)
  · rw [State.regField, State.reg_setReg_same]
    exact field_masked (by decide)

theorem keysMirrorListWrite_refused (hw : w &&& 0xFFFF &&& ~~~(s.reg (R.KEYS_MIRROR_LIST d)) ≠ 0) :
    Completes (.keysMirrorListWrite who d w) s fun t =>
      t.reg (R.KEYS_MIRROR_LIST d) = s.reg (R.KEYS_MIRROR_LIST d) ∧ t.regField (R.ERRC_LAST 5 0) 31 24 = 4 := by
  obtain ⟨c, rfl⟩ := h.core
  refine ⟨_, congrArg Host.Outcome.next ((State.wr_mirrorList h).trans (State.plainWrite_outOfRange (ordinaryReg_mirrorList d)
    (State.rowLocked_mirrorList hl) (by decide) ?_)), ?_⟩
  · rw [State.rangeOf_mirrorList, masked_and_not]
    exact congrArg inRangeIf (beq_eq_false_iff_ne.mpr hw)
  · refine State.errAt_control (by decide) (by decide) ?_ ?_ ?_ ?_ <;> simp only [R.KEYS_MIRROR_LIST, R.JOURNAL_EVFIFO] <;> omega

end

end Sys2Proof.Machine

namespace Sys2Proof
open Machine

/-- Settles O46: a key verb holds its change as it ends, the commit installs, journals and announces it or gives it up, a vat drops what an
invalidation names, and a mirror list takes only a part of what it lists. -/
theorem keyChanges : Obligations.KeyChanges := by
  refine fun s i => ⟨?_, fun c j hc hj hdue hsync hstage => ⟨keyChangeCommit_ok hc hj hdue hsync hstage,
    keyChangeCommit_marked hc hj hdue hsync hstage⟩, fun v h g => vatInvalidation_taken,
    fun who d w h hl => ⟨keysMirrorListWrite_taken h hl, keysMirrorListWrite_refused h hl⟩⟩
  simp only [List.forall_mem_cons]
  exact ⟨fun _ => keyEnded_keyImport, fun _ => keyEnded_keyGenerate, fun _ => keyEnded_keyUpdate, fun _ => keyEnded_keyRetire,
    List.forall_mem_nil _⟩

end Sys2Proof

/-! SUPPORT. A synchronous change at its origin: acknowledgements, the decision, and a peer that does not answer (R355 to R357). -/

namespace Sys2Proof.Machine

variable {s : State} {i : Nat} {j : Job} {c : KeyChange} {d : Deckle} {p : Fin 16} {h g : Nat} {m : KeyMsg}

theorem State.member_of_reg {t : State} (e : t.reg R.KEYS_MEMBER = s.reg R.KEYS_MEMBER) : t.member = s.member := State.regField_eq_of_reg e

/-! ### Acknowledgements (R355, R357) -/

/-- Peer `p` may still answer the prepare that change `c` of handle `h`, generation `g` sent. -/
def State.awaitsAck (s : State) (d : Deckle) (p : Fin 16) (h g : Nat) (c : KeyChange) : Prop :=
  c.deckle = d.val ∧ c.handle = h ∧ c.record.gen = g ∧ c.sync = true ∧ c.stage = .prepared ∧ s.beat < c.edge + 9 ∧ p.val ∈ c.peers ∧
    s.regBit R.ULOON_MIRROR_MASK p = true

theorem syncAckReceived_prepare (hc : c ∈ s.ks.changes) (ha : s.awaitsAck d p h g c) (ok : Bool) :
    Completes (.syncAckReceived d p h g ok false) s fun t =>
      (if ok then { c with acks := p.val :: c.acks } else { c with nacks := p.val :: c.nacks }) ∈ t.ks.changes := by
  obtain ⟨hd, hh, hg, hsync, hstage, hbeat, hpeer, hmask⟩ := ha
  refine ⟨_, rfl, List.mem_map.mpr ⟨c, hc, if_pos ?_⟩⟩
  simp [hd, hh, hg, hsync, hstage, hbeat, hpeer, hmask]

/-- Who acknowledges a decision is waited for no longer. -/
theorem syncAckReceived_decision : Completes (.syncAckReceived d p h g true true) s fun t =>
    ∀ x ∈ t.ks.decisions, x.deckle = d.val → x.handle = h → x.gen = g → p.val ∉ x.waiting := by
  refine ⟨_, rfl, fun x hx hd hh hg => ?_⟩
  obtain ⟨y, -, rfl⟩ := List.mem_map.mp (List.mem_filter.mp hx).1
  by_cases hy : y.deckle = d.val ∧ y.handle = h ∧ y.gen = g
  · rw [if_pos hy]
    simp
  · rw [if_neg hy] at hd hh hg
    exact absurd ⟨hd, hh, hg⟩ hy

/-! ### The decision (R355, R951) -/

/-- The decision on a change goes out, and is repeated until each peer has acknowledged it (R357). -/
def State.tellPeers (s : State) (c : KeyChange) (go : Bool) : State :=
  let s := s.post ⟨3, if go then 2 else 3, s.member, 16, c.deckle, c.handle, c.record.gen, []⟩
  if c.peers = [] then s
  else s.mapKs fun k => { k with decisions := k.decisions ++ [⟨c.deckle, c.handle, c.record.gen, go, s.beat + 1, c.peers⟩] }

theorem State.tellPeers_eq {go : Bool} : ∃ decisions, s.tellPeers c go = { s with ks := { s.ks with
    decisions, mail := s.ks.mail ++ [⟨3, if go then 2 else 3, s.member, 16, c.deckle, c.handle, c.record.gen, []⟩] } } := by
  unfold State.tellPeers
  dsimp only
  split
  · exact ⟨s.ks.decisions, rfl⟩
  · exact ⟨_, rfl⟩

/-- The job of a change that is rolled back: FAULT where a peer did not answer, REFUSED where one refused. -/
def KeyChange.rolledBackJob (c : KeyChange) (j : Job) : Job :=
  if j.cls ≠ 0 ∨ j.marked then j
  else if c.nacks = [] then { j with cls := 6, reason := 0x3020, result := [], output := [] }
  else { j with cls := 1, reason := 0x3021, result := [], output := [] }

theorem KeyChange.rolledBackJob_id (c : KeyChange) (j : Job) : (c.rolledBackJob j).id = j.id := by
  unfold KeyChange.rolledBackJob
  split
  · rfl
  · split <;> rfl

/-- Before it gives the job its class, a rollback sets the change's stage, journals and counts it, and raises event 282. -/
theorem State.rollBack_eq : ∃ w : State, s.rollBack c = w.updJob c.job c.rolledBackJob ∧ w.ks = (s.setStage c.job .rolledBack).ks ∧
    w.bt.jobs = s.bt.jobs ∧ w.pends 282 ∧ w.reg R.KEYS_MEMBER = s.reg R.KEYS_MEMBER := by
  unfold State.rollBack
  extract_lets _ u w
  have he : ((u.setStage c.job .rolledBack).bump (R.KEYS_SYNC_FAIL c.deckle)).EventsOnly w :=
    State.raise_eventsOnly (by decide) (by decide)
  refine ⟨w, rfl, ?_, ?_, State.raise_pends (by decide) (by decide), ?_⟩
  · exact he.ks.trans (State.setStage_ks_of_ks State.queueRec_ks)
  · exact (congrArg BeatState.jobs he.bt).trans (State.queueRec_jobs : u.bt.jobs = s.bt.jobs)
  · exact (he.reg _ (not_eventReg_of_lt (by decide) (by decide))).trans
      ((State.reg_setReg_other _ _ (by simp only [R.KEYS_SYNC_FAIL, R.KEYS_MEMBER]; omega)).trans State.queueRec_reg)

/-- What a rollback leaves: event 282 pending, the change rolled back, its job's outcome, and the mail and member number as they were. -/
theorem State.rollBack_facts (hc : (s.ks.changes.find? fun c => c.job == i) = some c) (hj : s.job? i = some j)
    (hm : j.marked = false) (hcls : j.cls = 0) :
    (∃ e ∈ (s.rollBack c).ks.changes, e.job = i ∧ e.stage = .rolledBack) ∧ (s.rollBack c).pends 282 ∧
    ((s.rollBack c).job? i).map (fun j => (j.cls, j.reason)) = some (if c.nacks = [] then (6, 0x3020) else (1, 0x3021)) ∧
    (s.rollBack c).ks.mail = s.ks.mail ∧ (s.rollBack c).member = s.member := by
  obtain ⟨hmem, rfl⟩ := State.find_change_facts hc
  obtain ⟨w, hw, hks, hjobs, hpend, hmember⟩ := State.rollBack_eq (s := s) (c := c)
  have hmail : w.ks.mail = s.ks.mail := by
    rw [hks]
    rfl
  rw [hw]
  refine ⟨?_, hpend, ?_, hmail, State.member_of_reg hmember⟩
  · obtain ⟨e, he, hfacts⟩ := State.mem_setStage (g := .rolledBack) hmem rfl
    rw [← hks] at he
    exact ⟨e, he, hfacts⟩
  · rw [State.job?_updJob c.rolledBackJob_id, State.job?_of_jobs hjobs, hj]
    by_cases hn : c.nacks = [] <;> simp [KeyChange.rolledBackJob, hcls, hm, hn]

section
variable (hc : (s.ks.changes.find? fun c => c.job == i) = some c) (hj : s.job? i = some j) (hsync : c.sync = true)
  (hstage : c.stage = .prepared) (hedge : c.edge + 9 ≤ s.beat)
include hc hj hsync hstage hedge

theorem exec_syncCommitDecision : exec (.syncCommitDecision i) s = .next
    (let go := !j.marked && c.peers.all fun p => c.acks.contains p
     (if go then (s.keyCommit c.record 2 (j.vat.getD 0) (some i)).setStage i .committed else s.rollBack c).tellPeers c go) := by
  change execSyncCommitDecision i s = _
  unfold execSyncCommitDecision
  simp only [hc, hj, hsync, hstage, hedge, and_self, if_true]
  rfl

theorem syncCommitDecision_commit (hm : j.marked = false) (ha : ∀ q ∈ c.peers, q ∈ c.acks) :
    Completes (.syncCommitDecision i) s fun t =>
      (∃ e ∈ t.ks.changes, e.job = i ∧ e.stage = .committed) ∧
      t.ks.mail = s.ks.mail ++ [⟨3, 2, s.member, 16, c.deckle, c.handle, c.record.gen, []⟩] := by
  obtain ⟨hmem, hjob⟩ := State.find_change_facts hc
  have hgo : (!j.marked && c.peers.all fun p => c.acks.contains p) = true := by simpa [hm] using ha
  refine ⟨_, exec_syncCommitDecision hc hj hsync hstage hedge, ?_⟩
  simp only [hgo, if_true]
  generalize hu : (s.keyCommit c.record 2 (j.vat.getD 0) (some i)) = u
  have hks : u.ks = s.ks := hu ▸ State.keyCommit_ks
  have hmember : u.member = s.member := State.member_of_reg (hu ▸ State.queueRec_reg)
  obtain ⟨_, htell⟩ := State.tellPeers_eq (s := u.setStage i .committed) (c := c) (go := true)
  rw [htell]
  refine ⟨State.mem_setStage (hks ▸ hmem) hjob, ?_⟩
  change u.ks.mail ++ [⟨3, 2, u.member, 16, c.deckle, c.handle, c.record.gen, []⟩] = _
  rw [hks, hmember]

theorem syncCommitDecision_rollBack (hm : j.marked = false) (hcls : j.cls = 0) (ha : ∃ q ∈ c.peers, q ∉ c.acks) :
    Completes (.syncCommitDecision i) s fun t =>
      (∃ e ∈ t.ks.changes, e.job = i ∧ e.stage = .rolledBack) ∧ t.pends 282 ∧
      (t.job? i).map (fun j => (j.cls, j.reason)) = some (if c.nacks = [] then (6, 0x3020) else (1, 0x3021)) ∧
      t.ks.mail = s.ks.mail ++ [⟨3, 3, s.member, 16, c.deckle, c.handle, c.record.gen, []⟩] := by
  have hgo : (!j.marked && c.peers.all fun p => c.acks.contains p) = false := by simpa [hm] using ha
  obtain ⟨hchange, hpend, hjob, hmail, hmember⟩ := State.rollBack_facts hc hj hm hcls
  refine ⟨_, exec_syncCommitDecision hc hj hsync hstage hedge, ?_⟩
  simp only [hgo, Bool.false_eq_true, if_false]
  obtain ⟨_, htell⟩ := State.tellPeers_eq (s := s.rollBack c) (c := c) (go := false)
  rw [htell]
  refine ⟨hchange, hpend, hjob, ?_⟩
  rw [← hmail, ← hmember]
  rfl

end

/-! ### A peer that does not answer (R357) -/

theorem State.dropPeer_waiting {q : Nat} : ∀ y ∈ (s.dropPeer q).ks.decisions, q ∉ y.waiting := by
  intro y hy hq
  obtain ⟨x, -, rfl⟩ := List.mem_map.mp (List.mem_filter.mp hy).1
  simp at hq

theorem syncDecisionTimeout_late {x : Decision} (hx : x ∈ s.ks.decisions) (hd : x.deckle = d.val) (hh : x.handle = h) (hg : x.gen = g)
    (hp : p.val ∈ x.waiting) (hs : x.since + 64 ≤ s.beat) : Completes (.syncDecisionTimeout d p h g) s fun t =>
      t.regBit R.ULOON_MIRROR_MASK p = false ∧ t.reg R.ULOON_REMOVALS = satInc (s.reg R.ULOON_REMOVALS) ∧ t.pends 285 ∧
      ∀ y ∈ t.ks.decisions, p.val ∉ y.waiting := by
  have hany : (s.ks.decisions.any fun x =>
      x.deckle == d.val && x.handle == h && x.gen == g && x.waiting.contains p.val && decide (x.since + 64 ≤ s.beat)) = true :=
    List.any_eq_true.mpr ⟨x, hx, by simp [hd, hh, hg, hp, hs]⟩
  refine ⟨((s.dropPeer p).bump R.ULOON_REMOVALS).raise 285, congrArg Host.Outcome.next (if_pos hany), ?_⟩
  have he : ((s.dropPeer p).bump R.ULOON_REMOVALS).EventsOnly (((s.dropPeer p).bump R.ULOON_REMOVALS).raise 285) :=
    State.raise_eventsOnly (by decide) (by decide)
  refine ⟨?_, ?_, State.raise_pends (by decide) (by decide), ?_⟩
  · rw [State.regBit_eq_of_reg ((he.reg _ (not_eventReg_of_netw (by decide))).trans (State.reg_setReg_other _ _ (by decide)))]
    exact (State.regBit_setRegBit (s := s) (by omega)).trans (if_pos rfl)
  · rw [he.reg _ (not_eventReg_of_netw (by decide)), State.bump, State.reg_setReg_same]
    exact congrArg satInc (State.reg_setReg_other _ _ (by decide))
  · rw [he.ks]
    exact State.dropPeer_waiting

end Sys2Proof.Machine

/-! SUPPORT. What a device does as a peer: prepares and their decisions, mirrored records and counters, and the exchange of generations
(R346, R352, R353, R356 to R358). -/

namespace Sys2Proof.Machine

variable {s t : State} {d : Deckle} {p : Fin 16} {h g : Nat} {m : KeyMsg}

/-! ### Prepares (R356) -/

/-- A prepare of this device's own on the deckle and handle of `m` has not been decided. -/
def State.ownPrepare (s : State) (d : Deckle) (m : KeyMsg) : Bool :=
  s.ks.changes.any fun c => c.deckle == d.val && c.handle == m.handle && c.sync && c.stage == .prepared

/-- The prepare of member `p` on handle `h`, generation `g` is no longer held. -/
def State.decidePrepare (s : State) (d : Deckle) (p : Fin 16) (h g : Nat) : State :=
  s.mapKs fun k => { k with prepares := k.prepares.filter fun q =>
    !(q.deckle == d.val && q.origin == p.val && q.record.handle == h && q.record.gen == g) }

section
variable (hm : s.mirrors d p = true)
include hm

theorem syncPrepareReceived_taken (ho : s.ownPrepare d m = false) : Completes (.syncPrepareReceived d p m) s fun t =>
    (∃ q ∈ t.ks.prepares, q.deckle = d.val ∧ q.origin = p.val ∧ q.record.handle = m.handle ∧ q.record.gen = m.gen) ∧
    t.ks.mail = s.ks.mail ++ [⟨3, 0, s.member, p, d, m.handle, m.gen, [0]⟩] := by
  unfold State.ownPrepare at ho
  refine ⟨_, rfl, ?_⟩
  dsimp only
  rw [if_neg (not_not_intro hm), if_neg (by simp [ho])]
  generalize hu : s.drawSalt.2.queueRec _ = u
  have hks : u.ks = s.ks := hu ▸ State.queueRec_ks.trans State.drawSalt_ks
  have hmember : u.member = s.member := State.member_of_reg (hu ▸ State.queueRec_reg.trans State.drawSalt_reg)
  refine ⟨⟨_, List.mem_append_right _ (List.mem_singleton_self _), rfl, rfl, rfl, rfl⟩, ?_⟩
  rw [← hks, ← hmember]
  rfl

theorem syncPrepareReceived_refused (ho : s.ownPrepare d m = true) (hp : s.member ≤ p.val) :
    Completes (.syncPrepareReceived d p m) s fun t =>
      t.ks.prepares = s.ks.prepares ∧ t.ks.mail = s.ks.mail ++ [⟨3, 1, s.member, p, d, m.handle, m.gen, [0]⟩] := by
  refine ⟨s.reply 1 p d m.handle m.gen false, ?_, rfl, rfl⟩
  exact congrArg Host.Outcome.next ((if_neg (not_not_intro hm)).trans (if_pos ⟨ho, hp⟩))

/-! ### Decisions (R355, R357) -/

section
variable {q : PeerPrepare} (hq : (s.ks.prepares.find? fun q =>
  q.deckle == d.val && q.origin == p.val && q.record.handle == h && q.record.gen == g) = some q)
include hq

omit hm in
theorem State.not_mem_decidePrepare : q ∉ (s.decidePrepare d p h g).ks.prepares := fun hmem => by
  have hmine := List.find?_some hq
  have hkept := (List.mem_filter.mp hmem).2
  rw [hmine] at hkept
  cases hkept

theorem exec_syncDecisionReceived_commit (hg : (s.keyNow d h).gen < g) {r : KeyRec} (hr : r = { q.record with since := s.beat + 1 }) :
    exec (.syncDecisionReceived d p h g true) s =
      .next ((((s.decidePrepare d p h g).keyCommit r 3 0 none).putVersion r).reply 0 p d h g true) := by
  change execSyncDecisionReceived d p h g true s = _
  unfold execSyncDecisionReceived
  simp only [hm, hq, not_true_eq_false, if_false]
  rw [hr]
  exact congrArg (fun u : State => Host.Outcome.next (u.reply 0 p d h g true)) (if_pos hg)

theorem exec_syncDecisionReceived_abort : exec (.syncDecisionReceived d p h g false) s =
    .next (((s.decidePrepare d p h g).queueRec (plainRec 3 d 4 2 (leBytes 4 h ++ leBytes 4 g) [])).reply 0 p d h g true) := by
  change execSyncDecisionReceived d p h g false s = _
  unfold execSyncDecisionReceived
  simp only [hm, hq, not_true_eq_false, if_false]
  rfl

theorem syncDecisionReceived_commit (hg : (s.keyNow d h).gen < g) : Completes (.syncDecisionReceived d p h g true) s fun t =>
    t.keyNow q.record.deckle h = { q.record with since := s.beat + 1 } ∧ q ∉ t.ks.prepares := by
  obtain ⟨r, hr⟩ : ∃ r : KeyRec, r = { q.record with since := s.beat + 1 } := ⟨_, rfl⟩
  have hmine := List.find?_some hq
  simp only [Bool.and_eq_true, beq_iff_eq] at hmine
  obtain ⟨⟨-, hh⟩, -⟩ := hmine
  refine ⟨_, exec_syncDecisionReceived_commit hm hq hg hr, ?_, fun hmem => State.not_mem_decidePrepare hq ?_⟩
  · rw [← hr, ← hh, show q.record.deckle = r.deckle by rw [hr], show q.record.handle = r.handle by rw [hr]]
    exact State.putVersion_keyNow
  · rwa [← State.keyCommit_ks, ← State.putVersion_prepares]

theorem syncDecisionReceived_abort : Completes (.syncDecisionReceived d p h g false) s fun t =>
    t.ks.recs = s.ks.recs ∧ q ∉ t.ks.prepares := by
  have hrecs {x : PendRec} : ((s.decidePrepare d p h g).queueRec x).ks.recs = s.ks.recs := by
    rw [State.queueRec_ks]
    rfl
  refine ⟨_, exec_syncDecisionReceived_abort hm hq, hrecs, fun hmem => State.not_mem_decidePrepare hq ?_⟩
  rwa [← State.queueRec_ks]

end

/-! ### Mirrored records (R346, R353) -/

theorem mirrorApplyReceived_newer (hg : (s.keyNow d m.handle).gen < m.gen) : Completes (.mirrorApplyReceived d p m) s fun t =>
    (t.keyNow d m.handle).gen = m.gen ∧ (t.keyNow d m.handle).since = s.beat + 1 := by
  refine ⟨_, congrArg Host.Outcome.next (if_pos hm), ?_⟩
  unfold State.applyMirror
  extract_lets cur salt r
  have hnow {u : State} : (u.putVersion r).keyNow d m.handle = r := State.putVersion_keyNow
  rw [if_pos hg]
  beta_reduce
  rw [hnow]
  exact ⟨rfl, rfl⟩

theorem mirrorApplyReceived_older (hg : m.gen < (s.keyNow d m.handle).gen) : Completes (.mirrorApplyReceived d p m) s fun t =>
    t.ks = s.ks ∧ t.pends 285 := by
  refine ⟨s.raise 285, ?_, State.raise_ks (by decide), State.raise_pends (by decide) (by decide)⟩
  exact congrArg Host.Outcome.next ((if_pos hm).trans ((if_neg (by omega)).trans (if_pos hg)))

end

/-! ### Counters (R352) -/

/-- The last counter of terminal context `h` takes the greater of its value and `p`'s. -/
def State.takeCounter (d : Nat) (s : State) (p : Nat × Nat) : State :=
  let now := s.counterNow d p.1 (s.keyNow d p.1).lastCtr
  if hTerm p.1 ∧ s.regBit (R.KEYS_DCFG d) 4 ∧ now < p.2 then s.writeCounter ⟨d, p.1, p.2, s.beat + 1, (64, s.beat)⟩ else s

theorem exec_mirrorCountersReceived {values : List (Nat × Nat)} (hm : s.mirrors d p = true) :
    exec (.mirrorCountersReceived d p values) s = .next (values.foldl (State.takeCounter d) s) :=
  congrArg Host.Outcome.next (if_pos hm)

theorem State.counterNow_writeCounter {c : CounterWrite} {d h start : Nat} :
    (s.writeCounter c).counterNow d h start = if c.deckle = d ∧ c.handle = h then c.value else s.counterNow d h start := by
  unfold State.counterNow State.writeCounter State.mapKs
  by_cases hc : c.deckle = d ∧ c.handle = h <;> simp [hc]

/-- A message of counters changes neither records nor registers. -/
theorem State.takeCounter_keeps {x : Nat × Nat} : (t.takeCounter d x).ks.recs = t.ks.recs ∧ (t.takeCounter d x).regs = t.regs := by
  unfold State.takeCounter
  dsimp only
  split <;> exact ⟨rfl, rfl⟩

/-- No counter falls. -/
theorem State.counterNow_le_takeCounter {x : Nat × Nat} :
    t.counterNow d h (t.keyNow d h).lastCtr ≤ (t.takeCounter d x).counterNow d h (t.keyNow d h).lastCtr := by
  unfold State.takeCounter
  extract_lets now
  split
  next hx =>
    obtain ⟨-, -, hlt⟩ := hx
    rw [State.counterNow_writeCounter]
    split
    next hh =>
      obtain ⟨-, rfl⟩ := hh
      exact le_of_lt hlt
    next => exact le_rfl
  next => exact le_rfl

/-- A terminal context's counter is at least the one taken. -/
theorem State.le_counterNow_takeCounter {x : Nat × Nat} (hx : hTerm x.1 = true) (hd : t.regBit (R.KEYS_DCFG d) 4 = true) :
    x.2 ≤ (t.takeCounter d x).counterNow d x.1 (t.keyNow d x.1).lastCtr := by
  unfold State.takeCounter
  extract_lets now
  split
  next =>
    rw [State.counterNow_writeCounter, if_pos ⟨rfl, rfl⟩]
  next hle => exact not_lt.mp fun hlt => hle ⟨hx, hd, hlt⟩

theorem mirrorCountersReceived_greater (hm : s.mirrors d p = true) (values : List (Nat × Nat)) :
    Completes (.mirrorCountersReceived d p values) s fun t =>
      ∀ x ∈ values, hTerm x.1 = true → s.regBit (R.KEYS_DCFG d) 4 = true → x.2 ≤ t.counterNow d x.1 (s.keyNow d x.1).lastCtr := by
  refine ⟨_, exec_mirrorCountersReceived hm, fun x hx hterm hd => ?_⟩
  have hkeep {u : State} {a : Nat × Nat} (hu : u.ks.recs = s.ks.recs ∧ u.regs = s.regs) :
      (u.takeCounter d a).ks.recs = s.ks.recs ∧ (u.takeCounter d a).regs = s.regs :=
    ⟨State.takeCounter_keeps.1.trans hu.1, State.takeCounter_keeps.2.trans hu.2⟩
  refine (foldl_of_mem (M := fun u : State => u.ks.recs = s.ks.recs ∧ u.regs = s.regs)
    (N := fun u : State => (u.ks.recs = s.ks.recs ∧ u.regs = s.regs) ∧ x.2 ≤ u.counterNow d x.1 (s.keyNow d x.1).lastCtr)
    ⟨rfl, rfl⟩ hx (fun u a _ hu => hkeep hu) (fun u hu => ⟨hkeep hu, ?_⟩) (fun u a _ hu => ⟨hkeep hu.1, ?_⟩)).2
  · obtain ⟨hrecs, hregs⟩ := hu
    rw [← State.keyNow_of_recs hrecs]
    refine State.le_counterNow_takeCounter hterm ?_
    rwa [State.regBit, State.reg, hregs]
  · obtain ⟨⟨hrecs, -⟩, hle⟩ := hu
    rw [← State.keyNow_of_recs hrecs] at hle ⊢
    exact hle.trans State.counterNow_le_takeCounter

/-! ### The exchange of generations (R358) -/

theorem mirrorResync_done (hm : s.mirrors d p = true) (recs : List KeyMsg) : Completes (.mirrorResync d p recs) s fun t =>
    t.regBit R.KEYS_STATUS 3 = false ∧ ∀ q ∈ t.ks.prepares, q.deckle = d.val → q.origin ≠ p.val := by
  refine ⟨_, congrArg Host.Outcome.next (if_neg (not_not_intro hm)), (State.regBit_setRegBit (by decide)).trans (if_pos rfl),
    fun q hq hd ho => ?_⟩
  have hkept := (List.mem_filter.mp hq).2
  simp [hd, ho] at hkept

end Sys2Proof.Machine

namespace Sys2Proof
open Machine

/-- Settles O47: the origin counts the answers and decides, drops a peer that does not answer, and as a peer it takes what is newer. -/
theorem mirroring : Obligations.Mirroring := by
  refine fun s d p h g m => ⟨fun c hc hd hh hg hsync hstage hbeat hpeer hmask => ?_, syncAckReceived_decision,
    fun i c j hc hj hsync hstage hedge => ⟨syncCommitDecision_commit hc hj hsync hstage hedge,
      syncCommitDecision_rollBack hc hj hsync hstage hedge⟩,
    fun x => syncDecisionTimeout_late, fun hm => ⟨syncPrepareReceived_taken hm, syncPrepareReceived_refused hm,
      fun q hq => ⟨syncDecisionReceived_commit hm hq, syncDecisionReceived_abort hm hq⟩, mirrorApplyReceived_newer hm,
      mirrorApplyReceived_older hm, mirrorCountersReceived_greater hm, mirrorResync_done hm⟩⟩
  have ha : s.awaitsAck d p h g c := ⟨hd, hh, hg, hsync, hstage, hbeat, hpeer, hmask⟩
  exact ⟨syncAckReceived_prepare hc ha true, syncAckReceived_prepare hc ha false⟩

end Sys2Proof

/-! SUPPORT. Chains and their blocks, and what the draining of blocks to the reservoir leaves as it is (R390 to R392, R402, R406). -/

namespace Sys2Proof.Machine

variable {s t u : State} {k q : Nat} {c : Chain}

/-! ### Chains -/

theorem State.chain_setChain {j : Nat} : (s.setChain k c).chain j = if j = k ∧ k < s.jn.chains.length then c else s.chain j := by
  simp only [State.chain, State.setChain, State.mapJn, List.getD_eq_getElem?_getD, List.getElem?_set, eq_comm (a := k)]
  by_cases hj : j = k
  · subst hj
    by_cases hl : j < s.jn.chains.length <;> simp [hl]
  · simp [hj]

theorem State.chain_setChain_same (h : k < s.jn.chains.length) : (s.setChain k c).chain k = c := State.chain_setChain.trans (if_pos ⟨rfl, h⟩)

/-- A chain that differs from an absent one is in the list. -/
theorem State.lt_of_chain_ne_none (h : s.chain k ≠ Chain.none) : k < s.jn.chains.length := by
  by_contra hk
  refine h ?_
  rw [State.chain, List.getD_eq_getElem?_getD, List.getElem?_eq_none (not_lt.mp hk)]
  rfl

/-- A block, whether its write has been issued or not. -/
def JBlock.unwritten (b : JBlock) : JBlock := { b with written := false }

/-- Beside which of its blocks have been written, and whether it has stopped draining, chain `c'` is `c`. -/
structure Chain.Drained (c c' : Chain) : Prop where
  openRecs : c'.openRecs = c.openRecs
  blocks : c'.blocks.map JBlock.unwritten = c.blocks.map JBlock.unwritten

theorem Chain.Drained.refl : c.Drained c := ⟨rfl, rfl⟩

theorem Chain.Drained.trans {c' c'' : Chain} (h₁ : c.Drained c') (h₂ : c'.Drained c'') : c.Drained c'' :=
  ⟨h₂.openRecs.trans h₁.openRecs, h₂.blocks.trans h₁.blocks⟩

theorem Chain.Drained.jbns {c' : Chain} (h : c.Drained c') : c'.blocks.map (·.jbn) = c.blocks.map (·.jbn) := by
  have hmap : (c'.blocks.map JBlock.unwritten).map (·.jbn) = (c.blocks.map JBlock.unwritten).map (·.jbn) := by rw [h.blocks]
  rwa [List.map_map, List.map_map] at hmap

/-- Draining a chain keeps every block's number, image and lines. -/
theorem Chain.Drained.exists_block {c' : Chain} {b : JBlock} (h : c.Drained c') (hb : b ∈ c.blocks) :
    ∃ b' ∈ c'.blocks, b'.jbn = b.jbn ∧ b'.image = b.image ∧ b'.lines = b.lines := by
  have hmem : b.unwritten ∈ c'.blocks.map JBlock.unwritten := h.blocks ▸ List.mem_map_of_mem hb
  obtain ⟨b', hb', e⟩ := List.mem_map.mp hmem
  have hjbn : b'.unwritten.jbn = b.unwritten.jbn := congrArg JBlock.jbn e
  have himage : b'.unwritten.image = b.unwritten.image := congrArg JBlock.image e
  have hlines : b'.unwritten.lines = b.unwritten.lines := congrArg JBlock.lines e
  exact ⟨b', hb', hjbn, himage, hlines⟩

/-! ### Draining -/

/-- A register that draining may change: those of events, JOURNAL_STATUS, and from RESV_IO_ERR on the reservoir's counters. -/
def drainReg (k : Nat) : Prop := eventReg k ∨ k = R.JOURNAL_STATUS ∨ (R.RESV_IO_ERR ≤ k ∧ k < 0x100400030)

theorem not_drainReg_of_netw (h : 0x101000000 ≤ k) : ¬ drainReg k := by
  simp only [drainReg, eventReg, R.JOURNAL_EVFIFO, R.JOURNAL_STATUS, R.RESV_IO_ERR]
  omega

/-- The registers of the chains are none of those. -/
theorem not_drainReg_of_chain (h₀ : 0x100300100 ≤ k) (h₁ : k < 0x100400000) : ¬ drainReg k := by
  simp only [drainReg, eventReg, R.JOURNAL_EVFIFO, R.JOURNAL_STATUS, R.RESV_IO_ERR]
  omega

/-- From `s` to `t` blocks of chains have been drained, and commands issued for reads and writes of the reservoir. -/
structure State.DrainsOnly (s t : State) : Prop where
  now : t.now = s.now
  jobs : t.bt.jobs = s.bt.jobs
  nvme : s.lk.nvme ⊆ t.lk.nvme
  chain : ∀ k, (s.chain k).Drained (t.chain k)
  reg : ∀ k, ¬ drainReg k → t.reg k = s.reg k

theorem State.EventsOnly.jn (h : s.EventsOnly t) : t.jn = s.jn := by
  obtain ⟨_, _, _, _, _, rfl⟩ := h.rest
  rfl

theorem State.emit_eq {p : OutPort} {bs : Bytes} : ∃ out, s.emit p bs = { s with out } := by
  unfold State.emit
  split <;> exact ⟨_, rfl⟩

namespace State.DrainsOnly

theorem refl : s.DrainsOnly s := ⟨rfl, rfl, List.Subset.refl _, fun _ => .refl, fun _ _ => rfl⟩

theorem trans (h₁ : s.DrainsOnly t) (h₂ : t.DrainsOnly u) : s.DrainsOnly u :=
  ⟨h₂.now.trans h₁.now, h₂.jobs.trans h₁.jobs, List.Subset.trans h₁.nvme h₂.nvme, fun k => (h₁.chain k).trans (h₂.chain k),
    fun k hk => (h₂.reg k hk).trans (h₁.reg k hk)⟩

theorem ite {c : Prop} {_ : Decidable c} (ht : s.DrainsOnly t) (hu : s.DrainsOnly u) : s.DrainsOnly (if c then t else u) := by
  split <;> assumption

theorem foldl {α : Type} {l : List α} {f : State → α → State} (h : s.DrainsOnly t) (hf : ∀ u a, s.DrainsOnly u → s.DrainsOnly (f u a)) :
    s.DrainsOnly (l.foldl f t) :=
  List.foldlRecOn l f (motive := s.DrainsOnly) h fun u hu a _ => hf u a hu

theorem setReg {v : Word} (h : s.DrainsOnly t) (hk : drainReg k) : s.DrainsOnly (t.setReg k v) :=
  h.trans ⟨rfl, rfl, List.Subset.refl _, fun _ => .refl, fun _ hj => State.reg_setReg_other _ _ fun e => hj (e ▸ hk)⟩

theorem bump64 {n : Nat} (h : s.DrainsOnly t) (hk : k ∈ [R.RESV_READS_LO, R.RESV_WRITES_LO]) : s.DrainsOnly (t.bump64 k n) := by
  simp only [List.mem_cons, List.not_mem_nil, or_false, R.RESV_READS_LO, R.RESV_WRITES_LO] at hk
  refine (h.setReg (.inr (.inr ?_))).setReg (.inr (.inr ?_)) <;> simp only [R.RESV_IO_ERR] <;> omega

theorem raise {n : Nat} (h : s.DrainsOnly t) (hn : n < 640) (hx : n ∉ [318, 263, 269]) : s.DrainsOnly (t.raise n) := by
  have hr : t.EventsOnly (t.raise n) := State.raise_eventsOnly hn hx
  refine h.trans ⟨hr.now, congrArg BeatState.jobs hr.bt, hr.lk ▸ List.Subset.refl _, fun k => ?_, fun k hk => hr.reg k fun he => hk (.inl he)⟩
  have hc : (t.raise n).chain k = t.chain k := congrArg (·.chains.getD k Chain.none) hr.jn
  exact hc ▸ .refl

theorem emit {p : OutPort} {bs : Bytes} (h : s.DrainsOnly t) : s.DrainsOnly (t.emit p bs) := by
  obtain ⟨out, e⟩ := State.emit_eq (s := t) (p := p) (bs := bs)
  rw [e]
  exact h.trans ⟨rfl, rfl, List.Subset.refl _, fun _ => .refl, fun _ _ => rfl⟩

theorem setChain (h : s.DrainsOnly t) (hc : (t.chain k).Drained c) : s.DrainsOnly (t.setChain k c) := by
  refine h.trans ⟨rfl, rfl, List.Subset.refl _, fun j => ?_, fun _ _ => rfl⟩
  rw [State.chain_setChain]
  split
  next hj => exact hj.1 ▸ hc
  next => exact .refl

/-! ### Writes to the reservoir -/

theorem ioError (h : s.DrainsOnly t) : s.DrainsOnly t.ioError :=
  State.DrainsOnly.raise (h.setReg (.inr (.inr (by decide)))) (by decide) (by decide)

/-- A command joins those at work, or fails. -/
theorem nvmeIssue {kind : NvmeKind} {lba rbn : Nat} {data : Bytes} (h : s.DrainsOnly t) : s.DrainsOnly (t.nvmeIssue q kind lba rbn data) := by
  unfold State.nvmeIssue
  split
  · have hl : s.DrainsOnly (t.mapLk fun l => { l with nvme := l.nvme ++ [⟨q, kind, lba, rbn, data, t.now, none⟩] }) :=
      h.trans ⟨rfl, rfl, List.subset_append_left _ _, fun _ => .refl, fun _ _ => rfl⟩
    cases kind <;> exact hl.emit
  · exact h.ioError

/-- Beside the chains, the journal engine keeps the reservoir's blocks and the nodes of its tree. -/
theorem mapJn {f : JournalState → JournalState} (h : s.DrainsOnly t) (hf : (f t.jn).chains = t.jn.chains) : s.DrainsOnly (t.mapJn f) := by
  refine h.trans ⟨rfl, rfl, List.Subset.refl _, fun k => ?_, fun _ _ => rfl⟩
  have hc : (t.mapJn f).chain k = t.chain k := congrArg (·.getD k Chain.none) hf
  exact hc ▸ .refl

theorem setNode {i : Nat} {b : Bytes} (h : s.DrainsOnly t) : s.DrainsOnly (t.setNode k i b) :=
  h.mapJn (f := fun j => { j with nodes := (k, i, b) :: j.nodes.filter fun n => !(n.1 == k && n.2.1 == i) }) rfl

theorem treeUp {i f : Nat} (h : s.DrainsOnly t) : s.DrainsOnly (t.treeUp k i f) := by
  induction f generalizing t k i with
  | zero => exact h
  | succ f ih => exact ih h.setNode

theorem writeTreeBlock {n : Nat} (h : s.DrainsOnly t) : s.DrainsOnly (t.writeTreeBlock n) := by
  unfold State.writeTreeBlock
  split
  · exact h
  · exact h.nvmeIssue.bump64 (by decide)

theorem resvWrite {n : Ns} {j : Nat} {data : Bytes} (h : s.DrainsOnly t) : s.DrainsOnly (t.resvWrite n j data) := by
  unfold State.resvWrite
  extract_lets rbn v x p entry u j' w y
  have hu : s.DrainsOnly u := h.nvmeIssue.bump64 (by decide)
  have hw : s.DrainsOnly w := hu.mapJn (f := fun j => { j with blocks := (rbn, v, data) :: j.blocks.filter fun b => b.1 != rbn }) rfl
  have hy : s.DrainsOnly y := hw.setNode.treeUp
  exact hy.foldl fun _ _ hx => hx.writeTreeBlock

theorem resvIssueRead {rbn : Nat} (h : s.DrainsOnly t) : s.DrainsOnly (t.resvIssueRead rbn) := by
  unfold State.resvIssueRead
  split
  · exact h.nvmeIssue.bump64 (by decide)
  · exact h

/-! ### Blocks of chains -/

theorem ringFull (h : s.DrainsOnly t) : s.DrainsOnly t.ringFull := h.setReg (.inr (.inl rfl))

/-- A chain that drains stops, with event 258 (R392). -/
theorem stallOnce (h : s.DrainsOnly t) : s.DrainsOnly
    (if (t.chain k).stalled then t else ((t.setChain k { t.chain k with stalled := true }).ringFull).raise 258) := by
  have hc : s.DrainsOnly (t.setChain k { t.chain k with stalled := true }) := h.setChain ⟨rfl, rfl⟩
  exact .ite h (hc.ringFull.raise (by decide) (by decide))

theorem map_unwritten_markWritten {l : List JBlock} {jbn : Nat} :
    (l.map fun x => if x.jbn = jbn then { x with written := true } else x).map JBlock.unwritten = l.map JBlock.unwritten := by
  rw [List.map_map]
  refine List.map_congr_left fun x _ => ?_
  simp only [Function.comp_apply]
  split <;> rfl

theorem drainOne (h : s.DrainsOnly t) : s.DrainsOnly (t.drainOne k) := by
  unfold State.drainOne
  extract_lets c ring
  split
  · exact h
  next b _ =>
    extract_lets c'
    split
    · split
      · split
        · exact h.stallOnce
        · have hc : s.DrainsOnly (t.setChain k c') := h.setChain ⟨rfl, map_unwritten_markWritten⟩
          exact hc.resvWrite.ringFull
      · exact h
    · exact h.stallOnce

theorem drainChain (h : s.DrainsOnly t) : s.DrainsOnly (t.drainChain k) := h.foldl fun _ _ hu => hu.drainOne

end State.DrainsOnly

end Sys2Proof.Machine

/-! SUPPORT. Seal epochs, and the close, durability and release of a chain's blocks (R373, R382, R390, R391). -/

namespace Sys2Proof.Machine

variable {s t : State} {k : Fin 17}

/-! ### Seal epochs (R373) -/

theorem State.freeBytes_take {m n : Nat} : (s.freeBytes (m + n)).take m = s.freeBytes m := by
  rw [State.freeBytes, State.freeBytes, ← List.map_take, List.take_range, Nat.min_eq_left (Nat.le_add_right m n)]

theorem State.queueRec_of_present {p : PendRec} (h : (s.chain p.chain).present = true) :
    s.queueRec p = { s with jn := { s.jn with queue := s.jn.queue ++ [p] } } := if_pos h

theorem State.nextSeq_of_events {j : Nat} (h : s.EventsOnly t) (hj : j < 17) : t.nextSeq j = s.nextSeq j := by
  rw [State.nextSeq, State.reg64, h.reg, h.reg]
  · rfl
  all_goals simp only [eventReg, R.JOURNAL_SEQ_LO, R.JOURNAL_EVFIFO]; omega

/-- The next key of chain `k` has been drawn. -/
def State.epochDrawn (s : State) (k : Nat) : State :=
  (s.setChain k { s.chain k with nextKey := some ((s.freeBytes (32 + 1088)).take 32) }).tookFree (32 + 1088)

/-- The SEAL_EPOCH record that carries the ciphertext of chain `k`'s next key. -/
def State.epochRec (s : State) (k : Nat) : PendRec :=
  { plainRec (if k = 16 then 1 else 3) k 0x10 19 [] [] with clear := (s.freeBytes (32 + 1088)).drop 32 }

theorem State.startEpoch_eq {j : Nat} : s.startEpoch j = ((s.epochDrawn j).queueRec (s.epochRec j)).raise 262 := rfl

/-- The key that has been drawn awaits its record, which the queue ends with. -/
theorem State.startEpoch_facts (hp : (s.chain k.val).present = true) :
    ((s.startEpoch k.val).chain k.val).nextKey = some (s.freeBytes 32) ∧ (s.startEpoch k.val).pends 262 ∧
    (s.startEpoch k.val).nextSeq k.val = s.nextSeq k.val ∧
    ∃ p, (s.startEpoch k.val).jn.queue = s.jn.queue ++ [p] ∧ p.kind = 0x10 ∧ p.chain = k.val := by
  have hlen : k.val < s.jn.chains.length := State.lt_of_chain_ne_none (ne_of_apply_ne Chain.present (by simp [hp, Chain.none]))
  have hc : (s.epochDrawn k.val).chain k.val = { s.chain k.val with nextKey := some (s.freeBytes 32) } := by
    rw [← State.freeBytes_take (n := 1088)]
    exact State.chain_setChain_same hlen
  have hq : (s.epochDrawn k.val).queueRec (s.epochRec k.val) =
      { s.epochDrawn k.val with jn := { (s.epochDrawn k.val).jn with queue := s.jn.queue ++ [s.epochRec k.val] } } :=
    State.queueRec_of_present ((congrArg Chain.present hc).trans hp)
  rw [State.startEpoch_eq, hq]
  have hr {v : State} : v.EventsOnly (v.raise 262) := State.raise_eventsOnly (by decide) (by decide)
  refine ⟨?_, State.raise_pends (by decide) (by decide), (State.nextSeq_of_events hr k.isLt).trans rfl, _,
    congrArg JournalState.queue hr.jn, rfl, rfl⟩
  rw [State.chain, hr.jn]
  exact congrArg Chain.nextKey hc

theorem sealEpochRotate_due (hp : (s.chain k.val).present = true) (hn : (s.chain k.val).nextKey = none)
    (hd : 16777216 ≤ s.nextSeq k.val - (s.chain k.val).sealSeq ∨ 1048576 ≤ s.beat - (s.chain k.val).sealBeat) :
    Completes (.sealEpochRotate k) s fun t =>
      (t.chain k.val).nextKey = some (s.freeBytes 32) ∧ t.pends 262 ∧ t.nextSeq k.val = s.nextSeq k.val ∧
      ∃ p, t.jn.queue = s.jn.queue ++ [p] ∧ p.kind = 0x10 ∧ p.chain = k.val :=
  ⟨_, congrArg Host.Outcome.next (if_pos ⟨hp, hn, hd⟩), State.startEpoch_facts hp⟩

/-! ### The numbers that JOURNAL_DUR and JOURNAL_REL show -/

theorem State.refreshChain_reg {i j : Nat} (h₁ : j ≠ R.JOURNAL_DUR i) (h₂ : j ≠ R.JOURNAL_REL i) : (s.refreshChain i).reg j = s.reg j :=
  (State.reg_setReg_other _ _ h₂).trans (State.reg_setReg_other _ _ h₁)

theorem State.refreshChain_nextJbn {i : Nat} : (s.refreshChain i).nextJbn i = s.nextJbn i := by
  rw [State.nextJbn, State.reg64, State.refreshChain_reg, State.refreshChain_reg]
  · rfl
  all_goals simp only [R.JOURNAL_JBN_LO, R.JOURNAL_DUR, R.JOURNAL_REL]; omega

theorem State.refreshChain_chain {i j : Nat} : (s.refreshChain i).chain j = s.chain j := rfl

/-- JOURNAL_DUR shows the lowest block that is not durable. -/
theorem State.refreshChain_dur {i : Nat} : (s.refreshChain i).reg (R.JOURNAL_DUR i) = w32 ((s.refreshChain i).lowNotDurable i) := by
  have hne : R.JOURNAL_DUR i ≠ R.JOURNAL_REL i := by
    simp only [R.JOURNAL_DUR, R.JOURNAL_REL]
    omega
  rw [State.lowNotDurable, State.refreshChain_chain, State.refreshChain_nextJbn]
  exact (State.reg_setReg_other _ _ hne).trans (State.reg_setReg_same _ _ _)

theorem State.DrainsOnly.nextJbn (h : s.DrainsOnly t) : t.nextJbn k.val = s.nextJbn k.val := by
  rw [State.nextJbn, State.reg64, h.reg _ (not_drainReg_of_chain _ _), h.reg _ (not_drainReg_of_chain _ _)]
  · rfl
  all_goals simp only [R.JOURNAL_JBN_LO]; omega

/-! ### The close of a block (R390) -/

/-- A block is closed as the chain's next, whatever is drained behind it. -/
theorem State.closeBlock_facts (h : (s.chain k.val).openRecs ≠ []) (hj : s.nextJbn k.val + 1 < 2 ^ 64) :
    ((s.closeBlock k.val).chain k.val).openRecs = [] ∧ (s.closeBlock k.val).nextJbn k.val = s.nextJbn k.val + 1 ∧
    ∃ b ∈ ((s.closeBlock k.val).chain k.val).blocks,
      b.jbn = s.nextJbn k.val ∧ b.image = s.blockImage k.val ∧ b.lines = (s.chain k.val).openLines := by
  have hlen : k.val < s.jn.chains.length := State.lt_of_chain_ne_none (ne_of_apply_ne Chain.openRecs h)
  unfold State.closeBlock
  extract_lets c b ring u v n w
  rw [if_neg h, State.refreshChain_nextJbn, State.refreshChain_chain]
  have hc : v.chain k.val = { c with openRecs := [], openKeys := [], openEntries := [], blocks := c.blocks ++ [b] } :=
    State.chain_setChain_same hlen
  have hb : b ∈ (v.chain k.val).blocks := by
    rw [hc]
    exact List.mem_append_right _ (List.mem_singleton_self b)
  have hd : v.DrainsOnly (w.drainChain k.val) := .drainChain (.ite (.raise .refl (by decide) (by decide)) .refl)
  refine ⟨(hd.chain k.val).openRecs.trans (congrArg Chain.openRecs hc), ?_, (hd.chain k.val).exists_block hb⟩
  rw [hd.nextJbn]
  exact State.reg64_setReg64.trans (Nat.mod_eq_of_lt hj)

theorem journalBlockClose_due (h : (s.chain k.val).openRecs ≠ [])
    (hd : (s.chain k.val).openLines = 63 ∨ (s.chain k.val).openBeat + 64 ≤ s.beat)
    (hj : s.nextJbn k.val + 1 < 2 ^ 64) : Completes (.journalBlockClose k) s fun t =>
      (t.chain k.val).openRecs = [] ∧ t.nextJbn k.val = s.nextJbn k.val + 1 ∧
      ∃ b ∈ (t.chain k.val).blocks, b.jbn = s.nextJbn k.val ∧ b.image = s.blockImage k.val ∧ b.lines = (s.chain k.val).openLines :=
  ⟨_, congrArg Host.Outcome.next (if_pos ⟨h, hd⟩), State.closeBlock_facts h hj⟩

/-! ### A block that is durable (R382) -/

theorem journalBlockDurable_written {jbn : Nat} (h : ((s.chain k.val).blocks.any fun b => b.jbn == jbn && b.written) = true) :
    Completes (.journalBlockDurable ⟨k.val, by omega⟩ jbn) s fun t =>
      (t.chain k.val).blocks = (s.chain k.val).blocks.map (fun b => if b.jbn = jbn then { b with durable := true } else b) ∧
      t.reg (R.JOURNAL_DUR k.val) = w32 (t.lowNotDurable k.val) ∧ s.onlyRegs t [R.JOURNAL_DUR k.val, R.JOURNAL_REL k.val] := by
  have hlen : k.val < s.jn.chains.length := by
    refine State.lt_of_chain_ne_none fun hc => ?_
    simp [hc, Chain.none] at h
  refine ⟨_, congrArg Host.Outcome.next ((if_neg k.isLt.ne).trans (if_pos h)), ?_, State.refreshChain_dur, rfl, rfl, fun j hj => ?_⟩
  · rw [State.refreshChain_chain, State.chain_setChain_same hlen]
  · simp only [List.mem_cons, List.not_mem_nil, or_false, not_or] at hj
    exact State.refreshChain_reg hj.1 hj.2

/-! ### The release of a block (R391) -/

section
variable {b : JBlock} {rest : List JBlock} (hb : (s.chain k.val).blocks = b :: rest)
include hb

theorem exec_journalBlockRelease : exec (.journalBlockRelease k) s = .next
    (if s.releasable k.val b then ((s.setChain k.val { s.chain k.val with blocks := rest }).drainChain k.val).refreshChain k.val else s) := by
  change execJournalBlockRelease k s = _
  simp only [execJournalBlockRelease, hb]

theorem journalBlockRelease_released (h : s.releasable k.val b = true) : Completes (.journalBlockRelease k) s fun t =>
    (t.chain k.val).blocks.map (·.jbn) = rest.map (·.jbn) ∧ t.nextJbn k.val = s.nextJbn k.val := by
  have hlen : k.val < s.jn.chains.length := State.lt_of_chain_ne_none (ne_of_apply_ne Chain.blocks (by simp [hb, Chain.none]))
  have hd : (s.setChain k.val { s.chain k.val with blocks := rest }).DrainsOnly
      ((s.setChain k.val { s.chain k.val with blocks := rest }).drainChain k.val) := .drainChain .refl
  refine ⟨_, (exec_journalBlockRelease hb).trans (congrArg Host.Outcome.next (if_pos h)), ?_, State.refreshChain_nextJbn.trans hd.nextJbn⟩
  rw [State.refreshChain_chain, (hd.chain k.val).jbns, State.chain_setChain_same hlen]

/-- A block is held back until it is durable, archived and written back. -/
theorem journalBlockRelease_held
    (h : b.durable = false ∨ (s.reg (R.JOURNAL_ARCH k.val)).toNat ≤ b.jbn ∨ b.keys.all s.writtenBack = false) :
    exec (.journalBlockRelease k) s = .next s := by
  have hr : s.releasable k.val b = false := by
    rcases h with h | h | h <;> simp [State.releasable, h]
  rw [exec_journalBlockRelease hb, hr, if_neg Bool.false_ne_true]

end

end Sys2Proof.Machine

namespace Sys2Proof
open Machine

/-- Settles O48: what is drained behind a close or a release leaves every block its number, image and lines. -/
theorem journalBlocks : Obligations.JournalBlocks := fun _ _ =>
  ⟨sealEpochRotate_due, journalBlockClose_due, fun h => congrArg Host.Outcome.next (if_neg h), fun _ => journalBlockDurable_written,
    fun _ _ hb => ⟨journalBlockRelease_released hb, journalBlockRelease_held hb⟩⟩

end Sys2Proof

/-! SUPPORT. The read set of a surcharged job, and what becomes of its blocks (R408, R410, R413). -/

namespace Sys2Proof.Machine

variable {s t u : State} {i k rbn : Nat} {j : Job}

/-! ### The read set (R410) -/

/-- The reads of job `i`'s one read set, with its time and the job's part of it. -/
def State.readSetMade (s : State) (i rbn : Nat) : State :=
  ({ s with now := max s.now (s.bt.edgeAt + 2000) } : State).updJob i fun j => { j with readSet := 1, reads := rbn :: s.treeRbns rbn }

section
variable {x : Work} (hj : s.job? i = some j) (hx : j.asWork = some x) (hb : x.b = s.beat) (hs : j.surcharge ≠ 0) (hr : j.readSet = 0)
  (hd : s.dataBlock x = some rbn)
include hj hx hb hs hr hd

theorem exec_reservoirReadSet :
    exec (.reservoirReadSet i) s = .next ((rbn :: s.treeRbns rbn).foldl State.resvIssueRead (s.readSetMade i rbn)) := by
  change execReservoirReadSet i s = _
  simp only [execReservoirReadSet, hj, hx, hd, if_pos (And.intro hb (And.intro hs hr))]
  rfl

theorem reservoirReadSet_made : Completes (.reservoirReadSet i) s fun t =>
      t.now = max s.now (s.bt.edgeAt + 2000) ∧
      (t.job? i).map (fun y => (y.readSet, y.reads)) =
        some (1, rbn :: (s.treeBlocks rbn).map fun n => ((s.nsFind 6 16).map (·.rbn)).getD 0 + n) ∨ s.nsFind 6 16 = none := by
  refine ⟨_, exec_reservoirReadSet hj hx hb hs hr hd, ?_⟩
  have hreads : (s.readSetMade i rbn).DrainsOnly ((rbn :: s.treeRbns rbn).foldl State.resvIssueRead (s.readSetMade i rbn)) :=
    .foldl .refl fun _ _ hu => hu.resvIssueRead
  have hjob : (s.readSetMade i rbn).JobIs i fun y => y.readSet = 1 ∧ y.reads = rbn :: s.treeRbns rbn :=
    ((State.JobIs.of_job? (P := fun _ => True) hj trivial).of_jobs rfl).updJob_self (fun _ => rfl) fun _ _ => ⟨rfl, rfl⟩
  cases hn : s.nsFind 6 16 with
  | none => exact .inr rfl
  | some n =>
    have htree : s.treeRbns rbn = (s.treeBlocks rbn).map fun m => n.rbn + m := by
      unfold State.treeRbns
      rw [hn]
    refine .inl ⟨hreads.now, State.map_job?_of_jobIs (hjob.of_jobs hreads.jobs) fun y ⟨h₁, h₂⟩ => ?_⟩
    rw [h₁, h₂, htree]
    rfl

end

/-! ### What an excursion leaves of the blocks below TAMPER (R611 to R631) -/

/-- A register that an excursion may change beside those of events: TAMPER's, and the status of the card slots. -/
abbrev excursionReg (k : Nat) : Prop := 0x100800000 ≤ k ∧ (k < 0x100D00000 ∨ 0x100E00000 ≤ k)

/-- From `s` to `t` an excursion has been counted, with what it leads to: below TAMPER every register but JOURNAL_EVFIFO is as before, and what
was pending is pending. -/
structure State.ExcursionAbove (s t : State) : Prop where
  reg : ∀ k, k < 0x100800000 → k ≠ R.JOURNAL_EVFIFO → t.reg k = s.reg k
  pend : ∀ n < 640, s.pends n → t.pends n

namespace State.ExcursionAbove

theorem refl : s.ExcursionAbove s := ⟨fun _ _ _ => rfl, fun _ _ h => h⟩

theorem ite {c : Prop} {_ : Decidable c} (ht : s.ExcursionAbove t) (hu : s.ExcursionAbove u) : s.ExcursionAbove (if c then t else u) := by
  split <;> assumption

theorem of_regs (h : s.ExcursionAbove t) (hr : u.regs = t.regs) : s.ExcursionAbove u := by
  have hreg : ∀ k, u.reg k = t.reg k := fun k => congrArg (spGet regReset · k) hr
  exact ⟨fun k hk he => (hreg k).trans (h.reg k hk he), fun n hn hp => (State.regBit_eq_of_reg (hreg _)).trans (h.pend n hn hp)⟩

theorem mapTm {f : TamperState → TamperState} (h : s.ExcursionAbove t) : s.ExcursionAbove (t.mapTm f) := h.of_regs rfl

theorem setReg {v : Word} (h : s.ExcursionAbove t) (hk : excursionReg k) : s.ExcursionAbove (t.setReg k v) := by
  refine ⟨fun m hm he => (State.reg_setReg_other _ _ fun e => ?_).trans (h.reg m hm he), fun n hn hp => ?_⟩
  · exact absurd hk.1 (not_le.mpr (e ▸ hm))
  · refine (State.regBit_eq_of_reg (State.reg_setReg_other _ _ fun e => ?_)).trans (h.pend n hn hp)
    subst e
    simp only [excursionReg, R.EVT_PEND] at hk
    omega

theorem raiseOnly {n stop data : Nat} (h : s.ExcursionAbove t) (hn : n < 640) : s.ExcursionAbove (t.raiseOnly n stop data) := by
  have hr : t.EventsOnly (t.raiseOnly n stop data) := .raiseOnly hn
  exact ⟨fun k hk he => (hr.reg k (not_eventReg_of_lt (by omega) he)).trans (h.reg k hk he), fun m hm hp => hr.pend m hm (h.pend m hm hp)⟩

theorem burnFrom {f b : Nat} (h : s.ExcursionAbove t) : s.ExcursionAbove (t.burnFrom f b) := by
  induction f generalizing t b with
  | zero => exact h
  | succ f ih =>
    unfold State.burnFrom
    split
    · exact h
    next hb =>
      have hk : excursionReg (R.TAMPER_EVID (b / 32)) := by
        simp only [excursionReg, R.TAMPER_EVID]
        omega
      split
      · exact ih (h.raiseOnly (by decide))
      · extract_lets v
        have hv : s.ExcursionAbove v := ((h.setReg hk).setReg (by decide)).raiseOnly (by decide)
        exact ite (hv.raiseOnly (by decide)) hv

theorem burn (h : s.ExcursionAbove t) : s.ExcursionAbove t.burn := by
  have hk : excursionReg R.TAMPER_LATCH := by decide
  exact ite (h.setReg hk) (h.mapTm.setReg hk).burnFrom

theorem latch {m l : Nat} (h : s.ExcursionAbove t) : s.ExcursionAbove (t.latch m l) :=
  setReg (ite h (h.setReg (by decide))) (by decide)

theorem cardsOff (h : s.ExcursionAbove t) : s.ExcursionAbove t.cardsOff :=
  ((h.setReg (by decide)).setReg (by decide)).of_regs rfl

/-- A new response latches, turns the cards off and burns an evidence bit; one in progress is counted. -/
theorem respond {m level : Nat} (h : s.ExcursionAbove t) : s.ExcursionAbove (t.respond m level) := by
  unfold State.respond
  extract_lets full l v w bt pins x
  have hv : s.ExcursionAbove v := ite (h.raiseOnly (by decide)).mapTm h
  have hw : s.ExcursionAbove w := hv.latch.mapTm
  have hx : s.ExcursionAbove x := by
    refine cardsOff ?_
    exact hw.of_regs rfl
  exact ite (ite hx hx.burn) (hv.setReg (by decide))

section
variable {m : Nat} (hm : m < 8)
include hm

theorem trip (h : s.ExcursionAbove t) : s.ExcursionAbove (t.trip m) := by
  have hk : excursionReg (R.TAMPER_SRC_STATE m) := by
    simp only [excursionReg, R.TAMPER_SRC_STATE]
    omega
  unfold State.trip
  extract_lets v w l
  have hw : s.ExcursionAbove w := h.mapTm.setReg hk
  exact ite (hw.raiseOnly (by omega)) hw.respond

theorem excursion (h : s.ExcursionAbove t) : s.ExcursionAbove (t.excursion m) := by
  have hx : excursionReg (R.TAMPER_SRC_EXC m) ∧ excursionReg (R.TAMPER_SRC_STATE m) := by
    simp only [excursionReg, R.TAMPER_SRC_EXC, R.TAMPER_SRC_STATE]
    omega
  unfold State.excursion
  extract_lets v w d l y z
  have hv : s.ExcursionAbove v := h.setReg hx.1
  have hw : s.ExcursionAbove w := ite (hv.raiseOnly (by omega)) hv
  have hz : s.ExcursionAbove z := hw.mapTm.setReg hx.2
  exact ite (hz.trip hm) hz

end

end State.ExcursionAbove

/-- Event 263 is an excursion of source 7 as well (R607). -/
theorem State.raise_integ_above : (s.raiseOnly 263).ExcursionAbove (s.raise 263) :=
  State.ExcursionAbove.excursion (m := 7) (by decide) .refl

/-! ### The blocks of a read set (R408) -/

/-- A block that fails its check is counted, with INTEG_SEEN and event 263. -/
theorem State.integFail_facts : s.integFail.reg R.RESV_INTEG_FAIL = satInc (s.reg R.RESV_INTEG_FAIL) ∧
    s.integFail.regBit R.RESV_STATUS 2 = true ∧ s.integFail.pends 263 ∧ s.integFail.bt.jobs = s.bt.jobs := by
  unfold State.integFail
  have hr {v : State} : v.EventsOnly (v.raiseOnly 263) := .raiseOnly (by decide)
  have hreg {v : State} {k : Nat} (hk : k < 0x100800000) (he : k ≠ R.JOURNAL_EVFIFO) : (v.raise 263).reg k = v.reg k :=
    (State.raise_integ_above.reg k hk he).trans (hr.reg k (not_eventReg_of_lt (by omega) he))
  refine ⟨?_, ?_, ?_, State.raise_jobs⟩
  · rw [hreg (by decide) (by decide)]
    exact (State.reg_setReg_other _ _ (by decide)).trans (State.reg_setReg_same _ _ _)
  · rw [State.regBit_eq_of_reg (hreg (by decide) (by decide)), State.regBit_setRegBit (by decide), if_pos rfl]
  · exact State.raise_integ_above.pend 263 (by decide) ((State.EventsOnly.raiseOnly_of_pendEvent (by decide)).pend 263 (by decide)
      State.pendEvent_pends)

theorem State.job?_blockIn {ok : Bool} (hj : s.job? i = some j) : (s.blockIn j rbn ok).job? i =
    some { j with reads := j.reads.erase rbn
                  readSet := if j.readSet = 3 ∨ ¬ ok then 3 else if j.reads.erase rbn = [] then 2 else 1 } := by
  have hid := State.id_of_job? hj
  subst hid
  unfold State.blockIn
  rw [State.job?_updJob, hj]
  · rfl
  · exact fun _ => rfl

variable (hj : s.job? i = some j)
include hj

theorem exec_reservoirReadComplete {ok : Bool} : exec (.reservoirReadComplete i rbn ok) s =
    .next (if s.inTime j rbn then if ok then s.blockIn j rbn ok else (s.blockIn j rbn ok).integFail else s) := by
  change execReservoirReadComplete i rbn ok s = _
  simp only [execReservoirReadComplete, hj]

theorem reservoirReadComplete_late (h : s.inTime j rbn = false) (ok : Bool) : exec (.reservoirReadComplete i rbn ok) s = .next s := by
  rw [exec_reservoirReadComplete hj, h, if_neg Bool.false_ne_true]

variable (h : s.inTime j rbn = true)
include h

theorem reservoirReadComplete_right : Completes (.reservoirReadComplete i rbn true) s fun t =>
    (t.job? i).map (fun y => (y.readSet, y.reads)) =
      some (if j.readSet = 3 then 3 else if j.reads.erase rbn = [] then 2 else 1, j.reads.erase rbn) ∧ s.onlyRegs t [] := by
  refine ⟨_, (exec_reservoirReadComplete hj).trans (congrArg Host.Outcome.next ((if_pos h).trans (if_pos rfl))), ?_, rfl, rfl,
    fun _ _ => rfl⟩
  rw [State.job?_blockIn hj]
  simp

theorem reservoirReadComplete_wrong : Completes (.reservoirReadComplete i rbn false) s fun t =>
    (t.job? i).map (·.readSet) = some 3 ∧ t.reg R.RESV_INTEG_FAIL = satInc (s.reg R.RESV_INTEG_FAIL) ∧
    t.regBit R.RESV_STATUS 2 = true ∧ t.pends 263 := by
  obtain ⟨hcount, hseen, hpend, hjobs⟩ := State.integFail_facts (s := s.blockIn j rbn false)
  refine ⟨_, (exec_reservoirReadComplete hj).trans (congrArg Host.Outcome.next ((if_pos h).trans (if_neg Bool.false_ne_true))), ?_,
    hcount, hseen, hpend⟩
  rw [State.job?_of_jobs hjobs, State.job?_blockIn hj]
  simp

end Sys2Proof.Machine

/-! SUPPORT. The NVMe commands of the reservoir ports: completion, failure, Abort and controller reset, and the loss and return of a link
(R793, R794, R824, R825). -/

namespace Sys2Proof.Machine

variable {s t : State}

/-! ### Lists of commands -/

/-- What is left of a list when those of its elements that satisfy `p` are taken out one by one. -/
theorem mem_diff_filter {α : Type} [DecidableEq α] {l : List α} {p : α → Bool} {x : α} :
    x ∈ l.diff (l.filter p) ↔ x ∈ l ∧ p x = false := by
  rw [← List.count_pos_iff, ← List.count_pos_iff (l := l), List.count_diff]
  by_cases hp : p x = true
  · simp [List.count_filter hp, hp]
  · simp [List.count_eq_zero_of_not_mem fun h => hp (List.mem_filter.mp h).2, hp]

/-! ### Port events (R825) -/

section
variable {q e k : Nat} (hq : q < 16)
include hq

theorem State.portEvent_eventsOnly : (s.setRegBit (R.RESPORT_EVT_STATUS q) e true).EventsOnly (s.portEvent q e) :=
  .ite (State.raise_eventsOnly (by omega) (by simp only [List.mem_cons, List.not_mem_nil, or_false]; omega)) .refl

theorem State.portEvent_now : (s.portEvent q e).now = s.now := (State.portEvent_eventsOnly hq).now

theorem State.portEvent_lk : (s.portEvent q e).lk = s.lk := (State.portEvent_eventsOnly hq).lk

theorem State.portEvent_reg (hk : 0x101000000 ≤ k) (hne : k ≠ R.RESPORT_EVT_STATUS q) : (s.portEvent q e).reg k = s.reg k :=
  ((State.portEvent_eventsOnly hq).reg k (not_eventReg_of_netw hk)).trans (State.reg_setReg_other _ _ hne)

theorem State.portEvent_reg_status : (s.portEvent q e).reg (R.RESPORT_STATUS q) = s.reg (R.RESPORT_STATUS q) :=
  State.portEvent_reg hq (Nat.le_add_right_of_le (by decide)) (by simp [R.RESPORT_STATUS, R.RESPORT_EVT_STATUS])

theorem State.portEvent_shown (he : e < 32) : (s.portEvent q e).regBit (R.RESPORT_EVT_STATUS q) e = true := by
  have hk : 0x101000000 ≤ R.RESPORT_EVT_STATUS q := Nat.le_add_right_of_le (by decide)
  rw [State.regBit_eq_of_reg ((State.portEvent_eventsOnly hq).reg _ (not_eventReg_of_netw hk)), State.regBit_setRegBit he, if_pos rfl]

theorem State.portEvent_pends (h : s.regBit (R.RESPORT_EVT_EN q) e = true) : (s.portEvent q e).pends (192 + q) := by
  have hne : R.RESPORT_EVT_EN q ≠ R.RESPORT_EVT_STATUS q := by simp [R.RESPORT_EVT_EN, R.RESPORT_EVT_STATUS]
  have hx : s.portEvent q e = (s.setRegBit (R.RESPORT_EVT_STATUS q) e true).raise (192 + q) :=
    if_pos ((State.regBit_eq_of_reg (State.reg_setReg_other _ _ hne)).trans h)
  rw [hx]
  exact State.raise_pends (by omega) (by simp only [List.mem_cons, List.not_mem_nil, or_false]; omega)

end

/-! ### Failed commands -/

section
variable {c : NvmeCmd} {k : Nat}

theorem State.ioError_eventsOnly : (s.bump R.RESV_IO_ERR).EventsOnly s.ioError := State.raise_eventsOnly (by decide) (by decide)

/-- Beyond the error that is counted, a failed command concerns jobs and chains. -/
theorem State.nvmeFail_eq : ∃ bt jn, s.nvmeFail c = { s.ioError with bt, jn } := by
  have hread : ∀ l : List Job, ∃ bt jn, l.foldl (fun s j => s.blockIn j c.rbn false) s.ioError = { s.ioError with bt, jn } := fun l => by
    refine List.foldlRecOn l _ (motive := fun u : State => ∃ bt jn, u = { s.ioError with bt, jn }) ⟨_, _, rfl⟩ fun u hu j _ => ?_
    obtain ⟨_, _, rfl⟩ := hu
    exact ⟨_, _, rfl⟩
  unfold State.nvmeFail
  extract_lets u
  cases c.kind with
  | read => exact hread _
  | write =>
    dsimp only
    split
    · split <;> exact ⟨_, _, rfl⟩
    · exact ⟨_, _, rfl⟩
  | flush => exact ⟨_, _, rfl⟩

theorem State.nvmeFail_now : (s.nvmeFail c).now = s.now := by
  obtain ⟨_, _, e⟩ := State.nvmeFail_eq (s := s) (c := c)
  rw [e]
  exact State.ioError_eventsOnly.now

theorem State.nvmeFail_lk : (s.nvmeFail c).lk = s.lk := by
  obtain ⟨_, _, e⟩ := State.nvmeFail_eq (s := s) (c := c)
  rw [e]
  exact State.ioError_eventsOnly.lk

theorem State.nvmeFail_reg_ioError : (s.nvmeFail c).reg k = s.ioError.reg k := by
  obtain ⟨_, _, e⟩ := State.nvmeFail_eq (s := s) (c := c)
  rw [e]
  rfl

theorem State.nvmeFail_reg (hk : 0x101000000 ≤ k) : (s.nvmeFail c).reg k = s.reg k := by
  rw [State.nvmeFail_reg_ioError, State.ioError_eventsOnly.reg k (not_eventReg_of_netw hk)]
  refine State.reg_setReg_other _ _ ?_
  rintro rfl
  exact absurd hk (by decide)

/-- Commands of a port fail one after another, and leave its list. -/
def State.failAll (s : State) (l : List NvmeCmd) : State := l.foldl (fun s x => (s.nvmeDrop x).nvmeFail x) s

theorem State.failAll_facts {l : List NvmeCmd} : (s.failAll l).now = s.now ∧ (s.failAll l).lk.nvme = s.lk.nvme.diff l ∧
    ∀ k, 0x101000000 ≤ k → (s.failAll l).reg k = s.reg k := by
  induction l generalizing s with
  | nil => exact ⟨rfl, rfl, fun _ _ => rfl⟩
  | cons x l ih =>
    obtain ⟨hnow, hnvme, hreg⟩ := ih (s := (s.nvmeDrop x).nvmeFail x)
    refine ⟨hnow.trans State.nvmeFail_now, hnvme.trans ?_, fun k hk => (hreg k hk).trans (State.nvmeFail_reg hk)⟩
    rw [State.nvmeFail_lk, List.diff_cons]
    rfl

/-- Of the commands at work those that satisfy `p` fail. -/
def State.failWhere (s : State) (p : NvmeCmd → Bool) : State := s.failAll (s.lk.nvme.filter p)

theorem State.failWhere_facts {p : NvmeCmd → Bool} : (s.failWhere p).now = s.now ∧
    (∀ x, x ∈ (s.failWhere p).lk.nvme ↔ x ∈ s.lk.nvme ∧ p x = false) ∧ ∀ k, 0x101000000 ≤ k → (s.failWhere p).reg k = s.reg k := by
  obtain ⟨hnow, hnvme, hreg⟩ := State.failAll_facts (s := s) (l := s.lk.nvme.filter p)
  refine ⟨hnow, fun x => ?_, hreg⟩
  rw [State.failWhere, hnvme]
  exact mem_diff_filter

end

variable {q : Fin 16}

/-! ### Completions (R793) -/

section
variable {n : Nat} {c : NvmeCmd} (h : (s.lk.nvme.filter fun c => c.port == q.val)[n]? = some c)
include h

theorem nvmeCompletion_read (hc : c.kind = .read) : Completes (.nvmeCompletion q n true) s fun t =>
    t.lk.nvme = s.lk.nvme.erase c ∧ s.onlyRegs t [R.RESPORT_LAT_MAX q.val] ∧
    t.reg (R.RESPORT_LAT_MAX q.val) = w32 (max (s.reg (R.RESPORT_LAT_MAX q.val)).toNat ((s.now - c.issued) / 1000)) := by
  have hx : exec (.nvmeCompletion q n true) s = .next ((s.nvmeDrop c).setReg (R.RESPORT_LAT_MAX q.val)
      (w32 (max (s.reg (R.RESPORT_LAT_MAX q.val)).toNat ((s.now - c.issued) / 1000)))) := by
    change execNvmeCompletion q n true s = _
    simp only [execNvmeCompletion, h, hc, not_true, if_false]
    rfl
  obtain ⟨hreg, honly⟩ := State.setReg_onlyRegs (s := s.nvmeDrop c) (k := R.RESPORT_LAT_MAX q.val)
    (v := w32 (max (s.reg (R.RESPORT_LAT_MAX q.val)).toNat ((s.now - c.issued) / 1000)))
  exact ⟨_, hx, rfl, honly, hreg⟩

theorem nvmeCompletion_error : Completes (.nvmeCompletion q n false) s fun t =>
    t.lk.nvme = s.lk.nvme.erase c ∧ t.reg (R.RESPORT_ERRORS q.val) = satInc (s.reg (R.RESPORT_ERRORS q.val)) ∧
    t.reg R.RESV_IO_ERR = satInc (s.reg R.RESV_IO_ERR) ∧ t.pends 265 := by
  have hx : exec (.nvmeCompletion q n false) s = .next (((s.nvmeDrop c).bump (R.RESPORT_ERRORS q.val)).nvmeFail c) := by
    change execNvmeCompletion q n false s = _
    simp only [execNvmeCompletion, h, Bool.false_eq_true, not_false_eq_true, if_true]
  have hne : R.RESV_IO_ERR ≠ R.RESPORT_ERRORS q.val := by
    simp only [R.RESV_IO_ERR, R.RESPORT_ERRORS]
    omega
  refine ⟨_, hx, congrArg LinkState.nvme State.nvmeFail_lk, ?_, ?_, ?_⟩
  · exact (State.nvmeFail_reg (Nat.le_add_right_of_le (by decide))).trans (State.reg_setReg_same _ _ _)
  · rw [State.nvmeFail_reg_ioError, State.ioError_eventsOnly.reg _ (not_eventReg_of_lt (by decide) (by decide))]
    exact (State.reg_setReg_same _ _ _).trans (congrArg satInc (State.reg_setReg_other _ _ hne))
  · exact (State.regBit_eq_of_reg State.nvmeFail_reg_ioError).trans (State.raise_pends (by decide) (by decide))

end

/-! ### Abort, controller reset and failure (R794, R824) -/

section
variable {c : NvmeCmd}

theorem State.mem_of_nvmeFirst {p : NvmeCmd → Bool} (h : s.nvmeFirst q.val p = some c) : c ∈ s.lk.nvme := List.mem_of_find?_eq_some h

/-- An Abort is sent for command `c`. -/
def State.aborted (s : State) (q : Nat) (c : NvmeCmd) : State :=
  let at' := max s.now (c.issued + s.nvmeTimeout q)
  (({ s with now := at' } : State).mapLk fun k => { k with
    nvme := k.nvme.map fun x => if x = c then { x with aborted := some at' } else x }).emit (.nvme q) []

theorem nvmeCommandTimeout_aborts (h : s.nvmeFirst q.val (fun c => c.aborted.isNone) = some c) :
    Completes (.nvmeCommandTimeout q) s fun t =>
      t.now = max s.now (c.issued + s.regField (R.RESPORT_CFG q.val) 31 16 * 1000000) ∧ { c with aborted := some t.now } ∈ t.lk.nvme ∧
      t.reg (R.RESPORT_TIMEOUTS q.val) = satInc (s.reg (R.RESPORT_TIMEOUTS q.val)) ∧ t.regBit (R.RESPORT_EVT_STATUS q.val) 3 = true ∧
      (s.regBit (R.RESPORT_EVT_EN q.val) 3 = true → t.pends (192 + q.val)) := by
  have hx : exec (.nvmeCommandTimeout q) s = .next (((s.aborted q.val c).bump (R.RESPORT_TIMEOUTS q.val)).portEvent q.val 3) := by
    change execNvmeCommandTimeout q s = _
    simp only [execNvmeCommandTimeout, h]
    rfl
  have hreg {k : Nat} : (s.aborted q.val c).reg k = s.reg k := State.emit_reg
  have hne : R.RESPORT_TIMEOUTS q.val ≠ R.RESPORT_EVT_STATUS q.val ∧ R.RESPORT_EVT_EN q.val ≠ R.RESPORT_TIMEOUTS q.val := by
    simp [R.RESPORT_TIMEOUTS, R.RESPORT_EVT_STATUS, R.RESPORT_EVT_EN]
  obtain ⟨out, e⟩ : ∃ out, s.aborted q.val c = { ({ s with now := max s.now (c.issued + s.nvmeTimeout q.val) } : State).mapLk _ with out } :=
    State.emit_eq
  have hnow : (((s.aborted q.val c).bump (R.RESPORT_TIMEOUTS q.val)).portEvent q.val 3).now = max s.now (c.issued + s.nvmeTimeout q.val) :=
    (State.portEvent_now q.isLt).trans (congrArg State.now e)
  refine ⟨_, hx, hnow, ?_, ?_, State.portEvent_shown q.isLt (by decide), fun hen => State.portEvent_pends q.isLt ?_⟩
  · rw [hnow, State.portEvent_lk q.isLt]
    refine (congrArg (·.lk.nvme) e) ▸ List.mem_map.mpr ⟨c, State.mem_of_nvmeFirst h, if_pos rfl⟩
  · rw [State.portEvent_reg q.isLt (Nat.le_add_right_of_le (by decide)) hne.1]
    exact (State.reg_setReg_same _ _ _).trans (congrArg satInc hreg)
  · exact (State.regBit_eq_of_reg ((State.reg_setReg_other _ _ hne.2).trans hreg)).trans hen

/-- The controller of port `q` is being reset from the felt time `at'` on. -/
def State.controllerReset (s : State) (q at' : Nat) : State :=
  (((((({ s with now := at' } : State).setRegBit (R.RESPORT_STATUS q) 8 false).setRegBit (R.RESPORT_STATUS q) 9 true).bump
    (R.RESPORT_RESETS q)).portEvent q 1).mapLk fun k => { k with nvmeReset := k.nvmeReset ++ [(q, at')] })

theorem State.controllerReset_facts {at' : Nat} : (s.controllerReset q.val at').now = at' ∧
    (s.controllerReset q.val at').regBit (R.RESPORT_STATUS q.val) 8 = false ∧
    (s.controllerReset q.val at').reg (R.RESPORT_RESETS q.val) = satInc (s.reg (R.RESPORT_RESETS q.val)) ∧
    (s.controllerReset q.val at').lk.nvme = s.lk.nvme := by
  have hne : R.RESPORT_RESETS q.val ≠ R.RESPORT_EVT_STATUS q.val ∧ R.RESPORT_STATUS q.val ≠ R.RESPORT_RESETS q.val := by
    simp [R.RESPORT_STATUS, R.RESPORT_EVT_STATUS, R.RESPORT_RESETS]
  obtain ⟨hre, hsr⟩ := hne
  refine ⟨State.portEvent_now q.isLt, ?_, ?_, ?_⟩
  · refine (State.regBit_eq_of_reg ((State.portEvent_reg_status q.isLt).trans (State.reg_setReg_other _ _ hsr))).trans ?_
    rw [State.regBit_setRegBit (by decide), State.regBit_setRegBit (by decide)]
    rfl
  · refine (State.portEvent_reg q.isLt (Nat.le_add_right_of_le (by decide)) hre).trans ((State.reg_setReg_same _ _ _).trans (congrArg satInc ?_))
    exact (State.reg_setReg_other _ _ hsr.symm).trans (State.reg_setReg_other _ _ hsr.symm)
  · rw [State.controllerReset, State.mapLk_lk, State.portEvent_lk q.isLt]
    rfl

theorem nvmeAbortTimeout_resets (h : s.nvmeFirst q.val (fun c => c.aborted.isSome) = some c) : Completes (.nvmeAbortTimeout q) s fun t =>
    t.now = max s.now (c.aborted.getD 0 + 100000000) ∧ t.regBit (R.RESPORT_STATUS q.val) 8 = false ∧
    t.reg (R.RESPORT_RESETS q.val) = satInc (s.reg (R.RESPORT_RESETS q.val)) ∧
    (∀ x ∈ t.lk.nvme, (x.port == q.val) = true → x.kind ≠ .read) ∧ ∀ x ∈ s.lk.nvme, x.kind ≠ .read → x ∈ t.lk.nvme := by
  have hx : exec (.nvmeAbortTimeout q) s = .next ((s.controllerReset q.val (max s.now (c.aborted.getD 0 + 100000000))).failWhere
      fun x => x.port == q.val && x.kind == .read) := by
    change execNvmeAbortTimeout q s = _
    simp only [execNvmeAbortTimeout, h]
    rfl
  obtain ⟨hnow, hready, hresets, hnvme⟩ := State.controllerReset_facts (s := s) (q := q) (at' := max s.now (c.aborted.getD 0 + 100000000))
  obtain ⟨hnow', hleft, hreg⟩ := State.failWhere_facts (s := s.controllerReset q.val (max s.now (c.aborted.getD 0 + 100000000)))
    (p := fun x => x.port == q.val && x.kind == .read)
  refine ⟨_, hx, hnow'.trans hnow, (State.regBit_eq_of_reg (hreg _ (Nat.le_add_right_of_le (by decide)))).trans hready,
    (hreg _ (Nat.le_add_right_of_le (by decide))).trans hresets, fun x hmem hport hread => ?_, fun x hmem hread => ?_⟩
  · simpa [hport, hread] using ((hleft x).mp hmem).2
  · exact (hleft x).mpr ⟨hnvme.symm ▸ hmem, by simp [hread]⟩

end

/-- The controller of port `q` has failed, at the felt time `at'`. -/
def State.controllerFailed (s : State) (q at' : Nat) : State :=
  (((({ s with now := at' } : State).mapLk fun k => { k with nvmeReset := k.nvmeReset.filter fun x => x.1 != q }).setRegBit
    (R.RESPORT_STATUS q) 9 false).setRegBit (R.RESPORT_STATUS q) 10 true).portEvent q 2

theorem nvmeReadyTimeout_fails {p : Nat × Nat} (h : (s.lk.nvmeReset.find? fun p => p.1 == q.val) = some p) :
    Completes (.nvmeReadyTimeout q) s fun t => t.now = max s.now (p.2 + 2000000000) ∧ t.regBit (R.RESPORT_STATUS q.val) 10 = true ∧
      ∀ x ∈ t.lk.nvme, (x.port == q.val) = false := by
  have hx : exec (.nvmeReadyTimeout q) s = .next ((s.controllerFailed q.val (max s.now (p.2 + 2000000000))).failWhere fun x => x.port == q.val) := by
    change execNvmeReadyTimeout q s = _
    simp only [execNvmeReadyTimeout, h]
    rfl
  obtain ⟨hnow, hleft, hreg⟩ := State.failWhere_facts (s := s.controllerFailed q.val (max s.now (p.2 + 2000000000)))
    (p := fun x => x.port == q.val)
  refine ⟨_, hx, hnow.trans (State.portEvent_now q.isLt), ?_, fun x hmem => ((hleft x).mp hmem).2⟩
  refine (State.regBit_eq_of_reg ((hreg _ (Nat.le_add_right_of_le (by decide))).trans (State.portEvent_reg_status q.isLt))).trans ?_
  exact (State.regBit_setRegBit (by decide)).trans (if_pos rfl)

/-! ### Links (R824) -/

/-- The link of port `q` is gone: of its status what remains is whether it has failed, and whether its drive was removed. -/
def State.linkLost (s : State) (q : Nat) (removed : Bool) : State :=
  ((s.setReg (R.RESPORT_STATUS q) (w32 (field (s.reg (R.RESPORT_STATUS q)) 10 10 * 1024 + b2n removed * 2048))).mapLk fun k =>
    { k with nvmeReset := k.nvmeReset.filter fun x => x.1 != q }).portEvent q 0

theorem lostStatus_bits : ∀ failed < 2, ∀ removed : Bool,
    bit (w32 (failed * 1024 + b2n removed * 2048)) 0 = false ∧ bit (w32 (failed * 1024 + b2n removed * 2048)) 8 = false := by decide

theorem reservoirLinkLoss_lost (removed : Bool) (h : s.regBit (R.RESPORT_STATUS q.val) 0 = true) :
    Completes (.reservoirLinkLoss q removed) s fun t =>
      t.regBit (R.RESPORT_STATUS q.val) 0 = false ∧ t.regBit (R.RESPORT_STATUS q.val) 8 = false ∧
      (∀ x ∈ t.lk.nvme, (x.port == q.val) = false) ∧ ∀ x ∈ s.lk.nvme, (x.port == q.val) = false → x ∈ t.lk.nvme := by
  have hx : exec (.reservoirLinkLoss q removed) s = .next ((s.linkLost q.val removed).failWhere fun x => x.port == q.val) :=
    congrArg Host.Outcome.next (if_pos h)
  obtain ⟨-, hleft, hreg⟩ := State.failWhere_facts (s := s.linkLost q.val removed) (p := fun x => x.port == q.val)
  have hstatus := ((hreg _ (Nat.le_add_right_of_le (by decide))).trans (State.portEvent_reg_status q.isLt)).trans
    (State.reg_setReg_same s (R.RESPORT_STATUS q.val) _)
  obtain ⟨h₀, h₈⟩ := lostStatus_bits (field (s.reg (R.RESPORT_STATUS q.val)) 10 10) (Nat.mod_lt _ (by decide)) removed
  have hlk : (s.linkLost q.val removed).lk.nvme = s.lk.nvme :=
    (congrArg LinkState.nvme (State.portEvent_lk q.isLt)).trans rfl
  exact ⟨_, hx, (congrArg (bit · 0) hstatus).trans h₀, (congrArg (bit · 8) hstatus).trans h₈,
    fun x hmem => ((hleft x).mp hmem).2, fun x hmem hp => (hleft x).mpr ⟨hlk.symm ▸ hmem, hp⟩⟩

section
variable {gen : Fin 6} {width : Fin 3} {ident : Word}

/-- The link of port `q` is up and its controller ready; the commands at work are issued anew. -/
def State.linkReady (s : State) (q gen width : Nat) (ident : Word) : State :=
  ((s.setReg (R.RESPORT_STATUS q) (w32 (1 + gen * 2 + width * 16 + 256))).setReg (R.RESPORT_IDENT q) ident).mapLk fun k => { k with
    nvmeReset := k.nvmeReset.filter fun x => x.1 != q
    nvme := k.nvme.map fun c => if c.port = q then { c with issued := s.now, aborted := none } else c }

/-- The writes among a port's commands leave again. -/
def State.writesAgain (s : State) (q : Nat) : State :=
  (s.lk.nvme.filter fun c => c.port == q && c.kind == .write).foldl (fun s c => s.emit (.reservoir q c.lba) c.data) s

theorem State.writesAgain_eq {i : Nat} : ∃ out, s.writesAgain i = { s with out } :=
  List.foldlRecOn _ _ (motive := fun u : State => ∃ out, u = { s with out }) ⟨_, rfl⟩ fun u ⟨_, hu⟩ c _ => by
    obtain ⟨out, e⟩ := State.emit_eq (s := u) (p := .reservoir i c.lba) (bs := c.data)
    exact ⟨out, by rw [e, hu]⟩

/-- The port's status and identity as its link comes up. -/
theorem State.linkReady_reg : (s.linkReady q.val gen width ident).reg (R.RESPORT_STATUS q.val) = w32 (1 + gen.val * 2 + width.val * 16 + 256) ∧
    (s.linkReady q.val gen width ident).reg (R.RESPORT_IDENT q.val) = ident := by
  have hne : R.RESPORT_STATUS q.val ≠ R.RESPORT_IDENT q.val := by simp [R.RESPORT_STATUS, R.RESPORT_IDENT]
  rw [State.linkReady, State.mapLk_reg, State.mapLk_reg, State.reg_setReg_other _ _ hne]
  exact ⟨State.reg_setReg_same _ _ _, State.reg_setReg_same _ _ _⟩

theorem upStatus_fields : ∀ (gen : Fin 6) (width : Fin 3), let w := w32 (1 + gen.val * 2 + width.val * 16 + 256)
    bit w 0 = true ∧ bit w 8 = true ∧ field w 3 1 = gen.val := by decide

/-- The return of a link, up to the event of a port that had none. -/
def State.linkReturned (s : State) (q gen width : Nat) (ident : Word) : State :=
  let u := (s.linkReady q gen width ident).writesAgain q
  if s.regBit (R.RESPORT_STATUS q) 0 then u else u.portEvent q 0

theorem State.linkReturned_facts : (s.linkReturned q.val gen width ident).lk.nvme = (s.linkReady q.val gen width ident).lk.nvme ∧
    (s.linkReturned q.val gen width ident).reg (R.RESPORT_STATUS q.val) = w32 (1 + gen.val * 2 + width.val * 16 + 256) ∧
    (s.linkReturned q.val gen width ident).reg (R.RESPORT_IDENT q.val) = ident := by
  have hie : R.RESPORT_IDENT q.val ≠ R.RESPORT_EVT_STATUS q.val := by simp [R.RESPORT_IDENT, R.RESPORT_EVT_STATUS]
  obtain ⟨hstatus, hident⟩ := State.linkReady_reg (s := s) (q := q) (gen := gen) (width := width) (ident := ident)
  unfold State.linkReturned
  obtain ⟨out, e⟩ := State.writesAgain_eq (s := s.linkReady q.val gen width ident) (i := q.val)
  rw [e]
  generalize s.linkReady q.val gen width ident = u at hstatus hident ⊢
  dsimp only
  split
  · exact ⟨rfl, hstatus, hident⟩
  · exact ⟨congrArg LinkState.nvme (State.portEvent_lk q.isLt), (State.portEvent_reg_status q.isLt).trans hstatus,
      (State.portEvent_reg q.isLt (Nat.le_add_right_of_le (by decide)) hie).trans hident⟩

theorem reservoirLinkUp_ready (hcfg : s.reg (R.RESPORT_CFG q.val) ≠ 0) (hfail : s.regBit (R.RESPORT_STATUS q.val) 10 = false)
    (hgen : gen.val ≠ 0) (hwidth : width.val ≠ 0) : Completes (.reservoirLinkUp q gen width ident) s fun t =>
      t.regBit (R.RESPORT_STATUS q.val) 0 = true ∧ t.regBit (R.RESPORT_STATUS q.val) 8 = true ∧
      t.regField (R.RESPORT_STATUS q.val) 3 1 = gen.val ∧ t.reg (R.RESPORT_IDENT q.val) = ident ∧
      ∀ c ∈ s.lk.nvme, (c.port == q.val) = true → { c with issued := s.now, aborted := none } ∈ t.lk.nvme := by
  obtain ⟨t, hx, hd⟩ : ∃ t, exec (.reservoirLinkUp q gen width ident) s = .next t ∧ (s.linkReturned q.val gen width ident).DrainsOnly t :=
    ⟨(List.range 17).foldl State.drainChain (s.linkReturned q.val gen width ident),
      congrArg Host.Outcome.next (if_neg (not_or.mpr ⟨hcfg, not_or.mpr ⟨by simp [hfail], not_or.mpr ⟨hgen, hwidth⟩⟩⟩)),
      .foldl .refl fun _ _ hu => hu.drainChain⟩
  obtain ⟨hnvme, hstatus, hident⟩ := State.linkReturned_facts (s := s) (q := q) (gen := gen) (width := width) (ident := ident)
  obtain ⟨h₀, h₈, h₃⟩ := upStatus_fields gen width
  have hup := (hd.reg _ (not_drainReg_of_netw (Nat.le_add_right_of_le (by decide)))).trans hstatus
  refine ⟨t, hx, (congrArg (bit · 0) hup).trans h₀, (congrArg (bit · 8) hup).trans h₈, (congrArg (field · 3 1) hup).trans h₃,
    (hd.reg _ (not_drainReg_of_netw (Nat.le_add_right_of_le (by decide)))).trans hident, fun c hc hport => hd.nvme ?_⟩
  rw [hnvme]
  exact List.mem_map.mpr ⟨c, hc, if_pos (beq_iff_eq.mp hport)⟩

end

end Sys2Proof.Machine

namespace Sys2Proof
open Machine

/-- Settles O49: reads only add commands and count, a failed command concerns its job or chain, and a failed block is an excursion, which
reaches none of the registers of RESV. -/
theorem reservoirPorts : Obligations.ReservoirPorts := fun _ _ =>
  ⟨fun _ _ _ _ => reservoirReadSet_made,
    fun _ _ _ hj => ⟨fun h => ⟨reservoirReadComplete_right hj h, reservoirReadComplete_wrong hj h⟩, reservoirReadComplete_late hj⟩,
    fun _ _ h => ⟨nvmeCompletion_read h, nvmeCompletion_error h⟩, fun _ => nvmeCommandTimeout_aborts, fun _ => nvmeAbortTimeout_resets,
    fun _ => nvmeReadyTimeout_fails, reservoirLinkLoss_lost, fun _ _ _ => reservoirLinkUp_ready⟩

end Sys2Proof

/-! SUPPORT. What leaves a commit of the mould as it stands: a release, and the loading of a deckle (R85, R463 to R465). -/

namespace Sys2Proof.Machine

variable {s t u : State} {j : Job} {r : Rel} {k n d : Nat}

/-- A register that tells how a commit stands: MOULD_STATUS, and MOULD_D_APPLY of each deckle. -/
def commitReg (k : Nat) : Prop := k = R.MOULD_STATUS ∨ (R.MOULD_D_APPLY 0 ≤ k ∧ k < R.MOULD_D_APPLY 16 ∧ k % 0x20 = 0x18)

theorem commitReg_apply (d : Deckle) : commitReg (R.MOULD_D_APPLY d.val) := by grind [commitReg]

/-- From `s` to `t` nothing has changed of what a commit has reached: the committed mould, the deckles closed for it, its job, and the
registers that tell how it stands. -/
structure State.KeepsCommit (s t : State) : Prop where
  committed : t.md.committed = s.md.committed
  closed : t.md.closed = s.md.closed
  commit : t.md.commit = s.md.commit
  reg : ∀ k, commitReg k → t.reg k = s.reg k

namespace State.KeepsCommit

theorem refl : s.KeepsCommit s := ⟨rfl, rfl, rfl, fun _ _ => rfl⟩

theorem trans (h₁ : s.KeepsCommit t) (h₂ : t.KeepsCommit u) : s.KeepsCommit u :=
  ⟨h₂.committed.trans h₁.committed, h₂.closed.trans h₁.closed, h₂.commit.trans h₁.commit,
    fun k hk => (h₂.reg k hk).trans (h₁.reg k hk)⟩

theorem ite {c : Prop} {_ : Decidable c} (ht : s.KeepsCommit t) (hu : s.KeepsCommit u) : s.KeepsCommit (if c then t else u) := by
  split <;> assumption

theorem foldl {α : Type} {l : List α} {f : State → α → State} (h : s.KeepsCommit t)
    (hf : ∀ u a, a ∈ l → s.KeepsCommit u → s.KeepsCommit (f u a)) : s.KeepsCommit (l.foldl f t) :=
  List.foldlRecOn l f (motive := s.KeepsCommit) h fun u hu a ha => hf u a ha hu

/-- A change that is neither of registers nor of the mould. -/
theorem of_regs (h : s.KeepsCommit t) (hr : u.regs = t.regs) (hm : u.md = t.md) : s.KeepsCommit u :=
  h.trans ⟨congrArg _ hm, congrArg _ hm, congrArg _ hm, fun k _ => congrArg (spGet regReset · k) hr⟩

theorem mapBt {f : BeatState → BeatState} (h : s.KeepsCommit t) : s.KeepsCommit (t.mapBt f) := h.of_regs rfl rfl

/-- A change of the mould's state beside what a commit has reached. -/
theorem mapMd {f : MouldState → MouldState} (h : s.KeepsCommit t)
    (hf : ∀ m, (f m).committed = m.committed ∧ (f m).closed = m.closed ∧ (f m).commit = m.commit := by exact fun _ => ⟨rfl, rfl, rfl⟩) :
    s.KeepsCommit (t.mapMd f) := by
  obtain ⟨hm, hl, hj⟩ := hf t.md
  exact h.trans ⟨hm, hl, hj, fun _ _ => rfl⟩

/-- That a register written is none of a commit's is arithmetic on addresses, which every use of the rules for registers leaves to `grind`. -/
theorem setReg {v : Word} (h : s.KeepsCommit t) (hk : ¬ commitReg k := by grind [commitReg]) : s.KeepsCommit (t.setReg k v) :=
  h.trans ⟨rfl, rfl, rfl, fun _ hj => State.reg_setReg_other _ _ fun e => hk (e ▸ hj)⟩

theorem setRegField {hi lo v : Nat} (h : s.KeepsCommit t) (hk : ¬ commitReg k := by grind [commitReg]) :
    s.KeepsCommit (t.setRegField k hi lo v) := h.setReg hk

theorem setRegs {l : List (Nat × Nat)} (h : s.KeepsCommit t)
    (hl : l.Forall (fun p => ¬ commitReg p.1) := by dsimp only [List.Forall]; and_intros <;> grind [commitReg]) : s.KeepsCommit (t.setRegs l) :=
  h.foldl fun _ p hp hu => hu.setReg (List.forall_iff_forall_mem.mp hl p hp)

/-- Words written from behind the mould's block on. -/
theorem setRegBytes {bs : Bytes} (h : s.KeepsCommit t) (hk : R.MOULD_D_APPLY 16 ≤ k := by grind) : s.KeepsCommit (t.setRegBytes k bs) :=
  h.foldl fun _ _ _ hu => hu.setReg

theorem clearRegs {lo hi : Nat} (h : s.KeepsCommit t) (hk : hi ≤ R.MOULD_STATUS ∨ R.MOULD_D_APPLY 16 ≤ lo := by grind) :
    s.KeepsCommit (t.clearRegs lo hi) := by
  refine h.trans ⟨rfl, rfl, rfl, fun k hc => State.clearRegs_reg.trans (if_neg ?_)⟩
  grind [commitReg]

theorem raise (h : s.KeepsCommit t) (hn : n < 640) (hx : n ∉ [318, 263, 269]) : s.KeepsCommit (t.raise n) := by
  have hr : t.EventsOnly (t.raise n) := State.raise_eventsOnly hn hx
  have hmd : (t.raise n).md = t.md := by
    obtain ⟨_, _, _, _, _, e⟩ := hr.rest
    rw [e]
  exact h.trans ⟨congrArg _ hmd, congrArg _ hmd, congrArg _ hmd, fun k hk => hr.reg k (by grind [commitReg, eventReg])⟩

theorem emit {p : OutPort} {bs : Bytes} (h : s.KeepsCommit t) : s.KeepsCommit (t.emit p bs) := .ite h (h.of_regs rfl rfl)

theorem queueRec {p : PendRec} (h : s.KeepsCommit t) : s.KeepsCommit (t.queueRec p) := .ite (h.of_regs rfl rfl) h

/-! ### A release (R85, R243 to R251, R783) -/

theorem releaseHost {f q : Nat} (h : s.KeepsCommit t) : s.KeepsCommit (t.releaseHost j r f q) := by
  unfold State.releaseHost
  extract_lets u c w n w₁ w₂
  have hw : s.KeepsCommit w := emit (.ite h h.emit)
  have hw₁ : s.KeepsCommit w₁ := .ite (hw.of_regs rfl rfl) hw
  have hw₂ : s.KeepsCommit w₂ := hw₁.setReg
  exact .ite h (.ite (.ite h.setReg h.setReg.setReg) (.ite (hw₂.of_regs rfl rfl) hw₂))

theorem releaseNet {fr : FrameRef} (h : s.KeepsCommit t) : s.KeepsCommit (t.releaseNet j r fr) := h.of_regs rfl rfl

theorem diagnose (h : s.KeepsCommit t) : s.KeepsCommit (t.diagnose j r) := by
  unfold State.diagnose
  extract_lets d n c c' hd w w'
  by_cases h16 : 16 ≤ d
  · rw [if_pos (.inl h16)]
    exact h
  · have hw : s.KeepsCommit w := h.emit
    have hw' : s.KeepsCommit w' := State.KeepsCommit.setReg (.ite (hw.of_regs rfl rfl) hw)
    exact .ite h (.ite h.setReg (.ite (h.setReg.raise (by decide) (by decide)) (.ite (hw'.of_regs rfl rfl) hw')))

theorem countRelease {cls : Nat} (h : s.KeepsCommit t) : s.KeepsCommit (t.countRelease d cls) := by
  unfold State.countRelease
  extract_lets w
  split
  · exact h
  · have hw : s.KeepsCommit w := h.setReg.setReg.setReg
    exact .ite hw.setReg (.ite hw.setReg (.ite hw.setReg (.ite hw.setReg (.ite (hw.setReg.raise (by decide) (by decide)) hw))))

theorem sendVector {f v : Nat} (h : s.KeepsCommit t) : s.KeepsCommit (t.sendVector f v) := .ite h h.emit

theorem interrupts {was : Nat} (h : s.KeepsCommit t) : s.KeepsCommit (t.interrupts j was) := by
  unfold State.interrupts
  extract_lets w
  have hw : s.KeepsCommit w := by
    unfold w
    split
    · exact .ite h.sendVector h
    · exact h
  exact .ite hw.sendVector hw

theorem dropJob {i : Nat} (h : s.KeepsCommit t) : s.KeepsCommit (t.dropJob i) := h.of_regs rfl rfl

theorem release (h : s.KeepsCommit t) : s.KeepsCommit (t.release j r) := by
  unfold State.release
  extract_lets was w
  have hw : s.KeepsCommit w := by
    unfold w
    split
    · exact h.releaseHost
    · exact h.releaseNet
    · exact h
  exact .ite h hw.diagnose.countRelease.interrupts.dropJob

/-! ### The vats and the sluice entries of a deckle (R463, R556, R557) -/

theorem setMaskBit {lo v : Nat} {b : Bool} (h : s.KeepsCommit t) (hk : ¬ commitReg (lo + 4 * (v / 32)) := by grind [commitReg]) :
    s.KeepsCommit (t.setMaskBit lo v b) := h.setReg hk

theorem vatLost {v : Nat} (h : s.KeepsCommit t) : s.KeepsCommit (t.vatLost v) := by
  unfold State.vatLost
  extract_lets a
  have ha : R.MOULD_D_APPLY 16 ≤ a := Nat.le_add_right_of_le (by decide)
  clear_value a
  have hw : s.KeepsCommit (t.wipe a 0x1000000) := h.of_regs rfl rfl
  exact (hw.clearRegs (.inr ha)).of_regs rfl rfl

theorem clearOwner {owner : Nat} (h : s.KeepsCommit t) : s.KeepsCommit (t.clearOwner owner) := by
  rw [State.clearOwner_eq]
  exact h.foldl fun _ _ _ hu => .ite hu.setReg hu

theorem placeEntry {owner : Nat} {e : SluiceLine} (h : s.KeepsCommit t) : s.KeepsCommit (t.placeEntry owner e) := by
  unfold State.placeEntry
  split
  · exact h.setRegs
  · exact h

theorem placeSection {owner : Nat} {l : List SluiceLine} (h : s.KeepsCommit t) : s.KeepsCommit (t.placeSection owner l) :=
  h.foldl fun _ _ _ hu => hu.placeEntry

theorem placeNew {owner : Nat} {l : List SluiceLine} (h : s.KeepsCommit t) : s.KeepsCommit (t.placeNew owner l) :=
  h.foldl fun _ _ _ hu => .ite hu hu.placeEntry

/-! ### The chain and the settings of a deckle (R294, R368, R463, R465, R470) -/

theorem startEpoch (h : s.KeepsCommit t) : s.KeepsCommit (t.startEpoch k) := by
  have hd : s.KeepsCommit (t.epochDrawn k) := h.of_regs rfl rfl
  rw [State.startEpoch_eq]
  exact hd.queueRec.raise (by decide) (by decide)

theorem loadRoutes {p : Nat} {l : List Bytes} (h : s.KeepsCommit t) : s.KeepsCommit (t.loadRoutes p l) :=
  h.clearRegs.foldl fun _ _ _ hu => hu.setRegBytes

theorem createChain (hd : d < 16) (h : s.KeepsCommit t) : s.KeepsCommit (t.createChain d) := by
  have hc : s.KeepsCommit (t.setChain d { Chain.none with present := true }) := h.of_regs rfl rfl
  exact hc.setRegs.queueRec.startEpoch

theorem removeDeckle (hd : d < 16) (h : s.KeepsCommit t) : s.KeepsCommit (t.removeDeckle d) := by
  have he : s.KeepsCommit ((t.deepErase (0x10 + d)).setChain d Chain.none) := h.of_regs rfl rfl
  exact he.clearRegs.of_regs rfl rfl

theorem loadDeckle (hd : d < 16) (h : s.KeepsCommit t) : s.KeepsCommit (t.loadDeckle d) := by
  unfold State.loadDeckle
  extract_lets +onlyGivenNames r
  split
  · exact h.setRegs.foldl fun _ _ _ hu => hu.loadRoutes
  next p _ =>
    extract_lets +onlyGivenNames f s₁ s₂ s₃ s₄ s₅ s₆
    have h₁ : s.KeepsCommit s₁ := h.mapMd
    have h₂ : s.KeepsCommit s₂ := h₁.setRegs
    have h₄ : s.KeepsCommit s₄ := h₂.setRegField.setReg
    have h₅ : s.KeepsCommit s₅ := h₄.mapBt
    have h₆ : s.KeepsCommit s₆ := h₅.foldl fun _ _ _ hu => hu.loadRoutes
    exact h₆.placeSection.placeNew

theorem mouldDeckleRegs (h : s.KeepsCommit t) : s.KeepsCommit (t.mouldDeckleRegs d) := by
  unfold State.mouldDeckleRegs
  extract_lets r
  split <;> exact h.setRegs

theorem mouldRegs (h : s.KeepsCommit t) : s.KeepsCommit t.mouldRegs :=
  h.setRegs.foldl fun _ _ _ hu => hu.mouldDeckleRegs.setReg

end State.KeepsCommit

end Sys2Proof.Machine

/-! SUPPORT. The steps of a commit (R459, R463, R722): what record 0x0200 then holds, and what a deckle's commit leaves as it stands. -/

namespace Sys2Proof.Machine

variable {s t : State} {m : MouldSet} {p : Bytes} {i d op : Nat}

/-! ### The commit point -/

theorem State.foldl_md {α : Type} {l : List α} {f : State → α → State} (hf : ∀ u a, (f u a).md = u.md) : (l.foldl f s).md = s.md :=
  List.foldlRecOn l f (motive := fun u => u.md = s.md) rfl fun u hu a _ => (hf u a).trans hu

theorem State.queueRec_md {r : PendRec} : (s.queueRec r).md = s.md := by rw [State.queueRec_eq]

theorem State.mouldRecord_md : (s.mouldRecord op d p).md = s.md := State.queueRec_md

theorem State.deepWrite_md {id : Nat} {data : Bytes} : (s.deepWrite id data).md = s.md := State.queueRec_md

theorem State.setRegs_md {l : List (Nat × Nat)} : (s.setRegs l).md = s.md := State.foldl_md fun _ _ => rfl

theorem State.setRegBytes_md {k : Nat} : (s.setRegBytes k p).md = s.md := State.foldl_md fun _ _ => rfl

theorem State.createDeckle_md : (s.createDeckle d).md = s.md := State.setRegs_md.trans State.deepWrite_md

theorem State.raiseFloors_md : (s.raiseFloors m).1.md = s.md := by
  unfold State.raiseFloors
  extract_lets want
  split
  · rfl
  · exact State.deepWrite_md

/-- The commit point: of the mould's state the committed mould alone changes. -/
theorem State.commitMould_md : (s.commitMould m op d p).md = { s.md with committed := some m } := by
  unfold State.commitMould
  extract_lets +onlyGivenNames _ made gone s₁ s₂ s₃ s₄ s₅ s₆ s₇
  calc (gone.foldl (fun s x => s.deepErase (0x10 + x)) s₇).md
      = s₇.md := State.foldl_md fun _ _ => rfl
    _ = s₆.md := State.raiseFloors_md
    _ = s₅.md := State.foldl_md fun _ _ => State.mouldRecord_md
    _ = s₄.md := State.foldl_md fun _ _ => State.mouldRecord_md
    _ = s₃.md := State.mouldRecord_md
    _ = { s₂.md with committed := some m } := rfl
    _ = { s₁.md with committed := some m } := by rw [show s₂.md = s₁.md from State.deepWrite_md]
    _ = { s.md with committed := some m } := by rw [show s₁.md = s.md from State.foldl_md fun _ _ => State.createDeckle_md]

theorem State.measure_md {b : Bytes} : (s.measure i b).md = s.md := by
  unfold State.measure State.extend State.bump
  split
  · rw [State.setReg_md, State.setRegBytes_md]
  · rfl

theorem State.measurePart_md : (s.measurePart d p).md = s.md := (State.foldl_md fun _ _ => State.measure_md).trans State.measure_md

/-! ### A deckle's part is applied -/

theorem State.lt_of_mem_vatsOf {v : Nat} (h : v ∈ s.vatsOf d) : v < 64 := by
  unfold State.vatsOf at h
  extract_lets r at h
  split at h
  · exact List.mem_range.mp (List.mem_filter.mp h).1
  · contradiction

/-- What a deckle's commit has reached stands while its vats are reset and its settings are loaded (R463). -/
theorem State.KeepsCommit.applyDeckle (hd : d < 16) (h : s.KeepsCommit t) : s.KeepsCommit (t.applyDeckle d m) := by
  unfold State.applyDeckle
  extract_lets +onlyGivenNames had has s₁ s₂ s₃ s₄
  have h₁ : s.KeepsCommit s₁ := h.foldl fun u v hv hu => by
    have hv : v < 64 := State.lt_of_mem_vatsOf hv
    extract_lets +onlyGivenNames stays u₁ u₂
    have h₁ : s.KeepsCommit u₁ := hu.setMaskBit.vatLost.mapBt
    have h₂ : s.KeepsCommit u₂ := h₁.setMaskBit.of_regs rfl rfl
    have hp : s.KeepsCommit (u₂.setRegField (R.PMU_DOM_STATE v) 2 0 2) := h₂.setRegField
    exact .ite h₂ (hp.of_regs rfl rfl)
  have h₂ : s.KeepsCommit s₂ := h₁.clearOwner.mapMd
  have h₃ : s.KeepsCommit s₃ := .ite (h₂.removeDeckle hd) h₂
  have h₄ : s.KeepsCommit s₄ := .ite (h₃.createChain hd) (.ite h₃.startEpoch h₃)
  exact (h₄.loadDeckle hd).mouldRegs

end Sys2Proof.Machine

/-! SUPPORT. MOULD_LOAD, MOULD_ABANDON and MOULD_COMMIT as commands, and the reopening of a deckle (R452 to R458, R463, R464). -/

namespace Sys2Proof.Machine

variable {s t : State} {i cls reason e tg : Nat} {j : Job} {im result output : Bytes} {o : Option Bytes}

/-! ### Answers -/

/-- Job `i` is ready, to be released at edge `e` with this class and reason. -/
def State.DueAs (t : State) (i e cls reason : Nat) : Prop :=
  (t.job? i).map (fun y => (y.ready, y.cls, y.reason, y.due)) = some (true, cls, reason, some e)

theorem State.job?_answerCmd (h : s.job? i = some j) : (s.answerCmd i e cls reason result output).job? i =
    some { j with ready := true, cls, reason, result, output, due := some e } := by
  unfold State.answerCmd
  rw [State.job?_updJob, h]
  · rfl
  · exact fun _ => rfl

theorem State.answerCmd_dueAs (h : s.job? i = some j) : (s.answerCmd i e cls reason result output).DueAs i e cls reason := by
  rw [State.DueAs, State.job?_answerCmd h]
  rfl

/-- A refusal shows its reason, answers its job, and leaves the mould's state alone. -/
theorem State.refuseMould_facts (h : s.job? i = some j) : (s.refuseMould i reason).DueAs i s.nextEdge 1 reason ∧
    (s.refuseMould i reason).reg R.MOULD_LAST_REASON = w32 reason ∧ (s.refuseMould i reason).md = s.md :=
  ⟨State.answerCmd_dueAs (s := s.setReg R.MOULD_LAST_REASON (w32 reason)) h, State.reg_setReg_same _ _ _, rfl⟩

theorem completes_of_refuseMould {c : Instr} (hj : s.job? i = some j) (hx : exec c s = .next (s.refuseMould i reason)) :
    Completes c s fun t => t.DueAs i s.nextEdge 1 reason ∧ t.md = s.md := by
  obtain ⟨hdue, -, hmd⟩ := State.refuseMould_facts (reason := reason) hj
  exact ⟨_, hx, hdue, hmd⟩

/-! ### Staging areas (R453, R455) -/

theorem lookup_filter_ne {l : List (Nat × Bytes)} : (l.filter fun x => x.1 != tg).lookup tg = none := by
  refine List.lookup_eq_none_iff.mpr fun p hp => ?_
  have hne : (p.1 != tg) = true := (List.mem_filter.mp hp).2
  exact bne_iff_ne.mpr (bne_iff_ne.mp hne).symm

theorem State.stagedAt_stageAt : (s.stageAt tg o).stagedAt tg = o := by
  unfold State.stagedAt State.stageAt
  rw [State.mapMd_md]
  split
  · rfl
  · cases o <;> simp [List.lookup_append, lookup_filter_ne]

theorem State.stagedAt_of_staged (hf : t.md.stagedFull = s.md.stagedFull) (hs : t.md.staged = s.md.staged) : t.stagedAt tg = s.stagedAt tg := by
  unfold State.stagedAt
  rw [hf, hs]

/-- Beside its area, staging leaves the mould's state as it is. -/
theorem State.stageAt_md : (s.stageAt tg o).md.loads = s.md.loads ∧ (s.stageAt tg o).md.committed = s.md.committed ∧
    (s.stageAt tg o).md.closed = s.md.closed := by
  unfold State.stageAt
  rw [State.mapMd_md]
  split <;> exact ⟨rfl, rfl, rfl⟩

/-! ### MOULD_LOAD and MOULD_ABANDON (R452 to R455) -/

section
variable (hc : s.command i 0x8010 = some j) (hl : ∀ l ∈ s.md.loads, l.1 ≠ i)
include hc hl

theorem exec_mouldLoad : exec (.mouldLoad i) s = .next (if s.committing then s.refuseMould i 0x5013 else
    (s.stageAt (mouldTarget j.desc) none).mapMd fun m =>
      { m with loads := m.loads ++ [(i, mouldTarget j.desc, (firstFail (s.mouldChecks j.input)).getD 0, j.input)] }) := by
  have hany : ¬ (s.md.loads.any fun l => l.1 == i) = true := by
    rw [List.any_eq_true]
    rintro ⟨l, hm, he⟩
    exact hl l hm (beq_iff_eq.mp he)
  change execMouldLoad i s = _
  unfold execMouldLoad
  rw [hc]
  exact congrArg Host.Outcome.next (if_neg hany)

theorem mouldLoad_busy (hb : s.committing = true) :
    Completes (.mouldLoad i) s fun t => t.DueAs i s.nextEdge 1 0x5013 ∧ t.md = s.md :=
  completes_of_refuseMould (State.job?_of_command hc).1 ((exec_mouldLoad hc hl).trans (by rw [if_pos hb]))

theorem mouldLoad_stages (hb : s.committing = false) : Completes (.mouldLoad i) s fun t =>
    t.md.loads = s.md.loads ++ [(i, mouldTarget j.desc, (firstFail (s.mouldChecks j.input)).getD 0, j.input)] ∧
    t.stagedAt (mouldTarget j.desc) = none ∧ t.md.committed = s.md.committed ∧ s.onlyRegs t [] := by
  obtain ⟨hloads, hcom, -⟩ := State.stageAt_md (s := s) (tg := mouldTarget j.desc) (o := none)
  exact ⟨_, (exec_mouldLoad hc hl).trans (congrArg _ (if_neg (by simp [hb]))), congrArg (fun l => l ++ _) hloads,
    (State.stagedAt_of_staged rfl rfl).trans State.stagedAt_stageAt, hcom, rfl, rfl, fun _ _ => rfl⟩

end

/-- The load of job `i` is no longer among those whose checks run. -/
def State.loadEnded (s : State) (i : Nat) : State := s.mapMd fun m => { m with loads := m.loads.filter fun l => l.1 != i }

section
variable (hj : s.job? i = some j) (hl : (s.md.loads.find? fun l => l.1 == i) = some (i, tg, reason, im))
include hj hl

theorem mouldLoadComplete_refused (hr : reason ≠ 0) : Completes (.mouldLoadComplete i) s fun t =>
    t.DueAs i s.nextEdge 1 reason ∧ t.reg R.MOULD_LAST_REASON = w32 reason := by
  have hx : exec (.mouldLoadComplete i) s = .next ((s.loadEnded i).refuseMould i reason) := by
    change execMouldLoadComplete i s = _
    unfold execMouldLoadComplete
    rw [hl]
    exact congrArg Host.Outcome.next (if_pos hr)
  obtain ⟨hdue, hreg, -⟩ := State.refuseMould_facts (s := s.loadEnded i) (reason := reason) hj
  exact ⟨_, hx, hdue, hreg⟩

theorem mouldLoadComplete_staged (hr : reason = 0) : Completes (.mouldLoadComplete i) s fun t =>
    t.DueAs i s.nextEdge 0 0 ∧ t.stagedAt tg = some im ∧
    (t.job? i).map (·.result) = some (partId (imageHead im) ++ leBytes 4 (partSvn (imageHead im)) ++ zeros 4) := by
  have hx : exec (.mouldLoadComplete i) s = .next (((s.loadEnded i).stageAt tg (some im)).answerCmd i s.nextEdge 0 0
      (partId (imageHead im) ++ leBytes 4 (partSvn (imageHead im)) ++ zeros 4) []) := by
    change execMouldLoadComplete i s = _
    unfold execMouldLoadComplete
    rw [hl]
    exact congrArg Host.Outcome.next (if_neg (not_not.mpr hr))
  have hj' : ((s.loadEnded i).stageAt tg (some im)).job? i = some j := hj
  refine ⟨_, hx, State.answerCmd_dueAs hj', State.stagedAt_stageAt (s := s.loadEnded i), ?_⟩
  rw [State.job?_answerCmd hj', Option.map_some]

end

theorem mouldAbandon_empties (hc : s.command i 0x8012 = some j) : Completes (.mouldAbandon i) s fun t =>
    t.stagedAt (mouldTarget j.desc) = none ∧ t.DueAs i s.nextEdge 0 0 ∧ t.md.committed = s.md.committed ∧ s.onlyRegs t [] := by
  have hx : exec (.mouldAbandon i) s =
      .next ((s.stageAt (mouldTarget j.desc) none).answerCmd i s.nextEdge 0 0 (zeros 16) []) := by
    change execMouldAbandon i s = _
    unfold execMouldAbandon
    rw [hc]
  have hj : (s.stageAt (mouldTarget j.desc) none).job? i = some j := (State.job?_of_command hc).1
  obtain ⟨-, hcom, -⟩ := State.stageAt_md (s := s) (tg := mouldTarget j.desc) (o := none)
  exact ⟨_, hx, State.stagedAt_stageAt (s := s), State.answerCmd_dueAs hj, hcom, rfl, rfl, fun _ _ => rfl⟩

/-! ### MOULD_COMMIT (R456 to R463) -/

/-- A commit for target `tg` has passed its checks. -/
def State.commitTaken (s : State) (i tg : Nat) : State :=
  (s.bump R.MOULD_COMMITS).mapMd fun k => { k with
    closed := if tg = 16 then (k.committed.getD ⟨[], []⟩).deckles else tg :: k.closed
    commit := some (i, if tg = 16 then none else some tg) }

/-- The commit of a full image, up to its answer. -/
def State.fullCommitted (s : State) (i tg : Nat) (im : Bytes) : State :=
  (((s.commitTaken i tg).commitMould (s.mouldAfter im) 1 0xFF (imageHead im)).mapMd fun k => { k with stagedFull := none, staged := [] }).setRegField
    R.MOULD_STATUS 2 0 4

/-- The commit of deckle `d`'s part, up to its application. -/
def State.deckleCommitted (s : State) (i d : Nat) (im : Bytes) : State :=
  (((((s.commitTaken i d).commitMould (s.mouldAfter im) 2 d (imageHead im)).stageAt d none).measurePart d (imageHead im)).setRegField
    R.MOULD_STATUS 15 12 d).setRegField R.MOULD_STATUS 2 0 3

theorem State.fullCommitted_facts : (s.fullCommitted i tg im).md.committed = some (s.mouldAfter im) ∧
    (s.fullCommitted i tg im).regField R.MOULD_STATUS 2 0 = 4 := by
  refine ⟨congrArg MouldState.committed (State.commitMould_md (s := s.commitTaken i tg)), ?_⟩
  rw [State.fullCommitted, State.regField, State.setRegField, State.reg_setReg_same]
  exact field_setField_same (by decide)

theorem State.deckleCommitted_facts {d : Nat} (hd : d < 16) : (s.deckleCommitted i d im).md.committed = some (s.mouldAfter im) ∧
    (s.deckleCommitted i d im).regField R.MOULD_STATUS 2 0 = 3 ∧ (s.deckleCommitted i d im).regField R.MOULD_STATUS 15 12 = d ∧
    d ∈ (s.deckleCommitted i d im).md.closed := by
  have hmd := State.commitMould_md (s := s.commitTaken i d) (m := s.mouldAfter im) (op := 2) (d := d) (p := imageHead im)
  obtain ⟨-, hcom, hclosed⟩ := State.stageAt_md (s := (s.commitTaken i d).commitMould (s.mouldAfter im) 2 d (imageHead im)) (tg := d) (o := none)
  rw [hmd] at hcom hclosed
  have hm : (s.deckleCommitted i d im).md = _ := State.measurePart_md
  refine ⟨(congrArg MouldState.committed hm).trans hcom, ?_, ?_, ?_⟩
  · rw [State.deckleCommitted, State.regField, State.setRegField, State.reg_setReg_same]
    exact field_setField_same (by decide)
  · rw [State.deckleCommitted, State.regField, State.setRegField, State.reg_setReg_same, field_setField_other (by decide), State.setRegField,
      State.reg_setReg_same, field_setField_same (by decide)]
    exact Nat.mod_eq_of_lt hd
  · rw [hm, hclosed]
    simp [State.commitTaken, hd.ne]

/-- What a commit for target `tg` that passes its checks makes of the state. -/
def State.committedAs (s : State) (i tg : Nat) (im : Bytes) : State :=
  if tg = 16 then
    let u := s.fullCommitted i tg im
    u.answerCmd i u.nextEdge 0 0 (leBytes 4 (u.deepGen 0x0200) ++ leBytes 4 u.nextEdge ++ zeros 8) []
  else (s.deckleCommitted i tg im).applyDeckle tg (s.mouldAfter im)

section
variable (hc : s.command i 0x8011 = some j) (hn : s.md.commit.map (·.1) ≠ some i)
include hc hn

theorem mouldCommit_unstaged (hs : s.stagedAt (mouldTarget j.desc) = none) :
    Completes (.mouldCommit i) s fun t => t.DueAs i s.nextEdge 1 0x5012 ∧ t.md = s.md := by
  refine completes_of_refuseMould (State.job?_of_command hc).1 ?_
  change execMouldCommit i s = _
  unfold execMouldCommit
  rw [hc]
  dsimp only
  rw [if_neg hn, hs]

variable (hs : s.stagedAt (mouldTarget j.desc) = some im)
include hs

/-- The image's part is compared with the one named, then the checks decide. -/
theorem exec_mouldCommit : exec (.mouldCommit i) s = .next (if partId (imageHead im) ≠ slice j.desc 0x28 8 then s.refuseMould i 0x5012 else
    (firstFail (s.commitChecks im (mouldTarget j.desc))).elim (s.committedAs i (mouldTarget j.desc) im) (s.refuseMould i)) := by
  change execMouldCommit i s = _
  unfold execMouldCommit
  rw [hc]
  dsimp only
  rw [if_neg hn, hs]
  dsimp only
  cases firstFail (s.commitChecks im (mouldTarget j.desc)) with
  | some r => rfl
  | none => rfl

theorem mouldCommit_otherId (hid : partId (imageHead im) ≠ slice j.desc 0x28 8) :
    Completes (.mouldCommit i) s fun t => t.DueAs i s.nextEdge 1 0x5012 ∧ t.md = s.md :=
  completes_of_refuseMould (State.job?_of_command hc).1 ((exec_mouldCommit hc hn hs).trans (by rw [if_pos hid]))

variable (hid : partId (imageHead im) = slice j.desc 0x28 8)
include hid

theorem mouldCommit_refused (hf : firstFail (s.commitChecks im (mouldTarget j.desc)) = some reason) :
    Completes (.mouldCommit i) s fun t => t.DueAs i s.nextEdge 1 reason ∧ t.md = s.md :=
  completes_of_refuseMould (State.job?_of_command hc).1
    ((exec_mouldCommit hc hn hs).trans (by rw [if_neg (not_not.mpr hid), hf, Option.elim_some]))

theorem mouldCommit_commits (ht : mouldTarget j.desc ≤ 16) (hf : firstFail (s.commitChecks im (mouldTarget j.desc)) = none) :
    Completes (.mouldCommit i) s fun t =>
      t.md.committed = some (s.mouldAfter im) ∧ t.regField R.MOULD_STATUS 2 0 = (if mouldTarget j.desc = 16 then 4 else 3) ∧
      (mouldTarget j.desc ≠ 16 → t.regField R.MOULD_STATUS 15 12 = mouldTarget j.desc ∧ mouldTarget j.desc ∈ t.md.closed) := by
  have hx : exec (.mouldCommit i) s = .next (s.committedAs i (mouldTarget j.desc) im) :=
    (exec_mouldCommit hc hn hs).trans (by rw [if_neg (not_not.mpr hid), hf, Option.elim_none])
  refine ⟨_, hx, ?_⟩
  unfold State.committedAs
  split
  next h16 =>
    obtain ⟨hcom, hst⟩ := State.fullCommitted_facts (s := s) (i := i) (tg := mouldTarget j.desc) (im := im)
    exact ⟨hcom, hst, fun h => absurd h16 h⟩
  next h16 =>
    have hd : mouldTarget j.desc < 16 := by omega
    obtain ⟨hcom, hst, hdk, hcl⟩ := State.deckleCommitted_facts (s := s) (i := i) (im := im) hd
    have hk := State.KeepsCommit.refl.applyDeckle (s := s.deckleCommitted i (mouldTarget j.desc) im) (m := s.mouldAfter im) hd
    have hreg := hk.reg R.MOULD_STATUS (.inl rfl)
    exact ⟨hk.committed.trans hcom, (State.regField_eq_of_reg hreg).trans hst,
      fun _ => ⟨(State.regField_eq_of_reg hreg).trans hdk, hk.closed ▸ hcl⟩⟩

end

/-! ### DECKLE_REOPEN (R463, R464) -/

/-- The low part of a field. -/
theorem field_low {w : Word} {hi hi' lo : Nat} (h : hi ≤ hi') : field w hi lo = field w hi' lo % 2 ^ (hi + 1 - lo) :=
  (Nat.mod_mod_of_dvd _ (Nat.pow_dvd_pow 2 (by omega))).symm

/-- Deckle `d` is open again, its commit's job still to be released. -/
def State.reopened (s : State) (d : Nat) : State :=
  ((s.setReg (R.MOULD_D_APPLY d) (w32 s.beat)).setReg R.MOULD_STATUS (setField (s.reg R.MOULD_STATUS) 15 0 1)).mapMd fun m =>
    { m with commit := none, closed := m.closed.filter (· != d) }

section
variable {d : Deckle} (hc : s.md.commit = some (i, some d.val))
include hc

theorem exec_deckleReopen (hst : s.mouldState = 3) (hv : s.vatsBack d.val = true) :
    ∃ t, exec .deckleReopen s = .next t ∧ (s.reopened d.val).KeepsCommit t := by
  change ∃ t, execDeckleReopen s = .next t ∧ _
  unfold execDeckleReopen
  rw [hc]
  dsimp -zeta only
  rw [if_pos ⟨hst, hv⟩]
  refine ⟨_, rfl, ?_⟩
  extract_lets +onlyGivenNames s₁ s₂ s₃ s₄
  have h₄ : (s.reopened d.val).KeepsCommit s₄ := State.KeepsCommit.refl.of_regs rfl rfl
  split
  · exact h₄.release
  · exact h₄

theorem deckleReopen_reopens (hst : s.mouldState = 3) (hv : s.vatsBack d.val = true) : Completes .deckleReopen s fun t =>
    t.regField R.MOULD_STATUS 2 0 = 1 ∧ t.reg (R.MOULD_D_APPLY d.val) = w32 s.beat ∧ t.md.commit = none ∧ d.val ∉ t.md.closed := by
  obtain ⟨t, hx, hk⟩ := exec_deckleReopen hc hst hv
  have hne : R.MOULD_D_APPLY d.val ≠ R.MOULD_STATUS := by grind
  refine ⟨t, hx, ?_, ?_, hk.commit, ?_⟩
  · rw [State.regField_eq_of_reg (hk.reg R.MOULD_STATUS (.inl rfl)), State.reopened, State.regField, State.mapMd_reg, State.reg_setReg_same]
    rw [field_low (hi' := 15) (by decide), field_setField_same (by decide)]
    rfl
  · rw [hk.reg _ (commitReg_apply d), State.reopened, State.mapMd_reg, State.reg_setReg_other _ _ hne, State.reg_setReg_same]
  · rw [hk.closed]
    simp [State.reopened]

theorem deckleReopen_waits (hv : s.vatsBack d.val = false) : exec .deckleReopen s = .next s := by
  change execDeckleReopen s = _
  unfold execDeckleReopen
  rw [hc]
  dsimp only
  rw [if_neg (by simp [hv])]

end

end Sys2Proof.Machine

namespace Sys2Proof
open Machine

/-- Settles O50, command by command: what a deckle's commit and its reopening have set stands through the loading of the deckle and the
release of the job. -/
theorem mouldCommands : Obligations.MouldCommands := fun _ _ _ =>
  ⟨fun hc hl => ⟨mouldLoad_busy hc hl, mouldLoad_stages hc hl⟩,
   fun _ _ _ hj hl => ⟨mouldLoadComplete_refused hj hl, mouldLoadComplete_staged hj hl⟩,
   mouldAbandon_empties,
   fun hc hn => ⟨mouldCommit_unstaged hc hn, fun _ hs => ⟨mouldCommit_otherId hc hn hs, fun hid =>
     ⟨fun _ => mouldCommit_refused hc hn hs hid, mouldCommit_commits hc hn hs hid⟩⟩⟩,
   fun _ hc => ⟨deckleReopen_reopens hc, deckleReopen_waits hc⟩⟩

end Sys2Proof

/-! SUPPORT. The AX32 instruction word: each format is its fields, and decoding and encoding agree (R482 to R485, R490). -/

namespace Sys2Proof.Machine

/-! ### Words and their fields (R482) -/

section
variable {w : Word} {op : Nat} {gd ga gb : Gpr} {imm : BitVec 16}

/-- A word of format I or B is its opcode, two registers and 16 bits. -/
theorem fmtI_eq_iff (hop : op < 64) :
    fmtI op gd ga imm = w ↔ field w 31 26 = op ∧ regField w 21 = gd ∧ regField w 16 = ga ∧ w.truncate 16 = imm := by
  have := gd.isLt; have := ga.isLt; have := imm.isLt; have := w.isLt
  simp only [fmtI, field, regField, Fin.ext_iff, ← BitVec.toNat_inj, BitVec.toNat_ofNat, BitVec.truncate_eq_setWidth,
    BitVec.toNat_setWidth, Nat.reduceAdd, Nat.reduceSub, Nat.reducePow]
  omega

/-- A word of format G is its opcode, three registers and FUNC, its low bits zero. -/
theorem fmtG_eq_iff {func : Nat} (hop : op < 64) (hf : func < 32) :
    fmtG op gd ga gb func = w ↔
      field w 31 26 = op ∧ regField w 21 = gd ∧ regField w 16 = ga ∧ regField w 11 = gb ∧ field w 10 6 = func ∧ field w 5 0 = 0 := by
  have := gd.isLt; have := ga.isLt; have := gb.isLt; have := w.isLt
  simp only [fmtG, field, regField, Fin.ext_iff, ← BitVec.toNat_inj, BitVec.toNat_ofNat, Nat.reduceAdd, Nat.reduceSub, Nat.reducePow]
  omega

/-- A word of the system group is opcode 1, two registers, the function and 12 bits. -/
theorem fmtS_eq_iff {fn : Nat} {srn : BitVec 12} (hf : fn < 16) :
    fmtS gd ga fn srn = w ↔
      field w 31 26 = 1 ∧ regField w 21 = gd ∧ regField w 16 = ga ∧ field w 15 12 = fn ∧ w.truncate 12 = srn := by
  have := gd.isLt; have := ga.isLt; have := srn.isLt; have := w.isLt
  simp only [fmtS, field, regField, Fin.ext_iff, ← BitVec.toNat_inj, BitVec.toNat_ofNat, BitVec.truncate_eq_setWidth,
    BitVec.toNat_setWidth, Nat.reduceAdd, Nat.reduceSub, Nat.reducePow]
  omega

/-- A word of JAL is its opcode, a register and 21 bits. -/
theorem fmtJ_eq_iff {off : BitVec 21} :
    w32 (0x28 * 2 ^ 26 + gd.val * 2 ^ 21 + off.toNat) = w ↔ field w 31 26 = 0x28 ∧ regField w 21 = gd ∧ w.truncate 21 = off := by
  have := gd.isLt; have := off.isLt; have := w.isLt
  simp only [field, regField, Fin.ext_iff, ← BitVec.toNat_inj, BitVec.toNat_ofNat, BitVec.truncate_eq_setWidth,
    BitVec.toNat_setWidth, Nat.reduceAdd, Nat.reduceSub, Nat.reducePow, Nat.reduceMul]
  omega

/-- A shift's 16 bits are zeros, the kind of shift and the amount. -/
theorem truncate_eq_shift_iff {k n : Nat} (hk : k < 4) (hn : n < 32) :
    w.truncate 16 = BitVec.ofNat 16 (k * 32 + n) ↔ field w 15 7 = 0 ∧ field w 6 5 = k ∧ field w 4 0 = n := by
  have := w.isLt
  simp only [field, ← BitVec.toNat_inj, BitVec.toNat_ofNat, BitVec.truncate_eq_setWidth, BitVec.toNat_setWidth, Nat.reduceAdd, Nat.reduceSub,
    Nat.reducePow]
  omega

/-- TRAP's 12 bits are zeros and N. -/
theorem truncate_eq_trap_iff {n : BitVec 8} :
    w.truncate 12 = n.zeroExtend 12 ↔ field w 11 8 = 0 ∧ w.truncate 8 = n := by
  have := w.isLt; have := n.isLt
  simp only [field, ← BitVec.toNat_inj, BitVec.truncate_eq_setWidth, BitVec.toNat_setWidth, Nat.reduceAdd, Nat.reduceSub, Nat.reducePow]
  omega

theorem aluOf_eq_some_iff {n : Nat} {op : AluOp} : aluOf n = some op ↔ op.func = n := by
  constructor
  · intro h
    unfold aluOf at h
    split at h <;> cases h <;> rfl
  · rintro rfl
    cases op <;> rfl

theorem AluOp.func_lt (op : AluOp) : op.func < 32 := by cases op <;> decide

theorem truncate_sextImm : (sextImm imm).truncate 16 = imm := by
  refine BitVec.eq_of_getLsbD_eq fun i hi => ?_
  rw [sextImm, BitVec.truncate_eq_setWidth, BitVec.getLsbD_setWidth, BitVec.getLsbD_signExtend]
  simp [hi, Nat.lt_trans hi (by decide : 16 < 32)]

theorem truncate_zextImm : (zextImm imm).truncate 16 = imm := by
  simp [zextImm]

/-- The word of an operation with a constant that `ext` extends from 16 bits. -/
theorem extended_eq_some_iff {ext : BitVec 16 → Word} {v : Word} (he : ∀ imm, (ext imm).truncate 16 = imm) (hop : op < 64) :
    (if ext (v.truncate 16) = v then some (fmtI op gd ga (v.truncate 16)) else none) = some w ↔
      field w 31 26 = op ∧ regField w 21 = gd ∧ regField w 16 = ga ∧ ext (w.truncate 16) = v := by
  rw [Option.ite_none_right_eq_some, Option.some_inj, fmtI_eq_iff hop]
  constructor
  · rintro ⟨hv, hcode, hgd, hga, himm⟩
    exact ⟨hcode, hgd, hga, himm ▸ hv⟩
  · rintro ⟨hcode, hgd, hga, rfl⟩
    rw [he]
    exact ⟨rfl, hcode, hgd, hga, rfl⟩

/-- The word of a shift by a constant. -/
theorem shift_eq_some_iff {v : Word} {k : Nat} (hk : k < 4) :
    (if v.toNat < 32 then some (fmtI 0x09 gd ga (BitVec.ofNat 16 (k * 32 + v.toNat))) else none) = some w ↔
      field w 31 26 = 0x09 ∧ regField w 21 = gd ∧ regField w 16 = ga ∧ field w 15 7 = 0 ∧ field w 6 5 = k ∧ w32 (field w 4 0) = v := by
  have hlt : field w 4 0 < 32 := Nat.mod_lt _ (by decide)
  have hsh : (w32 (field w 4 0)).toNat = field w 4 0 := Nat.mod_eq_of_lt (by omega)
  rw [Option.ite_none_right_eq_some, Option.some_inj, fmtI_eq_iff (by decide)]
  constructor
  · rintro ⟨hv, hcode, hgd, hga, himm⟩
    obtain ⟨hz, hkind, hn⟩ := (truncate_eq_shift_iff hk hv).mp himm
    exact ⟨hcode, hgd, hga, hz, hkind, BitVec.eq_of_toNat_eq (hsh.trans hn)⟩
  · rintro ⟨hcode, hgd, hga, hz, hkind, rfl⟩
    rw [hsh]
    exact ⟨hlt, hcode, hgd, hga, (truncate_eq_shift_iff hk hlt).mpr ⟨hz, hkind, rfl⟩⟩

/-! ### Decoding and encoding (R483 to R485, R490) -/

/-- An encoded operation with a constant decodes to it. -/
theorem axDecode_of_encodeImm {alu : AluOp} {v : Word} (h : encodeImm alu gd ga v = some w) :
    axDecode w = some (.aluImm alu gd ga v) := by
  have signed {code : Nat} (hc : code < 64) := extended_eq_some_iff (w := w) (gd := gd) (ga := ga) (v := v) (fun _ => truncate_sextImm) hc
  have plain {code : Nat} (hc : code < 64) := extended_eq_some_iff (w := w) (gd := gd) (ga := ga) (v := v) (fun _ => truncate_zextImm) hc
  cases alu with
  | add | slt | sltu =>
    obtain ⟨hop, rfl, rfl, rfl⟩ := (signed (by decide)).mp h
    simp only [axDecode, hop]
  | and | or | xor =>
    obtain ⟨hop, rfl, rfl, rfl⟩ := (plain (by decide)).mp h
    simp only [axDecode, hop]
  | sll | srl | sra | ror =>
    obtain ⟨hop, rfl, rfl, hz, hk, rfl⟩ := (shift_eq_some_iff (by decide)).mp h
    simp [axDecode, hop, hz, hk]
  | sub | nor | mul | mulh | mulhu | div | divu | rem | remu => cases h

/-- An instruction's word decodes to it. -/
theorem axDecode_of_axEncode {i : AxInstr} (h : axEncode i = some w) : axDecode w = some i := by
  cases i with
  | alu op gd ga gb =>
    obtain ⟨hop, rfl, rfl, rfl, hf, hz⟩ := (fmtG_eq_iff (by decide) op.func_lt).mp (Option.some.inj h)
    simp [axDecode, hop, hz, hf, aluOf_eq_some_iff.mpr rfl]
  | aluImm op gd ga v => exact axDecode_of_encodeImm h
  | swap | cas =>
    obtain ⟨hop, rfl, rfl, rfl, hf, hz⟩ := (fmtG_eq_iff (by decide) (by decide)).mp (Option.some.inj h)
    simp [axDecode, hop, hz, hf]
  | lui | auipc =>
    obtain ⟨hop, rfl, hga, rfl⟩ := (fmtI_eq_iff (by decide)).mp (Option.some.inj h)
    simp [axDecode, hop, hga]
  | jr =>
    obtain ⟨hop, hgd, rfl, rfl⟩ := (fmtI_eq_iff (by decide)).mp (Option.some.inj h)
    simp [axDecode, hop, hgd]
  | jalr =>
    obtain ⟨hop, rfl, rfl, rfl⟩ := (fmtI_eq_iff (by decide)).mp (Option.some.inj h)
    simp only [axDecode, hop]
  | load size signed =>
    cases size <;> cases signed
    case word.true => cases h
    all_goals
      obtain ⟨hop, rfl, rfl, rfl⟩ := (fmtI_eq_iff (by decide)).mp (Option.some.inj h)
      simp only [axDecode, hop]
  | store size =>
    cases size
    all_goals
      obtain ⟨hop, rfl, rfl, rfl⟩ := (fmtI_eq_iff (by decide)).mp (Option.some.inj h)
      simp only [axDecode, hop]
  | branch op =>
    cases op
    all_goals
      obtain ⟨hop, rfl, rfl, rfl⟩ := (fmtI_eq_iff (by decide)).mp (Option.some.inj h)
      simp only [axDecode, hop, BranchOp.opcode]
  | jal =>
    obtain ⟨hop, rfl, rfl⟩ := fmtJ_eq_iff.mp (Option.some.inj h)
    simp [axDecode, hop]
  | trap =>
    obtain ⟨hop, hgd, hga, hfn, hn⟩ := (fmtS_eq_iff (by decide)).mp (Option.some.inj h)
    obtain ⟨hz, rfl⟩ := truncate_eq_trap_iff.mp hn
    simp [axDecode, hop, hgd, hga, hfn, hz]
  | srr =>
    obtain ⟨hop, rfl, hga, hfn, rfl⟩ := (fmtS_eq_iff (by decide)).mp (Option.some.inj h)
    simp [axDecode, hop, hga, hfn]
  | srw =>
    obtain ⟨hop, hgd, rfl, hfn, rfl⟩ := (fmtS_eq_iff (by decide)).mp (Option.some.inj h)
    simp [axDecode, hop, hgd, hfn]
  | xret | fence | fencei | wfe =>
    obtain ⟨hop, hgd, hga, hfn, hn⟩ := (fmtS_eq_iff (by decide)).mp (Option.some.inj h)
    simp_all [axDecode]

/-- A word that decodes is the word of what it decodes to. -/
theorem axEncode_of_axDecode {i : AxInstr} (h : axDecode w = some i) : axEncode i = some w := by
  have immediate {code : Nat} (hc : code < 64) (hop : field w 31 26 = code) :
      some (fmtI code (regField w 21) (regField w 16) (w.truncate 16)) = some w :=
    congrArg some ((fmtI_eq_iff hc).mpr ⟨hop, rfl, rfl, rfl⟩)
  have shift {k : Nat} (hk : k < 4) (hop : field w 31 26 = 0x09) (hz : field w 15 7 = 0) (hkind : field w 6 5 = k) :=
    (shift_eq_some_iff hk).mpr ⟨hop, rfl, rfl, hz, hkind, rfl⟩
  unfold axDecode at h
  dsimp only at h
  split at h
  case h_1 _ hop =>
    obtain ⟨hz, h⟩ := Option.ite_none_right_eq_some.mp h
    obtain ⟨op, hf, rfl⟩ := Option.map_eq_some_iff.mp h
    exact congrArg some ((fmtG_eq_iff (by decide) op.func_lt).mpr ⟨hop, rfl, rfl, rfl, (aluOf_eq_some_iff.mp hf).symm, hz⟩)
  case h_2 _ hop =>
    split at h
    case h_1 _ hf =>
      obtain ⟨hga, h⟩ := Option.ite_none_right_eq_some.mp h
      cases h
      exact congrArg some ((fmtS_eq_iff (by decide)).mpr ⟨hop, rfl, hga, hf, rfl⟩)
    case h_2 _ hf =>
      obtain ⟨hgd, h⟩ := Option.ite_none_right_eq_some.mp h
      cases h
      exact congrArg some ((fmtS_eq_iff (by decide)).mpr ⟨hop, hgd, rfl, hf, rfl⟩)
    case h_3 _ hf =>
      obtain ⟨⟨hgd, hga, hz⟩, h⟩ := Option.ite_none_right_eq_some.mp h
      cases h
      exact congrArg some ((fmtS_eq_iff (by decide)).mpr ⟨hop, hgd, hga, hf, truncate_eq_trap_iff.mpr ⟨hz, rfl⟩⟩)
    case h_4 _ hf | h_5 _ hf | h_6 _ hf | h_7 _ hf =>
      obtain ⟨⟨hgd, hga, hz⟩, h⟩ := Option.ite_none_right_eq_some.mp h
      cases h
      exact congrArg some ((fmtS_eq_iff (by decide)).mpr ⟨hop, hgd, hga, hf, hz⟩)
    case h_8 => cases h
  case h_3 _ hop | h_7 _ hop | h_8 _ hop =>
    cases h
    exact (extended_eq_some_iff (fun _ => truncate_sextImm) (by decide)).mpr ⟨hop, rfl, rfl, rfl⟩
  case h_4 _ hop | h_5 _ hop | h_6 _ hop =>
    cases h
    exact (extended_eq_some_iff (fun _ => truncate_zextImm) (by decide)).mpr ⟨hop, rfl, rfl, rfl⟩
  case h_9 _ hop | h_11 _ hop =>
    obtain ⟨hga, h⟩ := Option.ite_none_right_eq_some.mp h
    cases h
    exact congrArg some ((fmtI_eq_iff (by decide)).mpr ⟨hop, rfl, hga, rfl⟩)
  case h_10 _ hop =>
    obtain ⟨hz, h⟩ := Option.ite_none_left_eq_some.mp h
    have hz : field w 15 7 = 0 := not_not.mp hz
    split at h
    case h_1 _ hk | h_2 _ hk | h_3 _ hk =>
      cases h
      exact shift (by decide) hop hz hk
    case h_4 _ h₀ h₁ h₂ =>
      have hlt : field w 6 5 < 4 := Nat.mod_lt _ (by decide)
      rw [imp_false] at h₀ h₁ h₂
      have h₃ : field w 6 5 = 3 := by omega
      cases h
      exact shift (by decide) hop hz h₃
  case h_20 _ hop | h_21 _ hop =>
    obtain ⟨⟨hf, hz⟩, h⟩ := Option.ite_none_right_eq_some.mp h
    cases h
    exact congrArg some ((fmtG_eq_iff (by decide) (by decide)).mpr ⟨hop, rfl, rfl, rfl, hf, hz⟩)
  case h_28 _ hop =>
    cases h
    exact congrArg some (fmtJ_eq_iff.mpr ⟨hop, rfl, rfl⟩)
  case h_29 _ hop =>
    obtain ⟨hgd, h⟩ := Option.ite_none_right_eq_some.mp h
    cases h
    exact congrArg some ((fmtI_eq_iff (by decide)).mpr ⟨hop, hgd, rfl, rfl⟩)
  case h_31 => cases h
  all_goals
    cases h
    exact immediate (by decide) ‹_›

end
end Sys2Proof.Machine

namespace Sys2Proof
open Machine

/-- Settles O22: each format's word is its fields, which are what the decoder reads. -/
theorem axDecodeEncodeAgree : Obligations.AxDecodeEncodeAgree := fun _ _ => ⟨axEncode_of_axDecode, axDecode_of_axEncode⟩

/-- Settles O23, word by word. -/
theorem axWordsOfTheSpec : Obligations.AxWordsOfTheSpec := by
  unfold Obligations.AxWordsOfTheSpec
  decide

end Sys2Proof

/-! SUPPORT. What the AX32's ALU operations compute, as numbers (R484 to R486). -/

namespace Sys2Proof.Machine

/-! ### What the operations compute, as numbers (R484 to R486) -/

section
variable {a b : Word} {imm : BitVec 16} {sh : BitVec 5} {n : Nat}

theorem shiftLeft_eq_w32 : a <<< n = w32 (a.toNat * 2 ^ n) := by
  refine BitVec.eq_of_toNat_eq ?_
  rw [BitVec.toNat_shiftLeft, Nat.shiftLeft_eq, BitVec.toNat_ofNat]

theorem ushiftRight_eq_w32 : a >>> n = w32 (a.toNat / 2 ^ n) := by
  refine BitVec.eq_of_toNat_eq ?_
  rw [BitVec.toNat_ushiftRight, Nat.shiftRight_eq_div_pow, BitVec.toNat_ofNat]
  exact (Nat.mod_eq_of_lt (lt_of_le_of_lt (Nat.div_le_self _ _) a.isLt)).symm

theorem sshiftRight_eq_ofInt : a.sshiftRight n = BitVec.ofInt 32 (a.toInt / 2 ^ n) := by
  rw [BitVec.sshiftRight, Int.shiftRight_eq_div_pow]
  rfl

theorem rotateRight_eq_or (hn : n < 32) : a.rotateRight n = (a >>> n ||| a <<< (32 - n)) := by
  rw [BitVec.rotateRight_def, Nat.mod_eq_of_lt hn]

theorem sub_eq_ofInt : a - b = BitVec.ofInt 32 (a.toInt - b.toInt) := by
  refine BitVec.eq_of_toInt_eq ?_
  rw [BitVec.toInt_sub, BitVec.toInt_ofInt]

theorem add_sextImm : a + sextImm imm = BitVec.ofInt 32 (a.toInt + imm.toInt) := by
  rw [BitVec.ofInt_add, BitVec.ofInt_toInt]
  rfl

theorem toInt_sextImm : (sextImm imm).toInt = imm.toInt := BitVec.toInt_signExtend_of_le (by decide)

theorem zextImm_eq_w32 : zextImm imm = w32 imm.toNat := BitVec.eq_of_toNat_eq (by simp [zextImm])

/-- The constant of LUI and AUIPC (R484). -/
theorem upper_eq_w32 : (imm.zeroExtend 32 <<< 16 : Word) = w32 (imm.toNat * 65536) := by
  rw [shiftLeft_eq_w32]
  rfl

theorem toNat_shiftConstant : (sh.zeroExtend 32).toNat % 32 = sh.toNat := by
  have hsh := sh.isLt
  rw [BitVec.zeroExtend_eq_setWidth, BitVec.toNat_setWidth]
  omega

/-! ### Division (R486) -/

theorem AluOp.eval_div : AluOp.div.eval a b =
    if b = 0 then 0xFFFFFFFF else if a = 0x80000000 ∧ b = 0xFFFFFFFF then 0x80000000 else a.sdiv b := by
  have h : BitVec.ofInt 32 (a.toInt.tdiv b.toInt) = a.sdiv b := by
    refine BitVec.eq_of_toInt_eq ?_
    rw [BitVec.toInt_sdiv, BitVec.toInt_ofInt]
  refine if_congr Iff.rfl rfl ?_
  rw [h]
  split
  next hab => rw [hab.1, hab.2]; decide
  next => rfl

theorem AluOp.eval_rem : AluOp.rem.eval a b =
    if b = 0 then a else if a = 0x80000000 ∧ b = 0xFFFFFFFF then 0 else a.srem b := by
  have h : BitVec.ofInt 32 (a.toInt.tmod b.toInt) = a.srem b := by
    refine BitVec.eq_of_toInt_eq ?_
    rw [BitVec.toInt_ofInt, ← BitVec.toInt_srem, BitVec.toInt_bmod_cancel]
  refine if_congr Iff.rfl rfl ?_
  rw [h]
  split
  next hab => rw [hab.1, hab.2]; decide
  next => rfl

theorem AluOp.eval_divu : AluOp.divu.eval a b = if b = 0 then 0xFFFFFFFF else a / b := by
  refine if_congr Iff.rfl rfl (BitVec.eq_of_toNat_eq ?_)
  rw [BitVec.toNat_udiv, BitVec.toNat_ofNat]
  exact Nat.mod_eq_of_lt (lt_of_le_of_lt (Nat.div_le_self _ _) a.isLt)

theorem AluOp.eval_remu : AluOp.remu.eval a b = if b = 0 then a else a % b := by
  refine if_congr Iff.rfl rfl (BitVec.eq_of_toNat_eq ?_)
  rw [BitVec.toNat_umod, BitVec.toNat_ofNat]
  exact Nat.mod_eq_of_lt (lt_of_le_of_lt (Nat.mod_le _ _) a.isLt)

end

/-! ### Computing instructions -/

section
variable {s : State} {c : Core} {gd ga gb : Gpr} {i : Instr} {op : AluOp} {k v : Word} (h : s.issues c)
include h

/-- An ALU instruction that issues puts its result in `gd`. -/
theorem exec_alu (hi : exec i s = .next (s.ax c (.alu op gd ga gb))) (hv : op.eval ((s.core c).rd ga) ((s.core c).rd gb) = v) :
    exec i s = .next (s.gprDone c gd [ga, gb] v) := by
  rw [hi, State.ax, State.compute_eq _ _ _ _ _ _ h, hv]

/-- An instruction with a constant that issues puts its result in `gd`. -/
theorem exec_aluImm (hi : exec i s = .next (s.ax c (.aluImm op gd ga k))) (hv : op.eval ((s.core c).rd ga) k = v) :
    exec i s = .next (s.gprDone c gd [ga] v) := by
  rw [hi, State.ax, State.compute_eq _ _ _ _ _ _ h, hv]

theorem exec_lui {imm : BitVec 16} : exec (.lui c gd imm) s = .next (s.gprDone c gd [] (w32 (imm.toNat * 65536))) := by
  rw [← upper_eq_w32]
  exact congrArg Host.Outcome.next (State.compute_eq _ _ _ _ _ _ h)

theorem exec_auipc {imm : BitVec 16} :
    exec (.auipc c gd imm) s = .next (s.gprDone c gd [] ((s.core c).pc + w32 (imm.toNat * 65536))) := by
  rw [← upper_eq_w32]
  exact congrArg Host.Outcome.next (State.compute_eq _ _ _ _ _ _ h)

end
end Sys2Proof.Machine

namespace Sys2Proof
open Machine

/-- Settles O11, instruction by instruction: each puts the operation's result in `gd`, and the result is the number that the spec names. -/
theorem axAluResults : Obligations.AxAluResults := by
  refine ⟨fun s c gd ga gb h => ⟨?_, ?_, ?_, ?_, ?_⟩, fun s c gd ga gb h => ⟨?_, ?_, ?_, ?_, ?_, ?_, ?_, ?_, ?_, ?_⟩,
    fun s c gd ga imm sh h => ⟨?_, ?_, ?_, ?_, ?_, ?_, exec_lui h, exec_auipc h, ?_, ?_, ?_, ?_⟩⟩
  · exact exec_alu h rfl (BitVec.eq_of_toNat_eq (by simp [AluOp.eval]))
  · exact exec_alu h rfl sub_eq_ofInt
  · exact exec_alu h rfl (BitVec.eq_of_toNat_eq (by simp [AluOp.eval]))
  · exact exec_alu h rfl rfl
  · exact exec_alu h rfl rfl
  · exact exec_alu h rfl rfl
  · exact exec_alu h rfl rfl
  · exact exec_alu h rfl rfl
  · exact exec_alu h rfl rfl
  · exact exec_alu h rfl rfl
  · exact exec_alu h rfl rfl
  · exact exec_alu h rfl shiftLeft_eq_w32
  · exact exec_alu h rfl ushiftRight_eq_w32
  · exact exec_alu h rfl sshiftRight_eq_ofInt
  · exact exec_alu h rfl (rotateRight_eq_or (Nat.mod_lt _ (by decide)))
  · exact exec_aluImm h rfl add_sextImm
  · exact exec_aluImm h rfl (by rw [AluOp.eval, zextImm_eq_w32])
  · exact exec_aluImm h rfl (by rw [AluOp.eval, zextImm_eq_w32])
  · exact exec_aluImm h rfl (by rw [AluOp.eval, zextImm_eq_w32])
  · exact exec_aluImm h rfl (by rw [AluOp.eval, toInt_sextImm])
  · exact exec_aluImm h rfl rfl
  · exact exec_aluImm h rfl (by rw [AluOp.eval, toNat_shiftConstant, shiftLeft_eq_w32])
  · exact exec_aluImm h rfl (by rw [AluOp.eval, toNat_shiftConstant, ushiftRight_eq_w32])
  · exact exec_aluImm h rfl (by rw [AluOp.eval, toNat_shiftConstant, sshiftRight_eq_ofInt])
  · exact exec_aluImm h rfl (by rw [AluOp.eval, toNat_shiftConstant, rotateRight_eq_or sh.isLt])

/-- Settles O12: an issued division puts its result in `gd`, as any other operation does. -/
theorem axDivisionNeverTraps : Obligations.AxDivisionNeverTraps := fun _ _ _ _ _ h =>
  ⟨exec_alu h rfl AluOp.eval_div, exec_alu h rfl AluOp.eval_divu, exec_alu h rfl AluOp.eval_rem, exec_alu h rfl AluOp.eval_remu⟩

end Sys2Proof

/-! SUPPORT. What reset leaves in the cores and in the sluice tables (R478, R547, R561). -/

namespace Sys2Proof.Machine

/-! ### Cores after reset (R478) -/

theorem State.core_reset (c : Core) : State.reset.core c = CoreState.reset (decide (64 ≤ c.val)) true 0 := by
  have hc := c.isLt
  rw [State.core, State.reset, List.getD_eq_getElem?_getD, List.getElem?_append, List.length_replicate]
  split
  next h => rw [List.getElem?_replicate_of_lt h, Option.getD_some, decide_eq_false (by omega)]
  next h => rw [List.getElem?_replicate_of_lt (by omega), Option.getD_some, decide_eq_true (by omega)]

theorem CoreState.rd_reset {warden held : Bool} {since : Nat} {g : Gpr} : (CoreState.reset warden held since).rd g = 0 := by
  have hg := g.isLt
  rw [CoreState.rd, CoreState.reset, List.getD_eq_getElem?_getD, List.getElem?_replicate_of_lt hg]
  split <;> rfl

/-! ### Sluice tables after reset (R547, R561) -/

theorem rowsSluicecfg_reset : ∀ r ∈ rowsSluicecfg, r.reset = 0 := by decide

/-- Every register of a sluice entry reads as zero. -/
theorem regReset_sluiceEntry {k : Nat} (h₀ : 0x100f10000 ≤ k) (h₁ : k < 0x101000000) : regReset k = 0 := by
  have hv : resetValues.lookup k = none := by
    refine List.lookup_eq_none_iff.mpr fun p hp => ?_
    have hlt : p.1 < 0x100f10000 := (by decide : ∀ p ∈ resetValues, p.1 < 0x100f10000) p hp
    exact bne_iff_ne.mpr (by omega)
  have ha : resetArray k = none := by
    unfold resetArray
    rw [if_neg (by omega), if_neg (by omega), if_neg (by omega)]
  unfold regReset resetSpecial
  rw [hv, ha]
  dsimp only
  split
  next r hr =>
    rw [regRow?, if_pos (by omega), show (k - 0x100000000) / 0x100000 = 15 by omega] at hr
    rw [rowsSluicecfg_reset r (List.mem_of_find?_eq_some hr)]
    rfl
  next => rfl

theorem State.reg_reset_sluiceAttr {n : Nat} (hn : n < 4736) : State.reset.reg (R.SLUICE_ATTR n) = 0 :=
  regReset_sluiceEntry (by simp only [R.SLUICE_ATTR]; omega) (by simp only [R.SLUICE_ATTR]; omega)

theorem State.reg_reset_sluiceBase {n : Nat} (hn : n < 4736) : State.reset.reg (R.SLUICE_BASE n) = 0 :=
  regReset_sluiceEntry (by simp only [R.SLUICE_BASE]; omega) (by simp only [R.SLUICE_BASE]; omega)

theorem State.reg_reset_sluiceBaseh {n : Nat} (hn : n < 4736) : State.reset.reg (R.SLUICE_BASEH n) = 0 :=
  regReset_sluiceEntry (by simp only [R.SLUICE_BASEH]; omega) (by simp only [R.SLUICE_BASEH]; omega)

theorem sluiceEntries_le {t : Nat} : sluiceEntries t ≤ 128 := by
  unfold sluiceEntries
  split
  · decide
  · split <;> decide

/-- No entry of a device table is valid. -/
theorem State.deviceTable_reset {t : Nat} (ht : t < 37) : State.reset.deviceTable t = [] := by
  refine List.filterMap_eq_nil_iff.mpr fun i hi => ?_
  have hlt : i < 128 := (List.mem_range.mp hi).trans_le sluiceEntries_le
  dsimp only
  rw [State.reg_reset_sluiceAttr (by omega)]
  rfl

theorem State.shown_reset_sluiceTable (t : Fin 37) : (State.reset.shown (R.SLUICE_TABLE t)).toNat = sluiceEntries t := by
  have ht := t.isLt
  have hi : (R.SLUICE_TABLE t - 0x100000000) / 0x100000 = 15 := by simp only [R.SLUICE_TABLE]; omega
  have hx : arrIx (R.SLUICE_TABLE t) (R.SLUICE_TABLE 0) 4 37 = some t.val := by
    simp only [arrIx, R.SLUICE_TABLE]
    rw [if_pos (by omega)]
    rw [Nat.add_sub_add_left, Nat.mul_zero, Nat.sub_zero, Nat.mul_div_cancel_left _ (by decide)]
  have hs : State.reset.showSluice (R.SLUICE_TABLE t) = some (w32 (sluiceEntries t)) := by
    rw [State.showSluice, hx, Option.map_some, State.deviceTable_reset ht]
    rfl
  unfold State.shown
  rw [if_neg (by simp only [R.SLUICE_TABLE]; omega), hi]
  dsimp only
  rw [hs]
  exact Nat.mod_eq_of_lt (sluiceEntries_le.trans_lt (by decide))

end Sys2Proof.Machine

namespace Sys2Proof
open Machine

/-- Settles O4: what holds of every entry of the register file's arrays from their rows, and the few fixed registers by evaluation. -/
theorem resetLeaves : Obligations.ResetLeaves := by
  refine ⟨fun c => ?_, fun n => ⟨State.reg_reset_sluiceAttr n.isLt, State.reg_reset_sluiceBase n.isLt, State.reg_reset_sluiceBaseh n.isLt⟩,
    fun t => ?_, by decide +kernel, by decide +kernel, by decide, by decide, by decide, rfl⟩
  · rw [State.core_reset]
    exact ⟨rfl, (by decide : bit 1 0 = true), fun _ => CoreState.rd_reset, rfl, fun b hb => List.eq_of_mem_replicate hb, rfl, rfl, rfl⟩
  · rw [State.shown_reset_sluiceTable]
    revert t
    decide

end Sys2Proof

/-! SUPPORT. Rules of the AX32's shared operations: memory written and read back, one core written, and an instruction that issues. -/

namespace Sys2Proof.Machine

variable {s u : State} {c : Nat} {x y : CoreState}

/-! ### Memory -/

@[simp] theorem length_leBytes {k n : Nat} : (leBytes k n).length = k := by
  induction k generalizing n with
  | zero => rfl
  | succ k ih => rw [leBytes, List.length_cons, ih]

theorem State.write_append {a : Nat} {bs cs : Bytes} : s.write a (bs ++ cs) = (s.write a bs).write (a + bs.length) cs := by
  induction bs generalizing s a with
  | nil => rfl
  | cons b bs ih =>
    rw [List.cons_append, State.write, ih, List.length_cons, Nat.add_right_comm, Nat.add_assoc]
    rfl

/-- What was written reads back. -/
theorem State.read_write {a : Nat} {bs : Bytes} : (s.write a bs).read a bs.length = bs := by
  induction bs generalizing s a with
  | nil => rfl
  | cons b bs ih =>
    rw [List.length_cons, State.read, State.write, ih, State.write_byte_below _ _ _ _ (Nat.lt_succ_self a), State.byte_setByte_same]

theorem State.read_of_byte {t : State} {a n : Nat} (h : ∀ p, t.byte p = s.byte p) : t.read a n = s.read a n := by
  induction n generalizing a with
  | zero => rfl
  | succ n ih => rw [State.read, State.read, h, ih]

theorem State.write_setCore {a : Nat} {bs : Bytes} : (s.setCore c x).write a bs = (s.write a bs).setCore c x := by
  induction bs generalizing s a with
  | nil => rfl
  | cons b bs ih => exact ih (s := s.setByte a b)

theorem State.write_tookFree {a n : Nat} {bs : Bytes} : (s.tookFree n).write a bs = (s.write a bs).tookFree n := by
  induction bs generalizing s a with
  | nil => rfl
  | cons b bs ih => exact ih (s := s.setByte a b)

/-- A write changes memory alone. -/
theorem State.write_eq {a : Nat} {bs : Bytes} : s.write a bs = { s with mem := (s.write a bs).mem } := by
  induction bs generalizing s a with
  | nil => rfl
  | cons b bs ih => exact ih (s := s.setByte a b)

theorem toNat_append_byte {n : Nat} {v : BitVec n} {b : Byte} : (v ++ b).toNat = v.toNat * 256 + b.toNat := by
  have hb : b.toNat < 2 ^ 8 := b.isLt
  rw [BitVec.toNat_append, ← Nat.shiftLeft_add_eq_or_of_lt hb, Nat.shiftLeft_eq]

/-- The word that four bytes spell. -/
theorem w32_leNat_read_word {a : Nat} :
    w32 (leNat (s.read a 4)) = s.byte (a + 3) ++ s.byte (a + 2) ++ s.byte (a + 1) ++ s.byte a := by
  have h₀ := (s.byte a).isLt
  have h₁ := (s.byte (a + 1)).isLt
  have h₂ := (s.byte (a + 2)).isLt
  have h₃ := (s.byte (a + 3)).isLt
  refine BitVec.eq_of_toNat_eq ?_
  rw [toNat_append_byte, toNat_append_byte, toNat_append_byte, BitVec.toNat_ofNat]
  simp only [State.read, leNat, Nat.add_assoc, Nat.reduceAdd]
  omega

theorem leNat_read_half {a : Nat} : leNat (s.read a 2) = (s.byte (a + 1) ++ s.byte a).toNat := by
  rw [toNat_append_byte]
  simp only [State.read, leNat]
  omega

theorem leNat_read_byte {a : Nat} : leNat (s.read a 1) = (s.byte a).toNat := by
  simp only [State.read, leNat]
  omega

/-! ### One core written -/

theorem State.setCore_core : s.setCore c (s.core c) = s := by
  have h : s.cores.set c (s.core c) = s.cores := by
    refine List.ext_getElem? fun i => ?_
    rw [List.getElem?_set, State.core, List.getD_eq_getElem?_getD]
    split
    next hi =>
      subst hi
      split
      next hc => rw [List.getElem?_eq_getElem hc, Option.getD_some]
      next hc => rw [List.getElem?_eq_none (Nat.le_of_not_lt hc)]
    next => rfl
  rw [State.setCore, h]

theorem State.setCore_tookFree {n : Nat} : (s.tookFree n).setCore c x = (s.setCore c x).tookFree n := rfl

section
variable (hl : s.cores.length = 66) (hc : c < 66)
include hl hc

theorem State.updCore_setCore {f : CoreState → CoreState} : (s.setCore c x).updCore c f = s.setCore c (f x) := by
  rw [State.updCore, State.core_setCore_same s c x hl hc, State.setCore_setCore]

theorem State.retire_setCore {pc : Word} : (s.setCore c x).retire c pc = s.retired c x pc := State.updCore_setCore hl hc

end

/-! ### Boundaries (R534) -/

/-- No store report, budget end or debug event awaits the core's next boundary. -/
def CoreState.NothingDue (x : CoreState) : Prop := x.report = none ∧ x.budgetDue = false ∧ x.stepping = false ∧ x.haltReq = false

/-- Nothing awaits the next boundary of the core, or it stands at none. -/
def CoreState.Quiet (x : CoreState) : Prop := x.atBoundary = false ∨ x.NothingDue

theorem State.boundary_quiet (h : (s.core c).Quiet) : s.boundary c = s := by
  obtain h | ⟨hr, hb, hs, hh⟩ := h
  · unfold State.boundary
    simp [h]
  · exact s.boundary_calm c hr hb hs hh

/-! ### A core whose instruction takes effect (R492, R533) -/

@[simp] theorem State.atIssue_spec : (s.atIssue c).spec = (s.core c).spec := by rw [State.atIssue_fields]
@[simp] theorem State.atIssue_squash : (s.atIssue c).squash = (s.core c).squash := by rw [State.atIssue_fields]
@[simp] theorem State.atIssue_cycleHi : (s.atIssue c).cycleHi = (s.core c).cycleHi := by rw [State.atIssue_fields]
@[simp] theorem State.atIssue_retiredHi : (s.atIssue c).retiredHi = (s.core c).retiredHi := by rw [State.atIssue_fields]
@[simp] theorem State.atIssue_xcause : (s.atIssue c).xcause = (s.core c).xcause := by rw [State.atIssue_fields]
@[simp] theorem State.atIssue_xaddr : (s.atIssue c).xaddr = (s.core c).xaddr := by rw [State.atIssue_fields]
@[simp] theorem State.atIssue_xepc : (s.atIssue c).xepc = (s.core c).xepc := by rw [State.atIssue_fields]
@[simp] theorem State.atIssue_xscratch : (s.atIssue c).xscratch = (s.core c).xscratch := by rw [State.atIssue_fields]
@[simp] theorem State.atIssue_xbudget : (s.atIssue c).xbudget = (s.core c).xbudget := by rw [State.atIssue_fields]
@[simp] theorem State.atIssue_pc : (s.atIssue c).pc = (s.core c).pc := by rw [State.atIssue_fields]
@[simp] theorem State.atIssue_sb : (s.atIssue c).sb = (s.core c).sb := by rw [State.atIssue_fields]
@[simp] theorem State.atIssue_aper : (s.atIssue c).aper = (s.core c).aper := by rw [State.atIssue_fields]
@[simp] theorem State.atIssue_retired : (s.atIssue c).retired = (s.core c).retired := by rw [State.atIssue_fields]
@[simp] theorem State.atIssue_vbar : (s.atIssue c).vbar = (s.core c).vbar := by rw [State.atIssue_fields]
@[simp] theorem State.atIssue_xstatus : (s.atIssue c).xstatus = (s.core c).xstatus := by rw [State.atIssue_fields]
@[simp] theorem State.atIssue_xsp : (s.atIssue c).xsp = (s.core c).xsp := by rw [State.atIssue_fields]
@[simp] theorem State.atIssue_xsplim : (s.atIssue c).xsplim = (s.core c).xsplim := by rw [State.atIssue_fields]
@[simp] theorem State.atIssue_xdepth : (s.atIssue c).xdepth = (s.core c).xdepth := by rw [State.atIssue_fields]

/-- Nothing is due at the boundary behind an instruction that issues. -/
theorem State.calm.nothingDue (h : s.calm c) : (s.atIssue c).NothingDue := by
  obtain ⟨-, -, -, -, hrep, hbud, hstep, hhalt⟩ := h
  rw [State.atIssue_fields]
  exact ⟨hrep, hbud, hstep, hhalt⟩

theorem State.issues.nothingDue (h : s.issues c) : (s.atIssue c).NothingDue := h.1.nothingDue

theorem State.issues.wait (h : s.issues c) : (s.atIssue c).wait = none := by
  obtain ⟨-, hready, -⟩ := h
  obtain ⟨-, -, -, hwait⟩ := s.coreReady_facts c hready
  rw [State.atIssue_fields, hwait]

theorem State.issues.load (h : s.issues c) : (s.atIssue c).load = none := by
  obtain ⟨-, hready, -⟩ := h
  obtain ⟨-, -, hload, -⟩ := s.coreReady_facts c hready
  rw [State.atIssue_fields, hload]

section
variable {k : Core} (h : s.issues k) {priv : Bool} {worst : Nat} {body : CoreState → State → State}
include h

theorem State.issues.cores : s.cores.length = 66 := h.1.1

/-- An instruction that issues runs its body, and nothing is due behind it. -/
theorem State.issue_of_body (hp : priv = true → (s.core k).priv = true) (hb : body (s.core k) (s.setCore k (s.atIssue k)) = u)
    (hq : (u.core k).Quiet) : s.issue k priv worst body = u := by
  rw [State.issue_eq s k k.isLt priv worst body h hp, hb, State.boundary_quiet hq]

/-- The same where the body changes nothing but the core. -/
theorem State.issue_setCore (hp : priv = true → (s.core k).priv = true)
    (hb : body (s.core k) (s.setCore k (s.atIssue k)) = s.setCore k y) (hq : y.Quiet) : s.issue k priv worst body = s.setCore k y :=
  State.issue_of_body h hp hb (by rwa [State.core_setCore_same _ _ _ h.cores k.isLt])

theorem State.core_atIssue : (s.setCore k (s.atIssue k)).core k = s.atIssue k := State.core_setCore_same _ _ _ h.cores k.isLt

end
end Sys2Proof.Machine

/-! SUPPORT. FENCE, FENCEI and WFE, and the system registers (R490, R496 to R500, R516, R518, R526, R533). -/

namespace Sys2Proof.Machine

variable {s u : State} {x y : CoreState}

/-! ### What waits at issue (R516 to R518) -/

theorem State.waitGo_held {c : Nat} {back : Bool} (h : (s.core c).sb ≠ []) : s.waitGo c back = s := by
  unfold State.waitGo
  exact if_pos h

theorem State.waitGo_none {c : Nat} {back : Bool} (h : (s.core c).wait = none) : s.waitGo c back = s := by
  unfold State.waitGo
  dsimp only
  rw [h]
  exact ite_self s

section
variable {c : Core} (h : s.issues c) {priv : Bool} {worst : Nat} {w : CoreState → Waiting}
include h

/-- With buffered stores the instruction waits. -/
theorem State.doWait_held (hp : priv = true → (s.core c).priv = true) (hsb : (s.core c).sb ≠ []) :
    s.doWait c priv worst w = s.setCore c { s.atIssue c with wait := some (w (s.core c)) } := by
  refine State.issue_setCore h hp ?_ (.inl (by simp [CoreState.atBoundary]))
  rw [State.updCore_setCore h.cores c.isLt, State.waitGo_held]
  rw [State.core_setCore_same _ _ _ h.cores c.isLt]
  simpa using hsb

/-- With an empty store buffer a fence completes at once. -/
theorem State.doWait_fence (hp : priv = true → (s.core c).priv = true) (hsb : (s.core c).sb = [])
    (hw : w (s.core c) = .fence ∨ w (s.core c) = .fencei) :
    s.doWait c priv worst w = s.retired c (s.atIssue c) ((s.core c).pc + 4) := by
  refine State.issue_setCore h hp ?_ (.inr h.nothingDue)
  rw [State.updCore_setCore h.cores c.isLt]
  unfold State.waitGo
  dsimp only
  rw [State.core_setCore_same _ _ _ h.cores c.isLt, if_neg (by simp [hsb])]
  obtain hw | hw := hw <;>
    simp only [hw, State.setCore_setCore, h.wait, State.retire_setCore h.cores c.isLt, State.atIssue_pc, State.retired]

theorem State.wfeInstr_eq (hp : (s.core c).priv = true) :
    s.wfeInstr c = s.retired c { s.atIssue c with wfe := true } ((s.core c).pc + 4) := by
  refine State.issue_setCore h (fun _ => hp) ?_ (.inr h.nothingDue)
  rw [State.retire_setCore h.cores c.isLt, State.retired, State.updCore_setCore h.cores c.isLt]

end
end Sys2Proof.Machine

namespace Sys2Proof
open Machine

/-- Settles O18: a fence waits while the store buffer holds something, and WFE changes nothing but the core's own flag. -/
theorem axFencesAndWait : Obligations.AxFencesAndWait := fun _ _ h =>
  ⟨fun hsb => ⟨congrArg Host.Outcome.next (State.doWait_fence (priv := false) h nofun hsb (.inl rfl)),
     fun hp => congrArg Host.Outcome.next (State.doWait_fence h (fun _ => hp) hsb (.inr rfl))⟩,
   fun hsb => ⟨congrArg Host.Outcome.next (State.doWait_held (priv := false) h nofun hsb),
     fun hp => congrArg Host.Outcome.next (State.doWait_held h (fun _ => hp) hsb)⟩,
   fun hp => congrArg Host.Outcome.next (State.wfeInstr_eq h hp)⟩

end Sys2Proof

namespace Sys2Proof.Machine
variable {s u : State} {x y : CoreState}

/-! ### System registers (R490, R496, R526) -/

/-- The system registers that show a fixed number or a field of the core. -/
def CoreState.plainRegs (x : CoreState) (c : Nat) : List (BitVec 12 × Word) :=
  [(0x000#12, w32 (if c < 64 then c else 0x10000000 + (c - 64))), (0x001#12, if c < 64 then 0xF else 0x1F),
    (0x008#12, x.spec), (0x009#12, x.squash), (0x100#12, x.vbar), (0x101#12, x.xstatus), (0x102#12, x.xcause), (0x103#12, x.xaddr),
    (0x104#12, x.xepc), (0x105#12, x.xsp), (0x106#12, x.xsplim), (0x107#12, x.xdepth), (0x108#12, x.xscratch), (0x109#12, x.xbudget),
    (0x005#12, x.cycleHi), (0x007#12, x.retiredHi)]

theorem apertures_le {c : Nat} : apertures c ≤ 16 := by
  unfold apertures
  split <;> decide

theorem State.sysRead_plain {c : Nat} : ∀ p ∈ (s.core c).plainRegs c, s.sysRead c p.1.toNat false = some (p.2, s) := by
  have hap := apertures_le (c := c)
  simp only [CoreState.plainRegs, List.forall_mem_cons]
  refine ⟨?_, ?_, ?_, ?_, ?_, ?_, ?_, ?_, ?_, ?_, ?_, ?_, ?_, ?_, ?_, ?_, List.forall_mem_nil _⟩
  all_goals
    unfold State.sysRead
    dsimp only [BitVec.reduceToNat]
    rw [if_neg (by omega), if_neg (by omega)]
    rfl

/-- The low word of the count of instructions latches its high word (R497). -/
theorem State.sysRead_retired {c : Nat} : s.sysRead c 0x006 false =
    some (w32 (s.core c).retired, s.setCore c { s.core c with retiredHi := w32 ((s.core c).retired / 2 ^ 32) }) := rfl

/-- What each exception register that takes a write makes of the core: its fixed bits are zero. -/
def CoreState.written (x : CoreState) (w : Word) : List (BitVec 12 × CoreState) :=
  [(0x100#12, { x with vbar := w &&& 0xFFFFFF01 }), (0x105#12, { x with xsp := w &&& 0xFFFFFFF0 }),
    (0x106#12, { x with xsplim := w &&& 0xFFFFFFF0 }), (0x108#12, { x with xscratch := w }), (0x109#12, { x with xbudget := w }),
    (0x101#12, { x with xstatus := statusWrite x.xstatus w })]

theorem State.sysWrite_written {c : Nat} {w : Word} :
    ∀ p ∈ (s.core c).written w, s.sysWrite c p.1.toNat w false = some (s.setCore c p.2) := by
  have hap := apertures_le (c := c)
  simp only [CoreState.written, List.forall_mem_cons]
  refine ⟨?_, ?_, ?_, ?_, ?_, ?_, List.forall_mem_nil _⟩
  all_goals
    unfold State.sysWrite
    dsimp only [BitVec.reduceToNat]
    rw [if_neg (by omega), if_neg (by omega)]
    rfl

section
variable {c : Core} (h : s.issues c) (hp : (s.core c).priv = true)
include h hp

/-- A read at privileged level: the number's value goes to `gd`; only the read itself changes anything else. -/
theorem exec_srr {gd : Gpr} {n : BitVec 12} {v : Word}
    (hr : (s.setCore c (s.atIssue c)).sysRead c n.toNat false = some (v, s.setCore c y)) (hy : y.Quiet) :
    exec (.srr c gd n) s = .next (s.retired c (y.put gd v false) ((s.core c).pc + 4)) := by
  change Host.Outcome.next (s.srr c gd n.toNat) = _
  refine congrArg Host.Outcome.next ?_
  unfold State.srr
  rw [State.retired]
  refine State.issue_setCore h (fun _ => hp) ?_ ?_
  · rw [hr]
    dsimp only
    rw [State.updCore_setCore h.cores c.isLt, State.retire_setCore h.cores c.isLt, State.retired]
  · rw [CoreState.put_fields]
    exact hy

/-- A write at privileged level: the register takes the value, and nothing else changes. -/
theorem exec_srw {ga : Gpr} {n : BitVec 12} (hn : (n, y) ∈ (s.atIssue c).written ((s.core c).rd ga)) (hy : y.Quiet) :
    exec (.srw c ga n) s = .next (s.retired c y ((s.core c).pc + 4)) := by
  change Host.Outcome.next (s.srw c ga n.toNat) = _
  refine congrArg Host.Outcome.next ?_
  unfold State.srw
  rw [State.retired]
  refine State.issue_setCore h (fun _ => hp) ?_ hy
  have hw := State.sysWrite_written (s := s.setCore c (s.atIssue c)) (c := c) (w := (s.core c).rd ga) (n, y) (by rwa [State.core_atIssue h])
  dsimp only at hw ⊢
  rw [hw, State.setCore_setCore]
  dsimp only
  rw [State.retire_setCore h.cores c.isLt, State.retired]

theorem exec_srr_plain {gd : Gpr} {p : BitVec 12 × Word} (hm : p ∈ (s.core c).plainRegs c) :
    exec (.srr c gd p.1) s = .next (s.gprDone c gd [] p.2) := by
  have hr := State.sysRead_plain (s := s.setCore c (s.atIssue c)) (c := c) p (by
    rw [State.core_atIssue h]
    simpa [CoreState.plainRegs] using hm)
  exact exec_srr h hp hr (.inr h.nothingDue)

theorem exec_srr_retired {gd : Gpr} : exec (.srr c gd 0x006) s = .next (s.retired c
    (({ s.atIssue c with retiredHi := w32 ((s.core c).retired / 2 ^ 32) } : CoreState).put gd (w32 (s.core c).retired) false)
    ((s.core c).pc + 4)) := by
  have hr : (s.setCore c (s.atIssue c)).sysRead c (0x006#12).toNat false = _ := State.sysRead_retired
  rw [State.core_atIssue h, State.setCore_setCore, State.atIssue_retired] at hr
  exact exec_srr h hp hr (.inr h.nothingDue)

end

/-- A write of XSTATUS leaves PRIV; IE and PRI take their bits, PRI at most 32 (R526). -/
theorem statusWrite_fields {old w : Word} : bit (statusWrite old w) 0 = bit old 0 ∧ bit (statusWrite old w) 1 = bit w 1 ∧
    field (statusWrite old w) 13 8 = min 32 (field w 13 8) := by
  unfold statusWrite
  refine ⟨?_, ?_, ?_⟩
  · rw [bit_setField, if_neg (by omega), bit_setBit (by decide), if_neg (by decide), bit_setField, if_neg (by omega)]
  · rw [bit_setField, if_neg (by omega), bit_setBit (by decide), if_pos rfl]
  · rw [field_setField_other (by decide), setBit, field_setField_other (by decide), field_setField_same (by decide)]
    exact Nat.mod_eq_of_lt (by omega)

end Sys2Proof.Machine

namespace Sys2Proof
open Machine

/-- Settles O17: reads of the plain registers and of the count of instructions, and the writes of the exception registers. -/
theorem axSystemRegisters : Obligations.AxSystemRegisters := by
  refine ⟨fun s c gd h hp => ⟨fun p hm => exec_srr_plain h hp hm, exec_srr_retired h hp⟩, fun s c ga h hp => ?_⟩
  have done {n : BitVec 12} {y : CoreState} := exec_srw (y := y) (ga := ga) (n := n) h hp
  refine ⟨done ?_ (.inr h.nothingDue), done ?_ (.inr h.nothingDue), done ?_ (.inr h.nothingDue), done ?_ (.inr h.nothingDue),
    done ?_ (.inr h.nothingDue), _, done (y := { s.atIssue c with xstatus := statusWrite (s.atIssue c).xstatus ((s.core c).rd ga) }) ?_
      (.inr h.nothingDue), ?_⟩
  case refine_7 =>
    obtain ⟨hpriv, hie, hpri⟩ := statusWrite_fields (old := (s.atIssue c).xstatus) (w := (s.core c).rd ga)
    rw [State.retired, State.core_setCore_same _ _ _ h.cores c.isLt]
    exact ⟨hpriv.trans (congrArg (bit · 0) s.atIssue_xstatus), hie, hpri, rfl⟩
  all_goals simp [CoreState.written]

end Sys2Proof

/-! SUPPORT. Loads: tile SRAM as its vat's core reaches it, and the answer to an aperture load (R491, R492, R506, R515). -/

namespace Sys2Proof.Machine

variable {s u : State} {x y : CoreState}

/-! ### Tile SRAM, as its vat's core reaches it (R31, R38, R547) -/

section
variable {c : Nat} {a : Word} {k : Nat} {priv : Bool} {kind : Kind} {size : Size}

theorem State.route_own (hc : c < 64) (ha : a.toNat < 0x40000) : s.route c a = .own a.toNat := if_pos ⟨hc, by omega⟩

theorem State.fabOf_own (hc : c < 64) (ha : a.toNat < 0x40000) : s.fabOf c a = vatAddr c a.toNat := by
  rw [State.fabOf, State.route_own hc ha]

theorem regionOf_tile (hk : k < 0x40000) : regionOf k = .tile := if_pos hk

theorem State.localCheck_tile (hk : k < 0x40000) :
    s.localCheck c priv kind size k = (s.sluiceJudge 0 ⟨c, priv, kind, k, some c⟩).map fun sub => (7, sub) := by
  unfold State.localCheck
  rw [regionOf_tile hk]
  rfl

theorem State.localLoad_tile (hk : k < 0x40000) (hj : s.localCheck c priv .load size k = none) :
    s.localLoad c priv size k = (.ok (w32 (leNat (s.read (vatAddr c k) (sizeBytes size)))), s) := by
  unfold State.localLoad
  rw [hj, regionOf_tile hk]

end

theorem State.localCheck_setCore {c v k : Nat} {priv : Bool} {kind : Kind} {size : Size} :
    (s.setCore c x).localCheck v priv kind size k = s.localCheck v priv kind size k := rfl

theorem State.read_setCore {c a n : Nat} : (s.setCore c x).read a n = s.read a n := State.read_of_byte fun _ => rfl

/-! ### Sign extension -/

theorem sext_toNat {k : Nat} (hk : k ≤ 32) (v : BitVec k) : sext k v.toNat = v.signExtend 32 := by
  have hv := v.isLt
  have hpow : 2 ^ k ≤ 2 ^ 32 := Nat.pow_le_pow_right (by decide) hk
  refine BitVec.eq_of_toNat_eq ?_
  rw [BitVec.toNat_signExtend, BitVec.toNat_setWidth, BitVec.msb_eq_decide, sext]
  rw [Nat.mod_eq_of_lt hv, Nat.mod_eq_of_lt (hv.trans_le hpow)]
  by_cases h : v.toNat < 2 ^ (k - 1)
  · rw [if_pos h, BitVec.toNat_ofNat]
    simp only [decide_eq_true_eq]
    rw [if_neg (by omega), Nat.add_zero, Nat.mod_eq_of_lt (hv.trans_le hpow)]
  · rw [if_neg h, BitVec.toNat_ofNat]
    simp only [decide_eq_true_eq]
    rw [if_pos (by omega), Nat.mod_eq_of_lt (by omega)]
    omega

/-! ### Loads (R491, R492, R515) -/

/-- No buffered store holds a byte near `a`. -/
theorem sbByte_eq_none {sb : List StoreEntry} {a i : Nat} (h : ∀ e ∈ sb, e.fab + 4 ≤ a ∨ a + 4 ≤ e.fab) (hi : i < 4) :
    sbByte sb (a + i) = none := by
  unfold sbByte
  rw [Option.map_eq_none_iff, List.find?_eq_none]
  intro e he
  have hsz : sizeBytes e.size ≤ 4 := by cases e.size <;> decide
  have := h e (List.mem_reverse.mp he)
  simp only [Bool.and_eq_true, decide_eq_true_eq]
  omega

theorem sizeBytes_le {size : Size} : sizeBytes size ≤ 4 := by cases size <;> decide

theorem sbBytes_eq_none {sb : List StoreEntry} {a : Nat} {size : Size} (h : ∀ e ∈ sb, e.fab + 4 ≤ a ∨ a + 4 ≤ e.fab) :
    sbBytes sb a (sizeBytes size) = List.replicate (sizeBytes size) none := by
  refine List.eq_replicate_iff.mpr ⟨by simp [sbBytes], fun b hb => ?_⟩
  obtain ⟨i, hi, rfl⟩ := List.mem_map.mp hb
  exact sbByte_eq_none h ((List.mem_range.mp hi).trans_le sizeBytes_le)

theorem State.loadDone_setCore {c : Nat} {gd : Gpr} {v : Word} {t : Bool} (hl : s.cores.length = 66) (hc : c < 66) :
    (s.setCore c x).loadDone c gd v t =
      s.setCore c { x with slot := some (gd, v, t), load := none, pc := x.pc + 4, retired := x.retired + 1 } := by
  rw [State.loadDone, State.core_setCore_same s c x hl hc, State.updCore_setCore hl hc, State.retire_setCore hl hc, State.retired]

/-- A load from the core's own tile SRAM, apart from the buffered stores, completes with the bytes there. -/
theorem State.doLoad_tile {c : Core} {size : Size} {signed : Bool} {gd ga : Gpr} {imm : BitVec 16} {a : Word} (h : s.issues c)
    (hc : c.val < 64) (he : (s.core c).rd ga + imm.signExtend 32 = a) (ha : a.toNat < 0x40000)
    (hj : s.sluiceJudge 0 ⟨c, (s.core c).priv, .load, a.toNat, some c⟩ = none)
    (hfree : a.toNat % sizeBytes size = 0 ∧
      ∀ e ∈ (s.core c).sb, e.fab + 4 ≤ vatAddr c a.toNat ∨ vatAddr c a.toNat + 4 ≤ e.fab) :
    s.doLoad c size signed gd ga imm = s.setCore c { s.atIssue c with
      pc := (s.core c).pc + 4, retired := (s.core c).retired + 1
      slot := some (gd, loaded size signed (w32 (leNat (s.read (vatAddr c a.toNat) (sizeBytes size)))), false) } := by
  obtain ⟨hal, hsb⟩ := hfree
  have hcheck : s.localCheck c (s.core c).priv .load size a.toNat = none := by
    rw [State.localCheck_tile ha, hj]
    rfl
  have hall : sbAll (List.replicate (sizeBytes size) none) = false := by cases size <;> rfl
  have hnone : sbNone (List.replicate (sizeBytes size) none) = true := by cases size <;> rfl
  unfold State.doLoad
  dsimp only
  rw [sext_toNat (by decide), he, State.fabOf_own hc ha, sbBytes_eq_none hsb, hall, hnone, if_neg (by simp)]
  refine State.issue_setCore h nofun ?_ (.inl (by simp [CoreState.atBoundary]))
  rw [if_neg (not_not.mpr hal), State.route_own hc ha]
  dsimp only
  rw [State.localCheck_setCore, hcheck]
  dsimp only
  rw [State.localLoad_tile (s := s.setCore c (s.atIssue c)) ha hcheck, regionOf_tile ha]
  dsimp only
  rw [State.loadDone_setCore h.cores c.isLt, State.read_setCore, State.atIssue_pc, State.atIssue_retired, h.load]
  rfl

/-! ### Loaded values (R484) -/

section
variable {k : Nat} (hk : k < 32) (v : BitVec k)
include hk

theorem toNat_w32_toNat : (w32 v.toNat).toNat = v.toNat :=
  Nat.mod_eq_of_lt (v.isLt.trans_le (Nat.pow_le_pow_right (by decide) hk.le))

theorem sext_w32_toNat : sext k (w32 v.toNat).toNat = v.signExtend 32 := by
  rw [toNat_w32_toNat hk, sext_toNat hk.le]

theorem w32_toNat_and_mask : w32 v.toNat &&& w32 (2 ^ k - 1) = v.zeroExtend 32 := by
  have hpow : 2 ^ k ≤ 2 ^ 32 := Nat.pow_le_pow_right (by decide) hk.le
  refine BitVec.eq_of_toNat_eq ?_
  rw [BitVec.toNat_and, toNat_w32_toNat hk, BitVec.toNat_ofNat, Nat.mod_eq_of_lt (Nat.lt_of_lt_of_le (Nat.sub_lt (Nat.two_pow_pos k) one_pos) hpow),
    Nat.and_two_pow_sub_one_eq_mod, BitVec.zeroExtend_eq_setWidth, BitVec.toNat_setWidth, Nat.mod_eq_of_lt v.isLt,
    Nat.mod_eq_of_lt (v.isLt.trans_le hpow)]

end

theorem loaded_byte {a : Nat} : loaded .byte true (w32 (leNat (s.read a 1))) = (s.byte a).signExtend 32 ∧
    loaded .byte false (w32 (leNat (s.read a 1))) = (s.byte a).zeroExtend 32 := by
  rw [leNat_read_byte]
  exact ⟨sext_w32_toNat (by decide) _, w32_toNat_and_mask (by decide) _⟩

theorem loaded_half {a : Nat} : loaded .half true (w32 (leNat (s.read a 2))) = (s.byte (a + 1) ++ s.byte a).signExtend 32 ∧
    loaded .half false (w32 (leNat (s.read a 2))) = (s.byte (a + 1) ++ s.byte a).zeroExtend 32 := by
  rw [leNat_read_half]
  exact ⟨sext_w32_toNat (by decide) _, w32_toNat_and_mask (by decide) _⟩

/-! ### The answer to an aperture load (R492, R506) -/

/-- A load from HBM that the target admits, and whose line is not poisoned, is answered with memory's bytes. -/
theorem State.busLoad_hbm {who : Sender} {size : Size} {a k l : Nat} (ht : targetOf a = .hbm k l) (hb : s.busCheck who .load size a = none)
    (hp : s.poisonAt a = false) : s.busLoad who size a = (.ok (w32 (leNat (s.read a (sizeBytes size)))), s) := by
  have hreg : isRegister a = false := by
    unfold isRegister
    rw [ht]
  have hdeep : ¬ (0x20000000 ≤ a ∧ a < 0x20400000) := by
    intro hd
    have : targetOf a = .deep := by
      unfold targetOf
      rw [if_neg (by omega), if_neg (by omega), if_pos hd]
    rw [ht] at this
    cases this
  unfold State.busLoad
  rw [hb, hreg, hp]
  dsimp only
  rw [if_neg (by decide), if_neg (by decide), State.memRead, if_neg hdeep]

theorem loadResponse_hbm {c : Core} {o : OutLoad} {k l : Nat} (hl : s.cores.length = 66) (hrun : s.coresRun = true)
    (hreset : (s.core c).inReset = false) (hlock : (s.core c).locked = false) (hload : (s.core c).load = some o) (hsize : o.size = .word)
    (ht : targetOf o.fab = .hbm k l) (hb : s.busCheck (coreSender c o.priv) .load .word o.fab = none) (hp : s.poisonAt o.fab = false) :
    exec (.loadResponse c) s = .next (s.setCore c { s.core c with
      load := none, slot := some (o.gd, w32 (leNat (s.read o.fab 4)), false), pc := (s.core c).pc + 4, retired := (s.core c).retired + 1 }) := by
  have hdone : s.loadDone c o.gd (w32 (leNat (s.read o.fab 4))) false = s.setCore c { s.core c with
      load := none, slot := some (o.gd, w32 (leNat (s.read o.fab 4)), false), pc := (s.core c).pc + 4, retired := (s.core c).retired + 1 } := by
    have h := State.loadDone_setCore (s := s) (x := s.core c) (gd := o.gd) (v := w32 (leNat (s.read o.fab 4))) (t := false) hl c.isLt
    rwa [State.setCore_core] at h
  change Host.Outcome.next (s.loadResponse c) = _
  refine congrArg Host.Outcome.next ?_
  unfold State.loadResponse
  dsimp only
  rw [if_neg (by simp [hrun, hreset, hlock]), hload]
  dsimp only
  rw [hsize, State.busLoad_hbm ht hb hp]
  dsimp only [loaded, sizeBytes]
  rw [hdone]
  refine State.boundary_quiet ?_
  rw [State.core_setCore_same _ _ _ hl c.isLt]
  exact .inl (by simp [CoreState.atBoundary])

end Sys2Proof.Machine

namespace Sys2Proof
open Machine

/-- Settles O13: a load finds its bytes in tile SRAM, as no buffered store holds any of them, and the answer from HBM is memory's word. -/
theorem axLoads : Obligations.AxLoads := by
  refine ⟨fun s c gd ga imm h hc => ?_, fun s c o k l hl hrun hreset hlock hload hsize ht hb hp =>
    ⟨_, loadResponse_hbm hl hrun hreset hlock hload hsize ht hb hp, rfl⟩⟩
  dsimp only
  intro ha hj
  have run {size : Size} (signed : Bool) := State.doLoad_tile (size := size) (signed := signed) (gd := gd) h hc rfl ha hj
  refine ⟨fun hf => ⟨?_, ?_⟩, fun hf => ⟨?_, ?_⟩, fun hf => ?_⟩
  · rw [← loaded_byte.1]
    exact congrArg Host.Outcome.next (run (size := .byte) true hf)
  · rw [← loaded_byte.2]
    exact congrArg Host.Outcome.next (run (size := .byte) false hf)
  · rw [← loaded_half.1]
    exact congrArg Host.Outcome.next (run (size := .half) true hf)
  · rw [← loaded_half.2]
    exact congrArg Host.Outcome.next (run (size := .half) false hf)
  · rw [← w32_leNat_read_word]
    exact congrArg Host.Outcome.next (run (size := .word) false hf)

end Sys2Proof

/-! SUPPORT. Stores, and SWAP and CAS at tile SRAM (R489, R505, R513, R514, R517). -/

namespace Sys2Proof.Machine

variable {s u : State} {x y : CoreState}

/-! ### Stores (R505, R513, R514) -/

/-- A store to the core's own tile SRAM takes a place in the store buffer. -/
theorem State.doStore_tile {c : Core} {size : Size} {gs ga : Gpr} {imm : BitVec 16} {a : Word} (h : s.issues c) (hc : c.val < 64)
    (hfree : (s.core c).sb.length < 8) (he : (s.core c).rd ga + imm.signExtend 32 = a) (ha : a.toNat < 0x40000)
    (hj : s.sluiceJudge 0 ⟨c, (s.core c).priv, .store, a.toNat, some c⟩ = none) (hal : a.toNat % sizeBytes size = 0) :
    s.doStore c size gs ga imm = s.setCore c { s.atIssue c with
      pc := (s.core c).pc + 4, retired := (s.core c).retired + 1
      sb := (s.core c).sb ++ [⟨a, vatAddr c a.toNat, size, (s.core c).rd gs, (s.core c).priv⟩] } := by
  have hcheck : s.localCheck c (s.core c).priv .store size a.toNat = none := by
    rw [State.localCheck_tile ha, hj]
    rfl
  unfold State.doStore
  rw [if_neg (by omega)]
  refine State.issue_setCore h nofun ?_ (.inr h.nothingDue)
  dsimp only
  rw [sext_toNat (by decide), he, if_neg (not_not.mpr hal), State.route_own hc ha]
  dsimp only
  rw [State.localCheck_setCore, hcheck]
  dsimp only
  rw [State.updCore_setCore h.cores c.isLt, State.retire_setCore h.cores c.isLt, State.retired, State.atIssue_sb, State.atIssue_retired]

/-- The front store of the buffer, to the core's own tile SRAM, is performed. -/
theorem storeAcknowledged_tile {c : Core} {e : StoreEntry} {es : List StoreEntry} (h : s.calm c) (hc : c.val < 64)
    (hwait : (s.core c).wait = none) (hsb : (s.core c).sb = e :: es) (ha : e.addr.toNat < 0x40000) :
    exec (.storeAcknowledged c 0) s =
      .next ((s.write e.fab (leBytes (sizeBytes e.size) e.data.toNat)).setCore c { s.core c with sb := es }) := by
  obtain ⟨hl, hrun, hreset, -, hrep, hbud, hstep, hhalt⟩ := h
  have hown : e.own c = true := by simp [StoreEntry.own, hc]; omega
  have hperform : s.storePerform c e = s.write e.fab (leBytes (sizeBytes e.size) e.data.toNat) := by
    unfold State.storePerform
    rw [if_pos hown, regionOf_tile ha]
  have hcheck : s.storeCheck c e = none := if_pos hown
  have hcore : ((s.write e.fab (leBytes (sizeBytes e.size) e.data.toNat)).setCore c { s.core c with sb := es }).core c =
      { s.core c with sb := es } := State.core_setCore_same _ _ _ (by simpa using hl) c.isLt
  change Host.Outcome.next (s.storeAcked c 0) = _
  refine congrArg Host.Outcome.next ?_
  unfold State.storeAcked
  dsimp only
  rw [if_neg (by simp [hrun, hreset]), hsb]
  rw [List.getElem?_cons_zero]
  dsimp only
  rw [if_neg (by simp [hcheck]), hperform, State.updCore, State.write_core, hsb, List.eraseIdx_cons_zero,
    State.waitGo_none (by rw [hcore]; exact hwait)]
  refine State.boundary_quiet ?_
  rw [hcore]
  exact .inr ⟨hrep, hbud, hstep, hhalt⟩

/-! ### SWAP and CAS (R489, R517) -/

/-- An atomic at the core's own tile SRAM: the old word goes to `gd`, and `f` gives what is stored. -/
theorem State.doAtomic_tile {c : Core} {gd : Gpr} {a : Word} {t : Bool} {f : Word → Option Word} (hl : s.cores.length = 66)
    (hx : s.core c = x) (hc : c.val < 64) (hal : a.toNat % 4 = 0) (ha : a.toNat < 0x40000)
    (hj : s.sluiceJudge 0 ⟨c, x.priv, .atomic, a.toNat, some c⟩ = none) :
    s.doAtomic c gd a t false f =
      ((f (w32 (leNat (s.read (vatAddr c a.toNat) 4)))).elim s fun v => s.write (vatAddr c a.toNat) (leBytes 4 v.toNat)).retired c
        { x.put gd (w32 (leNat (s.read (vatAddr c a.toNat) 4))) t with wait := none } (x.pc + 4) := by
  have hcheck : s.localCheck c x.priv .atomic .word a.toNat = none := by
    rw [State.localCheck_tile ha, hj]
    rfl
  unfold State.doAtomic
  dsimp only
  rw [if_neg (not_not.mpr hal), State.route_own hc ha, hx]
  dsimp only
  rw [hcheck]
  dsimp only
  cases f (w32 (leNat (s.read (vatAddr c a.toNat) 4))) with
  | none =>
    dsimp only [Option.elim_none]
    rw [State.updCore, hx, State.retire_setCore hl c.isLt]
  | some v =>
    dsimp only [Option.elim_some]
    rw [State.updCore, State.write_core, hx, State.retire_setCore (by simpa using hl) c.isLt]

theorem State.waitGo_swap {c : Nat} {back : Bool} {gd : Gpr} {a d : Word} {t : Bool} (hsb : (s.core c).sb = [])
    (hw : (s.core c).wait = some (.swap gd a d t)) : s.waitGo c back = s.doAtomic c gd a t back fun _ => some d := by
  unfold State.waitGo
  dsimp only
  rw [if_neg (not_not.mpr hsb), hw]

theorem State.waitGo_cas {c : Nat} {back : Bool} {gd : Gpr} {a d e : Word} {t : Bool} (hsb : (s.core c).sb = [])
    (hw : (s.core c).wait = some (.cas gd a d e t)) :
    s.waitGo c back = s.doAtomic c gd a t back fun old => if old = e then some d else none := by
  unfold State.waitGo
  dsimp only
  rw [if_neg (not_not.mpr hsb), hw]

theorem CoreState.put_clearWait {g : Gpr} {v : Word} {t : Bool} {w : Option Waiting} (hw : x.wait = none) :
    ({ ({ x with wait := w } : CoreState).put g v t with wait := none } : CoreState) = x.put g v t := by
  unfold CoreState.put
  split <;> simp only [← hw]

/-- An issued atomic at the core's own tile SRAM, its store buffer empty. -/
theorem State.doWait_atomic {c : Core} {gd : Gpr} {a : Word} {t : Bool} {w : CoreState → Waiting} {f : Word → Option Word}
    (h : s.issues c) (hc : c.val < 64) (hsb : (s.core c).sb = []) (hal : a.toNat % 4 = 0) (ha : a.toNat < 0x40000)
    (hj : s.sluiceJudge 0 ⟨c, (s.core c).priv, .atomic, a.toNat, some c⟩ = none)
    (hw : ∀ v : State, (v.core c).sb = [] → (v.core c).wait = some (w (s.core c)) → v.waitGo c false = v.doAtomic c gd a t false f) :
    s.doWait c false 804 w =
      ((f (w32 (leNat (s.read (vatAddr c a.toNat) 4)))).elim s fun v => s.write (vatAddr c a.toNat) (leBytes 4 v.toNat)).retired c
        ((s.atIssue c).put gd (w32 (leNat (s.read (vatAddr c a.toNat) 4))) t) ((s.core c).pc + 4) := by
  have hcore := State.core_setCore_same s c { s.atIssue c with wait := some (w (s.core c)) } h.cores c.isLt
  refine State.issue_of_body h nofun ?_ ?_
  · rw [State.updCore_setCore h.cores c.isLt, hw _ (by rw [hcore]; exact s.atIssue_sb.trans hsb) (by rw [hcore]),
      State.doAtomic_tile (by simpa using h.cores) hcore hc hal ha (by rw [CoreState.priv, State.atIssue_xstatus]; exact hj),
      CoreState.put_clearWait h.wait, State.read_setCore, State.atIssue_pc]
    cases f (w32 (leNat (s.read (vatAddr c a.toNat) 4))) with
    | none =>
      rw [Option.elim_none, Option.elim_none, State.retired, State.setCore_setCore]
      rfl
    | some v =>
      rw [Option.elim_some, Option.elim_some, State.write_setCore, State.retired, State.setCore_setCore]
      rfl
  · have hcores : ((f (w32 (leNat (s.read (vatAddr c a.toNat) 4)))).elim s fun v =>
        s.write (vatAddr c a.toNat) (leBytes 4 v.toNat)).cores.length = 66 := by
      cases f (w32 (leNat (s.read (vatAddr c a.toNat) 4))) with
      | none => exact h.cores
      | some v => simpa using h.cores
    rw [State.retired, State.core_setCore_same _ _ _ hcores c.isLt, CoreState.put_fields]
    exact .inr h.nothingDue

end Sys2Proof.Machine

namespace Sys2Proof
open Machine

/-- Settles O15: both go through the same atomic, with what each stores for the word that it finds. -/
theorem axTileAtomics : Obligations.AxTileAtomics := by
  intro s c gd ga gb h hc hsb
  dsimp only
  intro hal ha hj
  rw [← w32_leNat_read_word]
  refine ⟨?_, ?_⟩
  · change Host.Outcome.next (s.swapInstr c gd ga gb) = _
    refine congrArg Host.Outcome.next ?_
    unfold State.swapInstr
    rw [State.doWait_atomic h hc hsb hal ha hj fun _ => State.waitGo_swap]
    rfl
  · change Host.Outcome.next (s.casInstr c gd ga gb) = _
    refine congrArg Host.Outcome.next ?_
    unfold State.casInstr
    rw [State.doWait_atomic h hc hsb hal ha hj fun _ => State.waitGo_cas]
    dsimp only [vatAddr]
    split
    · rfl
    · rfl

/-- Settles O14: the entry that a store puts in the buffer, and what performing it writes. -/
theorem axStores : Obligations.AxStores := by
  refine ⟨fun s c gs ga imm h hc hfree => ?_, fun s c e es h hc hwait hsb ha hfab =>
    ⟨_, storeAcknowledged_tile h hc hwait hsb ha, rfl, ?_, fun p hp => ?_⟩⟩
  · dsimp only
    intro ha hj
    have run {size : Size} := State.doStore_tile (size := size) (gs := gs) h hc hfree rfl ha hj
    exact ⟨congrArg Host.Outcome.next (run (size := .byte) (Nat.mod_one _)), fun hal => congrArg Host.Outcome.next (run (size := .half) hal),
      fun hal => congrArg Host.Outcome.next (run (size := .word) hal)⟩
  · have h := State.read_write (s := s) (a := e.fab) (bs := leBytes (sizeBytes e.size) e.data.toNat)
    rw [length_leBytes] at h
    rw [State.read_setCore, h]
  · rw [State.setCore_byte]
    obtain hp | hp := hp
    · exact s.write_byte_below _ _ _ hp
    · exact s.write_byte_above _ _ _ (by rwa [length_leBytes])

end Sys2Proof

/-! SUPPORT. Branches and jumps (R487, R488, R507, R511). -/

namespace Sys2Proof.Machine

variable {s u : State} {x y : CoreState}

/-! ### Prediction (R503, R507, R511) -/

section
variable {c n : Nat} (hl : s.cores.length = 66) (hc : c < 66)
include hl hc

theorem State.updCore_took {f : CoreState → CoreState} : ((s.setCore c x).tookFree n).updCore c f = (s.setCore c (f x)).tookFree n :=
  congrArg (State.tookFree · n) (State.updCore_setCore hl hc)

/-- A squash changes the count of what was squashed, and takes a free value. -/
theorem State.squash_setCore : ∃ q n, (s.setCore c x).squash c = (s.setCore c { x with squash := q }).tookFree n := by
  unfold State.squash
  rw [State.core_setCore_same s c x hl hc, State.updCore_setCore hl hc]
  split
  · exact ⟨_, 1, rfl⟩
  · exact ⟨x.squash, 0, rfl⟩

theorem State.squashUnless_setCore {p : Prop} [Decidable p] :
    ∃ q n, (if p then s.setCore c x else (s.setCore c x).squash c) = (s.setCore c { x with squash := q }).tookFree n := by
  split
  · exact ⟨x.squash, 0, rfl⟩
  · exact State.squash_setCore hl hc

/-- What a conditional branch leaves behind: the squash count and the predictor. -/
theorem State.branched_setCore {taken tainted : Bool} :
    ∃ q p n, (s.setCore c x).branched c y taken tainted = (s.setCore c { x with squash := q, predictor := p }).tookFree n := by
  obtain ⟨q, m, hq⟩ := State.squash_setCore (x := x) hl hc
  unfold State.branched
  dsimp only
  split
  · exact ⟨x.squash, x.predictor, 0, rfl⟩
  · split
    · exact ⟨x.squash, _, 0, State.updCore_setCore hl hc⟩
    · rw [hq, State.updCore_took hl hc]
      exact ⟨q, _, m, rfl⟩

end

/-! ### Branches (R484, R487) -/

theorem CoreState.put_gpr {x : CoreState} {g : Gpr} {v : Word} {t : Bool} : (x.put g v t).gpr = if g = 0 then x.gpr else x.gpr.set g v := by
  unfold CoreState.put
  split <;> rfl

/-- The target of a branch, the offset counted in words. -/
theorem branchTarget_eq {pc : Word} {imm : BitVec 16} : pc + sext 16 imm.toNat * 4 = BitVec.ofInt 32 (pc.toInt + imm.toInt * 4) := by
  rw [sext_toNat (by decide), BitVec.ofInt_add, BitVec.ofInt_toInt, BitVec.ofInt_mul]
  rfl

section
variable {c : Core} (h : s.issues c)
include h

/-- An instruction that retires at `pc`, and changes of its core nothing else that `flowed` speaks of but the registers. -/
theorem State.issue_flowed {worst n : Nat} {body : CoreState → State → State} {gpr : List Word} {pc : Word}
    (hb : body (s.core c) (s.setCore c (s.atIssue c)) = ((s.setCore c y).tookFree n).retire c pc) (hg : y.gpr = gpr)
    (hr : y.retired = (s.core c).retired) (hs : y.xstatus = (s.core c).xstatus) (hsb : y.sb = (s.core c).sb) (hq : y.Quiet) :
    s.flowed (s.issue c false worst body) c gpr pc := by
  rw [State.retire, State.updCore_took h.cores c.isLt] at hb
  have hcore := State.core_setCore_same s c { y with pc := pc, retired := y.retired + 1 } h.cores c.isLt
  rw [State.issue_of_body (priv := false) h nofun hb (by rw [State.tookFree_core, hcore]; exact hq)]
  unfold State.flowed
  dsimp only
  rw [State.tookFree_core, hcore]
  exact ⟨rfl, hg, congrArg (· + 1) hr, hs, hsb, rfl, rfl, fun d hd => State.core_setCore_other _ _ hd⟩

theorem State.branch_flowed {ga gb : Gpr} {imm : BitVec 16} {f : Word → Word → Bool} :
    s.flowed (s.branch c ga gb imm f) c (s.atIssue c).gpr (if f ((s.core c).rd ga) ((s.core c).rd gb) then
      BitVec.ofInt 32 ((s.core c).pc.toInt + imm.toInt * 4) else (s.core c).pc + 4) := by
  rw [← branchTarget_eq]
  obtain ⟨q, p, n, hb⟩ := State.branched_setCore (x := s.atIssue c) (y := s.core c) (taken := f ((s.core c).rd ga) ((s.core c).rd gb))
    (tainted := (s.core c).tainted ga || (s.core c).tainted gb) h.cores c.isLt
  exact State.issue_flowed h (congrArg (State.retire · c _) hb) rfl s.atIssue_retired s.atIssue_xstatus s.atIssue_sb (.inr h.nothingDue)

/-! ### Jumps (R484, R487, R488) -/

/-- The registers behind a link in `gd`. -/
def State.linked (s : State) (c : Nat) (gd : Gpr) : List Word :=
  if gd = 0 then (s.atIssue c).gpr else (s.atIssue c).gpr.set gd ((s.core c).pc + 4)

theorem State.link_setCore {x : CoreState} {gd : Gpr} {pc : Word} {t : Bool} : ∃ m r, (s.setCore c x).link c gd pc t =
    s.setCore c { x with gpr := if gd = 0 then x.gpr else x.gpr.set gd (pc + 4), taint := m, returns := r } := by
  unfold State.link
  rw [State.updCore_setCore h.cores c.isLt, CoreState.put_fields, CoreState.put_gpr]
  exact ⟨_, _, rfl⟩

theorem State.jal_flowed {gd : Gpr} {off : BitVec 21} : s.flowed (s.jal c gd off) c (s.linked c gd)
    (BitVec.ofInt 32 ((s.core c).pc.toInt + off.toInt * 4)) := by
  have ht : (s.core c).pc + off.signExtend 32 * 4 = BitVec.ofInt 32 ((s.core c).pc.toInt + off.toInt * 4) := by
    rw [BitVec.ofInt_add, BitVec.ofInt_toInt, BitVec.ofInt_mul]
    rfl
  rw [← ht]
  obtain ⟨m, r, hr⟩ := State.link_setCore h (x := s.atIssue c) (gd := gd) (pc := (s.core c).pc) (t := false)
  exact State.issue_flowed h (n := 0) (congrArg (State.retire · c _) hr) rfl s.atIssue_retired s.atIssue_xstatus s.atIssue_sb
    (.inr h.nothingDue)

section
variable {ga : Gpr} {imm : BitVec 16} {t : Word} (ht : (s.core c).rd ga + imm.signExtend 32 = t)
include ht

theorem State.jr_flowed (hal : t.toNat % 4 = 0) : s.flowed (s.jump c none ga imm) c (s.atIssue c).gpr t := by
  obtain ⟨q, n, hq⟩ := State.squashUnless_setCore (x := s.atIssue c) (p := (s.core c).tainted ga ∨ (s.core c).returns.head? = some t)
    h.cores c.isLt
  have hb : ∃ r, (if (s.core c).tainted ga = true then (s.setCore c { s.atIssue c with squash := q }).tookFree n
      else ((s.setCore c { s.atIssue c with squash := q }).tookFree n).updCore c fun y => { y with returns := y.returns.drop 1 }) =
      (s.setCore c { s.atIssue c with squash := q, returns := r }).tookFree n := by
    rw [State.updCore_took h.cores c.isLt]
    split
    · exact ⟨(s.atIssue c).returns, rfl⟩
    · exact ⟨_, rfl⟩
  obtain ⟨r, hr⟩ := hb
  refine State.issue_flowed h (y := { s.atIssue c with squash := q, returns := r }) (n := n) ?_ rfl s.atIssue_retired s.atIssue_xstatus
    s.atIssue_sb (.inr h.nothingDue)
  dsimp only
  rw [sext_toNat (by decide), ht, if_neg (not_not.mpr hal), hq, hr]

theorem State.jalr_flowed {gd : Gpr} (hal : t.toNat % 4 = 0) : s.flowed (s.jump c (some gd) ga imm) c (s.linked c gd) t := by
  obtain ⟨q, n, hq⟩ := State.squashUnless_setCore (x := s.atIssue c) (p := (s.core c).tainted ga ∨ (s.core c).returns.head? = some t)
    h.cores c.isLt
  obtain ⟨m, r, hr⟩ := State.link_setCore h (x := { s.atIssue c with squash := q }) (gd := gd) (pc := (s.core c).pc)
    (t := (s.core c).tainted ga)
  refine State.issue_flowed h (y := { s.atIssue c with squash := q, gpr := s.linked c gd, taint := m, returns := r }) (n := n) ?_ rfl
    s.atIssue_retired s.atIssue_xstatus s.atIssue_sb (.inr h.nothingDue)
  dsimp only
  rw [sext_toNat (by decide), ht, if_neg (not_not.mpr hal), hq]
  exact congrArg (fun u => (u.tookFree n).retire c t) hr

end

end
end Sys2Proof.Machine

/-! SUPPORT. Exception entry (R530, R531), and the exceptions that an instruction raises. -/

namespace Sys2Proof.Machine

variable {s u : State} {c : Nat} {x y : CoreState}

/-! ### Words of the stack memories (R530) -/

/-- Boot ROM and warden SRAM hold neither registers nor lines that may be poisoned. -/
theorem State.plainMemory {k : Nat} (h : k + 4 ≤ 0x40000 ∨ (0x10000000 ≤ k ∧ k + 4 ≤ 0x10800000)) :
    isRegister k = false ∧ s.poisonAt k = false ∧ ¬ (0x20000000 ≤ k ∧ k < 0x20400000) := by
  have ht : targetOf k = .boot ∨ targetOf k = .sram := by
    unfold targetOf
    obtain h | h := h
    · exact .inl (if_pos (by omega))
    · exact .inr (by rw [if_neg (by omega), if_pos (by omega)])
  unfold isRegister State.poisonAt
  refine ⟨?_, ?_, by omega⟩ <;> obtain ht | ht := ht <;> rw [ht]

theorem State.coreStore_stack {a w : Word} (h : s.stackMay c .store a) :
    s.coreStore c true .word a w = (none, s.write (s.fabOf c a) (leBytes 4 w.toNat)) := by
  unfold State.stackMay at h
  unfold State.coreStore State.fabOf
  cases hr : s.route c a with
  | own k =>
    rw [hr] at h
    obtain ⟨hk, -, hcheck⟩ := h
    dsimp only
    rw [State.localStore, hcheck, regionOf_tile (by omega)]
    rfl
  | fab k =>
    rw [hr] at h
    obtain ⟨hk, -, hcheck⟩ := h
    obtain ⟨hreg, -, hdeep⟩ := s.plainMemory hk
    dsimp only
    rw [State.busStore, hcheck, hreg, State.memWrite, if_neg hdeep]
    rfl
  | deny d =>
    rw [hr] at h
    exact h.elim

theorem State.coreLoad_stack {a : Word} (h : s.stackMay c .load a) :
    s.coreLoad c true .word a = (.ok (w32 (leNat (s.read (s.fabOf c a) 4))), s) := by
  unfold State.stackMay at h
  unfold State.coreLoad State.fabOf
  cases hr : s.route c a with
  | own k =>
    rw [hr] at h
    obtain ⟨hk, -, hcheck⟩ := h
    exact State.localLoad_tile (by omega) hcheck
  | fab k =>
    rw [hr] at h
    obtain ⟨hk, -, hcheck⟩ := h
    obtain ⟨hreg, hpoison, hdeep⟩ := s.plainMemory hk
    dsimp only
    rw [State.busLoad, hcheck, hreg, hpoison, State.memRead, if_neg hdeep]
    rfl
  | deny d =>
    rw [hr] at h
    exact h.elim

theorem State.stackMay_write {a : Nat} {bs : Bytes} {kind : Kind} {addr : Word} (h : s.stackMay c kind addr) :
    (s.write a bs).stackMay c kind addr := by
  rw [State.write_eq]
  exact h

theorem State.fabOf_write {a : Nat} {bs : Bytes} {addr : Word} : (s.write a bs).fabOf c addr = s.fabOf c addr := by
  rw [State.write_eq]
  rfl

/-- The words of a frame stand one behind another. -/
theorem State.fabOf_frame {a : Word} {i : Nat} (hf : s.frameAt c a = true) (ha : a.toNat + 16 ≤ 2 ^ 32) (hi : i ≤ 12) :
    s.fabOf c (a + w32 i) = s.fabOf c a + i := by
  have hadd : (a + w32 i).toNat = a.toNat + i := by
    rw [BitVec.toNat_add, BitVec.toNat_ofNat]
    omega
  unfold State.frameAt State.route at hf
  unfold State.fabOf State.route
  dsimp only at hf ⊢
  rw [hadd]
  by_cases hown : c < 64 ∧ a.toNat < 0x80000000
  · rw [if_pos hown] at hf ⊢
    dsimp only at hf ⊢
    have hk := of_decide_eq_true hf
    rw [if_pos (by omega)]
    exact (Nat.add_assoc _ _ _).symm
  · rw [if_neg hown] at hf ⊢
    by_cases hbit : bit ((s.core c).aper.getD (apertureOf c a.toNat).1 (0, 0)).2 0 = true
    · rw [if_pos hbit] at hf ⊢
      simp only [Bool.and_eq_true, decide_eq_true_eq] at hf
      obtain ⟨⟨hc, hlo⟩, hhi⟩ := hf
      have hap : apertureOf c (a.toNat + i) = ((apertureOf c a.toNat).1, (apertureOf c a.toNat).2 + i) := by
        simp only [apertureOf] at hlo hhi ⊢
        rw [if_neg (by omega), if_neg (by omega)]
        exact Prod.ext (by dsimp only; omega) (by dsimp only; omega)
      rw [if_neg (by omega), hap]
      dsimp only
      rw [if_pos hbit]
      exact (Nat.add_assoc _ _ _).symm
    · rw [if_neg hbit] at hf
      exact absurd hf Bool.false_ne_true

/-! ### What an entry depends on (R530) -/

/-- The cores agree in what decides where an entry goes and what its frame holds. -/
structure CoreState.EntersAs (x y : CoreState) : Prop where
  sb : x.sb = y.sb
  xsp : x.xsp = y.xsp
  xsplim : x.xsplim = y.xsplim
  vbar : x.vbar = y.vbar
  xstatus : x.xstatus = y.xstatus
  aper : x.aper = y.aper
  xdepth : x.xdepth = y.xdepth

theorem CoreState.EntersAs.vectorAt {v : Nat} (h : x.EntersAs y) : x.vectorAt v = y.vectorAt v :=
  congrArg (fun b => w32 (field b 31 8 * 256 + 4 * v)) h.vbar

theorem State.atIssue_entersAs : (s.atIssue c).EntersAs (s.core c) :=
  ⟨s.atIssue_sb, s.atIssue_xsp, s.atIssue_xsplim, s.atIssue_vbar, s.atIssue_xstatus, s.atIssue_aper, s.atIssue_xdepth⟩

section
variable (hl : s.cores.length = 66) (hc : c < 66) (hx : x.EntersAs (s.core c))
include hl hc hx

theorem State.route_setCore {addr : Word} : (s.setCore c x).route c addr = s.route c addr := by
  unfold State.route
  rw [State.core_setCore_same s c x hl hc, hx.aper]

theorem State.fabOf_setCore {addr : Word} : (s.setCore c x).fabOf c addr = s.fabOf c addr := by
  unfold State.fabOf
  rw [State.route_setCore hl hc hx]

theorem State.frameAt_setCore {addr : Word} : (s.setCore c x).frameAt c addr = s.frameAt c addr := by
  unfold State.frameAt
  rw [State.route_setCore hl hc hx]

theorem State.stackMay_setCore {kind : Kind} {addr : Word} : (s.setCore c x).stackMay c kind addr ↔ s.stackMay c kind addr := by
  unfold State.stackMay
  rw [State.route_setCore hl hc hx]
  exact Iff.rfl

theorem State.framed_setCore {epc cause addr : Word} : (s.setCore c x).framed c epc cause addr = (s.framed c epc cause addr).setCore c x := by
  unfold State.framed
  rw [State.core_setCore_same s c x hl hc, hx.xsp, hx.xstatus, State.fabOf_setCore hl hc hx, State.write_setCore]

theorem State.canEnter_setCore {v : Nat} {epc cause addr : Word} (h : s.canEnter c v epc cause addr) :
    (s.setCore c x).canEnter c v epc cause addr := by
  unfold State.canEnter at h ⊢
  simp only [State.core_setCore_same s c x hl hc, State.framed_setCore hl hc hx, State.fabOf_setCore hl hc hx, State.frameAt_setCore hl hc hx,
    State.stackMay_setCore hl hc hx, State.read_setCore, CoreState.vectorAt, hx.sb, hx.xsp, hx.xsplim, hx.vbar]
  exact h

end

/-! ### The frame of an entry -/

section
variable {epc cause addr : Word}

theorem State.framed_regs : (s.framed c epc cause addr).regs = s.regs := State.write_regs _ _ _

theorem State.framed_cores : (s.framed c epc cause addr).cores = s.cores := State.write_cores _ _ _

theorem State.framed_core {d : Nat} : (s.framed c epc cause addr).core d = s.core d := State.write_core _ _ _ _

theorem length_frameBytes {status : Word} : (frameBytes epc status cause addr).length = 16 := by
  simp only [frameBytes, List.length_append, length_leBytes]

/-- The frame stands as it was written. -/
theorem State.framed_read : (s.framed c epc cause addr).read (s.fabOf c ((s.core c).xsp - 16)) 16 =
    frameBytes epc (s.core c).xstatus cause addr := by
  have h := State.read_write (s := s) (a := s.fabOf c ((s.core c).xsp - 16)) (bs := frameBytes epc (s.core c).xstatus cause addr)
  rwa [length_frameBytes] at h

/-- Memory beside the frame is as before. -/
theorem State.framed_byte {p : Nat} (hp : p < s.fabOf c ((s.core c).xsp - 16) ∨ s.fabOf c ((s.core c).xsp - 16) + 16 ≤ p) :
    (s.framed c epc cause addr).byte p = s.byte p := by
  obtain hp | hp := hp
  · exact s.write_byte_below _ _ _ hp
  · exact s.write_byte_above _ _ _ (by rwa [length_frameBytes])

end

theorem State.read_tookFree {n a m : Nat} : (s.tookFree n).read a m = s.read a m := State.read_of_byte fun _ => rfl

theorem State.framed_tookFree {n : Nat} {epc cause addr : Word} :
    (s.tookFree n).framed c epc cause addr = (s.framed c epc cause addr).tookFree n :=
  State.write_tookFree

theorem State.canEnter_tookFree {n v : Nat} {epc cause addr : Word} (h : s.canEnter c v epc cause addr) :
    (s.tookFree n).canEnter c v epc cause addr := by
  unfold State.canEnter at h ⊢
  rw [State.framed_tookFree]
  exact h

/-! ### The frame and the vector -/

section
variable {v : Nat} {epc cause addr : Word} (h : s.canEnter c v epc cause addr)
include h

theorem State.pushWords_frame : s.pushWords c ((s.core c).xsp - 16) [epc, (s.core c).xstatus, cause, addr] =
    (true, s.framed c epc cause addr) := by
  obtain ⟨-, hsp, -, -, -, hf, h₀, h₁, h₂, h₃, -, -⟩ := h
  have hlt : ((s.core c).xsp - 16).toNat + 16 ≤ 2 ^ 32 := by
    have := (s.core c).xsp.isLt
    bv_omega
  have h₈ : (s.core c).xsp - 16 + 4 + 4 = (s.core c).xsp - 16 + 8 := by rw [BitVec.add_assoc]; rfl
  have h₁₂ : (s.core c).xsp - 16 + 8 + 4 = (s.core c).xsp - 16 + 12 := by rw [BitVec.add_assoc]; rfl
  have hfab {i : Nat} (hi : i ≤ 12) := State.fabOf_frame (i := i) hf hlt hi
  rw [State.pushWords, State.coreStore_stack h₀]
  dsimp only
  rw [State.pushWords, State.coreStore_stack (State.stackMay_write h₁)]
  dsimp only
  rw [State.pushWords, h₈, State.coreStore_stack (State.stackMay_write (State.stackMay_write h₂))]
  dsimp only
  rw [State.pushWords, h₁₂, State.coreStore_stack (State.stackMay_write (State.stackMay_write (State.stackMay_write h₃)))]
  dsimp only
  rw [State.pushWords]
  simp only [State.fabOf_write]
  rw [show (4 : Word) = w32 4 from rfl, show (8 : Word) = w32 8 from rfl, show (12 : Word) = w32 12 from rfl, hfab (by decide), hfab (by decide),
    hfab (by decide), State.framed, frameBytes, State.write_append, State.write_append, State.write_append]
  simp only [List.length_append, length_leBytes]

theorem State.coreLoad_vector : (s.framed c epc cause addr).coreLoad c true .word ((s.core c).vectorAt v) =
    (.ok (w32 (leNat ((s.framed c epc cause addr).read (s.fabOf c ((s.core c).vectorAt v)) 4))), s.framed c epc cause addr) := by
  obtain ⟨-, -, -, -, -, -, -, -, -, -, hv, -⟩ := h
  have hfab : (s.framed c epc cause addr).fabOf c ((s.core c).vectorAt v) = s.fabOf c ((s.core c).vectorAt v) := State.fabOf_write
  rw [← hfab]
  exact State.coreLoad_stack (State.stackMay_write hv)

end

/-! ### Entry (R530) -/

/-- XSTATUS behind an entry from status `w`: privileged, IE 0, and the new priority of an interrupt. -/
def enteredStatus (w : Word) : Option Nat → Word
  | some p => setField (setField w 1 0 1) 13 8 p
  | none => setField w 1 0 1

theorem enteredStatus_fields {w : Word} {pri : Option Nat} (hp : ∀ p, pri = some p → p < 64) :
    bit (enteredStatus w pri) 0 = true ∧ bit (enteredStatus w pri) 1 = false ∧
      field (enteredStatus w pri) 13 8 = pri.getD (field w 13 8) := by
  cases pri with
  | none =>
    refine ⟨?_, ?_, field_setField_other (by decide)⟩
    · rw [enteredStatus, bit_setField, if_pos (by decide)]
      decide
    · rw [enteredStatus, bit_setField, if_pos (by decide)]
      decide
  | some p =>
    refine ⟨?_, ?_, (field_setField_same (by decide)).trans (Nat.mod_eq_of_lt (hp p rfl))⟩
    · rw [enteredStatus, bit_setField, if_neg (by decide), bit_setField, if_pos (by decide)]
      decide
    · rw [enteredStatus, bit_setField, if_neg (by decide), bit_setField, if_pos (by decide)]
      decide

/-- Core `x` as its handler finds it, at `pc`. -/
def CoreState.inVector (x : CoreState) (cause addr epc pc : Word) (pri : Option Nat) : CoreState :=
  { x with
    xsp := x.xsp - 16, xcause := cause, xaddr := addr, xepc := epc, xstatus := enteredStatus x.xstatus pri
    xdepth := w32 (min 255 (x.xdepth.toNat + 1)), predictor := List.replicate 256 0, returns := [], pc := pc
    slot := none, load := none, wait := none, wfe := false }

/-- The address of the handler of vector `v`, read behind the frame. -/
@[irreducible] def State.handlerAt (s : State) (c v : Nat) (epc cause addr : Word) : Word :=
  w32 (leNat ((s.framed c epc cause addr).read (s.fabOf c ((s.core c).vectorAt v)) 4))

/-- An entry that does not lock the core up writes the frame and goes to the handler. -/
theorem State.enter_of_canEnter {t : State} {v : Nat} {epc cause addr : Word} {pri : Option Nat} (hq : t.squash c = s)
    (h : s.canEnter c v epc cause addr) : t.enter c v cause addr epc pri =
      (s.framed c epc cause addr).setCore c ((s.core c).inVector cause addr epc (s.handlerAt c v epc cause addr) pri) := by
  have hpush := State.pushWords_frame h
  have hload := State.coreLoad_vector h
  obtain ⟨hsb, h16, hlim, -, hv0, hf, -, -, -, -, -, hal⟩ := h
  unfold CoreState.vectorAt at hload
  unfold State.enter
  rw [hq]
  dsimp only at hsb h16 hlim hv0 hf hal ⊢
  rw [if_neg (not_or.mpr ⟨by omega, not_or.mpr ⟨by omega, not_or.mpr ⟨not_not.mpr hv0, not_not.mpr hf⟩⟩⟩), hsb, State.flushStack,
    hpush]
  dsimp only
  rw [if_neg (by decide), hload]
  dsimp only
  rw [if_neg (by rw [BitVec.toNat_ofNat]; unfold CoreState.vectorAt at hal; omega), State.updCore, State.framed_core, State.handlerAt]
  cases pri <;> rfl

section
variable {v : Nat} {epc cause addr : Word} (hl : s.cores.length = 66) (hc : c < 66) (hx : x.EntersAs (s.core c))
include hl hc hx

/-- An entry changes of the state what `entered` names, and nothing else. -/
theorem State.entered_of_inVector {n : Nat} {q : Word} {pri : Option Nat} (hp : ∀ p, pri = some p → p < 64) (hg : x.gpr = (s.atIssue c).gpr) :
    s.entered (((s.framed c epc cause addr).setCore c
      (({ x with squash := q } : CoreState).inVector cause addr epc (s.handlerAt c v epc cause addr) pri)).tookFree n) c v epc cause addr
      (pri.getD (s.core c).pri) := by
  obtain ⟨h₀, h₁, hpri⟩ := enteredStatus_fields (w := x.xstatus) hp
  have hold : field x.xstatus 13 8 = (s.core c).pri := congrArg (field · 13 8) hx.xstatus
  rw [hold] at hpri
  have hframe : (s.framed c epc cause addr).cores.length = 66 := by rwa [State.framed_cores]
  have hread {a m : Nat} : (((s.framed c epc cause addr).setCore c
      (({ x with squash := q } : CoreState).inVector cause addr epc (s.handlerAt c v epc cause addr) pri)).tookFree n).read a m =
      (s.framed c epc cause addr).read a m := State.read_tookFree.trans State.read_setCore
  unfold State.entered
  dsimp only
  rw [State.tookFree_core, State.core_setCore_same _ _ _ hframe hc, hread, hread, State.tookFree_regs, State.setCore_regs,
    State.framed_regs, State.framed_read]
  refine ⟨congrArg (· - 16) hx.xsp, rfl, rfl, rfl, h₀, h₁, hpri, hg, congrArg (fun w : Word => w32 (min 255 (w.toNat + 1))) hx.xdepth,
    rfl, rfl, by rw [State.handlerAt]; rfl, rfl, fun d hd => ?_, fun p hp => ?_⟩
  · rw [State.tookFree_core, State.core_setCore_other _ _ hd, State.framed_core]
  · rw [State.tookFree_byte, State.setCore_byte, State.framed_byte hp]

variable (h : s.canEnter c v epc cause addr)
include h

/-- The same from a state that differs in what an entry does not depend on. -/
theorem State.enter_setCore {pri : Option Nat} : ∃ q n, (s.setCore c x).enter c v cause addr epc pri =
    ((s.framed c epc cause addr).setCore c
      (({ x with squash := q } : CoreState).inVector cause addr epc (s.handlerAt c v epc cause addr) pri)).tookFree n := by
  obtain ⟨q, n, hq⟩ := State.squash_setCore (x := x) hl hc
  refine ⟨q, n, ?_⟩
  have hxq : ({ x with squash := q } : CoreState).EntersAs (s.core c) := ⟨hx.sb, hx.xsp, hx.xsplim, hx.vbar, hx.xstatus, hx.aper, hx.xdepth⟩
  have hhandler : ((s.setCore c { x with squash := q }).tookFree n).handlerAt c v epc cause addr = s.handlerAt c v epc cause addr := by
    have hfab : ((s.setCore c { x with squash := q }).tookFree n).fabOf c ((s.core c).vectorAt v) = s.fabOf c ((s.core c).vectorAt v) :=
      State.fabOf_setCore hl hc hxq
    unfold State.handlerAt
    rw [State.tookFree_core, State.core_setCore_same s c _ hl hc, hxq.vectorAt, hfab, State.framed_tookFree,
      State.framed_setCore hl hc hxq, State.read_tookFree, State.read_setCore]
  rw [State.enter_of_canEnter hq (State.canEnter_tookFree (State.canEnter_setCore hl hc hxq h)), hhandler, State.framed_tookFree,
    State.framed_setCore hl hc hxq, State.tookFree_core, State.core_setCore_same s c _ hl hc, State.setCore_tookFree, State.setCore_setCore]

/-- An entry, and the boundary behind it where nothing is due. -/
theorem State.enter_entered {pri : Option Nat} (hp : ∀ p, pri = some p → p < 64) (hg : x.gpr = (s.atIssue c).gpr)
    (hd : x.NothingDue) :
    s.entered (((s.setCore c x).enter c v cause addr epc pri).boundary c) c v epc cause addr (pri.getD (s.core c).pri) := by
  obtain ⟨q, n, he⟩ := State.enter_setCore hl hc hx h (pri := pri)
  rw [he, State.boundary_quiet]
  · exact State.entered_of_inVector hl hc hx hp hg
  · rw [State.tookFree_core, State.core_setCore_same _ _ _ (by rwa [State.framed_cores]) hc]
    exact .inr hd

end

/-! ### Exceptions that an instruction raises (R524, R531) -/

section
variable {k : Core} (h : s.issues k)
include h

/-- An issued instruction that raises an exception enters its vector, its own address the EPC. -/
theorem State.issue_trapTo {worst v sub n : Nat} {addr cause : Word} {body : CoreState → State → State}
    (hb : body (s.core k) (s.setCore k (s.atIssue k)) = (s.setCore k (s.atIssue k)).trapTo k v sub addr n)
    (hcause : causeWord false 0 sub v n = cause) (he : s.canEnter k v (s.core k).pc cause addr) :
    s.entered (s.issue k false worst body) k v (s.core k).pc cause addr (s.core k).pri := by
  rw [State.issue_eq s k k.isLt false worst body h nofun, hb, State.trapTo, hcause, State.core_atIssue h, State.atIssue_pc]
  exact State.enter_entered h.cores k.isLt State.atIssue_entersAs he (pri := none) nofun rfl h.nothingDue

/-- A jump to a target that is no multiple of 4 (R488). -/
theorem State.jump_entered {gd : Option Gpr} {ga : Gpr} {imm : BitVec 16} {t : Word} (ht : (s.core k).rd ga + imm.signExtend 32 = t)
    (hal : t.toNat % 4 ≠ 0) (he : s.canEnter k 3 (s.core k).pc (w32 (0x20000 + 3 * 256)) t) :
    s.entered (s.jump k gd ga imm) k 3 (s.core k).pc (w32 (0x20000 + 3 * 256)) t (s.core k).pri := by
  refine State.issue_trapTo h (v := 3) (sub := 2) (n := 0) ?_ rfl he
  dsimp only
  rw [sext_toNat (by decide), ht, if_pos hal]

theorem State.trapInstr_entered {n : BitVec 8} (he : s.canEnter k 8 (s.core k).pc (w32 (8 * 256 + n.toNat)) 0) :
    s.entered (s.trapInstr k n.toNat) k 8 (s.core k).pc (w32 (8 * 256 + n.toNat)) 0 (s.core k).pri :=
  State.issue_trapTo h (v := 8) (sub := 0) (n := n.toNat) rfl (by simp [causeWord, b2n]) he

theorem State.illegal_entered {w : Word} (hw : axDecode w = none) (he : s.canEnter k 0 (s.core k).pc 0 0) :
    s.entered (s.illegal k w) k 0 (s.core k).pc 0 0 (s.core k).pri := by
  unfold State.illegal
  rw [hw]
  exact State.issue_trapTo h (v := 0) (sub := 0) (n := 0) rfl rfl he

end

/-- A refused fetch at a calm boundary: its records, and the entry. -/
theorem State.issue_fetchFault {k : Core} {priv : Bool} {worst sub : Nat} {body : CoreState → State → State} (h : s.calm k)
    (hready : s.coreReady k = true) (hb : s.bkptHit k = false) (hdbg : bit (s.core k).dbgCtrl 1 = false) (hd : s.fetchDeny k = some sub) :
    s.issue k priv worst body = ((s.setCore k (s.atIssue k)).fetchFault k sub).boundary k := by
  obtain ⟨hl, -, -, -, -, -, hstep, -⟩ := h
  have hissue : ({ (s.core k).slotDone with wfe := false, stepping := false } : CoreState) = s.atIssue k := by
    rw [State.atIssue, CoreState.slotDone_fields, hstep]
  have hd' : (s.setCore k (s.atIssue k)).fetchDeny k = some sub := by
    rw [State.fetchDeny_setCore s k _ hl k.isLt s.atIssue_pc (congrArg (bit · 0) s.atIssue_xstatus) s.atIssue_aper, hd]
  unfold State.issue
  simp only [hready, hb, hstep, hdbg, Bool.and_false, Bool.or_false, not_true_eq_false, Bool.false_eq_true, false_and, if_false, hissue, hd']

theorem State.fetchRefused_entered {k : Core} (h : s.calm k) (hready : s.coreReady k = true) (hb : s.bkptHit k = false)
    (hdbg : bit (s.core k).dbgCtrl 1 = false) (hd : s.fetchDeny k = some 1)
    (he : s.canEnter k 2 (s.core k).pc (w32 (0x10000 + 2 * 256)) (s.core k).pc) :
    s.entered (s.fetchRefused k) k 2 (s.core k).pc (w32 (0x10000 + 2 * 256)) (s.core k).pc (s.core k).pri := by
  have hl := h.1
  have hcause : causeWord false 0 1 2 0 = w32 (0x10000 + 2 * 256) := rfl
  unfold State.fetchRefused
  rw [hd, Option.isSome_some, if_pos rfl, State.issue_fetchFault h hready hb hdbg hd, State.fetchFault, if_pos (by decide), State.trapTo, hcause,
    State.core_setCore_same s k _ hl k.isLt, State.atIssue_pc]
  exact State.enter_entered hl k.isLt State.atIssue_entersAs he (pri := none) nofun rfl h.nothingDue

end Sys2Proof.Machine

namespace Sys2Proof
open Machine

/-- Settles O16: branches and jumps retire at their targets; a jump to a target that is no multiple of 4 enters vector 3 instead. -/
theorem axControlFlow : Obligations.AxControlFlow := by
  refine ⟨fun s c ga gb imm h => ?_, fun s c gd ga imm off h =>
    ⟨⟨_, rfl, State.jal_flowed h⟩, fun hal => ⟨?_, ?_⟩, fun hal he => ⟨?_, ?_⟩⟩⟩
  · refine ⟨?_, ?_, ?_, ?_, ?_, ?_⟩ <;> exact ⟨_, rfl, State.branch_flowed h⟩
  · exact ⟨_, rfl, State.jr_flowed h add_sextImm hal⟩
  · exact ⟨_, rfl, State.jalr_flowed h add_sextImm hal⟩
  · exact ⟨s.jump c none ga imm, rfl, State.jump_entered h add_sextImm hal he⟩
  · exact ⟨s.jump c (some gd) ga imm, rfl, State.jump_entered h add_sextImm hal he⟩

/-- Settles O19: each raises its exception as it issues, and the fetch before anything issues. -/
theorem axSynchronousEntries : Obligations.AxSynchronousEntries := fun _ _ _ _ hcalm hready hb hdbg =>
  ⟨fun h he => ⟨_, rfl, State.trapInstr_entered h he⟩, fun h hw he => ⟨_, rfl, State.illegal_entered h hw he⟩,
   fun hd he => ⟨_, rfl, State.fetchRefused_entered hcalm hready hb hdbg hd he⟩⟩

end Sys2Proof

/-! SUPPORT. Interrupts, and the reports that enter a vector at a boundary (R524, R533 to R535, R543). -/

namespace Sys2Proof.Machine

variable {s t u : State} {c : Nat} {x y : CoreState}

/-! ### Levels (R871, R874) -/

/-- The best of what is asked for is asked for. -/
theorem mem_of_bestOf {l : List (Nat × Nat)} {p : Nat × Nat} (h : bestOf l = some p) : p ∈ l := by
  refine List.foldlRecOn (motive := fun b : Option (Nat × Nat) => ∀ p, b = some p → p ∈ l) l _ (by rintro p ⟨⟩) (fun b ih a ha p hp => ?_) p h
  cases b with
  | none => exact Option.some.inj hp ▸ ha
  | some y =>
    dsimp only at hp
    split at hp
    · exact Option.some.inj hp ▸ ha
    · exact ih p hp

theorem level_lt_of_bestOf {l : List Nat} {f : Nat → Word} {p : Nat × Nat} (h : bestOf (l.map fun n => (field (f n) 4 0, n)) = some p) :
    p.1 < 32 := by
  obtain ⟨n, -, rfl⟩ := List.mem_map.mp (mem_of_bestOf h)
  exact Nat.mod_lt _ (by decide)

/-- An interrupt has one of 32 levels. -/
theorem State.irqDue_lt {l : Nat} (h : s.irqDue c = some l) : l < 32 := by
  obtain ⟨hirq, -⟩ := Option.filter_eq_some_iff.mp h
  obtain ⟨p, hp, rfl⟩ := Option.map_eq_some_iff.mp hirq
  split at hp
  · exact level_lt_of_bestOf hp
  · exact level_lt_of_bestOf hp

/-! ### What a refusal's records leave as they are (R565, R607, R882) -/

theorem State.core_congr (h : t.cores = s.cores) : t.core c = s.core c := by
  rw [State.core, State.core, h]

/-- Events and the excursions that some are as well leave the cores. -/
theorem State.raise_cores {n stop data : Nat} (hn : n < 640) : (s.raise n stop data).cores = s.cores := by
  have honly : (s.raiseOnly n stop data).cores = s.cores := by
    obtain ⟨_, _, _, _, _, e⟩ := (State.EventsOnly.raiseOnly (s := s) (stop := stop) (data := data) hn).rest
    rw [e]
  have hexc {m : Nat} (hm : m < 8) : ((s.raiseOnly n stop data).excursion m).cores = s.cores := by
    obtain ⟨_, _, _, _, _, _, _, e⟩ := (State.ExcursionOnly.excursion hm (.refl (s := s.raiseOnly n stop data))).rest
    rw [e]
    exact honly
  unfold State.raise
  split
  · exact hexc (by decide)
  · split
    · exact hexc (by decide)
    · exact honly

theorem State.setRegs_cores {l : List (Nat × Nat)} : (s.setRegs l).cores = s.cores :=
  List.foldlRecOn (motive := fun t : State => t.cores = s.cores) l _ rfl fun _ h _ _ => h

theorem State.capture_cores {src : Nat} {e : ErrEntry} : (s.capture src e).cores = s.cores := by
  unfold State.capture
  extract_lets +onlyGivenNames _ put s₁ s₂ s₃ _ _ _ s₄
  have h₁ : s₁.cores = s.cores := by
    unfold s₁
    split
    · exact State.setRegs_cores
    · rfl
  have h₃ : s₃.cores = s.cores := State.setRegs_cores.trans h₁
  have h₄ : s₄.cores = s.cores := by
    unfold s₄
    split
    · exact h₃
    · split
      · exact h₃
      · exact (State.raise_cores (by decide)).trans h₃
  split
  · exact (State.raise_cores (by split <;> omega)).trans h₄
  · exact h₄

theorem State.errAt_cores {code : Nat} {who : Sender} {k : Kind} {a : Nat} : (s.errAt code who k a).cores = s.cores := State.capture_cores

theorem State.sluiceRefused_cores {n sub fa : Nat} {a : SluiceAccess} (hv : ∀ v, a.tile = some v → v < 64) :
    (s.sluiceRefused n a sub fa).cores = s.cores := by
  unfold State.sluiceRefused
  extract_lets s₀ s₁ s₂ s₃ s₄
  have h₁ : s₁.cores = s.cores := by
    unfold s₁
    split <;> rfl
  have h₂ : s₂.cores = s.cores := by
    unfold s₂
    split
    · rw [State.setReg_cores, State.setReg_cores, State.bump, State.setReg_cores]
    · rw [State.setReg_cores, State.setReg_cores, State.setReg_cores, h₁]
  have h₄ : s₄.cores = s.cores := by
    unfold s₄
    split
    · exact (State.raise_cores (by omega)).trans (State.errAt_cores.trans h₂)
    · exact State.errAt_cores.trans h₂
  clear_value s₄
  split
  next v htile =>
    have := hv v htile
    split
    · exact (State.raise_cores (by omega)).trans h₄
    · exact h₄
  next => exact h₄

/-- The addresses of vats are those of 64. -/
theorem lt_of_targetOf_vat {a v off : Nat} (h : targetOf a = .vat v off) : v < 64 := by
  unfold targetOf at h
  split_ifs at h
  obtain ⟨rfl, -⟩ := Target.vat.inj h
  omega

/-- A local table is a vat's. -/
theorem tile_lt_of_sluiceView {who : Sender} {k : Kind} {a n v : Nat} {z : SluiceAccess} (h : sluiceView who k a = some (n, z))
    (hv : z.tile = some v) : v < 64 := by
  unfold sluiceView at h
  split at h
  next =>
    dsimp only at h
    split at h
    case h_6 w off ht =>
      have hw : w < 64 := lt_of_targetOf_vat ht
      split at h
      · obtain ⟨-, rfl⟩ := Prod.mk.inj (Option.some.inj h)
        exact Option.some.inj hv ▸ hw
      · cases h
    case h_7 => cases h
    all_goals
      obtain ⟨-, rfl⟩ := Prod.mk.inj (Option.some.inj h)
      cases hv
  next => cases h

theorem State.busDenied_cores {who : Sender} {k : Kind} {a : Nat} {d : Deny} : (s.busDenied who k a d).cores = s.cores := by
  unfold State.busDenied
  split
  · split
    next n y hview =>
      have h : (s.sluiceRefused n y d.2 a).cores = s.cores := State.sluiceRefused_cores fun _ => tile_lt_of_sluiceView hview
      split
      · exact h
      · exact h
    next => rfl
  · exact State.errAt_cores

/-! ### The core behind an entry (R530) -/

/-- A core with no load before its slot instruction issues with the registers that it has. -/
theorem State.atIssue_gpr (h : (s.core c).slot = none) : (s.atIssue c).gpr = (s.core c).gpr := by
  unfold State.atIssue CoreState.slotDone
  rw [h]

theorem CoreState.EntersAs.refl : x.EntersAs x := ⟨rfl, rfl, rfl, rfl, rfl, rfl, rfl⟩

/-- What an entry from `x` leaves in the core beside what `State.entered` names. -/
structure CoreState.HandlerOf (y x : CoreState) : Prop where
  slot : y.slot = none
  load : y.load = none
  wfe : y.wfe = false
  sb : y.sb = x.sb
  aper : y.aper = x.aper
  xbudget : y.xbudget = x.xbudget
  nothingDue : x.NothingDue → y.NothingDue

section
variable {v : Nat} {epc cause addr : Word} {pri : Option Nat} (hl : s.cores.length = 66) (hc : c < 66) (hx : x.EntersAs (s.core c))
  (h : s.canEnter c v epc cause addr)
include hl hc hx h

theorem State.enter_handlerOf : (((s.setCore c x).enter c v cause addr epc pri).core c).HandlerOf x := by
  obtain ⟨q, n, he⟩ := State.enter_setCore hl hc hx h (pri := pri)
  rw [he, State.tookFree_core, State.core_setCore_same _ _ _ (by rwa [State.framed_cores]) hc]
  exact ⟨rfl, rfl, rfl, rfl, rfl, rfl, id⟩

theorem State.boundary_enter (hd : x.NothingDue) :
    ((s.setCore c x).enter c v cause addr epc pri).boundary c = (s.setCore c x).enter c v cause addr epc pri :=
  State.boundary_quiet (.inr ((State.enter_handlerOf hl hc hx h).nothingDue hd))

/-- The entry, where the boundary that led to it is not passed again. -/
theorem State.entered_enter (hp : ∀ p, pri = some p → p < 64) (hg : x.gpr = (s.atIssue c).gpr) (hd : x.NothingDue) :
    s.entered ((s.setCore c x).enter c v cause addr epc pri) c v epc cause addr (pri.getD (s.core c).pri) := by
  rw [← State.boundary_enter hl hc hx h hd]
  exact State.enter_entered hl hc hx h hp hg hd

end

/-! ### Reports at a boundary (R534, R535, R543) -/

theorem CoreState.atBoundary_iff : x.atBoundary = true ↔ x.slot = none ∧ x.load = none ∧ x.wait = none := by
  simp only [CoreState.atBoundary, Bool.and_eq_true, Option.isNone_iff_eq_none, and_assoc]

/-- The core runs and stands at an instruction boundary. -/
structure CoreState.Stands (x : CoreState) : Prop where
  boundary : x.atBoundary = true
  locked : x.locked = false
  inReset : x.inReset = false
  halted : x.halted = false

theorem State.calm.stands (h : s.calm c) (hslot : (s.core c).slot = none) (hload : (s.core c).load = none) (hwait : (s.core c).wait = none)
    (hhalt : (s.core c).halted = false) : (s.core c).Stands := by
  obtain ⟨-, -, hreset, hlock, -⟩ := h
  exact ⟨CoreState.atBoundary_iff.mpr ⟨hslot, hload, hwait⟩, hlock, hreset, hhalt⟩

section
variable (hl : s.cores.length = 66) (hc : c < 66) (hx : x.Stands)
include hl hc hx

/-- A refused store is reported, where nothing else is due behind the entry. -/
theorem State.boundary_report {v sub lost : Nat} {addr : Word} (hr : x.report = some ⟨v, sub, addr, lost⟩) (hy : { x with report := none } = y)
    (hd : (((s.setCore c y).enter c v (causeWord true lost sub v 0) addr x.pc).core c).NothingDue) :
    (s.setCore c x).boundary c = (s.setCore c y).enter c v (causeWord true lost sub v 0) addr x.pc := by
  obtain ⟨hb, hlock, hreset, hhalt⟩ := hx
  obtain ⟨-, hbud, hstep, hreq⟩ := hd
  unfold State.boundary
  dsimp only
  rw [State.core_setCore_same s c x hl hc, if_neg (by simp [hb, hlock, hreset, hhalt]), hr]
  simp only [State.setCore_setCore, hy, hbud, hstep, hreq, Bool.false_eq_true, false_and, if_false, ite_self]

/-- The end of the budget enters vector 11, where nothing else is due behind the entry. -/
theorem State.boundary_budget (hr : x.report = none) (hbud : x.budgetDue = true) (hy : { x with budgetDue := false } = y)
    (hd : (((s.setCore c y).enter c 11 (causeWord false 0 0 11 0) 0 x.pc).core c).NothingDue) :
    (s.setCore c x).boundary c = (s.setCore c y).enter c 11 (causeWord false 0 0 11 0) 0 x.pc := by
  obtain ⟨hb, hlock, hreset, hhalt⟩ := hx
  obtain ⟨-, -, hstep, hreq⟩ := hd
  unfold State.boundary
  dsimp only
  rw [State.core_setCore_same s c x hl hc, if_neg (by simp [hb, hlock, hreset, hhalt]), hr]
  dsimp only
  rw [State.core_setCore_same s c x hl hc, if_pos (c := x.budgetDue = true ∧ ¬ x.locked = true) ⟨hbud, by simp [hlock]⟩,
    State.setCore_setCore, hy]
  simp only [hstep, hreq, Bool.false_eq_true, if_false, ite_self]

end

/-! ### Interrupts (R533) -/

theorem State.interruptEntry_entered {k : Core} {l : Nat} (h : s.calm k) (hready : s.coreReady k = true)
    (hb : (s.core k).atBoundary = true) (hie : (s.core k).ie = true) (hbkpt : s.bkptHit k = false) (hirq : s.irqDue k = some l)
    (he : s.canEnter k (32 + l) (s.core k).pc (w32 ((32 + l) * 256)) 0) :
    s.entered (s.interruptEntry k) k (32 + l) (s.core k).pc (w32 ((32 + l) * 256)) 0 (l + 1) := by
  obtain ⟨hslot, -⟩ := CoreState.atBoundary_iff.mp hb
  have hcause : causeWord false 0 0 (32 + l) 0 = w32 ((32 + l) * 256) := by simp [causeWord, b2n]
  have hlevel : ∀ p, some (l + 1) = some p → p < 64 := by
    rintro p ⟨⟩
    have := State.irqDue_lt hirq
    omega
  obtain ⟨hl, -, -, -, hdue⟩ := h
  unfold State.interruptEntry
  dsimp only
  rw [if_neg (by simp [hready, hb, hie, hbkpt]), hirq]
  dsimp only
  rw [hcause]
  have hent := State.enter_entered hl k.isLt .refl he hlevel (State.atIssue_gpr hslot).symm hdue
  rwa [State.setCore_core] at hent

/-! ### Felt timeouts, the end of the budget and refused stores (R524, R535, R543) -/

/-- Behind the records of a refused store, one core written twice is written the second time. -/
theorem State.busDenied_updCore {who : Sender} {kind : Kind} {a : Nat} {d : Deny} {f g : CoreState → CoreState}
    (hu : (s.busDenied who kind a d).updCore c f = u) : (s.busDenied who kind a d).updCore c g = u.setCore c (g (s.core c)) := by
  rw [← hu, State.updCore, State.updCore, State.setCore_setCore, State.core_congr State.busDenied_cores]

section
variable {k : Core} (h : s.calm k)
include h

theorem State.feltTimeout_entered {o : OutLoad} (hslot : (s.core k).slot = none) (ho : (s.core k).load = some o)
    (hu : s.errAt errTimeout (coreSender k o.priv) .load o.fab = u)
    (he : u.canEnter k 9 (s.core k).pc (w32 (9 * 256)) o.addr) :
    u.entered (s.feltTimeout k o.addr) k 9 (s.core k).pc (w32 (9 * 256)) o.addr (s.core k).pri ∧
      ((s.feltTimeout k o.addr).core k).load = none := by
  have hcores : u.cores = s.cores := hu ▸ State.errAt_cores
  have hcore : u.core k = s.core k := State.core_congr hcores
  obtain ⟨hl, hrun, hreset, hlock, hdue⟩ := h
  have hlu : u.cores.length = 66 := hcores ▸ hl
  have hx : ({ s.core k with load := none } : CoreState).EntersAs (u.core k) := hcore ▸ ⟨rfl, rfl, rfl, rfl, rfl, rfl, rfl⟩
  have hhand := State.enter_handlerOf (pri := none) hlu k.isLt hx he
  have hrun : s.feltTimeout k o.addr =
      (u.setCore k { s.core k with load := none }).enter k 9 (w32 (9 * 256)) o.addr (s.core k).pc := by
    unfold State.feltTimeout
    dsimp only
    rw [if_neg (by simp [hrun, hreset]), ho]
    dsimp only
    rw [if_pos ⟨rfl, by simp [hlock]⟩, hu, State.updCore, hcore, State.denied, State.trapTo, State.core_setCore_same _ _ _ hlu k.isLt]
    exact State.boundary_enter hlu k.isLt hx he hdue
  rw [hrun]
  have hgpr : (s.core k).gpr = (u.atIssue k).gpr := by rw [State.atIssue_gpr (hcore ▸ hslot), hcore]
  have hent := State.entered_enter hlu k.isLt hx he (pri := none) nofun hgpr hdue
  rw [hcore] at hent
  exact ⟨hent, hhand.load⟩

theorem State.budgetExpiry_entered (hs : (s.core k).Stands) (hpriv : (s.core k).priv = false) (hbud : (s.core k).xbudget ≠ 0)
    (he : s.canEnter k 11 (s.core k).pc (w32 (11 * 256)) 0) :
    s.entered (s.budgetExpiry k) k 11 (s.core k).pc (w32 (11 * 256)) 0 (s.core k).pri ∧ ((s.budgetExpiry k).core k).xbudget = 0 := by
  obtain ⟨hslot, -⟩ := CoreState.atBoundary_iff.mp hs.boundary
  obtain ⟨hl, hrun, hreset, hlock, hrep, hdue, hstep, hreq⟩ := h
  have hx : ({ s.core k with xbudget := 0, budgetDue := false } : CoreState).EntersAs (s.core k) := ⟨rfl, rfl, rfl, rfl, rfl, rfl, rfl⟩
  have hd : ({ s.core k with xbudget := 0, budgetDue := false } : CoreState).NothingDue := ⟨hrep, rfl, hstep, hreq⟩
  have hhand := State.enter_handlerOf (pri := none) hl k.isLt hx he
  have hrun : s.budgetExpiry k =
      (s.setCore k { s.core k with xbudget := 0, budgetDue := false }).enter k 11 (w32 (11 * 256)) 0 (s.core k).pc := by
    unfold State.budgetExpiry
    dsimp only
    rw [if_neg (by simpa [hrun, hreset, hlock, hs.halted, hpriv] using hbud)]
    exact State.boundary_budget hl k.isLt ⟨hs.boundary, hlock, hreset, hs.halted⟩ hrep rfl rfl (hhand.nothingDue hd)
  rw [hrun]
  exact ⟨State.entered_enter hl k.isLt hx he (pri := none) nofun (State.atIssue_gpr hslot).symm hd, hhand.xbudget⟩

section
variable {e : StoreEntry} {es : List StoreEntry} {v sub : Nat} (hs : (s.core k).Stands) (hsb : (s.core k).sb = e :: es)
  (hcheck : s.storeCheck k e = some (v, sub))
  (hu : (s.busDenied (coreSender k e.priv) .store e.fab (v, sub)).updCore k (fun y => { y with sb := [] }) = u)

include hu in
theorem State.refused_core : u.cores.length = 66 ∧ u.core k = { s.core k with sb := [] } := by
  obtain ⟨hl, -⟩ := h
  rw [← hu, State.updCore, State.core_congr State.busDenied_cores, State.setCore_cores, List.length_set, State.busDenied_cores]
  exact ⟨hl, State.core_setCore_same _ _ _ (by rwa [State.busDenied_cores]) k.isLt⟩

include hs hsb hcheck hu

/-- The report finds its boundary at once. -/
theorem State.refusedStore_eq
    (hd : (((u.setCore k { s.core k with sb := [] }).enter k v (causeWord true es.length sub v 0) e.addr (s.core k).pc).core k).NothingDue) :
    s.refusedStore k = (u.setCore k { s.core k with sb := [] }).enter k v (causeWord true es.length sub v 0) e.addr (s.core k).pc := by
  obtain ⟨hlu, -⟩ := State.refused_core h hu
  obtain ⟨-, hrun, hreset, hlock, hrep, -⟩ := h
  obtain ⟨-, -, hwait⟩ := CoreState.atBoundary_iff.mp hs.boundary
  have hstands : ({ s.core k with report := some ⟨v, sub, e.addr, es.length⟩, sb := [] } : CoreState).Stands :=
    ⟨hs.boundary, hlock, hreset, hs.halted⟩
  unfold State.refusedStore State.storeLost
  dsimp only
  rw [if_neg (by simp [hrun, hreset]), hsb]
  dsimp only
  rw [hcheck]
  dsimp only
  rw [State.busDenied_updCore hu, hsb, State.waitGo_none (by rw [State.core_setCore_same _ _ _ hlu k.isLt]; exact hwait)]
  exact State.boundary_report hlu k.isLt hstands rfl (by rw [← hrep]) hd

theorem State.refusedStore_entered
    (he : u.canEnter k v (s.core k).pc (w32 (2 ^ 31 + es.length % 8 * 2 ^ 28 + sub * 65536 + v * 256)) e.addr) :
    u.entered (s.refusedStore k) k v (s.core k).pc (w32 (2 ^ 31 + es.length % 8 * 2 ^ 28 + sub * 65536 + v * 256)) e.addr (s.core k).pri ∧
      ((s.refusedStore k).core k).sb = [] := by
  have hcause : causeWord true es.length sub v 0 = w32 (2 ^ 31 + es.length % 8 * 2 ^ 28 + sub * 65536 + v * 256) := by simp [causeWord, b2n]
  rw [← hcause] at he ⊢
  obtain ⟨hlu, hcu⟩ := State.refused_core h hu
  obtain ⟨hslot, -⟩ := CoreState.atBoundary_iff.mp hs.boundary
  obtain ⟨-, -, -, -, hd⟩ := id h
  have hx : ({ s.core k with sb := [] } : CoreState).EntersAs (u.core k) := hcu ▸ .refl
  have hhand := State.enter_handlerOf (pri := none) hlu k.isLt hx he
  rw [State.refusedStore_eq h hs hsb hcheck hu (hhand.nothingDue hd)]
  have hgpr : (s.core k).gpr = (u.atIssue k).gpr := by rw [State.atIssue_gpr (by rw [hcu]; exact hslot), hcu]
  have hent := State.entered_enter hlu k.isLt hx he (pri := none) nofun hgpr hd
  rw [hcu] at hent
  exact ⟨hent, hhand.sb⟩

end

end

end Sys2Proof.Machine

namespace Sys2Proof
open Machine

/-- Settles O20: each cause enters its vector at the boundary, and nothing else is due behind the entry. -/
theorem axInterruptsAndReports : Obligations.AxInterruptsAndReports := by
  refine ⟨fun s c l h hready hb hie hbkpt hirq he => ⟨_, rfl, State.interruptEntry_entered h hready hb hie hbkpt hirq he⟩,
    fun s c h hslot hwait hhalt => ⟨fun o ho _ he => ⟨_, rfl, State.feltTimeout_entered h hslot ho rfl he⟩, fun hload hpriv hbud he => ?_,
      fun _ _ _ _ hload hsb hcheck _ _ he => ?_⟩⟩
  · exact ⟨_, rfl, State.budgetExpiry_entered h (h.stands hslot hload hwait hhalt) hpriv hbud he⟩
  · exact ⟨_, rfl, State.refusedStore_entered h (h.stands hslot hload hwait hhalt) hsb hcheck rfl he⟩

end Sys2Proof

/-! SUPPORT. XRET from a handler whose frame is as the entry made it (R531, R532). -/

namespace Sys2Proof.Machine

variable {s t : State} {c : Nat} {x y : CoreState}

/-! ### Words of a frame (R531) -/

theorem leNat_leBytes {k n : Nat} : leNat (leBytes k n) = n % 256 ^ k := by
  induction k generalizing n with
  | zero => exact (Nat.mod_one n).symm
  | succ k ih =>
    rw [leBytes, leNat, ih, Nat.pow_succ', Nat.mod_mul, BitVec.toNat_ofNat]

theorem w32_leNat_leBytes {w : Word} : w32 (leNat (leBytes 4 w.toNat)) = w := by
  rw [leNat_leBytes, Nat.mod_eq_of_lt (show w.toNat < 256 ^ 4 from w.isLt), w32, BitVec.ofNat_toNat, BitVec.setWidth_eq]

@[simp] theorem State.length_read {a n : Nat} : (s.read a n).length = n := by
  induction n generalizing a with
  | zero => rfl
  | succ n ih => rw [State.read, List.length_cons, ih]

theorem State.read_add {a m n : Nat} : s.read a (m + n) = s.read a m ++ s.read (a + m) n := by
  induction m generalizing a with
  | zero => rw [Nat.zero_add]; rfl
  | succ m ih => rw [Nat.succ_add, State.read, State.read, ih, List.cons_append, Nat.add_assoc, Nat.add_comm 1]

/-- The first two words of a frame are the EPC and the status. -/
theorem State.words_of_frame {a : Nat} {epc status cause addr : Word} (h : s.read a 16 = frameBytes epc status cause addr) :
    w32 (leNat (s.read a 4)) = epc ∧ w32 (leNat (s.read (a + 4) 4)) = status := by
  rw [State.read_add (m := 4) (n := 12), State.read_add (m := 4) (n := 8), frameBytes, List.append_assoc, List.append_assoc] at h
  obtain ⟨hepc, hrest⟩ := List.append_inj h (by simp)
  obtain ⟨hstatus, -⟩ := List.append_inj hrest (by simp)
  rw [hepc, hstatus]
  exact ⟨w32_leNat_leBytes, w32_leNat_leBytes⟩

/-! ### Return (R532) -/

/-- Core `x` behind an XRET that keeps it privileged. -/
def CoreState.returned (x : CoreState) (epc status : Word) : CoreState :=
  { x with
    pc := epc, xstatus := status, xsp := x.xsp + 16, xdepth := w32 (x.xdepth.toNat - 1), predictor := List.replicate 256 0, returns := [] }

/-- Core `c` stands in a handler, its stores performed, with the frame of its entry at XSP and the words of the frame to be read. -/
structure State.ReturnsTo (s : State) (c : Nat) (epc status : Word) : Prop where
  sb : (s.core c).sb = []
  frameAt : s.frameAt c (s.core c).xsp = true
  fits : (s.core c).xsp.toNat + 16 ≤ 2 ^ 32
  epcMay : s.stackMay c .load (s.core c).xsp
  statusMay : s.stackMay c .load ((s.core c).xsp + 4)
  frame : ∃ cause addr, s.read (s.fabOf c (s.core c).xsp) 16 = frameBytes epc status cause addr
  priv : bit (restoredStatus c status) 0 = true

theorem State.xret_of_returnsTo {epc status : Word} (h : s.ReturnsTo c epc status) :
    s.xret c = s.setCore c ((s.core c).returned epc (restoredStatus c status)) := by
  obtain ⟨hsb, hf, hfits, h₀, h₁, ⟨_, _, hframe⟩, hp⟩ := h
  obtain ⟨hepc, hstatus⟩ := State.words_of_frame hframe
  have h₄ : s.fabOf c ((s.core c).xsp + 4) = s.fabOf c (s.core c).xsp + 4 := State.fabOf_frame (i := 4) hf hfits (by decide)
  unfold State.xret
  dsimp only
  rw [if_neg (not_not.mpr hf), hsb, State.flushStack, State.coreLoad_stack h₀]
  dsimp only
  rw [State.coreLoad_stack h₁, h₄, hepc, hstatus]
  dsimp only
  rw [State.updCore, if_pos hp]
  rfl

/-- The core as it issues, where no load completes and WFE has not stopped it. -/
theorem State.atIssue_eq_core (hslot : (s.core c).slot = none) (hwfe : (s.core c).wfe = false) : s.atIssue c = s.core c := by
  unfold State.atIssue CoreState.slotDone
  rw [hslot]
  dsimp only
  rw [← hwfe]

/-- XRET goes back to what the frame names. -/
theorem State.xretInstr_eq {k : Core} {epc status : Word} (h : s.issues k) (hpriv : (s.core k).priv = true) (hself : s.atIssue k = s.core k)
    (hret : s.ReturnsTo k epc status) :
    s.xretInstr k = s.setCore k { (s.core k).returned epc (restoredStatus k status) with retired := (s.core k).retired + 1 } := by
  have hlock : ((s.core k).returned epc (restoredStatus k status)).locked = false :=
    let ⟨⟨_, _, _, hlock, _⟩, _⟩ := h
    hlock
  refine State.issue_setCore h (fun _ => hpriv) ?_ (.inr (hself ▸ h.nothingDue))
  rw [hself, State.setCore_core, State.xret_of_returnsTo hret, State.updCore_setCore h.cores k.isLt,
    if_neg (Bool.eq_false_iff.mp hlock)]
  rfl

/-! ### From a TRAP to its return (R530, R532) -/

theorem State.route_congr {addr : Word} (h : (t.core c).aper = (s.core c).aper) : t.route c addr = s.route c addr := by
  unfold State.route
  rw [h]

theorem State.frameAt_congr {addr : Word} (h : (t.core c).aper = (s.core c).aper) : t.frameAt c addr = s.frameAt c addr := by
  unfold State.frameAt
  rw [State.route_congr h]

theorem State.fabOf_congr {addr : Word} (h : (t.core c).aper = (s.core c).aper) : t.fabOf c addr = s.fabOf c addr := by
  unfold State.fabOf
  rw [State.route_congr h]

theorem State.trapInstr_handlerOf {k : Core} {n : BitVec 8} (h : s.issues k)
    (he : s.canEnter k 8 (s.core k).pc (w32 (8 * 256 + n.toNat)) 0) : ((s.trapInstr k n.toNat).core k).HandlerOf (s.atIssue k) := by
  have hcause : causeWord false 0 0 8 n.toNat = w32 (8 * 256 + n.toNat) := by simp [causeWord, b2n]
  have hx := State.atIssue_entersAs (s := s) (c := k)
  have hrun : s.trapInstr k n.toNat =
      ((s.setCore k (s.atIssue k)).enter k 8 (w32 (8 * 256 + n.toNat)) 0 (s.core k).pc).boundary k := by
    rw [State.trapInstr, State.issue_eq s k k.isLt false 6 _ h nofun, State.trapTo, hcause, State.core_atIssue h, State.atIssue_pc]
  rw [hrun, State.boundary_enter h.cores k.isLt hx he h.nothingDue]
  exact State.enter_handlerOf h.cores k.isLt hx he

/-- XDEPTH falls back to what it was before the entry. -/
theorem xdepth_return {d : Word} (h : d.toNat < 255) : w32 ((w32 (min 255 (d.toNat + 1))).toNat - 1) = d := by
  have hmin : min 255 (d.toNat + 1) = d.toNat + 1 := Nat.min_eq_right h
  rw [hmin, BitVec.toNat_ofNat, Nat.mod_eq_of_lt (by omega), Nat.add_sub_cancel, w32, BitVec.ofNat_toNat, BitVec.setWidth_eq]

end Sys2Proof.Machine

namespace Sys2Proof
open Machine

/-- Settles O21: the handler's frame holds the EPC and the status, and XRET takes them and undoes the entry's steps. -/
theorem axTrapThenReturn : Obligations.AxTrapThenReturn := by
  intro s t c n h he hpriv hstatus hdepth ht htissues h₀ h₁
  obtain rfl : s.trapInstr c n.toNat = t := Host.Outcome.next.inj ht
  have hhand := State.trapInstr_handlerOf h he
  obtain ⟨hxsp, -, -, -, htpriv, -, -, hgpr, htdepth, -, hframe, -, hregs, -, -⟩ := State.trapInstr_entered h he
  obtain ⟨hsb, h16, -, -, -, hf, -⟩ := he
  generalize s.trapInstr c n.toNat = t at *
  have haper : (t.core c).aper = (s.core c).aper := hhand.aper.trans s.atIssue_aper
  have hret : t.ReturnsTo c (s.core c).pc (s.core c).xstatus :=
    { sb := hhand.sb.trans (s.atIssue_sb.trans hsb)
      frameAt := by rwa [State.frameAt_congr haper, hxsp]
      fits := by
        have := (s.core c).xsp.isLt
        rw [hxsp]
        bv_omega
      epcMay := h₀
      statusMay := h₁
      frame := by
        rw [State.fabOf_congr haper, hxsp]
        exact ⟨_, _, hframe⟩
      priv := hstatus ▸ hpriv }
  refine ⟨_, congrArg Host.Outcome.next (State.xretInstr_eq htissues htpriv (State.atIssue_eq_core hhand.slot hhand.wfe) hret), ?_⟩
  dsimp only
  rw [State.core_setCore_same _ _ _ htissues.cores c.isLt]
  refine ⟨rfl, hstatus.symm, ?_, ?_, hgpr, rfl, hregs⟩
  · exact (congrArg (· + 16) hxsp).trans (BitVec.sub_add_cancel _ _)
  · exact (congrArg (fun d : Word => w32 (d.toNat - 1)) htdepth).trans (xdepth_return hdepth)

end Sys2Proof

/-! SUPPORT. Arrivals of events and entries of error capture: what each writes, and what it leaves (R870 to R889). -/

namespace Sys2Proof.Machine

variable {s t : State}

/-! ### Arrivals -/

theorem State.pendEvent_of_pending {n : Nat} (h : s.regBit (R.EVT_PEND (n / 32)) (n % 32) = true) : s.pendEvent n = s.bump (R.EVT_WEIR n) :=
  if_pos h

theorem State.pendEvent_of_clear {n : Nat} (h : s.regBit (R.EVT_PEND (n / 32)) (n % 32) = false) :
    s.pendEvent n = s.setRegBit (R.EVT_PEND (n / 32)) (n % 32) true := if_neg (by simp [h])

theorem weir_ne_pend {n m : Nat} (hm : m < 640) : R.EVT_WEIR n ≠ R.EVT_PEND (m / 32) := by
  simp only [R.EVT_WEIR, R.EVT_PEND]
  omega

/-- An arrival writes its event's word of pending bits and its weir, and no other register. -/
theorem State.pendEvent_reg_other {n k : Nat} (hp : k ≠ R.EVT_PEND (n / 32)) (hw : k ≠ R.EVT_WEIR n) : (s.pendEvent n).reg k = s.reg k := by
  unfold State.pendEvent
  split
  · exact s.reg_setReg_other _ hw
  · exact s.reg_setReg_other _ hp

theorem State.pendEvent_onlyRegs {n : Nat} : s.onlyRegs (s.pendEvent n) [R.EVT_PEND (n / 32), R.EVT_WEIR n] := by
  have h {c : Prop} {_ : Decidable c} {k j : Nat} {v w : Word} : (if c then s.setReg k v else s.setReg j w).mem = s.mem ∧
      (if c then s.setReg k v else s.setReg j w).cores = s.cores := by split <;> exact ⟨rfl, rfl⟩
  refine ⟨h.1, h.2, fun j hj => ?_⟩
  simp only [List.mem_cons, List.not_mem_nil, or_false, not_or] at hj
  exact State.pendEvent_reg_other hj.1 hj.2

/-- The weir counts an arrival of an event that is pending already (R875). -/
theorem State.pendEvent_reg_weir {n : Nat} (hn : n < 640) : (s.pendEvent n).reg (R.EVT_WEIR n) =
    if s.regBit (R.EVT_PEND (n / 32)) (n % 32) then satInc (s.reg (R.EVT_WEIR n)) else s.reg (R.EVT_WEIR n) := by
  split
  next h => rw [State.pendEvent_of_pending h, State.bump, State.reg_setReg_same]
  next h => rw [State.pendEvent_of_clear (by simpa using h), State.setRegBit, State.reg_setReg_other _ _ (weir_ne_pend hn)]

/-- No other event's pending bit changes. -/
theorem State.pendEvent_regBit_other {n i : Nat} (hn : n < 640) (hi : i ≠ n % 32) :
    (s.pendEvent n).regBit (R.EVT_PEND (n / 32)) i = s.regBit (R.EVT_PEND (n / 32)) i := by
  unfold State.pendEvent
  split
  · exact State.regBit_eq_of_reg (s.reg_setReg_other _ (weir_ne_pend hn).symm)
  · rw [State.regBit_setRegBit (by omega), if_neg hi]

/-! ### The weir of an event that is raised -/

theorem State.journalEvent_reg_weir {n m stop data : Nat} (hm : m < 640) :
    (s.journalEvent m stop data).reg (R.EVT_WEIR n) = s.reg (R.EVT_WEIR n) := by
  have h₁ : R.EVT_WEIR n ≠ R.EVT_JHELD (m / 32) := by
    simp only [R.EVT_WEIR, R.EVT_JHELD]
    omega
  have h₂ : R.EVT_WEIR n ≠ R.JOURNAL_EVFIFO := by
    simp only [R.EVT_WEIR, R.JOURNAL_EVFIFO]
    omega
  unfold State.journalEvent
  split
  · split
    · exact State.reg_setReg_other _ _ h₁
    · exact State.reg_setReg_other _ _ h₂
  · rfl

theorem State.pendEvent_reg_weir_other {n m : Nat} (hm : m < 640) (hne : n ≠ m) : (s.pendEvent m).reg (R.EVT_WEIR n) = s.reg (R.EVT_WEIR n) :=
  State.pendEvent_reg_other (weir_ne_pend hm) (by simp only [R.EVT_WEIR]; omega)

theorem State.arrive_reg_weir {n m stop data : Nat} (hm : m < 640) (hne : n ≠ 261) :
    (s.arrive m stop data).reg (R.EVT_WEIR n) = (s.pendEvent m).reg (R.EVT_WEIR n) := by
  unfold State.arrive
  dsimp only
  split
  · rw [State.journalEvent_reg_weir (by decide), State.pendEvent_reg_weir_other (by decide) hne, State.journalEvent_reg_weir hm]
  · exact State.journalEvent_reg_weir hm

theorem State.traceEntry_reg_weir {n m stop data : Nat} : (s.traceEntry m stop data).1.reg (R.EVT_WEIR n) = s.reg (R.EVT_WEIR n) := by
  have h₁ : R.EVT_WEIR n ≠ R.EVT_TRACE_LOST := by
    simp only [R.EVT_WEIR, R.EVT_TRACE_LOST]
    omega
  have h₂ : R.EVT_WEIR n ≠ R.EVT_TRACE_WR := by
    simp only [R.EVT_WEIR, R.EVT_TRACE_WR]
    omega
  unfold State.traceEntry
  dsimp only
  split
  · rfl
  · split
    · exact State.reg_setReg_other _ _ h₁
    · rw [State.reg_setReg_other _ _ h₂, State.write_reg]
      rfl

/-- Beyond its own arrival, an event that is raised leaves its weir: what follows are events 261 and 487. -/
theorem State.raise_reg_weir {n stop data : Nat} (hn : n < 640) (hx : n ∉ [318, 263, 269]) (h₁ : n ≠ 261) (h₂ : n ≠ 487) :
    (s.raise n stop data).reg (R.EVT_WEIR n) =
      if s.regBit (R.EVT_PEND (n / 32)) (n % 32) then satInc (s.reg (R.EVT_WEIR n)) else s.reg (R.EVT_WEIR n) := by
  rw [State.raise_eq_raiseOnly hx, ← State.pendEvent_reg_weir hn, ← State.arrive_reg_weir (stop := stop) (data := data) hn h₁]
  unfold State.raiseOnly
  dsimp only
  split
  · split
    · rw [State.arrive_reg_weir (by decide) h₁, State.pendEvent_reg_weir_other (by decide) h₂, State.traceEntry_reg_weir]
    · exact State.traceEntry_reg_weir
  · rfl

/-! ### Error capture -/

theorem State.EventsOnly.errQ (h : s.EventsOnly t) : t.ev.errQ = s.ev.errQ := by
  obtain ⟨_, _, _, _, _, rfl⟩ := h.rest
  rfl

/-- The four words of an entry put at `k`. -/
def State.putErrEntry (s : State) (e : ErrEntry) (k : Nat) : State := s.setRegs (e.words.zipIdx.map fun p => (k + 4 * p.2, p.1))

theorem State.putErrEntry_reg_word {e : ErrEntry} {k : Nat} (w : Fin 4) : (s.putErrEntry e k).reg (k + 4 * w.val) = w32 (e.words.getD w.val 0) := by
  have hw : w = 0 ∨ w = 1 ∨ w = 2 ∨ w = 3 := by omega
  rw [State.putErrEntry, State.putEntry_reg]
  obtain rfl | rfl | rfl | rfl := hw <;> simp [ErrEntry.words]

theorem State.putErrEntry_reg_other {e : ErrEntry} {k j : Nat} (h : j < k ∨ k + 12 < j) : (s.putErrEntry e k).reg j = s.reg j := by
  rw [State.putErrEntry, State.putEntry_reg, if_neg (by omega), if_neg (by omega), if_neg (by omega), if_neg (by omega)]

@[simp] theorem State.setRegs_ev {l : List (Nat × Nat)} : (s.setRegs l).ev = s.ev :=
  List.foldlRecOn l _ (motive := fun u : State => u.ev = s.ev) rfl fun _ hu _ _ => hu

/-- First entry, last entry and count of a source, with entry `e` recorded. -/
def State.recorded (s : State) (src : Nat) (e : ErrEntry) : State :=
  ((if s.reg (R.ERRC_COUNT src) = 0 then s.putErrEntry e (R.ERRC_FIRST src 0) else s).putErrEntry e (R.ERRC_LAST src 0)).bump (R.ERRC_COUNT src)

/-- Entry `e` in the shared queue, or counted as lost. -/
def State.errQueued (s : State) (src : Nat) (e : ErrEntry) : State :=
  if s.ev.errQ.length < 64 then { s with ev := { s.ev with errQ := s.ev.errQ ++ [(src, e.forQueue src)] } }
  else if s.regBit R.ERRC_Q_FLAGS 0 then (s.setRegBit R.ERRC_Q_FLAGS 0 true).bump R.ERRC_Q_LOST
  else ((s.setRegBit R.ERRC_Q_FLAGS 0 true).bump R.ERRC_Q_LOST).raise 490

/-- The event of an error source (R887). -/
def errEvent (src : Nat) : Nat := if src < 0x26 then 448 + src else 486

theorem State.capture_eq {src : Nat} {e : ErrEntry} : s.capture src e =
    if s.reg (R.ERRC_COUNT src) = 0 then ((s.recorded src e).errQueued src e).raise (errEvent src) else (s.recorded src e).errQueued src e := by
  unfold State.capture State.recorded State.errQueued errEvent State.putErrEntry
  rfl

theorem errEvent_lt {src : Nat} : errEvent src < 640 := by
  unfold errEvent
  split <;> omega

theorem errEvent_notMem {src : Nat} : errEvent src ∉ [318, 263, 269] := by
  unfold errEvent
  split
  · simp
    omega
  · simp

theorem not_eventReg_of_errc {k : Nat} (h : 0x100E00000 ≤ k) : ¬ eventReg k := by
  simp only [eventReg, R.JOURNAL_EVFIFO]
  omega

/-- The source's event on its first entry changes no register of error capture's block, nor the queue. -/
theorem State.capture_errQueued {src : Nat} {e : ErrEntry} : ((s.recorded src e).errQueued src e).EventsOnly (s.capture src e) := by
  rw [State.capture_eq]
  exact .ite (State.raise_eventsOnly errEvent_lt errEvent_notMem) .refl

theorem State.errQueued_reg {src k : Nat} {e : ErrEntry} (hk : ¬ eventReg k) (hf : k ≠ R.ERRC_Q_FLAGS) (hl : k ≠ R.ERRC_Q_LOST) :
    (s.errQueued src e).reg k = s.reg k := by
  have h : ((s.setRegBit R.ERRC_Q_FLAGS 0 true).bump R.ERRC_Q_LOST).reg k = s.reg k :=
    (State.reg_setReg_other _ _ hl).trans (s.reg_setReg_other _ hf)
  unfold State.errQueued
  split
  · rfl
  · split
    · exact h
    · exact ((State.raise_eventsOnly (by decide) (by decide)).reg k hk).trans h

theorem State.capture_reg_recorded {src k : Nat} {e : ErrEntry} (hk : R.ERRC_FIRST 0 0 ≤ k) : (s.capture src e).reg k = (s.recorded src e).reg k := by
  have hk' : 0x100E00000 ≤ k ∧ k ≠ R.ERRC_Q_FLAGS ∧ k ≠ R.ERRC_Q_LOST := by
    simp only [R.ERRC_FIRST, R.ERRC_Q_FLAGS, R.ERRC_Q_LOST] at hk ⊢
    omega
  obtain ⟨h, hf, hl⟩ := hk'
  exact (State.capture_errQueued.reg k (not_eventReg_of_errc h)).trans (State.errQueued_reg (not_eventReg_of_errc h) hf hl)

theorem State.recorded_ev {src : Nat} {e : ErrEntry} : (s.recorded src e).ev = s.ev := by
  unfold State.recorded State.putErrEntry State.bump
  split <;> simp

theorem State.recorded_reg_count {src : Nat} {e : ErrEntry} : (s.recorded src e).reg (R.ERRC_COUNT src) = satInc (s.reg (R.ERRC_COUNT src)) := by
  have hl : R.ERRC_LAST src 0 + 12 < R.ERRC_COUNT src := by simp only [R.ERRC_LAST, R.ERRC_COUNT]; omega
  have hf : R.ERRC_FIRST src 0 + 12 < R.ERRC_COUNT src := by simp only [R.ERRC_FIRST, R.ERRC_COUNT]; omega
  rw [State.recorded, State.bump, State.reg_setReg_same, State.putErrEntry_reg_other (.inr hl)]
  split
  · rw [State.putErrEntry_reg_other (.inr hf)]
  · rfl

theorem State.recorded_reg_last {src : Nat} {e : ErrEntry} (w : Fin 4) :
    (s.recorded src e).reg (R.ERRC_LAST src w) = w32 (e.words.getD w.val 0) := by
  have hw : R.ERRC_LAST src w = R.ERRC_LAST src 0 + 4 * w.val := by simp only [R.ERRC_LAST]; omega
  rw [State.recorded, State.bump, State.reg_setReg_other _ _ (by simp only [R.ERRC_LAST, R.ERRC_COUNT]; omega), hw, State.putErrEntry_reg_word]

theorem State.recorded_reg_first {src : Nat} {e : ErrEntry} (w : Fin 4) : (s.recorded src e).reg (R.ERRC_FIRST src w) =
    if s.reg (R.ERRC_COUNT src) = 0 then w32 (e.words.getD w.val 0) else s.reg (R.ERRC_FIRST src w) := by
  have hw : R.ERRC_FIRST src w = R.ERRC_FIRST src 0 + 4 * w.val := by simp only [R.ERRC_FIRST]; omega
  rw [State.recorded, State.bump, State.reg_setReg_other _ _ (by simp only [R.ERRC_FIRST, R.ERRC_COUNT]; omega),
    State.putErrEntry_reg_other (.inl (by simp only [R.ERRC_FIRST, R.ERRC_LAST]; omega)), hw]
  split
  · rw [State.putErrEntry_reg_word]
  · rfl

/-- Recording writes the source's own registers. -/
theorem State.recorded_reg_below {src k : Nat} {e : ErrEntry} (hk : k < R.ERRC_FIRST 0 0) : (s.recorded src e).reg k = s.reg k := by
  simp only [R.ERRC_FIRST] at hk
  rw [State.recorded, State.bump, State.reg_setReg_other _ _ (by simp only [R.ERRC_COUNT]; omega),
    State.putErrEntry_reg_other (.inl (by simp only [R.ERRC_LAST]; omega))]
  split
  · rw [State.putErrEntry_reg_other (.inl (by simp only [R.ERRC_FIRST]; omega))]
  · rfl

theorem State.errQueued_room {src : Nat} {e : ErrEntry} (h : s.ev.errQ.length < 64) :
    s.errQueued src e = { s with ev := { s.ev with errQ := s.ev.errQ ++ [(src, e.forQueue src)] } } := if_pos h

theorem State.errQueued_reg_of_room {src k : Nat} {e : ErrEntry} (h : s.ev.errQ.length < 64) : (s.errQueued src e).reg k = s.reg k := by
  rw [State.errQueued_room h]
  rfl

/-- The 65th entry is lost, and counted as such. -/
theorem State.errQueued_full {src : Nat} {e : ErrEntry} (h : 64 ≤ s.ev.errQ.length) :
    (s.errQueued src e).ev.errQ = s.ev.errQ ∧ (s.errQueued src e).regBit R.ERRC_Q_FLAGS 0 = true ∧
    (s.errQueued src e).reg R.ERRC_Q_LOST = satInc (s.reg R.ERRC_Q_LOST) := by
  have hev : ((s.setRegBit R.ERRC_Q_FLAGS 0 true).bump R.ERRC_Q_LOST).EventsOnly (s.errQueued src e) := by
    unfold State.errQueued
    rw [if_neg (by omega)]
    exact .ite .refl (State.raise_eventsOnly (by decide) (by decide))
  refine ⟨hev.errQ, ?_, ?_⟩
  · rw [State.regBit_eq_of_reg (hev.reg _ (not_eventReg_of_errc (by decide))), State.bump,
      State.regBit_eq_of_reg (State.reg_setReg_other _ _ (by decide)), State.regBit_setRegBit (by decide), if_pos rfl]
  · rw [hev.reg _ (not_eventReg_of_errc (by decide)), State.bump, State.reg_setReg_same, State.setRegBit, State.reg_setReg_other _ _ (by decide)]

end Sys2Proof.Machine

namespace Sys2Proof
open Machine

/-- Settles O7: an arrival writes the event's own pending bit or weir. -/
theorem eventArrivalOnce : Obligations.EventArrivalOnce := by
  intro s n hn
  exact ⟨State.pendEvent_pends, State.pendEvent_reg_weir hn, State.pendEvent_onlyRegs, fun i _ hi => State.pendEvent_regBit_other hn hi⟩

/-- Settles O8: the entry stands recorded and queued before the source's event, which leaves error capture's block and the queue. -/
theorem errorCaptureRecords : Obligations.ErrorCaptureRecords := by
  intro s src e _ t
  have hev : ((s.recorded src e).errQueued src e).EventsOnly t := State.capture_errQueued
  have hrec : (s.recorded src e).ev = s.ev := State.recorded_ev
  have hreg {k : Nat} (hk : R.ERRC_FIRST 0 0 ≤ k) : t.reg k = (s.recorded src e).reg k := State.capture_reg_recorded hk
  have hfirst (w : Fin 4) : t.reg (R.ERRC_FIRST src w) =
      if s.reg (R.ERRC_COUNT src) = 0 then w32 (e.words.getD w.val 0) else s.reg (R.ERRC_FIRST src w) :=
    (hreg (by simp only [R.ERRC_FIRST]; omega)).trans (State.recorded_reg_first w)
  refine ⟨fun w => ?_, ?_, fun h w => ?_, fun h w => ?_, fun h => ?_, fun h => ?_, fun h => ?_, fun h hq k => ?_⟩
  · exact (hreg (by simp only [R.ERRC_FIRST, R.ERRC_LAST]; omega)).trans (State.recorded_reg_last w)
  · exact (hreg (by simp only [R.ERRC_FIRST, R.ERRC_COUNT]; omega)).trans State.recorded_reg_count
  · rw [hfirst, if_pos h]
  · rw [hfirst, if_neg h]
  · rw [hev.errQ, State.errQueued_room (by rwa [hrec]), hrec]
  · obtain ⟨hq, hflag, hlost⟩ := State.errQueued_full (s := s.recorded src e) (src := src) (e := e) (by rwa [hrec])
    refine ⟨(hev.errQ.trans hq).trans (congrArg _ hrec), ?_, ?_⟩
    · exact (State.regBit_eq_of_reg (hev.reg _ (not_eventReg_of_errc (by decide)))).trans hflag
    · rw [hev.reg _ (not_eventReg_of_errc (by decide)), hlost, State.recorded_reg_below (by decide)]
  · have ht : t = ((s.recorded src e).errQueued src e).raise (errEvent src) := State.capture_eq.trans (if_pos h)
    rw [ht]
    exact State.raise_pends errEvent_lt errEvent_notMem
  · have ht : t = (s.recorded src e).errQueued src e := State.capture_eq.trans (if_neg h)
    rw [ht, State.errQueued_reg_of_room (by rwa [hrec]), State.recorded_reg_below (by simp only [R.EVT_PEND, R.ERRC_FIRST]; omega)]

end Sys2Proof

/-! SUPPORT. A core's accesses to registers of the control blocks, and the commands of the event controller and of error capture (R873 to
R889, R899). -/

namespace Sys2Proof.Machine

variable {s : State}

/-! ### Accesses to registers -/

theorem targetOf_control {k : Nat} (h₀ : 0x100000000 ≤ k) (h₁ : k < 0x101A00000) : targetOf k = .control ((k - 0x100000000) / 0x100000) := by
  unfold targetOf
  rw [if_neg (by omega), if_neg (by omega), if_neg (by omega), if_pos (by omega)]

/-- A register of a control block beside HOSTIF's. -/
theorem isRegister_control {k : Nat} (h₀ : 0x100000000 ≤ k) (h₁ : k < 0x101A00000) (hh : k < 0x101100000 ∨ 0x101200000 ≤ k) :
    isRegister k = true := by
  simp only [isRegister, targetOf_control h₀ h₁, isMsix]
  simp
  omega

section
variable {c : Core} {p : Bool} {k : Nat} {v : Word} (h₀ : 0x100000000 ≤ k) (h₁ : k < 0x101A00000) (hh : k < 0x101100000 ∨ 0x101200000 ≤ k)
  (hl : s.live c.val)
include h₀ h₁ hh hl

/-- A running core's admitted word write of a control block's register reaches the register. -/
theorem State.wr_live (h₄ : k % 4 = 0) (hb : s.busCheck (.core c p) .store .word k = none) : s.wr (.core c p) k v = s.writeReg (.core c p) k v := by
  obtain ⟨hreset, hheld, htrip, hcore, hlock⟩ := hl
  unfold State.wr State.regCommand State.busStore
  simp only [hreset, hheld, htrip, hcore, hlock, targetOf_control h₀ h₁, hb, isRegister_control h₀ h₁ hh, sizeBytes, h₄]
  simp

/-- A running core's admitted read of one. -/
theorem State.readCommand_live (hb : s.busCheck (.core c p) .load .word k = none) : s.readCommand (.core c p) k =
    (s.readReg (.core c p) k).elim (s.errAt errAccess (.core c p) .load k) (·.2) := by
  obtain ⟨hreset, hheld, htrip, hcore, hlock⟩ := hl
  unfold State.readCommand State.busLoad
  simp only [hreset, hheld, htrip, hcore, hlock, targetOf_control h₀ h₁, hb, isRegister_control h₀ h₁ hh]
  cases s.readReg (.core c p) k <;> rfl

end

theorem State.writeReg_control {who : Sender} {k : Nat} {v : Word} {r : RegRow} (hr : regRow? k = some r) (hc : canonReg k = k)
    (h₁ : k < 0x101A00000) (hb : k < 0x100F00000 ∨ (0x101000000 ≤ k ∧ k < 0x101100000) ∨ 0x101200000 ≤ k) :
    s.writeReg who k v = (s.commandWrite who k v r).getD (s.plainWrite who k v r) := by
  unfold State.writeReg
  simp only [hc, hr]
  rw [if_neg (by omega), if_neg (by omega), if_neg (by omega)]

section
variable {who : Sender} {k : Nat} {v : Word} {r : RegRow}

/-- A running warden's admitted word write of a register of a control block behind HOSTIF is the block's own (R11). -/
theorem State.wr_link (h : s.wardenAt who .store k) (hr : regRow? k = some r) (hc : canonReg k = k) (h₀ : 0x101200000 ≤ k)
    (h₁ : k < 0x101A00000) (h₄ : k % 4 = 0) : s.wr who k v = (s.commandWrite who k v r).getD (s.plainWrite who k v r) := by
  obtain ⟨c, rfl, -, hl, hb⟩ := h
  rw [State.wr_live (by omega) h₁ (.inr h₀) hl h₄ hb, State.writeReg_control hr hc h₁ (.inr (.inr h₀))]

theorem State.wardenAt.readCommand (h : s.wardenAt who .load k) (h₀ : 0x100000000 ≤ k) (h₁ : k < 0x101A00000)
    (hh : k < 0x101100000 ∨ 0x101200000 ≤ k) :
    s.readCommand who k = (s.readReg who k).elim (s.errAt errAccess who .load k) (·.2) := by
  obtain ⟨c, rfl, -, hl, hb⟩ := h
  exact State.readCommand_live h₀ h₁ hh hl hb

/-- A running warden's admitted write of a register of a vat's event unit is the vat's own (R31). -/
theorem State.wr_vatWindow {v : Vat} {o : Nat} {w : Word} (h : s.wardenAt who .store (vatAddr v o)) (hr : regRow? (vatAddr v o) = some r)
    (h₀ : 0x600000 ≤ o) (h₁ : o < 0x1000000) (h₄ : o % 4 = 0) : s.wr who (vatAddr v o) w = s.vatWrite who v o (vatAddr v o) w r := by
  obtain ⟨c, rfl, hc, ⟨hreset, hheld, htrip, hcore, hlock⟩, hb⟩ := h
  have hv := v.isLt
  have hi : (vatAddr v o - 0x1000000000) / 0x1000000 = v := by
    unfold vatAddr
    omega
  have ho : vatAddr v o % 0x1000000 = o := by
    unfold vatAddr
    omega
  have hlow : ¬ vatAddr v o < 0x1000000000 ∧ vatAddr v o < 0x1040000000 := by
    unfold vatAddr
    omega
  have ht : targetOf (vatAddr v o) = .vat v o := by
    unfold targetOf
    rw [if_neg (by omega), if_neg (by omega), if_neg (by omega), if_neg (by omega), if_pos (by omega), hi, ho]
  have hcanon : canonReg (vatAddr v o) = vatAddr v o := by
    unfold canonReg
    rw [if_neg (by omega), if_neg (by omega)]
  have hne : ¬ c.val = v.val := by omega
  have h₄' : vatAddr v o % 4 = 0 := by
    unfold vatAddr
    omega
  have hw : s.writeReg (.core c true) (vatAddr v o) w = s.vatWrite (.core c true) v o (vatAddr v o) w r := by
    unfold State.writeReg
    simp only [hcanon, hr]
    rw [if_pos (by omega), hi, ho]
  unfold State.wr State.regCommand State.busStore
  simp only [hreset, hheld, htrip, hcore, hlock, ht, hb, isRegister, sizeBytes, h₄', hne, hw, if_false, decide_eq_true h₀, if_true]
  simp

end

/-! ### Commands -/

section
variable {who : Sender} {v : Word}

/-- An admitted write of EVT_DOORBELL, from any running core, is the doorbell (R873). -/
theorem exec_evtDoorbell {c : Core} {p : Bool} (hl : s.live c.val) (hb : s.busCheck (.core c p) .store .word R.EVT_DOORBELL = none) :
    exec (.evtDoorbell (.core c p) v) s = .next (s.doorbell (.core c p) v) := by
  refine congrArg Host.Outcome.next (?_ : s.wr (.core c p) R.EVT_DOORBELL v = _)
  rw [State.wr_live (by decide) (by decide) (by decide) hl (by decide) hb,
    State.writeReg_control (r := { key := 0x100d00010, wo := 0x3f }) rfl (by decide) (by decide) (by decide)]
  rfl

theorem regRow?_evtPend : ∀ k : Fin 20, regRow? (R.EVT_PEND k) = some { key := 0x100d00100, dims := [(0x4, 20)], w1c := 0xffffffff } := by decide

theorem arrIx_evtPend (k : Fin 20) : arrIx (R.EVT_PEND k) (R.EVT_PEND 0) 4 20 = some k.val := by
  have := k.isLt
  unfold arrIx
  rw [if_pos (by simp only [R.EVT_PEND]; omega)]
  simp only [R.EVT_PEND]
  congr 1
  omega

/-- The registers that are commands by themselves. -/
def commandRegs : List Nat :=
  [R.ADMIT_CTRL, R.SPRING_CMD, R.TAMPER_ACK, R.RESET_CMD, R.WMARK_ADVANCE, R.WMARK_EXTEND, R.EVT_DOORBELL, R.EVT_WDOG_KICK, R.EVT_TRACE_PUT,
   R.ERRC_Q_POP, R.MGMT_UART_DATA, R.CLESS_CMD, R.QUORUM_GUARD]

theorem evtPend_ne_command : ∀ k : Fin 20, ∀ j ∈ commandRegs, R.EVT_PEND k ≠ j := by decide

/-- An admitted write of EVT_PEND clears what it names (R875). -/
theorem exec_evtPendClear {k : Fin 20} (h : s.wardenAt who .store (R.EVT_PEND k)) :
    exec (.evtPendClear who k v) s = .next (s.pendClear k v) := by
  have hk := k.isLt
  refine congrArg Host.Outcome.next (?_ : s.wr who (R.EVT_PEND k) v = _)
  rw [State.wr_control h (regRow?_evtPend k) (by simp only [R.EVT_PEND]; omega) (by simp only [R.EVT_PEND]; omega)
    (by simp only [R.EVT_PEND]; omega)]
  have hne := evtPend_ne_command k
  simp only [commandRegs, List.forall_mem_cons] at hne
  obtain ⟨h₁, h₂, h₃, h₄, h₅, h₆, h₇, h₈, h₉, h₁₀, h₁₁, h₁₂, h₁₃, -⟩ := hne
  unfold State.commandWrite
  rw [if_neg h₁, if_neg h₂, if_neg h₃, if_neg h₄, if_neg h₅, if_neg h₆, if_neg h₇, if_neg h₈, if_neg h₉, if_neg h₁₀, if_neg h₁₁, if_neg h₁₂,
    if_neg h₁₃, arrIx_evtPend]
  rfl

theorem regRow?_vevRing : ∀ u : Vat, regRow? (R.VEV_RING u) = some { key := 0x100070000c, dims := [(0x1000000, 64)], wo := 0x1f } := by decide

/-- An admitted write of VEV_RING is the ring (R874). -/
theorem exec_vevRing {u : Vat} (h : s.wardenAt who .store (R.VEV_RING u)) : exec (.vevRing who u v) s = .next (s.vevRing u v) := by
  have ha : R.VEV_RING u = vatAddr u 0x70000C := by
    simp only [R.VEV_RING, vatAddr]
    omega
  refine congrArg Host.Outcome.next (?_ : s.wr who (R.VEV_RING u) v = _)
  have hr := regRow?_vevRing u
  rw [ha] at h hr ⊢
  rw [State.wr_vatWindow h hr (by decide) (by decide) (by decide)]
  rfl

end

/-! ### What they write -/

/-- The weir counts of the bits in `is` that `v` has set are cleared. -/
theorem State.clearWeirs_reg {k j : Nat} {v : Word} {is : List Nat} :
    (is.foldl (fun s i => if bit v i then s.setReg (R.EVT_WEIR (32 * k + i)) 0 else s) s).reg j =
      if ∃ i ∈ is, bit v i = true ∧ j = R.EVT_WEIR (32 * k + i) then 0 else s.reg j := by
  induction is generalizing s with
  | nil => simp
  | cons i is ih =>
    rw [List.foldl_cons, ih]
    by_cases hb : bit v i = true <;> by_cases hj : j = R.EVT_WEIR (32 * k + i) <;> simp [hb, hj, State.reg_setReg]

theorem State.clearWeirs_frame {k : Nat} {v : Word} {is : List Nat} :
    (is.foldl (fun s i => if bit v i then s.setReg (R.EVT_WEIR (32 * k + i)) 0 else s) s).mem = s.mem ∧
    (is.foldl (fun s i => if bit v i then s.setReg (R.EVT_WEIR (32 * k + i)) 0 else s) s).cores = s.cores :=
  List.foldlRecOn is _ (motive := fun u : State => u.mem = s.mem ∧ u.cores = s.cores) ⟨rfl, rfl⟩ fun u hu i _ => by
    split <;> exact hu

/-- Clearing pending bits clears their weirs and nothing else (R875). -/
theorem State.pendClear_facts {k : Nat} {v : Word} (hk : k < 20) :
    (s.pendClear k v).reg (R.EVT_PEND k) = s.reg (R.EVT_PEND k) &&& ~~~v ∧
    (∀ i, i < 32 → bit v i = true → (s.pendClear k v).reg (R.EVT_WEIR (32 * k + i)) = 0) ∧
    s.onlyRegs (s.pendClear k v) (R.EVT_PEND k :: ((List.range 32).filter (bit v)).map fun i => R.EVT_WEIR (32 * k + i)) := by
  have hne {n : Nat} : R.EVT_WEIR n ≠ R.EVT_PEND k := by
    simp only [R.EVT_WEIR, R.EVT_PEND]
    omega
  refine ⟨?_, fun i hi hb => ?_, State.clearWeirs_frame.1, State.clearWeirs_frame.2, fun j hj => ?_⟩
  · rw [State.pendClear, State.reg_setReg_same, State.clearWeirs_reg, if_neg fun ⟨i, _, _, h⟩ => hne h.symm]
  · rw [State.pendClear, State.reg_setReg_other _ _ hne, State.clearWeirs_reg, if_pos ⟨i, by simpa using hi, hb, rfl⟩]
  · simp only [List.mem_cons, List.mem_map, List.mem_filter, not_or] at hj
    obtain ⟨hp, hw⟩ := hj
    rw [State.pendClear, State.reg_setReg_other _ _ hp, State.clearWeirs_reg, if_neg fun ⟨i, hi, hb, h⟩ => hw ⟨i, ⟨hi, hb⟩, h.symm⟩]

theorem State.vevRing_facts {u : Nat} {v : Word} : (s.vevRing u v).regBit (R.VEV_PEND_HI u) (field v 4 0) = true ∧
    s.onlyRegs (s.vevRing u v) [R.VEV_PEND_HI u] ∧
    ∀ i, i < 32 → i ≠ field v 4 0 → (s.vevRing u v).regBit (R.VEV_PEND_HI u) i = s.regBit (R.VEV_PEND_HI u) i := by
  have hf : field v 4 0 < 32 := by
    unfold field
    omega
  have he : s.vevRing u v = s.setRegBit (R.VEV_PEND_HI u) (field v 4 0) true := by
    unfold State.vevRing State.raiseLocal
    rw [if_neg (by omega), show (32 + field v 4 0) % 32 = field v 4 0 by omega]
  rw [he]
  refine ⟨?_, ⟨rfl, rfl, fun j hj => s.reg_setReg_other _ (by simpa using hj)⟩, fun i _ hi => ?_⟩
  · rw [State.regBit_setRegBit hf, if_pos rfl]
  · rw [State.regBit_setRegBit hf, if_neg hi]

/-! ### A full trace -/

/-- A running device with one entry's room in its trace, so that no entry is ever taken, and the controller's event 487 traced. -/
def fullTrace : State :=
  let s : State := { State.reset with pw := { PowerState.reset with inReset := false }, cores := List.replicate 66 (CoreState.reset true false 0) }
  (s.setReg R.EVT_TRACE_SIZE 16).setReg (R.EVT_ROUTE 487) 0x1110

theorem fullTrace_warden : fullTrace.wardenAt (.core 64 true) .store R.EVT_TRACE_PUT :=
  ⟨64, rfl, by decide, ⟨by decide, by decide, by decide, by decide, by decide⟩, by decide⟩

theorem exec_evtTracePut {who : Sender} {v : Word} (h : s.wardenAt who .store R.EVT_TRACE_PUT) :
    exec (.evtTracePut who v) s = .next (s.tracePut who v) := by
  refine congrArg Host.Outcome.next (?_ : s.wr who R.EVT_TRACE_PUT v = _)
  rw [State.wr_control (r := { key := 0x100d00054, wo := 0xffffffff }) h rfl (by decide) (by decide) (by decide)]
  rfl

/-- The event of a lost entry is traced in turn, and lost in turn. -/
theorem fullTrace_lost : (fullTrace.tracePut (.core 64 true) 0).reg R.EVT_TRACE_LOST = 2 := by decide +kernel

end Sys2Proof.Machine

namespace Sys2Proof
open Machine

/-- Settles O6: each write is the controller's or the vat's own; a doorbell's event is neither of those that may follow an arrival. -/
theorem doorbellPendClearAndRing : Obligations.DoorbellPendClearAndRing := by
  intro s who v
  refine ⟨fun c p hwho hl hb => ?_, fun k hwho => ⟨_, exec_evtPendClear hwho, State.pendClear_facts k.isLt⟩,
    fun u hwho => ⟨_, exec_vevRing hwho, State.vevRing_facts⟩⟩
  subst hwho
  extract_lets n
  have hn : 576 ≤ n ∧ n < 640 := by
    simp only [n, field]
    omega
  have hx : n ∉ [318, 263, 269] := by
    simp only [List.mem_cons, List.not_mem_nil, or_false]
    omega
  exact ⟨_, exec_evtDoorbell hl hb, State.raise_pends hn.2 hx, State.raise_reg_weir hn.2 hx (by omega) (by omega)⟩

/-- Refutes O9: the first entry lost raises event 487, which is traced as well where its route says so, so that its own entry is lost and
counted too (R889). -/
theorem not_errorAndTraceCommands : ¬ Obligations.ErrorAndTraceCommands := by
  unfold Obligations.ErrorAndTraceCommands
  intro h
  obtain ⟨-, htrace⟩ := h
  obtain ⟨-, hlost⟩ := htrace fullTrace (.core 64 true) 0 fullTrace_warden (by decide)
  obtain ⟨t, ht, hcount, -, -⟩ := hlost (by decide)
  rw [exec_evtTracePut fullTrace_warden] at ht
  cases ht
  rw [fullTrace_lost] at hcount
  exact absurd hcount (by decide)

/-- Settles O1: the two branches of a step. -/
theorem stepRunsTheFrontCommand : Obligations.StepRunsTheFrontCommand := by
  intro s
  refine ⟨fun c cs h => ?_, fun h => ?_⟩ <;> unfold step <;> rw [h]

end Sys2Proof

/-! SUPPORT. Errors and events reported from any sender (R882 to R887), and the console, the HBM stacks and the management port (R788 to R800). -/

namespace Sys2Proof.Machine

variable {s t u : State}

/-! ### Reports -/

/-- From `s` to `t` events have been raised and errors recorded, and nothing else has happened. -/
structure State.ReportsOnly (s t : State) : Prop where
  rest : ∃ regs mem ev, t = { s with regs, mem, ev }
  reg : ∀ k, k < 0x100E00000 ∨ 0x100F00000 ≤ k → ¬ eventReg k → t.reg k = s.reg k
  pend : ∀ n < 640, s.pends n → t.pends n

namespace State.ReportsOnly

theorem refl : s.ReportsOnly s := ⟨⟨_, _, _, rfl⟩, fun _ _ _ => rfl, fun _ _ h => h⟩

theorem trans (h₁ : s.ReportsOnly t) (h₂ : t.ReportsOnly u) : s.ReportsOnly u := by
  refine ⟨?_, fun k hk he => (h₂.reg k hk he).trans (h₁.reg k hk he), fun n hn h => h₂.pend n hn (h₁.pend n hn h)⟩
  obtain ⟨_, _, _, rfl⟩ := h₁.rest
  obtain ⟨_, _, _, rfl⟩ := h₂.rest
  exact ⟨_, _, _, rfl⟩

theorem ofEvents (h : s.EventsOnly t) : s.ReportsOnly t := by
  refine ⟨?_, fun k _ he => h.reg k he, h.pend⟩
  obtain ⟨_, _, _, _, _, rfl⟩ := h.rest
  exact ⟨_, _, _, rfl⟩

theorem ite {c : Prop} {_ : Decidable c} (ht : s.ReportsOnly t) (hu : s.ReportsOnly u) : s.ReportsOnly (if c then t else u) := by
  split <;> assumption

/-- A register of error capture's block. -/
theorem setReg {k : Nat} {v : Word} (h₀ : 0x100E00000 ≤ k) (h₁ : k < 0x100F00000) : s.ReportsOnly (s.setReg k v) := by
  refine ⟨⟨_, _, _, rfl⟩, fun j hj _ => s.reg_setReg_other v (by omega), fun n hn h => ?_⟩
  have hne : R.EVT_PEND (n / 32) ≠ k := by
    simp only [R.EVT_PEND]
    omega
  rwa [State.pends, State.regBit, State.reg_setReg_other _ _ hne]

theorem putErrEntry {e : ErrEntry} {k : Nat} (h₀ : 0x100E00000 ≤ k) (h₁ : k + 12 < 0x100F00000) : s.ReportsOnly (s.putErrEntry e k) :=
  .trans (.setReg h₀ (by omega)) (.trans (.setReg (by dsimp only; omega) (by dsimp only; omega))
    (.trans (.setReg (by dsimp only; omega) (by dsimp only; omega)) (.setReg (by dsimp only; omega) (by dsimp only; omega))))

theorem recorded {src : Nat} {e : ErrEntry} (hs : src < 0x80) : s.ReportsOnly (s.recorded src e) := by
  unfold State.recorded
  refine .trans (t := (if _ then _ else _)) ?_ (.trans (.putErrEntry ?_ ?_) (.setReg ?_ ?_))
  · exact .ite (.putErrEntry (by simp only [R.ERRC_FIRST]; omega) (by simp only [R.ERRC_FIRST]; omega)) .refl
  all_goals simp only [R.ERRC_LAST, R.ERRC_COUNT]; omega

theorem ofEv {ev : EvState} : s.ReportsOnly { s with ev := ev } := ⟨⟨_, _, _, rfl⟩, fun _ _ _ => rfl, fun _ _ h => h⟩

theorem errQueued {src : Nat} {e : ErrEntry} : s.ReportsOnly (s.errQueued src e) := by
  have hfull : s.ReportsOnly ((s.setRegBit R.ERRC_Q_FLAGS 0 true).bump R.ERRC_Q_LOST) :=
    .trans (.setReg (by decide) (by decide)) (.setReg (by decide) (by decide))
  exact .ite .ofEv (.ite hfull (hfull.trans (.ofEvents (State.raise_eventsOnly (by decide) (by decide)))))

theorem capture {src : Nat} {e : ErrEntry} (hs : src < 0x80) : s.ReportsOnly (s.capture src e) :=
  .trans (.recorded hs) (.trans .errQueued (.ofEvents State.capture_errQueued))

theorem lk (h : s.ReportsOnly t) : t.lk = s.lk := by
  obtain ⟨_, _, _, rfl⟩ := h.rest
  rfl

end State.ReportsOnly

theorem errSource_lt {a : Nat} : errSource a < 0x80 := by
  unfold errSource
  dsimp only
  repeat' split
  all_goals omega

/-- An error recorded about any address leaves all but the blocks of events and of error capture. -/
theorem State.errAt_reportsOnly {code a : Nat} {who : Sender} {kind : Kind} : s.ReportsOnly (s.errAt code who kind a) := .capture errSource_lt

/-- CODE in the record of an access of any sender (R883). -/
theorem State.errEntry_code_any {code a : Nat} {who : Sender} {kind : Kind} (hc : code < 256) :
    field (s.errEntry code who kind a).info 31 24 = code := by
  have hb : b2n (privOf who) ≤ 1 := by
    unfold b2n
    split <;> decide
  have hs : stopOf who < 128 := by
    cases who with
    | core c p =>
      simp only [stopOf]
      split
      · omega
      · split <;> omega
    | host f => simp [stopOf]
    | unit st => exact lt_trans st.isLt (by decide)
  have hk : kind.code ≤ 3 := by cases kind <;> decide
  have ha : a / 2 ^ 32 % 4096 < 4096 := Nat.mod_lt _ (by decide)
  simp only [field, State.errEntry, BitVec.toNat_ofNat]
  omega

/-- The last entry of the source that holds the address shows the error's code. -/
theorem State.errAt_code {code a src : Nat} {who : Sender} {kind : Kind} (hc : code < 256) (ha : errSource a = src) :
    (s.errAt code who kind a).regField (R.ERRC_LAST src 0) 31 24 = code := by
  rw [State.errAt, ha, State.regField, State.capture_reg_last (ha ▸ errSource_lt)]
  exact State.errEntry_code_any hc

/-! ### The console (R790) -/

section
variable {who : Sender} {v : Word}

theorem exec_uartTransmitWrite (h : s.wardenAt who .store R.MGMT_UART_DATA) : exec (.uartTransmitWrite who v) s = .next (s.uartWrite v) := by
  refine congrArg Host.Outcome.next (?_ : s.wr who R.MGMT_UART_DATA v = _)
  rw [State.wr_link (r := { key := 0x101780008 }) h rfl (by decide) (by decide) (by decide) (by decide)]
  rfl

theorem exec_uartReceiveRead (h : s.wardenAt who .load R.MGMT_UART_DATA) : exec (.uartReceiveRead who) s = .next s.uartRead.2 := by
  refine congrArg Host.Outcome.next (?_ : s.readCommand who R.MGMT_UART_DATA = _)
  rw [h.readCommand (by decide) (by decide) (by decide)]
  rfl

end

theorem by8_field {v : Word} : by8 (field v 7 0) = by8 v.toNat := by
  refine BitVec.eq_of_toNat_eq ?_
  simp only [by8, field, BitVec.toNat_ofNat]
  omega

/-- The low part of a field that was written. -/
theorem field_setField_within {w : Word} {hi top lo v : Nat} (h : hi ≤ top) (ht : top < 32) :
    field (setField w top lo v) hi lo = v % 2 ^ (hi + 1 - lo) := by
  refine Nat.eq_of_testBit_eq fun i => ?_
  rw [testBit_field, bit_setField, Nat.testBit_mod_two_pow]
  by_cases hi' : i < hi + 1 - lo
  · rw [if_pos (by omega), Nat.add_sub_cancel_left]
  · simp [hi']

/-- Output at a port that no response stops (R619). -/
theorem State.emit_of_passes {p : OutPort} {bs : Bytes} (h : p.stops = false) :
    s.emit p bs = { s with out := (⟨p, s.beat, bs⟩ : Output) :: s.out } := if_neg (by simp [h])

/-! ### HBM (R798, R800) -/

/-- The block of a stack's line. -/
theorem errSource_hbm {n : Fin 2} {l : Nat} : errSource (0x8000000000 + 0x400000000 * n + l % 0x10000000 * 64) = 0x23 + n := by
  have := n.isLt
  unfold errSource
  dsimp only
  rw [if_neg (by omega), if_neg (by omega), if_neg (by omega), if_neg (by omega), if_neg (by omega)]
  split
  · omega
  · rw [if_pos (by omega)]
    omega

theorem not_eventReg_hbmc {k : Nat} (h : 0x101800000 ≤ k) : ¬ eventReg k := not_eventReg_of_errc (le_trans (by decide) h)

/-- Line `l` of stack `n` is poisoned, and the failure counted and recorded in the stack's registers. -/
def State.linePoisoned (s : State) (n : Fin 2) (l : Nat) : State :=
  let u := s.mapLk fun k => { k with poison := (n.val, l % 0x10000000) :: k.poison.filter (· != (n.val, l % 0x10000000)) }
  (u.bump (R.HBMC_MAC_FAILS n)).setRegs [(R.HBMC_FAIL_ADDR_LO n, l % 0x10000000 * 64), (R.HBMC_FAIL_ADDR_HI n, l % 0x10000000 * 64 / 2 ^ 32),
    (R.HBMC_POISONED n, (u.lk.poison.filter fun p => p.1 == n.val).length)]

theorem State.linePoisoned_reg {n : Fin 2} {l : Nat} :
    (s.linePoisoned n l).reg (R.HBMC_MAC_FAILS n) = satInc (s.reg (R.HBMC_MAC_FAILS n)) := by
  unfold State.linePoisoned
  simp only [State.setRegs, List.foldl_cons, List.foldl_nil]
  rw [State.reg_setReg_other, State.reg_setReg_other, State.reg_setReg_other, State.bump, State.reg_setReg_same]
  · rfl
  all_goals simp

theorem State.linePoisoned_poison {n : Fin 2} {l : Nat} : (n.val, l % 0x10000000) ∈ (s.linePoisoned n l).lk.poison := List.mem_cons_self

theorem exec_hbmLineMacFail {n : Fin 2} {l : Nat} {again : Bool} {who : Sender} (hr : s.pw.inReset = false) (hb : nbit s.pw.hbm n = true) :
    exec (.hbmLineMacFail n l again who) s = .next (if again then (s.bump (R.HBMC_RETRIES n)).raise (418 + n) (76 + n)
      else ((s.linePoisoned n l).raise (416 + n) (76 + n)).errAt errPoison who .load (0x8000000000 + 0x400000000 * n + l % 0x10000000 * 64)) := by
  change execHbmLineMacFail n l again who s = _
  simp only [execHbmLineMacFail, hr, hb, Bool.false_eq_true, not_true_eq_false, or_self, if_false]
  rfl

theorem exec_hbmStackHot {n : Fin 2} {temp : Int} (hr : s.pw.inReset = false) (h₀ : 95 ≤ temp) (h₁ : temp < 105) :
    exec (.hbmStackHot n temp) s =
      .next (((s.setReg (R.HBMC_TEMP n) (w32 (tempBits temp))).setRegBit (R.HBMC_STATUS n) 3 true).raise (420 + n) (76 + n)) := by
  change execHbmStackHot n temp s = _
  have h₂ : ¬ 105 ≤ temp := by omega
  simp only [execHbmStackHot, hr, h₀, h₂, Bool.false_eq_true, if_false, if_true, decide_true]

/-! ### MCTP (R788, R789, R922) -/

theorem State.mctpReply_of_up {vdm : Bool} {inst : BitVec 5} {cmd : Nat} {d : Bytes} (hm : s.mctpOn vdm = true) (hu : s.serviceUp = true) :
    s.mctpReply vdm inst cmd d = { s with out := ⟨.mctp (b2n vdm), s.beat, [0, by8 inst.toNat, by8 cmd] ++ d⟩ :: s.out } := by
  rw [State.mctpReply, if_pos ⟨hm, hu⟩]
  exact State.emit_of_passes rfl

theorem State.mctpReply_of_off {vdm : Bool} {inst : BitVec 5} {cmd : Nat} {d : Bytes} (hm : s.mctpOn vdm = false) :
    s.mctpReply vdm inst cmd d = s := if_neg (by simp [hm])

/-- Output alone. -/
theorem State.onlyRegs_out {out : List Output} : s.onlyRegs { s with out } [] := ⟨rfl, rfl, fun _ _ => rfl⟩

/-- The endpoint ID of a binding, with VALID, and event 236. -/
def State.endpointSet (s : State) (vdm : Bool) (eid : Nat) : State :=
  (if vdm then s.setRegField R.MGMT_EID 24 16 (256 + eid) else s.setRegField R.MGMT_EID 8 0 (256 + eid)).raise 236 82

theorem State.endpointSet_eventsOnly {vdm : Bool} {eid : Nat} :
    (if vdm then s.setRegField R.MGMT_EID 24 16 (256 + eid) else s.setRegField R.MGMT_EID 8 0 (256 + eid)).EventsOnly (s.endpointSet vdm eid) :=
  State.raise_eventsOnly (by decide) (by decide)

theorem State.endpointSet_mctpOn {vdm v : Bool} {eid : Nat} : (s.endpointSet vdm eid).mctpOn v = s.mctpOn v := by
  have hreg : (s.endpointSet vdm eid).reg (R.HOSTIF_STATUS 0) = s.reg (R.HOSTIF_STATUS 0) := by
    rw [State.endpointSet_eventsOnly.reg _ (not_eventReg_of_errc (by decide))]
    cases vdm <;> exact s.reg_setReg_other _ (by decide)
  have hdev : (s.endpointSet vdm eid).dev = s.dev := by
    obtain ⟨_, _, _, _, _, h⟩ := (State.endpointSet_eventsOnly (s := s) (vdm := vdm) (eid := eid)).rest
    rw [h]
    cases vdm <;> rfl
  rw [State.mctpOn, State.mctpOn, State.regBit_eq_of_reg hreg, hdev]

theorem State.endpointSet_serviceUp {vdm : Bool} {eid : Nat} : (s.endpointSet vdm eid).serviceUp = s.serviceUp := by
  rw [State.serviceUp, State.serviceUp, State.endpointSet_eventsOnly.core]
  cases vdm <;> rfl

theorem State.endpointSet_mctpEid {vdm : Bool} {eid : BitVec 8} : (s.endpointSet vdm eid.toNat).mctpEid vdm = eid.toNat ∧
    (s.endpointSet vdm eid.toNat).mctpEid (!vdm) = s.mctpEid (!vdm) := by
  have hk : ¬ eventReg R.MGMT_EID := not_eventReg_of_errc (by decide)
  have he := eid.isLt
  have hreg := (State.endpointSet_eventsOnly (s := s) (vdm := vdm) (eid := eid.toNat)).reg _ hk
  have hsame (hi lo : Nat) (h : hi + 1 < 32) (hl : hi + 1 = lo + 8) :
      field (setField (s.reg R.MGMT_EID) (hi + 1) lo (256 + eid.toNat)) hi lo = eid.toNat := by
    rw [field_setField_within (by omega) h, show hi + 1 - lo = 8 by omega]
    omega
  unfold State.mctpEid State.regField
  rw [hreg]
  cases vdm
  · refine ⟨?_, ?_⟩
    · simpa [State.setRegField, State.reg_setReg] using hsame 7 0 (by decide) (by decide)
    · simpa [State.setRegField, State.reg_setReg] using field_setField_other (w := s.reg R.MGMT_EID) (hi := 23) (lo := 16) (.inr (by decide))
  · refine ⟨?_, ?_⟩
    · simpa [State.setRegField, State.reg_setReg] using hsame 23 16 (by decide) (by decide)
    · simpa [State.setRegField, State.reg_setReg] using field_setField_other (w := s.reg R.MGMT_EID) (hi := 7) (lo := 0) (.inl (by decide))

theorem State.endpointSet_out {vdm : Bool} {eid : Nat} : (s.endpointSet vdm eid).out = s.out := by
  obtain ⟨_, _, _, _, _, h⟩ := (State.endpointSet_eventsOnly (s := s) (vdm := vdm) (eid := eid)).rest
  rw [h]
  cases vdm <;> rfl

theorem State.endpointSet_beat {vdm : Bool} {eid : Nat} : (s.endpointSet vdm eid).beat = s.beat := by
  have hreg {k : Nat} (h₀ : k < 0x100300000) : (s.endpointSet vdm eid).reg k = s.reg k := by
    rw [State.endpointSet_eventsOnly.reg _ (not_eventReg_low h₀)]
    cases vdm <;> exact s.reg_setReg_other _ (Nat.ne_of_lt (h₀.trans (by decide)))
  rw [State.beat, State.reg64, hreg (by decide), hreg (by decide)]
  rfl

section
variable {vdm : Bool} {inst : BitVec 5} {op : Fin 4} {eid : BitVec 8}

theorem exec_setEndpointId (hm : s.mctpOn vdm = true) (hu : s.serviceUp = true) : exec (.setEndpointId vdm inst op eid) s =
    .next (if 2 ≤ op.val ∨ eid.toNat = 0 ∨ eid.toNat = 0xFF then s.mctpReply vdm inst 1 [2]
      else (s.endpointSet vdm eid.toNat).mctpReply vdm inst 1 [0, 0, by8 eid.toNat, 0]) := by
  change execSetEndpointId vdm inst op eid s = _
  simp only [execSetEndpointId, hm, hu, and_self, not_true_eq_false, if_false]
  rfl

end

end Sys2Proof.Machine

namespace Sys2Proof
open Machine

/-- Settles O10: what waits leaves while TX_EN is 1, and stays while it is 0. -/
theorem consoleBytes : Obligations.ConsoleBytes := by
  intro s who v b
  refine ⟨fun hw => ⟨fun hf hon => ?_, fun hf hoff => ?_, fun hf => ?_⟩, fun bs hw hrx => ?_, fun hon => ⟨fun hl => ?_, fun hl => ?_⟩⟩
  · refine ⟨_, exec_uartTransmitWrite hw, ?_⟩
    rw [State.uartWrite, if_neg (by omega), by8_field, State.uartFlush, if_pos ⟨hon, by simp [State.mapLk]⟩]
    dsimp only
    rw [State.emit_of_passes rfl]
    exact ⟨rfl, rfl, rfl, rfl, fun _ _ => rfl⟩
  · refine ⟨_, exec_uartTransmitWrite hw, ?_⟩
    rw [State.uartWrite, if_neg (by omega), by8_field, State.uartFlush, if_neg fun h => Bool.false_ne_true (hoff.symm.trans h.1)]
    exact ⟨rfl, rfl, rfl, rfl, fun _ _ => rfl⟩
  · refine ⟨_, exec_uartTransmitWrite hw, ?_⟩
    have hev : (s.bump R.MGMT_UART_TX_LOST).EventsOnly ((s.bump R.MGMT_UART_TX_LOST).raise 237 82) :=
      State.raise_eventsOnly (by decide) (by decide)
    rw [State.uartWrite, if_pos hf]
    refine ⟨?_, State.raise_pends (by decide) (by decide), ?_⟩
    · rw [hev.reg _ (not_eventReg_of_errc (by decide)), State.bump, State.reg_setReg_same]
    · obtain ⟨_, _, _, _, _, h⟩ := hev.rest
      rw [h]
      rfl
  · refine ⟨_, exec_uartReceiveRead hw, ?_⟩
    rw [State.uartRead, hrx]
    exact ⟨rfl, rfl, rfl, fun _ _ => rfl⟩
  · refine ⟨_, congrArg Host.Outcome.next (?_ : _ = s.mapLk fun k => { k with uartRx := k.uartRx ++ [b] }), rfl, rfl, rfl, fun _ _ => rfl⟩
    rw [if_neg (by simp [hon]), if_neg (by omega)]
  · refine ⟨_, congrArg Host.Outcome.next (?_ : _ = s.setRegBit R.MGMT_UART_STATUS 31 true), ?_, rfl⟩
    · rw [if_neg (by simp [hon]), if_pos hl]
    · rw [State.regBit_setRegBit (by decide), if_pos rfl]

/-- Settles O30: what is counted and recorded of a failing line, and a hot stack short of the thermal stop. -/
theorem hbmErrors : Obligations.HbmErrors := by
  intro s n l who temp hr hb
  have hn := n.isLt
  refine ⟨⟨_, exec_hbmLineMacFail hr hb, ?_⟩, ⟨_, exec_hbmLineMacFail hr hb, ?_⟩, fun h₀ h₁ => ⟨_, exec_hbmStackHot hr h₀ h₁, ?_⟩⟩
  · rw [if_pos rfl]
    have hx : 418 + n.val ∉ [318, 263, 269] := by simp; omega
    have hev := State.raise_eventsOnly (s := s.bump (R.HBMC_RETRIES n)) (stop := 76 + n) (data := 0) (show 418 + n.val < 640 by omega) hx
    refine ⟨?_, State.raise_pends (by omega) hx, congrArg LinkState.poison hev.lk⟩
    rw [hev.reg _ (not_eventReg_hbmc (by simp only [R.HBMC_RETRIES]; omega)), State.bump, State.reg_setReg_same]
  · rw [if_neg Bool.false_ne_true]
    have hx : 416 + n.val ∉ [318, 263, 269] := by simp; omega
    have hev := State.raise_eventsOnly (s := s.linePoisoned n l) (stop := 76 + n) (data := 0) (show 416 + n.val < 640 by omega) hx
    have hrep : State.ReportsOnly _ (((s.linePoisoned n l).raise (416 + n) (76 + n)).errAt errPoison who .load
      (0x8000000000 + 0x400000000 * n + l % 0x10000000 * 64)) := State.errAt_reportsOnly
    refine ⟨?_, ?_, hrep.pend _ (by omega) (State.raise_pends (by omega) hx), State.errAt_code (by decide) errSource_hbm⟩
    · rw [hrep.lk, hev.lk]
      exact State.linePoisoned_poison
    · have hk : ¬ eventReg (R.HBMC_MAC_FAILS n) := not_eventReg_hbmc (by simp only [R.HBMC_MAC_FAILS]; omega)
      rw [hrep.reg _ (.inr (by simp only [R.HBMC_MAC_FAILS]; omega)) hk, hev.reg _ hk, State.linePoisoned_reg]
  · have hx : 420 + n.val ∉ [318, 263, 269] := by simp; omega
    have hev := State.raise_eventsOnly (s := (s.setReg (R.HBMC_TEMP n) (w32 (tempBits temp))).setRegBit (R.HBMC_STATUS n) 3 true)
      (stop := 76 + n) (data := 0) (show 420 + n.val < 640 by omega) hx
    refine ⟨?_, ?_, State.raise_pends (by omega) hx⟩
    · rw [hev.reg _ (not_eventReg_hbmc (by simp only [R.HBMC_TEMP]; omega)), State.setRegBit, State.reg_setReg_other _ _ (by simp),
        State.reg_setReg_same]
    · rw [State.regBit_eq_of_reg (hev.reg _ (not_eventReg_hbmc (by simp only [R.HBMC_STATUS]; omega))), State.regBit_setRegBit (by decide),
        if_pos rfl]

/-- Settles O58: an answer is one output; an endpoint ID is set with its event before it is answered. -/
theorem managementPort : Obligations.ManagementPort := by
  intro s vdm inst
  extract_lets sent up
  refine ⟨fun ⟨hm, hu⟩ => ⟨fun op eid ho h₀ h₁ => ?_, fun op eid h => ?_, ?_, ?_, fun type => ?_, ?_⟩, fun hm => ?_, fun hm => ⟨?_, ?_⟩, fun pm => ?_⟩
  · refine ⟨_, exec_setEndpointId hm hu, ?_⟩
    rw [if_neg (by simp; omega), State.mctpReply_of_up (State.endpointSet_mctpOn.trans hm) (State.endpointSet_serviceUp.trans hu)]
    refine ⟨State.endpointSet_mctpEid.1, State.endpointSet_mctpEid.2, State.raise_pends (by decide) (by decide), ?_⟩
    dsimp only [sent]
    rw [State.endpointSet_out, State.endpointSet_beat]
    rfl
  · refine ⟨_, exec_setEndpointId hm hu, ?_⟩
    rw [if_pos h, State.mctpReply_of_up hm hu]
    exact ⟨State.onlyRegs_out, rfl⟩
  · exact ⟨_, congrArg Host.Outcome.next (State.mctpReply_of_up hm hu), rfl, State.onlyRegs_out⟩
  · exact ⟨_, congrArg Host.Outcome.next (State.mctpReply_of_up hm hu), ⟨_, by simp, rfl⟩, State.onlyRegs_out⟩
  · exact ⟨_, congrArg Host.Outcome.next (State.mctpReply_of_up hm hu), rfl, State.onlyRegs_out⟩
  · exact ⟨_, congrArg Host.Outcome.next (State.mctpReply_of_up hm hu), rfl, State.onlyRegs_out⟩
  · exact ⟨_, congrArg Host.Outcome.next (if_pos hm), State.setReg_onlyRegs⟩
  · exact congrArg Host.Outcome.next (if_neg (by simp [hm]))
  · exact congrArg Host.Outcome.next (State.mctpReply_of_off hm)
  · obtain ⟨out, ho⟩ : ∃ out, (if pm then s.emit .pmbus [] else s.emit (.mctp 0) []) = { s with out } := by
      split <;> exact State.emit_eq
    exact ⟨_, congrArg Host.Outcome.next ho, State.onlyRegs_out, rfl, rfl⟩

end Sys2Proof

/-! SUPPORT. A device reset as one operation (R665 to R670, R678): what it clears, what it keeps, and what it leaves behind. -/

namespace Sys2Proof.Machine

variable {s t : State}

/-! ### Lists of registers -/

theorem State.setRegs_reg_of_notMem {l : List (Nat × Nat)} {k : Nat} (h : ∀ p ∈ l, k ≠ p.1) : (s.setRegs l).reg k = s.reg k :=
  List.foldlRecOn l _ (motive := fun u : State => u.reg k = s.reg k) rfl fun u hu p hp => (u.reg_setReg_other _ (h p hp)).trans hu

theorem State.certClear_eq : s.certClear = s.setRegs ((List.range 16).map fun i => (R.RESET_BKP i, 0)) := rfl

theorem State.certClear_reg_bkp (i : Fin 16) : s.certClear.reg (R.RESET_BKP i) = 0 := by
  rw [State.certClear_eq]
  have hz {l : List Nat} {u : State} (h : i.val ∈ l ∨ u.reg (R.RESET_BKP i) = 0) :
      (u.setRegs (l.map fun j => (R.RESET_BKP j, 0))).reg (R.RESET_BKP i) = 0 := by
    induction l generalizing u with
    | nil => simpa [State.setRegs] using h
    | cons j l ih =>
      refine ih ?_
      by_cases hj : i.val = j
      · exact .inr (by rw [hj, State.reg_setReg_same]; rfl)
      · refine h.imp (fun h => (List.mem_cons.mp h).resolve_left hj) fun h => ?_
        rw [State.reg_setReg_other _ _ (by simp only [R.RESET_BKP]; omega), h]
  exact hz (.inl (List.mem_range.mpr i.isLt))

theorem State.certClear_reg_other {k : Nat} (h : k < R.RESET_BKP 0 ∨ R.RESET_BKP 16 ≤ k) : s.certClear.reg k = s.reg k := by
  rw [State.certClear_eq]
  refine State.setRegs_reg_of_notMem fun p hp => ?_
  obtain ⟨j, hj, rfl⟩ := List.mem_map.mp hp
  have := List.mem_range.mp hj
  simp only [R.RESET_BKP] at h ⊢
  omega

/-- A walk that only writes registers. -/
theorem State.foldl_setReg_rest {α : Type} {l : List α} {f : State → α → State} (hf : ∀ u a, ∃ regs, f u a = { u with regs }) :
    ∃ regs, l.foldl f s = { s with regs } :=
  List.foldlRecOn l f (motive := fun u => ∃ regs, u = { s with regs }) ⟨_, rfl⟩ fun u ⟨_, hu⟩ a _ => by
    obtain ⟨regs, h⟩ := hf u a
    rw [h, hu]
    exact ⟨regs, rfl⟩

theorem State.certClear_rest : ∃ regs, s.certClear = { s with regs } := by
  rw [State.certClear_eq]
  exact State.foldl_setReg_rest fun _ _ => ⟨_, rfl⟩

/-! ### What a reset clears (R669) -/

theorem State.clearDevice_reg {cold : Bool} {k : Nat} (h : k ≠ R.LIFE_STATUS) :
    (s.clearDevice cold).reg k = if keptReg cold k then s.reg k else regReset k :=
  (State.reg_setReg_other _ _ h).trans spGet_filter

theorem State.clearDevice_byte {cold : Bool} {a : Nat} : (s.clearDevice cold).byte a = if keptByte cold a then s.byte a else 0 := spGet_filter

theorem State.clearDevice_core {cold : Bool} (c : Nat) : ((s.clearDevice cold).core c).inReset = true := by
  have hall : ∀ x ∈ (s.clearDevice cold).cores, x.inReset = true := by
    intro x hx
    obtain hx | hx := List.mem_append.mp hx <;> rw [List.eq_of_mem_replicate hx] <;> rfl
  unfold State.core
  rw [List.getD_eq_getElem?_getD]
  cases h : (s.clearDevice cold).cores[c]? with
  | none => rfl
  | some x => exact hall x (List.mem_of_getElem? h)

/-! ### What every reset ends with (R666) -/

theorem State.lifeState_rest : ∃ regs cores armed, s.lifeState = { s with regs, cores, tm := { s.tm with armed } } := by
  unfold State.lifeState
  dsimp only
  split <;> exact ⟨_, _, _, rfl⟩

theorem State.lifeState_core (c : Nat) : (s.lifeState.core c).inReset = (s.core c).inReset := by
  unfold State.lifeState
  dsimp only
  split
  · rfl
  · simp only [State.core, List.getD_eq_getElem?_getD, List.getElem?_map]
    change (Option.getD (Option.map _ s.cores[c]?) _ : CoreState).inReset = _
    cases s.cores[c]? <;> rfl

section
variable {cause kind : Nat}

/-- The state of a reset begun, the lifecycle's part aside. -/
def State.resetMarked (s : State) (cause kind : Nat) : State :=
  let u : State := { s with
    pins := { s.pins with resetDrv := true, lockup := false }
    pw := { s.pw with inReset := true, endAt := s.now, held := false, started := false, hbm := 0, selfTest := if kind = 0 then 1 else 0,
                      shut := none, drained := false, coming := [] } }
  (((u.setReg R.RESET_CAUSE (w32 cause)).setRegField R.RESET_STATUS 9 8 0).setRegField R.RESET_STATUS 5 4 kind).setRegBit R.RESET_STATUS 2 false

theorem State.resetTail_eq : s.resetTail cause kind = (s.resetMarked cause kind).lifeState := rfl

theorem State.resetTail_rest : ∃ regs cores armed, s.resetTail cause kind = { s with
    regs, cores, tm := { s.tm with armed }, pins := { s.pins with resetDrv := true, lockup := false }
    pw := { s.pw with inReset := true, endAt := s.now, held := false, started := false, hbm := 0, selfTest := if kind = 0 then 1 else 0,
                      shut := none, drained := false, coming := [] } } := by
  rw [State.resetTail_eq]
  obtain ⟨_, _, _, h⟩ := State.lifeState_rest (s := s.resetMarked cause kind)
  exact ⟨_, _, _, h⟩

theorem State.resetTail_core (c : Nat) : ((s.resetTail cause kind).core c).inReset = (s.core c).inReset := State.lifeState_core c

theorem State.resetTail_reg_other {k : Nat} (h : k ∉ [R.RESET_CAUSE, R.RESET_STATUS, R.LIFE_STATUS]) :
    (s.resetTail cause kind).reg k = s.reg k := by
  simp only [List.mem_cons, List.not_mem_nil, or_false, not_or] at h
  obtain ⟨hc, hs, hl⟩ := h
  refine (State.lifeState_reg hl).trans ?_
  rw [State.setRegBit, State.reg_setReg_other _ _ hs, State.setRegField, State.reg_setReg_other _ _ hs, State.setRegField,
    State.reg_setReg_other _ _ hs, State.reg_setReg_other _ _ hc]
  rfl

theorem State.resetTail_cause : (s.resetTail cause kind).reg R.RESET_CAUSE = w32 cause := by
  refine (State.lifeState_reg (by decide)).trans ?_
  rw [State.setRegBit, State.reg_setReg_other _ _ (by decide), State.setRegField, State.reg_setReg_other _ _ (by decide), State.setRegField,
    State.reg_setReg_other _ _ (by decide), State.reg_setReg_same]

theorem State.resetTail_status : (s.resetTail cause kind).reg R.RESET_STATUS =
    setBit (setField (setField (s.reg R.RESET_STATUS) 9 8 0) 5 4 kind) 2 false := by
  refine (State.lifeState_reg (by decide)).trans ?_
  simp only [State.setRegBit, State.setRegField, State.reg_setReg_same, State.reg_setReg_other _ _ (show R.RESET_STATUS ≠ R.RESET_CAUSE by decide)]
  rfl

theorem State.resetTail_kind : (s.resetTail cause kind).regField R.RESET_STATUS 5 4 = kind % 4 := by
  rw [State.regField, State.resetTail_status, setBit, field_setField_other (by decide)]
  exact field_setField_same (by decide)

theorem State.resetTail_certBit : (s.resetTail cause kind).regBit R.RESET_STATUS 1 = s.regBit R.RESET_STATUS 1 := by
  rw [State.regBit, State.resetTail_status, bit_setBit (by decide), bit_setField, bit_setField]
  rfl

/-- A device reset with `cause` has begun, for a start of `kind` (R665, R666). -/
structure State.ResetBegun (t : State) (cause kind : Nat) : Prop where
  cause : t.reg R.RESET_CAUSE = w32 cause
  kind : t.regField R.RESET_STATUS 5 4 = kind % 4
  inReset : t.pw.inReset = true
  held : t.pw.held = false
  resetDrv : t.pins.resetDrv = true
  jobs : t.bt.jobs = []
  errQ : t.ev.errQ = []
  cores : ∀ c : Core, (t.core c).inReset = true

theorem State.resetTail_begun (hj : s.bt.jobs = []) (he : s.ev.errQ = []) (hc : ∀ c : Core, (s.core c).inReset = true) :
    (s.resetTail cause kind).ResetBegun cause kind := by
  have hcores (c : Core) : ((s.resetTail cause kind).core c).inReset = true := (State.resetTail_core c).trans (hc c)
  have hcause := State.resetTail_cause (s := s) (cause := cause) (kind := kind)
  have hkind := State.resetTail_kind (s := s) (cause := cause) (kind := kind)
  obtain ⟨_, _, _, h⟩ := State.resetTail_rest (s := s) (cause := cause) (kind := kind)
  rw [h] at hcause hkind hcores ⊢
  exact ⟨hcause, hkind, rfl, rfl, rfl, hj, he, hcores⟩

theorem State.ResetBegun.events (h : s.ResetBegun cause kind) (hr : s.EventsOnly t) : t.ResetBegun cause kind where
  cause := (hr.reg _ (not_eventReg_of_lt (by decide) (by decide))).trans h.cause
  kind := (State.regField_eq_of_reg (hr.reg _ (not_eventReg_of_lt (by decide) (by decide)))).trans h.kind
  inReset := (congrArg PowerState.inReset hr.pw).trans h.inReset
  held := (congrArg PowerState.held hr.pw).trans h.held
  resetDrv := by
    obtain ⟨_, _, _, _, _, rfl⟩ := hr.rest
    exact h.resetDrv
  jobs := (congrArg BeatState.jobs hr.bt).trans h.jobs
  errQ := hr.errQ.trans h.errQ
  cores c := (congrArg CoreState.inReset (hr.core c)).trans (h.cores c)

/-! ### Warm resets -/

theorem State.warmReset_begun : (s.warmReset cause kind).ResetBegun cause kind := State.resetTail_begun rfl rfl fun c => State.clearDevice_core (s := s) (cold := false) c

/-- A warm reset keeps the registers of RESET and PMU and of the battery domain (R669). -/
theorem State.warmReset_reg_kept {k : Nat} (h : keptReg false k = true) (hk : k ∉ [R.RESET_WARM_COUNT, R.RESET_CAUSE, R.RESET_STATUS, R.LIFE_STATUS]) :
    (s.warmReset cause kind).reg k = s.reg k := by
  obtain ⟨hw, hk⟩ := not_or.mp (mt List.mem_cons.mpr hk)
  have hl : k ≠ R.LIFE_STATUS := fun e => hk (by simp [e])
  rw [State.warmReset, State.resetTail_reg_other hk, State.bump, State.reg_setReg_other _ _ hw, State.clearDevice_reg hl, if_pos h]

theorem State.warmReset_rest : ∃ regs cores armed pins pw, s.warmReset cause kind = { s.clearDevice false with
    regs, cores, pins, pw, tm := { s.tm with resp := 0, armed } } := by
  obtain ⟨_, _, _, h⟩ := State.resetTail_rest (s := (s.clearDevice false).bump R.RESET_WARM_COUNT) (cause := cause) (kind := kind)
  exact ⟨_, _, _, _, _, h⟩

theorem State.warmReset_byte {a : Nat} (h : keptByte false a = true) : (s.warmReset cause kind).byte a = s.byte a := by
  obtain ⟨_, _, _, _, _, he⟩ := State.warmReset_rest (s := s) (cause := cause) (kind := kind)
  have hb : (s.warmReset cause kind).byte a = (s.clearDevice false).byte a := by
    rw [he]
    rfl
  rw [hb, State.clearDevice_byte, if_pos h]

end

/-! ### Cold resets (R678) -/

/-- Pins and power state of a power sequence that starts afresh. -/
def State.powerCleared (s : State) : State :=
  { s with pins := { s.pins with enRail := 0, pgRail := 0, pwroff := false }
           pw := { PowerState.reset with passMask := s.pw.passMask, fallAt := s.pw.fallAt, riseAt := s.pw.riseAt } }

theorem State.powerAfresh_eq : s.powerAfresh = ((List.range 64).filter fun v => !s.powerCleared.present v).foldl
    (fun s v => s.setRegBit (R.PMU_DOM_STATE v) 7 true) (s.powerCleared.setRegField (R.PMU_DOM_STATE 67) 2 0 2) := rfl

theorem State.powerAfresh_rest : ∃ regs, s.powerAfresh = { s with
    regs, pins := { s.pins with enRail := 0, pgRail := 0, pwroff := false }
    pw := { PowerState.reset with passMask := s.pw.passMask, fallAt := s.pw.fallAt, riseAt := s.pw.riseAt } } := by
  rw [State.powerAfresh_eq]
  obtain ⟨regs, h⟩ := State.foldl_setReg_rest (s := s.powerCleared.setRegField (R.PMU_DOM_STATE 67) 2 0 2)
    (l := (List.range 64).filter fun v => !s.powerCleared.present v) (f := fun s v => s.setRegBit (R.PMU_DOM_STATE v) 7 true) fun _ _ => ⟨_, rfl⟩
  exact ⟨regs, h⟩

theorem State.powerAfresh_reg {k : Nat} (h : k < R.PMU_DOM_STATE 0) : s.powerAfresh.reg k = s.reg k := by
  rw [State.powerAfresh_eq]
  refine List.foldlRecOn (motive := fun x : State => x.reg k = s.reg k) _ _ ?_ fun x hx n _ => (x.reg_setReg_other _ ?_).trans hx
  · exact State.reg_setReg_other _ _ (by simp only [R.PMU_DOM_STATE] at h ⊢; omega)
  · simp only [R.PMU_DOM_STATE] at h ⊢
    omega

section
variable {cause : Nat} {quick : Bool}

/-- Whether the certificate that a cold reset examines is valid. -/
def State.coldCertOk (s : State) : Bool := (s.clearDevice true).powerAfresh.certOk

/-- What a cold reset clears, the certificate's registers with it. -/
def State.coldCleared (s : State) : State := (s.clearDevice true).powerAfresh.certClear

/-- What a cold reset takes over from the certificate of `s`. -/
def certTaken (s : State) (ok : Bool) (p : PowerState) : PowerState :=
  let pass := (s.reg (R.RESET_BKP 4)).toNat + 2 ^ 32 * (s.reg (R.RESET_BKP 5)).toNat
  let seen := ((s.reg (R.RESET_BKP 3)).toNat, (s.reg (R.RESET_BKP 6)).toNat)
  { p with passMask := if ok then pass else 2 ^ 64 - 1, certSeen := if ok then some seen else none }

/-- A cold reset up to its event. -/
def State.coldBegun (s : State) (cause : Nat) (quick : Bool) : State :=
  ((s.coldCleared.setRegBit R.RESET_STATUS 1 s.coldCertOk).mapPw (certTaken s s.coldCertOk)).resetTail cause (if s.coldCertOk && quick then 1 else 0)

theorem State.coldReset_eq : s.coldReset cause quick =
    if s.coldCertOk then (if s.coldCertOk && quick then (s.coldBegun cause quick).raise 397 else s.coldBegun cause quick)
    else (s.coldBegun cause quick).raise 398 := rfl

theorem State.coldReset_eventsOnly : (s.coldBegun cause quick).EventsOnly (s.coldReset cause quick) :=
  .ite (.ite (State.raise_eventsOnly (by decide) (by decide)) .refl) (State.raise_eventsOnly (by decide) (by decide))

/-- What a cold reset leaves before its tail: cleared, with the power sequence afresh. -/
theorem State.coldCleared_rest : ∃ regs, s.coldCleared = { s.clearDevice true with
    regs, pins := { s.pins with enRail := 0, pgRail := 0, pwroff := false }
    pw := { PowerState.reset with passMask := s.pw.passMask, fallAt := s.pw.fallAt, riseAt := s.pw.riseAt } } := by
  obtain ⟨_, h⟩ := State.powerAfresh_rest (s := s.clearDevice true)
  obtain ⟨regs, h'⟩ := State.certClear_rest (s := (s.clearDevice true).powerAfresh)
  rw [State.coldCleared, h', h]
  exact ⟨regs, rfl⟩

theorem State.coldBegun_begun : (s.coldBegun cause quick).ResetBegun cause (if s.coldCertOk && quick then 1 else 0) := by
  obtain ⟨_, h⟩ := State.coldCleared_rest (s := s)
  have hcore : ∀ c : Core, ((s.clearDevice true).core c).inReset = true := fun c => State.clearDevice_core (s := s) (cold := true) c
  have hjobs : (s.clearDevice true).bt.jobs = [] := rfl
  have herr : (s.clearDevice true).ev.errQ = [] := rfl
  unfold State.coldBegun
  rw [h]
  generalize s.clearDevice true = d at hcore hjobs herr
  exact State.resetTail_begun hjobs herr hcore

theorem State.coldReset_begun : (s.coldReset cause quick).ResetBegun cause (if s.coldCertOk && quick then 1 else 0) :=
  State.coldBegun_begun.events State.coldReset_eventsOnly

theorem State.coldReset_pins : (s.coldReset cause quick).pins =
    { s.pins with enRail := 0, pgRail := 0, pwroff := false, resetDrv := true, lockup := false } := by
  have hev : (s.coldReset cause quick).pins = (s.coldBegun cause quick).pins := by
    obtain ⟨_, _, _, _, _, h⟩ := (State.coldReset_eventsOnly (s := s) (cause := cause) (quick := quick)).rest
    rw [h]
  have htail {u : State} {kind : Nat} : (u.resetTail cause kind).pins = { u.pins with resetDrv := true, lockup := false } := by
    obtain ⟨_, _, _, h⟩ := State.resetTail_rest (s := u) (cause := cause) (kind := kind)
    rw [h]
  have hclear : s.coldCleared.pins = { s.pins with enRail := 0, pgRail := 0, pwroff := false } := by
    obtain ⟨_, h⟩ := State.coldCleared_rest (s := s)
    rw [h]
  rw [hev, State.coldBegun, htail]
  change ({ s.coldCleared.pins with resetDrv := true, lockup := false } : Pins) = _
  rw [hclear]

/-- A register that the tail of a cold reset leaves. -/
theorem State.coldReset_reg_cleared {k : Nat} (h : k ∉ [R.RESET_CAUSE, R.RESET_STATUS, R.LIFE_STATUS]) (he : ¬ eventReg k) :
    (s.coldReset cause quick).reg k = s.coldCleared.reg k := by
  rw [State.coldReset_eventsOnly.reg _ he, State.coldBegun, State.resetTail_reg_other h]
  rw [State.mapPw_reg, State.setRegBit, State.reg_setReg_other _ _ fun e => h (by simp [e])]

theorem State.coldReset_bkp (i : Fin 16) : (s.coldReset cause quick).reg (R.RESET_BKP i) = 0 := by
  have hi := i.isLt
  have hk : R.RESET_BKP i ∉ [R.RESET_CAUSE, R.RESET_STATUS, R.LIFE_STATUS] := by
    simp only [List.mem_cons, List.not_mem_nil, or_false, R.RESET_BKP, R.RESET_CAUSE, R.RESET_STATUS, R.LIFE_STATUS]
    omega
  have he : ¬ eventReg (R.RESET_BKP i) := by
    simp only [eventReg, R.JOURNAL_EVFIFO, R.RESET_BKP]
    omega
  rw [State.coldReset_reg_cleared hk he, State.coldCleared, State.certClear_reg_bkp]

theorem State.coldReset_certBit : (s.coldReset cause quick).regBit R.RESET_STATUS 1 = s.coldCertOk := by
  rw [State.regBit_eq_of_reg (State.coldReset_eventsOnly.reg _ (not_eventReg_of_lt (by decide) (by decide))), State.coldBegun,
    State.resetTail_certBit, State.regBit_eq_of_reg (State.mapPw_reg _ _ _), State.regBit_setRegBit (by decide), if_pos rfl]

theorem State.coldReset_event (hq : quick = true) : (s.coldReset cause quick).pends (if s.coldCertOk then 397 else 398) := by
  rw [State.coldReset_eq, hq]
  by_cases h : s.coldCertOk = true
  · rw [if_pos h, if_pos h, if_pos (by simp [h])]
    exact State.raise_pends (by decide) (by decide)
  · rw [if_neg h, if_neg h]
    exact State.raise_pends (by decide) (by decide)

end

end Sys2Proof.Machine

/-! SUPPORT. Excursions, trips and burns register by register (R611 to R631). -/

namespace Sys2Proof.Machine

variable {s t u : State}

theorem bit_eq_testBit_field {w : Word} {i : Nat} : bit w i = (field w i i).testBit 0 := by
  rw [testBit_field, Nat.add_zero, Nat.add_sub_cancel_left]
  rfl

/-! ### Burns (R628 to R630) -/

/-- A register that a burn may change: those of events, the evidence and its count. -/
abbrev burnReg (k : Nat) : Prop := eventReg k ∨ k = R.TAMPER_EVID_COUNT ∨ (R.TAMPER_EVID 0 ≤ k ∧ k < R.TAMPER_EVID 8)

theorem State.raiseOnly_reg {n stop data k : Nat} (hn : n < 640) (h : ¬ eventReg k) : (s.raiseOnly n stop data).reg k = s.reg k :=
  (State.EventsOnly.raiseOnly hn).reg k h

/-- The bit burned, with its count and its events. -/
def State.burned (s : State) (i : Nat) : State :=
  let u := ((s.setRegBit (R.TAMPER_EVID (i / 32)) (i % 32) true).setReg R.TAMPER_EVID_COUNT (w32 (i + 1))).raiseOnly 311
  if 240 ≤ i + 1 then u.raiseOnly 313 else u

theorem State.burned_eventsOnly {i : Nat} :
    ((s.setRegBit (R.TAMPER_EVID (i / 32)) (i % 32) true).setReg R.TAMPER_EVID_COUNT (w32 (i + 1))).EventsOnly (s.burned i) :=
  .ite (.trans (.raiseOnly (by decide)) (.raiseOnly (by decide))) (.raiseOnly (by decide))

theorem State.burned_reg {i k : Nat} (hi : i < 256) (hk : ¬ burnReg k) : (s.burned i).reg k = s.reg k := by
  obtain ⟨he, hc, hv⟩ := (by simpa only [burnReg, not_or] using hk : ¬ eventReg k ∧ k ≠ R.TAMPER_EVID_COUNT ∧ ¬ _)
  have hne : k ≠ R.TAMPER_EVID (i / 32) := by
    simp only [R.TAMPER_EVID] at hv ⊢
    omega
  rw [State.burned_eventsOnly.reg k he, State.reg_setReg_other _ _ hc, State.setRegBit, State.reg_setReg_other _ _ hne]

theorem State.burnFrom_succ {f i : Nat} (hi : i < 256) :
    s.burnFrom (f + 1) i = if Config.evidenceBad i then (s.raiseOnly 312).burnFrom f (i + 1) else s.burned i := by
  rw [State.burnFrom, if_neg (by omega)]
  rfl

theorem State.burnFrom_reg {f i k : Nat} (hk : ¬ burnReg k) : (s.burnFrom f i).reg k = s.reg k := by
  induction f generalizing s i with
  | zero => rfl
  | succ f ih =>
    by_cases hi : i < 256
    · rw [State.burnFrom_succ hi]
      split
      · rw [ih, State.raiseOnly_reg (by decide) fun h => hk (.inl h)]
      · exact State.burned_reg hi hk
    · rw [State.burnFrom, if_pos (by omega)]

theorem State.burnFrom_rest {f i : Nat} : ∃ regs mem ev, s.burnFrom f i = { s with regs, mem, ev } := by
  induction f generalizing s i with
  | zero => exact ⟨_, _, _, rfl⟩
  | succ f ih =>
    by_cases hi : i < 256
    · rw [State.burnFrom_succ hi]
      split
      · obtain ⟨_, _, _, _, _, hr⟩ := (State.EventsOnly.raiseOnly (s := s) (n := 312) (stop := 83) (data := 0) (by decide)).rest
        obtain ⟨_, _, _, h⟩ := ih (s := s.raiseOnly 312) (i := i + 1)
        rw [h, hr]
        exact ⟨_, _, _, rfl⟩
      · obtain ⟨_, _, _, _, _, h⟩ := (State.burned_eventsOnly (s := s) (i := i)).rest
        exact ⟨_, _, _, h⟩
    · rw [State.burnFrom, if_pos (by omega)]
      exact ⟨_, _, _, rfl⟩

/-- The first bit from `i` on that verifies is burned. -/
theorem State.burnFrom_evidence {f i j : Nat} (hj : j < 256) (hf : j < i + f) (hi : i ≤ j) (hbad : ∀ k, i ≤ k → k < j → Config.evidenceBad k = true)
    (hgood : Config.evidenceBad j = false) :
    (s.burnFrom f i).regBit (R.TAMPER_EVID (j / 32)) (j % 32) = true ∧ (s.burnFrom f i).reg R.TAMPER_EVID_COUNT = w32 (j + 1) := by
  induction f generalizing s i with
  | zero => omega
  | succ f ih =>
    rw [State.burnFrom_succ (by omega)]
    by_cases h : i = j
    · subst h
      have hne : R.TAMPER_EVID (i / 32) ≠ R.TAMPER_EVID_COUNT := by
        simp only [R.TAMPER_EVID, R.TAMPER_EVID_COUNT]
        omega
      have he : ¬ eventReg (R.TAMPER_EVID (i / 32)) := by
        simp only [eventReg, R.JOURNAL_EVFIFO, R.TAMPER_EVID]
        omega
      rw [hgood, if_neg Bool.false_ne_true, State.regBit_eq_of_reg (State.burned_eventsOnly.reg _ he),
        State.burned_eventsOnly.reg _ (not_eventReg_of_lt (by decide) (by decide)), State.regBit_eq_of_reg (State.reg_setReg_other _ _ hne),
        State.regBit_setRegBit (Nat.mod_lt _ (by decide)), if_pos rfl, State.reg_setReg_same]
      exact ⟨rfl, rfl⟩
    · rw [hbad i le_rfl (by omega), if_pos rfl]
      exact ih (by omega) (by omega) fun k hk => hbad k (by omega)

/-- A burn spends charge, or waits for it; the rest of the device is as before. -/
theorem State.burn_rest : ∃ regs mem ev charge, s.burn = { s with regs, mem, ev, tm := { s.tm with charge } } := by
  unfold State.burn
  split
  · exact ⟨_, _, _, _, rfl⟩
  · obtain ⟨_, _, _, h⟩ := State.burnFrom_rest (s := (s.mapTm fun t => { t with charge := t.charge - 1 }).setRegBit R.TAMPER_LATCH 28 false) (f := 256)
      (i := ((s.mapTm fun t => { t with charge := t.charge - 1 }).reg R.TAMPER_EVID_COUNT).toNat)
    exact ⟨_, _, _, _, h⟩

theorem State.burn_reg {k : Nat} (hk : ¬ burnReg k) (hl : k ≠ R.TAMPER_LATCH) : s.burn.reg k = s.reg k := by
  unfold State.burn
  split
  · exact State.reg_setReg_other _ _ hl
  · exact (State.burnFrom_reg hk).trans (State.reg_setReg_other _ _ hl)

theorem not_burnReg_latch : ¬ burnReg R.TAMPER_LATCH := by
  simp only [burnReg, eventReg, R.TAMPER_LATCH, R.JOURNAL_EVFIFO, R.TAMPER_EVID_COUNT, R.TAMPER_EVID]
  omega

/-- A burn's mark in the latch is bit 28 (R630). -/
theorem State.burn_latch : s.burn.reg R.TAMPER_LATCH = setBit (s.reg R.TAMPER_LATCH) 28 (decide (s.tm.charge = 0)) := by
  unfold State.burn
  split
  next h => rw [State.setRegBit, State.reg_setReg_same, decide_eq_true h]
  next h =>
    rw [State.burnFrom_reg not_burnReg_latch, State.setRegBit, State.reg_setReg_same, decide_eq_false h]
    rfl

/-! ### Latches and responses (R619 to R623) -/

section
variable {m l : Nat}

theorem State.latch_rest : ∃ regs, s.latch m l = { s with regs } := by
  unfold State.latch
  dsimp only
  split <;> exact ⟨_, rfl⟩

theorem State.latch_reg {k : Nat} (h : k ≠ R.TAMPER_LATCH) (ht : k ≠ R.TAMPER_LATCH_TIME) : (s.latch m l).reg k = s.reg k := by
  unfold State.latch
  dsimp only
  rw [State.reg_setReg_other _ _ h]
  split
  · rfl
  · exact State.reg_setReg_other _ _ ht

/-- The word of a latch. -/
def State.latchWord (s : State) (m l : Nat) : Nat :=
  2 ^ 31 + field (s.reg R.TAMPER_LATCH) 28 28 * 2 ^ 28 + min 255 (field (s.reg R.TAMPER_LATCH) 23 16 + 1) * 65536 + m * 256 +
    max l (if bit (s.reg R.TAMPER_LATCH) 31 then field (s.reg R.TAMPER_LATCH) 1 0 else 0)

theorem State.latch_word : (s.latch m l).reg R.TAMPER_LATCH = w32 (s.latchWord m l) := by
  unfold State.latch
  dsimp only
  rw [State.reg_setReg_same, State.latchWord]

theorem field_latchWord {f n y : Nat} (hf : f < 2) (hn : n ≤ 255) (hy : y < 4) (hm : m < 8) :
    field (w32 (2 ^ 31 + f * 2 ^ 28 + n * 65536 + m * 256 + y)) 31 31 = 1 ∧
    field (w32 (2 ^ 31 + f * 2 ^ 28 + n * 65536 + m * 256 + y)) 11 8 = m := by
  simp only [field, BitVec.toNat_ofNat]
  omega

/-- A latch shows that it holds, and the number of its source (R622). -/
theorem State.latch_shows (hm : m < 8) (hl : l < 4) :
    field ((s.latch m l).reg R.TAMPER_LATCH) 31 31 = 1 ∧ field ((s.latch m l).reg R.TAMPER_LATCH) 11 8 = m := by
  have hf : field (s.reg R.TAMPER_LATCH) 28 28 < 2 := by simp only [field]; omega
  have hx : field (s.reg R.TAMPER_LATCH) 1 0 < 4 := by simp only [field]; omega
  rw [State.latch_word, State.latchWord]
  exact field_latchWord hf (Nat.min_le_left _ _) (by split <;> omega) hm

theorem State.cardsOff_rest : ∃ regs cd, s.cardsOff = { s with regs, cd } := ⟨_, _, rfl⟩

theorem State.cardsOff_reg {k : Nat} (h : k < R.CARD_STATUS 0) : s.cardsOff.reg k = s.reg k := by
  have h₀ : k ≠ R.CARD_STATUS 0 := by omega
  have h₁ : k ≠ R.CARD_STATUS 1 := by
    simp only [R.CARD_STATUS] at h ⊢
    omega
  exact (State.reg_setReg_other _ _ h₁).trans (State.reg_setReg_other _ _ h₀)

/-- FAULT_N is asserted, and admission stops. -/
def State.faulted (s : State) : State := { s with pins := { s.pins with fault := true }, bt := { s.bt with stop := true } }

theorem State.faulted_reg {k : Nat} : s.faulted.reg k = s.reg k := rfl

/-- A new response, before its burn: latched, FAULT_N asserted, admission stopped and the cards off (R619). -/
def State.responded (s : State) (m l : Nat) : State := ((s.latch m l).mapTm fun t => { t with resp := l }).faulted.cardsOff

theorem State.responded_rest : ∃ regs cd, s.responded m l = { s with
    regs, cd, tm := { s.tm with resp := l }, pins := { s.pins with fault := true }, bt := { s.bt with stop := true } } := by
  obtain ⟨_, h⟩ := State.latch_rest (s := s) (m := m) (l := l)
  unfold State.responded
  rw [h]
  exact ⟨_, _, rfl⟩

theorem State.responded_reg {k : Nat} (h : k < R.CARD_STATUS 0) : (s.responded m l).reg k = (s.latch m l).reg k := by
  rw [State.responded, State.cardsOff_reg h, State.faulted_reg, State.mapTm_reg]

/-- With room in the evidence, a trip above the response in progress responds and burns. -/
theorem State.respond_of_room (hn : (s.reg R.TAMPER_EVID_COUNT).toNat < 256) :
    s.respond m l = if s.tm.resp = 0 ∨ s.tm.resp < l then (s.responded m l).burn
      else s.setRegField R.TAMPER_LATCH 23 16 (min 255 (s.regField R.TAMPER_LATCH 23 16 + 1)) := by
  have hfull : decide (256 ≤ (s.reg R.TAMPER_EVID_COUNT).toNat) = false := by simpa using hn
  unfold State.respond
  simp only [hfull, Bool.false_eq_true, if_false]
  rfl

/-- With no room in the evidence, a trip above the response in progress scraps the device, and burns nothing (R631). -/
theorem State.respond_of_full (hn : ¬ (s.reg R.TAMPER_EVID_COUNT).toNat < 256) :
    s.respond m l =
      let v := (s.raiseOnly 314).mapTm fun t => { t with scrap := true }
      if v.tm.resp = 0 ∨ v.tm.resp < 2 then v.responded m 2 else v.setRegField R.TAMPER_LATCH 23 16 (min 255 (v.regField R.TAMPER_LATCH 23 16 + 1)) := by
  have hfull : decide (256 ≤ (s.reg R.TAMPER_EVID_COUNT).toNat) = true := by simpa using hn
  unfold State.respond
  simp only [hfull, if_true]
  rfl

/-- A register that a response may change. -/
abbrev respondReg (k : Nat) : Prop := burnReg k ∨ k = R.TAMPER_LATCH ∨ k = R.TAMPER_LATCH_TIME ∨ R.CARD_STATUS 0 ≤ k

theorem State.respond_reg {k : Nat} (hk : ¬ respondReg k) : (s.respond m l).reg k = s.reg k := by
  obtain ⟨hb, hl, ht, hc⟩ := (by simpa only [respondReg, not_or] using hk : ¬ burnReg k ∧ k ≠ R.TAMPER_LATCH ∧ k ≠ R.TAMPER_LATCH_TIME ∧ _)
  have hresp {v : State} {m l : Nat} : (v.responded m l).reg k = v.reg k := by
    rw [State.responded_reg (not_le.mp hc), State.latch_reg hl ht]
  by_cases hn : (s.reg R.TAMPER_EVID_COUNT).toNat < 256
  · rw [State.respond_of_room hn]
    split
    · rw [State.burn_reg hb hl, hresp]
    · exact State.reg_setReg_other _ _ hl
  · rw [State.respond_of_full hn]
    extract_lets v
    have hv : v.reg k = s.reg k := State.raiseOnly_reg (by decide) fun h => hb (.inl h)
    split
    · rw [hresp, hv]
    · rw [State.setRegField, State.reg_setReg_other _ _ hl, hv]

/-! ### Trips (R612, R616, R618) -/

/-- The trip's source with its count cleared. -/
def State.tripped₀ (s : State) (m : Nat) : State := (s.mapTm fun t => { t with times := listSet t.times m [] }).setRegField (R.TAMPER_SRC_STATE m) 27 24 0

theorem State.trip_eq : s.trip m =
    let l := if s.tm.armed then (s.tripped₀ m).regField (R.TAMPER_SRC_CFG m) 1 0 else 0
    if l = 0 then (s.tripped₀ m).raiseOnly (296 + m) else (s.tripped₀ m).respond m l := rfl

theorem State.tripped₀_reg {k : Nat} (h : k ≠ R.TAMPER_SRC_STATE m) : (s.tripped₀ m).reg k = s.reg k := State.reg_setReg_other _ _ h

theorem State.tripped₀_source : field ((s.tripped₀ m).reg (R.TAMPER_SRC_STATE m)) 18 16 = s.regField (R.TAMPER_SRC_STATE m) 18 16 := by
  rw [State.tripped₀, State.setRegField, State.reg_setReg_same, field_setField_other (by decide)]
  rfl

theorem State.trip_reg {k : Nat} (hm : m < 8) (hs : k ≠ R.TAMPER_SRC_STATE m) (hk : ¬ respondReg k) : (s.trip m).reg k = s.reg k := by
  rw [State.trip_eq]
  extract_lets l
  split
  · exact (State.raiseOnly_reg (by omega) fun h => hk (.inl (.inl h))).trans (State.tripped₀_reg hs)
  · exact (State.respond_reg hk).trans (State.tripped₀_reg hs)

/-- One excursion of a source in its count, with its event where these are enabled. -/
def State.excNoted (s : State) (m : Nat) : State :=
  let v := s.bump (R.TAMPER_SRC_EXC m)
  if m ≤ 5 ∧ v.regBit R.TAMPER_CTRL 0 then v.raiseOnly (288 + m) else v

/-- The excursions of a source within its window, beside the one that comes now. -/
def State.recent (s : State) (m : Nat) : List Nat :=
  (s.tm.times.getD m []).filter fun t => decide (s.now < t + s.regField (R.TAMPER_SRC_CFG m) 21 16 * 1000000000)

/-- One excursion of a source, counted but not yet judged. -/
def State.counted (s : State) (m : Nat) : State :=
  let l := (s.excNoted m).now :: (s.excNoted m).recent m
  ((s.excNoted m).mapTm fun t => { t with times := listSet t.times m l }).setRegField (R.TAMPER_SRC_STATE m) 27 24 (min 15 l.length)

section
variable (hm : m < 8)
include hm

theorem State.excNoted_eventsOnly : (s.bump (R.TAMPER_SRC_EXC m)).EventsOnly (s.excNoted m) := .ite (.raiseOnly (by omega)) .refl

theorem State.excNoted_recent : (s.excNoted m).recent m = s.recent m := by
  have hev := State.excNoted_eventsOnly (s := s) hm
  have hcfg : ¬ eventReg (R.TAMPER_SRC_CFG m) ∧ R.TAMPER_SRC_CFG m ≠ R.TAMPER_SRC_EXC m := by
    simp only [eventReg, R.JOURNAL_EVFIFO, R.TAMPER_SRC_CFG, R.TAMPER_SRC_EXC]
    omega
  have hreg : (s.excNoted m).reg (R.TAMPER_SRC_CFG m) = s.reg (R.TAMPER_SRC_CFG m) := by
    rw [hev.reg _ hcfg.1, State.bump, State.reg_setReg_other _ _ hcfg.2]
  have htm : (s.excNoted m).tm = s.tm := by
    obtain ⟨_, _, _, _, _, h⟩ := hev.rest
    rw [h]
    rfl
  rw [State.recent, State.regField, hreg, htm, hev.now]
  rfl

theorem State.counted_reg {k : Nat} (he : ¬ eventReg k) (hx : k ≠ R.TAMPER_SRC_EXC m) (hs : k ≠ R.TAMPER_SRC_STATE m) :
    (s.counted m).reg k = s.reg k := by
  rw [State.counted, State.setRegField, State.reg_setReg_other _ _ hs, State.mapTm_reg, (State.excNoted_eventsOnly hm).reg _ he, State.bump,
    State.reg_setReg_other _ _ hx]

theorem State.counted_exc : (s.counted m).reg (R.TAMPER_SRC_EXC m) = satInc (s.reg (R.TAMPER_SRC_EXC m)) := by
  have hk : ¬ eventReg (R.TAMPER_SRC_EXC m) ∧ R.TAMPER_SRC_EXC m ≠ R.TAMPER_SRC_STATE m := by
    simp only [eventReg, R.JOURNAL_EVFIFO, R.TAMPER_SRC_STATE, R.TAMPER_SRC_EXC]
    omega
  rw [State.counted, State.setRegField, State.reg_setReg_other _ _ hk.2, State.mapTm_reg, (State.excNoted_eventsOnly hm).reg _ hk.1, State.bump,
    State.reg_setReg_same]

theorem State.counted_source : (s.counted m).regField (R.TAMPER_SRC_STATE m) 18 16 = s.regField (R.TAMPER_SRC_STATE m) 18 16 := by
  have hk : ¬ eventReg (R.TAMPER_SRC_STATE m) ∧ R.TAMPER_SRC_STATE m ≠ R.TAMPER_SRC_EXC m := by
    simp only [eventReg, R.JOURNAL_EVFIFO, R.TAMPER_SRC_STATE, R.TAMPER_SRC_EXC]
    omega
  rw [State.counted, State.regField, State.setRegField, State.reg_setReg_same, field_setField_other (by decide), State.mapTm_reg,
    (State.excNoted_eventsOnly hm).reg _ hk.1, State.bump, State.reg_setReg_other _ _ hk.2]
  rfl

theorem State.counted_tm : (s.counted m).tm.resp = s.tm.resp ∧ (s.counted m).tm.armed = s.tm.armed := by
  obtain ⟨_, _, _, _, _, h⟩ := (State.excNoted_eventsOnly (s := s) hm).rest
  rw [State.counted, h]
  exact ⟨rfl, rfl⟩

/-- A source trips at the excursion that brings those within its window to COUNT (R612). -/
theorem State.excursion_eq : s.excursion m =
    if s.regField (R.TAMPER_SRC_CFG m) 11 8 ≤ (s.recent m).length + 1 then (s.counted m).trip m else s.counted m := by
  have hk : ¬ eventReg (R.TAMPER_SRC_CFG m) ∧ R.TAMPER_SRC_CFG m ≠ R.TAMPER_SRC_EXC m ∧ R.TAMPER_SRC_CFG m ≠ R.TAMPER_SRC_STATE m := by
    simp only [eventReg, R.JOURNAL_EVFIFO, R.TAMPER_SRC_CFG, R.TAMPER_SRC_STATE, R.TAMPER_SRC_EXC]
    omega
  obtain ⟨hke, hkx, hks⟩ := hk
  have heq : s.excursion m = if (s.counted m).regField (R.TAMPER_SRC_CFG m) 11 8 ≤ ((s.excNoted m).recent m).length + 1
      then (s.counted m).trip m else s.counted m := rfl
  rw [heq, State.excNoted_recent hm, State.regField_eq_of_reg (State.counted_reg hm hke hkx hks)]

theorem State.excursion_reg {k : Nat} (hx : k ≠ R.TAMPER_SRC_EXC m) (hs : k ≠ R.TAMPER_SRC_STATE m) (hk : ¬ respondReg k) :
    (s.excursion m).reg k = s.reg k := by
  have hc := State.counted_reg (s := s) hm (fun h => hk (.inl (.inl h))) hx hs
  rw [State.excursion_eq hm]
  split
  · rw [State.trip_reg hm hs hk, hc]
  · exact hc

/-- Each excursion is counted once, and shows in its source's state no sensor that did not show there (R611). -/
theorem State.excursion_source : (s.excursion m).reg (R.TAMPER_SRC_EXC m) = satInc (s.reg (R.TAMPER_SRC_EXC m)) ∧
    (s.excursion m).regField (R.TAMPER_SRC_STATE m) 18 16 = s.regField (R.TAMPER_SRC_STATE m) 18 16 := by
  have hx : ¬ respondReg (R.TAMPER_SRC_EXC m) ∧ R.TAMPER_SRC_EXC m ≠ R.TAMPER_SRC_STATE m := by
    simp only [respondReg, burnReg, eventReg, R.JOURNAL_EVFIFO, R.TAMPER_SRC_EXC, R.TAMPER_SRC_STATE, R.TAMPER_EVID_COUNT, R.TAMPER_EVID,
      R.TAMPER_LATCH, R.TAMPER_LATCH_TIME, R.CARD_STATUS]
    omega
  have hs : ¬ respondReg (R.TAMPER_SRC_STATE m) := by
    simp only [respondReg, burnReg, eventReg, R.JOURNAL_EVFIFO, R.TAMPER_SRC_STATE, R.TAMPER_EVID_COUNT, R.TAMPER_EVID,
      R.TAMPER_LATCH, R.TAMPER_LATCH_TIME, R.CARD_STATUS]
    omega
  have htrip {v : State} : (v.trip m).regField (R.TAMPER_SRC_STATE m) 18 16 = v.regField (R.TAMPER_SRC_STATE m) 18 16 := by
    rw [State.trip_eq]
    extract_lets l
    refine Eq.trans (State.regField_eq_of_reg ?_) State.tripped₀_source
    split
    · exact State.raiseOnly_reg (by omega) fun h => hs (.inl (.inl h))
    · exact State.respond_reg hs
  rw [State.excursion_eq hm]
  split
  · rw [State.trip_reg hm hx.2 hx.1, htrip]
    exact ⟨State.counted_exc hm, State.counted_source hm⟩
  · exact ⟨State.counted_exc hm, State.counted_source hm⟩

end

end

/-- The trip that an excursion leads to, at the level its source is set to. -/
theorem State.trip_counted (hm : m < 8) : (s.counted m).trip m =
    if (if s.tm.armed then s.regField (R.TAMPER_SRC_CFG m) 1 0 else 0) = 0 then ((s.counted m).tripped₀ m).raiseOnly (296 + m)
    else ((s.counted m).tripped₀ m).respond m (if s.tm.armed then s.regField (R.TAMPER_SRC_CFG m) 1 0 else 0) := by
  have hk : ¬ eventReg (R.TAMPER_SRC_CFG m) ∧ R.TAMPER_SRC_CFG m ≠ R.TAMPER_SRC_EXC m ∧ R.TAMPER_SRC_CFG m ≠ R.TAMPER_SRC_STATE m := by
    simp only [eventReg, R.JOURNAL_EVFIFO, R.TAMPER_SRC_CFG, R.TAMPER_SRC_STATE, R.TAMPER_SRC_EXC]
    omega
  obtain ⟨hke, hkx, hks⟩ := hk
  have hcfg : ((s.counted m).tripped₀ m).regField (R.TAMPER_SRC_CFG m) 1 0 = s.regField (R.TAMPER_SRC_CFG m) 1 0 :=
    State.regField_eq_of_reg ((State.tripped₀_reg hks).trans (State.counted_reg hm hke hkx hks))
  rw [State.trip_eq, hcfg, (State.counted_tm hm).2]

/-- A response that burns is in progress, latched and shown at FAULT_N (R619, R622). -/
theorem State.responded_burn {l : Nat} (hm : m < 8) (hl : l < 4) : (s.responded m l).burn.tm.resp = l ∧
    (s.responded m l).burn.regBit R.TAMPER_LATCH 31 = true ∧ (s.responded m l).burn.regField R.TAMPER_LATCH 11 8 = m ∧
    (s.responded m l).burn.pins.fault = true ∧ (s.responded m l).burn.bt.stop = true := by
  obtain ⟨h₃₁, h₁₁⟩ := State.latch_shows (s := s) hm hl
  obtain ⟨_, _, hr⟩ := State.responded_rest (s := s) (m := m) (l := l)
  obtain ⟨_, _, _, _, hb⟩ := State.burn_rest (s := s.responded m l)
  have hbit : (s.responded m l).burn.regBit R.TAMPER_LATCH 31 = true := by
    rw [State.regBit, State.burn_latch, State.responded_reg (by decide), bit_setBit (by decide), if_neg (by decide), bit_eq_testBit_field, h₃₁]
    rfl
  have hfield : (s.responded m l).burn.regField R.TAMPER_LATCH 11 8 = m := by
    rw [State.regField, State.burn_latch, State.responded_reg (by decide), setBit, field_setField_other (by decide), h₁₁]
  refine ⟨?_, hbit, hfield, ?_, ?_⟩
  · rw [hb, hr]
  · rw [hb, hr]
  · rw [hb, hr]

/-! ### Monitors (R609 to R611, R643) -/

theorem not_respondReg_status : ¬ respondReg R.TAMPER_STATUS := by
  simp only [respondReg, burnReg, eventReg, R.JOURNAL_EVFIFO, R.TAMPER_STATUS, R.TAMPER_EVID_COUNT, R.TAMPER_EVID, R.TAMPER_LATCH,
    R.TAMPER_LATCH_TIME, R.CARD_STATUS]
  omega

section
variable {m : Fin 5} {on low : Bool} {sensors : BitVec 3} {temp : BitVec 16}

/-- A monitor's voted state and sensors as the registers show them. -/
def State.monitorShown (s : State) (m : Fin 5) (on : Bool) (sensors : BitVec 3) (temp : BitVec 16) : State :=
  let v := (s.setRegBit R.TAMPER_STATUS (16 + m) on).setRegField (R.TAMPER_SRC_STATE m) 18 16 sensors.toNat
  if m.val = 2 then v.setReg R.TAMPER_TEMP (temp.setWidth 32) else v

theorem State.monitorShown_rest : ∃ regs, s.monitorShown m on sensors temp = { s with regs } := by
  unfold State.monitorShown
  dsimp only
  split <;> exact ⟨_, rfl⟩

theorem State.monitorShown_reg : (s.monitorShown m on sensors temp).regBit R.TAMPER_STATUS (16 + m) = on ∧
    (s.monitorShown m on sensors temp).regField (R.TAMPER_SRC_STATE m) 18 16 = sensors.toNat ∧
    (s.monitorShown m on sensors temp).reg (R.TAMPER_SRC_EXC m) = s.reg (R.TAMPER_SRC_EXC m) := by
  have hm := m.isLt
  have hs : R.TAMPER_STATUS ≠ R.TAMPER_SRC_STATE m ∧ R.TAMPER_SRC_STATE m ≠ R.TAMPER_TEMP ∧ R.TAMPER_SRC_EXC m ≠ R.TAMPER_TEMP ∧
      R.TAMPER_SRC_EXC m ≠ R.TAMPER_SRC_STATE m ∧ R.TAMPER_SRC_EXC m ≠ R.TAMPER_STATUS := by
    simp only [R.TAMPER_STATUS, R.TAMPER_SRC_STATE, R.TAMPER_TEMP, R.TAMPER_SRC_EXC]
    omega
  obtain ⟨h₁, h₂, h₃, h₄, h₅⟩ := hs
  have hskip {k : Nat} (hk : k ≠ R.TAMPER_TEMP) : (s.monitorShown m on sensors temp).reg k =
      ((s.setRegBit R.TAMPER_STATUS (16 + m) on).setRegField (R.TAMPER_SRC_STATE m) 18 16 sensors.toNat).reg k := by
    unfold State.monitorShown
    dsimp only
    split
    · exact State.reg_setReg_other _ _ hk
    · rfl
  refine ⟨?_, ?_, ?_⟩
  · rw [State.regBit_eq_of_reg (hskip (by decide)), State.setRegField, State.regBit_eq_of_reg (State.reg_setReg_other _ _ h₁),
      State.regBit_setRegBit (by omega), if_pos rfl]
  · rw [State.regField, hskip h₂, State.setRegField, State.reg_setReg_same, field_setField_same (by decide)]
    exact Nat.mod_eq_of_lt sensors.isLt
  · rw [hskip h₃, State.setRegField, State.reg_setReg_other _ _ h₄, State.setRegBit, State.reg_setReg_other _ _ h₅]

/-- The monitor's time of its last excursion, or none. -/
def State.heldSince (s : State) (m : Nat) (t : Option Nat) : State := s.mapTm fun x => { x with heldAt := x.heldAt.set m t }

theorem State.heldSince_none {m : Nat} : (s.heldSince m none).tm.heldAt.getD m none = none := by
  change (s.tm.heldAt.set m none).getD m none = none
  rw [List.getD_eq_getElem?_getD, List.getElem?_set]
  split
  · split <;> rfl
  · contradiction

theorem exec_monitorAssert (hb : s.tm.onBat = false) (hv : s.pins.vin = true) (hs : voted sensors = true)
    (ha : s.regBit R.TAMPER_STATUS (16 + m) = false) (he : s.exempt m low = false) :
    exec (.monitorAssert m sensors low temp) s =
      .next (((s.monitorShown m true sensors temp).heldSince m (some s.now)).excursion m) := by
  obtain ⟨_, h⟩ := State.monitorShown_rest (s := s) (m := m) (on := true) (sensors := sensors) (temp := temp)
  have hcount : (s.monitorShown m true sensors temp).monitorCount m low =
      ((s.monitorShown m true sensors temp).heldSince m (some s.now)).excursion m := by
    have hx : ((s.monitorShown m true sensors temp).heldSince m (some s.now)).exempt m low = false := by
      rw [h]
      exact he
    have hnow : (s.monitorShown m true sensors temp).now = s.now := by rw [h]
    unfold State.monitorCount
    rw [hnow]
    exact if_neg (by rw [← State.heldSince, hx]; exact Bool.false_ne_true)
  rw [← hcount]
  change execMonitorAssert m sensors low temp s = _
  simp only [execMonitorAssert, hb, hv, hs, ha, Bool.false_eq_true, not_true_eq_false, or_self, if_false]
  rfl

theorem exec_monitorHeld {t₀ : Nat} (ht : s.tm.heldAt.getD m none = some t₀) (ha : s.regBit R.TAMPER_STATUS (16 + m) = true)
    (hb : s.tm.onBat = false) (he : s.exempt m low = false) :
    exec (.monitorHeld m low) s =
      .next ((({ s with now := max s.now (t₀ + 100000000) } : State).heldSince m (some (max s.now (t₀ + 100000000)))).excursion m) := by
  change execMonitorHeld m low s = _
  simp only [execMonitorHeld, ht, ha, hb, Bool.false_eq_true, not_false_eq_true, and_self, if_true]
  refine congrArg Host.Outcome.next (if_neg fun h => ?_)
  exact Bool.false_ne_true (he.symm.trans h)

theorem exec_monitorDeassert (hs : voted sensors = false) (ha : s.regBit R.TAMPER_STATUS (16 + m) = true) :
    exec (.monitorDeassert m sensors temp) s = .next ((s.monitorShown m false sensors temp).heldSince m none) := by
  change execMonitorDeassert m sensors temp s = _
  simp only [execMonitorDeassert, hs, ha, Bool.false_eq_true, not_true_eq_false, or_self, if_false]
  rfl

theorem exec_sensorDissent (hb : s.tm.onBat = false) (hv : s.pins.vin = true) (h₀ : sensors ≠ 0) (h₇ : sensors ≠ 7)
    (hs : voted sensors = s.regBit R.TAMPER_STATUS (16 + m)) : exec (.sensorDissent m sensors) s =
      .next (((s.setRegField (R.TAMPER_SRC_STATE m) 18 16 sensors.toNat).bump (R.TAMPER_SRC_DISSENT m)).raise (304 + m)) := by
  change execSensorDissent m sensors s = _
  simp only [execSensorDissent, hb, hv, h₀, h₇, hs, Bool.false_eq_true, not_true_eq_false, ne_eq, or_self, if_false]

end

end Sys2Proof.Machine

namespace Sys2Proof
open Machine

/-- Settles O24: an excursion is counted once and judged against COUNT; a trip above the response in progress responds at its level. -/
theorem monitorsAndTrips : Obligations.MonitorsAndTrips := by
  refine ⟨fun s m sensors low temp => ?_, fun s m => ?_⟩
  · extract_lets asserted
    have hm := m.isLt
    have hx {v : State} := State.excursion_source (s := v) (m := m) (by omega)
    have hstatus {v : State} : (v.excursion m).regBit R.TAMPER_STATUS (16 + m) = v.regBit R.TAMPER_STATUS (16 + m) :=
      State.regBit_eq_of_reg (State.excursion_reg (by omega) (by simp only [R.TAMPER_STATUS, R.TAMPER_SRC_EXC]; omega)
        (by simp only [R.TAMPER_STATUS, R.TAMPER_SRC_STATE]; omega) not_respondReg_status)
    refine ⟨fun hb hv hs ha he => ?_, fun t₀ ht ha hb he => ?_, fun hs ha => ?_, fun hb hv h₀ h₇ hs => ?_⟩
    · refine ⟨_, exec_monitorAssert hb hv hs ha he, ?_, ?_, ?_⟩
      all_goals obtain ⟨hstat, hstate, hexc⟩ := State.monitorShown_reg (s := s) (m := m) (on := true) (sensors := sensors) (temp := temp)
      · rw [hstatus]
        exact hstat
      · rw [hx.2]
        exact hstate
      · rw [hx.1]
        exact congrArg satInc hexc
    · refine ⟨_, exec_monitorHeld ht ha hb he, hx.1, ?_⟩
      obtain ⟨_, _, _, _, _, _, _, h⟩ := (State.ExcursionOnly.excursion (s := ({ s with now := max s.now (t₀ + 100000000) } : State).heldSince m
        (some (max s.now (t₀ + 100000000)))) (m := m) (by omega) .refl).rest
      rw [h]
      rfl
    · obtain ⟨hstat, -, hexc⟩ := State.monitorShown_reg (s := s) (m := m) (on := false) (sensors := sensors) (temp := temp)
      exact ⟨_, exec_monitorDeassert hs ha, hstat, hexc, State.heldSince_none⟩
    · have hk : ¬ eventReg (R.TAMPER_SRC_DISSENT m) ∧ ¬ eventReg (R.TAMPER_SRC_EXC m) ∧ R.TAMPER_SRC_DISSENT m ≠ R.TAMPER_SRC_STATE m ∧
          R.TAMPER_SRC_EXC m ≠ R.TAMPER_SRC_DISSENT m ∧ R.TAMPER_SRC_EXC m ≠ R.TAMPER_SRC_STATE m := by
        simp only [eventReg, R.JOURNAL_EVFIFO, R.TAMPER_SRC_DISSENT, R.TAMPER_SRC_EXC, R.TAMPER_SRC_STATE]
        omega
      obtain ⟨hde, hxe, hds, hxd, hxs⟩ := hk
      have hn : 304 + m.val ∉ [318, 263, 269] := by
        simp
        omega
      have hev := State.raise_eventsOnly (s := (s.setRegField (R.TAMPER_SRC_STATE m) 18 16 sensors.toNat).bump (R.TAMPER_SRC_DISSENT m))
        (stop := 83) (data := 0) (show 304 + m.val < 640 by omega) hn
      refine ⟨_, exec_sensorDissent hb hv h₀ h₇ hs, ?_, State.raise_pends (by omega) hn, ?_⟩
      · rw [hev.reg _ hde, State.bump, State.reg_setReg_same, State.setRegField, State.reg_setReg_other _ _ hds]
      · rw [hev.reg _ hxe, State.bump, State.reg_setReg_other _ _ hxd, State.setRegField, State.reg_setReg_other _ _ hxs]
  · extract_lets cfg recent level t
    have hm := m.isLt
    have hex : t = if field cfg 11 8 ≤ recent.length + 1 then (s.counted m).trip m else s.counted m := State.excursion_eq hm
    have hlatch : (s.counted m).reg R.TAMPER_LATCH = s.reg R.TAMPER_LATCH := State.counted_reg hm (not_eventReg_of_lt (by decide) (by decide))
      (by simp only [R.TAMPER_LATCH, R.TAMPER_SRC_EXC]; omega) (by simp only [R.TAMPER_LATCH, R.TAMPER_SRC_STATE]; omega)
    obtain ⟨hresp, harmed⟩ := State.counted_tm (s := s) hm
    have htrip := State.trip_counted (s := s) hm
    refine ⟨fun h => ?_, fun h hl => ?_, fun h ha hr hn => ?_⟩
    · rw [hex, if_neg (by omega)]
      exact ⟨hresp, hlatch⟩
    · have hzero : (if s.tm.armed then s.regField (R.TAMPER_SRC_CFG m) 1 0 else 0) = 0 := by
        obtain hl | hl := hl
        · rw [hl, if_neg Bool.false_ne_true]
        · exact ite_eq_right_iff.mpr fun _ => hl
      rw [hex, if_pos h, htrip, if_pos hzero]
      refine ⟨?_, ?_⟩
      · obtain ⟨_, _, _, _, _, he⟩ := (State.EventsOnly.raiseOnly (s := (s.counted m).tripped₀ m) (stop := 83) (data := 0)
          (show 296 + m.val < 640 by omega)).rest
        rw [he]
        exact hresp
      · exact (State.EventsOnly.raiseOnly_of_pendEvent (by omega)).pend _ (by omega) State.pendEvent_pends
    · have hlevel : (if s.tm.armed then s.regField (R.TAMPER_SRC_CFG m) 1 0 else 0) = level := by rw [ha, if_pos rfl]; rfl
      have hl4 : level < 4 := by
        simp only [level, field]
        omega
      rw [hex, if_pos h, htrip, hlevel, if_neg (by omega)]
      have hn' : (((s.counted m).tripped₀ m).reg R.TAMPER_EVID_COUNT).toNat < 256 := by
        rwa [State.tripped₀_reg (by simp only [R.TAMPER_EVID_COUNT, R.TAMPER_SRC_STATE]; omega),
          State.counted_reg hm (not_eventReg_of_lt (by decide) (by decide)) (by simp only [R.TAMPER_EVID_COUNT, R.TAMPER_SRC_EXC]; omega)
            (by simp only [R.TAMPER_EVID_COUNT, R.TAMPER_SRC_STATE]; omega)]
      have hr' : ((s.counted m).tripped₀ m).tm.resp < level := hresp.trans_lt hr
      rw [State.respond_of_room hn', if_pos (.inr hr')]
      exact State.responded_burn hm hl4

end Sys2Proof

/-! SUPPORT. The ends of tamper responses, burns that waited, sampling on battery, and the battery domain (R613 to R640). -/

namespace Sys2Proof.Machine

variable {s t u : State}

/-! ### The ends of the responses (R619 to R621) -/

theorem State.scrapIf_rest : ∃ regs scrap, s.scrapIf = { s with regs, tm := { s.tm with scrap } } := by
  unfold State.scrapIf
  split <;> exact ⟨_, _, rfl⟩

theorem State.scrapIf_reg {k : Nat} (h : k ≠ R.LIFE_STATUS) : s.scrapIf.reg k = s.reg k := by
  unfold State.scrapIf
  split
  · exact State.reg_setReg_other _ _ h
  · rfl

/-- The certificate's registers are zero, the response's done bit is set, and the device resets. -/
def State.responseEnded (s : State) (i : Nat) : State := ((s.certClear.setRegBit R.TAMPER_LATCH i true).scrapIf).warmReset 10 0

theorem keptReg_tamperLatch : keptReg false R.TAMPER_LATCH = true := by decide

theorem keptReg_bkp : ∀ i : Fin 16, keptReg false (R.RESET_BKP i) = true := by decide

theorem State.responseEnded_facts {i : Nat} (hi : i < 32) :
    (s.responseEnded i).regBit R.TAMPER_LATCH i = true ∧ (s.responseEnded i).tm.resp = 0 ∧ (s.responseEnded i).pw.inReset = true ∧
    (s.responseEnded i).reg R.RESET_CAUSE = 10 ∧ ∀ j : Fin 16, (s.responseEnded i).reg (R.RESET_BKP j) = 0 := by
  have hb := State.warmReset_begun (s := (s.certClear.setRegBit R.TAMPER_LATCH i true).scrapIf) (cause := 10) (kind := 0)
  obtain ⟨_, _, _, _, _, hr⟩ := State.warmReset_rest (s := (s.certClear.setRegBit R.TAMPER_LATCH i true).scrapIf) (cause := 10) (kind := 0)
  refine ⟨?_, ?_, hb.inReset, hb.cause, fun j => ?_⟩
  · rw [State.responseEnded, State.regBit_eq_of_reg (State.warmReset_reg_kept keptReg_tamperLatch (by decide)),
      State.regBit_eq_of_reg (State.scrapIf_reg (by decide)), State.regBit_setRegBit hi, if_pos rfl]
  · rw [State.responseEnded, hr]
  · have hj := j.isLt
    have hk : R.RESET_BKP j ∉ [R.RESET_WARM_COUNT, R.RESET_CAUSE, R.RESET_STATUS, R.LIFE_STATUS] := by
      simp only [List.mem_cons, List.not_mem_nil, or_false, R.RESET_BKP, R.RESET_WARM_COUNT, R.RESET_CAUSE, R.RESET_STATUS, R.LIFE_STATUS]
      omega
    have hl : R.RESET_BKP j ≠ R.LIFE_STATUS ∧ R.RESET_BKP j ≠ R.TAMPER_LATCH := by
      simp only [R.RESET_BKP, R.LIFE_STATUS, R.TAMPER_LATCH]
      omega
    rw [State.responseEnded, State.warmReset_reg_kept (keptReg_bkp j) hk, State.scrapIf_reg hl.1, State.setRegBit,
      State.reg_setReg_other _ _ hl.2, State.certClear_reg_bkp]

theorem State.warmReset_stores {cause kind : Nat} : (s.warmReset cause kind).ks.drk = s.ks.drk ∧
    (s.warmReset cause kind).jn.signKey = s.jn.signKey ∧ (s.warmReset cause kind).deep = s.deep := by
  obtain ⟨_, _, _, _, _, hr⟩ := State.warmReset_rest (s := s) (cause := cause) (kind := kind)
  rw [hr]
  exact ⟨rfl, rfl, rfl⟩

theorem State.responseEnded_stores {i : Nat} : (s.responseEnded i).ks.drk = s.ks.drk ∧ (s.responseEnded i).jn.signKey = s.jn.signKey ∧
    (s.responseEnded i).deep = s.deep := by
  obtain ⟨hk, hj, hd⟩ := State.warmReset_stores (s := (s.certClear.setRegBit R.TAMPER_LATCH i true).scrapIf) (cause := 10) (kind := 0)
  obtain ⟨_, hc⟩ := State.certClear_rest (s := s)
  obtain ⟨_, _, hs⟩ := State.scrapIf_rest (s := s.certClear.setRegBit R.TAMPER_LATCH i true)
  rw [State.responseEnded, hk, hj, hd, hs, hc]
  exact ⟨rfl, rfl, rfl⟩

theorem exec_clearResponseDone (h : s.tm.resp = 1) : exec .clearResponseDone s = .next (s.journalCommitAll.journalDrain.responseEnded 29) := by
  change execClearResponseDone s = _
  simp only [execClearResponseDone, h, ne_eq, not_true_eq_false, if_false]
  rfl

theorem exec_eraseResponseDone (h : s.tm.resp = 2) : exec .eraseResponseDone s = .next (s.eraseRoots.responseEnded 30) := by
  change execEraseResponseDone s = _
  simp only [execEraseResponseDone, h, ne_eq, not_true_eq_false, if_false]
  rfl

/-! ### Erased roots (R620) -/

/-- The deep store holds no copy of record `id`. -/
def DeepStore.lacks (p : DeepStore) (id : Nat) : Prop := ∀ c ∈ p.copies, c.off ∉ [0, 1, 2].map (deepAt id)

theorem State.deepErase_lacks {id : Nat} : (s.deepErase id).deep.lacks id := by
  intro c hc
  simpa using (List.mem_filter.mp hc).2

theorem DeepStore.lacks.deepErase {id j : Nat} (h : s.deep.lacks id) : (s.deepErase j).deep.lacks id :=
  fun c hc => h c (List.mem_filter.mp hc).1

theorem DeepStore.lacks.at {p : DeepStore} {id k : Nat} (h : p.lacks id) (hk : k ∈ [0, 1, 2]) : p.at (deepAt id k) = none := by
  have hf : p.copies.find? (fun c => c.off == deepAt id k) = none := by
    refine List.find?_eq_none.mpr fun c hc he => h c hc ?_
    rw [beq_iff_eq.mp he]
    exact List.mem_map_of_mem hk
  rw [DeepStore.at, hf]
  rfl

theorem DeepStore.lacks.choose {p : DeepStore} {id : Nat} (h : p.lacks id) : p.choose id = none := by
  have hv : p.valid id = [] := by
    unfold DeepStore.valid
    rw [List.filterMap_eq_nil_iff.mpr fun k hk => h.at hk]
    rfl
  unfold DeepStore.choose DeepStore.conflict
  rw [hv]
  rfl

theorem State.eraseRoots_facts : s.eraseRoots.ks.drk = none ∧ s.eraseRoots.jn.signKey = none ∧ s.eraseRoots.deepData 0x0001 = none := by
  refine ⟨rfl, rfl, ?_⟩
  have hl : s.eraseRoots.deep.lacks 0x0001 := by
    rw [State.eraseRoots, State.mapJn_deep, State.mapKs_deep, List.cons_append, List.foldl_cons]
    exact List.foldlRecOn _ _ (motive := fun u : State => u.deep.lacks 0x0001) State.deepErase_lacks fun _ h _ _ => h.deepErase
  rw [State.deepData, hl.choose]
  rfl

/-! ### Acknowledgement, burns and samples (R613, R625, R630) -/

theorem exec_tamperAck {who : Sender} {v : Word} (h : s.wardenAt who .store R.TAMPER_ACK) (hv : bit v 0 = true) :
    exec (.tamperAck who v) s = .next s.tamperAck := by
  refine congrArg Host.Outcome.next (?_ : s.wr who R.TAMPER_ACK v = _)
  rw [State.wr_control (r := { key := 0x100800010, wo := 0x1 }) h rfl (by decide) (by decide) (by decide)]
  exact if_pos hv

/-- A latch that shows no work undone is acknowledged (R625). -/
theorem State.tamperAck_of_done (hb : bit (s.reg R.TAMPER_LATCH) 28 = false)
    (hd : bit (s.reg R.TAMPER_LATCH) 31 = true → bit (s.reg R.TAMPER_LATCH) 30 = true ∨
      (field (s.reg R.TAMPER_LATCH) 1 0 ≠ 2 ∧ bit (s.reg R.TAMPER_LATCH) 29 = true)) :
    s.tamperAck = s.setReg R.TAMPER_LATCH (setField (setField (s.reg R.TAMPER_LATCH) 31 29 0) 23 16 0) := by
  unfold State.tamperAck
  extract_lets w undone
  have hu : undone = false := by
    change bit w 28 = false at hb
    unfold undone
    rw [hb, Bool.false_or]
    cases h₃₁ : bit w 31
    · rfl
    · obtain h | ⟨h, h₂₉⟩ := hd h₃₁
      · change bit w 30 = true at h
        simp [h]
      · change bit w 29 = true at h₂₉
        change field w 1 0 ≠ 2 at h
        simp [h, h₂₉]
  rw [hu]
  exact if_neg Bool.false_ne_true

theorem exec_evidenceBurnPending (h : s.pins.vin = true ∨ s.pins.vbat = true) (hb : bit (s.reg R.TAMPER_LATCH) 28 = true) :
    exec .evidenceBurnPending s = .next (s.mapTm fun t => { t with charge := 2 }).burn := by
  refine congrArg Host.Outcome.next ((if_pos h).trans (if_pos hb))

theorem exec_batterySample_clear {m : Fin 5} (hb : s.tm.onBat = true) (ha : s.tm.alive = true) :
    exec (.batterySample m false) s = .next (s.mapTm fun t => { t with samples := t.samples.set m 0 }) := by
  change execBatterySample m false s = _
  simp [execBatterySample, hb, ha]

/-- A trip on battery latches and burns (R613, R624). -/
theorem State.batteryTrip_of_room {m : Nat} (hx : s.tm.armed = true) (hl : s.regField (R.TAMPER_SRC_CFG m) 1 0 ≠ 0)
    (hn : (s.reg R.TAMPER_EVID_COUNT).toNat < 256) (h₃₁ : bit (s.reg R.TAMPER_LATCH) 31 = false) : s.batteryTrip m =
      ((s.mapTm fun t => { t with samples := t.samples.set m 0 }).latch m (s.regField (R.TAMPER_SRC_CFG m) 1 0)).burn := by
  unfold State.batteryTrip
  extract_lets v full l w x y
  have hfull : full = false := decide_eq_false (not_le.mpr hn)
  have hlevel : l = s.regField (R.TAMPER_SRC_CFG m) 1 0 := if_neg (by simp [hfull])
  have hw : w = v := if_neg (by simp [hfull])
  have hx' : x = s.reg R.TAMPER_LATCH := (congrArg (State.reg · R.TAMPER_LATCH) hw).trans rfl
  rw [if_neg (by rw [hlevel, not_or]; exact ⟨not_not.mpr hx, hl⟩), if_neg (by rw [hx', h₃₁]; simp), hfull, if_neg Bool.false_ne_true]
  unfold y
  rw [hw, hlevel]

theorem State.latch_burn {m l : Nat} (hm : m < 8) (hl : l < 4) : (s.latch m l).burn.regBit R.TAMPER_LATCH 31 = true ∧
    (s.latch m l).burn.regField R.TAMPER_LATCH 11 8 = m ∧ (s.latch m l).burn.tm.resp = s.tm.resp := by
  obtain ⟨h₃₁, h₁₁⟩ := State.latch_shows (s := s) hm hl
  refine ⟨?_, ?_, ?_⟩
  · rw [State.regBit, State.burn_latch, bit_setBit (by decide), if_neg (by decide), bit_eq_testBit_field, h₃₁]
    rfl
  · rw [State.regField, State.burn_latch, setBit, field_setField_other (by decide), h₁₁]
  · obtain ⟨_, h⟩ := State.latch_rest (s := s) (m := m) (l := l)
    obtain ⟨_, _, _, _, hb⟩ := State.burn_rest (s := s.latch m l)
    rw [hb, h]

/-- COUNT samples in a row are a trip. -/
theorem exec_batterySample_trip {m : Fin 5} (hb : s.tm.onBat = true) (ha : s.tm.alive = true)
    (hc : s.regField (R.TAMPER_SRC_CFG m) 11 8 ≤ s.tm.samples.getD m 0 + 1) : exec (.batterySample m true) s =
      .next ((s.mapTm fun t => { t with samples := t.samples.set m (s.tm.samples.getD m 0 + 1) }).batteryTrip m) := by
  change execBatterySample m true s = _
  simp only [execBatterySample, hb, ha, not_true_eq_false, or_self, if_false]
  exact congrArg Host.Outcome.next (if_pos hc)

/-! ### The battery domain (R615, R626, R638, R640) -/

/-- The battery domain after its first application, and without any supply. -/
def State.batteryAfresh (s : State) (vbat : Bool) : State :=
  ({ s with pins := { s.pins with vbat } } : State).batteryFirst.mapTm fun t =>
    if vbat then { t with alive := true, rtcAt := s.now, onBat := !s.pins.vin, times := List.replicate 8 [], samples := List.replicate 8 0
                          heldAt := List.replicate 8 none, charge := 2 }
    else { t with alive := false, onBat := false, times := List.replicate 8 [], samples := List.replicate 8 0
                  heldAt := List.replicate 8 none, charge := 0 }

theorem exec_vbatLow (hb : s.pins.vbat = true) : exec .vbatLow s =
    .next (if s.pins.vin then (s.setRegBit R.TAMPER_STATUS 2 true).raise 315 else s.setRegBit R.TAMPER_STATUS 2 true) :=
  congrArg Host.Outcome.next (if_neg (by simp [hb]))

theorem exec_vbatFirstApplied (hb : s.pins.vbat = false) (ha : s.tm.alive = false) : exec .vbatFirstApplied s = .next (s.batteryAfresh true) := by
  change execVbatFirstApplied s = _
  simp only [execVbatFirstApplied, hb, ha, Bool.false_eq_true, if_false]
  rfl

theorem exec_vbatRemoved (hv : s.pins.vin = false) : exec .vbatRemoved s = .next (s.batteryAfresh false) := by
  refine congrArg Host.Outcome.next (if_neg ?_)
  exact fun h => Bool.false_ne_true (hv.symm.trans h)

theorem State.batteryFirst_reg {k : Nat} : s.batteryFirst.reg k = if firstValueReg k then regReset k else s.reg k := by
  refine (spGet_filter (p := fun a => !firstValueReg a)).trans ?_
  cases firstValueReg k <;> rfl

theorem regReset_srcCfg : ∀ m : Fin 8, firstValueReg (R.TAMPER_SRC_CFG m) = true ∧ regReset (R.TAMPER_SRC_CFG m) = w32 (tamperSrcCfg m) := by decide

theorem State.batteryAfresh_reg {vbat : Bool} {k : Nat} : (s.batteryAfresh vbat).reg k = if firstValueReg k then regReset k else s.reg k :=
  State.batteryFirst_reg (s := { s with pins := { s.pins with vbat } })

/-- VIN_CORE has gone: what is volatile is cleared. -/
def State.volatileLost (s : State) : State :=
  let u : State := { s.clearDevice true with
    pins := { Pins.reset with resetDrv := false, vin := false, vbat := s.pins.vbat }, pw := PowerState.reset }
  ((u.mapTm fun t => { t with resp := 0, onBat := s.pins.vbat, times := List.replicate 8 [], samples := List.replicate 8 0
                              heldAt := List.replicate 8 none }).setRegField R.TAMPER_STATUS 20 16 0).setReg R.TAMPER_TEMP 0

/-- VIN_CORE has gone, and with it the battery domain where VBAT is absent. -/
def State.mainPowerLost (s : State) : State :=
  if s.pins.vbat then s.volatileLost else s.volatileLost.batteryFirst.mapTm fun t => { t with alive := false, charge := 0 }

theorem State.volatileLost_byte {a : Nat} : s.volatileLost.byte a = if keptByte true a then s.byte a else 0 := State.clearDevice_byte (cold := true)

theorem State.mainPowerLost_reg_latch (hb : s.pins.vbat = true) : s.mainPowerLost.reg R.TAMPER_LATCH = s.reg R.TAMPER_LATCH := by
  rw [State.mainPowerLost, if_pos hb, State.volatileLost, State.reg_setReg_other _ _ (by decide), State.setRegField,
    State.reg_setReg_other _ _ (by decide), State.mapTm_reg]
  exact (State.clearDevice_reg (s := s) (cold := true) (by decide)).trans (if_pos (by decide))

theorem exec_lossOfMainPower (hv : s.pins.vin = true) : exec .lossOfMainPower s = .next (s.mainPowerLost) := by
  change execLossOfMainPower s = _
  simp only [execLossOfMainPower, hv, not_true_eq_false, if_false]
  rfl

/-! ### Power-on reset (R615, R624, R626, R650) -/

/-- A latch that shows nothing undone leaves nothing to complete (R624). -/
theorem State.latchComplete_of_clean (h₃₁ : s.regBit R.TAMPER_LATCH 31 = false) (h₂₈ : s.regBit R.TAMPER_LATCH 28 = false)
    (hs : s.tm.scrap = false) : s.latchComplete = s := by
  unfold State.latchComplete State.scrapIf
  simp only [State.regBit] at h₃₁ h₂₈
  simp [h₃₁, h₂₈, hs]

/-- The always-on domain with VIN_CORE present and the alive pattern found. -/
def State.poweredOn (s : State) : State :=
  ({ s with pins := { s.pins with vin := true } } : State).mapTm fun t =>
    { t with charge := 2, onBat := false, times := List.replicate 8 [], samples := List.replicate 8 0, heldAt := List.replicate 8 none }

theorem exec_powerOnReset (hv : s.pins.vin = false) (ha : s.tm.alive = true) (hs : s.tm.scrap = false)
    (h₃₁ : s.regBit R.TAMPER_LATCH 31 = false) (h₂₈ : s.regBit R.TAMPER_LATCH 28 = false) : exec .powerOnReset s =
      .next (if (s.poweredOn.coldReset 1 true).regBit R.TAMPER_STATUS 2 then (s.poweredOn.coldReset 1 true).raise 315
        else s.poweredOn.coldReset 1 true) := by
  have hclean : s.poweredOn.latchComplete = s.poweredOn := State.latchComplete_of_clean h₃₁ h₂₈ hs
  have hlost : (!s.poweredOn.tm.alive) = false := by
    change (!s.tm.alive) = false
    rw [ha]
    rfl
  have hex : exec .powerOnReset s = .next (
      let lost := !s.poweredOn.tm.alive
      let u := ((if lost then s.poweredOn.batteryLoss else s.poweredOn).latchComplete).coldReset 1 true
      let u := if lost ∧ u.lifeOf ≠ 4 then u.raise 310 else u
      if u.regBit R.TAMPER_STATUS 2 then u.raise 315 else u) := by
    refine congrArg Host.Outcome.next (if_neg ?_)
    exact fun h => Bool.false_ne_true (hv.symm.trans h.1)
  rw [hex, hlost]
  simp only [Bool.false_eq_true, false_and, if_false, hclean]

end Sys2Proof.Machine

namespace Sys2Proof
open Machine

/-- Settles O25: each response ends in a device reset with its done bit; a burn that waited is made at the first bit that verifies. -/
theorem tamperResponses : Obligations.TamperResponses := by
  intro s latch n
  refine ⟨fun h => ?_, fun h => ?_, fun who v hw hv hb hd => ?_, fun hp hb hn => ?_, fun m hb ha => ⟨?_, fun hc hx hl hn h₃₁ => ?_⟩⟩
  · exact ⟨_, exec_clearResponseDone h, State.responseEnded_facts (by decide)⟩
  · obtain ⟨hlatch, hresp, hreset, hcause, -⟩ := State.responseEnded_facts (s := s.eraseRoots) (i := 30) (by decide)
    obtain ⟨hk, hj, hd⟩ := State.responseEnded_stores (s := s.eraseRoots) (i := 30)
    obtain ⟨hdrk, hsign, hroot⟩ := State.eraseRoots_facts (s := s)
    refine ⟨_, exec_eraseResponseDone h, hlatch, hresp, hreset, hcause, hk.trans hdrk, hj.trans hsign, ?_⟩
    rw [State.deepData, hd]
    exact hroot
  · refine ⟨_, exec_tamperAck hw hv, ?_⟩
    rw [State.tamperAck_of_done hb hd]
    refine ⟨?_, ?_, ?_, State.setReg_onlyRegs.2⟩
    · rw [State.regField, State.reg_setReg_same, field_setField_other (by decide)]
      exact field_setField_same (by decide)
    · rw [State.regField, State.reg_setReg_same]
      exact field_setField_same (by decide)
    · rw [State.regField, State.reg_setReg_same, field_setField_other (by decide), field_setField_other (by decide)]
  · have hburn : (s.mapTm fun t => { t with charge := 2 }).burn =
        ((s.mapTm fun t => { t with charge := 1 }).setRegBit R.TAMPER_LATCH 28 false).burnFrom 256 n := rfl
    refine ⟨_, exec_evidenceBurnPending hp hb, ?_, ?_, fun i hi hi' hbad hgood => ?_⟩
    · rw [State.regBit, State.burn_latch, bit_setBit (by decide), if_pos rfl]
      rfl
    · obtain ⟨_, _, _, h⟩ := State.burnFrom_rest (s := (s.mapTm fun t => { t with charge := 1 }).setRegBit R.TAMPER_LATCH 28 false) (f := 256) (i := n)
      rw [hburn, h]
      rfl
    · rw [hburn]
      exact State.burnFrom_evidence hi' (by omega) hi hbad hgood
  · refine ⟨_, exec_batterySample_clear hb ha, ?_, rfl, rfl, fun _ _ => rfl⟩
    change (s.tm.samples.set m 0).getD m 0 = 0
    rw [List.getD_eq_getElem?_getD, List.getElem?_set, if_pos rfl]
    split <;> rfl
  · have hm := m.isLt
    have hl4 : s.regField (R.TAMPER_SRC_CFG m) 1 0 < 4 := by
      simp only [State.regField, field]
      omega
    refine ⟨_, exec_batterySample_trip hb ha hc, ?_⟩
    have htrip := State.batteryTrip_of_room (s := s.mapTm fun t => { t with samples := t.samples.set m (s.tm.samples.getD m 0 + 1) }) hx hl hn h₃₁
    exact htrip ▸ State.latch_burn (by omega) hl4

/-- Settles O26: what the supplies' coming and going leaves of the battery domain, and the cold reset of power-on. -/
theorem batteryDomain : Obligations.BatteryDomain := by
  intro s
  refine ⟨fun hb => ?_, fun hb ha => ?_, fun hv => ?_, fun hv => ?_, fun hv ha hsc h₃₁ h₂₈ => ?_⟩
  · have hbit : (s.setRegBit R.TAMPER_STATUS 2 true).regBit R.TAMPER_STATUS 2 = true := (State.regBit_setRegBit (by decide)).trans (if_pos rfl)
    refine ⟨_, exec_vbatLow hb, ?_, fun hv => ?_⟩
    · split
      · exact (State.regBit_eq_of_reg ((State.raise_eventsOnly (by decide) (by decide)).reg _ (not_eventReg_of_lt (by decide) (by decide)))).trans hbit
      · exact hbit
    · rw [if_pos hv]
      exact State.raise_pends (by decide) (by decide)
  · refine ⟨_, exec_vbatFirstApplied hb ha, rfl, rfl, rfl, ?_, fun m => ?_⟩
    · rw [State.batteryAfresh_reg, if_neg (by decide)]
    · obtain ⟨hf, hr⟩ := regReset_srcCfg m
      rw [State.batteryAfresh_reg, if_pos hf, hr]
  · refine ⟨_, exec_vbatRemoved hv, rfl, rfl, ?_, ?_⟩
    · rw [State.batteryAfresh_reg, if_pos (by decide)]
      rfl
    · rw [State.batteryAfresh_reg, if_neg (by decide)]
  · refine ⟨_, exec_lossOfMainPower hv, ?_, ?_, ?_, ?_, fun p h₀ h₁ => ?_, State.mainPowerLost_reg_latch⟩
    all_goals unfold State.mainPowerLost
    · split <;> rfl
    · split <;> rfl
    · split <;> rfl
    · split <;> rfl
    · have hb : s.volatileLost.byte p = 0 := by
        rw [State.volatileLost_byte, if_neg]
        simp only [keptByte]
        simp
        omega
      split <;> exact hb
  · have hev : (s.poweredOn.coldReset 1 true).EventsOnly (if (s.poweredOn.coldReset 1 true).regBit R.TAMPER_STATUS 2
        then (s.poweredOn.coldReset 1 true).raise 315 else s.poweredOn.coldReset 1 true) :=
      .ite (State.raise_eventsOnly (by decide) (by decide)) .refl
    refine ⟨_, exec_powerOnReset hv ha hsc h₃₁ h₂₈, ?_⟩
    generalize (if (s.poweredOn.coldReset 1 true).regBit R.TAMPER_STATUS 2 then (s.poweredOn.coldReset 1 true).raise 315
      else s.poweredOn.coldReset 1 true) = t at hev
    have hbegun := (State.coldReset_begun (s := s.poweredOn) (cause := 1) (quick := true)).events hev
    have hkind := hbegun.kind
    have hevent := hev.pend _ (by split <;> decide) (State.coldReset_event (s := s.poweredOn) (cause := 1) rfl)
    have hok : t.regBit R.RESET_STATUS 1 = s.poweredOn.coldCertOk :=
      (State.regBit_eq_of_reg (hev.reg _ (not_eventReg_of_lt (by decide) (by decide)))).trans State.coldReset_certBit
    refine ⟨?_, hbegun.inReset, hbegun.held, hbegun.cause, fun i => ?_, fun h => ?_, fun h => ?_⟩
    · obtain ⟨_, _, _, _, _, h⟩ := hev.rest
      rw [h]
      exact congrArg Pins.vin State.coldReset_pins
    · have hi := i.isLt
      rw [hev.reg _ (not_eventReg_of_lt (by simp only [R.RESET_BKP]; omega) (by simp only [R.RESET_BKP, R.JOURNAL_EVFIFO]; omega))]
      exact State.coldReset_bkp i
    · rw [hok] at h
      rw [h] at hkind hevent
      exact ⟨hkind, hevent⟩
    · rw [hok] at h
      rw [h] at hkind hevent
      exact ⟨hkind, hevent⟩

end Sys2Proof

/-! SUPPORT. RESET_CMD and the end of a device reset (R665 to R671, R707). -/

namespace Sys2Proof.Machine

variable {s t : State}

/-! ### RESET_CMD (R707) -/

/-- A command of RESET_CMD with its key. -/
def resetWord (cmd : Nat) : Word := w32 (0x5A * 2 ^ 24 + cmd)

section
variable {who : Sender} (h : s.wardenAt who .store R.RESET_CMD)
include h

theorem State.resetWrite_eq {cmd : Nat} : s.resetWrite who 0x5A cmd = s.resetCmd who (resetWord cmd) := by
  change s.wr who R.RESET_CMD (resetWord cmd) = _
  rw [State.wr_control (r := { key := 0x100900008, wo := 0xff3f001f }) h rfl (by decide) (by decide) (by decide)]
  rfl

theorem exec_resetCmdWarm : exec (.resetCmdWarm who 0x5A) s =
    .next (if s.regBit R.RESET_CTRL 0 then s.warmReset 6 2 else s.errAt errIgnored who .store R.RESET_CMD) :=
  congrArg Host.Outcome.next (State.resetWrite_eq h)

theorem exec_resetCmdCold : exec (.resetCmdCold who 0x5A) s =
    .next (if s.regBit R.RESET_CTRL 1 then s.coldReset 2 true else s.errAt errIgnored who .store R.RESET_CMD) :=
  congrArg Host.Outcome.next (State.resetWrite_eq h)

theorem exec_resetCmdVatReset {v : Vat} (hp : s.parkedFor v = true) (ha : s.inAdmission v = false) (hh : s.vatHolds v = false) :
    exec (.resetCmdVatReset who 0x5A v) s = .next (s.vatLost v) := by
  have hv := v.isLt
  have hw : field (resetWord (8 + 65536 * v.val)) 31 24 = 0x5A ∧ field (resetWord (8 + 65536 * v.val)) 4 0 = 8 ∧
      field (resetWord (8 + 65536 * v.val)) 21 16 = v.val := by
    simp only [field, resetWord, BitVec.toNat_ofNat]
    omega
  obtain ⟨hkey, hcmd, hvat⟩ := hw
  refine congrArg Host.Outcome.next ((State.resetWrite_eq h).trans ?_)
  unfold State.resetCmd
  simp only [hkey, hcmd, hvat, hp, ha, hh, Bool.false_eq_true, not_false_eq_true, and_self, ne_eq, not_true_eq_false, if_false, if_true]

theorem exec_resetCmdServicePair : exec (.resetCmdServicePair who 0x5A) s =
    .next { s.resetCore 65 false with ev := { s.ev with wdogS := some (s.now + 1000), warned := (s.ev.warned.1, false) }
                                      pins := { s.pins with lockup := (s.core 64).locked } } :=
  congrArg Host.Outcome.next (State.resetWrite_eq h)

theorem exec_resetCmdClrFail : exec (.resetCmdClrFail who 0x5A) s = .next ((s.setReg (R.RESET_BKP 16) 0).setReg (R.RESET_BKP 17) 0) :=
  congrArg Host.Outcome.next (State.resetWrite_eq h)

end

theorem errSource_resetCmd : errSource R.RESET_CMD = 9 := by decide

/-! ### A vat's reset (R670) -/

theorem State.vatLost_core {v : Nat} (hl : s.cores.length = 66) (hv : v < 66) : ((s.vatLost v).core v).inReset = true :=
  congrArg CoreState.inReset (State.core_setCore_same _ v _ hl hv)

theorem State.vatLost_core_other {v d : Nat} (h : d ≠ v) : (s.vatLost v).core d = s.core d := State.core_setCore_other _ _ h

theorem State.vatLost_up {v : Nat} : v ∉ (s.vatLost v).bt.up := by simp [State.vatLost, State.resetCore, State.setCore, State.mapBt]

/-! ### The end of a device reset (R666) -/

/-- The pairs run from the boot ROM, and the watchdogs start. -/
def State.resetReleased (s : State) : State :=
  let u : State := { s with now := max s.now (s.pw.endAt + 2000000), pins := { s.pins with resetDrv := false } }
  let u := (((u.mapLk fun l => { l with feltKey := sha256 (u.freeBytes 80) }).tookFree 80).mapPw fun p => { p with inReset := false }).resetCore 64 false
  let u := u.resetCore 65 false
  { u with ev := { u.ev with wdogP := some u.now, wdogS := some u.now } }

theorem exec_resetRelease (hr : s.pw.inReset = true) (hh : s.pw.held = false) (hi : s.pins.resetIn = false) (hd : s.resetReady = true) :
    exec .resetRelease s = .next s.resetReleased := by
  refine congrArg Host.Outcome.next (if_neg ?_)
  simp [hr, hh, hi, hd]

theorem State.resetReleased_cores (hl : s.cores.length = 66) :
    (s.resetReleased.core 64).inReset = false ∧ (s.resetReleased.core 65).inReset = false := by
  have hset {u : State} {c : Nat} (hu : u.cores.length = 66) (hc : c < 66) : ((u.resetCore c false).core c).inReset = false :=
    congrArg CoreState.inReset (State.core_setCore_same u c _ hu hc)
  refine ⟨?_, hset ?_ (by decide)⟩
  · exact (congrArg CoreState.inReset (State.core_setCore_other _ _ (by decide))).trans (hset hl (by decide))
  · exact (List.length_set ..).trans hl

theorem exec_resetNAsserted (hd : s.pins.resetDrv = false) (hp : s.regBit R.PMU_STATUS 4 = false) (hv : s.pins.vin = true)
    (hh : s.pw.held = false) : exec .resetNAsserted s = .next (s.warmReset 5 2) := by
  refine congrArg Host.Outcome.next ((if_neg ?_).trans (if_neg (by simp [hh])))
  simp [hd, hp, hv]

theorem exec_fullRemouldReset {i : Nat} (hc : s.md.commit = some (i, none)) (hm : s.mouldState = 4) (hj : s.job? i = none) :
    exec .fullRemouldReset s = .next (s.warmReset 7 2) := by
  change execFullRemouldReset s = _
  simp [execFullRemouldReset, hc, hm, hj]

theorem keptByte_scratch {p : Nat} (h₀ : 0x107F0000 ≤ p) (h₁ : p < 0x10800000) : keptByte false p = true := by
  simp [keptByte, h₀, h₁]

end Sys2Proof.Machine

namespace Sys2Proof
open Machine

/-- Settles O31: each source is a warm or a cold reset; the commands of RESET_CMD but those two act without one. -/
theorem resetSources : Obligations.ResetSources := by
  intro s who hlen begins
  have hwarm {cause kind : Nat} : (s.warmReset cause kind).ResetBegun cause kind := State.warmReset_begun
  have hbegins {cause : Nat} : begins cause 2 (s.warmReset cause 2) :=
    ⟨hwarm.cause, hwarm.kind, hwarm.inReset, hwarm.held, hwarm.resetDrv, hwarm.jobs, hwarm.errQ, hwarm.cores,
      fun p h₀ h₁ => State.warmReset_byte (keptByte_scratch h₀ h₁)⟩
  refine ⟨fun hd hp hv hh => ⟨_, exec_resetNAsserted hd hp hv hh, hbegins⟩, fun hw => ⟨fun hc => ?_, fun hc => ?_, fun hc => ?_, fun v hp ha hh => ?_, ?_, ?_⟩,
    fun hr hh hi hd => ⟨_, exec_resetRelease hr hh hi hd, rfl, rfl, rfl, (State.resetReleased_cores hlen).1, (State.resetReleased_cores hlen).2, rfl, rfl⟩,
    fun i hc hm hj => ⟨_, exec_fullRemouldReset hc hm hj, hbegins⟩⟩
  · refine ⟨_, exec_resetCmdWarm hw, ?_⟩
    rw [if_pos hc]
    exact hbegins
  · have hrep : s.ReportsOnly (s.errAt errIgnored who .store R.RESET_CMD) := State.errAt_reportsOnly
    refine ⟨_, exec_resetCmdWarm hw, ?_⟩
    rw [if_neg (by simp [hc])]
    refine ⟨?_, State.errAt_code (by decide) errSource_resetCmd, hrep.reg _ (.inl (by decide)) (not_eventReg_of_lt (by decide) (by decide))⟩
    obtain ⟨_, _, _, h⟩ := hrep.rest
    rw [h]
  · have hb := State.coldReset_begun (s := s) (cause := 2) (quick := true)
    refine ⟨_, exec_resetCmdCold hw, ?_⟩
    rw [if_pos hc]
    exact ⟨hb.cause, hb.inReset, congrArg Pins.enRail State.coldReset_pins, hb.cores⟩
  · exact ⟨_, exec_resetCmdVatReset hw hp ha hh, State.vatLost_core hlen (by omega), fun a ha => State.vatLost_byte ha, State.vatLost_up,
      fun d hd => State.vatLost_core_other hd⟩
  · exact ⟨_, exec_resetCmdServicePair hw, congrArg CoreState.inReset (State.core_setCore_same s 65 _ hlen (by decide)),
      State.core_setCore_other s _ (by decide), rfl, rfl, fun _ _ => rfl⟩
  · refine ⟨_, exec_resetCmdClrFail hw, ?_, State.reg_setReg_same _ _ _, rfl, rfl, fun j hj => ?_⟩
    · exact (State.reg_setReg_other _ _ (by decide)).trans (State.reg_setReg_same _ _ _)
    · simp only [List.mem_cons, List.not_mem_nil, or_false, not_or] at hj
      obtain ⟨h₁₆, h₁₇⟩ := hj
      exact (State.reg_setReg_other _ _ h₁₇).trans (State.reg_setReg_other _ _ h₁₆)

end Sys2Proof

/-! SUPPORT. Rails, domains and PLLs, their retries, and the power-fail sequence (R649 to R657, R684 to R695). -/

namespace Sys2Proof.Machine

variable {s t u : State}

/-! ### Masks -/

theorem nbit_or_self {m r : Nat} : nbit (m ||| 2 ^ r) r = true := by
  have h : (m ||| 2 ^ r).testBit r = true := by rw [Nat.testBit_or, Nat.testBit_two_pow_self, Bool.or_true]
  simpa [nbit, Nat.testBit_eq_decide_div_mod_eq] using h

/-- A mask with bit `r` clear. -/
def maskOff (m r : Nat) : Nat := if nbit m r then m - 2 ^ r else m

/-- Clearing bit `r` leaves those above. -/
theorem nbit_maskOff {m r i : Nat} (h : r ≤ i) : nbit (maskOff m r) i = (decide (i ≠ r) && nbit m i) := by
  obtain ⟨k, rfl⟩ := Nat.exists_eq_add_of_le h
  unfold maskOff
  by_cases hm : nbit m r = true
  · have hodd : m / 2 ^ r % 2 = 1 := by simpa [nbit] using hm
    have hsub : (m - 2 ^ r) / 2 ^ r = m / 2 ^ r - 1 := by simpa using Nat.sub_mul_div m (2 ^ r) 1
    rw [if_pos hm, nbit, nbit, pow_add, ← Nat.div_div_eq_div_mul, ← Nat.div_div_eq_div_mul, hsub]
    generalize m / 2 ^ r = q at hodd
    cases k with
    | zero =>
      simp
      omega
    | succ k =>
      rw [pow_succ', ← Nat.div_div_eq_div_mul, ← Nat.div_div_eq_div_mul, show (q - 1) / 2 = q / 2 by omega]
      simp
  · rw [if_neg hm]
    cases k with
    | zero => simpa using hm
    | succ k => simp

theorem State.regField_setRegField {k hi lo v : Nat} (h : hi < 32) : (s.setRegField k hi lo v).regField k hi lo = v % 2 ^ (hi + 1 - lo) := by
  rw [State.regField, State.setRegField, State.reg_setReg_same, field_setField_same h]

/-! ### Rails (R649, R650, R656) -/

theorem State.railShow_rest : ∃ regs, s.railShow = { s with regs } := ⟨_, rfl⟩

/-- The registers that show the rails. -/
abbrev railReg (k : Nat) : Prop := k = R.PMU_RAIL_STATUS ∨ k = R.PMU_STATUS

theorem State.railShow_reg {k : Nat} (h : ¬ railReg k) : s.railShow.reg k = s.reg k := by
  obtain ⟨hr, hs⟩ := not_or.mp h
  exact (State.reg_setReg_other _ _ hs).trans (State.reg_setReg_other _ _ hr)

/-- RAILS_OK is the one bit of PMU_STATUS that follows the rails. -/
theorem State.railShow_status {i : Nat} (h : i ≠ 0) : s.railShow.regBit R.PMU_STATUS i = s.regBit R.PMU_STATUS i := by
  rw [State.railShow, State.regBit_setRegBit (by decide), if_neg h]
  exact State.regBit_eq_of_reg (State.reg_setReg_other _ _ (by decide))

section
variable {r : Nat}

theorem State.railEnable_rest : ∃ regs out, s.railEnable r = { s with regs, out, pins := { s.pins with enRail := s.pins.enRail ||| 2 ^ r } } := by
  unfold State.railEnable
  extract_lets a u
  obtain ⟨out, hu⟩ : ∃ out, u = { s with out } := by
    unfold u
    split
    · exact ⟨_, rfl⟩
    · obtain ⟨_, h₁⟩ := State.emit_eq (s := s) (p := .pmbus) (bs := [by8 (2 * a), 0x21] ++ leBytes 2 (s.regField (R.PMU_RAIL_CFG r) 15 0))
      rw [h₁]
      obtain ⟨_, h₂⟩ := State.emit_eq (s := { s with out := _ }) (p := .pmbus) (bs := [by8 (2 * a), 0x01, 0x80])
      exact ⟨_, h₂⟩
  rw [hu]
  exact ⟨_, out, rfl⟩

theorem State.railEnable_reg {k : Nat} (h : ¬ railReg k) : (s.railEnable r).reg k = s.reg k := by
  unfold State.railEnable
  extract_lets a u
  refine (State.railShow_reg h).trans ?_
  change u.reg k = s.reg k
  unfold u
  split
  · rfl
  · rw [State.emit_reg, State.emit_reg]

theorem State.railEnable_on : (s.railEnable r).railOn r = true := by
  obtain ⟨_, _, h⟩ := State.railEnable_rest (s := s) (r := r)
  rw [h]
  exact nbit_or_self

theorem State.railDisable_rest : ∃ regs, s.railDisable r = { s with
    regs, pins := { s.pins with enRail := maskOff s.pins.enRail r, pgRail := maskOff s.pins.pgRail r } } := ⟨_, rfl⟩

theorem State.railDisable_reg {k : Nat} (h : ¬ railReg k) : (s.railDisable r).reg k = s.reg k := State.railShow_reg h

theorem State.railDisable_status {i : Nat} (h : i ≠ 0) : (s.railDisable r).regBit R.PMU_STATUS i = s.regBit R.PMU_STATUS i :=
  State.railShow_status (s := s.mapPins _) h

end

/-- Beside the rails' own registers and pins, releasing them changes nothing. -/
theorem State.railsOff_rest : ∃ regs enRail pgRail, s.railsOff = { s with regs, pins := { s.pins with enRail, pgRail } } :=
  List.foldlRecOn [5, 4, 3, 2, 1, 0] State.railDisable (motive := fun u => ∃ regs enRail pgRail, u = { s with regs, pins := { s.pins with enRail, pgRail } })
    ⟨_, _, _, rfl⟩ fun u ⟨_, _, _, hu⟩ r _ => by
      obtain ⟨_, h⟩ := State.railDisable_rest (s := u) (r := r)
      rw [h, hu]
      exact ⟨_, _, _, rfl⟩

theorem State.railsOff_reg {k : Nat} (h : ¬ railReg k) : s.railsOff.reg k = s.reg k :=
  List.foldlRecOn [5, 4, 3, 2, 1, 0] State.railDisable (motive := fun u => u.reg k = s.reg k) rfl fun _ hu _ _ => (State.railDisable_reg h).trans hu

theorem State.railsOff_status {i : Nat} (h : i ≠ 0) : s.railsOff.regBit R.PMU_STATUS i = s.regBit R.PMU_STATUS i :=
  List.foldlRecOn [5, 4, 3, 2, 1, 0] State.railDisable (motive := fun u => u.regBit R.PMU_STATUS i = s.regBit R.PMU_STATUS i) rfl
    fun _ hu _ _ => (State.railDisable_status h).trans hu

theorem State.railsOff_enRail : s.railsOff.pins.enRail =
    maskOff (maskOff (maskOff (maskOff (maskOff (maskOff s.pins.enRail 5) 4) 3) 2) 1) 0 := rfl

theorem State.railsOff_off (r : Fin 6) : s.railsOff.railOn r = false := by
  have hr : r.val = 0 ∨ r.val = 1 ∨ r.val = 2 ∨ r.val = 3 ∨ r.val = 4 ∨ r.val = 5 := by omega
  rw [State.railOn, State.railsOff_enRail]
  obtain h | h | h | h | h | h := hr <;> rw [h] <;> simp only [nbit_maskOff, Nat.zero_le, Nat.reduceLeDiff, le_refl] <;> rfl

/-! ### Domains, PLLs and retries (R654, R684 to R692) -/

theorem State.domState_setDom_other {m n k : Nat} (h : m ≠ n) : (s.setDom n k).domState m = s.domState m :=
  State.regField_eq_of_reg (State.reg_setReg_other _ _ (by simp only [R.PMU_DOM_STATE]; omega))

/-- Domains that are off come up. -/
theorem State.foldl_domUp {l : List Nat} {n : Nat} :
    (l.foldl (fun (s : State) n => if s.domState n = 0 then s.setDom n 1 else s) s).domState n =
      if n ∈ l ∧ s.domState n = 0 then 1 else s.domState n := by
  induction l generalizing s with
  | nil => simp
  | cons m l ih =>
    rw [List.foldl_cons, ih]
    have hstep : (if s.domState m = 0 then s.setDom m 1 else s).domState n = if n = m ∧ s.domState m = 0 then 1 else s.domState n := by
      by_cases hm : s.domState m = 0
      · by_cases hn : n = m
        · rw [if_pos hm, if_pos ⟨hn, hm⟩, hn, State.domState_setDom]
        · rw [if_pos hm, if_neg fun h => hn h.1, State.domState_setDom_other hn]
      · rw [if_neg hm, if_neg fun h => hm h.2]
    rw [hstep]
    by_cases hn : n = m
    · subst hn
      by_cases hz : s.domState n = 0 <;> simp [hz]
    · simp [hn]

theorem State.foldl_domUp_rest {l : List Nat} : ∃ regs, l.foldl (fun (s : State) n => if s.domState n = 0 then s.setDom n 1 else s) s = { s with regs } :=
  State.foldl_setReg_rest fun u n => by
    split <;> exact ⟨_, rfl⟩

section
variable (hh : s.pw.held = false)
include hh

theorem exec_vinCoreGood (hv : s.pins.vin = true) (hg : s.pw.good = false) :
    exec .vinCoreGood s = .next ((s.mapPw fun p => { p with good := true }).railEnable 0) := by
  refine congrArg Host.Outcome.next (if_neg ?_)
  simp [hv, hg, hh]

/-- Rail `r` reads ready. -/
def State.railMarked (s : State) (r : Nat) : State := (s.mapPins fun p => { p with pgRail := p.pgRail ||| 2 ^ r }).railShow

theorem exec_railReady {r : Fin 6} (ho : s.railOn r = true) (hr : s.railReady r = false) : exec (.railReady r) s =
    .next (if r.val < 5 then (s.railMarked r).railEnable (r + 1)
      else [64, 65, 66].foldl (fun s n => if s.domState n = 0 then s.setDom n 1 else s) (s.railMarked r)) := by
  refine congrArg Host.Outcome.next (if_neg ?_)
  simp [hh, ho, hr]

/-- A domain is on, and after the last of 64 to 66 the vat domains come up. -/
theorem exec_domainReady {n : Fin 68} (hd : s.domState n = 1) (hc : n.val ∉ s.pw.coming) : exec (.domainReady n) s =
    .next (if (s.setDom n 2).centralOn ∧ ¬ s.centralOn then
        (List.range 64).foldl (fun s v => if s.present v ∧ s.domState v = 0 then s.setDom v 1 else s) (s.setDom n 2)
      else s.setDom n 2) := by
  refine congrArg Host.Outcome.next (if_neg ?_)
  simp [hh, hd, hc]

theorem exec_pllLock {n : Fin 16} {onRc : Bool} (hc : s.centralOn = true) (hp : nbit s.pw.plls n = false) : exec (.pllLock n onRc) s =
    .next (if onRc ∧ n.val < 8 ∧ ¬ s.regBit R.RESET_STATUS 3 then
        ((s.mapPw fun p => { p with plls := p.plls ||| 2 ^ n.val }).setRegBit R.RESET_STATUS 3 true).raise 389
      else s.mapPw fun p => { p with plls := p.plls ||| 2 ^ n.val }) := by
  refine congrArg Host.Outcome.next (if_neg ?_)
  simp [hh, hc, hp]

theorem exec_hbmTrainingDone {n : Fin 2} (hr : s.pw.inReset = false) (hb : nbit s.pw.hbm n = false) : exec (.hbmTrainingDone n) s =
    .next ((s.mapPw fun p => { p with hbm := p.hbm ||| 2 ^ n.val }).setRegField (R.HBMC_STATUS n) 2 0 7) := by
  refine congrArg Host.Outcome.next (if_neg ?_)
  simp [hh, hr, hb]

end

/-- A domain that is on stays on while vat domains come up. -/
theorem State.foldl_vatsUp_on {l : List Nat} {n : Nat} (h : s.domState n = 2) :
    (l.foldl (fun (s : State) v => if s.present v ∧ s.domState v = 0 then s.setDom v 1 else s) s).domState n = 2 :=
  List.foldlRecOn l _ (motive := fun u : State => u.domState n = 2) h fun u hu v _ => by
    split
    next hv =>
      refine (State.domState_setDom_other fun e => ?_).trans hu
      rw [e, hv.2] at hu
      contradiction
    · exact hu

/-- A failed attempt is counted, with its event. -/
def State.attemptFailed (s : State) (item : StartItem) : State :=
  ((s.mapPw fun p => { p with fails := (item, (s.pw.fails.lookup item).getD 0 + 1) :: p.fails.filter fun x => x.1 != item }).setReg R.RESET_ATTEMPTS
    (w32 (min 255 ((s.reg R.RESET_ATTEMPTS).toNat + 1)))).raise (if (itemCode item).1 = 3 then 388 else 387)

theorem exec_railAttemptTimeout {item : StartItem} {detail : Fin 6} (ha : s.attempting item = true) : exec (.railAttemptTimeout item detail) s =
    .next (if 3 ≤ (s.pw.fails.lookup item).getD 0 + 1 then (s.attemptFailed item).startFailure (itemCode item).1 (itemCode item).2 3 detail.val
      else ((s.attemptFailed item).itemOff item).mapPw fun p => { p with pauses := p.pauses ++ [(item, (s.attemptFailed item).now)] }) := by
  refine congrArg Host.Outcome.next (if_neg ?_)
  simp [ha]

section
variable {item : StartItem}

/-- The attempt's count and the event aside, all is as before. -/
theorem State.attemptFailed_facts : (s.attemptFailed item).pends (if (itemCode item).1 = 3 then 388 else 387) ∧
    (s.attemptFailed item).reg R.RESET_ATTEMPTS = w32 (min 255 ((s.reg R.RESET_ATTEMPTS).toNat + 1)) ∧
    (s.attemptFailed item).now = s.now ∧ (s.attemptFailed item).pw.pauses = s.pw.pauses ∧ (s.attemptFailed item).pw.held = s.pw.held := by
  have hn : (if (itemCode item).1 = 3 then 388 else 387) < 640 ∧ (if (itemCode item).1 = 3 then 388 else 387) ∉ [318, 263, 269] := by
    split <;> decide
  have hev : State.EventsOnly _ (s.attemptFailed item) := State.raise_eventsOnly hn.1 hn.2
  refine ⟨State.raise_pends hn.1 hn.2, ?_, hev.now, (congrArg PowerState.pauses hev.pw).trans rfl, (congrArg PowerState.held hev.pw).trans rfl⟩
  rw [hev.reg _ (not_eventReg_of_lt (by decide) (by decide)), State.reg_setReg_same]

theorem State.itemOff_rest : ∃ regs pins, s.itemOff item = { s with regs, pins } := by
  cases item with
  | rail r => exact ⟨_, _, State.railDisable_rest.choose_spec⟩
  | regulator r => exact ⟨_, _, State.railDisable_rest.choose_spec⟩
  | domain n => exact ⟨_, _, rfl⟩
  | pll n => exact ⟨_, _, rfl⟩
  | hbm n => exact ⟨_, _, rfl⟩

/-- The item's own registers are the PMU's. -/
theorem State.itemOff_reg {k : Nat} (h : k < 0x100A00000 ∨ 0x100B00000 ≤ k) : (s.itemOff item).reg k = s.reg k := by
  have hr : ¬ railReg k := by
    simp only [railReg, R.PMU_RAIL_STATUS, R.PMU_STATUS]
    omega
  cases item with
  | rail r => exact State.railDisable_reg hr
  | regulator r => exact State.railDisable_reg hr
  | domain n => exact State.reg_setReg_other _ _ (by simp only [R.PMU_DOM_STATE]; omega)
  | pll n => rfl
  | hbm n => rfl

end

theorem State.setRegs_pair_first {a b x y : Nat} (h : a ≠ b) : (s.setRegs [(a, x), (b, y)]).reg a = w32 x :=
  (State.reg_setReg_other _ _ h).trans (State.reg_setReg_same _ _ _)

/-- A device that holds, with code and clock in the backup registers. -/
def State.heldWith (s : State) (code : Nat) : State :=
  (((s.setRegs [(R.RESET_BKP 16, code), (R.RESET_BKP 17, s.rtcSec)]).railsOff).mapPins fun p => { p with fault := true, resetDrv := false }).mapPw
    fun p => { p with inReset := true, held := true }

theorem State.startFailure_eq {stage item attempts detail : Nat} :
    s.startFailure stage item attempts detail = s.heldWith (stage * 2 ^ 24 + item * 65536 + attempts * 256 + detail) := rfl

/-- What a start failure leaves (R688, R692). -/
theorem State.heldWith_facts {code : Nat} : (s.heldWith code).pw.held = true ∧ (s.heldWith code).pins.fault = true ∧
    (∀ r : Fin 6, (s.heldWith code).railOn r = false) ∧ (s.heldWith code).reg (R.RESET_BKP 16) = w32 code := by
  have hu := State.setRegs_pair_first (s := s) (x := code) (y := s.rtcSec) (show R.RESET_BKP 16 ≠ R.RESET_BKP 17 by decide)
  unfold State.heldWith
  generalize s.setRegs _ = u at hu ⊢
  refine ⟨rfl, rfl, fun r => ?_, ?_⟩
  · rw [State.railOn, State.mapPw_pins, State.mapPins_pins]
    dsimp only
    exact State.railsOff_off r
  · rw [State.mapPw_reg, State.mapPins_reg, State.railsOff_reg (by decide), hu]

theorem exec_retryPauseEnd_rail {r : Fin 6} {t₀ : Nat} (hh : s.pw.held = false) (hp : s.pw.pauses.lookup (.rail r) = some t₀) :
    exec (.retryPauseEnd (.rail r)) s = .next ((({ s with now := max s.now (t₀ + 1000000) } : State).mapPw fun p =>
      { p with pauses := p.pauses.filter fun x => x.1 != .rail r }).railEnable r) := by
  change execRetryPauseEnd (.rail r) s = _
  simp only [execRetryPauseEnd, hp, hh, Bool.false_eq_true, if_false]
  rfl

/-! ### Power failure (R652, R693 to R695) -/

theorem length_xorBytes {a b : Bytes} : (xorBytes a b).length = min a.length b.length := List.length_zipWith

theorem length_aesEnc_le {key blk : Bytes} (h : blk.length ≤ 16) : (aesEnc key blk).length ≤ 16 := by
  unfold aesEnc
  split
  · exact h
  · rw [length_xorBytes]
    exact (Nat.min_le_left _ _).trans (by simp [aesShift])

theorem length_aesCmac_le {key m : Bytes} : (aesCmac key m).length ≤ 16 := by
  have hfold : ((chunks 16 (m.take (16 * (ceilDiv m.length 16 - 1)))).foldl (fun c blk => aesEnc key (xorBytes c blk)) (zeros 16)).length ≤ 16 :=
    List.foldlRecOn _ _ (motive := fun c : Bytes => c.length ≤ 16) (by simp [zeros]) fun c hc b _ =>
      length_aesEnc_le (by rw [length_xorBytes]; omega)
  exact length_aesEnc_le (by rw [length_xorBytes]; exact (Nat.min_le_left _ _).trans hfold)

theorem length_chunksAux_le {k f : Nat} {bs : Bytes} : (chunksAux k f bs).length ≤ f := by
  induction f generalizing bs with
  | zero => simp [chunksAux]
  | succ f ih =>
    cases bs with
    | nil => simp [chunksAux]
    | cons b bs => simpa [chunksAux] using ih

theorem State.setRegBytes_reg_other {k j : Nat} {bs : Bytes} (h : j < k ∨ k + 4 * (bs.length + 1) ≤ j) : (s.setRegBytes k bs).reg j = s.reg j := by
  refine List.foldlRecOn _ _ (motive := fun u : State => u.reg j = s.reg j) rfl fun u hu c hc => (u.reg_setReg_other _ ?_).trans hu
  have hlen : (chunks 4 bs).length ≤ bs.length + 1 := length_chunksAux_le
  have hc := List.snd_lt_of_mem_zipIdx hc
  omega

theorem State.setRegBytes_rest {k : Nat} {bs : Bytes} : ∃ regs, s.setRegBytes k bs = { s with regs } := State.foldl_setReg_rest fun _ _ => ⟨_, rfl⟩

theorem State.setRegs_rest {l : List (Nat × Nat)} : ∃ regs, s.setRegs l = { s with regs } := State.foldl_setReg_rest fun _ _ => ⟨_, rfl⟩

theorem State.certWrite_rest {result pass : Nat} : ∃ regs, s.certWrite result pass = { s with regs } := by
  unfold State.certWrite
  extract_lets u
  obtain ⟨_, hc⟩ := State.certClear_rest (s := s)
  obtain ⟨_, hu⟩ : ∃ regs, u = { s.certClear with regs } := State.setRegs_rest
  obtain ⟨regs, h⟩ := State.setRegBytes_rest (s := u) (k := R.RESET_BKP 12) (bs := aesCmac certKey u.certBody)
  rw [h, hu, hc]
  exact ⟨regs, rfl⟩

/-- The certificate's registers are those from RESET_BKP on. -/
theorem State.certWrite_reg {result pass k : Nat} (h : k < R.RESET_BKP 0 ∨ 0x100A00000 ≤ k) : (s.certWrite result pass).reg k = s.reg k := by
  simp only [R.RESET_BKP] at h
  unfold State.certWrite
  extract_lets u
  have hu : u.reg k = s.reg k := by
    refine (State.setRegs_reg_of_notMem ?_).trans (State.certClear_reg_other (by simp only [R.RESET_BKP]; omega))
    simp only [List.forall_mem_cons, R.RESET_BKP]
    refine ⟨?_, ?_, ?_, ?_, ?_, ?_, ?_, ?_, fun _ h => absurd h List.not_mem_nil⟩ <;> omega
  have hlen : (aesCmac certKey u.certBody).length ≤ 16 := length_aesCmac_le
  exact (State.setRegBytes_reg_other (by simp only [R.RESET_BKP]; omega)).trans hu

/-- Admission and watchdogs stop. -/
def State.failingShown (s : State) : State :=
  let u := (s.setRegBit R.PMU_STATUS 4 true).mapBt fun b => { b with stop := true }
  ({ u with ev := { u.ev with wdogP := none, wdogS := none } } : State).mapPw fun p =>
    { p with fallAt := some s.now, riseAt := none, drained := false, shut := none }

theorem State.failingShown_regs : s.failingShown.regs = (s.setRegBit R.PMU_STATUS 4 true).regs := rfl

/-- Admission and watchdogs stop, and the card slots are off. -/
def State.failing (s : State) : State := s.failingShown.cardsOff

theorem State.regBit_of_regs {k i : Nat} (h : t.regs = s.regs) : t.regBit k i = s.regBit k i := by
  rw [State.regBit, State.reg, h]
  rfl

theorem State.failing_reg {k : Nat} (h : k < R.CARD_STATUS 0) (hs : k ≠ R.PMU_STATUS) : s.failing.reg k = s.reg k :=
  (State.cardsOff_reg h).trans (State.reg_setReg_other _ _ hs)

theorem State.failing_status : s.failing.regBit R.PMU_STATUS 4 = true := by
  have hbit : (s.setRegBit R.PMU_STATUS 4 true).regBit R.PMU_STATUS 4 = true := (State.regBit_setRegBit (by decide)).trans (if_pos rfl)
  rw [State.failing, State.regBit_eq_of_reg (State.cardsOff_reg (by decide)), State.regBit_of_regs State.failingShown_regs, hbit]

theorem State.powerFail_eq (hs : s.regBit R.PMU_STATUS 4 = false) (hh : s.pw.held = false) : ∃ regs, s.powerFail = ({ s.raise 384 with regs } : State).failing ∧
    ({ s.raise 384 with regs } : State).pends 384 := by
  have hraise : (s.raise 384).pends 384 := State.raise_pends (by decide) (by decide)
  have heq : s.powerFail = (if (s.raise 384).pw.selfTest = 1 ∧ (s.raise 384).pw.shut.isSome then (s.raise 384).certWrite 0 0 else s.raise 384).failing := by
    unfold State.powerFail
    rw [if_neg (by simp [hs, hh])]
    rfl
  rw [heq]
  split
  · obtain ⟨regs, h⟩ := State.certWrite_rest (s := s.raise 384) (result := 0) (pass := 0)
    refine ⟨regs, by rw [h], ?_⟩
    rw [← h]
    exact (State.regBit_eq_of_reg (State.certWrite_reg (.inr (by decide)))).trans hraise
  · exact ⟨(s.raise 384).regs, rfl, hraise⟩

/-- What the power-fail sequence does where it is not under way (R694). -/
theorem State.powerFail_facts (hs : s.regBit R.PMU_STATUS 4 = false) (hh : s.pw.held = false) :
    s.powerFail.regBit R.PMU_STATUS 4 = true ∧ s.powerFail.bt.stop = true ∧ s.powerFail.ev.wdogP = none ∧ s.powerFail.ev.wdogS = none ∧
    s.powerFail.pw.fallAt = some s.now ∧ s.powerFail.pends 384 ∧ s.powerFail.pins = s.pins := by
  obtain ⟨regs, h, hp⟩ := State.powerFail_eq hs hh
  obtain ⟨_, _, _, _, _, hr⟩ := (State.raise_eventsOnly (s := s) (n := 384) (stop := 83) (data := 0) (by decide) (by decide)).rest
  rw [hr] at h hp
  rw [h]
  exact ⟨State.failing_status, rfl, rfl, rfl, rfl, (State.regBit_eq_of_reg (State.failing_reg (by decide) (by decide))).trans hp, rfl⟩

theorem exec_powerFail : exec .powerFail s =
    .next (((s.mapPins fun p => { p with pwrfail := true }).powerFail).mapPw fun p => { p with riseAt := none }) := rfl

/-- The journal is made durable where it runs (R415). -/
def State.drainedAt (s : State) (now : Nat) : State :=
  let u : State := { s with now }
  if u.regBit R.JOURNAL_STATUS 0 then u.journalCommitAll.journalDrain else u

theorem exec_powerFailDrainDone {t₀ : Nat} (hf : s.pw.fallAt = some t₀) (hs : s.regBit R.PMU_STATUS 4 = true) (hd : s.pw.drained = false) :
    exec .powerFailDrainDone s = .next (((s.drainedAt (max s.now (t₀ + 2600000))).mapPw fun p => { p with drained := true }).raise 268) := by
  change execPowerFailDrainDone s = _
  simp only [execPowerFailDrainDone, hf, hs, hd, not_true_eq_false, Bool.false_eq_true, or_self, if_false]
  rfl

/-- The device holds. -/
def State.holding (s : State) : State := (s.mapPins fun p => { p with resetDrv := false, lockup := false }).mapPw fun p =>
  { p with inReset := true, held := true, started := false, hbm := 0, plls := 0, coming := [] }

theorem State.holding_reg {k : Nat} : s.holding.reg k = s.reg k := by
  rw [State.holding, State.mapPw_reg, State.mapPins_reg]

/-- A cleared device's rails are released and it holds. -/
def State.heldDown (s : State) : State :=
  ((List.range 67).foldl (fun s n => s.setDom n 0) (s.setRegBit R.PMU_STATUS 4 false).railsOff).holding

/-- What is left is cleared, the rails are released and the device holds (R694). -/
def State.heldUp (s : State) (now : Nat) : State := (({ s with now } : State).clearDevice false).heldDown

theorem exec_holdupEnd {t₀ : Nat} (hf : s.pw.fallAt = some t₀) (hs : s.regBit R.PMU_STATUS 4 = true) :
    exec .holdupEnd s = .next (s.heldUp (max s.now (t₀ + 3600000))) := by
  change execHoldupEnd s = _
  simp only [execHoldupEnd, hf, hs, not_true_eq_false, if_false]
  rfl

theorem State.foldl_domOff_rest {l : List Nat} : ∃ regs, l.foldl (fun (s : State) n => s.setDom n 0) s = { s with regs } :=
  State.foldl_setReg_rest fun _ _ => ⟨_, rfl⟩

theorem State.foldl_domOff {l : List Nat} {n : Nat} :
    (l.foldl (fun (s : State) n => s.setDom n 0) s).domState n = if n ∈ l then 0 else s.domState n := by
  induction l generalizing s with
  | nil => simp
  | cons m l ih =>
    rw [List.foldl_cons, ih]
    by_cases h : n = m
    · subst h
      simp [State.domState_setDom]
    · simp [h, State.domState_setDom_other h]

theorem State.foldl_domOff_reg {l : List Nat} {k : Nat} (h : k < R.PMU_DOM_STATE 0) :
    (l.foldl (fun (s : State) n => s.setDom n 0) s).reg k = s.reg k :=
  List.foldlRecOn l _ (motive := fun u : State => u.reg k = s.reg k) rfl fun u hu n _ => (u.reg_setReg_other _ (by
    simp only [R.PMU_DOM_STATE] at h ⊢
    omega)).trans hu

/-- The rails are off in a state without jobs, with the power-fail bit clear. -/
def State.AllOff (s : State) : Prop := s.regBit R.PMU_STATUS 4 = false ∧ s.bt.jobs = [] ∧ ∀ r : Fin 6, s.railOn r = false

theorem State.railsOff_allOff (hb : s.regBit R.PMU_STATUS 4 = false) (hj : s.bt.jobs = []) : s.railsOff.AllOff := by
  obtain ⟨_, _, _, h⟩ := State.railsOff_rest (s := s)
  refine ⟨(State.railsOff_status (by decide)).trans hb, ?_, State.railsOff_off⟩
  rw [h]
  exact hj

theorem State.AllOff.domsOff (h : s.AllOff) {l : List Nat} : (l.foldl (fun (s : State) n => s.setDom n 0) s).AllOff := by
  obtain ⟨hb, hj, ho⟩ := h
  refine ⟨(State.regBit_eq_of_reg (State.foldl_domOff_reg (by decide))).trans hb, ?_⟩
  obtain ⟨_, hv⟩ : ∃ regs, l.foldl (fun (s : State) n => s.setDom n 0) s = { s with regs } := State.foldl_domOff_rest
  rw [hv]
  exact ⟨hj, ho⟩

/-- A device that holds with everything off. -/
def State.HeldOff (s : State) : Prop := s.pw.held = true ∧ s.pw.inReset = true ∧ s.regBit R.PMU_STATUS 4 = false ∧ s.bt.jobs = [] ∧
  (∀ n : Fin 67, s.domState n = 0) ∧ ∀ r : Fin 6, s.railOn r = false

theorem State.AllOff.holding (h : s.AllOff) (hdom : ∀ n : Fin 67, s.domState n = 0) : s.holding.HeldOff := by
  obtain ⟨hb, hjobs, ho⟩ := h
  exact ⟨rfl, rfl, (State.regBit_eq_of_reg State.holding_reg).trans hb, hjobs, fun n => (State.regField_eq_of_reg State.holding_reg).trans (hdom n), ho⟩

theorem State.heldDown_facts (hj : s.bt.jobs = []) : s.heldDown.HeldOff :=
  have hb : (s.setRegBit R.PMU_STATUS 4 false).regBit R.PMU_STATUS 4 = false := (State.regBit_setRegBit (by decide)).trans (if_pos rfl)
  (State.railsOff_allOff hb hj).domsOff.holding fun n => State.foldl_domOff.trans (if_pos (List.mem_range.mpr n.isLt))

/-- What the end of the hold-up time leaves (R694). -/
theorem State.heldUp_facts {now : Nat} : (s.heldUp now).HeldOff := State.heldDown_facts rfl

theorem exec_pwrfailRise (h : s.pins.pwrfail = true) : exec .pwrfailRise s =
    .next (if s.pins.vin then ((s.mapPins fun p => { p with pwrfail := false }).mapPw fun p => { p with riseAt := some s.now }).raise 385
      else (s.mapPins fun p => { p with pwrfail := false }).mapPw fun p => { p with riseAt := some s.now }) :=
  congrArg Host.Outcome.next (if_neg (by simp [h]))

theorem exec_heldSelfReset (hh : s.pw.held = true) (ho : s.pins.pwroff = false) (hf : s.pins.pwrfail = false) (hv : s.pins.vin = true) :
    ∃ now, exec .heldSelfReset s = .next (({ s with now } : State).coldReset 3 false) :=
  ⟨_, congrArg Host.Outcome.next (if_neg (by simp [hh, ho, hf, hv]))⟩

/-! ### Rails lost in service, and regulators that report (R652, R657) -/

theorem State.EventsOnly.pins (h : s.EventsOnly t) : t.pins = s.pins := by
  obtain ⟨_, _, _, _, _, rfl⟩ := h.rest
  rfl

theorem State.foldl_pins {α : Type} {l : List α} {f : State → α → State} (hf : ∀ u a, a ∈ l → (f u a).pins = u.pins) : (l.foldl f s).pins = s.pins :=
  List.foldlRecOn l f (motive := fun u => u.pins = s.pins) rfl fun u hu a ha => (hf u a ha).trans hu

theorem State.netEvent_pins {p i : Nat} (hp : p < 64) : (s.netEvent p i).pins = s.pins := by
  have hn : 128 + p ∉ [318, 263, 269] := by
    simp
    omega
  unfold State.netEvent
  extract_lets u
  split
  · exact (State.raise_eventsOnly (by omega) hn).pins
  · rfl

theorem State.netDown_pins {p : Nat} (hp : p < 64) : (s.netDown p).pins = s.pins := by
  have hmka : (s.mkaLost p).pins = s.pins := by
    unfold State.mkaLost
    split
    · exact State.netEvent_pins hp
    · rfl
  unfold State.netDown
  split
  · exact (State.netEvent_pins hp).trans hmka
  · rfl

theorem State.nvmeFail_pins {c : NvmeCmd} : (s.nvmeFail c).pins = s.pins := by
  obtain ⟨_, _, h⟩ := State.nvmeFail_eq (s := s) (c := c)
  rw [h]
  exact State.ioError_eventsOnly.pins

theorem State.portEvent_pins {q : Fin 16} {i : Nat} : (s.portEvent q i).pins = s.pins := by
  have hn : 192 + q.val ∉ [318, 263, 269] := by
    have := q.isLt
    simp
    omega
  unfold State.portEvent
  extract_lets u
  split
  · exact (State.raise_eventsOnly (by omega) hn).pins
  · rfl

/-- The port's pending commands fail, each dropped from its list. -/
theorem State.nvmeFail_foldl_pins {l : List NvmeCmd} : (l.foldl (fun s x => (s.nvmeDrop x).nvmeFail x) s).pins = s.pins :=
  State.foldl_pins fun _ _ _ => State.nvmeFail_pins

/-- Port `q` has lost its link. -/
def State.portLost (s : State) (q : Fin 16) : State := match execReservoirLinkLoss q false s with | .next t => t | _ => s

theorem State.portLost_pins {q : Fin 16} : (s.portLost q).pins = s.pins := by
  change (if s.regBit (R.RESPORT_STATUS q.val) 0 then _ else s : State).pins = s.pins
  split
  · exact State.nvmeFail_foldl_pins.trans State.portEvent_pins
  · rfl

theorem State.pathGone_pins {k : Nat} : (s.pathGone k).pins = s.pins := by
  unfold State.pathGone
  extract_lets had u
  split
  · exact (State.raise_eventsOnly (by decide) (by decide)).pins
  · rfl

theorem State.pondStatus_pins : s.pondStatus.pins = s.pins := rfl

/-- Uloon link `k` has gone down. -/
def State.uloonLost (s : State) (k : Fin 8) : State := match execUloonLinkDown k s with | .next t => t | _ => s

theorem State.uloonLost_pins {k : Fin 8} : (s.uloonLost k).pins = s.pins := by
  unfold State.uloonLost execUloonLinkDown
  simp only []
  split
  · rfl
  · rw [State.pondStatus_pins, State.pathGone_pins]
    split
    · split <;> rfl
    · rfl

theorem State.linksDrop_pins : s.linksDrop.pins = s.pins := by
  unfold State.linksDrop
  extract_lets u v w
  have hu : u.pins = s.pins := State.foldl_pins fun _ _ hp => State.netDown_pins (List.mem_range.mp hp)
  have hv : v.pins = u.pins := State.foldl_pins fun t q _ => State.portLost_pins (s := t) (q := Fin.ofNat 16 q)
  have hw : w.pins = v.pins := State.foldl_pins fun t k _ => State.uloonLost_pins (s := t) (k := Fin.ofNat 8 k)
  have hx : ((List.range 17).foldl (fun s f => s.setRegBit (R.HOSTIF_STATUS f) 2 false) w).pins = w.pins := State.foldl_pins fun _ _ _ => rfl
  rw [hx, hw, hv, hu]

/-- The rail no longer reads good. -/
def State.railGone (s : State) (r : Nat) : State := (s.mapPins fun p => { p with pgRail := maskOff p.pgRail r }).railShow

theorem State.railLost_eq {r : Nat} (h : s.railReady r = true) : s.railLost r =
    if r ≤ 2 then ((s.railGone r).mapPins fun p => { p with fault := true }).powerFail
    else if r ≤ 4 then ((s.railGone r).linksDrop).raise 400
    else (((s.railGone r).cardsOff).fieldOff 0).raise 400 := by
  unfold State.railLost
  rw [if_neg (by simp [h])]
  rfl

theorem State.railGone_pins {r : Nat} : (s.railGone r).pins = { s.pins with pgRail := maskOff s.pins.pgRail r } := rfl

theorem State.railReady_of_pins {r : Nat} (h : t.pins.pgRail = maskOff s.pins.pgRail r) : t.railReady r = false := by
  rw [State.railReady, h, nbit_maskOff (Nat.le_refl r)]
  simp

theorem State.fieldOff_pins {k : Nat} : (s.fieldOff k).pins = s.pins := rfl

/-- A power failure, or one already under way, shows in PMU_STATUS and leaves the pins. -/
theorem State.powerFail_shown (hh : s.pw.held = false) : s.powerFail.regBit R.PMU_STATUS 4 = true ∧ s.powerFail.pins = s.pins := by
  cases hs : s.regBit R.PMU_STATUS 4 with
  | true =>
    have : s.powerFail = s := by
      unfold State.powerFail
      rw [if_pos (.inl hs)]
    rw [this]
    exact ⟨hs, rfl⟩
  | false =>
    obtain ⟨hb, _, _, _, _, _, hp⟩ := State.powerFail_facts hs hh
    exact ⟨hb, hp⟩

theorem State.railLost_facts {r : Nat} (hh : s.pw.held = false) (h : s.railReady r = true) : (s.railLost r).railReady r = false ∧
    (r ≤ 2 → (s.railLost r).pins.fault = true ∧ (s.railLost r).regBit R.PMU_STATUS 4 = true) ∧ (3 ≤ r → (s.railLost r).pends 400) := by
  have hraise (u : State) : u.EventsOnly (u.raise 400) ∧ (u.raise 400).pends 400 :=
    ⟨State.raise_eventsOnly (by decide) (by decide), State.raise_pends (by decide) (by decide)⟩
  rw [State.railLost_eq h]
  by_cases h₂ : r ≤ 2
  · obtain ⟨hb, hp⟩ := State.powerFail_shown (s := (s.railGone r).mapPins fun p => { p with fault := true }) hh
    rw [if_pos h₂]
    refine ⟨State.railReady_of_pins (congrArg Pins.pgRail hp), fun _ => ⟨congrArg Pins.fault hp, hb⟩, by omega⟩
  · rw [if_neg h₂]
    split
    · exact ⟨State.railReady_of_pins (congrArg Pins.pgRail ((hraise _).1.pins.trans State.linksDrop_pins)), (absurd · h₂), fun _ => (hraise _).2⟩
    · obtain ⟨_, _, hc⟩ := State.cardsOff_rest (s := s.railGone r)
      have hpins : ((s.railGone r).cardsOff.fieldOff 0).pins = (s.railGone r).pins := by
        rw [State.fieldOff_pins, hc]
      exact ⟨State.railReady_of_pins (congrArg Pins.pgRail ((hraise _).1.pins.trans hpins)), (absurd · h₂), fun _ => (hraise _).2⟩

/-- A fold of messages sent changes the output alone. -/
theorem State.foldl_out {α : Type} {l : List α} {f : State → α → State} (hf : ∀ u a, ∃ out, f u a = { u with out }) : ∃ out, l.foldl f s = { s with out } :=
  List.foldlRecOn l f (motive := fun u => ∃ out, u = { s with out }) ⟨_, rfl⟩ fun u ⟨_, hu⟩ a _ => by
    obtain ⟨out, h⟩ := hf u a
    exact ⟨out, by rw [h, hu]⟩

theorem State.pmbError_facts : (s.pmbError none).regBit R.PMU_STATUS 3 = true ∧ (s.pmbError none).pends 399 ∧ (s.pmbError none).pw = s.pw := by
  unfold State.pmbError
  extract_lets u v
  obtain ⟨_, hu⟩ : ∃ out, u = { s with out } := State.foldl_out fun t r => by
    dsimp only
    split
    · exact ⟨_, rfl⟩
    · exact State.emit_eq
  have hev : State.EventsOnly _ v := State.raise_eventsOnly (by decide) (by decide)
  refine ⟨?_, State.raise_pends (by decide) (by decide), hev.pw.trans ?_⟩
  · rw [State.regBit_eq_of_reg (hev.reg _ (not_eventReg_of_lt (by decide) (by decide))), State.regBit_setRegBit (by decide), if_pos rfl]
  · rw [hu]
    rfl

/-- What the telemetry poll sends. -/
def State.polled (s : State) : State :=
  (List.range 6).foldl (fun s r =>
    let a := s.regField (R.PMU_RAIL_CFG r) 22 16
    if a = 0 then s else [(0x8B : Byte), 0x8C, 0x8D].foldl (fun s c => s.emit .pmbus [by8 (2 * a), c]) s) s

theorem State.polled_rest : ∃ out, s.polled = { s with out } := State.foldl_out fun t r => by
  dsimp only
  split
  · exact ⟨_, rfl⟩
  · exact State.foldl_out fun _ _ => State.emit_eq

section
variable (hh : s.pw.held = false) (hr : s.pw.inReset = false)
include hh hr

theorem exec_railLost {r : Fin 6} : exec (.railLost r) s = .next (s.railLost r.val) := congrArg Host.Outcome.next (if_neg (by simp [hh, hr]))

theorem exec_pmbAlert : exec (.pmbAlert none) s = .next (s.pmbError none) := congrArg Host.Outcome.next (if_neg (by simp [hh, hr]))

theorem exec_pmbusTelemetryPoll {ok : Bool} : exec (.pmbusTelemetryPoll ok none) s =
    .next (if ok then s.polled.mapPw fun p => { p with pmbFails := 0 }
      else if s.polled.pw.pmbFails + 1 = 3 then (s.polled.mapPw fun p => { p with
          pmbFails := if s.polled.pw.pmbFails + 1 = 3 then 0 else s.polled.pw.pmbFails + 1 }).pmbError none
      else s.polled.mapPw fun p => { p with pmbFails := if s.polled.pw.pmbFails + 1 = 3 then 0 else s.polled.pw.pmbFails + 1 }) :=
  congrArg Host.Outcome.next (if_neg (by simp [hh, hr]))

theorem telemetry_facts :
    Completes (.pmbAlert none) s (fun t => t.regBit R.PMU_STATUS 3 = true ∧ t.pends 399) ∧
    Completes (.pmbusTelemetryPoll true none) s (fun t => t.pw.pmbFails = 0 ∧ s.onlyRegs t []) ∧
    (s.pw.pmbFails < 2 → Completes (.pmbusTelemetryPoll false none) s fun t => t.pw.pmbFails = s.pw.pmbFails + 1 ∧ s.onlyRegs t []) ∧
    (s.pw.pmbFails = 2 → Completes (.pmbusTelemetryPoll false none) s fun t =>
      t.pw.pmbFails = 0 ∧ t.regBit R.PMU_STATUS 3 = true ∧ t.pends 399) := by
  obtain ⟨out, hp⟩ := State.polled_rest (s := s)
  have hf : s.polled.pw.pmbFails = s.pw.pmbFails := by rw [hp]
  refine ⟨⟨_, exec_pmbAlert hh hr, State.pmbError_facts.1, State.pmbError_facts.2.1⟩, ⟨_, exec_pmbusTelemetryPoll hh hr, ?_⟩,
    fun h => ⟨_, exec_pmbusTelemetryPoll hh hr, ?_⟩, fun h => ⟨_, exec_pmbusTelemetryPoll hh hr, ?_⟩⟩
  · rw [if_pos rfl, hp]
    exact ⟨rfl, rfl, rfl, fun _ _ => rfl⟩
  · rw [if_neg Bool.false_ne_true, hf, if_neg (by omega), if_neg (by omega), hp]
    exact ⟨rfl, rfl, rfl, fun _ _ => rfl⟩
  · rw [if_neg Bool.false_ne_true, hf, if_pos (by omega), if_pos (by omega)]
    obtain ⟨hb, he, hpw⟩ := State.pmbError_facts (s := s.polled.mapPw fun p => { p with pmbFails := 0 })
    exact ⟨congrArg PowerState.pmbFails hpw, hb, he⟩

end

end Sys2Proof.Machine

namespace Sys2Proof

open Machine

/-- Power-up: rails, domains, PLLs, stacks and retries. -/
theorem powerUp {s : State} (hh : s.pw.held = false) :
    (s.pins.vin = true → s.pw.good = false → Completes .vinCoreGood s fun t => t.pw.good = true ∧ t.railOn 0 = true) ∧
    (∀ r : Fin 6, s.railOn r = true → s.railReady r = false → Completes (.railReady r) s fun t =>
      t.railReady r = true ∧ (r.val < 5 → t.railOn (r + 1) = true) ∧ (r.val = 5 → ∀ n ∈ [64, 65, 66], s.domState n = 0 → t.domState n = 1)) := by
  refine ⟨fun hv hg => ⟨_, exec_vinCoreGood hh hv hg, ?_, State.railEnable_on⟩, fun r ho hr => ⟨_, exec_railReady hh ho hr, ?_⟩⟩
  · obtain ⟨_, _, h⟩ := State.railEnable_rest (s := s.mapPw fun p => { p with good := true }) (r := 0)
    rw [h]
    rfl
  · have hready : (s.railMarked r).railReady r = true := nbit_or_self
    split
    next h5 =>
      obtain ⟨_, _, h⟩ := State.railEnable_rest (s := s.railMarked r) (r := r + 1)
      refine ⟨?_, fun _ => State.railEnable_on, by omega⟩
      rw [h]
      exact hready
    next h5 =>
      obtain ⟨_, h⟩ := State.foldl_domUp_rest (s := s.railMarked r) (l := [64, 65, 66])
      refine ⟨?_, (absurd · h5), fun _ n hn hz => State.foldl_domUp.trans (if_pos ⟨hn, ?_⟩)⟩
      · rw [h]
        exact hready
      · refine (State.regField_eq_of_reg ?_).trans hz
        refine (State.railShow_reg ?_).trans (State.mapPins_reg _ _ _)
        simp only [railReg, R.PMU_DOM_STATE, R.PMU_RAIL_STATUS, R.PMU_STATUS]
        omega

theorem retries {s : State} {item : StartItem} {detail : Fin 6} (hh : s.pw.held = false) (ha : s.attempting item = true) :
    ((s.pw.fails.lookup item).getD 0 < 2 → Completes (.railAttemptTimeout item detail) s fun t =>
      t.pw.pauses = s.pw.pauses ++ [(item, s.now)] ∧ t.pw.held = false ∧ t.pends (if (itemCode item).1 = 3 then 388 else 387) ∧
      t.reg R.RESET_ATTEMPTS = w32 (min 255 ((s.reg R.RESET_ATTEMPTS).toNat + 1))) ∧
    (2 ≤ (s.pw.fails.lookup item).getD 0 → Completes (.railAttemptTimeout item detail) s fun t =>
      t.pw.held = true ∧ t.pins.fault = true ∧ (∀ r : Fin 6, t.railOn r = false) ∧
      t.reg (R.RESET_BKP 16) = w32 ((itemCode item).1 * 2 ^ 24 + (itemCode item).2 * 65536 + 3 * 256 + detail.val)) := by
  obtain ⟨hp, hreg, hnow, hpau, hheld⟩ := State.attemptFailed_facts (s := s) (item := item)
  refine ⟨fun h => ⟨_, exec_railAttemptTimeout ha, ?_⟩, fun h => ⟨_, exec_railAttemptTimeout ha, ?_⟩⟩
  · rw [if_neg (show ¬ 3 ≤ (s.pw.fails.lookup item).getD 0 + 1 by omega)]
    obtain ⟨_, _, hoff⟩ := State.itemOff_rest (s := s.attemptFailed item) (item := item)
    have hkept {k : Nat} (hk : k < 0x100A00000 ∨ 0x100B00000 ≤ k) :
        (((s.attemptFailed item).itemOff item).mapPw fun p => { p with pauses := p.pauses ++ [(item, (s.attemptFailed item).now)] }).reg k =
          (s.attemptFailed item).reg k := (State.mapPw_reg _ _ _).trans (State.itemOff_reg hk)
    refine ⟨?_, ?_, (State.regBit_eq_of_reg (hkept ?_)).trans hp, (hkept (by decide)).trans hreg⟩
    · rw [hoff, ← hpau, ← hnow]
      rfl
    · rw [hoff]
      exact hheld.trans hh
    · right
      simp only [R.EVT_PEND]
      omega
  · rw [if_pos (show 3 ≤ (s.pw.fails.lookup item).getD 0 + 1 by omega), State.startFailure_eq]
    exact State.heldWith_facts

theorem railsLost {s : State} {r : Fin 6} (hh : s.pw.held = false) (hr : s.pw.inReset = false) (h : s.railReady r = true) :
    Completes (.railLost r) s fun t =>
      t.railReady r = false ∧ (r.val ≤ 2 → t.pins.fault = true ∧ t.regBit R.PMU_STATUS 4 = true) ∧ (3 ≤ r.val → t.pends 400) :=
  ⟨_, exec_railLost hh hr, State.railLost_facts hh h⟩

/-- The power-fail sequence, the device's own cold reset once supply is back, and regulators that report. -/
theorem powerFails {s : State} :
    (s.regBit R.PMU_STATUS 4 = false → s.pw.held = false → Completes .powerFail s fun t =>
      t.regBit R.PMU_STATUS 4 = true ∧ t.bt.stop = true ∧ t.ev.wdogP = none ∧ t.ev.wdogS = none ∧ t.pw.fallAt = some s.now ∧ t.pends 384 ∧
      t.pins.pwrfail = true) ∧
    (∀ t0, s.pw.fallAt = some t0 → s.regBit R.PMU_STATUS 4 = true →
      (s.pw.drained = false → Completes .powerFailDrainDone s fun t => t.pw.drained = true ∧ t.pends 268) ∧
      Completes .holdupEnd s fun t => t.HeldOff) ∧
    (s.pins.pwrfail = true → Completes .pwrfailRise s fun t =>
      t.pins.pwrfail = false ∧ t.pw.riseAt = some s.now ∧ (s.pins.vin = true → t.pends 385)) := by
  refine ⟨fun hb hh => ⟨_, exec_powerFail, ?_⟩, fun t₀ hf hb => ⟨fun hd => ⟨_, exec_powerFailDrainDone hf hb hd, ?_⟩, _, exec_holdupEnd hf hb, State.heldUp_facts⟩,
    fun h => ⟨_, exec_pwrfailRise h, ?_⟩⟩
  · obtain ⟨hbit, hstop, hp, hs, hfall, he, hpins⟩ := State.powerFail_facts (s := s.mapPins fun p => { p with pwrfail := true }) hb hh
    exact ⟨(State.regBit_eq_of_reg (State.mapPw_reg _ _ _)).trans hbit, hstop, hp, hs, hfall, (State.regBit_eq_of_reg (State.mapPw_reg _ _ _)).trans he,
      congrArg Pins.pwrfail hpins⟩
  · have hev : State.EventsOnly _ (((s.drainedAt (max s.now (t₀ + 2600000))).mapPw fun p => { p with drained := true }).raise 268) :=
      State.raise_eventsOnly (by decide) (by decide)
    exact ⟨congrArg PowerState.drained hev.pw, State.raise_pends (by decide) (by decide)⟩
  · by_cases hv : s.pins.vin = true
    · rw [if_pos hv]
      have hev : State.EventsOnly _ (((s.mapPins fun p => { p with pwrfail := false }).mapPw fun p => { p with riseAt := some s.now }).raise 385) :=
        State.raise_eventsOnly (by decide) (by decide)
      exact ⟨congrArg Pins.pwrfail hev.pins, congrArg PowerState.riseAt hev.pw, fun _ => State.raise_pends (by decide) (by decide)⟩
    · rw [if_neg hv]
      exact ⟨rfl, rfl, (absurd · hv)⟩

/-- Settles O28: power-up and its retries, the power-fail sequence with its return, and regulators that report. -/
theorem powerSequences : Obligations.PowerSequences := by
  refine ⟨fun s hh => ?_, fun s => ?_⟩
  · obtain ⟨hvin, hrail⟩ := powerUp hh
    refine ⟨hvin, hrail, fun n hd hc => ⟨_, exec_domainReady hh hd hc, ?_⟩, fun n onRc hc hp => ⟨_, exec_pllLock hh hc hp, ?_⟩,
      fun n hr hb => ⟨_, exec_hbmTrainingDone hh hr hb, nbit_or_self, (State.regField_setRegField (by decide)).trans (by decide)⟩,
      fun item detail ha => retries hh ha, fun r t₀ hp => ⟨_, exec_retryPauseEnd_rail hh hp, ?_⟩⟩
    · split
      · exact State.foldl_vatsUp_on State.domState_setDom
      · exact State.domState_setDom
    · have hev (u : State) : u.EventsOnly (u.raise 389) ∧ (u.raise 389).pends 389 :=
        ⟨State.raise_eventsOnly (by decide) (by decide), State.raise_pends (by decide) (by decide)⟩
      split
      · refine ⟨(congrArg (nbit ·.plls n) (hev _).1.pw).trans nbit_or_self, fun _ _ _ => ⟨?_, (hev _).2⟩⟩
        rw [State.regBit_eq_of_reg ((hev _).1.reg _ (not_eventReg_of_lt (by decide) (by decide))), State.regBit_setRegBit (by decide), if_pos rfl]
      next hno => exact ⟨nbit_or_self, fun ho hn hs => absurd ⟨ho, hn, by simp [hs]⟩ hno⟩
    · obtain ⟨_, _, h⟩ := State.railEnable_rest (s := ({ s with now := max s.now (t₀ + 1000000) } : State).mapPw fun p =>
        { p with pauses := p.pauses.filter fun x => x.1 != .rail r }) (r := r)
      refine ⟨State.railEnable_on, ?_, ?_⟩ <;> rw [h] <;> rfl
  · obtain ⟨hfail, hdrain, hrise⟩ := powerFails (s := s)
    refine ⟨hfail, hdrain, hrise, fun hh ho hf hv => ?_, fun r hh hr h => railsLost hh hr h, fun hh hr => telemetry_facts hh hr⟩
    obtain ⟨now, h⟩ := exec_heldSelfReset hh ho hf hv
    have hb := State.coldReset_begun (s := { s with now }) (cause := 3) (quick := false)
    exact ⟨_, h, hb.cause, hb.inReset, hb.held, hb.kind.trans (by simp)⟩

end Sys2Proof

/-! SUPPORT. Start, shutdown and self-test (R680, R691, R696 to R702). -/

namespace Sys2Proof.Machine

variable {s t u : State}

theorem State.setRegBytes_pw {k : Nat} {bs : Bytes} : (s.setRegBytes k bs).pw = s.pw := State.foldl_pw fun _ _ => rfl

theorem State.extend_pw {i : Nat} {d : Bytes} : (s.extend i d).pw = s.pw := by
  rw [State.extend, State.bump, State.setReg_pw, State.setRegBytes_pw]

theorem State.wmarkAdvance_pw {w : Word} : (s.wmarkAdvance w).pw = s.pw := by
  unfold State.wmarkAdvance
  split
  · rfl
  · extract_lets t
    split <;> rfl

/-- The power state as stage-one firmware leaves it (R691). -/
theorem State.startStageOne_pw : s.startStageOne.pw = s.pw := by
  unfold State.startStageOne
  extract_lets fw a b c
  have ha : a.pw = s.pw := by
    unfold a
    split
    · rw [State.wmarkAdvance_pw, State.extend_pw]
    · rfl
  have hb : b.pw = a.pw := by
    unfold b
    split
    · rw [State.wmarkAdvance_pw, State.extend_pw, State.extend_pw]
    · rfl
  have hc : c.pw = b.pw := State.setRegs_pw.trans (b.wipe_pw _ _)
  exact hc.trans (hb.trans ha)

theorem State.springEnable_on : s.springEnable.springOn = true := (State.regBit_setRegBit (by decide)).trans (if_pos rfl)

section
variable (hr : s.pw.inReset = false) (hh : s.pw.held = false) (hq : s.quiet = false) {fwOk : Bool} {kat : BitVec 64} {late : Bool}
include hr hh hq

theorem exec_deviceStart_off (ho : s.springOn = false) :
    exec (.deviceStart fwOk kat late) s = .next (if fwOk then s.startStageOne else s.startFailure 8 0 1 5) := by
  refine congrArg Host.Outcome.next ((if_neg ?_).trans (if_pos ?_))
  · simp [hr, hh, hq]
  · simp [ho]

/-- Once the start's work is done, it waits for seeds or the time limit alone. -/
theorem exec_deviceStart_started (ho : s.springOn = true) (hs : s.pw.started = true) : exec (.deviceStart fwOk kat true) s = .next s.beatStart := by
  have hw : (if s.pw.started ∨ s.pw.hbm ≠ 3 ∨ s.spr.device = none then s
      else (s.mapPw fun p => { p with started := true }).startWork kat.toNat) = s := if_pos (.inl hs)
  refine congrArg Host.Outcome.next ((if_neg ?_).trans ((if_neg ?_).trans ?_))
  · simp [hr, hh, hq]
  · simp [ho]
  · dsimp only
    rw [hw, if_pos ⟨hs, .inr rfl⟩]

end

/-- What waits is answered BUSY. -/
def State.waitingBusy (s : State) : State := (s.bt.jobs.filter Job.isWaiting).foldl (fun s x => s.answerAt x clsBusy 0x0104 s.nextEdge) s

theorem exec_shutdown {i : Nat} {j : Job} (hc : s.command i 0x8020 = some j) (hs : s.pw.shut = none) : exec (.shutdown i) s =
    .next ((s.waitingBusy.mapBt fun b => { b with stop := true }).mapPw fun p => { p with shut := some (i, byteAt j.desc 0x20 == 1) }) := by
  change execShutdown i s = _
  simp only [execShutdown, hc, hs, Option.isSome_none, Bool.false_eq_true, if_false]
  rfl

section
variable (ht : s.pw.selfTest = 1) (hh : s.pw.held = false) (hs : s.pw.shut = none) (hr : s.pw.inReset = true) (hc : s.centralOn = true)
include ht hh hs hr hc

theorem exec_selfTestComplete {pass : BitVec 64} {fails : BitVec 3} {block : Nat} {cells : BitVec 128} :
    exec (.selfTestComplete pass fails block cells) s = .next (if fails ≠ 0 then s.startFailure 6 (block % 256) 1 5
      else (s.excludeCells cells).mapPw fun p => { p with selfTest := 2, passMask := pass.toNat }) := by
  refine congrArg Host.Outcome.next ((if_neg ?_).trans ((if_neg ?_).trans (if_neg ?_)))
  · simp [ht, hh]
  · simp [hs]
  · simp [hr, hc]

theorem exec_selfTestConditionsTimeout : exec .selfTestConditionsTimeout s =
    .next (((s.setRegBit R.RESET_STATUS 2 true).mapPw fun p => { p with selfTest := 2, passMask := 2 ^ 64 - 1 }).raise 395) := by
  refine congrArg Host.Outcome.next ((if_neg ?_).trans ((if_neg ?_).trans (if_neg ?_)))
  · simp [ht, hh]
  · simp [hs]
  · simp [hr, hc]

end

/-- A start failure's stage and item stand in the backup register. -/
theorem State.startFailure_held {stage item code : Nat} (h : stage * 2 ^ 24 + item * 65536 + 1 * 256 + 5 = code) :
    (s.startFailure stage item 1 5).pw.held = true ∧ (s.startFailure stage item 1 5).pins.fault = true ∧
    (s.startFailure stage item 1 5).reg (R.RESET_BKP 16) = w32 code := by
  rw [State.startFailure_eq, h]
  obtain ⟨hheld, hfault, _, hcode⟩ := State.heldWith_facts (s := s) (code := code)
  exact ⟨hheld, hfault, hcode⟩

end Sys2Proof.Machine

namespace Sys2Proof

open Machine

/-- Settles O32: the start with and without verified firmware, its beat, SHUTDOWN, and the self-test's outcomes. -/
theorem startAndShutdown : Obligations.StartAndShutdown := by
  intro s
  refine ⟨fun kat late hr hh hq ho => ⟨⟨_, exec_deviceStart_off hr hh hq ho, State.springEnable_on, ?_⟩, _, exec_deviceStart_off hr hh hq ho, ?_⟩,
    fun kat hr hh hq ho hs => exec_deviceStart_started hr hh hq ho hs, fun i j hc hs => ⟨_, exec_shutdown hc hs, rfl, rfl⟩,
    fun pass cells ht hh hs hr hc => ⟨⟨_, exec_selfTestComplete ht hh hs hr hc, rfl, rfl, hh⟩,
      ⟨_, exec_selfTestComplete ht hh hs hr hc, ?_⟩, _, exec_selfTestConditionsTimeout ht hh hs hr hc, ?_⟩⟩
  · exact (congrArg PowerState.held State.startStageOne_pw).trans hh
  · obtain ⟨hheld, hfault, hcode⟩ := State.startFailure_held (s := s) (stage := 8) (item := 0) (code := 8 * 2 ^ 24 + 256 + 5) (by norm_num)
    exact ⟨hheld, hcode, hfault⟩
  · obtain ⟨hheld, _, hcode⟩ := State.startFailure_held (s := s) (stage := 6) (item := 0x0A) (code := 6 * 2 ^ 24 + 0x0A * 65536 + 256 + 5) (by norm_num)
    exact ⟨hheld, hcode⟩
  · have hev : State.EventsOnly _ (((s.setRegBit R.RESET_STATUS 2 true).mapPw fun p => { p with selfTest := 2, passMask := 2 ^ 64 - 1 }).raise 395) :=
      State.raise_eventsOnly (by decide) (by decide)
    refine ⟨congrArg PowerState.selfTest hev.pw, ?_, State.raise_pends (by decide) (by decide)⟩
    rw [State.regBit_eq_of_reg (hev.reg _ (not_eventReg_of_lt (by decide) (by decide))), State.regBit_eq_of_reg (State.mapPw_reg _ _ _),
      State.regBit_setRegBit (by decide), if_pos rfl]

end Sys2Proof

/-! SUPPORT. The spring's seeds, health and raw samples (R567 to R573, R590, R593). -/

namespace Sys2Proof.Machine

variable {s t u : State}

theorem State.EventsOnly.spr (h : s.EventsOnly t) : t.spr = s.spr := by
  obtain ⟨_, _, _, _, _, rfl⟩ := h.rest
  rfl

/-- A register other than the pending bits leaves what is pending. -/
theorem State.pends_setRegBit {k i n : Nat} {b : Bool} (h : k < 0x100D00000) : (s.setRegBit k i b).pends n ↔ s.pends n := by
  have hreg : (s.setRegBit k i b).reg (R.EVT_PEND (n / 32)) = s.reg (R.EVT_PEND (n / 32)) := State.reg_setReg_other _ _ (by
    simp only [R.EVT_PEND]
    omega)
  unfold State.pends
  rw [State.regBit_eq_of_reg hreg]

/-! ### Seeds -/

theorem State.seedIn_full {x : Bytes} (h : 1024 ≤ s.spr.store.length) : s.seedIn x = s := if_pos h

/-- A seed that nothing waits for joins the store. -/
theorem State.seedIn_stored {x : Bytes} (h : s.spr.store.length < 1024) (hd : s.spr.device ≠ none) (hc : s.spr.cmdAt = none)
    (ho : s.spr.outHeld = false) :
    s.seedIn x = s.mapSpr fun p => { p with store := p.store ++ [x], wasHigh := p.wasHigh || decide (256 ≤ p.store.length + 1) } := by
  unfold State.seedIn
  rw [if_neg (by omega)]
  extract_lets a b c
  have hb : b = a := if_neg fun h => hd h.1
  have hcb : c = b := if_neg fun h => h.1 (by rw [hb]; exact hc)
  rw [hcb, hb]
  exact if_neg fun h => by
    rw [show a.spr.outHeld = false from ho] at h
    cases h.1

theorem State.onlyRegs_mapSpr {f : SpringState → SpringState} : s.onlyRegs (s.mapSpr f) [] := ⟨rfl, rfl, fun _ _ => s.mapSpr_reg f _⟩

section
variable (ho : s.springOn = true) {c : Fin 128} {samples : Bytes} {w : Word} {apt : Bool}
include ho

theorem exec_seedComplete (hr : s.springRaw = false) (ht : s.springTest = false) (hx : (s.spr.cells.getD c NoiseCell.none).inService = true)
    (hf : s.springFault = false) (hl : samples.length = 80) : exec (.seedComplete c samples) s = .next (s.seedIn (sha256 samples)) :=
  congrArg Host.Outcome.next ((if_neg (by simp [ho, hr])).trans ((if_neg (by simp [ht])).trans (if_pos ⟨hx, by simp [hf], hl⟩)))

theorem exec_seedComplete_pattern (hr : s.springRaw = false) (ht : s.springTest = true) : exec (.seedComplete c samples) s =
    .next ((s.mapSpr fun p => { p with pattern := p.pattern + 1 }).seedIn (s.patternSeed s.spr.pattern)) :=
  congrArg Host.Outcome.next ((if_neg (by simp [ho, hr])).trans (if_pos ht))

theorem exec_cellHealthFailure (ht : s.springTest = false) (hx : (s.spr.cells.getD c NoiseCell.none).inService = true) :
    exec (.cellHealthFailure c apt) s = .next (s.cellFail c apt) := congrArg Host.Outcome.next (if_pos ⟨ho, by simp [ht], hx⟩)

theorem exec_cellRetest (hr : s.springRaw = false) (hx : (s.spr.cells.getD c NoiseCell.none).inService = false)
    (he : (s.spr.cells.getD c NoiseCell.none).excluded = false) (ht : (s.spr.cells.getD c NoiseCell.none).testing = false) :
    exec (.cellRetest c) s = .next (({ s with now := max s.now ((s.spr.cells.getD c NoiseCell.none).leftAt + 1000000) } : State).setCell c
      { s.spr.cells.getD c NoiseCell.none with testing := true }) := congrArg Host.Outcome.next (if_pos ⟨ho, by simp [hr], ne_of_eq_of_ne hx Bool.false_ne_true, ne_of_eq_of_ne he Bool.false_ne_true,
      ne_of_eq_of_ne ht Bool.false_ne_true⟩)

end

theorem exec_cellStartupComplete_pass {c : Fin 128} {apt : Bool} (ht : (s.spr.cells.getD c NoiseCell.none).testing = true) :
    exec (.cellStartupComplete c true apt) s =
      .next (((s.setCell c { s.spr.cells.getD c NoiseCell.none with testing := false, inService := true }).serviceCheck).startDone) :=
  congrArg Host.Outcome.next ((if_pos ht).trans (if_pos rfl))

theorem exec_rawSampleWord {c : Fin 128} {w : Word} (hr : s.springRaw = true) (hb : bit (s.reg R.SPRING_RAW_SEL) 7 = false)
    (hc : field (s.reg R.SPRING_RAW_SEL) 6 0 = c.val) : exec (.rawSampleWord c w) s =
      .next (if s.spr.rawFifo.length < 256 then s.mapSpr fun p => { p with rawFifo := p.rawFifo ++ [w] }
        else (s.bump R.SPRING_RAW_LOST).raise 362) := congrArg Host.Outcome.next (if_pos (by simp [hr, hb, hc]))

/-! ### Health -/

/-- A cell that is not the one that does not exist is one of the spring's. -/
theorem State.cell_lt {c : Nat} (h : s.spr.cells.getD c NoiseCell.none ≠ NoiseCell.none) : c < s.spr.cells.length := by
  by_contra hc
  exact h (List.getD_eq_default _ _ (by omega))

theorem State.cell_setCell {c : Nat} {x : NoiseCell} (h : c < s.spr.cells.length) : (s.setCell c x).spr.cells.getD c NoiseCell.none = x := by
  simp [State.setCell, State.mapSpr, List.getD_eq_getElem?_getD, h]

/-- The check of what is in service shows its finding alone. -/
theorem State.serviceCheck_cases : s.serviceCheck = s ∨
    ∃ b n, (n = 355 ∨ n = 356) ∧ s.serviceCheck = (s.setRegBit R.SPRING_STATUS 2 b).raise n := by
  unfold State.serviceCheck
  split
  · exact .inl rfl
  · extract_lets low
    split
    · exact .inr ⟨_, _, .inl rfl, rfl⟩
    · split
      · exact .inr ⟨_, _, .inr rfl, rfl⟩
      · exact .inl rfl

theorem State.serviceCheck_events {b : Bool} {n : Nat} (h : n = 355 ∨ n = 356) :
    (s.setRegBit R.SPRING_STATUS 2 b).EventsOnly ((s.setRegBit R.SPRING_STATUS 2 b).raise n) := by
  obtain rfl | rfl := h <;> exact State.raise_eventsOnly (by decide) (by decide)

theorem State.serviceCheck_spr : s.serviceCheck.spr = s.spr := by
  obtain h | ⟨b, n, hn, h⟩ := State.serviceCheck_cases (s := s)
  · rw [h]
  · rw [h, (State.serviceCheck_events hn).spr]
    rfl

theorem State.serviceCheck_reg {k : Nat} (h : k ≠ R.SPRING_STATUS) (he : ¬ eventReg k) : s.serviceCheck.reg k = s.reg k := by
  obtain hs | ⟨b, n, hn, hs⟩ := State.serviceCheck_cases (s := s)
  · rw [hs]
  · rw [hs, (State.serviceCheck_events hn).reg k he]
    exact State.reg_setReg_other _ _ h

theorem State.serviceCheck_pends {n : Nat} (hlt : n < 640) (h : s.pends n) : s.serviceCheck.pends n := by
  obtain hs | ⟨b, m, hm, hs⟩ := State.serviceCheck_cases (s := s)
  · rwa [hs]
  · rw [hs]
    exact (State.serviceCheck_events hm).pend n hlt ((State.pends_setRegBit (by decide)).mpr h)

/-- The counter and the event of a health failure. -/
def failReg (apt : Bool) : Nat := if apt then R.SPRING_APT_FAILS else R.SPRING_RCT_FAILS
def failEvent (apt : Bool) : Nat := if apt then 353 else 352

/-- A failure is counted. -/
def State.failCounted (s : State) (apt : Bool) : State := (s.bump (failReg apt)).raise (failEvent apt)

/-- The cell is out of service as well, before what the number of cells leads to. -/
def State.cellOut (s : State) (c : Nat) (apt : Bool) : State :=
  let x := s.spr.cells.getD c NoiseCell.none
  let s := (s.failCounted apt).setCell c
    { x with inService := false, testing := false, fails := x.fails + 1, excluded := decide (4 ≤ x.fails + 1), leftAt := (s.failCounted apt).now }
  if 4 ≤ x.fails + 1 then s.raise 354 else s

theorem failEvent_plain {apt : Bool} : failEvent apt < 640 ∧ failEvent apt ∉ [318, 263, 269] := by cases apt <;> decide

theorem State.cellOut_facts {c : Nat} {apt : Bool} (hc : c < s.spr.cells.length) :
    (s.cellOut c apt).spr.cells.getD c NoiseCell.none = { s.spr.cells.getD c NoiseCell.none with
      inService := false, testing := false, fails := (s.spr.cells.getD c NoiseCell.none).fails + 1
      excluded := decide (4 ≤ (s.spr.cells.getD c NoiseCell.none).fails + 1), leftAt := (s.failCounted apt).now } ∧
    (s.cellOut c apt).reg (failReg apt) = satInc (s.reg (failReg apt)) ∧ (s.cellOut c apt).pends (failEvent apt) := by
  unfold State.cellOut
  extract_lets x v
  have hr : (s.bump (failReg apt)).EventsOnly (s.failCounted apt) := State.raise_eventsOnly failEvent_plain.1 failEvent_plain.2
  have hlen : c < (s.failCounted apt).spr.cells.length := by
    rw [hr.spr]
    exact hc
  have hev : v.EventsOnly (if 4 ≤ x.fails + 1 then v.raise 354 else v) := .ite (State.raise_eventsOnly (by decide) (by decide)) .refl
  have hplain : ¬ eventReg (failReg apt) := by cases apt <;> exact not_eventReg_of_lt (by decide) (by decide)
  refine ⟨?_, ?_, hev.pend _ failEvent_plain.1 ?_⟩
  · rw [hev.spr]
    exact State.cell_setCell hlen
  · exact (hev.reg _ hplain).trans <| (State.mapSpr_reg _ _ _).trans <| (hr.reg _ hplain).trans (State.reg_setReg_same _ _ _)
  · have hp : (s.failCounted apt).pends (failEvent apt) := State.raise_pends failEvent_plain.1 failEvent_plain.2
    exact (State.regBit_eq_of_reg (State.mapSpr_reg _ _ _)).trans hp

theorem State.cellFail_eq {c : Nat} {apt : Bool} (hr : s.springRaw = false) : s.cellFail c apt = (s.cellOut c apt).serviceCheck := by
  have hraw : ((s.bump (failReg apt)).raise (failEvent apt)).springRaw = s.springRaw := by
    have hev : State.EventsOnly _ ((s.bump (failReg apt)).raise (failEvent apt)) := State.raise_eventsOnly failEvent_plain.1 failEvent_plain.2
    exact State.regBit_eq_of_reg ((hev.reg _ (not_eventReg_of_lt (by decide) (by decide))).trans
      (State.reg_setReg_other _ _ (by cases apt <;> decide)))
  unfold State.cellFail
  refine if_neg ?_
  rw [← Bool.not_eq_true] at hr
  rwa [← hraw] at hr

theorem State.devInstantiate_cells : s.devInstantiate.spr.cells = s.spr.cells := by
  have hlow {u : State} : u.lowSeeds.spr.cells = u.spr.cells := by
    unfold State.lowSeeds
    split
    · rw [(State.raise_eventsOnly (by decide) (by decide)).spr]
      rfl
    · rfl
  unfold State.devInstantiate
  split
  · split
    · rw [hlow]
      rfl
    · rfl
  · rfl

theorem State.startDone_cells : s.startDone.spr.cells = s.spr.cells := by
  unfold State.startDone
  split
  · rw [State.devInstantiate_cells, State.serviceCheck_spr, (State.raise_eventsOnly (by decide) (by decide)).spr]
    rfl
  · rfl

end Sys2Proof.Machine

namespace Sys2Proof

open Machine

/-- Settles O33: seeds, the test pattern, health failures and start-up tests, and raw samples. -/
theorem springSeedsAndHealth : Obligations.SpringSeedsAndHealth := by
  intro s c samples w ho
  refine ⟨fun hr hd hc hout => ⟨fun ht hx hf hl => ⟨fun h => ⟨_, exec_seedComplete ho hr ht hx hf hl, ?_⟩,
      fun h => ⟨_, exec_seedComplete ho hr ht hx hf hl, ?_⟩⟩, fun ht h => ⟨_, exec_seedComplete_pattern ho hr ht, ?_⟩⟩,
    fun apt ht hr hx => ⟨_, exec_cellHealthFailure ho ht hx, ?_⟩, fun hr hx he ht => ⟨_, exec_cellRetest ho hr hx he ht, ?_⟩,
    fun ht apt => ⟨_, exec_cellStartupComplete_pass ht, ?_⟩,
    fun hr hb hc => ⟨fun h => ⟨_, exec_rawSampleWord hr hb hc, ?_⟩, fun h => ⟨_, exec_rawSampleWord hr hb hc, ?_⟩⟩⟩
  · rw [State.seedIn_stored h hd hc hout]
    exact ⟨rfl, State.onlyRegs_mapSpr⟩
  · rw [State.seedIn_full h]
    exact ⟨rfl, rfl, rfl, fun _ _ => rfl⟩
  · rw [State.seedIn_stored (s := s.mapSpr fun p => { p with pattern := p.pattern + 1 }) h hd hc hout]
    exact ⟨rfl, rfl⟩
  · have hlt : c.val < s.spr.cells.length := State.cell_lt fun h => by
      rw [h] at hx
      cases hx
    obtain ⟨hcell, hreg, hp⟩ := State.cellOut_facts (apt := apt) hlt
    rw [State.cellFail_eq hr]
    have hplain : failReg apt ≠ R.SPRING_STATUS ∧ ¬ eventReg (failReg apt) := by
      cases apt <;> exact ⟨by decide, not_eventReg_of_lt (by decide) (by decide)⟩
    dsimp only
    rw [State.serviceCheck_spr, hcell]
    exact ⟨rfl, rfl, rfl, (State.serviceCheck_reg hplain.1 hplain.2).trans hreg, State.serviceCheck_pends failEvent_plain.1 hp⟩
  · have hlt : c.val < s.spr.cells.length := State.cell_lt fun h => by
      rw [h] at he
      cases he
    refine ⟨?_, rfl, State.onlyRegs_mapSpr⟩
    exact congrArg NoiseCell.testing (State.cell_setCell hlt)
  · have hlt : c.val < s.spr.cells.length := State.cell_lt fun h => by
      rw [h] at ht
      cases ht
    dsimp only
    rw [State.startDone_cells, State.serviceCheck_spr]
    have hcell := State.cell_setCell (x := { s.spr.cells.getD c NoiseCell.none with testing := false, inService := true }) hlt
    exact ⟨congrArg NoiseCell.testing hcell, congrArg NoiseCell.inService hcell⟩
  · rw [if_pos h]
    exact ⟨rfl, State.onlyRegs_mapSpr⟩
  · have hev : State.EventsOnly _ ((s.bump R.SPRING_RAW_LOST).raise 362) := State.raise_eventsOnly (by decide) (by decide)
    rw [if_neg (by omega)]
    refine ⟨congrArg SpringState.rawFifo hev.spr, ?_, State.raise_pends (by decide) (by decide)⟩
    rw [hev.reg _ (not_eventReg_of_lt (by decide) (by decide)), State.bump, State.reg_setReg_same]

end Sys2Proof

/-! SUPPORT. Reseeds of the DRBG instances, the spring's modes, and reads of its output registers (R575 to R603). -/

namespace Sys2Proof.Machine

variable {s t u : State}

theorem State.regBit_setRegBit_other {k j i m : Nat} {b : Bool} (h : j ≠ k) : (s.setRegBit k i b).regBit j m = s.regBit j m :=
  State.regBit_eq_of_reg (State.reg_setReg_other _ _ h)

/-! ### Reseeds (R575, R580, R581, R583) -/

theorem State.EventsOnly.onlyRegs (h : s.EventsOnly t) : t.cores = s.cores ∧ t.bt = s.bt ∧ t.now = s.now := by
  obtain ⟨_, _, _, _, _, rfl⟩ := h.rest
  exact ⟨rfl, rfl, rfl⟩

theorem State.lowSeeds_spr : ∃ w, s.lowSeeds.spr = { s.spr with wasHigh := w } := by
  unfold State.lowSeeds
  split
  · rw [(State.raise_eventsOnly (by decide) (by decide)).spr]
    exact ⟨_, rfl⟩
  · exact ⟨_, rfl⟩

/-- A reseed of the device DRBG takes the oldest seed of the store. -/
theorem State.devReseed_spr {d : Drbg} {x add : Bytes} {xs : List Bytes} (hd : s.spr.device = some d) (hs : s.spr.store = x :: xs) :
    (s.devReseed add).spr.device = some (drbgReseed d x add) ∧ (s.devReseed add).spr.store = xs ∧ (s.devReseed add).spr.devEdge = s.beat := by
  have htake : s.takeSeed = some (x, (s.mapSpr fun p => { p with store := xs }).lowSeeds) := by
    rw [State.takeSeed, hs]
  have heq : s.devReseed add =
      (s.mapSpr fun p => { p with store := xs }).lowSeeds.mapSpr fun p => { p with device := some (drbgReseed d x add), devEdge := s.beat } := by
    rw [State.devReseed, hd, htake]
  obtain ⟨w, hlow⟩ := State.lowSeeds_spr (s := s.mapSpr fun p => { p with store := xs })
  rw [heq]
  refine ⟨rfl, ?_, rfl⟩
  rw [State.mapSpr, hlow]
  rfl

theorem State.unit_setUnit {v : Nat} {x : DrbgUnit} (h : s.unit v ≠ DrbgUnit.reset) : (s.setUnit v x).unit v = x := by
  have hv : v < s.spr.units.length := by
    by_contra hv
    exact h (List.getD_eq_default _ _ (by omega))
  simp [State.unit, State.setUnit, State.mapSpr, List.getD_eq_getElem?_getD, hv]

/-- With no RANDOM of this edge in sight, every seed of the vat's slots is free for a periodic reseed. -/
theorem State.prOn_false {v : Nat} (h : s.prOn v true = false) : s.prOn v false = false := by
  rw [State.prOn, List.any_eq_false] at h ⊢
  intro j hj hr
  simp only [Bool.and_eq_true] at hr
  exact h j hj (by simp [hr.1])

section
variable {v : Vat} {d : Drbg} {x : Bytes} {xs : List Bytes} (hrep : s.replayVat v = false) (hdue : s.reseedDue v = true)
  (hpr : s.prOn v true = false)
include hrep hpr

theorem State.periodicOne_vat (hi : (s.unit v).vatInst = some d) (hs : (s.unit v).seeds = x :: xs) : s.periodicOne v false =
    (s.setUnit v { s.unit v with vatInst := some (drbgReseed d x []), seeds := xs, vatWait := none }).setReg (R.VDR_LAST_RESEED v) (w32 s.beat) := by
  unfold State.periodicOne
  rw [if_neg (by simp [hrep]), State.prOn_false hpr]
  simp [hs, hi]

theorem State.periodicOne_lane (hi : (s.unit v).lane = some d) (hs : (s.unit v).seeds = x :: xs) : s.periodicOne v true =
    (s.setUnit v { s.unit v with lane := some (drbgReseed d x []), seeds := xs, laneWait := none }).setReg (R.VDR_LANE_RESEED v) (w32 s.beat) := by
  unfold State.periodicOne
  rw [if_neg (by simp [hrep]), State.prOn_false hpr]
  simp [hs, hi]

/-- A reseed without a seed is reported; after 16 intervals the DRBG is in error. -/
theorem State.periodicOne_noSeed (hs : (s.unit v).seeds = []) : ∃ x, s.periodicOne v false = (s.setUnit v x).raise 364 ∨
    s.periodicOne v false = (((((s.setUnit v x).raise 364).setMaskBit R.SPRING_VAT_ERR_LO v true).raise 358).raiseLocal v 4).parkFault v := by
  unfold State.periodicOne
  rw [if_neg (by simp [hrep]), State.prOn_false hpr]
  simp only [Bool.false_eq_true, if_false, hs, List.drop_nil]
  refine ⟨{ s.unit v with seeds := [], vatWait := some ((s.unit v).vatWait.getD s.beat) }, ?_⟩
  split
  · exact .inl rfl
  · split
    · exact .inl rfl
    · exact .inr rfl

omit hrep
include hdue

omit hpr in
theorem exec_periodicReseed_vat (he : s.vatErr v = false) (hi : (s.unit v).vatInst = some d) (hl : (s.unit v).lane = none) :
    exec (.periodicReseed v) s = .next (s.periodicOne v false) := by
  refine congrArg Host.Outcome.next ((if_neg ?_).trans (if_pos ?_))
  · simp [hl]
  · simp [hi, hdue, he]

theorem exec_periodicReseed_lane (he : s.laneErr v = false) (hi : (s.unit v).vatInst = none) (hl : (s.unit v).lane = some d) :
    exec (.periodicReseed v) s = .next (s.periodicOne v true) := by
  have ht : (if (s.unit v).vatInst.isSome && (s.reseedDue v || (s.unit v).vatWait.isSome) && !s.vatErr v then s.periodicOne v false else s) = s :=
    if_neg (by simp [hi])
  refine congrArg Host.Outcome.next ((if_pos ?_).trans (by rw [ht]))
  simp [hl, hdue, he, hpr]

end

/-- What is pending at the event controller follows its own registers. -/
theorem State.pends_of_reg {n : Nat} (h : t.reg (R.EVT_PEND (n / 32)) = s.reg (R.EVT_PEND (n / 32))) (hp : s.pends n) : t.pends n :=
  (State.regBit_eq_of_reg h).trans hp

theorem State.raiseLocal_pends {v n : Nat} (hn : n < 640) (h : s.pends n) : (s.raiseLocal v 4).pends n :=
  State.pends_of_reg (State.reg_setReg_other _ _ (by
    rw [if_pos (by decide)]
    simp only [R.EVT_PEND, R.VEV_PEND_LO]
    omega)) h

theorem State.setMaskBit_pends {lo v n : Nat} {b : Bool} (hl : lo + 4 * (v / 32) < 0x100D00000) (h : s.pends n) : (s.setMaskBit lo v b).pends n :=
  (State.pends_setRegBit hl).mpr h

theorem State.parkNext_pends {v n : Nat} (h : s.pends n) : (s.parkNext v).pends n := by
  unfold State.parkNext State.parkAt
  split
  · exact h
  · exact h

theorem State.periodicOne_noSeed_pends {v : Vat} (hrep : s.replayVat v = false) (hpr : s.prOn v true = false) (hs : (s.unit v).seeds = []) :
    (s.periodicOne v false).pends 364 := by
  obtain ⟨x, h | h⟩ := State.periodicOne_noSeed hrep hpr hs
  · rw [h]
    exact State.raise_pends (by decide) (by decide)
  · have hv : 4 * (v.val / 32) ≤ 4 := by omega
    rw [h]
    refine State.parkNext_pends (State.setMaskBit_pends ?_ (State.raiseLocal_pends (by decide) ((State.raise_eventsOnly (by decide) (by decide)).pend 364
      (by decide) (State.setMaskBit_pends ?_ (State.raise_pends (by decide) (by decide))))))
    · simp only [R.PMU_PARK_FAULT_LO]
      omega
    · simp only [R.SPRING_VAT_ERR_LO]
      omega

theorem exec_deviceDrbgReseed (hr : s.springRaw = false) (he : s.devErr = false) : exec .deviceDrbgReseed s = .next (s.devReseed []) :=
  congrArg Host.Outcome.next (if_neg (by simp [hr, he]))

theorem exec_deviceDrbgReseedTimeout {t₀ : Nat} (h : s.spr.cmdAt = some t₀) : exec .deviceDrbgReseedTimeout s =
    .next ((({ s with now := max s.now (t₀ + 1000000) }.mapSpr fun p => { p with cmdAt := none }).setRegBit R.SPRING_STATUS 6 true).raise 360) := by
  change execDeviceDrbgReseedTimeout s = _
  simp only [execDeviceDrbgReseedTimeout, h]

/-! ### SPRING_CMD (R581, R601) -/

section
variable {who : Sender}

theorem State.wr_springCmd {w : Word} (h : s.wardenAt who .store R.SPRING_CMD) : s.wr who R.SPRING_CMD w = s.springCmd who w := by
  rw [State.wr_control (r := { key := 0x100700008, wo := 0x3f03 }) h rfl (by decide) (by decide) (by decide)]
  rfl

theorem exec_springReseed {d : Drbg} {x : Bytes} {xs : List Bytes} (h : s.wardenAt who .store R.SPRING_CMD) (hr : s.springRaw = false)
    (he : s.devErr = false) (hd : s.spr.device = some d) (hs : s.spr.store = x :: xs) :
    exec (.springReseed who) s = .next (s.devReseed s.addin) := by
  refine congrArg Host.Outcome.next ((State.wr_springCmd h).trans ((if_neg (by simp [hr])).trans ((if_neg (by decide)).trans ((if_pos ?_).trans (if_neg ?_)))))
  · exact ⟨by decide, by simp [hd], by simp [he]⟩
  · simp [hs]

/-- The word that names a lane to be instantiated again. -/
theorem reinst_word : ∀ v : Vat, bit (w32 (2 + 256 * v.val)) 0 = false ∧ bit (w32 (2 + 256 * v.val)) 1 = true ∧
    field (w32 (2 + 256 * v.val)) 13 8 = v := by decide

theorem exec_springReinstLane {v : Vat} (h : s.wardenAt who .store R.SPRING_CMD) (hr : s.springRaw = false) :
    exec (.springReinstLane who v) s = .next ((s.deckleOfVat v).elim (s.errAt errRange who .store R.SPRING_CMD) fun _ =>
      s.mapSpr fun p => { p with reinst := p.reinst ++ [v.val] }) := by
  obtain ⟨h₀, h₁, hv⟩ := reinst_word v
  refine congrArg Host.Outcome.next ((State.wr_springCmd h).trans ?_)
  unfold State.springCmd
  simp only [hr, h₀, h₁, hv, Bool.false_eq_true, false_and, if_false, if_true]
  cases s.deckleOfVat v <;> rfl

end

/-! ### SPRING_CTRL (R571, R588 to R593, R599) -/

/-- What a word with ENABLE, RAW or TEST changed leads to, one mode after the other. -/
def State.ctrlEnable (s : State) (w : Word) : State := if bit w 0 ∧ ¬ s.springOn then s.springEnable else s

def State.ctrlRaw (s : State) (who : Sender) (w : Word) : State :=
  if bit w 1 ∧ ¬ s.springRaw then
    if s.rawAllowed then s.rawEnter else s.errAt errIgnored who .store R.SPRING_CTRL
  else if ¬ bit w 1 ∧ s.springRaw then s.rawExit
  else s

def State.ctrlTest (s : State) (who : Sender) (w : Word) : State :=
  if bit w 2 ∧ ¬ s.springTest then
    if s.life = 0 then s.testEnter else s.errAt errIgnored who .store R.SPRING_CTRL
  else if ¬ bit w 2 ∧ s.springTest then s.setRegBit R.SPRING_CTRL 2 false
  else s

theorem State.springCtrl_eq {who : Sender} {w : Word} : s.springCtrl who w = ((s.ctrlEnable w).ctrlRaw who w).ctrlTest who w := rfl

section
variable {who : Sender} {w : Word}

theorem State.ctrlEnable_same (h : bit w 0 = s.springOn) : s.ctrlEnable w = s := if_neg fun h' => h'.2 (h ▸ h'.1)

theorem State.ctrlRaw_same (h : bit w 1 = s.springRaw) : s.ctrlRaw who w = s :=
  (if_neg fun h' => h'.2 (h ▸ h'.1)).trans (if_neg fun h' => h'.1 (h ▸ h'.2))

theorem State.ctrlTest_same (h : bit w 2 = s.springTest) : s.ctrlTest who w = s :=
  (if_neg fun h' => h'.2 (h ▸ h'.1)).trans (if_neg fun h' => h'.1 (h ▸ h'.2))

end

/-- The row of SPRING_CTRL. -/
def springCtrlRow : RegRow := { key := 0x100700000, rw := 0x7, rwl := 0x803f0000, lock := some (0x100700000, 31) }

/-- A word that changes a mode bit agrees with the register in every plain field. -/
theorem setBit_and {w m : Word} {i : Nat} {b : Bool} (hi : i < 32) (hm : m.getLsbD i = false) : setBit w i b &&& m = w &&& m := by
  refine BitVec.eq_of_getLsbD_eq fun j _ => ?_
  have hj : (setBit w i b).getLsbD j = if j = i then b else w.getLsbD j := bit_setBit hi
  rw [BitVec.getLsbD_and, BitVec.getLsbD_and, hj]
  split
  next e => rw [e, hm, Bool.and_false, Bool.and_false]
  · rfl

theorem and_not_or_and {w m : Word} : w &&& ~~~m ||| w &&& m = w := by
  refine BitVec.eq_of_getLsbD_eq fun j hj => ?_
  simp only [BitVec.getLsbD_or, BitVec.getLsbD_and, BitVec.getLsbD_not, hj, decide_true, Bool.true_and]
  cases w.getLsbD j <;> cases m.getLsbD j <;> rfl

/-- SPRING_CTRL as it is written again, with the grant of a rise of RAW consumed. -/
def State.ctrlConsumed (s : State) (raw : Bool) : State := (if raw then s.consume 3 else s).setReg R.SPRING_CTRL (s.reg R.SPRING_CTRL)

theorem State.plainWrite_springCtrl {who : Sender} {i : Nat} {b : Bool} (hi : i < 3) (hl : s.regField R.SPRING_CTRL 21 16 ≤ 32) :
    s.plainWrite who R.SPRING_CTRL (setBit (s.reg R.SPRING_CTRL) i b) springCtrlRow =
      if (bit (setBit (s.reg R.SPRING_CTRL) i b) 1 && !s.springRaw) && s.guarded 3 then s.errAt errLocked who .store R.SPRING_CTRL
      else (s.ctrlConsumed (bit (setBit (s.reg R.SPRING_CTRL) i b) 1 && !s.springRaw)).springCtrl who (setBit (s.reg R.SPRING_CTRL) i b) := by
  generalize hv : setBit (s.reg R.SPRING_CTRL) i b = v
  have hm {m : Word} (h : m.getLsbD i = false) : v &&& m = s.reg R.SPRING_CTRL &&& m := hv ▸ setBit_and (by omega) h
  have hplain : (0x803f0000 : Word).getLsbD i = false ∧ (~~~(7 : Word)).getLsbD i = false ∧
      ∀ l : Bool, (if l then (7 : Word) &&& ~~~7 else 7 &&& ~~~7 ||| 0x803f0000).getLsbD i = false := by
    obtain rfl | rfl | rfl : i = 0 ∨ i = 1 ∨ i = 2 := by omega
    all_goals decide
  have hsame : (v ^^^ s.reg R.SPRING_CTRL) &&& 0x803f0000 = 0 := by
    refine BitVec.eq_of_getLsbD_eq fun j _ => ?_
    have hj := congrArg (BitVec.getLsbD · j) (hm hplain.1)
    simp only [BitVec.getLsbD_and] at hj
    rw [BitVec.getLsbD_and, BitVec.getLsbD_xor]
    revert hj
    cases v.getLsbD j <;> cases (s.reg R.SPRING_CTRL).getLsbD j <;> cases (0x803f0000 : Word).getLsbD j <;> simp
  have hmasks : writeMasks R.SPRING_CTRL springCtrlRow = (7, 0x803f0000) := by decide
  have hkept (l : Bool) : (s.reg R.SPRING_CTRL &&& ~~~(if l then (7 : Word) &&& ~~~7 else 7 &&& ~~~7 ||| 0x803f0000)) |||
      (v &&& (if l then (7 : Word) &&& ~~~7 else 7 &&& ~~~7 ||| 0x803f0000)) = s.reg R.SPRING_CTRL := by
    rw [hm (hplain.2.2 l)]
    exact and_not_or_and
  have htried : (s.reg R.SPRING_CTRL &&& ~~~7) ||| (v &&& 7) = v := by
    rw [← hm hplain.2.1]
    exact and_not_or_and (m := 7)
  have hguards : s.guardGroups R.SPRING_CTRL v = if bit v 1 && !s.springRaw then [3] else [] := rfl
  have hrange : s.rangeOf R.SPRING_CTRL v (s.reg R.SPRING_CTRL) = .ok := congrArg inRangeIf (decide_eq_true hl)
  unfold State.plainWrite
  simp only [hmasks, if_true, hsame, ne_eq, not_true_eq_false, and_false, if_false, hkept, htried, hguards, hrange, ite_self]
  have hw1c : s.reg R.SPRING_CTRL &&& ~~~(v &&& w32 springCtrlRow.w1c) = s.reg R.SPRING_CTRL := by
    rw [show ~~~(v &&& w32 springCtrlRow.w1c) = BitVec.allOnes 32 by rw [show w32 springCtrlRow.w1c = 0 from rfl]; simp]
    exact BitVec.and_allOnes
  rw [hw1c, State.ctrlConsumed]
  generalize (bit v 1 && !s.springRaw) = raw
  cases raw
  · rfl
  · cases hg : s.guarded 3 with
    | false =>
      simp [hg]
      rfl
    | true => simp [hg]

/-- What stays as SPRING_CTRL is written again: all but a grant and events. -/
theorem State.ctrlConsumed_facts {raw : Bool} : (s.ctrlConsumed raw).spr = s.spr ∧ (s.ctrlConsumed raw).bt = s.bt ∧
    ∀ k, k ≠ R.QUORUM_GRANT → ¬ eventReg k → (s.ctrlConsumed raw).reg k = s.reg k := by
  have hc : (s.consume 3).spr = s.spr ∧ (s.consume 3).bt = s.bt ∧ ∀ k, k ≠ R.QUORUM_GRANT → ¬ eventReg k → (s.consume 3).reg k = s.reg k := by
    unfold State.consume
    split
    · have hev : State.EventsOnly _ ((s.setRegBit R.QUORUM_GRANT 3 false).raise 234) := State.raise_eventsOnly (by decide) (by decide)
      exact ⟨hev.spr, hev.bt, fun k hk he => (hev.reg k he).trans (State.reg_setReg_other _ _ hk)⟩
    · exact ⟨rfl, rfl, fun _ _ _ => rfl⟩
  have hset {u : State} : (u.setReg R.SPRING_CTRL (s.reg R.SPRING_CTRL)).spr = u.spr ∧ (u.setReg R.SPRING_CTRL (s.reg R.SPRING_CTRL)).bt = u.bt := ⟨rfl, rfl⟩
  unfold State.ctrlConsumed
  refine ⟨hset.1.trans ?_, hset.2.trans ?_, fun k hk he => ?_⟩
  · split
    · exact hc.1
    · rfl
  · split
    · exact hc.2.1
    · rfl
  · by_cases hk' : k = R.SPRING_CTRL
    · rw [hk', State.reg_setReg_same]
    · rw [State.reg_setReg_other _ _ hk']
      split
      · exact hc.2.2 k hk he
      · rfl

section
variable {who : Sender} {raw : Bool}

theorem State.ctrlConsumed_ctrl : (s.ctrlConsumed raw).reg R.SPRING_CTRL = s.reg R.SPRING_CTRL := State.reg_setReg_same _ _ _

theorem State.ctrlConsumed_modes : (s.ctrlConsumed raw).springOn = s.springOn ∧ (s.ctrlConsumed raw).springRaw = s.springRaw ∧
    (s.ctrlConsumed raw).springTest = s.springTest ∧ (s.ctrlConsumed raw).life = s.life ∧ (s.ctrlConsumed raw).rawAllowed = s.rawAllowed := by
  obtain ⟨-, hbt, hreg⟩ := State.ctrlConsumed_facts (s := s) (raw := raw)
  have hctrl {i : Nat} : (s.ctrlConsumed raw).regBit R.SPRING_CTRL i = s.regBit R.SPRING_CTRL i := State.regBit_eq_of_reg State.ctrlConsumed_ctrl
  have hlife : (s.ctrlConsumed raw).life = s.life :=
    State.regField_eq_of_reg (hreg _ (by decide) (not_eventReg_of_lt (by decide) (by decide)))
  refine ⟨hctrl, hctrl, hctrl, hlife, ?_⟩
  rw [State.rawAllowed, State.rawAllowed, hlife, hbt, State.regBit_eq_of_reg (hreg _ (by decide) (not_eventReg_of_lt (by decide) (by decide)))]

/-- An admitted write of SPRING_CTRL that changes one mode bit. -/
theorem State.springBit_eq {i : Nat} {b : Bool} (h : s.wardenAt who .store R.SPRING_CTRL) (hi : i < 3) (hl : s.regField R.SPRING_CTRL 21 16 ≤ 32) :
    s.springBit who i b =
      if (bit (setBit (s.reg R.SPRING_CTRL) i b) 1 && !s.springRaw) && s.guarded 3 then s.errAt errLocked who .store R.SPRING_CTRL
      else (s.ctrlConsumed (bit (setBit (s.reg R.SPRING_CTRL) i b) 1 && !s.springRaw)).springCtrl who (setBit (s.reg R.SPRING_CTRL) i b) := by
  rw [← State.plainWrite_springCtrl hi hl, State.springBit, State.wr_control (r := springCtrlRow) h rfl (by decide) (by decide) (by decide)]
  rfl

/-- A mode bit other than RAW that changes neither needs nor consumes a grant. -/
theorem State.springBit_plain {i : Nat} {b : Bool} (h : s.wardenAt who .store R.SPRING_CTRL) (hi : i = 0 ∨ i = 2)
    (hl : s.regField R.SPRING_CTRL 21 16 ≤ 32) :
    s.springBit who i b = (s.ctrlConsumed false).springCtrl who (setBit (s.reg R.SPRING_CTRL) i b) := by
  have hb : (bit (setBit (s.reg R.SPRING_CTRL) i b) 1 && !s.springRaw) = false := by
    rw [bit_setBit (by omega), if_neg (by omega)]
    exact Bool.and_not_self _
  rw [State.springBit_eq h (by omega) hl, hb]
  rfl

/-- The other mode bits as RAW changes. -/
theorem State.rawEnter_test : s.rawEnter.springTest = s.springTest := by
  have hev : State.EventsOnly _ s.rawEnter := State.raise_eventsOnly (n := 361) (by decide) (by decide)
  refine (State.regBit_eq_of_reg (hev.reg _ (not_eventReg_of_lt (by decide) (by decide)))).trans ?_
  rw [State.regBit_eq_of_reg (State.mapSpr_reg _ _ _), State.regBit_setRegBit (by decide), if_neg (by decide)]
  rfl

theorem State.rawExit_test : s.rawExit.springTest = s.springTest := by
  have hev : State.EventsOnly _ s.rawExit := State.raise_eventsOnly (n := 361) (by decide) (by decide)
  refine (State.regBit_eq_of_reg (hev.reg _ (not_eventReg_of_lt (by decide) (by decide)))).trans ?_
  rw [State.startCells, State.regBit_eq_of_reg ((State.mapSpr_reg _ _ _).trans (State.mapSpr_reg _ _ _)), State.regBit_setRegBit (by decide), if_neg (by decide)]
  rfl

section
variable (h : s.wardenAt who .store R.SPRING_CTRL) (hl : s.regField R.SPRING_CTRL 21 16 ≤ 32)
include h hl

theorem exec_springEnable (ho : s.springOn = false) : exec (.springEnable who) s = .next (s.ctrlConsumed false).springEnable := by
  refine congrArg Host.Outcome.next ((State.springBit_plain h (.inl rfl) hl).trans ?_)
  obtain ⟨hon, hraw, htest, -⟩ := State.ctrlConsumed_modes (s := s) (raw := false)
  have hen : (s.ctrlConsumed false).ctrlEnable (setBit (s.reg R.SPRING_CTRL) 0 true) = (s.ctrlConsumed false).springEnable := by
    refine if_pos ⟨?_, by rw [hon, ho]; exact Bool.false_ne_true⟩
    rw [bit_setBit (by decide), if_pos rfl]
  have hkept {i : Nat} (hi : i ≠ 0) : (s.ctrlConsumed false).springEnable.regBit R.SPRING_CTRL i = s.regBit R.SPRING_CTRL i := by
    rw [State.springEnable, State.regBit_setRegBit (by decide), if_neg hi]
    exact State.regBit_eq_of_reg <| (State.mapSpr_reg _ _ _).trans <| (State.reg_setReg_other _ _ (by decide)).trans State.ctrlConsumed_ctrl
  rw [State.springCtrl_eq, hen, State.ctrlRaw_same, State.ctrlTest_same]
  · rw [bit_setBit (by decide), if_neg (by decide)]
    exact (hkept (by decide)).symm
  · rw [bit_setBit (by decide), if_neg (by decide)]
    exact (hkept (by decide)).symm

omit h hl in
/-- A change of RAW leaves ENABLE, and is followed by no change of TEST. -/
theorem State.springCtrl_raw {b g : Bool} (ht : (((s.ctrlConsumed g).ctrlRaw who (setBit (s.reg R.SPRING_CTRL) 1 b))).springTest = s.springTest) :
    (s.ctrlConsumed g).springCtrl who (setBit (s.reg R.SPRING_CTRL) 1 b) = (s.ctrlConsumed g).ctrlRaw who (setBit (s.reg R.SPRING_CTRL) 1 b) := by
  obtain ⟨hon, -⟩ := State.ctrlConsumed_modes (s := s) (raw := g)
  rw [State.springCtrl_eq, State.ctrlEnable_same, State.ctrlTest_same]
  · rw [ht, bit_setBit (by decide), if_neg (by decide)]
    rfl
  · rw [hon, bit_setBit (by decide), if_neg (by decide)]
    rfl

theorem exec_springRawEnter (hr : s.springRaw = false) (ha : s.rawAllowed = true) (hg : s.guarded 3 = false) :
    exec (.springRawEnter who) s = .next (s.ctrlConsumed true).rawEnter := by
  refine congrArg Host.Outcome.next ((State.springBit_eq h (by decide) hl).trans ?_)
  obtain ⟨-, hraw, htest, -, hallow⟩ := State.ctrlConsumed_modes (s := s) (raw := true)
  have hb : bit (setBit (s.reg R.SPRING_CTRL) 1 true) 1 = true := (bit_setBit (by decide)).trans (if_pos rfl)
  have henter : (s.ctrlConsumed true).ctrlRaw who (setBit (s.reg R.SPRING_CTRL) 1 true) = (s.ctrlConsumed true).rawEnter := by
    refine (if_pos ⟨hb, ?_⟩).trans (if_pos (hallow.trans ha))
    rw [hraw, hr]
    exact Bool.false_ne_true
  rw [hb, hr, hg, Bool.not_false, Bool.and_true, Bool.and_false, if_neg Bool.false_ne_true, State.springCtrl_raw, henter]
  rw [henter, State.rawEnter_test, htest]

theorem exec_springRawEnter_guarded (hr : s.springRaw = false) (hg : s.guarded 3 = true) :
    exec (.springRawEnter who) s = .next (s.errAt errLocked who .store R.SPRING_CTRL) := by
  refine congrArg Host.Outcome.next ((State.springBit_eq h (by decide) hl).trans (if_pos ?_))
  rw [(bit_setBit (by decide)).trans (if_pos rfl), hr, hg]
  rfl

theorem exec_springRawExit (hr : s.springRaw = true) : exec (.springRawExit who) s = .next (s.ctrlConsumed false).rawExit := by
  refine congrArg Host.Outcome.next ((State.springBit_eq h (by decide) hl).trans ?_)
  obtain ⟨-, hraw, htest, -⟩ := State.ctrlConsumed_modes (s := s) (raw := false)
  have hb : bit (setBit (s.reg R.SPRING_CTRL) 1 false) 1 = false := (bit_setBit (by decide)).trans (if_pos rfl)
  have hexit : (s.ctrlConsumed false).ctrlRaw who (setBit (s.reg R.SPRING_CTRL) 1 false) = (s.ctrlConsumed false).rawExit := by
    refine (if_neg fun h' => ?_).trans (if_pos ⟨?_, hraw.trans hr⟩)
    · rw [hb] at h'
      exact Bool.false_ne_true h'.1
    · rw [hb]
      exact Bool.false_ne_true
  rw [hb, Bool.false_and, Bool.false_and, if_neg Bool.false_ne_true, State.springCtrl_raw, hexit]
  rw [hexit, State.rawExit_test, htest]

theorem exec_springTest (ht : s.springTest = false) : exec (.springTest who) s =
    .next (if s.life = 0 then (s.ctrlConsumed false).testEnter else (s.ctrlConsumed false).errAt errIgnored who .store R.SPRING_CTRL) := by
  refine congrArg Host.Outcome.next ((State.springBit_plain h (.inr rfl) hl).trans ?_)
  obtain ⟨hon, hraw, htest, hlife, -⟩ := State.ctrlConsumed_modes (s := s) (raw := false)
  have hb : bit (setBit (s.reg R.SPRING_CTRL) 2 true) 2 = true := (bit_setBit (by decide)).trans (if_pos rfl)
  rw [State.springCtrl_eq, State.ctrlEnable_same, State.ctrlRaw_same]
  · refine (if_pos ⟨hb, ?_⟩).trans (by rw [hlife])
    rw [htest, ht]
    exact Bool.false_ne_true
  · rw [hraw, bit_setBit (by decide), if_neg (by decide)]
    rfl
  · rw [hon, bit_setBit (by decide), if_neg (by decide)]
    rfl

end

end

/-! ### Output registers (R590, R598, R603) -/

section
variable {who : Sender}

theorem exec_springOutRead (h : s.wardenAt who .load R.SPRING_OUT) : exec (.springOutRead who) s =
    .next (s.springOut.elim (s.errAt errAccess who .load R.SPRING_OUT) (·.2)) :=
  congrArg Host.Outcome.next (h.readCommand (by decide) (by decide) (.inl (by decide)))

/-- Output that stands in the queue is taken from it. -/
theorem State.drawDev_queue {n : Nat} (h : n ≤ s.spr.devQueue.length) :
    (s.drawDev n).2 = s.mapSpr fun p => { p with devQueue := p.devQueue.drop n } := by
  induction n generalizing s with
  | zero => rfl
  | succ n ih =>
    obtain ⟨b, q, hq⟩ := List.exists_cons_of_length_pos (show 0 < s.spr.devQueue.length by omega)
    have hstep : (s.drawDev (n + 1)).2 = ((s.mapSpr fun p => { p with devQueue := p.devQueue.drop 1 }).drawDev n).2 := by
      rw [State.drawDev]
      simp only [hq]
    rw [hstep, ih]
    · simp only [State.mapSpr, List.drop_drop, Nat.add_comm 1 n]
    · simp only [State.mapSpr, List.length_drop]
      omega

theorem exec_springRawRead {x : Word} {xs : List Word} (h : s.wardenAt who .load R.SPRING_RAW) (hr : s.springRaw = true)
    (hf : s.spr.rawFifo = x :: xs) : exec (.springRawRead who) s = .next (s.mapSpr fun p => { p with rawFifo := xs }) := by
  refine congrArg Host.Outcome.next ((h.readCommand (by decide) (by decide) (.inl (by decide))).trans ?_)
  change s.springRawRead.2 = _
  rw [State.springRawRead, hr, hf]

/-- A running vat core's word read of a register of its own window is the window's own (R31, R508). -/
theorem State.readCommand_vatCore {v : Vat} {o : Nat} (h : s.vatCoreAt who v) (ho : o < 0x1000000) (hc : regionOf o = .control) :
    s.readCommand who (vatAddr v o) = (s.readReg who (vatAddr v o)).elim (s.errAt errAccess who .load (vatAddr v o)) (·.2) := by
  obtain ⟨rfl, hreset, hheld, htrip, hcore, hlock⟩ := h
  have hv := v.isLt
  have ht : targetOf (vatAddr v o) = .vat v o := by
    unfold targetOf vatAddr
    rw [if_neg (by omega), if_neg (by omega), if_neg (by omega), if_neg (by omega), if_pos (by omega)]
    congr 1 <;> omega
  have hoff : vatAddr v o % 0x1000000 = o := by
    unfold vatAddr
    omega
  have hcheck : s.localCheck v true .load .word o = none := by
    unfold State.localCheck
    simp [hc]
  have hload : (s.localLoad v true .word o).2 = (s.readReg (.core ⟨v, by omega⟩ true) (vatAddr v o)).elim
      (s.errAt errAccess (.core ⟨v, by omega⟩ true) .load (vatAddr v o)) (·.2) := by
    unfold State.localLoad
    simp only [hcheck, hc, Nat.mod_eq_of_lt (show v.val < 66 by omega)]
    cases s.readReg (.core ⟨v, by omega⟩ true) (vatAddr v o) <;> rfl
  unfold State.readCommand
  simp only [hreset, hheld, htrip, hcore, hlock, ht, hoff, privOf]
  simpa using hload

theorem exec_vdrOutRead {v : Vat} (h : s.vatCoreAt who v) (he : s.vatErr v = false) (hi : (s.unit v).vatInst.isSome) :
    ∃ x, exec (.vdrOutRead who v) s = .next ((s.setUnit v x).bumpBy (R.VDR_DRAWS v) 4) := by
  have hne : (s.unit v).vatInst ≠ none := Option.isSome_iff_ne_none.mp hi
  have hread : s.readReg who (vatAddr v 0x400004) = s.vdrOut v := by
    have hv := v.isLt
    have hcanon : canonReg (vatAddr v 0x400004) = vatAddr v 0x400004 := by
      unfold canonReg vatAddr
      rw [if_neg (by omega), if_neg (by omega)]
    unfold State.readReg
    rw [hcanon]
    have hk : vatAddr v 0x400004 = 0x1000000000 + 0x1000000 * v.val + 0x400004 := rfl
    generalize vatAddr v 0x400004 = k at hk
    simp only [R.SPRING_OUT, R.SPRING_RAW, R.MGMT_UART_DATA]
    rw [if_neg (by omega), if_neg (by omega), if_neg (by omega), if_pos (by omega), show (k - 0x1000000000) / 0x1000000 = v.val by omega]
  have hout : s.vdrOut v = (s.drawVat v 4).map fun r => (w32 (leNat r.1), r.2) := by
    unfold State.vdrOut
    cases s.drawVat v 4 <;> rfl
  have hdraw : s.drawVat v 4 = some ((State.drawVatAux v 1 s 4).1, (State.drawVatAux v 1 s 4).2.bumpBy (R.VDR_DRAWS v) 4) :=
    if_neg (by simp [he, hne])
  refine ⟨refill 16 { s.unit v with queue := (s.unit v).queue.drop 4 }, congrArg Host.Outcome.next ?_⟩
  have haddr : R.VDR_OUT v.val = vatAddr v 0x400004 := by
    unfold vatAddr
    simp only [R.VDR_OUT]
    omega
  rw [haddr, State.readCommand_vatCore h (by decide) (by decide), hread, hout, hdraw]
  rfl

end

end Sys2Proof.Machine

namespace Sys2Proof

open Machine

/-- Reseeds of the vat instances, the lanes and the device DRBG. -/
theorem springReseeds {s : State} {v : Vat} {who : Sender} {d : Drbg} {x : Bytes} {xs : List Bytes} :
    (s.replayVat v = false → s.reseedDue v = true → s.prOn v true = false →
      (s.vatErr v = false → (s.unit v).vatInst = some d → (s.unit v).lane = none →
        ((s.unit v).seeds = x :: xs → Completes (.periodicReseed v) s fun t =>
          (t.unit v).vatInst = some (drbgReseed d x []) ∧ (t.unit v).seeds = xs ∧ t.reg (R.VDR_LAST_RESEED v) = w32 s.beat ∧
          s.onlyRegs t [R.VDR_LAST_RESEED v]) ∧
        ((s.unit v).seeds = [] → Completes (.periodicReseed v) s fun t => t.pends 364)) ∧
      (s.laneErr v = false → (s.unit v).vatInst = none → (s.unit v).lane = some d → (s.unit v).seeds = x :: xs →
        Completes (.periodicReseed v) s fun t =>
          (t.unit v).lane = some (drbgReseed d x []) ∧ (t.unit v).seeds = xs ∧ t.reg (R.VDR_LANE_RESEED v) = w32 s.beat)) ∧
    (s.springRaw = false → s.devErr = false → s.spr.device = some d → s.spr.store = x :: xs →
      Completes .deviceDrbgReseed s (fun t => t.spr.device = some (drbgReseed d x []) ∧ t.spr.store = xs ∧ t.spr.devEdge = s.beat) ∧
      (s.wardenAt who .store R.SPRING_CMD →
        Completes (.springReseed who) s fun t => t.spr.device = some (drbgReseed d x s.addin) ∧ t.spr.store = xs)) := by
  refine ⟨fun hrep hdue hpr => ⟨fun he hi hl => ⟨fun hs => ⟨_, exec_periodicReseed_vat hdue he hi hl, ?_⟩,
      fun hs => ⟨_, exec_periodicReseed_vat hdue he hi hl, State.periodicOne_noSeed_pends hrep hpr hs⟩⟩,
      fun he hi hl hs => ⟨_, exec_periodicReseed_lane hdue hpr he hi hl, ?_⟩⟩,
    fun hr he hd hs => ⟨⟨_, exec_deviceDrbgReseed hr he, State.devReseed_spr hd hs⟩, fun h => ⟨_, exec_springReseed h hr he hd hs, ?_⟩⟩⟩
  · have hne : s.unit v ≠ DrbgUnit.reset := fun h => by
      rw [h] at hi
      cases hi
    rw [State.periodicOne_vat hrep hpr hi hs]
    obtain ⟨hreg, hrest⟩ := State.setReg_onlyRegs
      (s := s.setUnit v { s.unit v with vatInst := some (drbgReseed d x []), seeds := xs, vatWait := none }) (k := R.VDR_LAST_RESEED v) (v := w32 s.beat)
    have hunit := State.unit_setUnit (x := { s.unit v with vatInst := some (drbgReseed d x []), seeds := xs, vatWait := none }) hne
    exact ⟨congrArg DrbgUnit.vatInst hunit, congrArg DrbgUnit.seeds hunit, hreg, hrest⟩
  · have hne : s.unit v ≠ DrbgUnit.reset := fun h => by
      rw [h] at hl
      cases hl
    rw [State.periodicOne_lane hrep hpr hl hs]
    have hunit := State.unit_setUnit (x := { s.unit v with lane := some (drbgReseed d x []), seeds := xs, laneWait := none }) hne
    exact ⟨congrArg DrbgUnit.lane hunit, congrArg DrbgUnit.seeds hunit, State.reg_setReg_same _ _ _⟩
  · obtain ⟨hdev, hstore, -⟩ := State.devReseed_spr (add := s.addin) hd hs
    exact ⟨hdev, hstore⟩

/-- The modes of SPRING_CTRL. -/
theorem springModes {s : State} {who : Sender} (h : s.wardenAt who .store R.SPRING_CTRL) (hl : s.regField R.SPRING_CTRL 21 16 ≤ 32) :
    (s.springOn = false → Completes (.springEnable who) s fun t =>
      t.springOn = true ∧ t.springStarting = true ∧
      t.spr.cells = s.spr.cells.map fun c => if c.excluded then c else { c with inService := false, testing := true }) ∧
    (s.springRaw = false → s.rawAllowed = true → s.guarded 3 = false → Completes (.springRawEnter who) s fun t =>
      t.springRaw = true ∧ t.spr.store = [] ∧ t.spr.devQueue = [] ∧ t.spr.rawFifo = [] ∧ t.pends 361) ∧
    (s.springRaw = false → s.guarded 3 = true →
      Completes (.springRawEnter who) s fun t => t.springRaw = false ∧ t.spr = s.spr ∧ t.regField (R.ERRC_LAST 7 0) 31 24 = 3) ∧
    (s.springRaw = true → Completes (.springRawExit who) s fun t =>
      t.springRaw = false ∧ t.spr.store = [] ∧ t.spr.rawFifo = [] ∧ t.spr.outHeld = true ∧ t.pends 361) ∧
    (s.springTest = false → s.life = 0 →
      Completes (.springTest who) s fun t => t.springTest = true ∧ t.spr.pattern = 0 ∧ t.pends 363) ∧
    (s.springTest = false → s.life ≠ 0 →
      Completes (.springTest who) s fun t => t.springTest = false ∧ t.spr = s.spr ∧ t.regField (R.ERRC_LAST 7 0) 31 24 = 5) := by
  have herr {u : State} {code : Nat} (hc : code < 256) : (u.errAt code who .store R.SPRING_CTRL).spr = u.spr ∧
      (u.errAt code who .store R.SPRING_CTRL).reg R.SPRING_CTRL = u.reg R.SPRING_CTRL ∧
      (u.errAt code who .store R.SPRING_CTRL).regField (R.ERRC_LAST 7 0) 31 24 = code := by
    have hrep := State.errAt_reportsOnly (s := u) (code := code) (a := R.SPRING_CTRL) (who := who) (kind := .store)
    obtain ⟨_, _, _, hrest⟩ := hrep.rest
    exact ⟨by rw [hrest], hrep.reg _ (.inl (by decide)) (not_eventReg_of_lt (by decide) (by decide)), State.errAt_code hc (by decide)⟩
  refine ⟨fun ho => ⟨_, exec_springEnable h hl ho, State.springEnable_on, ?_, ?_⟩, fun hr ha hg => ⟨_, exec_springRawEnter h hl hr ha hg, ?_⟩,
    fun hr hg => ⟨_, exec_springRawEnter_guarded h hl hr hg, ?_⟩, fun hr => ⟨_, exec_springRawExit h hl hr, ?_⟩,
    fun ht hz => ⟨_, exec_springTest h hl ht, ?_⟩, fun ht hz => ⟨_, exec_springTest h hl ht, ?_⟩⟩
  · rw [State.springStarting, State.springEnable, State.regBit_setRegBit_other (by decide), State.startCells,
      State.regBit_eq_of_reg (State.mapSpr_reg _ _ _), State.regBit_setRegBit (by decide), if_pos rfl]
  · exact congrArg (fun p : SpringState => p.cells.map fun c => if c.excluded then c else { c with inService := false, testing := true })
      State.ctrlConsumed_facts.1
  · generalize s.ctrlConsumed true = u
    have hev : State.EventsOnly _ u.rawEnter := State.raise_eventsOnly (n := 361) (by decide) (by decide)
    refine ⟨?_, congrArg SpringState.store hev.spr, congrArg SpringState.devQueue hev.spr, congrArg SpringState.rawFifo hev.spr,
      State.raise_pends (by decide) (by decide)⟩
    rw [State.springRaw, State.regBit_eq_of_reg (hev.reg _ (not_eventReg_of_lt (by decide) (by decide))), State.regBit_eq_of_reg (State.mapSpr_reg _ _ _),
      State.regBit_setRegBit (by decide), if_pos rfl]
  · obtain ⟨hspr, hreg, hcode⟩ := herr (u := s) (code := errLocked) (by decide)
    exact ⟨(State.regBit_eq_of_reg hreg).trans hr, hspr, hcode⟩
  · generalize s.ctrlConsumed false = u
    have hev : State.EventsOnly _ u.rawExit := State.raise_eventsOnly (n := 361) (by decide) (by decide)
    refine ⟨?_, congrArg SpringState.store hev.spr, congrArg SpringState.rawFifo hev.spr, congrArg SpringState.outHeld hev.spr,
      State.raise_pends (by decide) (by decide)⟩
    rw [State.springRaw, State.regBit_eq_of_reg (hev.reg _ (not_eventReg_of_lt (by decide) (by decide))), State.startCells,
      State.regBit_eq_of_reg ((State.mapSpr_reg _ _ _).trans (State.mapSpr_reg _ _ _)), State.regBit_setRegBit (by decide), if_pos rfl]
  · rw [if_pos hz]
    generalize s.ctrlConsumed false = u
    have hev : State.EventsOnly _ u.testEnter := State.raise_eventsOnly (n := 363) (by decide) (by decide)
    refine ⟨?_, congrArg SpringState.pattern hev.spr, State.raise_pends (by decide) (by decide)⟩
    rw [State.springTest, State.regBit_eq_of_reg (hev.reg _ (not_eventReg_of_lt (by decide) (by decide))), State.regBit_eq_of_reg (State.mapSpr_reg _ _ _),
      State.regBit_setRegBit (by decide), if_pos rfl]
  · rw [if_neg hz]
    obtain ⟨hspr, hreg, hcode⟩ := herr (u := s.ctrlConsumed false) (code := errIgnored) (by decide)
    exact ⟨(State.regBit_eq_of_reg (hreg.trans State.ctrlConsumed_ctrl)).trans ht, hspr.trans State.ctrlConsumed_facts.1, hcode⟩

/-- Settles O34: reseeds of every DRBG, the spring's modes, and what a read of an output register takes. -/
theorem springReseedsAndModes : Obligations.SpringReseedsAndModes := by
  refine ⟨fun s v who d x xs => ⟨(springReseeds (who := who)).1, (springReseeds (v := v)).2, fun t₀ hc => ⟨_, exec_deviceDrbgReseedTimeout hc, ?_⟩,
      fun hr h => ⟨fun hd => ⟨_, exec_springReinstLane h hr, ?_⟩, fun hd => ⟨_, exec_springReinstLane h hr, ?_⟩⟩⟩,
    fun s who => ⟨fun h hl => springModes h hl, fun h hr => ⟨fun he ho hd hq => ⟨_, exec_springOutRead h, ?_⟩, fun he => ⟨_, exec_springOutRead h, ?_⟩⟩,
      fun x xs h hr hf => ⟨_, exec_springRawRead h hr hf, rfl, State.onlyRegs_mapSpr⟩, fun v h he hi => ?_⟩⟩
  · have hev : State.EventsOnly _ ((({ s with now := max s.now (t₀ + 1000000) }.mapSpr fun p => { p with cmdAt := none }).setRegBit R.SPRING_STATUS 6
        true).raise 360) := State.raise_eventsOnly (by decide) (by decide)
    refine ⟨hev.now, ?_, congrArg SpringState.cmdAt hev.spr, State.raise_pends (by decide) (by decide)⟩
    rw [State.devErr, State.regBit_eq_of_reg (hev.reg _ (not_eventReg_of_lt (by decide) (by decide))), State.regBit_setRegBit (by decide), if_pos rfl]
  · obtain ⟨d', hd'⟩ := Option.isSome_iff_exists.mp hd
    rw [hd', Option.elim_some]
    exact ⟨rfl, State.onlyRegs_mapSpr⟩
  · obtain ⟨_, _, _, hrest⟩ := (State.errAt_reportsOnly (s := s) (code := errRange) (a := R.SPRING_CMD) (who := who) (kind := .store)).rest
    rw [hd]
    refine ⟨?_, State.errAt_code (by decide) (by decide)⟩
    rw [Option.elim_none, hrest]
  · have hout : s.springOut = some (w32 (leNat (s.drawDev 4).1), (s.drawDev 4).2) := if_neg (by simp [hr, he, ho, hd])
    rw [hout, Option.elim_some, State.drawDev_queue hq]
    exact ⟨rfl, State.onlyRegs_mapSpr⟩
  · have hout : s.springOut = none := if_pos (.inr (.inl he))
    obtain ⟨_, _, _, hrest⟩ := (State.errAt_reportsOnly (s := s) (code := errAccess) (a := R.SPRING_OUT) (who := who) (kind := .load)).rest
    rw [hout]
    refine ⟨?_, State.errAt_code (by decide) (by decide)⟩
    change (s.errAt errAccess who .load R.SPRING_OUT).spr = s.spr
    rw [hrest]
  · obtain ⟨x, hx⟩ := exec_vdrOutRead h he hi
    exact ⟨_, hx, State.reg_setReg_same _ _ _, (State.setReg_onlyRegs (s := s.setUnit v x)).2⟩

end Sys2Proof

/-! SUPPORT. Byte strings in registers, and fields of words that several changes make. -/

namespace Sys2Proof.Machine

variable {s t u : State}

/-! ### Byte strings in registers -/

theorem leBytes_leNat {b : Bytes} : leBytes b.length (leNat b) = b := by
  induction b with
  | nil => rfl
  | cons x xs ih =>
    have hx := x.isLt
    have hdiv : (x.toNat + 256 * leNat xs) / 256 = leNat xs := by omega
    have hmod : by8 (x.toNat + 256 * leNat xs) = x := BitVec.eq_of_toNat_eq (by rw [by8, BitVec.toNat_ofNat]; omega)
    rw [List.length_cons, leBytes, leNat, hdiv, ih, hmod]

theorem leNat_lt {b : Bytes} : leNat b < 256 ^ b.length := by
  induction b with
  | nil => simp [leNat]
  | cons x xs ih =>
    have hx := x.isLt
    rw [leNat, List.length_cons, Nat.pow_succ]
    omega

/-- The words from index `i` on, set from the chunks of a byte string. -/
def State.putChunks (s : State) (k : Nat) (l : List (Bytes × Nat)) : State := l.foldl (fun s c => s.setReg (k + 4 * c.2) (w32 (leNat c.1))) s

theorem State.putChunks_reg_below {k i j : Nat} {l : List Bytes} (h : j < k + 4 * i) : (s.putChunks k (l.zipIdx i)).reg j = s.reg j := by
  induction l generalizing s i with
  | nil => rfl
  | cons c l ih =>
    rw [List.zipIdx_cons, State.putChunks, List.foldl_cons]
    exact (ih (by omega)).trans (State.reg_setReg_other _ _ (by omega))

theorem State.regBytes_putChunks {k i n f : Nat} {b : Bytes} (hb : b.length = 4 * n) (hf : b.length ≤ f) :
    (s.putChunks k ((chunksAux 4 f b).zipIdx i)).regBytes (k + 4 * i) n = b := by
  induction n generalizing s i f b with
  | zero => exact (List.eq_nil_of_length_eq_zero hb).symm
  | succ n ih =>
    obtain ⟨f, rfl⟩ : ∃ g, f = g + 1 := ⟨f - 1, by omega⟩
    obtain ⟨x, xs, rfl⟩ := List.exists_cons_of_length_pos (show 0 < b.length by omega)
    have htake : ((x :: xs).take 4).length = 4 := by
      rw [List.length_take]
      omega
    have hlow : (w32 (leNat ((x :: xs).take 4))).toNat = leNat ((x :: xs).take 4) := by
      rw [w32, BitVec.toNat_ofNat]
      refine Nat.mod_eq_of_lt (leNat_lt.trans_le ?_)
      rw [htake]
      decide
    have hrest : (chunksAux 4 (f + 1) (x :: xs)).zipIdx i = ((x :: xs).take 4, i) :: (chunksAux 4 f ((x :: xs).drop 4)).zipIdx (i + 1) := rfl
    rw [hrest, State.putChunks, List.foldl_cons]
    change leBytes 4 ((State.putChunks _ k _).reg (k + 4 * i)).toNat ++ _ = _
    rw [State.putChunks_reg_below (by omega), State.reg_setReg_same, hlow]
    have hih := ih (s := s.setReg (k + 4 * i) (w32 (leNat ((x :: xs).take 4)))) (i := i + 1) (f := f) (b := (x :: xs).drop 4)
      (by rw [List.length_drop]; omega) (by rw [List.length_drop]; omega)
    have hhead : leBytes 4 (leNat ((x :: xs).take 4)) = (x :: xs).take 4 := by
      have := leBytes_leNat (b := (x :: xs).take 4)
      rwa [htake] at this
    rw [hhead]
    exact (congrArg _ hih).trans (List.take_append_drop 4 (x :: xs))

/-- A whole number of words written reads back. -/
theorem State.regBytes_setRegBytes {k n : Nat} {b : Bytes} (h : b.length = 4 * n) : (s.setRegBytes k b).regBytes k n = b :=
  State.regBytes_putChunks (i := 0) h (Nat.le_succ _)

theorem State.regBytes_of_reg {k n : Nat} (h : ∀ i < n, t.reg (k + 4 * i) = s.reg (k + 4 * i)) : t.regBytes k n = s.regBytes k n := by
  induction n generalizing k with
  | zero => rfl
  | succ n ih =>
    have h₀ : t.reg k = s.reg k := h 0 (Nat.succ_pos n)
    rw [State.regBytes, State.regBytes, h₀, ih fun i hi => ?_]
    rw [show k + 4 + 4 * i = k + 4 * (i + 1) by omega]
    exact h (i + 1) (Nat.succ_lt_succ hi)

theorem length_chunksAux_four {f n : Nat} {b : Bytes} (hb : b.length ≤ 4 * n) : (chunksAux 4 f b).length ≤ n := by
  induction f generalizing b n with
  | zero => simp [chunksAux]
  | succ f ih =>
    cases b with
    | nil => simp [chunksAux]
    | cons x xs =>
      rw [List.length_cons] at hb
      have := ih (b := (x :: xs).drop 4) (n := n - 1) (by rw [List.length_drop, List.length_cons]; omega)
      simp only [chunksAux, List.length_cons]
      omega

/-- Only the words that the bytes fill are written. -/
theorem State.setRegBytes_reg_of_ne {k j n : Nat} {b : Bytes} (hb : b.length = 4 * n) (h : ∀ i < n, j ≠ k + 4 * i) : (s.setRegBytes k b).reg j = s.reg j := by
  have hlen : (chunks 4 b).length ≤ n := length_chunksAux_four hb.le
  refine List.foldlRecOn _ _ (motive := fun u : State => u.reg j = s.reg j) rfl fun u hu c hc => (u.reg_setReg_other _ ?_).trans hu
  have := List.snd_lt_of_mem_zipIdx hc
  exact h c.2 (by omega)

/-- Nothing is written beyond the words that the bytes fill. -/
theorem State.setRegBytes_reg_above {k j n : Nat} {b : Bytes} (hb : b.length = 4 * n) (h : k + 4 * n ≤ j) : (s.setRegBytes k b).reg j = s.reg j :=
  State.setRegBytes_reg_of_ne hb fun _ _ => by omega

/-! ### Fields of words -/

theorem field_setBit {w : Word} {i hi lo : Nat} {b : Bool} (h : i < lo ∨ hi < i) : field (setBit w i b) hi lo = field w hi lo := field_setField_other h.symm

theorem bit_setField_other {w : Word} {i hi lo v : Nat} (h : i < lo ∨ hi < i) : bit (setField w hi lo v) i = bit w i := by
  rw [bit_setField, if_neg (by omega)]

end Sys2Proof.Machine

/-! SUPPORT. The contact slots: what each step does to the slot, its STATUS word, its events and its other registers (R827 to R840). -/

namespace Sys2Proof.Machine

variable {s t u : State} {n : Fin 2}

/-! ### Slots and events -/

theorem State.slot_updSlot {f : CardSlot → CardSlot} (h : n < s.cd.slots.length) : (s.updSlot n f).slot n = f (s.slot n) := by
  simp [State.slot, State.updSlot, State.setSlot, State.mapCd, List.getD_eq_getElem?_getD, h]

theorem State.slots_updSlot {f : CardSlot → CardSlot} : (s.updSlot n f).cd.slots.length = s.cd.slots.length := List.length_set

theorem State.slot_of_cd (h : t.cd = s.cd) : t.slot n = s.slot n := by rw [State.slot, State.slot, h]

theorem State.EventsOnly.cd (h : s.EventsOnly t) : t.cd = s.cd := by
  obtain ⟨_, _, _, _, _, rfl⟩ := h.rest
  rfl

/-- A card event sets its bit, and may raise the slot's event. -/
theorem State.cardEvent_eventsOnly {i : Nat} : (s.setRegBit (R.CARD_EVT_STATUS n) i true).EventsOnly (s.cardEvent n i) := by
  have hn : 232 + n.val < 640 ∧ 232 + n.val ∉ [318, 263, 269] := by
    have := n.isLt
    simp
    omega
  exact .ite (State.raise_eventsOnly hn.1 hn.2) .refl

section
variable {i : Nat}

theorem State.cardEvent_cd : (s.cardEvent n i).cd = s.cd := State.cardEvent_eventsOnly.cd

theorem State.cardEvent_now : (s.cardEvent n i).now = s.now := State.cardEvent_eventsOnly.now

theorem State.cardEvent_reg {k : Nat} (h : k ≠ R.CARD_EVT_STATUS n) (hk : 0x100E00000 ≤ k) : (s.cardEvent n i).reg k = s.reg k :=
  (State.cardEvent_eventsOnly.reg k (not_eventReg_of_errc hk)).trans (State.reg_setReg_other _ _ h)

theorem State.cardEvent_noted (hi : i < 32) : (s.cardEvent n i).regBit (R.CARD_EVT_STATUS n) i = true := by
  have hk : 0x100E00000 ≤ R.CARD_EVT_STATUS n := by
    simp only [R.CARD_EVT_STATUS]
    omega
  rw [State.regBit_eq_of_reg (State.cardEvent_eventsOnly.reg _ (not_eventReg_of_errc hk)), State.regBit_setRegBit hi, if_pos rfl]

end

/-! ### Deactivation and errors -/

/-- The STATUS word of a deactivated slot that shows state `k`. -/
def offWord (w : Word) (k : Nat) : Word := setField (setBit w 0 false) 6 4 k

theorem bit_offWord {w : Word} {k i : Nat} (h : i < 4 ∨ 6 < i) : bit (offWord w k) i = if i = 0 then false else bit w i := by
  rw [offWord, bit_setField_other h, bit_setBit (by decide)]

theorem field_offWord_state {w : Word} {k : Nat} : field (offWord w k) 6 4 = k % 8 := field_setField_same (by decide)

theorem field_offWord {w : Word} {k hi lo : Nat} (h : 6 < lo) : field (offWord w k) hi lo = field w hi lo := by
  rw [offWord, field_setField_other (.inr h), field_setBit (.inl (by omega))]

section
variable {k : Nat}

theorem State.cardOff_status : (s.cardOff n k).reg (R.CARD_STATUS n) = offWord (s.reg (R.CARD_STATUS n)) k := by
  rw [State.cardOff, State.updSlot, State.setSlot, State.mapCd_reg, State.setRegField, State.reg_setReg_same, State.setRegBit, State.reg_setReg_same]
  rfl

theorem State.cardOff_reg {j : Nat} (h : j ≠ R.CARD_STATUS n) : (s.cardOff n k).reg j = s.reg j := by
  rw [State.cardOff, State.updSlot, State.setSlot, State.mapCd_reg, State.setRegField, State.reg_setReg_other _ _ h, State.setRegBit,
    State.reg_setReg_other _ _ h]

theorem State.cardOff_state : (s.cardOff n k).regField (R.CARD_STATUS n) 6 4 = k % 8 := by
  rw [State.regField, State.cardOff_status, field_offWord_state]

theorem State.cardOff_power : (s.cardOff n k).regBit (R.CARD_STATUS n) 0 = false := by
  rw [State.regBit, State.cardOff_status, bit_offWord (.inl (by decide)), if_pos rfl]

theorem State.cardOff_slots : (s.cardOff n k).cd.slots.length = s.cd.slots.length := State.slots_updSlot

theorem State.cardOff_slot (h : n < s.cd.slots.length) :
    (s.cardOff n k).slot n = { CardSlot.idle with inserted := (s.slot n).inserted, cls := (s.slot n).cls } := State.slot_updSlot h

/-- An error's STATUS word. -/
theorem State.cardError_status {e : Nat} :
    (s.cardError n e).reg (R.CARD_STATUS n) = setField (offWord (s.reg (R.CARD_STATUS n)) 6) 19 16 e := by
  rw [State.cardError, State.cardEvent_reg (by simp only [R.CARD_STATUS, R.CARD_EVT_STATUS]; omega) (by simp only [R.CARD_STATUS]; omega),
    State.bump, State.reg_setReg_other _ _ (by simp only [R.CARD_STATUS, R.CARD_ERRORS]; omega), State.setRegField, State.reg_setReg_same,
    State.cardOff_status]

theorem State.cardError_reg {e j : Nat} (hk : 0x100E00000 ≤ j) (h : j ≠ R.CARD_STATUS n) (he : j ≠ R.CARD_ERRORS n) (hv : j ≠ R.CARD_EVT_STATUS n) :
    (s.cardError n e).reg j = s.reg j := by
  rw [State.cardError, State.cardEvent_reg hv hk, State.bump, State.reg_setReg_other _ _ he, State.setRegField, State.reg_setReg_other _ _ h,
    State.cardOff_reg h]

theorem State.cardError_errors {e : Nat} : (s.cardError n e).reg (R.CARD_ERRORS n) = satInc (s.reg (R.CARD_ERRORS n)) := by
  rw [State.cardError, State.cardEvent_reg (by simp only [R.CARD_ERRORS, R.CARD_EVT_STATUS]; omega) (by simp only [R.CARD_ERRORS]; omega),
    State.bump, State.reg_setReg_same, State.setRegField, State.reg_setReg_other _ _ (by simp only [R.CARD_STATUS, R.CARD_ERRORS]; omega),
    State.cardOff_reg (by simp only [R.CARD_STATUS, R.CARD_ERRORS]; omega)]

theorem State.cardError_now {e : Nat} : (s.cardError n e).now = s.now := by
  rw [State.cardError, State.cardEvent_now, State.bump, State.setReg_now, State.setRegField, State.setReg_now]
  rfl

theorem State.cardError_slots {e : Nat} : (s.cardError n e).cd.slots.length = s.cd.slots.length := by
  rw [State.cardError, State.cardEvent_cd, State.bump, State.setReg_cd, State.setRegField, State.setReg_cd, State.cardOff_slots]

/-- What a slot that failed with error `e` shows; `c` is what CARD_ERRORS held. -/
structure State.CardFailed (t : State) (n : Fin 2) (e : Nat) (c : Word) : Prop where
  state : t.regField (R.CARD_STATUS n) 6 4 = 6
  power : t.regBit (R.CARD_STATUS n) 0 = false
  err : t.regField (R.CARD_STATUS n) 19 16 = e
  errors : t.reg (R.CARD_ERRORS n) = satInc c
  noted : t.regBit (R.CARD_EVT_STATUS n) 4 = true

theorem State.cardError_failed {e : Nat} (he : e < 16) : (s.cardError n e).CardFailed n e (s.reg (R.CARD_ERRORS n)) where
  state := by
    rw [State.regField, State.cardError_status, field_setField_other (.inl (by decide)), field_offWord_state]
  power := by
    rw [State.regBit, State.cardError_status, bit_setField_other (.inl (by decide)), bit_offWord (.inl (by decide)), if_pos rfl]
  err := by
    rw [State.regField, State.cardError_status, field_setField_same (by decide)]
    exact Nat.mod_eq_of_lt he
  errors := State.cardError_errors
  noted := State.cardEvent_noted (by decide)

end

/-- A card to be activated again in class `c`: the slot has no power, and waits 10 ms. -/
structure State.CardAgain (s t : State) (n : Fin 2) (c : Nat) (np : Bool) : Prop where
  power : t.regBit (R.CARD_STATUS n) 0 = false
  retry : (t.slot n).retryAt = some (s.now + 10000000)
  next : (t.slot n).next = c
  noPps : (t.slot n).noPps = np

theorem State.cardAgain_reg {c k : Nat} {np : Bool} : (s.cardAgain n c np).reg k = (s.cardOff n 2).reg k := State.mapCd_reg _ _ _

theorem State.cardAgain_again {c : Nat} {np : Bool} (h : n < s.cd.slots.length) : s.CardAgain (s.cardAgain n c np) n c np := by
  have hslot : (s.cardAgain n c np).slot n = _ := State.slot_updSlot (by rwa [State.cardOff_slots])
  refine ⟨?_, ?_, ?_, ?_⟩
  · rw [State.regBit, State.cardAgain_reg, State.cardOff_status, bit_offWord (.inl (by decide)), if_pos rfl]
  all_goals rw [hslot]

/-! ### Activation -/

theorem State.setRegs_two {a b x y : Nat} : s.setRegs [(a, x), (b, y)] = (s.setReg a (w32 x)).setReg b (w32 y) := rfl

/-- The STATUS word of a slot that activates its card. -/
def onWord (w : Word) : Word := setField (setField (setBit w 0 true) 6 4 2) 25 20 0

section
variable {c : Nat} {np : Bool}

theorem State.cardActivate_status : (s.cardActivate n c np).reg (R.CARD_STATUS n) = onWord (s.reg (R.CARD_STATUS n)) := by
  rw [State.cardActivate, State.updSlot, State.setSlot, State.mapCd_reg, State.setRegs_two,
    State.reg_setReg_other _ _ (by simp only [R.CARD_STATUS, R.CARD_PARAM]; omega),
    State.reg_setReg_other _ _ (by simp only [R.CARD_STATUS, R.CARD_PROTO]; omega), State.setRegField, State.reg_setReg_same, State.setRegField,
    State.reg_setReg_same, State.setRegBit, State.reg_setReg_same]
  rfl

theorem State.cardActivate_reg {j : Nat} (h : j ≠ R.CARD_STATUS n) (hp : j ≠ R.CARD_PROTO n) (ha : j ≠ R.CARD_PARAM n) :
    (s.cardActivate n c np).reg j = s.reg j := by
  rw [State.cardActivate, State.updSlot, State.setSlot, State.mapCd_reg, State.setRegs_two, State.reg_setReg_other _ _ ha, State.reg_setReg_other _ _ hp,
    State.setRegField, State.reg_setReg_other _ _ h, State.setRegField, State.reg_setReg_other _ _ h, State.setRegBit, State.reg_setReg_other _ _ h]

/-- What a slot that activates its card in class `c` shows. -/
structure State.CardActivates (t : State) (n : Fin 2) (c : Nat) : Prop where
  state : t.regField (R.CARD_STATUS n) 6 4 = 2
  power : t.regBit (R.CARD_STATUS n) 0 = true
  step : (t.slot n).step = .atr
  cls : (t.slot n).cls = c

theorem State.cardActivate_slot (h : n < s.cd.slots.length) :
    (s.cardActivate n c np).slot n = { CardSlot.idle with step := .atr, cls := c, noPps := np, inserted := (s.slot n).inserted } := by
  unfold State.cardActivate
  extract_lets a b
  have hcd : b.cd = s.cd := by
    unfold b
    rw [State.setRegs_two, State.setReg_cd, State.setReg_cd]
    rfl
  rw [State.slot_updSlot (by rwa [hcd]), State.slot_of_cd hcd]

theorem State.cardActivate_activates (h : n < s.cd.slots.length) : (s.cardActivate n c np).CardActivates n c := by
  refine ⟨?_, ?_, by rw [State.cardActivate_slot h], by rw [State.cardActivate_slot h]⟩
  · rw [State.regField, State.cardActivate_status, onWord, field_setField_other (.inl (by decide)), field_setField_same (by decide)]
    rfl
  · rw [State.regBit, State.cardActivate_status, onWord, bit_setField_other (.inl (by decide)), bit_setField_other (.inl (by decide)),
      bit_setBit (by decide), if_pos rfl]

end

/-! ### The answer to reset (R829 to R833) -/

/-- Register addresses of the slot differ where their offsets do. -/
theorem slotReg_ne {a b : Nat} (h : a ≠ b) : a + 0x80000 * n ≠ b + 0x80000 * n := fun e => h (Nat.add_right_cancel e)

theorem slotReg_high {a : Nat} (h : 0x100E00000 ≤ a) : 0x100E00000 ≤ a + 0x80000 * n := h.trans (Nat.le_add_right _ _)

theorem State.cardReady_status : (s.cardReady n).reg (R.CARD_STATUS n) = setField (s.reg (R.CARD_STATUS n)) 6 4 3 := by
  rw [State.cardReady, State.cardEvent_reg (slotReg_ne (by decide)) (slotReg_high (by decide)), State.updSlot, State.setSlot, State.mapCd_reg,
    State.setRegField, State.reg_setReg_same]

theorem State.cardReady_reg {j : Nat} (hk : 0x100E00000 ≤ j) (h : j ≠ R.CARD_STATUS n) (hv : j ≠ R.CARD_EVT_STATUS n) :
    (s.cardReady n).reg j = s.reg j := by
  rw [State.cardReady, State.cardEvent_reg hv hk, State.updSlot, State.setSlot, State.mapCd_reg, State.setRegField, State.reg_setReg_other _ _ h]

theorem State.cardSends_reg {j : Nat} {b : Bytes} : (s.cardSends n b).reg j = s.reg j := by
  rw [State.cardSends, State.updSlot, State.setSlot, State.mapCd_reg, State.emit_reg]

/-- What the ATR and its registers keep from then on: all registers but the slot's STATUS, PROTO, PARAM, ERRORS and event bits, and of STATUS
the length of the ATR. -/
structure State.AtrKept (s t : State) (n : Fin 2) : Prop where
  len : t.regField (R.CARD_STATUS n) 25 20 = s.regField (R.CARD_STATUS n) 25 20
  reg : ∀ j, 0x100E00000 ≤ j → j ≠ R.CARD_STATUS n → j ≠ R.CARD_PROTO n → j ≠ R.CARD_PARAM n → j ≠ R.CARD_ERRORS n → j ≠ R.CARD_EVT_STATUS n →
    t.reg j = s.reg j

namespace State.AtrKept

theorem trans (h₁ : s.AtrKept t n) (h₂ : t.AtrKept u n) : s.AtrKept u n :=
  ⟨h₂.len.trans h₁.len, fun j hk h hp ha he hv => (h₂.reg j hk h hp ha he hv).trans (h₁.reg j hk h hp ha he hv)⟩

/-- Registers that stay, STATUS with them. -/
theorem of_reg (h : ∀ j, j ≠ R.CARD_PROTO n → j ≠ R.CARD_PARAM n → t.reg j = s.reg j) : s.AtrKept t n :=
  ⟨State.regField_eq_of_reg (h _ (slotReg_ne (by decide)) (slotReg_ne (by decide))), fun j _ _ hp ha _ _ => h j hp ha⟩

theorem updSlot {f : CardSlot → CardSlot} : s.AtrKept (s.updSlot n f) n := .of_reg fun _ _ _ => State.mapCd_reg _ _ _

theorem cardSends {b : Bytes} : s.AtrKept (s.cardSends n b) n := .of_reg fun _ _ _ => State.cardSends_reg

theorem setProto {w : Word} : s.AtrKept (s.setReg (R.CARD_PROTO n) w) n := .of_reg fun _ hp _ => State.reg_setReg_other _ _ hp

theorem setParam {w : Word} : s.AtrKept (s.setReg (R.CARD_PARAM n) w) n := .of_reg fun _ _ ha => State.reg_setReg_other _ _ ha

theorem cardError {e : Nat} : s.AtrKept (s.cardError n e) n where
  len := by rw [State.regField, State.cardError_status, field_setField_other (.inr (by decide)), field_offWord (by decide)]; rfl
  reg _ hk h _ _ he hv := State.cardError_reg hk h he hv

theorem cardAgain {c : Nat} {np : Bool} : s.AtrKept (s.cardAgain n c np) n where
  len := by rw [State.regField, State.cardAgain_reg, State.cardOff_status, field_offWord (by decide)]; rfl
  reg _ _ h _ _ _ _ := State.cardAgain_reg.trans (State.cardOff_reg h)

theorem cardReady : s.AtrKept (s.cardReady n) n where
  len := by rw [State.regField, State.cardReady_status, field_setField_other (.inr (by decide))]; rfl
  reg _ hk h _ _ _ hv := State.cardReady_reg hk h hv

theorem cardSettled : s.AtrKept (s.cardSettled n) n := by
  unfold State.cardSettled
  split
  · exact cardSends.trans updSlot
  · exact cardReady

theorem cardParams {f d div : Nat} : s.AtrKept (s.cardParams n f d div) n := (setProto.trans setProto).trans setProto

/-- An acceptable ATR, once its bytes stand in the registers. -/
theorem ite {c : Prop} [Decidable c] (ht : s.AtrKept t n) (hu : s.AtrKept u n) : s.AtrKept (if c then t else u) n := by
  split
  · exact ht
  · exact hu

end State.AtrKept

/-- The ATR's bytes and length in the registers. -/
def State.atrShown (s : State) (n : Nat) (atr : Bytes) : State :=
  (s.setRegBytes (R.CARD_ATR n 0) (padTo 36 atr)).setRegField (R.CARD_STATUS n) 25 20 atr.length

/-- The protocol that an ATR leads to, and a TA2 that asks for more than the slot does. -/
def atrProto (a : AtrFacts) : Nat := match a.ta2 with | some x => x % 16 | none => if a.protos.contains 1 then 1 else 0
def ta2Refused (a : AtrFacts) : Bool := match a.ta2 with | some x => nbit x 4 || decide (1 < x % 16) | none => false

/-- What an acceptable ATR says in the registers and the slot. -/
def State.atrTaken (s : State) (n : Nat) (a : AtrFacts) (c : Nat) : State :=
  let s := s.setReg (R.CARD_PROTO n) (w32 (atrProto a + 2 * c + 4 * b2n (a.crc && atrProto a == 1) + 0x110 + 25 * 65536 + a.n * 2 ^ 24))
  let s := s.setReg (R.CARD_PARAM n) (w32 (a.ifsc + a.tb3 % 16 * 256 + a.tb3 / 16 * 4096 + a.wi * 65536))
  s.updSlot n fun x => { x with clkStop := match a.t15 with | some y => y / 64 % 4 | none => 0 }

/-- The request of other parameters. -/
def State.ppsSent (s : State) (n : Nat) (b : Bytes) : State := (s.cardSends n (b ++ [xorAll b])).updSlot n fun x => { x with step := .pps }

/-- Parameters follow: those that TA2 settles, those that the slot asks for, or the default ones. -/
def State.atrAgreed (s : State) (n : Nat) (a : AtrFacts) : State :=
  let ta := a.ta1.getD 0x11
  match a.ta2 with
  | some _ => (s.cardParams n (ta / 16) (ta % 16) (clkDiv (ta / 16))).cardSettled n
  | none =>
    if s.regBit (R.CARD_CTRL n) 4 ∧ a.ta1.isSome ∧ ta ≠ 0x11 ∧ ¬ (s.slot n).noPps ∧ (fiTable (ta / 16)).isSome ∧ (diTable (ta % 16)).isSome then
      s.ppsSent n [(0xFF : Byte), by8 (0x10 + atrProto a), by8 (ta / 16 * 16 + bestDi (ta / 16) (ta % 16))]
    else s.cardSettled n

theorem State.atrGood_eq {k : Nat} {atr : Bytes} {a : AtrFacts} : s.atrGood k atr a =
    if ¬ classOkFor a.t15 (s.slot k).cls then
      if (s.slot k).cls = 0 ∧ (s.atrShown k atr).regBit (R.CARD_CTRL k) 3 ∧ classOkFor a.t15 1 then (s.atrShown k atr).cardAgain k 1 false
      else (s.atrShown k atr).cardError k 3
    else if ¬ (a.protos.contains 0 ∨ a.protos.contains 1) then (s.atrShown k atr).cardError k 4
    else if ta2Refused a then (s.atrShown k atr).cardError k 4
    else ((s.atrShown k atr).atrTaken k a (s.slot k).cls).atrAgreed k a := rfl

theorem State.atrTaken_kept {a : AtrFacts} {c : Nat} : s.AtrKept (s.atrTaken n a c) n := by
  unfold State.atrTaken
  exact (State.AtrKept.setProto.trans .setParam).trans .updSlot

theorem State.atrAgreed_kept {a : AtrFacts} : s.AtrKept (s.atrAgreed n a) n := by
  unfold State.atrAgreed
  extract_lets ta
  split
  · exact State.AtrKept.cardParams.trans .cardSettled
  · exact .ite (State.AtrKept.cardSends.trans .updSlot) .cardSettled

theorem State.atrGood_kept {atr : Bytes} {a : AtrFacts} : (s.atrShown n atr).AtrKept (s.atrGood n atr a) n := by
  rw [State.atrGood_eq]
  exact .ite (.ite .cardAgain .cardError) (.ite .cardError (.ite .cardError (State.atrTaken_kept.trans State.atrAgreed_kept)))

theorem State.atrShown_facts {atr : Bytes} (h : atr.length ≤ 36) : (s.atrShown n atr).regField (R.CARD_STATUS n) 25 20 = atr.length ∧
    ((s.atrShown n atr).regBytes (R.CARD_ATR n 0) 9).take atr.length = atr := by
  have hn := n.isLt
  have hpad : (padTo 36 atr).take atr.length = atr := by
    rw [padTo, slice, List.drop_zero, List.take_of_length_le h, List.take_left' rfl]
  refine ⟨?_, ?_⟩
  · rw [State.regField, State.atrShown, State.setRegField, State.reg_setReg_same, field_setField_same (by decide)]
    exact Nat.mod_eq_of_lt (by omega)
  · rw [State.regBytes_of_reg (s := s.setRegBytes (R.CARD_ATR n 0) (padTo 36 atr)), State.regBytes_setRegBytes (n := 9) length_padTo, hpad]
    intro i hi
    refine State.reg_setReg_other _ _ ?_
    simp only [R.CARD_ATR, R.CARD_STATUS]
    omega

theorem length_of_atrParse {atr : Bytes} {gs : List AtrGroup} (h : atrParse atr = some gs) : atr.length ≤ 36 := by
  unfold atrParse at h
  split at h
  · cases h
  · omega

theorem State.atrGood_shown {atr : Bytes} {gs : List AtrGroup} (h : atrParse atr = some gs) {a : AtrFacts} :
    (s.atrGood n atr a).regField (R.CARD_STATUS n) 25 20 = atr.length ∧ ((s.atrGood n atr a).regBytes (R.CARD_ATR n 0) 9).take atr.length = atr := by
  have hn := n.isLt
  obtain ⟨hlen, hbytes⟩ := State.atrShown_facts (s := s) (n := n) (length_of_atrParse h)
  refine ⟨State.atrGood_kept.len.trans hlen, ?_⟩
  rw [State.regBytes_of_reg (s := s.atrShown n atr), hbytes]
  intro i hi
  refine State.atrGood_kept.reg _ ?_ ?_ ?_ ?_ ?_ ?_ <;>
    simp only [R.CARD_ATR, R.CARD_STATUS, R.CARD_PROTO, R.CARD_PARAM, R.CARD_ERRORS, R.CARD_EVT_STATUS] <;> omega

/-- A card that offers T=0 alone and no other parameters is ready at once. -/
theorem State.atrGood_default {atr : Bytes} {a : AtrFacts} (h₁₅ : a.t15 = none) (hp : a.protos = [0]) (h₁ : a.ta1 = none) (h₂ : a.ta2 = none) :
    (s.atrGood n atr a).regField (R.CARD_STATUS n) 6 4 = 3 ∧ (s.atrGood n atr a).regBit (R.CARD_EVT_STATUS n) 2 = true ∧
    (s.atrGood n atr a).regBit (R.CARD_PROTO n) 0 = false := by
  have htaken : ((s.atrShown n atr).atrTaken n a (s.slot n).cls).regBit (R.CARD_PROTO n) 0 = false := by
    have hproto : atrProto a = 0 := by simp [atrProto, h₂, hp]
    unfold State.atrTaken
    rw [State.regBit, State.updSlot, State.setSlot, State.mapCd_reg, State.reg_setReg_other _ _ (slotReg_ne (by decide)), State.reg_setReg_same, hproto]
    have hb : b2n (a.crc && (0 : Nat) == 1) = 0 := by simp [b2n]
    rw [hb, bit, w32, BitVec.getLsbD_ofNat, Nat.testBit_zero]
    simp
    omega
  have heq : s.atrGood n atr a = ((s.atrShown n atr).atrTaken n a (s.slot n).cls).cardReady n := by
    rw [State.atrGood_eq, if_neg (by simp [classOkFor, h₁₅]), if_neg (by simp [hp]), if_neg (by simp [ta2Refused, h₂]), State.atrAgreed]
    simp only [h₂, h₁, Option.isSome_none, Bool.false_eq_true, false_and, and_false, if_false]
    rw [State.cardSettled, if_neg (by rw [htaken]; exact Bool.false_ne_true)]
  rw [heq]
  refine ⟨?_, State.cardEvent_noted (by decide), ?_⟩
  · rw [State.regField, State.cardReady_status, field_setField_same (by decide)]
    rfl
  · rw [State.regBit_eq_of_reg (State.cardReady_reg (slotReg_high (by decide)) (slotReg_ne (by decide)) (slotReg_ne (by decide))), htaken]

section
variable (hl : s.cardsLive = true)
include hl

section
variable (hs : (s.slot n).step = .atr)
include hs

theorem exec_cardAtrReceived_bad {atr : Bytes} {timely : Bool} (h : timely = false ∨ atrParse atr = none) :
    exec (.cardAtrReceived n atr timely) s = .next (s.atrBad n) := by
  refine congrArg Host.Outcome.next ((if_neg (by simp [hl, hs])).trans ?_)
  obtain rfl | h := h
  · rfl
  · rw [h]
    cases timely <;> rfl

theorem exec_cardAtrReceived_good {atr : Bytes} {gs : List AtrGroup} (h : atrParse atr = some gs) :
    exec (.cardAtrReceived n atr true) s = .next (s.atrGood n atr (atrFacts gs)) := by
  refine congrArg Host.Outcome.next ((if_neg (by simp [hl, hs])).trans ?_)
  rw [h]

theorem exec_cardAtrTimeout {ts : Bool} : exec (.cardAtrTimeout n ts) s = .next (if ts then s.atrBad n
    else if (s.slot n).noPps then s.cardError n 5
    else if (s.slot n).cls = 0 ∧ s.regBit (R.CARD_CTRL n) 3 then s.cardAgain n 1 false else s.cardError n 1) :=
  congrArg Host.Outcome.next (if_neg (by simp [hl, hs]))

end

theorem exec_cardRetryDelayEnd {r : Nat} (hr : (s.slot n).retryAt = some r) (hp : s.cardPresent n = true) :
    exec (.cardRetryDelayEnd n) s = .next (({ s with now := max s.now r } : State).cardActivate n (s.slot n).next (s.slot n).noPps) := by
  change execCardRetryDelayEnd n s = _
  simp only [execCardRetryDelayEnd, hr, hl, hp, and_self, if_true]

section
variable (hs : (s.slot n).step = .pps)
include hs

theorem exec_cardPpsResponse {e : Bytes} : exec (.cardPpsResponse n e) s =
    .next (if e = (s.slot n).last then (s.cardParams n (byteAt e 2 / 16) (byteAt e 2 % 16) (clkDiv (byteAt e 2 / 16))).cardSettled n else s.ppsFail n) :=
  congrArg Host.Outcome.next (if_neg (by simp [hl, hs]))

theorem exec_cardPpsTimeout : exec (.cardPpsTimeout n) s = .next (s.ppsFail n) := congrArg Host.Outcome.next (if_pos ⟨hl, hs⟩)

end

theorem exec_cardExchangeTimeout (h : s.regField (R.CARD_STATUS n) 6 4 = 4) : exec (.cardExchangeTimeout n) s =
    .next (({ s with now := max s.now ((s.slot n).startAt + 1000000 * (s.reg (R.CARD_APDU_MAX n)).toNat) } : State).cardError n 6) :=
  congrArg Host.Outcome.next (if_pos ⟨hl, by rw [State.cardStateIs, h]; rfl⟩)

theorem exec_cardClockStop (h : s.regField (R.CARD_STATUS n) 6 4 = 3) (hc : s.regBit (R.CARD_CTRL n) 5 = true) (hk : (s.slot n).clkStop ≠ 0) :
    exec (.cardClockStop n) s = .next ((s.setRegField (R.CARD_STATUS n) 6 4 5).updSlot n fun x => { x with clkOff := true }) :=
  congrArg Host.Outcome.next (if_pos ⟨hl, by rw [State.cardStateIs, h]; rfl, hc, hk⟩)

/-- A card has come. -/
def State.cardArrived (s : State) (n : Nat) : State :=
  ((s.setRegBit (R.CARD_STATUS n) 1 true).updSlot n fun x => { x with inserted := s.now }).cardEvent n 0

theorem exec_cardInserted (hc : s.regBit (R.CARD_CTRL n) 0 = true) (hp : s.cardPresent n = false) : exec (.cardInserted n) s =
    .next ((s.cardArrived n).cardActivate n (((s.setRegBit (R.CARD_STATUS n) 1 true).updSlot n fun x => { x with inserted := s.now }).firstClass n) false) :=
  congrArg Host.Outcome.next (if_neg (by simp [hl, hc, hp]))

theorem exec_cardRemoved (hp : s.cardPresent n = true) : exec (.cardRemoved n) s =
    .next (((((if s.cardStateIs n 4 then s.cardError n 7 else s).cardOff n 0).setRegBit (R.CARD_STATUS n) 1 false).bump (R.CARD_REMOVALS n)).cardEvent n 1) := by
  have hr : s.pw.inReset = false := by
    simp only [State.cardsLive, Bool.and_eq_true, Bool.not_eq_true'] at hl
    exact hl.1.1.1.1
  exact congrArg Host.Outcome.next (if_neg (by simp [hr, hp]))

end

/-! ### CARD_CMD (R828, R834, R840) -/

section
variable {who : Sender} {v : Word}

theorem regRow?_cardCmd : ∀ n : Fin 2, regRow? (R.CARD_CMD n) = some { key := 0x101400008, dims := [(0x80000, 2)], wo := 0x7 } := by decide

theorem State.wr_cardCmd (h : s.wardenAt who .store (R.CARD_CMD n)) : s.wr who (R.CARD_CMD n) v = s.cardCmd who n v := by
  have hcanon : ∀ n : Fin 2, canonReg (R.CARD_CMD n) = R.CARD_CMD n := by decide
  have hcmd : ∀ n : Fin 2, ∀ j ∈ commandRegs, R.CARD_CMD n ≠ j := by decide
  have hix : ∀ n : Fin 2, arrIx (R.CARD_CMD n) (R.EVT_PEND 0) 4 20 = none ∧ arrIx (R.CARD_CMD n) (R.ERRC_CLEAR 0) 0x40 128 = none ∧
      arrIx (R.CARD_CMD n) (R.CARD_CMD 0) 0x80000 2 = some n.val := by decide
  rw [State.wr_link h (regRow?_cardCmd n) (hcanon n) (by simp only [R.CARD_CMD]; omega) (by simp only [R.CARD_CMD]; omega) (by simp only [R.CARD_CMD]; omega)]
  have hne := hcmd n
  obtain ⟨hev, herr, hcard⟩ := hix n
  simp only [commandRegs, List.forall_mem_cons] at hne
  obtain ⟨h₁, h₂, h₃, h₄, h₅, h₆, h₇, h₈, h₉, h₁₀, h₁₁, h₁₂, h₁₃, -⟩ := hne
  unfold State.commandWrite
  rw [if_neg h₁, if_neg h₂, if_neg h₃, if_neg h₄, if_neg h₅, if_neg h₆, if_neg h₇, if_neg h₈, if_neg h₉, if_neg h₁₀, if_neg h₁₁, if_neg h₁₂, if_neg h₁₃,
    hev, herr, hcard]
  rfl

variable (h : s.wardenAt who .store (R.CARD_CMD n))
include h

theorem exec_cardActivate (hl : s.cardsLive = true) (hp : s.cardPresent n = true) (ho : s.regBit (R.CARD_STATUS n) 0 = false) :
    exec (.cardActivate who n) s = .next (s.cardActivate n (s.firstClass n) false) := by
  refine congrArg Host.Outcome.next ((State.wr_cardCmd h).trans ?_)
  simp only [State.cardCmd, show bit (1 : Word) 0 = true by decide, show bit (1 : Word) 1 = false by decide, show bit (1 : Word) 2 = false by decide, Bool.false_eq_true, if_true, if_false]
  exact if_pos ⟨hl, hp, by simp [ho]⟩

theorem exec_cardDeactivate : exec (.cardDeactivate who n) s = .next (s.cardOff n 0) := by
  refine congrArg Host.Outcome.next ((State.wr_cardCmd h).trans ?_)
  simp only [State.cardCmd, show bit (2 : Word) 0 = false by decide, show bit (2 : Word) 1 = true by decide, show bit (2 : Word) 2 = false by decide, Bool.false_eq_true, if_true, if_false]
  rfl

theorem exec_cardSend : exec (.cardSend who n) s = .next (s.cardCmdSend who n) := by
  refine congrArg Host.Outcome.next ((State.wr_cardCmd h).trans ?_)
  simp only [State.cardCmd, show bit (4 : Word) 0 = false by decide, show bit (4 : Word) 1 = false by decide, show bit (4 : Word) 2 = true by decide, Bool.false_eq_true, if_true, if_false]

end

/-- The command APDU stands in the slot, nothing of it sent. -/
def State.cardCommand (s : State) (n : Nat) (tx : Bytes) : State :=
  ((s.setRegField (R.CARD_STATUS n) 6 4 4).setRegField (R.CARD_STATUS n) 19 16 0).updSlot n fun x =>
    { x with step := .exchange, clkOff := false, tx := tx, sent := 0, rx := [], tries := 0, resyncs := 0, wtx := 1, part := 0, startAt := s.now }

/-- The command APDU that the slot's registers hold. -/
def State.cardApdu (s : State) (n : Nat) : Bytes := (s.regBytes (R.CARD_TXBUF n 0) 66).take (s.reg (R.CARD_TX_LEN n)).toNat

theorem State.cardCmdSend_eq {who : Sender} (hl : s.cardsLive = true) (hst : s.regField (R.CARD_STATUS n) 6 4 = 3 ∨ s.regField (R.CARD_STATUS n) 6 4 = 5)
    (hlen : 4 ≤ (s.reg (R.CARD_TX_LEN n)).toNat) : s.cardCmdSend who n =
      if s.regBit (R.CARD_PROTO n) 0 then (s.cardCommand n (s.cardApdu n)).sendI n
      else ((s.cardCommand n (s.cardApdu n)).cardSends n (padTo 5 ((s.cardApdu n).take 5))).updSlot n fun x => { x with ns := 0, nr := 0 } := by
  have hproto : (s.cardCommand n (s.cardApdu n)).regBit (R.CARD_PROTO n) 0 = s.regBit (R.CARD_PROTO n) 0 := by
    refine State.regBit_eq_of_reg ?_
    rw [State.cardCommand, State.updSlot, State.setSlot, State.mapCd_reg, State.setRegField, State.reg_setReg_other _ _ (slotReg_ne (by decide)),
      State.setRegField, State.reg_setReg_other _ _ (slotReg_ne (by decide))]
  have hst' : (s.cardStateIs n 3 || s.cardStateIs n 5) = true := by simpa [State.cardStateIs] using hst
  have hno : ¬ (¬ s.cardsLive ∨ ¬ (s.cardStateIs n 3 ∨ s.cardStateIs n 5) ∨ (s.reg (R.CARD_TX_LEN n)).toNat < 4) := by
    rw [Bool.or_eq_true] at hst'
    simp [hl, hst', hlen]
  rw [← hproto]
  exact if_neg hno

theorem State.cardCommand_status {tx : Bytes} : (s.cardCommand n tx).regField (R.CARD_STATUS n) 6 4 = 4 := by
  rw [State.regField, State.cardCommand, State.updSlot, State.setSlot, State.mapCd_reg, State.setRegField, State.reg_setReg_same,
    field_setField_other (.inl (by decide)), State.setRegField, State.reg_setReg_same, field_setField_same (by decide)]
  rfl

theorem State.cardCommand_slots {tx : Bytes} : (s.cardCommand n tx).cd.slots.length = s.cd.slots.length := State.slots_updSlot

/-- A command under way: the slot and its STATUS. -/
structure State.CardCommands (t : State) (n : Fin 2) (tx : Bytes) (now : Nat) : Prop where
  state : t.regField (R.CARD_STATUS n) 6 4 = 4
  step : (t.slot n).step = .exchange
  tx : (t.slot n).tx = tx
  startAt : (t.slot n).startAt = now

theorem State.cardCommand_commands {tx : Bytes} (h : n < s.cd.slots.length) : (s.cardCommand n tx).CardCommands n tx s.now := by
  have hslot : (s.cardCommand n tx).slot n = _ := State.slot_updSlot h
  exact ⟨State.cardCommand_status, by rw [hslot], by rw [hslot], by rw [hslot]⟩

/-- A command stays under way while blocks or characters are sent for it. -/
theorem State.CardCommands.sent {tx b : Bytes} {now : Nat} {f : CardSlot → CardSlot} (hf : ∀ x, (f x).step = x.step ∧ (f x).tx = x.tx ∧ (f x).startAt = x.startAt)
    (hn : n < s.cd.slots.length) (h : s.CardCommands n tx now) : ((s.cardSends n b).updSlot n f).CardCommands n tx now := by
  obtain ⟨out, hout⟩ := State.emit_eq (s := s) (p := .card n) (bs := b)
  have hcd : (s.emit (.card n) b).cd = s.cd := by rw [hout]
  have hslot : ((s.cardSends n b).updSlot n f).slot n = f { s.slot n with last := b } := by
    rw [State.slot_updSlot (by rw [State.cardSends, State.slots_updSlot, hcd]; exact hn), State.cardSends, State.slot_updSlot (by rwa [hcd]),
      State.slot_of_cd hcd]
  obtain ⟨hstep, htx, hat⟩ := hf { s.slot n with last := b }
  refine ⟨?_, ?_, ?_, ?_⟩
  · refine (State.regField_eq_of_reg ?_).trans h.state
    exact (State.mapCd_reg _ _ _).trans State.cardSends_reg
  · rw [hslot, hstep]
    exact h.step
  · rw [hslot, htx]
    exact h.tx
  · rw [hslot, hat]
    exact h.startAt

theorem State.cardCommand_out {tx b : Bytes} {f : CardSlot → CardSlot} :
    (((s.cardCommand n tx).cardSends n b).updSlot n f).out = (⟨.card n, s.beat, b⟩ : Output) :: s.out := by
  have hbeat : (s.cardCommand n tx).beat = s.beat := by
    have hreg {k : Nat} (hk : k < 0x100E00000) : (s.cardCommand n tx).reg k = s.reg k := by
      rw [State.cardCommand, State.updSlot, State.setSlot, State.mapCd_reg, State.setRegField, State.reg_setReg_other _ _ (by simp only [R.CARD_STATUS]; omega),
        State.setRegField, State.reg_setReg_other _ _ (by simp only [R.CARD_STATUS]; omega)]
    rw [State.beat, State.reg64, hreg (by decide), hreg (by decide)]
    rfl
  have hout : ((s.cardCommand n tx).emit (.card n) b).out = (⟨.card n, s.beat, b⟩ : Output) :: s.out := by
    rw [State.emit_of_passes rfl, hbeat]
    rfl
  exact hout

/-! ### Exchanges (R834 to R837) -/

theorem State.t1Error_eq : s.t1Error n =
    if (s.slot n).tries < 3 ∧ (s.slot n).step ≠ .resynch then
      if (s.slot n).step = .ifs then (s.updSlot n fun x => { x with tries := x.tries + 1, wtx := 1 }).cardSends n (s.slot n).last
      else (s.updSlot n fun x => { x with tries := x.tries + 1, wtx := 1 }).emit (.card n)
        ((s.updSlot n fun x => { x with tries := x.tries + 1, wtx := 1 }).t1Block n [0, by8 (0x81 + 16 * (s.slot n).nr), 0])
    else if (s.slot n).resyncs < 3 ∧ (s.slot n).step ≠ .ifs then
      (s.emit (.card n) (s.t1Block n [0, 0xC0, 0])).updSlot n fun x => { x with resyncs := x.resyncs + 1, step := .resynch, wtx := 1 }
    else s.cardError n 4 := rfl

theorem State.t1Error_retries (hn : n < s.cd.slots.length) (hs : (s.slot n).step = .exchange) (h : (s.slot n).tries < 3) :
    ((s.t1Error n).slot n).tries = (s.slot n).tries + 1 ∧ (s.t1Error n).regField (R.CARD_STATUS n) 6 4 = s.regField (R.CARD_STATUS n) 6 4 := by
  rw [State.t1Error_eq, if_pos ⟨h, by rw [hs]; decide⟩, if_neg (by rw [hs]; decide)]
  obtain ⟨out, hout⟩ := State.emit_eq (s := s.updSlot n fun x => { x with tries := x.tries + 1, wtx := 1 }) (p := .card n)
    (bs := (s.updSlot n fun x => { x with tries := x.tries + 1, wtx := 1 }).t1Block n [0, by8 (0x81 + 16 * (s.slot n).nr), 0])
  refine ⟨?_, State.regField_eq_of_reg (State.emit_reg.trans (State.mapCd_reg _ _ _))⟩
  rw [hout]
  exact congrArg CardSlot.tries (State.slot_updSlot (f := fun x => { x with tries := x.tries + 1, wtx := 1 }) hn)

theorem State.t1Error_resynchs (hn : n < s.cd.slots.length) (hs : (s.slot n).step = .exchange) (h : 3 ≤ (s.slot n).tries) (hr : (s.slot n).resyncs < 3) :
    ((s.t1Error n).slot n).step = .resynch ∧ ((s.t1Error n).slot n).resyncs = (s.slot n).resyncs + 1 := by
  rw [State.t1Error_eq, if_neg (by omega), if_pos ⟨hr, by rw [hs]; decide⟩]
  obtain ⟨out, hout⟩ := State.emit_eq (s := s) (p := .card n) (bs := s.t1Block n [0, 0xC0, 0])
  rw [hout]
  have hslot := State.slot_updSlot (s := { s with out }) (f := fun x => { x with resyncs := x.resyncs + 1, step := .resynch, wtx := 1 }) hn
  exact ⟨congrArg CardSlot.step hslot, congrArg CardSlot.resyncs hslot⟩

theorem State.t1Error_ends (h : 3 ≤ (s.slot n).tries) (hr : 3 ≤ (s.slot n).resyncs) : s.t1Error n = s.cardError n 4 := by
  rw [State.t1Error_eq, if_neg (by omega), if_neg (by omega)]

section
variable (hl : s.cardsLive = true) (hs : (s.slot n).step = .exchange)
include hl hs

theorem exec_cardBlockReceived_bad (ht : s.regBit (R.CARD_PROTO n) 0 = true) : exec (.cardBlockReceived n [] false) s = .next (s.t1Error n) :=
  congrArg Host.Outcome.next ((if_neg (by simp [hl, hs])).trans (if_pos ht))

theorem exec_cardWaitTimeout : exec (.cardWaitTimeout n) s = .next (if s.regBit (R.CARD_PROTO n) 0 then s.t1Error n else s.cardError n 4) :=
  congrArg Host.Outcome.next (if_neg (by simp [hl, hs]))

theorem exec_cardBlockReceived_t0 {b : Bytes} (ht : s.regBit (R.CARD_PROTO n) 0 = false) : exec (.cardBlockReceived n b true) s =
    .next ((b.foldl (fun s b => s.t0Char n b) s).updSlot n fun x => { x with tries := 0 }) :=
  congrArg Host.Outcome.next ((if_neg (by simp [hl, hs])).trans ((if_neg (by simp [ht])).trans (if_pos rfl)))

end

theorem State.t0Char_sw1 (hs : (s.slot n).step = .exchange) (hp : (s.slot n).part = 0) (hz : (s.slot n).ns = 0) :
    s.t0Char n 0x90 = s.setSlot n { s.slot n with ns := 0x90 } := by
  unfold State.t0Char
  rw [if_neg (by simp [hs])]
  extract_lets v ins out p3 want command
  rw [if_neg (by omega), if_neg (by simp [hz]), if_neg (by decide), if_pos (by decide)]
  rfl

theorem State.t0Char_sw2 (hs : (s.slot n).step = .exchange) (hp : (s.slot n).part = 0) (hz : (s.slot n).ns = 0x90) :
    s.t0Char n 0x00 = s.cardDone n (s.slot n).rx 0x9000 := by
  unfold State.t0Char
  rw [if_neg (by simp [hs])]
  extract_lets v ins out p3 want command
  rw [if_neg (by omega), if_pos (by simp [hz]), if_neg (by simp [hz]), if_neg (by simp [hz]), hz]
  rfl

/-- SW1, then SW2, end a command under T=0. -/
theorem State.t0Char_sw (hn : n < s.cd.slots.length) (hs : (s.slot n).step = .exchange) (hp : (s.slot n).part = 0) (hz : (s.slot n).ns = 0) :
    ([0x90, 0x00] : Bytes).foldl (fun s b => s.t0Char n b) s = (s.setSlot n { s.slot n with ns := 0x90 }).cardDone n (s.slot n).rx 0x9000 := by
  have hslot : (s.setSlot n { s.slot n with ns := 0x90 }).slot n = { s.slot n with ns := 0x90 } := State.slot_updSlot (f := fun x => { x with ns := 0x90 }) hn
  have hrx : ((s.setSlot n { s.slot n with ns := 0x90 }).slot n).rx = (s.slot n).rx := by rw [hslot]
  rw [List.foldl_cons, List.foldl_cons, List.foldl_nil, State.t0Char_sw1 hs hp hz,
    State.t0Char_sw2 ((congrArg CardSlot.step hslot).trans hs) ((congrArg CardSlot.part hslot).trans hp) (congrArg CardSlot.ns hslot), hrx]

theorem State.cardDone_facts {data : Bytes} {sw : Nat} : (s.cardDone n data sw).regField (R.CARD_STATUS n) 6 4 = 3 ∧
    (s.cardDone n data sw).reg (R.CARD_SW n) = w32 sw ∧ (s.cardDone n data sw).reg (R.CARD_RX_LEN n) = w32 data.length ∧
    (s.cardDone n data sw).regBit (R.CARD_EVT_STATUS n) 3 = true := by
  unfold State.cardDone
  extract_lets v
  have hsw : v.reg (R.CARD_SW n) = w32 sw := State.reg_setReg_same _ _ _
  have hlen : v.reg (R.CARD_RX_LEN n) = w32 data.length := (State.reg_setReg_other _ _ (slotReg_ne (by decide))).trans (State.reg_setReg_same _ _ _)
  have hkept {j : Nat} (hj : j ≠ R.CARD_STATUS n) (hv : j ≠ R.CARD_EVT_STATUS n) (hk : 0x100E00000 ≤ j) :
      (((v.setRegField (R.CARD_STATUS n) 6 4 3).updSlot n fun x => { x with step := .idle, tries := 0, resyncs := 0, wtx := 1 }).cardEvent n 3).reg j = v.reg j := by
    rw [State.cardEvent_reg hv hk, State.updSlot, State.setSlot, State.mapCd_reg, State.setRegField, State.reg_setReg_other _ _ hj]
  refine ⟨?_, (hkept (slotReg_ne (by decide)) (slotReg_ne (by decide)) (slotReg_high (by decide))).trans hsw,
    (hkept (slotReg_ne (by decide)) (slotReg_ne (by decide)) (slotReg_high (by decide))).trans hlen, State.cardEvent_noted (by decide)⟩
  rw [State.regField, State.cardEvent_reg (slotReg_ne (by decide)) (slotReg_high (by decide)), State.updSlot, State.setSlot, State.mapCd_reg,
    State.setRegField, State.reg_setReg_same, field_setField_same (by decide)]
  rfl

end Sys2Proof.Machine

/-! ### What the steps show -/

namespace Sys2Proof.Machine

/-- A command that completes as `P` says completes as what follows from `P`. -/
theorem Completes.imp {c : Instr} {s : State} {P Q : State → Prop} (h : Completes c s P) (hPQ : ∀ t, P t → Q t) : Completes c s Q := by
  obtain ⟨t, hx, ht⟩ := h
  exact ⟨t, hx, hPQ t ht⟩

variable {s t : State} {n : Fin 2}

theorem State.cardPresent_of_reg (h : t.reg (R.CARD_STATUS n) = s.reg (R.CARD_STATUS n)) : t.cardPresent n = s.cardPresent n := State.regBit_eq_of_reg h

/-- A card that has come is present, noted, and will be activated in the first class that is allowed. -/
theorem State.cardArrived_facts : (s.cardArrived n).regBit (R.CARD_STATUS n) 1 = true ∧ (s.cardArrived n).regBit (R.CARD_EVT_STATUS n) 0 = true ∧
    (s.cardArrived n).cd.slots.length = s.cd.slots.length := by
  refine ⟨?_, State.cardEvent_noted (by decide), ?_⟩
  · rw [State.cardArrived, State.regBit_eq_of_reg (State.cardEvent_reg (slotReg_ne (by decide)) (slotReg_high (by decide))),
      State.updSlot, State.setSlot, State.regBit_eq_of_reg (State.mapCd_reg _ _ _), State.regBit_setRegBit (by decide), if_pos rfl]
  · rw [State.cardArrived, State.cardEvent_cd]
    exact State.slots_updSlot

theorem State.firstClass_arrived : ((s.setRegBit (R.CARD_STATUS n) 1 true).updSlot n fun x => { x with inserted := s.now }).firstClass n =
    if s.regBit (R.CARD_CTRL n) 2 then 0 else 1 := by
  have hreg : ((s.setRegBit (R.CARD_STATUS n) 1 true).updSlot n fun x => { x with inserted := s.now }).reg (R.CARD_CTRL n) = s.reg (R.CARD_CTRL n) :=
    (State.mapCd_reg _ _ _).trans (State.reg_setReg_other _ _ (slotReg_ne (by decide)))
  rw [State.firstClass, State.regBit_eq_of_reg hreg]

/-- Parameters that were agreed stand in PROTO, and under T=0 the card is ready. -/
theorem State.cardParams_settled {p div : Nat} (hp : p < 256) :
    let t := (s.cardParams n (p / 16) (p % 16) div).cardSettled n
    t.regField (R.CARD_PROTO n) 7 4 = p / 16 ∧ t.regField (R.CARD_PROTO n) 11 8 = p % 16 ∧
      (s.regBit (R.CARD_PROTO n) 0 = false → t.regField (R.CARD_STATUS n) 6 4 = 3 ∧ t.regBit (R.CARD_EVT_STATUS n) 2 = true) := by
  have hword : (s.cardParams n (p / 16) (p % 16) div).reg (R.CARD_PROTO n) =
      setField (setField (setField (s.reg (R.CARD_PROTO n)) 7 4 (p / 16)) 11 8 (p % 16)) 23 16 div := by
    rw [State.cardParams, State.setRegField, State.reg_setReg_same, State.setRegField, State.reg_setReg_same, State.setRegField, State.reg_setReg_same]
  have hproto : ((s.cardParams n (p / 16) (p % 16) div).cardSettled n).reg (R.CARD_PROTO n) = (s.cardParams n (p / 16) (p % 16) div).reg (R.CARD_PROTO n) := by
    unfold State.cardSettled
    split
    · exact (State.mapCd_reg _ _ _).trans State.cardSends_reg
    · exact State.cardReady_reg (slotReg_high (by decide)) (slotReg_ne (by decide)) (slotReg_ne (by decide))
  dsimp only
  refine ⟨?_, ?_, fun ht => ?_⟩
  · rw [State.regField, hproto, hword, field_setField_other (.inl (by decide)), field_setField_other (.inl (by decide)), field_setField_same (by decide)]
    omega
  · rw [State.regField, hproto, hword, field_setField_other (.inl (by decide)), field_setField_same (by decide)]
    omega
  · have hzero : (s.cardParams n (p / 16) (p % 16) div).regBit (R.CARD_PROTO n) 0 = false := by
      rw [State.regBit, hword, bit_setField_other (.inl (by decide)), bit_setField_other (.inl (by decide)), bit_setField_other (.inl (by decide))]
      exact ht
    rw [State.cardSettled, if_neg (by rw [hzero]; exact Bool.false_ne_true)]
    refine ⟨?_, State.cardEvent_noted (by decide)⟩
    rw [State.regField, State.cardReady_status, field_setField_same (by decide)]
    rfl

/-- What the removal of a card shows. -/
theorem exec_cardRemoved_facts (hl : s.cardsLive = true) (hp : s.cardPresent n = true) : Completes (.cardRemoved n) s fun t =>
    t.cardPresent n = false ∧ t.regBit (R.CARD_STATUS n) 0 = false ∧ t.regField (R.CARD_STATUS n) 6 4 = 0 ∧
    t.reg (R.CARD_REMOVALS n) = satInc (s.reg (R.CARD_REMOVALS n)) ∧ t.regBit (R.CARD_EVT_STATUS n) 1 = true ∧
    (s.regField (R.CARD_STATUS n) 6 4 = 4 → t.regField (R.CARD_STATUS n) 19 16 = 7) := by
  refine ⟨_, exec_cardRemoved hl hp, ?_⟩
  have hbusy : s.regField (R.CARD_STATUS n) 6 4 = 4 → (if s.cardStateIs n 4 then s.cardError n 7 else s) = s.cardError n 7 := fun h =>
    if_pos (by rw [State.cardStateIs, h]; rfl)
  have hrem : (if s.cardStateIs n 4 then s.cardError n 7 else s).reg (R.CARD_REMOVALS n) = s.reg (R.CARD_REMOVALS n) := by
    split
    · exact State.cardError_reg (slotReg_high (by decide)) (slotReg_ne (by decide)) (slotReg_ne (by decide)) (slotReg_ne (by decide))
    · rfl
  generalize (if s.cardStateIs n 4 then s.cardError n 7 else s) = u at hbusy hrem
  have hword : ((((u.cardOff n 0).setRegBit (R.CARD_STATUS n) 1 false).bump (R.CARD_REMOVALS n)).cardEvent n 1).reg (R.CARD_STATUS n) =
      setBit (offWord (u.reg (R.CARD_STATUS n)) 0) 1 false := by
    rw [State.cardEvent_reg (slotReg_ne (by decide)) (slotReg_high (by decide)), State.bump, State.reg_setReg_other _ _ (slotReg_ne (by decide)),
      State.setRegBit, State.reg_setReg_same, State.cardOff_status]
  refine ⟨?_, ?_, ?_, ?_, State.cardEvent_noted (by decide), fun h => ?_⟩
  · rw [State.cardPresent, State.regBit, hword, bit_setBit (by decide), if_pos rfl]
  · rw [State.regBit, hword, bit_setBit (by decide), if_neg (by decide), bit_offWord (.inl (by decide)), if_pos rfl]
  · rw [State.regField, hword, field_setBit (.inl (by decide)), field_offWord_state]
  · rw [State.cardEvent_reg (slotReg_ne (by decide)) (slotReg_high (by decide)), State.bump, State.reg_setReg_same, State.setRegBit,
      State.reg_setReg_other _ _ (slotReg_ne (by decide)), State.cardOff_reg (slotReg_ne (by decide)), hrem]
  · rw [State.regField, hword, field_setBit (.inl (by decide)), field_offWord (by decide), hbusy h]
    exact (State.cardError_failed (by decide)).err

end Sys2Proof.Machine

namespace Sys2Proof

open Machine

section
variable {s : State} {n : Fin 2} (hl : s.cardsLive = true) (hn : n < s.cd.slots.length)
include hl

/-- A malformed answer: a warm reset the first time, an end the second time. -/
theorem atrBad_facts (hs : (s.slot n).step = .atr) {atr : Bytes} {timely : Bool} (h : timely = false ∨ atrParse atr = none) (hn : n < s.cd.slots.length) :
    ((s.slot n).noPps = true → Completes (.cardAtrReceived n atr timely) s fun t => t.CardFailed n 5 (s.reg (R.CARD_ERRORS n))) ∧
    ((s.slot n).noPps = false → (s.slot n).warm = true →
      Completes (.cardAtrReceived n atr timely) s fun t => t.CardFailed n 2 (s.reg (R.CARD_ERRORS n))) ∧
    ((s.slot n).noPps = false → (s.slot n).warm = false →
      Completes (.cardAtrReceived n atr timely) s fun t => (t.slot n).warm = true ∧ s.onlyRegs t []) := by
  refine ⟨fun hp => ⟨_, exec_cardAtrReceived_bad hl hs h, ?_⟩, fun hp hw => ⟨_, exec_cardAtrReceived_bad hl hs h, ?_⟩,
    fun hp hw => ⟨_, exec_cardAtrReceived_bad hl hs h, ?_⟩⟩
  · rw [State.atrBad, if_pos hp]
    exact State.cardError_failed (by decide)
  · rw [State.atrBad, if_neg (by simp [hp]), if_pos hw]
    exact State.cardError_failed (by decide)
  · rw [State.atrBad, if_neg (by simp [hp]), if_neg (by simp [hw])]
    refine ⟨?_, rfl, rfl, fun _ _ => State.mapCd_reg _ _ _⟩
    rw [State.slot_updSlot hn]

/-- No answer, or one that stops short. -/
theorem atrTimeout_facts (hs : (s.slot n).step = .atr) (hn : n < s.cd.slots.length) (hp : (s.slot n).noPps = false) :
    ((s.slot n).cls = 0 → s.regBit (R.CARD_CTRL n) 3 = true → Completes (.cardAtrTimeout n false) s fun t => s.CardAgain t n 1 false) ∧
    (((s.slot n).cls ≠ 0 ∨ s.regBit (R.CARD_CTRL n) 3 = false) →
      Completes (.cardAtrTimeout n false) s fun t => t.CardFailed n 1 (s.reg (R.CARD_ERRORS n))) ∧
    ((s.slot n).warm = true → Completes (.cardAtrTimeout n true) s fun t => t.CardFailed n 2 (s.reg (R.CARD_ERRORS n))) := by
  refine ⟨fun hc hb => ⟨_, exec_cardAtrTimeout hl hs, ?_⟩, fun hc => ⟨_, exec_cardAtrTimeout hl hs, ?_⟩, fun hw => ⟨_, exec_cardAtrTimeout hl hs, ?_⟩⟩
  · rw [if_neg (by decide), if_neg (by simp [hp]), if_pos ⟨hc, hb⟩]
    exact State.cardAgain_again hn
  · have hno : ¬ ((s.slot n).cls = 0 ∧ s.regBit (R.CARD_CTRL n) 3 = true) := by
      rintro ⟨hz, hb⟩
      simp [hz, hb] at hc
    rw [if_neg (by decide), if_neg (by simp [hp]), if_neg hno]
    exact State.cardError_failed (by decide)
  · rw [if_pos rfl, State.atrBad, if_neg (by simp [hp]), if_pos hw]
    exact State.cardError_failed (by decide)

include hn

/-- The command of CARD_TXBUF. -/
theorem cardSend_facts {who : Sender} (h : s.wardenAt who .store (R.CARD_CMD n))
    (hst : s.regField (R.CARD_STATUS n) 6 4 = 3 ∨ s.regField (R.CARD_STATUS n) 6 4 = 5) (hlen : 4 ≤ (s.reg (R.CARD_TX_LEN n)).toNat) :
    Completes (.cardSend who n) s fun t => t.CardCommands n (s.cardApdu n) s.now ∧
      (s.regBit (R.CARD_PROTO n) 0 = false → t.out = (⟨.card n, s.beat, padTo 5 ((s.cardApdu n).take 5)⟩ : Output) :: s.out) := by
  have hcmd := State.cardCommand_commands (tx := s.cardApdu n) hn
  have hslots : n < (s.cardCommand n (s.cardApdu n)).cd.slots.length := by rwa [State.cardCommand_slots]
  refine ⟨_, exec_cardSend h, ?_⟩
  rw [State.cardCmdSend_eq hl hst hlen]
  split
  next ht =>
    unfold State.sendI
    exact ⟨hcmd.sent (fun _ => ⟨rfl, rfl, rfl⟩) hslots, fun hf => absurd (ht.symm.trans hf) (by decide)⟩
  · exact ⟨hcmd.sent (fun _ => ⟨rfl, rfl, rfl⟩) hslots, fun _ => State.cardCommand_out⟩

/-- Errors under T=1. -/
theorem t1Error_facts (hs : (s.slot n).step = .exchange) (ht : s.regBit (R.CARD_PROTO n) 0 = true) :
    ∀ p ∈ [Instr.cardBlockReceived n [] false, .cardWaitTimeout n],
      ((s.slot n).tries < 3 → Completes p s fun t =>
        (t.slot n).tries = (s.slot n).tries + 1 ∧ t.regField (R.CARD_STATUS n) 6 4 = s.regField (R.CARD_STATUS n) 6 4) ∧
      (3 ≤ (s.slot n).tries → (s.slot n).resyncs < 3 → Completes p s fun t =>
        (t.slot n).step = .resynch ∧ (t.slot n).resyncs = (s.slot n).resyncs + 1) ∧
      (3 ≤ (s.slot n).tries → 3 ≤ (s.slot n).resyncs → Completes p s fun t => t.CardFailed n 4 (s.reg (R.CARD_ERRORS n))) := by
  intro p hp
  have hx : exec p s = .next (s.t1Error n) := by
    simp only [List.mem_cons, List.not_mem_nil, or_false] at hp
    obtain rfl | rfl := hp
    · exact exec_cardBlockReceived_bad hl hs ht
    · rw [exec_cardWaitTimeout hl hs, if_pos ht]
  refine ⟨fun h => ⟨_, hx, State.t1Error_retries hn hs h⟩, fun h hr => ⟨_, hx, State.t1Error_resynchs hn hs h hr⟩, fun h hr => ⟨_, hx, ?_⟩⟩
  rw [State.t1Error_ends h hr]
  exact State.cardError_failed (by decide)

end

/-- What a failure shows, in the obligation's words. -/
theorem Machine.State.CardFailed.shown {t : State} {n : Fin 2} {e : Nat} {c : Word} (h : t.CardFailed n e c) :
    t.regField (R.CARD_STATUS n) 6 4 = 6 ∧ t.regBit (R.CARD_STATUS n) 0 = false ∧ t.regField (R.CARD_STATUS n) 19 16 = e ∧
    t.reg (R.CARD_ERRORS n) = satInc c ∧ t.regBit (R.CARD_EVT_STATUS n) 4 = true := ⟨h.state, h.power, h.err, h.errors, h.noted⟩

/-- Settles O59: a contact slot's steps. -/
theorem contactSlots : Obligations.ContactSlots := by
  intro s n who hl hlen
  have hn : n < s.cd.slots.length := by omega
  have hfail {t : State} {e : Nat} (h : t.CardFailed n e (s.reg (R.CARD_ERRORS n))) := h.shown
  refine ⟨fun hc hp => ⟨_, exec_cardInserted hl hc hp, ?_⟩,
    fun hs => ⟨fun atr timely h => ?_, fun atr gs h => ⟨⟨_, exec_cardAtrReceived_good hl hs h, State.atrGood_shown h⟩,
      fun h₁₅ hp h₁ h₂ => ⟨_, exec_cardAtrReceived_good hl hs h, State.atrGood_default h₁₅ hp h₁ h₂⟩⟩,
      fun hp hc hb => ((atrTimeout_facts hl hs hn hp).1 hc hb).imp fun t h => ⟨h.power, h.retry, h.next, h.noPps⟩,
      fun hp hc => ((atrTimeout_facts hl hs hn hp).2.1 hc).imp fun t => hfail,
      fun hp hw => ((atrTimeout_facts hl hs hn hp).2.2 hw).imp fun t => hfail⟩,
    fun r hr hp => ⟨_, exec_cardRetryDelayEnd hl hr hp, ?_⟩,
    fun hs => ⟨fun e he => ⟨_, exec_cardPpsResponse hl hs, ?_⟩, fun e he => ⟨_, exec_cardPpsResponse hl hs, ?_⟩, _, exec_cardPpsTimeout hl hs, ?_⟩,
    fun h => ⟨fun hp ho => ⟨_, exec_cardActivate h hl hp ho, ?_⟩, ⟨_, exec_cardDeactivate h, ?_⟩, fun hst htx =>
      (cardSend_facts hl hn h hst htx).imp fun t ht => ⟨ht.1.state, ht.1.step, ht.1.tx, ht.1.startAt, ht.2⟩, fun hst => ⟨_, exec_cardSend h, ?_⟩⟩,
    fun hs ht hp hz _ => ⟨_, exec_cardBlockReceived_t0 hl hs ht, ?_⟩,
    fun hs ht p hp => ⟨(t1Error_facts hl hn hs ht p hp).1, (t1Error_facts hl hn hs ht p hp).2.1,
      fun h hr => ((t1Error_facts hl hn hs ht p hp).2.2 h hr).imp fun t => hfail⟩,
    fun hs ht => ⟨_, exec_cardWaitTimeout hl hs, ?_⟩, fun hst => ⟨_, exec_cardExchangeTimeout hl hst, ?_, State.cardError_now⟩,
    fun hst hc hk => ⟨_, exec_cardClockStop hl hst hc hk, ?_⟩, fun hp => exec_cardRemoved_facts hl hp⟩
  · obtain ⟨hpres, hnote, hslots⟩ := State.cardArrived_facts (s := s) (n := n)
    rw [State.firstClass_arrived]
    have hact := State.cardActivate_activates (s := s.cardArrived n) (n := n) (c := if s.regBit (R.CARD_CTRL n) 2 then 0 else 1) (np := false)
      (by rwa [hslots])
    refine ⟨?_, ?_, hact.state, hact.power, hact.step, hact.cls⟩
    · rw [State.cardPresent, State.regBit, State.cardActivate_status, onWord, bit_setField_other (.inl (by decide)),
        bit_setField_other (.inl (by decide)), bit_setBit (by decide), if_neg (by decide)]
      exact hpres
    · exact (State.regBit_eq_of_reg (State.cardActivate_reg (slotReg_ne (by decide)) (slotReg_ne (by decide)) (slotReg_ne (by decide)))).trans hnote
  · obtain ⟨h₁, h₂, h₃⟩ := atrBad_facts hl hs h hn
    exact ⟨fun hp => (h₁ hp).imp fun t => hfail, fun hp hw => (h₂ hp hw).imp fun t => hfail, h₃⟩
  · have hact := State.cardActivate_activates (s := { s with now := max s.now r }) (c := (s.slot n).next) (np := (s.slot n).noPps) hn
    exact ⟨rfl, hact.state, hact.power, hact.step, hact.cls⟩
  · rw [if_pos he]
    exact State.cardParams_settled (BitVec.isLt _)
  · have hag := State.cardAgain_again (c := (s.slot n).cls) (np := true) hn
    rw [if_neg he]
    exact ⟨hag.power, hag.retry, hag.next, hag.noPps⟩
  · have hag := State.cardAgain_again (c := (s.slot n).cls) (np := true) hn
    exact ⟨hag.power, hag.retry, hag.next, hag.noPps⟩
  · have hact := State.cardActivate_activates (s := s) (c := s.firstClass n) (np := false) hn
    exact ⟨hact.state, hact.power, hact.step, hact.cls⟩
  · exact ⟨State.cardOff_state, State.cardOff_power⟩
  · have hst' : s.cardStateIs n 3 = false ∧ s.cardStateIs n 5 = false := by simpa [State.cardStateIs] using hst
    have herr : s.cardCmdSend who n = s.errAt errIgnored who .store (R.CARD_CMD n) := if_pos (.inr (.inl (by simp [hst'])))
    have hrep := State.errAt_reportsOnly (s := s) (code := errIgnored) (a := R.CARD_CMD n) (who := who) (kind := .store)
    obtain ⟨_, _, _, hrest⟩ := hrep.rest
    have hsrc : ∀ n : Fin 2, errSource (R.CARD_CMD n) = 0x14 := by decide
    rw [herr]
    refine ⟨State.regField_eq_of_reg (hrep.reg _ (.inr ?_) (not_eventReg_of_errc (slotReg_high (by decide)))), by rw [hrest],
      State.errAt_code (by decide) (hsrc n)⟩
    exact le_trans (by decide) (Nat.le_add_right _ _)
  · rw [State.t0Char_sw hn hs hp hz]
    obtain ⟨hst, hsw, hrx, hnote⟩ := State.cardDone_facts (s := s.setSlot n { s.slot n with ns := 0x90 }) (n := n) (data := (s.slot n).rx) (sw := 0x9000)
    have hreg {k : Nat} : ((((s.setSlot n { s.slot n with ns := 0x90 }).cardDone n (s.slot n).rx 0x9000).updSlot n fun x => { x with tries := 0 })).reg k =
        ((s.setSlot n { s.slot n with ns := 0x90 }).cardDone n (s.slot n).rx 0x9000).reg k := State.mapCd_reg _ _ _
    exact ⟨(State.regField_eq_of_reg hreg).trans hst, hreg.trans hsw, hreg.trans hrx, (State.regBit_eq_of_reg hreg).trans hnote⟩
  · rw [if_neg (by simp [ht])]
    exact hfail (State.cardError_failed (by decide))
  · exact hfail (State.cardError_failed (by decide))
  · refine ⟨?_, ?_⟩
    · exact (State.regField_eq_of_reg (State.mapCd_reg _ _ _)).trans (State.regField_setRegField (by decide))
    · rw [State.slot_updSlot (s := s.setRegField (R.CARD_STATUS n) 6 4 5) hn]

end Sys2Proof

/-! SUPPORT. The contactless reader: pings and polls, its exchanges, errors and list (R841 to R850). -/

namespace Sys2Proof.Machine

variable {s t u : State}

/-! ### STATUS, events and frames -/

theorem State.clessEvent_eventsOnly {i : Nat} : (s.setRegBit R.CLESS_EVT_STATUS i true).EventsOnly (s.clessEvent i) :=
  .ite (State.raise_eventsOnly (by decide) (by decide)) .refl

section
variable {i k : Nat}

theorem State.clessEvent_cd : (s.clessEvent i).cd = s.cd := State.clessEvent_eventsOnly.cd

theorem State.clessEvent_now : (s.clessEvent i).now = s.now := State.clessEvent_eventsOnly.now

theorem State.clessEvent_reg (h : k ≠ R.CLESS_EVT_STATUS) (hk : 0x100E00000 ≤ k) : (s.clessEvent i).reg k = s.reg k :=
  (State.clessEvent_eventsOnly.reg k (not_eventReg_of_errc hk)).trans (State.reg_setReg_other _ _ h)

theorem State.clessEvent_noted (hi : i < 32) : (s.clessEvent i).regBit R.CLESS_EVT_STATUS i = true := by
  rw [State.regBit_eq_of_reg (State.clessEvent_eventsOnly.reg _ (not_eventReg_of_errc (by decide))), State.regBit_setRegBit hi, if_pos rfl]

theorem State.clessShow_status : (s.clessShow i).reg R.CLESS_STATUS = setField (setField (s.reg R.CLESS_STATUS) 6 4 i) 29 24 s.cd.cless.list.length := by
  rw [State.clessShow, State.setRegField, State.reg_setReg_same, State.setRegField, State.reg_setReg_same]

theorem State.clessShow_reg (h : k ≠ R.CLESS_STATUS) : (s.clessShow i).reg k = s.reg k :=
  (State.reg_setReg_other _ _ h).trans (State.reg_setReg_other _ _ h)

/-- STATE of what is shown; the other fields of STATUS stay, beside the list's length. -/
theorem State.clessShow_state : (s.clessShow i).regField R.CLESS_STATUS 6 4 = i % 8 := by
  rw [State.regField, State.clessShow_status, field_setField_other (.inl (by decide)), field_setField_same (by decide)]
  rfl

theorem State.clessShow_field {hi lo : Nat} (h : hi < 4 ∨ 6 < lo) (h' : hi < 24 ∨ 29 < lo) :
    (s.clessShow i).regField R.CLESS_STATUS hi lo = s.regField R.CLESS_STATUS hi lo := by
  rw [State.regField, State.clessShow_status, field_setField_other h', field_setField_other h]
  rfl

theorem State.clessShow_bit {j : Nat} (h : j < 4 ∨ 6 < j) (h' : j < 24 ∨ 29 < j) :
    (s.clessShow i).regBit R.CLESS_STATUS j = s.regBit R.CLESS_STATUS j := by
  rw [State.regBit, State.clessShow_status, bit_setField_other h', bit_setField_other h]
  rfl

theorem State.clessShow_cd : (s.clessShow i).cd = s.cd := rfl

end

theorem State.updCless_reg {f : ClessState → ClessState} {k : Nat} : (s.updCless f).reg k = s.reg k := State.mapCd_reg _ _ _

theorem State.clessSends_eq {b : Bytes} : ∃ out, s.clessSends b = ({ s with out } : State).updCless fun c => { c with last := b } := by
  obtain ⟨out, h⟩ := State.emit_eq (s := s) (p := .antenna) (bs := b ++ leBytes 2 (crc16 0x6363 b))
  exact ⟨out, by rw [State.clessSends, h]⟩

theorem State.clessSends_reg {b : Bytes} {k : Nat} : (s.clessSends b).reg k = s.reg k := State.updCless_reg.trans State.emit_reg

theorem State.clessSends_cless {b : Bytes} : (s.clessSends b).cd.cless = { s.cd.cless with last := b } := by
  obtain ⟨_, h⟩ := State.clessSends_eq (s := s) (b := b)
  rw [h]
  rfl

theorem State.clessSends_now {b : Bytes} : (s.clessSends b).now = s.now := by
  obtain ⟨_, h⟩ := State.clessSends_eq (s := s) (b := b)
  rw [h]
  rfl

/-! ### Pings and polls (R841 to R847) -/

theorem State.fieldOff_reg {i k : Nat} (h : k ≠ R.CLESS_STATUS) : (s.fieldOff i).reg k = s.reg k :=
  (State.clessShow_reg h).trans (State.updCless_reg.trans (State.reg_setReg_other _ _ h))

theorem State.fieldOff_state {i : Nat} : (s.fieldOff i).regField R.CLESS_STATUS 6 4 = i % 8 := State.clessShow_state

section
variable (hl : s.cardsLive = true)
include hl

section
variable (hc : s.regBit R.CLESS_CTRL 0 = true) (hs : s.cd.cless.step = .idle) {amp : Nat} {cards : List (Bytes × Nat)}
include hc hs

/-- The mean of the pings so far. -/
def State.pingBase (s : State) (amp : Nat) : Nat := if s.cd.cless.pings = [] then amp else s.cd.cless.pings.sum / s.cd.cless.pings.length

theorem exec_clessPing : exec (.clessPing amp cards) s = .next (
    if s.regBit R.RESET_STATUS 3 then (s.fieldOff 0).setRegField R.CLESS_STATUS 19 16 8
    else if s.regBit R.CLESS_STATUS 0 then s.poll cards
    else if (s.reg R.CLESS_DETUNE).toNat * s.pingBase amp < 100 * (max amp (s.pingBase amp) - min amp (s.pingBase amp)) then s.poll cards
    else (s.updCless fun c => { c with pings := (amp :: c.pings).take 16 }).clessShow 1) :=
  congrArg Host.Outcome.next (if_neg (by simp [hl, hc, hs]))

end

end

/-- A poll under way. -/
def State.polling (s : State) : State :=
  (((s.bump R.CLESS_POLLS).setRegBit R.CLESS_STATUS 0 true).clessShow 2).emit .antenna [if s.regBit R.CLESS_STATUS 0 then 0x26 else 0x52]

theorem State.poll_eq {cards : List (Bytes × Nat)} : s.poll cards =
    if cards = [] then
      if 3 ≤ s.polling.cd.cless.empty + 1 then s.polling.fieldOff 1
      else (s.polling.updCless fun c => { c with empty := s.polling.cd.cless.empty + 1 }).clessShow 2
    else (s.polling.updCless fun c => { c with empty := 0, queue := (pollOrder cards).take 8 }).nextCard 16 := rfl

theorem State.polling_polls : s.polling.reg R.CLESS_POLLS = satInc (s.reg R.CLESS_POLLS) := by
  rw [State.polling, State.emit_reg, State.clessShow_reg (by decide), State.setRegBit, State.reg_setReg_other _ _ (by decide), State.bump,
    State.reg_setReg_same]

theorem State.polling_reg {k : Nat} (h : k ≠ R.CLESS_POLLS) (h' : k ≠ R.CLESS_STATUS) : s.polling.reg k = s.reg k := by
  rw [State.polling, State.emit_reg, State.clessShow_reg h', State.setRegBit, State.reg_setReg_other _ _ h', State.bump, State.reg_setReg_other _ _ h]

theorem State.clessShow_rest {i : Nat} : ∃ regs, s.clessShow i = { s with regs } := ⟨_, rfl⟩

theorem State.polling_rest : ∃ regs out, s.polling = { s with regs, out } := by
  obtain ⟨_, h⟩ := State.emit_eq (s := ((s.bump R.CLESS_POLLS).setRegBit R.CLESS_STATUS 0 true).clessShow 2) (p := .antenna)
    (bs := [if s.regBit R.CLESS_STATUS 0 then 0x26 else 0x52])
  obtain ⟨_, h'⟩ := State.clessShow_rest (s := (s.bump R.CLESS_POLLS).setRegBit R.CLESS_STATUS 0 true) (i := 2)
  rw [State.polling, h, h']
  exact ⟨_, _, rfl⟩

/-- A poll that nothing answers is counted. -/
theorem State.poll_empty : (s.poll []).reg R.CLESS_POLLS = satInc (s.reg R.CLESS_POLLS) := by
  rw [State.poll_eq, if_pos rfl]
  split
  · rw [State.fieldOff_reg (by decide), State.polling_polls]
  · rw [State.clessShow_reg (by decide), State.updCless_reg, State.polling_polls]

/-- The card taken in hand with RATS. -/
def State.cardTaken (s : State) (uid : Bytes) : State :=
  (((s.setRegs [(R.CLESS_UID_LO, leAt uid 0 4), (R.CLESS_UID_HI, leAt uid 4 3 + uid.length * 2 ^ 24)]).updCless fun c =>
    { c with step := .ats, uid := uid, seenAt := s.now, known := s.cd.cless.list.any (fun e => e.1 == uid), tries := 0, wtx := 1, blk := 0 }).clessEvent
      0).clessSends [0xE0, 0x80]

theorem State.nextCard_taken {f sak : Nat} {uid : Bytes} {q : List (Bytes × Nat)} (hq : s.cd.cless.queue = (uid, sak) :: q) (hl : s.listed uid = false)
    (hs : nbit sak 5 = true) : s.nextCard (f + 1) = ((s.updCless fun c => { c with queue := q }).cardTaken uid).clessShow 2 := by
  have hl' : (s.updCless fun c => { c with queue := q }).listed uid = false := by
    rw [← hl, State.listed, State.listed]
    refine congrArg _ (funext fun e => ?_)
    rw [State.updCless_reg]
    rfl
  unfold State.nextCard
  simp only [hq, hl', hs, not_true_eq_false, Bool.false_eq_true, if_false]
  rfl

theorem State.cardTaken_reg {uid : Bytes} {k : Nat} (hk : 0x100E00000 ≤ k) (h : k ≠ R.CLESS_UID_LO) (h' : k ≠ R.CLESS_UID_HI)
    (he : k ≠ R.CLESS_EVT_STATUS) : (s.cardTaken uid).reg k = s.reg k := by
  rw [State.cardTaken, State.clessSends_reg, State.clessEvent_reg he hk, State.updCless_reg, State.setRegs_two, State.reg_setReg_other _ _ h',
    State.reg_setReg_other _ _ h]

theorem State.cardTaken_facts {uid : Bytes} : (s.cardTaken uid).cd.cless.step = .ats ∧ (s.cardTaken uid).cd.cless.uid = uid ∧
    (s.cardTaken uid).regBit R.CLESS_EVT_STATUS 0 = true := by
  have hcless : (s.cardTaken uid).cd.cless.step = .ats ∧ (s.cardTaken uid).cd.cless.uid = uid := by
    rw [State.cardTaken, State.clessSends_cless, State.clessEvent_cd]
    exact ⟨rfl, rfl⟩
  refine ⟨hcless.1, hcless.2, ?_⟩
  rw [State.cardTaken, State.regBit_eq_of_reg State.clessSends_reg]
  exact State.clessEvent_noted (by decide)

/-- A poll that one new layer-4 card answers takes it in hand. -/
theorem State.poll_one {uid : Bytes} {sak : Nat} (hl : s.listed uid = false) (hs : nbit sak 5 = true) :
    (s.poll [(uid, sak)]).reg R.CLESS_POLLS = satInc (s.reg R.CLESS_POLLS) ∧ (s.poll [(uid, sak)]).cd.cless.step = .ats ∧
    (s.poll [(uid, sak)]).cd.cless.uid = uid ∧ (s.poll [(uid, sak)]).regBit R.CLESS_EVT_STATUS 0 = true ∧
    (s.poll [(uid, sak)]).regField R.CLESS_STATUS 6 4 = 2 := by
  rw [State.poll_eq, if_neg (by simp)]
  have hl' : (s.polling.updCless fun c => { c with empty := 0, queue := (pollOrder [(uid, sak)]).take 8 }).listed uid = false := by
    obtain ⟨_, _, hrest⟩ := State.polling_rest (s := s)
    rw [← hl, State.listed, State.listed, State.updCless_reg, State.polling_reg (by decide) (by decide), hrest]
    rfl
  have hp := State.polling_polls (s := s)
  generalize s.polling = p at hl' hp
  rw [State.nextCard_taken (q := []) rfl hl' hs]
  obtain ⟨hstep, huid, hnote⟩ := State.cardTaken_facts (uid := uid) (s := (p.updCless fun c => { c with empty := 0, queue := (pollOrder [(uid, sak)]).take 8 }).updCless fun c =>
    { c with queue := [] })
  refine ⟨?_, hstep, huid, ?_, State.clessShow_state⟩
  · rw [State.clessShow_reg (by decide), State.cardTaken_reg (by decide) (by decide) (by decide) (by decide), State.updCless_reg, State.updCless_reg, hp]
  · rw [State.regBit_eq_of_reg (State.clessShow_reg (by decide)), hnote]

/-! ### Errors and deselection (R846, R850) -/

theorem State.deselect_reg {k : Nat} (h : k ≠ R.CLESS_STATUS) : s.deselect.reg k = s.reg k := by
  rw [State.deselect, State.clessShow_reg h, State.updCless_reg, State.clessSends_reg, State.setRegBit, State.reg_setReg_other _ _ h]
  exact State.updCless_reg

theorem State.deselect_field {hi lo : Nat} (h : 6 < lo) (h' : hi < 24) : s.deselect.regField R.CLESS_STATUS hi lo = s.regField R.CLESS_STATUS hi lo := by
  rw [State.deselect, State.clessShow_field (.inr h) (.inl h'), State.regField, State.updCless_reg, State.clessSends_reg, State.setRegBit,
    State.reg_setReg_same, field_setBit (.inl (by omega))]
  exact congrArg (field · hi lo) State.updCless_reg

theorem State.deselect_bit : s.deselect.regBit R.CLESS_STATUS 1 = false := by
  rw [State.deselect, State.clessShow_bit (.inl (by decide)) (.inl (by decide)), State.regBit, State.updCless_reg, State.clessSends_reg, State.setRegBit,
    State.reg_setReg_same, bit_setBit (by decide), if_pos rfl]

theorem State.deselect_cless : s.deselect.cd.cless.step = .deselect ∧ s.deselect.now = s.now ∧
    s.deselect.cd.cless.list = ((s.cd.cless.uid, s.now) :: s.cd.cless.list.filter fun e => e.1 != s.cd.cless.uid).take 32 := by
  obtain ⟨_, h⟩ := State.clessSends_eq (s := (s.remember s.cd.cless.uid).setRegBit R.CLESS_STATUS 1 false) (b := [0xC2])
  rw [State.deselect, h]
  exact ⟨rfl, rfl, rfl⟩

/-- What the reader shows after an error; `c` is what CLESS_ERRORS held. -/
theorem State.clessError_facts {e : Nat} (he : e < 16) : (s.clessError e).regField R.CLESS_STATUS 19 16 = e ∧
    (s.clessError e).reg R.CLESS_ERRORS = satInc (s.reg R.CLESS_ERRORS) ∧ (s.clessError e).regBit R.CLESS_EVT_STATUS 3 = true ∧
    (s.clessError e).cd.cless.step = .deselect ∧ (s.clessError e).now = s.now := by
  have hreg {k : Nat} (h : k ≠ R.CLESS_EVT_STATUS) (hk : 0x100E00000 ≤ k) :
      (((s.setRegField R.CLESS_STATUS 19 16 e).bump R.CLESS_ERRORS).clessEvent 3).reg k = ((s.setRegField R.CLESS_STATUS 19 16 e).bump R.CLESS_ERRORS).reg k :=
    State.clessEvent_reg h hk
  refine ⟨?_, ?_, ?_, State.deselect_cless.1, ?_⟩
  · rw [State.clessError, State.deselect_field (by decide) (by decide), State.regField, hreg (by decide) (by decide), State.bump,
      State.reg_setReg_other _ _ (by decide), State.setRegField, State.reg_setReg_same, field_setField_same (by decide)]
    exact Nat.mod_eq_of_lt he
  · rw [State.clessError, State.deselect_reg (by decide), hreg (by decide) (by decide), State.bump, State.reg_setReg_same, State.setRegField,
      State.reg_setReg_other _ _ (by decide)]
  · rw [State.clessError, State.regBit_eq_of_reg (State.deselect_reg (by decide))]
    exact State.clessEvent_noted (by decide)
  · rw [State.clessError, State.deselect_cless.2.1, State.clessEvent_now]
    rfl

/-- A retry asked for with R(NAK). -/
def State.nakSent (s : State) : State :=
  (s.emit .antenna ([by8 (0xB2 + s.cd.cless.blk)] ++ leBytes 2 (crc16 0x6363 [by8 (0xB2 + s.cd.cless.blk)]))).updCless fun c =>
    { c with tries := c.tries + 1, wtx := 1 }

theorem State.clessFail_exchange (hs : s.cd.cless.step = .exchange) : s.clessFail = if 2 ≤ s.cd.cless.tries then s.clessError 4 else s.nakSent := by
  unfold State.clessFail
  simp only [hs]
  rfl

theorem State.nakSent_facts : s.nakSent.cd.cless.tries = s.cd.cless.tries + 1 ∧ s.nakSent.cd.cless.step = s.cd.cless.step ∧ s.onlyRegs s.nakSent [] := by
  obtain ⟨out, h⟩ := State.emit_eq (s := s) (p := .antenna) (bs := [by8 (0xB2 + s.cd.cless.blk)] ++ leBytes 2 (crc16 0x6363 [by8 (0xB2 + s.cd.cless.blk)]))
  rw [State.nakSent, h]
  exact ⟨rfl, rfl, rfl, rfl, fun _ _ => State.updCless_reg⟩

/-! ### The card in hand (R848) -/

theorem State.clessReady_facts {r : Nat} (hr : r < 16) : (s.clessReady r).regField R.CLESS_STATUS 6 4 = 3 ∧ (s.clessReady r).regBit R.CLESS_STATUS 1 = true ∧
    (s.clessReady r).cd.cless.step = .idle ∧ (s.clessReady r).regBit R.CLESS_EVT_STATUS 1 = true ∧ (s.clessReady r).regField R.CLESS_STATUS 23 20 = r := by
  unfold State.clessReady
  extract_lets v
  have hv : v.reg R.CLESS_STATUS = setField (setBit (s.reg R.CLESS_STATUS) 1 true) 23 20 r := by
    unfold v
    rw [State.updCless_reg, State.setRegField, State.reg_setReg_same, State.setRegBit, State.reg_setReg_same]
  have hkept : ((v.clessShow 3).clessEvent 1).reg R.CLESS_STATUS = (v.clessShow 3).reg R.CLESS_STATUS := State.clessEvent_reg (by decide) (by decide)
  refine ⟨?_, ?_, ?_, State.clessEvent_noted (by decide), ?_⟩
  · rw [State.regField_eq_of_reg hkept, State.clessShow_state]
  · rw [State.regBit_eq_of_reg hkept, State.clessShow_bit (.inl (by decide)) (.inl (by decide)), State.regBit, hv, bit_setField_other (.inl (by decide)),
      bit_setBit (by decide), if_pos rfl]
  · rw [State.clessEvent_cd]
    rfl
  · rw [State.regField_eq_of_reg hkept, State.clessShow_field (.inr (by decide)) (.inl (by decide)), State.regField, hv, field_setField_same (by decide)]
    exact Nat.mod_eq_of_lt hr

/-- The last I-block has come: the response data `data` and SW, and the DONE event. -/
def State.clessDone (s : State) (data : Bytes) (sw : Nat) : State :=
  let s := (s.setRegBytes (R.CLESS_RXBUF 0) (padTo 256 data)).setRegs [(R.CLESS_RX_LEN, data.length), (R.CLESS_SW, sw)]
  ((s.updCless fun c => { c with step := .idle }).clessShow 3).clessEvent 2

theorem State.clessDone_facts {data : Bytes} {sw : Nat} : (s.clessDone data sw).regField R.CLESS_STATUS 6 4 = 3 ∧
    (s.clessDone data sw).reg R.CLESS_SW = w32 sw ∧ (s.clessDone data sw).reg R.CLESS_RX_LEN = w32 data.length ∧
    (s.clessDone data sw).regBit R.CLESS_EVT_STATUS 2 = true ∧ (s.clessDone data sw).cd.cless.blk = s.cd.cless.blk := by
  unfold State.clessDone
  extract_lets v
  have hsw : v.reg R.CLESS_SW = w32 sw := State.reg_setReg_same _ _ _
  have hlen : v.reg R.CLESS_RX_LEN = w32 data.length :=
    (State.reg_setReg_other _ _ (show R.CLESS_RX_LEN ≠ R.CLESS_SW by decide)).trans (State.reg_setReg_same _ _ _)
  have hblk : v.cd = s.cd := by
    obtain ⟨_, h⟩ := State.setRegBytes_rest (s := s) (k := R.CLESS_RXBUF 0) (bs := padTo 256 data)
    unfold v
    rw [State.setRegs_two, State.setReg_cd, State.setReg_cd, h]
  have hreg {k : Nat} (h : k ≠ R.CLESS_STATUS) (he : k ≠ R.CLESS_EVT_STATUS) (hk : 0x100E00000 ≤ k) :
      (((v.updCless fun c => { c with step := .idle }).clessShow 3).clessEvent 2).reg k = v.reg k := by
    rw [State.clessEvent_reg he hk, State.clessShow_reg h, State.updCless_reg]
  refine ⟨?_, (hreg (by decide) (by decide) (by decide)).trans hsw, (hreg (by decide) (by decide) (by decide)).trans hlen,
    State.clessEvent_noted (by decide), ?_⟩
  · rw [State.regField_eq_of_reg (State.clessEvent_reg (by decide) (by decide)), State.clessShow_state]
  · rw [State.clessEvent_cd]
    exact congrArg (fun c => c.cless.blk) hblk

/-- The block that ends a command with SW 9000 and no data. -/
theorem State.clessBlock_end (hb : s.cd.cless.blk < 2) (hr : s.cd.cless.rx = []) (ht : s.cd.cless.tx.length ≤ s.cd.cless.sent + s.cd.cless.part) :
    s.clessBlock [by8 (2 + s.cd.cless.blk), 0x90, 0x00] = (s.updCless fun c =>
      { c with rx := c.rx ++ [0x90, 0x00], blk := 1 - c.blk, tries := 0, wtx := 1, sent := c.tx.length, part := 0 }).clessDone [] 0x9000 := by
  have hpcb : byteAt [by8 (2 + s.cd.cless.blk), 0x90, 0x00] 0 = 2 + s.cd.cless.blk := by
    change (2 + s.cd.cless.blk) % 2 ^ 8 = _
    omega
  unfold State.clessBlock
  simp only [hpcb]
  rw [if_neg (by simp), if_neg (by omega), if_pos ⟨.inl trivial, ht⟩, if_neg (by omega)]
  have hrx : (s.updCless fun c => { c with rx := c.rx ++ [0x90, 0x00], blk := 1 - c.blk, tries := 0, wtx := 1, sent := c.tx.length, part := 0 }).cd.cless.rx =
      [0x90, 0x00] := congrArg (· ++ [0x90, 0x00]) hr
  simp only [List.drop_succ_cons, List.drop_zero, hrx]
  rw [if_neg (by decide)]
  rfl

section
variable (hl : s.cardsLive = true)
include hl

theorem exec_clessFrameReceived_pps (hs : s.cd.cless.step = .pps) : exec (.clessFrameReceived [0xD0] true) s =
    .next (s.clessReady (if byteAt s.cd.cless.last 2 = 0x0A then 4 else 2)) := by
  refine congrArg Host.Outcome.next ((if_neg (by simp [hl])).trans ?_)
  simp only [hs]
  exact if_pos (by simp)

section
variable (hs : s.cd.cless.step = .exchange)
include hs

theorem exec_clessFrameReceived_exchange {b : Bytes} {ok : Bool} : exec (.clessFrameReceived b ok) s =
    .next (if ok then s.clessBlock b else s.clessFail) := by
  refine congrArg Host.Outcome.next ((if_neg (by simp [hl])).trans ?_)
  simp only [hs]

theorem exec_clessExchangeTimeout : exec .clessExchangeTimeout s =
    .next (({ s with now := max s.now (s.cd.cless.startAt + 1000000 * (s.reg R.CLESS_APDU_MAX).toNat) } : State).clessError 6) :=
  congrArg Host.Outcome.next (if_pos ⟨hl, hs⟩)

end

theorem exec_clessFwtTimeout : exec .clessFwtTimeout s = .next s.clessFail := congrArg Host.Outcome.next (if_pos hl)

theorem exec_clessUidExpiry {e : Bytes × Nat} (h : s.cd.cless.list.getLast? = some e) : exec .clessUidExpiry s =
    .next ((({ s with now := max s.now (e.2 + 1000000000 * (s.reg R.CLESS_MEMORY).toNat) } : State).updCless fun c =>
      { c with list := c.list.dropLast }).clessShow (s.regField R.CLESS_STATUS 6 4)) := by
  change execClessUidExpiry s = _
  simp only [execClessUidExpiry, h, hl, if_true]
  rfl

end

/-! ### CLESS_CMD -/

section
variable {who : Sender} {v : Word} (h : s.wardenAt who .store R.CLESS_CMD)
include h

theorem State.wr_clessCmd : s.wr who R.CLESS_CMD v = s.clessCmd who v := by
  rw [State.wr_link (r := { key := 0x101500008, wo := 0x6 }) h (by decide) (by decide) (by decide) (by decide) (by decide)]
  rfl

theorem exec_clessSend : exec (.clessSend who) s = .next (s.clessCmdSend who) := by
  refine congrArg Host.Outcome.next ((State.wr_clessCmd h).trans ?_)
  simp only [State.clessCmd, show bit (4 : Word) 1 = false by decide, show bit (4 : Word) 2 = true by decide, Bool.false_eq_true, if_true, if_false]

theorem exec_clessDeselect (hl : s.cardsLive = true) (hb : s.regBit R.CLESS_STATUS 1 = true) : exec (.clessDeselect who) s = .next s.deselect := by
  refine congrArg Host.Outcome.next ((State.wr_clessCmd h).trans ?_)
  simp only [State.clessCmd, show bit (2 : Word) 1 = true by decide, show bit (2 : Word) 2 = false by decide, Bool.false_eq_true, if_true, if_false]
  exact if_pos ⟨hl, hb⟩

end

/-- The command APDU that the reader's registers hold, and the reader with it in hand. -/
def State.clessApdu (s : State) : Bytes := (s.regBytes (R.CLESS_TXBUF 0) 66).take (s.reg R.CLESS_TX_LEN).toNat

def State.clessCommand (s : State) (tx : Bytes) : State :=
  ((s.clessShow 4).setRegField R.CLESS_STATUS 19 16 0).updCless fun c =>
    { c with step := .exchange, tx := tx, sent := 0, part := 0, rx := [], tries := 0, wtx := 1, startAt := s.now }

theorem State.clessCmdSend_eq {who : Sender} (hl : s.cardsLive = true) (hst : s.regField R.CLESS_STATUS 6 4 = 3) (hlen : 4 ≤ (s.reg R.CLESS_TX_LEN).toNat) :
    s.clessCmdSend who = (s.clessCommand s.clessApdu).clessI := if_neg (by simp [hl, hst, hlen])

theorem State.clessI_facts : s.clessI.reg R.CLESS_STATUS = s.reg R.CLESS_STATUS ∧ s.clessI.cd.cless.step = s.cd.cless.step ∧
    s.clessI.cd.cless.tx = s.cd.cless.tx ∧ s.clessI.cd.cless.startAt = s.cd.cless.startAt := by
  unfold State.clessI
  extract_lets c part more
  have hsent := State.clessSends_cless (s := s) (b := [by8 (2 + c.blk + 16 * b2n more)] ++ part)
  have hreg : (s.clessSends ([by8 (2 + c.blk + 16 * b2n more)] ++ part)).reg R.CLESS_STATUS = s.reg R.CLESS_STATUS := State.clessSends_reg
  generalize s.clessSends ([by8 (2 + c.blk + 16 * b2n more)] ++ part) = u at hsent hreg
  have hupd : (u.updCless fun c => { c with part := part.length }).cd.cless = { u.cd.cless with part := part.length } := rfl
  rw [hupd, hsent]
  exact ⟨State.updCless_reg.trans hreg, rfl, rfl, rfl⟩

theorem State.clessCommand_status {tx : Bytes} : (s.clessCommand tx).regField R.CLESS_STATUS 6 4 = 4 := by
  rw [State.regField, State.clessCommand, State.updCless_reg, State.setRegField, State.reg_setReg_same, field_setField_other (.inl (by decide))]
  exact State.clessShow_state

end Sys2Proof.Machine

namespace Sys2Proof

open Machine

section
variable {s : State} (hl : s.cardsLive = true)
include hl

/-- Pings and polls. -/
theorem clessPing_facts (hc : s.regBit R.CLESS_CTRL 0 = true) (hs : s.cd.cless.step = .idle) (amp : Nat) (cards : List (Bytes × Nat)) :
    (s.regBit R.RESET_STATUS 3 = true → Completes (.clessPing amp cards) s fun t =>
      t.regField R.CLESS_STATUS 6 4 = 0 ∧ t.regField R.CLESS_STATUS 19 16 = 8 ∧ t.reg R.CLESS_POLLS = s.reg R.CLESS_POLLS) ∧
    (s.regBit R.RESET_STATUS 3 = false →
      (s.regBit R.CLESS_STATUS 0 = false →
        100 * (max amp (s.pingBase amp) - min amp (s.pingBase amp)) ≤ (s.reg R.CLESS_DETUNE).toNat * s.pingBase amp →
        Completes (.clessPing amp cards) s fun t =>
          t.reg R.CLESS_POLLS = s.reg R.CLESS_POLLS ∧ t.regField R.CLESS_STATUS 6 4 = 1 ∧ t.cd.cless.pings = (amp :: s.cd.cless.pings).take 16) ∧
      (s.regBit R.CLESS_STATUS 0 = true → Completes (.clessPing amp []) s fun t => t.reg R.CLESS_POLLS = satInc (s.reg R.CLESS_POLLS)) ∧
      (∀ uid sak, s.regBit R.CLESS_STATUS 0 = true → s.listed uid = false → nbit sak 5 = true → Completes (.clessPing amp [(uid, sak)]) s fun t =>
        t.reg R.CLESS_POLLS = satInc (s.reg R.CLESS_POLLS) ∧ t.cd.cless.step = .ats ∧ t.cd.cless.uid = uid ∧ t.regBit R.CLESS_EVT_STATUS 0 = true ∧
        t.regField R.CLESS_STATUS 6 4 = 2)) := by
  refine ⟨fun hr => ⟨_, exec_clessPing hl hc hs, ?_⟩, fun hr => ⟨fun ho hd => ⟨_, exec_clessPing hl hc hs, ?_⟩,
    fun ho => ⟨_, exec_clessPing hl hc hs, ?_⟩, fun uid sak ho hlist hsak => ⟨_, exec_clessPing hl hc hs, ?_⟩⟩⟩
  · rw [if_pos hr]
    refine ⟨?_, State.regField_setRegField (by decide), ?_⟩
    · refine Eq.trans ?_ (State.fieldOff_state (s := s) (i := 0))
      rw [State.regField, State.setRegField, State.reg_setReg_same, field_setField_other (.inl (by decide))]
      rfl
    · exact (State.reg_setReg_other _ _ (by decide)).trans (State.fieldOff_reg (by decide))
  · rw [if_neg (by simp [hr]), if_neg (by simp [ho]), if_neg (by omega)]
    exact ⟨(State.clessShow_reg (by decide)).trans State.updCless_reg, State.clessShow_state, rfl⟩
  · rw [if_neg (by simp [hr]), if_pos ho]
    exact State.poll_empty
  · rw [if_neg (by simp [hr]), if_pos ho]
    exact State.poll_one hlist hsak

/-- A failed exchange: retries, then the end. -/
theorem clessRetry_facts (hs : s.cd.cless.step = .exchange) : ∀ p ∈ [Instr.clessFwtTimeout, .clessFrameReceived [] false],
    (s.cd.cless.tries < 2 → Completes p s fun t => t.cd.cless.tries = s.cd.cless.tries + 1 ∧ t.cd.cless.step = .exchange ∧ s.onlyRegs t []) ∧
    (2 ≤ s.cd.cless.tries → Completes p s fun t => t.regField R.CLESS_STATUS 19 16 = 4 ∧ t.reg R.CLESS_ERRORS = satInc (s.reg R.CLESS_ERRORS) ∧
      t.regBit R.CLESS_EVT_STATUS 3 = true ∧ t.cd.cless.step = .deselect) := by
  intro p hp
  have hx : exec p s = .next s.clessFail := by
    simp only [List.mem_cons, List.not_mem_nil, or_false] at hp
    obtain rfl | rfl := hp
    · exact exec_clessFwtTimeout hl
    · rw [exec_clessFrameReceived_exchange hl hs, if_neg Bool.false_ne_true]
  refine ⟨fun h => ⟨_, hx, ?_⟩, fun h => ⟨_, hx, ?_⟩⟩
  · obtain ⟨htries, hstep, honly⟩ := State.nakSent_facts (s := s)
    rw [State.clessFail_exchange hs, if_neg (by omega)]
    exact ⟨htries, hstep.trans hs, honly⟩
  · obtain ⟨herr, hcount, hnote, hstep, -⟩ := State.clessError_facts (s := s) (e := 4) (by decide)
    rw [State.clessFail_exchange hs, if_pos h]
    exact ⟨herr, hcount, hnote, hstep⟩

/-- The commands of CLESS_CMD. -/
theorem clessCmd_facts {who : Sender} (h : s.wardenAt who .store R.CLESS_CMD) :
    (s.regField R.CLESS_STATUS 6 4 = 3 → 4 ≤ (s.reg R.CLESS_TX_LEN).toNat → Completes (.clessSend who) s fun t =>
      t.regField R.CLESS_STATUS 6 4 = 4 ∧ t.cd.cless.step = .exchange ∧ t.cd.cless.tx = s.clessApdu ∧ t.cd.cless.startAt = s.now) ∧
    (s.regField R.CLESS_STATUS 6 4 ≠ 3 → Completes (.clessSend who) s fun t =>
      t.regField R.CLESS_STATUS 6 4 = s.regField R.CLESS_STATUS 6 4 ∧ t.out = s.out ∧ t.regField (R.ERRC_LAST 0x15 0) 31 24 = 5) ∧
    (s.regBit R.CLESS_STATUS 1 = true → Completes (.clessDeselect who) s fun t =>
      t.regBit R.CLESS_STATUS 1 = false ∧ t.cd.cless.step = .deselect ∧ (s.cd.cless.uid, s.now) ∈ t.cd.cless.list) := by
  refine ⟨fun hst htx => ⟨_, exec_clessSend h, ?_⟩, fun hst => ⟨_, exec_clessSend h, ?_⟩, fun hb => ⟨_, exec_clessDeselect h hl hb, ?_⟩⟩
  · obtain ⟨hreg, hstep, htx', hat⟩ := State.clessI_facts (s := s.clessCommand s.clessApdu)
    rw [State.clessCmdSend_eq hl hst htx]
    exact ⟨(State.regField_eq_of_reg hreg).trans State.clessCommand_status, hstep, htx', hat⟩
  · have herr : s.clessCmdSend who = s.errAt errIgnored who .store R.CLESS_CMD := if_pos (.inr (.inl hst))
    have hrep := State.errAt_reportsOnly (s := s) (code := errIgnored) (a := R.CLESS_CMD) (who := who) (kind := .store)
    obtain ⟨_, _, _, hrest⟩ := hrep.rest
    rw [herr]
    exact ⟨State.regField_eq_of_reg (hrep.reg _ (.inr (by decide)) (not_eventReg_of_errc (by decide))), by rw [hrest], State.errAt_code (by decide) (by decide)⟩
  · obtain ⟨hstep, -, hlist⟩ := State.deselect_cless (s := s)
    refine ⟨State.deselect_bit, hstep, ?_⟩
    rw [hlist]
    exact List.mem_cons_self

theorem clessExchangeTimeout_facts (hs : s.cd.cless.step = .exchange) : Completes .clessExchangeTimeout s fun t =>
    (t.regField R.CLESS_STATUS 19 16 = 6 ∧ t.reg R.CLESS_ERRORS = satInc (s.reg R.CLESS_ERRORS) ∧ t.regBit R.CLESS_EVT_STATUS 3 = true ∧
      t.cd.cless.step = .deselect) ∧ t.now = max s.now (s.cd.cless.startAt + 1000000 * (s.reg R.CLESS_APDU_MAX).toNat) := by
  refine ⟨_, exec_clessExchangeTimeout hl hs, ?_⟩
  generalize max s.now (s.cd.cless.startAt + 1000000 * (s.reg R.CLESS_APDU_MAX).toNat) = now
  obtain ⟨herr, hcount, hnote, hstep, hnow⟩ := State.clessError_facts (s := { s with now }) (e := 6) (by decide)
  exact ⟨⟨herr, hcount, hnote, hstep⟩, hnow⟩

end

/-- Settles O60: the contactless reader's steps. -/
theorem contactlessReader : Obligations.ContactlessReader := by
  intro s who hl
  dsimp only
  refine ⟨fun hc hs amp cards => clessPing_facts hl hc hs amp cards,
    fun hs => ⟨_, exec_clessFrameReceived_pps hl hs, State.clessReady_facts (by split <;> decide)⟩,
    fun hs => ⟨fun hb hr ht => ⟨_, exec_clessFrameReceived_exchange hl hs, ?_⟩, clessRetry_facts hl hs, clessExchangeTimeout_facts hl hs⟩,
    clessCmd_facts hl, fun e he => ⟨_, exec_clessUidExpiry hl he, rfl, rfl⟩⟩
  rw [if_pos rfl, State.clessBlock_end hb hr ht]
  obtain ⟨hst, hsw, hlen, hnote, hblk⟩ := State.clessDone_facts (s := s.updCless fun c =>
    { c with rx := c.rx ++ [0x90, 0x00], blk := 1 - c.blk, tries := 0, wtx := 1, sent := c.tx.length, part := 0 }) (data := []) (sw := 0x9000)
  exact ⟨hst, hsw, hlen, hnote, hblk⟩

end Sys2Proof

/-! SUPPORT. Quorum sessions, approvals, grants and the custodian list (R857 to R862). -/

namespace Sys2Proof.Machine

variable {s t u : State} {i cause : Nat}

/-- The registers of the quorum block are no registers of the event controller's. -/
theorem not_eventReg_quorum {k : Nat} (h : 0x101440000 ≤ k) : ¬ eventReg k := not_eventReg_of_errc (by omega)

theorem State.raise234_eventsOnly : s.EventsOnly (s.raise 234) := State.raise_eventsOnly (by decide) (by decide)

theorem State.raise234_reg {k : Nat} (h : 0x101440000 ≤ k) : (s.raise 234).reg k = s.reg k := State.raise234_eventsOnly.reg k (not_eventReg_quorum h)

theorem State.raise234_pends : (s.raise 234).pends 234 := State.raise_pends (by decide) (by decide)

theorem State.answerCmd_reg {e cls reason k : Nat} {result output : Bytes} : (s.answerCmd i e cls reason result output).reg k = s.reg k :=
  State.mapBt_reg _ _ _

theorem State.answerCmd_cd {e cls reason : Nat} {result output : Bytes} : (s.answerCmd i e cls reason result output).cd = s.cd := rfl

theorem State.quorumRefuse_reg {k : Nat} (h : k ≠ R.QUORUM_STATUS) : (s.quorumRefuse i cause).reg k = s.reg k :=
  State.answerCmd_reg.trans (State.reg_setReg_other _ _ h)

theorem State.quorumRefuse_status : (s.quorumRefuse i cause).reg R.QUORUM_STATUS = setField (s.reg R.QUORUM_STATUS) 7 4 cause :=
  State.answerCmd_reg.trans (s.reg_setReg_same _ _)

theorem State.quorumRefuse_cd : (s.quorumRefuse i cause).cd = s.cd := State.answerCmd_cd.trans (State.setReg_cd _ _ _)

/-! ### Opening -/

/-- A session stands open: STATUS shows it without an approval and without a cause, with event 234. -/
def State.quorumShown (s : State) : State :=
  (((s.setRegField R.QUORUM_STATUS 23 8 0).setRegField R.QUORUM_STATUS 7 4 0).setRegBit R.QUORUM_STATUS 0 true).raise 234

theorem State.quorumShown_cd : s.quorumShown.cd = s.cd :=
  State.raise234_eventsOnly.cd.trans
    ((State.setReg_cd _ _ _).trans ((State.setReg_cd _ _ _).trans (State.setReg_cd _ _ _)))

theorem State.quorumShown_status :
    s.quorumShown.reg R.QUORUM_STATUS = setBit (setField (setField (s.reg R.QUORUM_STATUS) 23 8 0) 7 4 0) 0 true := by
  rw [State.quorumShown, State.raise234_reg (by decide), State.setRegBit, State.reg_setReg_same, State.setRegField, State.reg_setReg_same,
    State.setRegField, State.reg_setReg_same]

theorem State.quorumShown_open : s.quorumShown.regBit R.QUORUM_STATUS 0 = true := by
  rw [State.regBit, State.quorumShown_status, bit_setBit (by decide), if_pos rfl]

theorem State.quorumShown_approvals : s.quorumShown.regField R.QUORUM_STATUS 23 8 = 0 := by
  rw [State.regField, State.quorumShown_status, field_setBit (.inl (by decide)), field_setField_other (.inr (by decide)),
    field_setField_same (by decide), Nat.zero_mod]

/-- The session that job `i` opens, after its draw of the nonce. -/
def State.quorumOpened (s : State) (i : Nat) (d : Bytes) : State :=
  (((s.drawDev 32).2.setRegBytes (R.QUORUM_NONCE 0) (s.drawDev 32).1).mapCd fun c =>
    { c with session := some ⟨i, leAt d 0x20 2, s.now, s.now + (if leAt d 0x22 2 = 0 then 600 else leAt d 0x22 2) * 1000000000⟩ }).quorumShown

theorem State.quorumOpened_session {d : Bytes} :
    ((s.quorumOpened i d).cd.session.map fun x => (x.job, x.groups)) = some (i, leAt d 0x20 2) := by
  rw [State.quorumOpened, State.quorumShown_cd]
  rfl

theorem exec_quorumOpen {j : Job} (hj : s.command i 0x8050 = some j) (hs : s.cd.session = none) (hd : (s.deepData 0x0106).isSome)
    (hg : ∀ g, g < 16 → nbit (leAt j.desc 0x20 2) g = true → qThresh s.custodians g ≠ 0) :
    exec (.quorumOpen i) s = .next (s.quorumOpened i j.desc) := by
  have hgroups : ((List.range 16).any fun g => nbit (leAt j.desc 0x20 2) g && qThresh s.custodians g == 0) = false := by
    rw [List.any_eq_false]
    intro g hm hz
    simp only [Bool.and_eq_true, beq_iff_eq] at hz
    exact hg g (List.mem_range.mp hm) hz.1 hz.2
  obtain ⟨b, hb⟩ := Option.isSome_iff_exists.mp hd
  change execQuorumOpen i s = _
  simp only [execQuorumOpen, hj, hs, hb, hgroups, Option.map_none, Option.isSome_none, Option.isNone_some, reduceCtorEq, Bool.false_eq_true, if_false]
  rfl

/-! ### Approvals -/

theorem nbit_eq_testBit {n k : Nat} : nbit n k = n.testBit k := by
  rw [nbit, Nat.testBit_eq_decide_div_mod_eq]
  rfl

/-- What a granted session shows: the bits of its approvals stay, and nothing counts as a failure. -/
theorem State.grant_facts {x : Session} {k : Nat} (h : 0x101440000 ≤ k) (hg : k ≠ R.QUORUM_GRANT) (he : k ≠ R.QUORUM_EXPIRE) :
    (s.grant x).reg k = if k = R.QUORUM_STATUS then setBit (s.reg R.QUORUM_STATUS) 0 false else s.reg k := by
  have hset : ∀ {v w : Word} {f : CardState → CardState} {j : Nat}, j ≠ R.QUORUM_GRANT → j ≠ R.QUORUM_EXPIRE →
      (((s.setReg R.QUORUM_GRANT v).setReg R.QUORUM_EXPIRE w).mapCd f).reg j = s.reg j := fun h₁ h₂ =>
    (State.mapCd_reg _ _ _).trans ((State.reg_setReg_other _ _ h₂).trans (State.reg_setReg_other _ _ h₁))
  rw [State.grant, State.answerCmd_reg, State.raise234_reg h]
  split
  next hk =>
    subst hk
    rw [State.setRegBit, State.reg_setReg_same, hset hg he]
  next hk => rw [State.setRegBit, State.reg_setReg_other _ _ hk, hset hg he]

/-- Custodian `i`'s approval of session `x`, which is granted once every group has its threshold. -/
def State.quorumApproved (s : State) (x : Session) (i : Nat) : State :=
  let m := s.regField R.QUORUM_STATUS 23 8 ||| 2 ^ i
  let t := s.setRegField R.QUORUM_STATUS 23 8 m
  if (List.range 16).all fun g => !nbit x.groups g || decide (qThresh s.custodians g ≤ approvals s.custodians m g) then t.grant x else t

theorem State.quorumApproved_reg {x : Session} {k : Nat} (h : 0x101440000 ≤ k) (hg : k ≠ R.QUORUM_GRANT) (he : k ≠ R.QUORUM_EXPIRE)
    (hk : k ≠ R.QUORUM_STATUS) : (s.quorumApproved x i).reg k = s.reg k := by
  unfold State.quorumApproved
  dsimp only
  split
  · rw [State.grant_facts h hg he, if_neg hk]
    exact State.reg_setReg_other _ _ hk
  · exact State.reg_setReg_other _ _ hk

theorem State.quorumApproved_bit {x : Session} (hi : i < 16) : nbit ((s.quorumApproved x i).regField R.QUORUM_STATUS 23 8) i = true := by
  have hfield : (s.quorumApproved x i).regField R.QUORUM_STATUS 23 8 = (s.regField R.QUORUM_STATUS 23 8 ||| 2 ^ i) % 2 ^ 16 := by
    unfold State.quorumApproved
    dsimp only
    split
    · rw [State.regField, State.grant_facts (by decide) (by decide) (by decide), if_pos rfl, field_setBit (.inl (by decide))]
      exact State.regField_setRegField (by decide)
    · exact State.regField_setRegField (by decide)
  rw [hfield, nbit_eq_testBit, Nat.testBit_mod_two_pow, Nat.testBit_or, Nat.testBit_two_pow_self, Bool.or_true, decide_eq_true hi]
  rfl

theorem exec_quorumApproval {x : Session} {src : Fin 3} {pub sig : Bytes} (hx : s.cd.session = some x) (ht : s.tripped = false)
    (hf : s.freshCard src x.opened = true)
    (hi : (List.range (qCount s.custodians)).find? (fun k => qKey s.custodians k == sha384 pub) = some i) (hp : pub.length = 65)
    (hv : ecdsaVerify p256 pub (s.quorumHash x.groups i) sig = true) :
    exec (.quorumApproval src pub sig true) s = .next (s.quorumApproved x i) := by
  change execQuorumApproval src pub sig true s = _
  simp only [execQuorumApproval, hx, ht, hf, hi, hp, hv, not_true_eq_false, Bool.false_eq_true, ne_eq, or_self, if_false]
  rfl

/-! ### The end without a grant, and lapse -/

/-- Session `x` ends at its time without a grant. -/
def State.quorumEnded (s : State) (x : Session) : State :=
  (((s.mapCd fun c => { c with session := none }).setRegBit R.QUORUM_STATUS 0 false).quorumRefuse x.job 4).raise 234

theorem exec_quorumTimeout {x : Session} (hx : s.cd.session = some x) (he : x.ends ≤ s.bt.edgeAt) :
    exec .quorumTimeout s = .next (s.quorumEnded x) := by
  change execQuorumTimeout s = _
  simp only [execQuorumTimeout, hx, Nat.not_lt.mpr he, if_false]
  rfl

theorem State.quorumEnded_facts {x : Session} :
    (s.quorumEnded x).cd.session = none ∧ (s.quorumEnded x).regBit R.QUORUM_STATUS 0 = false ∧
      (s.quorumEnded x).regField R.QUORUM_STATUS 7 4 = 4 ∧ (s.quorumEnded x).reg R.QUORUM_GRANT = s.reg R.QUORUM_GRANT ∧
      (s.quorumEnded x).pends 234 := by
  have hstatus : (s.quorumEnded x).reg R.QUORUM_STATUS = setField (setBit (s.reg R.QUORUM_STATUS) 0 false) 7 4 4 := by
    rw [State.quorumEnded, State.raise234_reg (by decide), State.quorumRefuse_status, State.setRegBit, State.reg_setReg_same, State.mapCd_reg]
  refine ⟨?_, ?_, ?_, ?_, State.raise234_pends⟩
  · rw [State.quorumEnded, State.raise234_eventsOnly.cd, State.quorumRefuse_cd, State.setRegBit, State.setReg_cd]
    rfl
  · rw [State.regBit, hstatus, bit_setField_other (.inl (by decide)), bit_setBit (by decide), if_pos rfl]
  · exact (congrArg (field · 7 4) hstatus).trans (field_setField_same (by decide))
  · rw [State.quorumEnded, State.raise234_reg (by decide), State.quorumRefuse_reg (by decide), State.setRegBit,
      State.reg_setReg_other _ _ (by decide), State.mapCd_reg]

/-- Every live grant lapses. -/
def State.grantsLapsed (s : State) : State :=
  (({ s with now := max s.now (s.tm.rtcAt + 1000000000 * (s.reg R.QUORUM_EXPIRE).toNat) } : State).setReg R.QUORUM_GRANT 0).raise 234

theorem exec_quorumGrantLapse (h : s.reg R.QUORUM_GRANT ≠ 0) : exec .quorumGrantLapse s = .next s.grantsLapsed :=
  congrArg Host.Outcome.next (if_neg h)

theorem State.grantsLapsed_grant : s.grantsLapsed.reg R.QUORUM_GRANT = 0 := by
  rw [State.grantsLapsed, State.raise234_reg (by decide), State.reg_setReg_same]

theorem exec_quorumGuardWrite {who : Sender} {v : Word} (h : s.wardenAt who .store R.QUORUM_GUARD) :
    exec (.quorumGuardWrite who v) s = .next (s.setReg R.QUORUM_GUARD (s.reg R.QUORUM_GUARD ||| v &&& 0xFFFF)) := by
  refine congrArg Host.Outcome.next (?_ : s.wr who R.QUORUM_GUARD v = _)
  rw [State.wr_link (r := { key := R.QUORUM_GUARD, rw := 0xffff }) h (by decide) (by decide) (by decide) (by decide) (by decide)]
  rfl

/-! ### The custodian list -/

theorem DeepStore.at_put_same {p : DeepStore} {o : Nat} {im : Bytes} : (p.put o im).at o = some im := by
  simp [DeepStore.at, DeepStore.put]

theorem DeepStore.at_put_other {p : DeepStore} {o o' : Nat} {im : Bytes} (h : o' ≠ o) : (p.put o im).at o' = p.at o' := by
  have hfind : (p.copies.filter fun c => c.off != o).find? (fun c => c.off == o') = p.copies.find? fun c => c.off == o' := by
    rw [List.find?_filter]
    refine congrArg (fun f => List.find? f p.copies) (funext fun c => ?_)
    by_cases hc : c.off = o'
    · simp [hc, h]
    · simp [hc]
  simp only [DeepStore.at, DeepStore.put]
  rw [List.find?_cons_of_neg (by simpa using Ne.symm h), hfind]

/-- The areas of a record's three copies are apart. -/
theorem deepAt_inj {id k m : Nat} (h : deepAt id k = deepAt id m) : k = m := by
  unfold deepAt at h
  split at h <;> omega

theorem State.queueRec_deep {p : PendRec} : (s.queueRec p).deep = s.deep := by rw [State.queueRec_eq]

theorem State.deepWrite_reg {id k : Nat} {data : Bytes} : (s.deepWrite id data).reg k = s.reg k := State.queueRec_reg

/-- Each of the three copies holds the record that was written (R349). -/
theorem State.deepWrite_at {id : Nat} {data : Bytes} (k : Fin 3) :
    (s.deepWrite id data).deep.at (deepAt id k) = some (deepImage id 0x5A (s.deepGen id + 1) data) := by
  have hne : ∀ {a b : Nat}, a ≠ b → deepAt id a ≠ deepAt id b := fun h h' => h (deepAt_inj h')
  rw [State.deepWrite, State.queueRec_deep]
  change (((s.deep.put (deepAt id 0) _).put (deepAt id 1) _).put (deepAt id 2) _).at (deepAt id k) = _
  match k with
  | 0 => exact (DeepStore.at_put_other (hne (by decide))).trans ((DeepStore.at_put_other (hne (by decide))).trans DeepStore.at_put_same)
  | 1 => exact (DeepStore.at_put_other (hne (by decide))).trans DeepStore.at_put_same
  | 2 => exact DeepStore.at_put_same

theorem State.EventsOnly.deep (h : s.EventsOnly t) : t.deep = s.deep := by
  obtain ⟨_, _, _, _, _, h⟩ := h.rest
  rw [h]

theorem State.consume_deep {g : Nat} : (s.consume g).deep = s.deep := by
  unfold State.consume
  split
  · exact State.raise234_eventsOnly.deep
  · rfl

theorem State.consume_granted {g : Nat} (hg : g < 32) : (s.consume g).granted g = false := by
  unfold State.consume
  split
  · rw [State.granted, State.regBit_eq_of_reg (State.raise234_reg (by decide)), State.regBit_setRegBit hg, if_pos rfl]
  next h => exact Bool.eq_false_iff.mpr h

/-- The list `b` committed, and the grant of group 15 consumed. -/
def State.listTaken (s : State) (i : Nat) (b : Bytes) : State :=
  let s := ((s.deepWrite 0x0106 (b.take 1056)).setRegBit R.QUORUM_STATUS 1 true).consume 15
  s.answerCmd i s.nextEdge clsOk 0 (zeros 16) []

theorem exec_quorumList {j : Job} (hj : s.command i 0x8051 = some j) (hd : (s.deepData 0x0106).isSome) (hg : s.granted 15 = true)
    (hok : listOk j.input = true) : exec (.quorumList i) s = .next (s.listTaken i j.input) := by
  change execQuorumList i s = _
  simp only [execQuorumList, hj, hd, hg, hok, Bool.not_true, not_true_eq_false, Bool.false_eq_true, if_true, if_false]
  rfl

theorem State.listTaken_deep {b : Bytes} : (s.listTaken i b).deep = (s.deepWrite 0x0106 (b.take 1056)).deep := State.consume_deep

theorem State.listTaken_granted {b : Bytes} : (s.listTaken i b).granted 15 = false :=
  (State.regBit_eq_of_reg State.answerCmd_reg).trans (State.consume_granted (by decide))

end Sys2Proof.Machine

namespace Sys2Proof

open Machine

/-- Settles O52: quorum sessions, approvals, the timeout, grants and lists. -/
theorem quorumSessions : Obligations.QuorumSessions := by
  intro s
  refine ⟨fun i j hj hs hd hg => ⟨_, exec_quorumOpen hj hs hd hg, State.quorumOpened_session, State.quorumShown_open, State.quorumShown_approvals,
      State.raise234_pends⟩,
    fun x src pub sig i hx ht hf hi hlt hp hv => ⟨_, exec_quorumApproval hx ht hf hi hp hv, State.quorumApproved_bit hlt,
      State.quorumApproved_reg (by decide) (by decide) (by decide) (by decide)⟩,
    fun x hx he => ⟨_, exec_quorumTimeout hx he, State.quorumEnded_facts⟩,
    fun h => ⟨_, exec_quorumGrantLapse h, State.grantsLapsed_grant, State.raise234_pends⟩,
    fun who v h => ⟨_, exec_quorumGuardWrite h, State.setReg_onlyRegs⟩,
    fun i j hj hd hg hok => ⟨_, exec_quorumList hj hd hg hok, fun k => ?_, State.listTaken_granted⟩⟩
  rw [State.listTaken_deep]
  exact State.deepWrite_at k

end Sys2Proof

/-! SUPPORT. The pond: Uloon links, the slot frame, received frames and transport keys (R805 to R815). -/

namespace Sys2Proof.Machine

variable {s t u : State} {k m : Nat}

theorem State.EventsOnly.running (h : s.EventsOnly t) : t.running = s.running :=
  State.regBit_eq_of_reg (h.reg _ (not_eventReg_low (by decide)))

/-! ### POND_STATUS -/

theorem State.pondStatus_reg (h : k ≠ R.ULOON_POND_STATUS) : s.pondStatus.reg k = s.reg k :=
  (State.reg_setReg_other _ _ h).trans ((State.reg_setReg_other _ _ h).trans (State.reg_setReg_other _ _ h))

theorem State.pondStatus_lk : s.pondStatus.lk = s.lk := (State.setReg_lk _ _ _).trans ((State.setReg_lk _ _ _).trans (State.setReg_lk _ _ _))

/-- The bits that show whose frames are accepted stay. -/
theorem State.pondStatus_accepted {i : Nat} (h : 16 ≤ i) : s.pondStatus.regBit R.ULOON_POND_STATUS i = s.regBit R.ULOON_POND_STATUS i := by
  rw [State.pondStatus, State.regBit_setRegBit (by decide), if_neg (by omega), State.regBit_setRegBit (by decide), if_neg (by omega), State.regBit,
    State.setRegField, State.reg_setReg_same, bit_setField_other (.inr (by omega))]
  rfl

/-! ### Links -/

section
variable {l : Fin 8} {peer : Fin 16} {id : Word} {rootOk : Bool} {us hops delay : Nat} {life : Fin 5}

/-- Link `l` is up to `peer`, with its new key. -/
def State.linkJoined (s : State) (l : Fin 8) (peer : Fin 16) (delay : Nat) : State :=
  let s := s.setRegs [(R.ULOON_LINK_STATUS l.val, 3 + peer.val * 16), (R.ULOON_LINK_DELAY l.val, delay % 65536)]
  let first := s.lk.peers = [] ∧ s.isLeader ∧ s.regField R.BEAT_STATUS 1 0 = 0
  let key := s.freeBytes 32
  (s.tookFree 32).mapLk fun x => { x with
    linkKeys := (l.val, key) :: x.linkKeys.filter fun p => p.1 != l.val
    peers := (l.val, peer.val) :: x.peers.filter fun p => p.1 != l.val
    leadWait := if first then some s.now else x.leadWait }

/-- Link `l` with `peer` accepted on it. -/
def State.linkAccepted (s : State) (l : Fin 8) (peer : Fin 16) (hops delay : Nat) : State :=
  let s := (s.linkJoined l peer delay).pondStatus
  if 3 < hops then s.raise (208 + l.val) else s

theorem State.raiseLink_eventsOnly : s.EventsOnly (s.raise (208 + l.val)) :=
  State.raise_eventsOnly (by omega) (by simp only [List.mem_cons, List.not_mem_nil, or_false]; omega)

theorem State.raiseLink_pends : (s.raise (208 + l.val)).pends (208 + l.val) :=
  State.raise_pends (by omega) (by simp only [List.mem_cons, List.not_mem_nil, or_false]; omega)

theorem State.linkAccepted_eventsOnly : (s.linkJoined l peer delay).pondStatus.EventsOnly (s.linkAccepted l peer hops delay) :=
  .ite State.raiseLink_eventsOnly .refl

theorem not_eventReg_link (h : 0x101300000 ≤ k) : ¬ eventReg k := not_eventReg_of_errc (le_trans (by decide) h)

theorem State.linkJoined_reg : (s.linkJoined l peer delay).reg k =
    (s.setRegs [(R.ULOON_LINK_STATUS l.val, 3 + peer.val * 16), (R.ULOON_LINK_DELAY l.val, delay % 65536)]).reg k := by
  rw [State.linkJoined, State.mapLk_reg, State.tookFree_reg]

theorem State.linkAccepted_facts : (s.linkAccepted l peer hops delay).reg (R.ULOON_LINK_STATUS l) = w32 (3 + peer * 16) ∧
    (s.linkAccepted l peer hops delay).reg (R.ULOON_LINK_DELAY l) = w32 (delay % 65536) ∧
    (s.linkAccepted l peer hops delay).lk.peers.lookup l.val = some peer.val ∧
    ((s.linkAccepted l peer hops delay).lk.linkKeys.lookup l.val).isSome := by
  have hreg : ∀ {k : Nat}, 0x101300000 ≤ k → k ≠ R.ULOON_POND_STATUS → (s.linkAccepted l peer hops delay).reg k =
      (s.setRegs [(R.ULOON_LINK_STATUS l.val, 3 + peer.val * 16), (R.ULOON_LINK_DELAY l.val, delay % 65536)]).reg k := fun h hne =>
    (State.linkAccepted_eventsOnly.reg _ (not_eventReg_link h)).trans ((State.pondStatus_reg hne).trans State.linkJoined_reg)
  have hlk : (s.linkAccepted l peer hops delay).lk = (s.linkJoined l peer delay).lk := State.linkAccepted_eventsOnly.lk.trans State.pondStatus_lk
  refine ⟨?_, ?_, ?_, ?_⟩
  · exact (hreg (by simp only [R.ULOON_LINK_STATUS]; omega) (by simp only [R.ULOON_LINK_STATUS, R.ULOON_POND_STATUS]; omega)).trans
      ((State.reg_setReg_other _ _ (by simp only [R.ULOON_LINK_STATUS, R.ULOON_LINK_DELAY]; omega)).trans (State.reg_setReg_same _ _ _))
  · exact (hreg (by simp only [R.ULOON_LINK_DELAY]; omega) (by simp only [R.ULOON_LINK_DELAY, R.ULOON_POND_STATUS]; omega)).trans
      (State.reg_setReg_same _ _ _)
  · rw [hlk]
    exact List.lookup_cons_self
  · rw [hlk]
    exact congrArg Option.isSome List.lookup_cons_self

theorem exec_uloonLinkUp (hp : s.inPond = true) (hc : s.regBit R.ULOON_POND_CFG (8 + l) = true) (hl : s.regBit (R.ULOON_LINK_STATUS l) 0 = false) :
    exec (.uloonLinkUp l peer id rootOk us life hops delay) s = .next (if s.linkCause peer id rootOk us life ≠ 0
      then (s.setReg (R.ULOON_LINK_STATUS l.val) (w32 (s.linkCause peer id rootOk us life * 256))).raise (208 + l.val)
      else s.linkAccepted l peer hops delay) :=
  congrArg Host.Outcome.next (if_neg (by simp [hp, hc, hl]))

/-- Link `l` is down: its key and its peer are gone, and a member that no other link reaches is no longer heard. -/
def State.linkGone (s : State) (l : Fin 8) : State :=
  let peer := s.lk.peers.lookup l.val
  let s := s.setRegField (R.ULOON_LINK_STATUS l.val) 1 0 0
  let s := s.mapLk fun x => { x with linkKeys := x.linkKeys.filter (fun p => p.1 != l.val), peers := x.peers.filter fun p => p.1 != l.val }
  match peer with
  | some m => if s.lk.peers.any fun p => p.2 == m then s else s.setRegBit R.ULOON_POND_STATUS (16 + m) false
  | none => s

theorem exec_uloonLinkDown (h : s.regBit (R.ULOON_LINK_STATUS l) 0 = true) :
    exec (.uloonLinkDown l) s = .next ((s.linkGone l).pathGone l.val).pondStatus := congrArg Host.Outcome.next (if_neg (by simp [h]))

theorem State.linkGone_rest : ∃ regs, s.linkGone l = { s with regs, lk := { s.lk with
    linkKeys := s.lk.linkKeys.filter (fun p => p.1 != l.val), peers := s.lk.peers.filter fun p => p.1 != l.val } } := by
  unfold State.linkGone
  simp only []
  split
  · split <;> exact ⟨_, rfl⟩
  · exact ⟨_, rfl⟩

theorem State.linkGone_reg (h : k ≠ R.ULOON_POND_STATUS) : (s.linkGone l).reg k = (s.setRegField (R.ULOON_LINK_STATUS l.val) 1 0 0).reg k := by
  unfold State.linkGone
  simp only []
  split
  · split
    · exact State.mapLk_reg _ _ _
    · exact (State.reg_setReg_other _ _ h).trans (State.mapLk_reg _ _ _)
  · exact State.mapLk_reg _ _ _

/-- The path through link `q` is gone, holdover left aside. -/
def State.pathCut (s : State) (q : Nat) : State := s.mapLk fun x => { x with leadPaths := x.leadPaths.filter (· != q) }

theorem State.pathGone_reg {q : Nat} (h : k ≠ R.BEAT_STATUS) (he : ¬ eventReg k) : (s.pathGone q).reg k = s.reg k := by
  unfold State.pathGone
  simp only []
  split
  · exact ((State.raise_eventsOnly (by decide) (by decide)).reg k he).trans ((State.reg_setReg_other _ _ h).trans (State.mapLk_reg _ _ _))
  · exact State.mapLk_reg _ _ _

theorem State.pathGone_lk {q : Nat} : (s.pathGone q).lk = (s.pathCut q).lk := by
  unfold State.pathGone
  simp only []
  split
  · exact (State.raise_eventsOnly (by decide) (by decide)).lk.trans (State.setReg_lk _ _ _)
  · rfl

/-- A follower that loses its last path to the leader runs in holdover (R808, R54). -/
theorem State.pathGone_holdover {q : Nat} (hp : s.lk.leadPaths = [q]) (hf : s.regBit R.BEAT_STATUS 3 = true) (hr : s.running = true)
    (hh : s.regBit R.BEAT_STATUS 6 = false) : s.pathGone q = ((s.pathCut q).setRegBit R.BEAT_STATUS 6 true).raise 243 := by
  have hempty : (s.pathCut q).lk.leadPaths = [] := by
    change s.lk.leadPaths.filter (· != q) = []
    rw [hp]
    simp
  refine if_pos ⟨?_, hempty, hf, hr, ?_⟩
  · rw [hp]
    simp
  · exact Bool.eq_false_iff.mp hh

theorem pathGone_shows {q : Nat} (hp : s.lk.leadPaths = [q]) (hf : s.regBit R.BEAT_STATUS 3 = true) (hr : s.running = true)
    (hh : s.regBit R.BEAT_STATUS 6 = false) : (s.pathGone q).pondStatus.regBit R.BEAT_STATUS 6 = true ∧ (s.pathGone q).pondStatus.pends 243 := by
  rw [State.pathGone_holdover hp hf hr hh]
  refine ⟨?_, State.pends_of_reg (State.pondStatus_reg (by decide)) (State.raise_pends (by decide) (by decide))⟩
  rw [State.regBit_eq_of_reg (State.pondStatus_reg (by decide)),
    State.regBit_eq_of_reg ((State.raise_eventsOnly (by decide) (by decide)).reg _ (not_eventReg_low (by decide))), State.regBit_setRegBit (by decide),
    if_pos rfl]

theorem lookup_filter_fst_ne {α : Type} {x : List (Nat × α)} {q : Nat} : (x.filter fun p => p.1 != q).lookup q = none := by
  rw [List.lookup_eq_none_iff]
  intro p hp
  have hne := (List.mem_filter.mp hp).2
  simp only [bne_iff_ne] at hne
  simpa using Ne.symm hne

theorem uloonLinkDown_facts (h : s.regBit (R.ULOON_LINK_STATUS l) 0 = true) : Completes (.uloonLinkDown l) s fun t =>
    t.regField (R.ULOON_LINK_STATUS l) 1 0 = 0 ∧ t.lk.linkKeys.lookup l.val = none ∧ t.lk.peers.lookup l.val = none ∧
    (s.lk.leadPaths = [l.val] → s.regBit R.BEAT_STATUS 3 = true → s.running = true → s.regBit R.BEAT_STATUS 6 = false →
      t.regBit R.BEAT_STATUS 6 = true ∧ t.pends 243) := by
  obtain ⟨regs, hrest⟩ := State.linkGone_rest (s := s) (l := l)
  have hlk : ((s.linkGone l).pathGone l.val).pondStatus.lk = ((s.linkGone l).pathCut l.val).lk := State.pondStatus_lk.trans State.pathGone_lk
  have hbeat : ∀ {i : Nat}, (s.linkGone l).regBit R.BEAT_STATUS i = s.regBit R.BEAT_STATUS i := fun {i} =>
    State.regBit_eq_of_reg ((State.linkGone_reg (by decide)).trans
      (State.reg_setReg_other _ _ (by simp only [R.BEAT_STATUS, R.ULOON_LINK_STATUS]; omega)))
  refine ⟨_, exec_uloonLinkDown h, ?_, ?_, ?_, fun hp hf hr hh => pathGone_shows ?_ (hbeat.trans hf) (hbeat.trans hr) (hbeat.trans hh)⟩
  · have hne : R.ULOON_LINK_STATUS l ≠ R.ULOON_POND_STATUS ∧ R.ULOON_LINK_STATUS l ≠ R.BEAT_STATUS := by
      constructor <;> simp only [R.ULOON_LINK_STATUS, R.ULOON_POND_STATUS, R.BEAT_STATUS] <;> omega
    rw [State.regField, State.pondStatus_reg hne.1, State.pathGone_reg hne.2 (not_eventReg_link (by simp only [R.ULOON_LINK_STATUS]; omega)), State.linkGone_reg hne.1]
    exact State.regField_setRegField (by decide)
  · rw [hlk, hrest]
    exact lookup_filter_fst_ne
  · rw [hlk, hrest]
    exact lookup_filter_fst_ne
  · rw [hrest]
    exact hp

end

/-! ### A leader that waits -/

section
variable {t0 : Nat}

/-- A leader stops listening. -/
def State.listenOver (s : State) (t0 : Nat) : State :=
  ({ s with now := max s.now (t0 + 2000000000) } : State).mapLk fun l => { l with leadWait := none, startWanted := false }

theorem exec_uloonLeaderWaitExpiry (hw : s.lk.leadWait = some t0) (hg : ∀ n ∈ s.lk.good, n = 0) :
    exec .uloonLeaderWaitExpiry s = .next (if s.lk.startWanted = true then (s.listenOver t0).beatStart else s.listenOver t0) := by
  have hnone : (s.lk.good.any (· != 0)) = false := by
    rw [List.any_eq_false]
    intro n hn
    simp [hg n hn]
  change execUloonLeaderWaitExpiry s = _
  simp only [execUloonLeaderWaitExpiry, hw, hnone, Bool.false_eq_true, if_false]
  rfl

/-- START of a generator that follows nobody and waits for a TIME_PPS edge (R55). -/
theorem State.beatStart_pps (h₁ : s.regField R.BEAT_STATUS 1 0 = 0) (h₂ : s.regBit R.BEAT_STATUS 3 = false) (h₃ : s.regField R.BEAT_CTRL 5 4 = 0)
    (h₄ : s.regBit R.BEAT_CTRL 3 = true) (h₅ : s.lk.leadWait = none) :
    s.beatStart = (s.setRegField R.BEAT_STATUS 5 4 0).setRegBit R.BEAT_STATUS 1 true := by
  have hctrl : (s.setRegField R.BEAT_STATUS 5 4 0).regBit R.BEAT_CTRL 3 = true :=
    (State.regBit_eq_of_reg (State.reg_setReg_other _ _ (by decide))).trans h₄
  unfold State.beatStart
  rw [if_neg (by simp [h₁, h₂]), if_neg (by simp [h₅]), h₃]
  simp only [OfNat.zero_ne_ofNat, if_false, hctrl, if_true]

end

/-! ### The slot frame -/

section
variable {g : State → Nat × Nat → Bytes} {l : List (Nat × Nat)} {q : Nat}

/-- The frame `g` makes leaves on a peer's link, and is counted. -/
def State.slotSent (g : State → Nat × Nat → Bytes) (s : State) (p : Nat × Nat) : State :=
  (s.emit (.uloon p.1) (g s p)).bump (R.ULOON_LINK_TX_FRAMES p.1)

theorem State.slotSent_reg {p : Nat × Nat} (h : k ≠ R.ULOON_LINK_TX_FRAMES p.1) : (s.slotSent g p).reg k = s.reg k :=
  (State.reg_setReg_other _ _ h).trans State.emit_reg

theorem State.slotSent_count {p : Nat × Nat} :
    (s.slotSent g p).reg (R.ULOON_LINK_TX_FRAMES p.1) = satInc (s.reg (R.ULOON_LINK_TX_FRAMES p.1)) :=
  (State.reg_setReg_same _ _ _).trans (congrArg satInc State.emit_reg)

theorem State.slotSent_out {p : Nat × Nat} : (s.slotSent g p).out = ⟨.uloon p.1, s.beat, g s p⟩ :: s.out := by
  unfold State.slotSent
  rw [State.bump, State.setReg_out, State.emit_of_passes rfl]

theorem State.slotSent_now {p : Nat × Nat} : (s.slotSent g p).now = s.now := by
  unfold State.slotSent
  rw [State.bump, State.setReg_now, State.emit_of_passes rfl]

theorem State.slotSent_beat {p : Nat × Nat} : (s.slotSent g p).beat = s.beat :=
  congrArg₂ (fun a b : Word => a.toNat + 2 ^ 32 * b.toNat)
    (State.slotSent_reg (by simp only [R.BEAT_COUNT_LO, R.ULOON_LINK_TX_FRAMES]; omega))
    (State.slotSent_reg (by simp only [R.BEAT_COUNT_LO, R.ULOON_LINK_TX_FRAMES]; omega))

theorem State.slotsSent_reg (h : ∀ p ∈ l, k ≠ R.ULOON_LINK_TX_FRAMES p.1) : (l.foldl (State.slotSent g) s).reg k = s.reg k :=
  List.foldlRecOn l _ (motive := fun t : State => t.reg k = s.reg k) rfl fun _ ht p hp => (State.slotSent_reg (h p hp)).trans ht

theorem State.slotsSent_now : (l.foldl (State.slotSent g) s).now = s.now :=
  List.foldlRecOn l _ (motive := fun t : State => t.now = s.now) rfl fun _ ht _ _ => State.slotSent_now.trans ht

theorem State.slotsSent_out {o : Output} (h : o ∈ s.out) : o ∈ (l.foldl (State.slotSent g) s).out :=
  List.foldlRecOn l _ (motive := fun t : State => o ∈ t.out) h fun t ht p _ => State.slotSent_out (s := t) (p := p) ▸ List.mem_cons_of_mem _ ht

/-- On every link that is up one frame leaves, counted once. -/
theorem State.slotsSent_facts (hn : (l.map (·.1)).Nodup) {p : Nat × Nat} (hp : p ∈ l) :
    (l.foldl (State.slotSent g) s).reg (R.ULOON_LINK_TX_FRAMES p.1) = satInc (s.reg (R.ULOON_LINK_TX_FRAMES p.1)) ∧
      ∃ bs, (⟨.uloon p.1, s.beat, bs⟩ : Output) ∈ (l.foldl (State.slotSent g) s).out := by
  have hinj : ∀ {a b : Nat}, a ≠ b → R.ULOON_LINK_TX_FRAMES a ≠ R.ULOON_LINK_TX_FRAMES b := by
    intro a b
    simp only [R.ULOON_LINK_TX_FRAMES]
    omega
  induction l generalizing s with
  | nil => cases hp
  | cons x xs ih =>
    obtain ⟨hx, hxs⟩ := List.nodup_cons.mp hn
    rw [List.foldl_cons]
    rcases List.mem_cons.mp hp with rfl | hp
    · refine ⟨(State.slotsSent_reg fun y hy => hinj fun h => hx (List.mem_map.mpr ⟨y, hy, h.symm⟩)).trans State.slotSent_count, g s p,
        State.slotsSent_out ?_⟩
      rw [State.slotSent_out]
      exact List.mem_cons_self
    · obtain ⟨hcount, bs, hout⟩ := ih (s := s.slotSent g x) hxs hp
      refine ⟨hcount.trans (congrArg satInc (State.slotSent_reg (hinj fun h => hx (List.mem_map.mpr ⟨p, hp, h⟩)))), bs, ?_⟩
      rwa [State.slotSent_beat] at hout

end

/-! ### Received frames -/

/-- What hearing another member leaves: registers apart from those of the pond's membership and the events', and the members already
heard. -/
structure State.Hears (s t : State) : Prop where
  reg : ∀ k, k ≠ R.ULOON_POND_STATUS → k ≠ R.ULOON_MIRROR_MASK → k ≠ R.KEYS_STATUS → ¬ eventReg k → t.reg k = s.reg k
  heard : ∀ i, 16 ≤ i → s.regBit R.ULOON_POND_STATUS i = true → t.regBit R.ULOON_POND_STATUS i = true

namespace State.Hears

theorem of_regs (h : ∀ k, t.reg k = s.reg k) : s.Hears t := ⟨fun k _ _ _ _ => h k, fun _ _ hb => (State.regBit_eq_of_reg (h _)).trans hb⟩

theorem trans (h : s.Hears t) (h' : t.Hears u) : s.Hears u :=
  ⟨fun k h₁ h₂ h₃ h₄ => (h'.reg k h₁ h₂ h₃ h₄).trans (h.reg k h₁ h₂ h₃ h₄), fun i hi hb => h'.heard i hi (h.heard i hi hb)⟩

theorem ite {p : Prop} [Decidable p] (h : s.Hears t) (h' : s.Hears u) : s.Hears (if p then t else u) := by
  split
  · exact h
  · exact h'

theorem mapLk {f : LinkState → LinkState} : s.Hears (s.mapLk f) := of_regs fun k => State.mapLk_reg s f k

theorem eventsOnly (h : s.EventsOnly t) : s.Hears t :=
  ⟨fun k _ _ _ hk => h.reg k hk, fun _ _ hb => (State.regBit_eq_of_reg (h.reg _ (not_eventReg_link (by decide)))).trans hb⟩

theorem foldl {α : Type} {f : State → α → State} {l : List α} (h : ∀ (u : State) (a : α), u.Hears (f u a)) : s.Hears (l.foldl f s) :=
  List.foldlRecOn l f (motive := fun u : State => s.Hears u) (of_regs fun _ => rfl) fun u hu a _ => hu.trans (h u a)

theorem setMirror {b : Bool} : s.Hears (s.setRegBit R.ULOON_MIRROR_MASK m b) :=
  ⟨fun _ _ h _ _ => State.reg_setReg_other _ _ h, fun _ _ hb => (State.regBit_eq_of_reg (State.reg_setReg_other _ _ (by decide))).trans hb⟩

theorem pondStatus : s.Hears s.pondStatus :=
  ⟨fun _ h _ _ _ => State.pondStatus_reg h, fun _ hi hb => (State.pondStatus_accepted hi).trans hb⟩

theorem setKeysStatus {i : Nat} {b : Bool} : s.Hears (s.setRegBit R.KEYS_STATUS i b) :=
  ⟨fun _ _ _ h _ => State.reg_setReg_other _ _ h, fun _ _ hb => (State.regBit_eq_of_reg (State.reg_setReg_other _ _ (by decide))).trans hb⟩

theorem post {m : Mail} : s.Hears (s.post m) := of_regs fun k => State.mapKs_reg s _ k

theorem resync {p : Nat} : s.Hears (s.resync p) := foldl fun _ _ => by
  dsimp only
  split
  · exact post.trans setKeysStatus
  · exact of_regs fun _ => rfl

end State.Hears

/-- Member `p` is heard. -/
def State.heardFrom (s : State) (p : Nat) : State := (s.setRegBit R.ULOON_POND_STATUS (16 + p) true).pondStatus

theorem State.heardFrom_hears {p : Nat} (hp : p < 16) : s.Hears (s.heardFrom p) := by
  have hset : s.Hears (s.setRegBit R.ULOON_POND_STATUS (16 + p) true) := by
    refine ⟨fun _ h _ _ _ => State.reg_setReg_other _ _ h, fun i _ hb => ?_⟩
    rw [State.regBit_setRegBit (by omega)]
    split
    · rfl
    · exact hb
  exact hset.trans .pondStatus

theorem State.heardFrom_bit {p : Nat} (hp : p < 16) : (s.heardFrom p).regBit R.ULOON_POND_STATUS (16 + p) = true := by
  rw [State.heardFrom, State.pondStatus_accepted (by omega), State.regBit_setRegBit (by omega), if_pos rfl]

section
variable {l : Fin 8} {peer : Fin 16} {sync same : Bool}

/-- A frame of `peer` accepted: `peer` is heard, and all others as before. -/
theorem State.goodFrom_hears {p : Nat} (hp : p < 16) :
    s.Hears (s.goodFrom l.val p sync same) ∧ (s.goodFrom l.val p sync same).regBit R.ULOON_POND_STATUS (16 + p) = true := by
  have hmore : ∃ t : State, (∀ k, t.reg k = s.reg k) ∧ (t.heardFrom p).Hears (s.goodFrom l.val p sync same) := by
    refine ⟨s.mapLk fun x => { x with late := x.late.set p 0, good := x.good.set p (s.lk.good.getD p 0 + 1) }, fun k => State.mapLk_reg s _ k,
      .ite (.trans .setMirror (.trans .resync (.eventsOnly State.raiseLink_eventsOnly))) (.of_regs fun _ => rfl)⟩
  obtain ⟨t, ht, hh⟩ := hmore
  exact ⟨.trans (.of_regs ht) (.trans (State.heardFrom_hears hp) hh), hh.heard _ (by omega) (State.heardFrom_bit hp)⟩

theorem State.takeMessage_hears {m : PondMsg} : s.Hears (s.takeMessage l.val sync same m) := by
  unfold State.takeMessage
  refine .ite (.of_regs fun _ => rfl) ?_
  extract_lets a b
  have ha : s.Hears a := State.Hears.mapLk (s := s)
  have hb : a.Hears b := .ite .mapLk (.of_regs fun _ => rfl)
  exact (ha.trans hb).trans (.ite (State.goodFrom_hears m.origin.isLt).1 (.of_regs fun _ => rfl))

/-- A running member's own use of a BEAT message: its offset, its lock and its holdover. -/
theorem State.takeBeat_running {sender delay beat : Nat} {offset : Int} (hr : s.running = true) :
    (∀ k, k ≠ R.ULOON_OFFSET → k ≠ R.ULOON_POND_STATUS → k ≠ R.BEAT_STATUS → (s.takeBeat sender delay beat offset).reg k = s.reg k) ∧
      ∀ i, 16 ≤ i → (s.takeBeat sender delay beat offset).regBit R.ULOON_POND_STATUS i = s.regBit R.ULOON_POND_STATUS i := by
  unfold State.takeBeat
  rw [if_neg (by simp [hr])]
  split
  · dsimp only
    refine ⟨fun k h₁ h₂ h₃ => (State.reg_setReg_other _ _ h₃).trans ((State.reg_setReg_other _ _ h₂).trans (State.reg_setReg_other _ _ h₁)), fun i hi => ?_⟩
    refine (State.regBit_eq_of_reg (State.reg_setReg_other _ _ (by decide))).trans ((State.regBit_setRegBit (by decide)).trans ?_)
    rw [if_neg (by omega)]
    exact State.regBit_eq_of_reg (State.reg_setReg_other _ _ (by decide))
  · exact ⟨fun k _ h₂ _ => State.reg_setReg_other _ _ h₂, fun i hi => by rw [State.regBit_setRegBit (by decide), if_neg (by omega)]⟩

/-- The messages of an accepted frame, and the path that it shows. -/
def State.frameHeard (s : State) (l : Fin 8) (peer : Fin 16) (sync same : Bool) (msgs : List PondMsg) : State :=
  let s := (s.bump (R.ULOON_LINK_RX_FRAMES l.val)).goodFrom l.val peer.val sync same
  let s := if peer.val = s.leader ∧ ¬ s.lk.leadPaths.contains l.val then s.mapLk fun x => { x with leadPaths := l.val :: x.leadPaths } else s
  msgs.foldl (fun s m => s.takeMessage l.val sync same m) s

theorem State.frameHeard_facts {msgs : List PondMsg} :
    (s.bump (R.ULOON_LINK_RX_FRAMES l.val)).Hears (s.frameHeard l peer sync same msgs) ∧
      (s.frameHeard l peer sync same msgs).regBit R.ULOON_POND_STATUS (16 + peer.val) = true := by
  obtain ⟨hgood, hbit⟩ := State.goodFrom_hears (s := s.bump (R.ULOON_LINK_RX_FRAMES l.val)) (l := l) (sync := sync) (same := same) peer.isLt
  have hrest : ((s.bump (R.ULOON_LINK_RX_FRAMES l.val)).goodFrom l.val peer.val sync same).Hears (s.frameHeard l peer sync same msgs) :=
    .trans (.ite .mapLk (.of_regs fun _ => rfl)) (.foldl fun _ _ => State.takeMessage_hears)
  exact ⟨hgood.trans hrest, hrest.heard _ (by omega) hbit⟩

variable {start beat : Nat} {offset : Int} {msgs : List PondMsg}

theorem exec_uloonSlotFrameReceived_bad (hl : s.regBit (R.ULOON_LINK_STATUS l) 1 = true) :
    exec (.uloonSlotFrameReceived l peer start false sync beat offset msgs) s = .next (s.bump (R.ULOON_LINK_RX_BAD l.val)) := by
  refine congrArg Host.Outcome.next ((if_neg ?_).trans (if_pos (by decide)))
  simp [hl]

/-- Felt time stands at a frame's start. -/
def State.atStart (s : State) (start : Nat) : State := { s with now := max s.now (s.bt.edgeAt + start) }

theorem exec_uloonSlotFrameReceived (hl : s.regBit (R.ULOON_LINK_STATUS l) 1 = true) (hr : s.running = true) :
    exec (.uloonSlotFrameReceived l peer start true sync beat offset msgs) s = .next
      (if ¬ inWindow s.beatNs start (s.reg (R.ULOON_LINK_DELAY l.val)).toNat peer.val then
        ((s.atStart start).bump (R.ULOON_LINK_RX_LATE l.val)).lateFrom l.val peer.val
      else ((s.atStart start).frameHeard l peer sync (decide (beat = s.beat)) msgs).takeBeat peer.val (s.reg (R.ULOON_LINK_DELAY l.val)).toNat beat offset) := by
  have hr' : (s.atStart start).running = true := hr
  refine congrArg Host.Outcome.next ((if_neg ?_).trans ((if_neg (by decide)).trans ?_))
  · simp [hl]
  · rw [if_pos hr]
    change (if (s.atStart start).running ∧ _ then _ else _) = _
    simp only [hr', true_and]
    rfl

/-- The fourth frame in a row at a wrong time, or without integrity, takes member `p` out of mirroring (R811). -/
theorem State.lateFrom_facts {p : Nat} (hk : 0x101300100 ≤ k) :
    (s.lateFrom l.val p).reg k = s.reg k ∧ (s.lk.late.getD p 0 = 3 → p < 16 → s.regBit R.ULOON_MIRROR_MASK p = true →
      (s.lateFrom l.val p).regBit R.ULOON_MIRROR_MASK p = false ∧ (s.lateFrom l.val p).pends (208 + l.val)) := by
  unfold State.lateFrom
  extract_lets n a
  have hreg : ∀ {j : Nat}, j ≠ R.ULOON_POND_STATUS → j ≠ R.ULOON_REMOVALS →
      ((((a.dropPeer p).bump R.ULOON_REMOVALS).setRegBit R.ULOON_POND_STATUS (16 + p) false).pondStatus).reg j = (a.dropPeer p).reg j := fun h₁ h₂ =>
    (State.pondStatus_reg h₁).trans ((State.reg_setReg_other _ _ h₁).trans (State.reg_setReg_other _ _ h₂))
  have ha : ∀ j, a.reg j = s.reg j := fun j => State.mapLk_reg s _ j
  constructor
  · split
    · rw [State.raiseLink_eventsOnly.reg k (not_eventReg_link (by omega)), hreg (by simp only [R.ULOON_POND_STATUS]; omega)
        (by simp only [R.ULOON_REMOVALS]; omega), State.dropPeer, State.mapKs_reg, State.setRegBit,
        State.reg_setReg_other _ _ (by simp only [R.ULOON_MIRROR_MASK]; omega), ha]
    · exact ha k
  · intro hlate hp hm
    rw [if_pos ⟨by omega, (State.regBit_eq_of_reg (ha _)).trans hm⟩]
    refine ⟨?_, State.raiseLink_pends⟩
    rw [State.regBit_eq_of_reg ((State.raiseLink_eventsOnly.reg _ (not_eventReg_link (by decide))).trans ((hreg (by decide) (by decide)).trans
      (State.mapKs_reg _ _ _))), State.regBit_setRegBit (by omega), if_pos rfl]

end

/-! ### Transport keys -/

theorem State.drawDev_bytes {n : Nat} (h : n ≤ s.spr.devQueue.length) : (s.drawDev n).1 = s.spr.devQueue.take n := by
  induction n generalizing s with
  | zero => rfl
  | succ n ih =>
    obtain ⟨b, q, hq⟩ := List.exists_cons_of_length_pos (show 0 < s.spr.devQueue.length by omega)
    have hlen : n ≤ (s.mapSpr fun p => { p with devQueue := p.devQueue.drop 1 }).spr.devQueue.length := by
      simp only [State.mapSpr, List.length_drop]
      omega
    rw [State.drawDev]
    simp only [hq]
    rw [ih hlen]
    simp only [State.mapSpr, hq, List.headD_cons, List.drop_succ_cons, List.drop_zero, List.take_succ_cons]

theorem State.drawDev_ks {n : Nat} : (s.drawDev n).2.ks = s.ks := by rw [State.drawDev_eq]

theorem State.foldl_transport {α : Type} {f : State → α → State} {l : List α} (h : ∀ u a, (f u a).ks.transport = u.ks.transport) :
    (l.foldl f s).ks.transport = s.ks.transport :=
  List.foldlRecOn l f (motive := fun u : State => u.ks.transport = s.ks.transport) rfl fun u hu a _ => (h u a).trans hu

/-- The next transport key of deckle `d`, drawn. -/
def State.transportDrawn (s : State) (d : Nat) : State :=
  (s.drawDev 32).2.mapKs fun x => { x with
    transport := (d, (((s.drawDev 32).2.ks.transport.find? fun t => t.1 == d).map (fun t => t.2.1)).getD 0 + 1, (s.drawDev 32).1) ::
      x.transport.filter fun t => t.1 != d }

/-- The message for member `m` that carries the transport key of deckle `d`, where `m` mirrors the deckle. -/
def State.transportPost (d k : Nat) (key : Bytes) (s : State) (m : Nat) : State :=
  if s.regBit R.ULOON_MIRROR_MASK m ∧ nbit (s.reg (R.KEYS_MIRROR_LIST d)).toNat m then
    s.post ⟨5, 0, s.member, m, d, 0, k, (List.range 1120).map (Config.pondByte ([5, by8 m, by8 d] ++ key))⟩
  else s

theorem State.transportPost_transport {d k : Nat} {key : Bytes} : (s.transportPost d k key m).ks.transport = s.ks.transport := by
  unfold State.transportPost
  split <;> rfl

/-- The lowest member that mirrors a deckle draws its transport key (R815). -/
theorem transportKeyDistribute_facts {d : Deckle} (hp : s.inPond = true) (hd : s.regBit (R.KEYS_DCFG d) 2 = true) (hv : s.spr.device ≠ none)
    (hq : 32 ≤ s.spr.devQueue.length)
    (hb : ∀ m, m < s.member → ¬ (s.regBit R.ULOON_MIRROR_MASK m = true ∧ nbit (s.reg (R.KEYS_MIRROR_LIST d)).toNat m = true)) :
    Completes (.transportKeyDistribute d) s fun t => (t.ks.transport.find? fun x => x.1 == d.val) =
      some (d.val, ((s.ks.transport.find? fun x => x.1 == d.val).map (fun x => x.2.1)).getD 0 + 1, s.spr.devQueue.take 32) := by
  have hbelow : ((List.range s.member).any fun m => s.regBit R.ULOON_MIRROR_MASK m && nbit (s.reg (R.KEYS_MIRROR_LIST d.val)).toNat m) = false := by
    rw [List.any_eq_false]
    intro m hm
    rw [Bool.and_eq_true]
    exact hb m (List.mem_range.mp hm)
  refine ⟨_, congrArg Host.Outcome.next (if_neg ?_), ?_⟩
  · simpa [hp, hd, hbelow] using hv
  · have hnext : (s.transportDrawn d.val).ks.transport.find? (fun x => x.1 == d.val) =
        some (d.val, ((s.ks.transport.find? fun x => x.1 == d.val).map (fun x => x.2.1)).getD 0 + 1, s.spr.devQueue.take 32) := by
      rw [← State.drawDev_bytes hq, ← State.drawDev_ks (s := s) (n := 32)]
      exact List.find?_cons_of_pos (by simp)
    exact (congrArg (List.find? fun x => x.1 == d.val) (State.foldl_transport (s := s.transportDrawn d.val) fun _ _ =>
      State.transportPost_transport (d := d.val))).trans hnext

end Sys2Proof.Machine

namespace Sys2Proof

open Machine

section
variable {s : State} {l : Fin 8} {peer : Fin 16}

theorem uloonLinkUp_facts {id : Word} {rootOk : Bool} {us hops delay : Nat} {life : Fin 5} (hp : s.inPond = true)
    (hc : s.regBit R.ULOON_POND_CFG (8 + l) = true) (hl : s.regBit (R.ULOON_LINK_STATUS l) 0 = false) :
    (s.linkCause peer id rootOk us life = 0 →
      Completes (.uloonLinkUp l peer id rootOk us life hops delay) s fun t =>
        t.reg (R.ULOON_LINK_STATUS l) = w32 (3 + peer * 16) ∧ t.reg (R.ULOON_LINK_DELAY l) = w32 (delay % 65536) ∧
        t.lk.peers.lookup l.val = some peer.val ∧ (t.lk.linkKeys.lookup l.val).isSome) ∧
    (s.linkCause peer id rootOk us life ≠ 0 →
      Completes (.uloonLinkUp l peer id rootOk us life hops delay) s fun t =>
        t.reg (R.ULOON_LINK_STATUS l) = w32 (s.linkCause peer id rootOk us life * 256) ∧ t.pends (208 + l) ∧ t.lk = s.lk) := by
  refine ⟨fun h => ⟨_, exec_uloonLinkUp hp hc hl, ?_⟩, fun h => ⟨_, exec_uloonLinkUp hp hc hl, ?_⟩⟩
  · rw [if_neg (by simp [h])]
    exact State.linkAccepted_facts
  · rw [if_pos h]
    exact ⟨(State.raiseLink_eventsOnly.reg _ (not_eventReg_link (by simp only [R.ULOON_LINK_STATUS]; omega))).trans (State.reg_setReg_same _ _ _),
      State.raiseLink_pends, State.raiseLink_eventsOnly.lk.trans (State.setReg_lk _ _ _)⟩

theorem uloonLeaderWaitExpiry_facts {t0 : Nat} (hw : s.lk.leadWait = some t0) (hg : ∀ n ∈ s.lk.good, n = 0) :
    (s.lk.startWanted = false →
      Completes .uloonLeaderWaitExpiry s fun t => t.lk.leadWait = none ∧ t.now = max s.now (t0 + 2000000000) ∧ s.onlyRegs t []) ∧
    (s.lk.startWanted = true → s.regField R.BEAT_STATUS 1 0 = 0 → s.regBit R.BEAT_STATUS 3 = false → s.regField R.BEAT_CTRL 5 4 = 0 →
      s.regBit R.BEAT_CTRL 3 = true →
      Completes .uloonLeaderWaitExpiry s fun t => t.lk.leadWait = none ∧ t.regBit R.BEAT_STATUS 1 = true) := by
  refine ⟨fun h => ⟨_, exec_uloonLeaderWaitExpiry hw hg, ?_⟩, fun h h₁ h₂ h₃ h₄ => ⟨_, exec_uloonLeaderWaitExpiry hw hg, ?_⟩⟩
  · rw [if_neg (by simp [h])]
    exact ⟨rfl, rfl, rfl, rfl, fun _ _ => State.mapLk_reg _ _ _⟩
  · rw [if_pos h, State.beatStart_pps (s := s.listenOver t0) h₁ h₂ h₃ h₄ rfl]
    refine ⟨?_, ?_⟩
    · rw [State.setRegBit, State.setReg_lk, State.setRegField, State.setReg_lk]
      rfl
    · rw [State.regBit_setRegBit (by decide), if_pos rfl]

theorem uloonSlotTransmit_facts (hr : s.running = true) (hp : s.inPond = true) (hn : s.now < s.bt.edgeAt + s.member * s.beatNs / 16 + 200)
    (hd : (s.lk.peers.map (·.1)).Nodup) :
    Completes .uloonSlotTransmit s fun t => t.now = s.bt.edgeAt + s.member * s.beatNs / 16 + 200 ∧
      ∀ p ∈ s.lk.peers, t.reg (R.ULOON_LINK_TX_FRAMES p.1) = satInc (s.reg (R.ULOON_LINK_TX_FRAMES p.1)) ∧
        ∃ bs, (⟨.uloon p.1, s.beat, bs⟩ : Output) ∈ t.out := by
  refine ⟨_, congrArg Host.Outcome.next (if_neg ?_), ?_⟩
  · simpa [hr, hp] using hn
  · exact ⟨State.slotsSent_now, fun p hm => State.slotsSent_facts hd hm⟩

end

/-- Settles O35: Uloon links, member frames and received frames. -/
theorem uloonLinks : Obligations.UloonLinks := by
  intro s l peer id rootOk us life hops delay
  refine ⟨uloonLinkUp_facts, uloonLinkDown_facts, fun t0 => uloonLeaderWaitExpiry_facts, fun hr hp hn hd _ => uloonSlotTransmit_facts hr hp hn hd,
    fun start beat sync offset msgs hl => ⟨⟨_, exec_uloonSlotFrameReceived_bad hl, State.setReg_onlyRegs⟩, fun hr hw => ⟨_, exec_uloonSlotFrameReceived hl hr, ?_⟩,
      fun hr hw => ⟨_, exec_uloonSlotFrameReceived hl hr, ?_⟩⟩,
    fun d => transportKeyDistribute_facts⟩
  · rw [if_pos (by simp [hw])]
    obtain ⟨hreg, hlate⟩ := State.lateFrom_facts (s := (s.atStart start).bump (R.ULOON_LINK_RX_LATE l.val)) (l := l) (p := peer.val)
      (k := R.ULOON_LINK_RX_LATE l) (by simp only [R.ULOON_LINK_RX_LATE]; omega)
    refine ⟨hreg.trans (State.reg_setReg_same _ _ _), fun h3 hm => hlate h3 peer.isLt ?_⟩
    exact (State.regBit_eq_of_reg (State.reg_setReg_other _ _ (by simp only [R.ULOON_MIRROR_MASK, R.ULOON_LINK_RX_LATE]; omega))).trans hm
  · rw [if_neg (by simp [hw])]
    obtain ⟨hh, hbit⟩ := State.frameHeard_facts (s := s.atStart start) (l := l) (peer := peer) (sync := sync) (same := decide (beat = s.beat)) (msgs := msgs)
    have hreg := hh.reg
    have hrun : ((s.atStart start).frameHeard l peer sync (decide (beat = s.beat)) msgs).running = true :=
      ((State.regBit_eq_of_reg (hreg _ (by decide) (by decide) (by decide) (not_eventReg_low (by decide)))).trans
        (State.regBit_eq_of_reg (State.reg_setReg_other _ _ (by simp only [R.BEAT_STATUS, R.ULOON_LINK_RX_FRAMES]; omega)))).trans hr
    obtain ⟨htake, hacc⟩ := State.takeBeat_running (sender := peer.val) (delay := (s.reg (R.ULOON_LINK_DELAY l.val)).toNat) (beat := beat)
      (offset := offset) hrun
    refine ⟨?_, (hacc _ (by omega)).trans hbit⟩
    have hne : ∀ {j : Nat}, j < 0x101300100 → R.ULOON_LINK_RX_FRAMES l ≠ j := by simp only [R.ULOON_LINK_RX_FRAMES]; omega
    rw [htake _ (hne (by decide)) (hne (by decide)) (hne (by decide)), hreg _ (hne (by decide)) (hne (by decide)) (hne (by decide))
      (not_eventReg_link (by simp only [R.ULOON_LINK_RX_FRAMES]; omega))]
    exact State.reg_setReg_same _ _ _

end Sys2Proof

/-! SUPPORT. The network ports: links, MKA, received frames, ARP, Neighbor Discovery and responses (R768 to R779, R960). -/

namespace Sys2Proof.Machine

variable {s t : State} {p : Fin 64} {i k : Nat}

/-! ### Port events -/

theorem State.netEvent_eventsOnly : (s.setRegBit (R.NETW_EVT_STATUS p) i true).EventsOnly (s.netEvent p i) :=
  .ite (State.raise_eventsOnly (by omega) (by simp only [List.mem_cons, List.not_mem_nil, or_false]; omega)) .refl

theorem State.netEvent_reg (hk : 0x101000000 ≤ k) (h : k ≠ R.NETW_EVT_STATUS p) : (s.netEvent p i).reg k = s.reg k :=
  (State.netEvent_eventsOnly.reg k (not_eventReg_of_netw hk)).trans (State.reg_setReg_other _ _ h)

theorem State.netEvent_noted (hi : i < 32) : (s.netEvent p i).regBit (R.NETW_EVT_STATUS p) i = true := by
  rw [State.regBit_eq_of_reg (State.netEvent_eventsOnly.reg _ (not_eventReg_of_netw (by simp only [R.NETW_EVT_STATUS]; omega))),
    State.regBit_setRegBit hi, if_pos rfl]

theorem State.netEvent_status : (s.netEvent p i).reg (R.NETW_STATUS p) = s.reg (R.NETW_STATUS p) :=
  State.netEvent_reg (by simp only [R.NETW_STATUS]; omega) (by simp only [R.NETW_STATUS, R.NETW_EVT_STATUS]; omega)

theorem State.EventsOnly.out (h : s.EventsOnly t) : t.out = s.out := by
  obtain ⟨_, _, _, _, _, h⟩ := h.rest
  rw [h]

theorem State.netEvent_bt : (s.netEvent p i).bt = s.bt := State.netEvent_eventsOnly.bt.trans (State.setReg_bt _ _ _)

theorem State.netEvent_out : (s.netEvent p i).out = s.out := State.netEvent_eventsOnly.out.trans (State.setReg_out _ _ _)

/-! ### Links and MKA -/

theorem State.mkaLost_live : (s.mkaLost p).regBit (R.NETW_STATUS p) 3 = false := by
  unfold State.mkaLost
  split
  · rw [State.regBit_eq_of_reg State.netEvent_status, State.regBit, State.setRegField, State.reg_setReg_same, bit_setField, if_pos (by decide)]
    rfl
  next h => exact Bool.eq_false_iff.mpr h

theorem State.netDown_facts (hup : s.regBit (R.NETW_STATUS p) 0 = true) : (s.netDown p).regBit (R.NETW_STATUS p) 0 = false ∧
    (s.netDown p).regBit (R.NETW_STATUS p) 3 = false ∧ (s.netDown p).regBit (R.NETW_EVT_STATUS p) 0 = true := by
  rw [State.netDown, if_pos hup]
  refine ⟨?_, ?_, State.netEvent_noted (by decide)⟩
  · rw [State.regBit_eq_of_reg State.netEvent_status, State.regBit, State.setRegField, State.reg_setReg_same, bit_setField, if_pos (by decide)]
    rfl
  · rw [State.regBit_eq_of_reg State.netEvent_status, State.regBit, State.setRegField, State.reg_setReg_same, bit_setField_other (.inr (by decide))]
    exact State.mkaLost_live

/-- The port has its live peer. -/
def State.peerLive (s : State) (p : Nat) : State :=
  if s.regBit (R.NETW_STATUS p) 3 then s else (s.setRegBit (R.NETW_STATUS p) 3 true).netEvent p 1

theorem State.peerLive_live : (s.peerLive p).regBit (R.NETW_STATUS p) 3 = true := by
  unfold State.peerLive
  split
  next h => exact h
  next => rw [State.regBit_eq_of_reg State.netEvent_status, State.regBit_setRegBit (by decide), if_pos rfl]

/-- Association `an` is installed for transmission and reception. -/
def State.sakInstalled (s : State) (p : Nat) (an : Fin 4) : State :=
  s.setReg (R.NETW_STATUS p) (setField (setField (s.reg (R.NETW_STATUS p)) 11 8 (5 * an.val)) 4 4 1)

theorem exec_mkaFrame (hup : s.regBit (R.NETW_STATUS p) 0 = true) (hd : (s.deckleOfPort p).isSome = true) (hc : s.cakOk p = true)
    {sa : Option (Fin 4)} : exec (.mkaFrame p true true sa) s = .next (sa.elim (s.peerLive p) ((s.peerLive p).sakInstalled p)) := by
  obtain ⟨d, hd⟩ := Option.isSome_iff_exists.mp hd
  refine congrArg Host.Outcome.next ((if_neg ?_).trans ((if_neg ?_).trans ((if_neg ?_).trans ?_)))
  · simp [hup, hd]
  · simp [hc]
  · decide
  · cases sa <;> rfl

theorem State.sakInstalled_live {an : Fin 4} : (s.sakInstalled p an).regBit (R.NETW_STATUS p) 3 = s.regBit (R.NETW_STATUS p) 3 := by
  rw [State.regBit, State.sakInstalled, State.reg_setReg_same, bit_setField_other (.inl (by decide)), bit_setField_other (.inl (by decide))]
  rfl

theorem State.sakInstalled_shown {an : Fin 4} : (s.sakInstalled p an).regBit (R.NETW_STATUS p) 4 = true ∧
    (s.sakInstalled p an).regField (R.NETW_STATUS p) 11 8 = 5 * an.val := by
  constructor
  · rw [State.regBit, State.sakInstalled, State.reg_setReg_same, bit_setField, if_pos (by decide)]
    rfl
  · rw [State.regField, State.sakInstalled, State.reg_setReg_same, field_setField_other (.inr (by decide)), field_setField_same (by decide)]
    exact Nat.mod_eq_of_lt (by omega)

theorem mkaFrame_facts (hup : s.regBit (R.NETW_STATUS p) 0 = true) (hd : (s.deckleOfPort p).isSome = true) :
    (s.cakOk p = true → ∀ sa, Completes (.mkaFrame p true true sa) s fun t =>
      t.regBit (R.NETW_STATUS p) 3 = true ∧
      ∀ an, sa = some an → t.regBit (R.NETW_STATUS p) 4 = true ∧ t.regField (R.NETW_STATUS p) 11 8 = 5 * an.val) ∧
    (s.cakOk p = true → ∀ live sa, exec (.mkaFrame p false live sa) s = .next s) ∧
    (s.cakOk p = false → ∀ icv live sa, Completes (.mkaFrame p icv live sa) s fun t =>
      t.regBit (R.NETW_STATUS p) 3 = false ∧ t.regBit (R.NETW_EVT_STATUS p) 1 = true) := by
  have hnone : ¬ (¬ s.regBit (R.NETW_STATUS p) 0 = true ∨ (s.deckleOfPort p).isNone = true) := by
    obtain ⟨d, hd⟩ := Option.isSome_iff_exists.mp hd
    simp [hup, hd]
  refine ⟨fun hc sa => ⟨_, exec_mkaFrame hup hd hc, ?_⟩, fun hc live sa => ?_, fun hc icv live sa => ⟨(s.mkaLost p).netEvent p 1, ?_, ?_⟩⟩
  · cases sa with
    | none => exact ⟨State.peerLive_live, nofun⟩
    | some an =>
      refine ⟨State.sakInstalled_live.trans State.peerLive_live, fun _ h => ?_⟩
      cases h
      exact State.sakInstalled_shown
  · exact congrArg Host.Outcome.next ((if_neg hnone).trans ((if_neg (by simp [hc])).trans (if_pos (by simp))))
  · exact congrArg Host.Outcome.next ((if_neg hnone).trans (if_pos (by simp [hc])))
  · exact ⟨(State.regBit_eq_of_reg State.netEvent_status).trans State.mkaLost_live, State.netEvent_noted (by decide)⟩

theorem mkaLivePeerLost_facts (h : s.regBit (R.NETW_STATUS p) 3 = true) : Completes (.mkaLivePeerLost p) s fun t =>
    t.regBit (R.NETW_STATUS p) 3 = false ∧ t.regBit (R.NETW_STATUS p) 4 = false ∧ t.regBit (R.NETW_EVT_STATUS p) 1 = true := by
  refine ⟨_, rfl, State.mkaLost_live, ?_, ?_⟩
  · rw [State.mkaLost, if_pos h, State.regBit_eq_of_reg State.netEvent_status, State.regBit, State.setRegField, State.reg_setReg_same, bit_setField,
      if_pos (by decide)]
    rfl
  · rw [State.mkaLost, if_pos h]
    exact State.netEvent_noted (by decide)

/-! ### Received frames -/

section
variable {f : Bytes} {fcs mac : Bool} (hup : s.regBit (R.NETW_STATUS p) 0 = true)
include hup

/-- The first check that a received frame fails, or its route (R769). -/
def State.frameTaken (s : State) (p : Fin 64) (f : Bytes) : State :=
  let e := etherParse f
  (ipParse (beNat (slice f 6 6)) (e.1.getD 0) e.2.1 e.2.2 (s.portIp4 p) (s.portIp6 p)).elim (s.bump (R.NETW_RX_L3 p)) fun d => s.frameIn p d.1 d.2

theorem exec_networkFrameReceived : exec (.networkFrameReceived p f fcs mac) s = .next
    (if ¬ fcs ∨ 9216 < f.length + 4 then s.bump (R.NETW_RX_FCS p)
    else if (etherParse f).2.1 = 0x8808 then s.bump (R.NETW_RX_PAUSE p)
    else if ¬ s.portSecure p ∨ ¬ mac then s.bump (R.NETW_RX_MACSEC p)
    else if ¬ vlanOk (etherParse f).1 (s.portVlan p) then s.bump (R.NETW_RX_VLAN p)
    else s.frameTaken p f) := by
  refine congrArg Host.Outcome.next ((if_neg (by simp [hup])).trans ?_)
  unfold State.frameTaken
  dsimp only
  cases ipParse (beNat (slice f 6 6)) ((etherParse f).1.getD 0) (etherParse f).2.1 (etherParse f).2.2 (s.portIp4 p) (s.portIp6 p) <;> rfl

/-- A counter one higher, and no other register changed. -/
abbrev State.Counted (s : State) (k : Nat) (t : State) : Prop := t.reg k = satInc (s.reg k) ∧ s.onlyRegs t [k]

theorem networkFrameReceived_badFcs : Completes (.networkFrameReceived p f false mac) s (s.Counted (R.NETW_RX_FCS p)) :=
  ⟨_, (exec_networkFrameReceived hup).trans (congrArg Host.Outcome.next (if_pos (by simp))), State.setReg_onlyRegs⟩

variable (hlen : f.length ≤ 9212)
include hlen

theorem networkFrameReceived_pause (he : (etherParse f).2.1 = 0x8808) :
    Completes (.networkFrameReceived p f true mac) s (s.Counted (R.NETW_RX_PAUSE p)) :=
  ⟨_, (exec_networkFrameReceived hup).trans (congrArg Host.Outcome.next ((if_neg (by simp [hlen])).trans (if_pos he))), State.setReg_onlyRegs⟩

variable (he : (etherParse f).2.1 ≠ 0x8808)
include he

theorem networkFrameReceived_badMac : Completes (.networkFrameReceived p f true false) s (s.Counted (R.NETW_RX_MACSEC p)) :=
  ⟨_, (exec_networkFrameReceived hup).trans (congrArg Host.Outcome.next ((if_neg (by simp [hlen])).trans ((if_neg he).trans (if_pos (by simp))))),
    State.setReg_onlyRegs⟩

variable (hs : s.portSecure p = true)
include hs

theorem networkFrameReceived_badVlan (hv : vlanOk (etherParse f).1 (s.portVlan p) = false) :
    Completes (.networkFrameReceived p f true true) s (s.Counted (R.NETW_RX_VLAN p)) :=
  ⟨_, (exec_networkFrameReceived hup).trans (congrArg Host.Outcome.next ((if_neg (by simp [hlen])).trans ((if_neg he).trans
    ((if_neg (by simp [hs])).trans (if_pos (by simp [hv])))))), State.setReg_onlyRegs⟩

theorem exec_networkFrameReceived_good (hv : vlanOk (etherParse f).1 (s.portVlan p) = true) :
    exec (.networkFrameReceived p f true true) s = .next (s.frameTaken p f) :=
  (exec_networkFrameReceived hup).trans (congrArg Host.Outcome.next ((if_neg (by simp [hlen])).trans ((if_neg he).trans
    ((if_neg (by simp [hs])).trans (if_neg (by simp [hv]))))))

end

theorem State.frameTaken_some {f : Bytes} {m : NetMeta} {u : Bytes} (h : ipParse (beNat (slice f 6 6)) ((etherParse f).1.getD 0) (etherParse f).2.1
    (etherParse f).2.2 (s.portIp4 p) (s.portIp6 p) = some (m, u)) : s.frameTaken p f = s.frameIn p m u := by
  unfold State.frameTaken
  dsimp only
  rw [h]
  rfl

theorem exec_pauseFrame (hup : s.regBit (R.NETW_STATUS p) 0 = true) : exec (.pauseFrame p) s = .next (s.bump (R.NETW_RX_PAUSE p)) :=
  congrArg Host.Outcome.next (if_pos hup)

/-! ### Frames sent -/

theorem State.emit_of_sending {q : OutPort} {bs : Bytes} (h : s.tm.resp = 0 ∧ s.regBit R.PMU_STATUS 4 = false) :
    s.emit q bs = { s with out := (⟨q, s.beat, bs⟩ : Output) :: s.out } := if_neg (by simp [h.1, h.2])

theorem length_beBytes : ∀ {n v : Nat}, (beBytes n v).length = n := by
  intro n v
  simp [beBytes, length_leBytes]

section
variable {mac ip target : Nat}

theorem exec_arpRequest : exec (.arpRequest p mac ip target) s = .next
    (if s.portSecure p ∧ target ≠ 0 ∧ beNat (s.portIp4 p) = target then s.emit (.network p) (etherFrame (beBytes 6 mac) (s.portMac p) (s.portVlan p) 0x0806
      ([0, 1, 8, 0, 6, 4, 0, 2] ++ s.portMac p ++ s.portIp4 p ++ beBytes 6 mac ++ beBytes 4 ip)) else s) := rfl

theorem exec_neighborSolicitation (hs : s.portSecure p = true)
    (ht : (beBytes 16 target = s.portIp6 p ∧ target ≠ 0) ∨ beBytes 16 target = linkLocal (s.portMac p)) :
    ∃ n, exec (.neighborSolicitation p mac ip target) s = .next (s.emit (.network p) (etherFrame (beBytes 6 mac) (s.portMac p) (s.portVlan p) 0x86DD
      ([0x60, 0, 0, 0, 0, 32, 58, 255] ++ beBytes 16 target ++ beBytes 16 ip ++ ([136, 0] ++ beBytes 2 n ++ [0x60, 0, 0, 0] ++ beBytes 16 target ++ [2, 1] ++
        s.portMac p)))) :=
  ⟨_, congrArg Host.Outcome.next (if_pos ⟨hs, ht⟩)⟩

end

/-! ### Response frames -/

section
variable {r : Response}

/-- Response `r` has left port `p`'s queue, whose peak is kept, at the time that R777 gives it. -/
def State.responseTaken (s : State) (p : Nat) (r : Response) : State :=
  let u := (s.setReg (R.NETW_TX_PEAK p) (w32 (max (s.reg (R.NETW_TX_PEAK p)).toNat (queueFit p s.bt.responses).2.1))).mapBt fun b =>
    { b with responses := b.responses.erase r }
  if r.edge = u.beat then { u with now := max u.now (u.bt.edgeAt + (u.reg (R.NETW_EGRESS p)).toNat) } else u

theorem State.responseTaken_rest : ∃ regs now, s.responseTaken p r = { s with regs, now, bt := { s.bt with responses := s.bt.responses.erase r } } := by
  unfold State.responseTaken
  simp only []
  split <;> exact ⟨_, _, rfl⟩

theorem State.responseTaken_reg (h : k ≠ R.NETW_TX_PEAK p) : (s.responseTaken p r).reg k = s.reg k := by
  unfold State.responseTaken
  extract_lets u
  have hu : u.reg k = s.reg k := (State.mapBt_reg _ _ _).trans (State.reg_setReg_other _ _ h)
  split <;> exact hu

theorem State.responseTaken_beat : (s.responseTaken p r).beat = s.beat :=
  congrArg₂ (fun a b : Word => a.toNat + 2 ^ 32 * b.toNat)
    (State.responseTaken_reg (by simp only [R.BEAT_COUNT_LO, R.NETW_TX_PEAK]; omega))
    (State.responseTaken_reg (by simp only [R.BEAT_COUNT_LO, R.NETW_TX_PEAK]; omega))

/-- The first frame of an edge leaves no earlier than EGRESS after it. -/
theorem State.responseTaken_now (h : r.edge = s.beat) : s.bt.edgeAt + (s.reg (R.NETW_EGRESS p)).toNat ≤ (s.responseTaken p r).now := by
  unfold State.responseTaken
  extract_lets u
  have hne : ∀ {j : Nat}, j ≠ R.NETW_TX_PEAK p → u.reg j = s.reg j := fun hj => (State.mapBt_reg _ _ _).trans (State.reg_setReg_other _ _ hj)
  have hbeat : u.beat = s.beat := congrArg₂ (fun a b : Word => a.toNat + 2 ^ 32 * b.toNat)
    (hne (by simp only [R.BEAT_COUNT_LO, R.NETW_TX_PEAK]; omega)) (hne (by simp only [R.BEAT_COUNT_LO, R.NETW_TX_PEAK]; omega))
  rw [if_pos (h.trans hbeat.symm), hne (by simp only [R.NETW_EGRESS, R.NETW_TX_PEAK]; omega)]
  exact Nat.le_max_right _ _

theorem exec_responseFrameTransmit (hr : (s.bt.responses.find? fun r => r.onPort p) = some r) (hq : (queueFit p s.bt.responses).1 = s.bt.responses)
    (hz : (queueFit p s.bt.responses).2.2 = 0)
    (hj : (s.bt.jobs.any fun j => j.due == some r.edge && j.frame.elim false fun f => f.req == r.frame.req) = false) :
    exec (.responseFrameTransmit p) s = .next (if ¬ (s.responseTaken p r).portSecure p then (s.responseTaken p r).txDrop p else
      (((s.responseTaken p r).tookFree 1).emit (.network p) (r.ether ((s.responseTaken p r).portMac p)
        (Config.freeWord (s.responseTaken p r).freeCtr).toNat)).bump64 (R.NETW_TX_OK_LO p) 1) := by
  refine congrArg Host.Outcome.next ?_
  simp only [hz, hq, List.range_zero, List.foldl_nil]
  split
  next hn => cases hr.symm.trans hn
  next x hx =>
    cases Option.some.inj (hr.symm.trans hx)
    refine (if_neg fun h => ?_).trans rfl
    obtain ⟨j, hm, hw⟩ := List.any_eq_true.mp h
    have hno := List.any_eq_false.mp hj j hm
    cases hf : j.frame <;> simp only [hf] at hw hno <;> exact hno hw

theorem State.responseTaken_out : (s.responseTaken p r).out = s.out := by
  obtain ⟨_, _, h⟩ := State.responseTaken_rest (s := s) (p := p) (r := r)
  rw [h]

theorem State.responseTaken_responses : (s.responseTaken p r).bt.responses = s.bt.responses.erase r := by
  obtain ⟨_, _, h⟩ := State.responseTaken_rest (s := s) (p := p) (r := r)
  rw [h]

theorem State.responseTaken_tm : (s.responseTaken p r).tm = s.tm := by
  obtain ⟨_, _, h⟩ := State.responseTaken_rest (s := s) (p := p) (r := r)
  rw [h]

theorem State.responseTaken_secure : (s.responseTaken p r).portSecure p = s.portSecure p := by
  have hst : (s.responseTaken p r).reg (R.NETW_STATUS p) = s.reg (R.NETW_STATUS p) :=
    State.responseTaken_reg (by simp only [R.NETW_STATUS, R.NETW_TX_PEAK]; omega)
  simp only [State.portSecure, State.regBit_eq_of_reg hst]

theorem State.responseTaken_mac : (s.responseTaken p r).portMac p = s.portMac p :=
  congrArg (List.take 6) (State.regBytes_of_reg fun i hi => State.responseTaken_reg (by simp only [R.NETW_MAC_LO, R.NETW_TX_PEAK]; omega))

/-- The frame of a response leaves, and is counted. -/
theorem State.responseSent_facts {f : Bytes} (hs : s.tm.resp = 0 ∧ s.regBit R.PMU_STATUS 4 = false) :
    (((s.tookFree 1).emit (.network p) f).bump64 (R.NETW_TX_OK_LO p) 1).bt = s.bt ∧
      (((s.tookFree 1).emit (.network p) f).bump64 (R.NETW_TX_OK_LO p) 1).reg64 (R.NETW_TX_OK_LO p) = (s.reg64 (R.NETW_TX_OK_LO p) + 1) % 2 ^ 64 ∧
      (((s.tookFree 1).emit (.network p) f).bump64 (R.NETW_TX_OK_LO p) 1).out = ⟨.network p, s.beat, f⟩ :: s.out ∧
      (((s.tookFree 1).emit (.network p) f).bump64 (R.NETW_TX_OK_LO p) 1).now = s.now := by
  rw [State.emit_of_sending (s := s.tookFree 1) hs]
  exact ⟨rfl, State.reg64_setReg64, rfl, rfl⟩

end

end Sys2Proof.Machine

namespace Sys2Proof

open Machine

section
variable {s : State} {p : Fin 64}

theorem arpRequest_facts (hs : s.portSecure p = true) (hg : s.tm.resp = 0 ∧ s.regBit R.PMU_STATUS 4 = false) {mac ip : Nat} :
    (∀ target, target ≠ 0 → beNat (s.portIp4 p) = target → Completes (.arpRequest p mac ip target) s fun t =>
      t.out = (⟨.network p, s.beat, etherFrame (beBytes 6 mac) (s.portMac p) (s.portVlan p) 0x0806
        ([0, 1, 8, 0, 6, 4, 0, 2] ++ s.portMac p ++ s.portIp4 p ++ beBytes 6 mac ++ beBytes 4 ip)⟩ : Output) :: s.out) ∧
    (∀ target, beNat (s.portIp4 p) ≠ target → exec (.arpRequest p mac ip target) s = .next s) := by
  refine ⟨fun target hz ht => ⟨_, exec_arpRequest, ?_⟩, fun target ht => exec_arpRequest.trans ?_⟩
  · rw [if_pos ⟨hs, hz, ht⟩, State.emit_of_sending hg]
  · rw [if_neg fun h => ht h.2.2]

theorem neighborSolicitation_facts (hs : s.portSecure p = true) (hg : s.tm.resp = 0 ∧ s.regBit R.PMU_STATUS 4 = false) {mac ip target : Nat}
    (ht : (beBytes 16 target = s.portIp6 p ∧ target ≠ 0) ∨ beBytes 16 target = linkLocal (s.portMac p)) :
    Completes (.neighborSolicitation p mac ip target) s fun t => ∃ sum : Bytes, sum.length = 2 ∧
      t.out = (⟨.network p, s.beat, etherFrame (beBytes 6 mac) (s.portMac p) (s.portVlan p) 0x86DD ([0x60, 0, 0, 0, 0, 32, 58, 255] ++ beBytes 16 target ++
        beBytes 16 ip ++ ([136, 0] ++ sum ++ [0x60, 0, 0, 0] ++ beBytes 16 target ++ [2, 1] ++ s.portMac p))⟩ : Output) :: s.out := by
  obtain ⟨n, h⟩ := exec_neighborSolicitation (mac := mac) (ip := ip) hs ht
  exact ⟨_, h, beBytes 2 n, length_beBytes, by rw [State.emit_of_sending hg]⟩

variable {r : Response}

theorem responseFrameTransmit_facts (hr : (s.bt.responses.find? fun r => r.onPort p) = some r)
    (hq : (queueFit p s.bt.responses).1 = s.bt.responses) (hz : (queueFit p s.bt.responses).2.2 = 0)
    (hj : (s.bt.jobs.any fun j => j.due == some r.edge && j.frame.elim false fun f => f.req == r.frame.req) = false) :
    (s.portSecure p = true → (s.tm.resp = 0 ∧ s.regBit R.PMU_STATUS 4 = false) → s.reg64 (R.NETW_TX_OK_LO p) + 1 < 2 ^ 64 →
      Completes (.responseFrameTransmit p) s fun t =>
        t.bt.responses = s.bt.responses.erase r ∧ t.reg64 (R.NETW_TX_OK_LO p) = s.reg64 (R.NETW_TX_OK_LO p) + 1 ∧
        (∃ f, t.out = (⟨.network p, s.beat, r.ether (s.portMac p) f⟩ : Output) :: s.out) ∧
        (r.edge = s.beat → s.bt.edgeAt + (s.reg (R.NETW_EGRESS p)).toNat ≤ t.now)) ∧
    (s.portSecure p = false → Completes (.responseFrameTransmit p) s fun t =>
      t.bt.responses = s.bt.responses.erase r ∧ t.reg (R.NETW_TX_DROP p) = satInc (s.reg (R.NETW_TX_DROP p)) ∧
      t.regBit (R.NETW_EVT_STATUS p) 2 = true ∧ t.out = s.out) := by
  refine ⟨fun hs hg h64 => ⟨_, exec_responseFrameTransmit hr hq hz hj, ?_⟩, fun hs => ⟨_, exec_responseFrameTransmit hr hq hz hj, ?_⟩⟩
  · rw [if_neg (by simp [State.responseTaken_secure, hs])]
    obtain ⟨hbt, hok, hout, hnow⟩ := State.responseSent_facts (s := s.responseTaken p r) (p := p)
      (f := r.ether ((s.responseTaken p r).portMac p) (Config.freeWord (s.responseTaken p r).freeCtr).toNat)
      ⟨(congrArg TamperState.resp State.responseTaken_tm).trans hg.1, (State.regBit_eq_of_reg (State.responseTaken_reg (by simp only [R.PMU_STATUS, R.NETW_TX_PEAK]; omega))).trans hg.2⟩
    have hcount : (s.responseTaken p r).reg64 (R.NETW_TX_OK_LO p) = s.reg64 (R.NETW_TX_OK_LO p) := congrArg₂ (fun a b : Word => a.toNat + 2 ^ 32 * b.toNat)
      (State.responseTaken_reg (by simp only [R.NETW_TX_OK_LO, R.NETW_TX_PEAK]; omega))
      (State.responseTaken_reg (by simp only [R.NETW_TX_OK_LO, R.NETW_TX_PEAK]; omega))
    refine ⟨(congrArg BeatState.responses hbt).trans State.responseTaken_responses, ?_, ⟨(Config.freeWord (s.responseTaken p r).freeCtr).toNat, ?_⟩, fun he => ?_⟩
    · rw [hok, hcount, Nat.mod_eq_of_lt h64]
    · rw [hout, State.responseTaken_mac, State.responseTaken_out, State.responseTaken_beat]
    · rw [hnow]
      exact State.responseTaken_now he
  · rw [if_pos (by simp [State.responseTaken_secure, hs])]
    refine ⟨?_, ?_, State.netEvent_noted (by decide), ?_⟩
    · rw [State.txDrop, State.netEvent_bt, State.bump, State.setReg_bt]
      exact State.responseTaken_responses
    · rw [State.txDrop, State.netEvent_reg (by simp only [R.NETW_TX_DROP]; omega) (by simp only [R.NETW_TX_DROP, R.NETW_EVT_STATUS]; omega), State.bump,
        State.reg_setReg_same, State.responseTaken_reg (by simp only [R.NETW_TX_DROP, R.NETW_TX_PEAK]; omega)]
    · rw [State.txDrop, State.netEvent_out, State.bump, State.setReg_out]
      exact State.responseTaken_out

end

/-- Settles O57: links, MKA, received frames, ARP, Neighbor Discovery and response frames of the network ports. -/
theorem networkPorts : Obligations.NetworkPorts := by
  intro s p
  refine ⟨fun hup => ⟨_, rfl, State.netDown_facts hup⟩, fun hp hup => ⟨_, congrArg Host.Outcome.next ((if_neg (by simp)).trans (if_pos ⟨hp, hup⟩)), ?_⟩,
    fun hp => congrArg Host.Outcome.next ((if_neg (by simp)).trans (if_neg (by simp [hp]))), mkaFrame_facts, mkaLivePeerLost_facts,
    fun hup => ⟨⟨_, exec_pauseFrame hup, State.setReg_onlyRegs⟩, fun f => ⟨fun mac => networkFrameReceived_badFcs hup,
      fun hl he mac => networkFrameReceived_pause hup hl he, fun hl he => ⟨networkFrameReceived_badMac hup hl he, fun hs =>
        ⟨fun hv => networkFrameReceived_badVlan hup hl he hs hv, fun hv => ⟨fun hd => ⟨_, exec_networkFrameReceived_good hup hl he hs hv, ?_⟩,
          fun m u hd => ⟨_, exec_networkFrameReceived_good hup hl he hs hv, ?_⟩⟩⟩⟩⟩⟩,
    fun hs hg mac ip => ⟨(arpRequest_facts hs hg).1, (arpRequest_facts hs hg).2, fun target ht => neighborSolicitation_facts hs hg ht⟩,
    fun r hr hq hz hj => responseFrameTransmit_facts hr hq hz ?_⟩
  · refine ⟨?_, State.netEvent_noted (by decide)⟩
    exact (State.regField_eq_of_reg State.netEvent_status).trans (State.regField_setRegField (by decide))
  · rw [State.frameTaken, hd]
    exact State.setReg_onlyRegs
  · exact State.frameTaken_some hd
  · refine List.any_eq_false.mpr fun j hm hw => List.any_eq_false.mp hj j hm ?_
    cases hf : j.frame <;> simp only [hf] at hw ⊢ <;> exact hw

end Sys2Proof

/-! SUPPORT. The watermark (R715, R721 to R723) and the SPDM responder (R724 to R728). -/

namespace Sys2Proof.Machine

variable {s t u : State} {i k : Nat}

/-! ### The length of a digest -/

theorem length_sha2Round {w : Nat} {r : Sha2Rot} {h : List (BitVec w)} {kw : BitVec w} (hl : h.length = 8) : (sha2Round r h kw).length = 8 := by
  unfold sha2Round
  split
  · rfl
  · exact hl

theorem length_sha2Block {w : Nat} {r : Sha2Rot} {ks h : List (BitVec w)} {blk : Bytes} (hl : h.length = 8) : (sha2Block r ks h blk).length = 8 := by
  have hrounds : ∀ l : List (BitVec w), (l.foldl (sha2Round r) h).length = 8 := fun l =>
    List.foldlRecOn l _ (motive := fun g : List (BitVec w) => g.length = 8) hl fun _ hg _ _ => length_sha2Round hg
  unfold sha2Block
  dsimp only
  rw [List.length_zipWith, hl, hrounds]
  rfl

theorem length_sha384 {m : Bytes} : (sha384 m).length = 48 := by
  have hwords : ((chunks (2 * 64) (sha2Pad (2 * 64) m)).foldl (sha2Block rot512 sha512K) sha384H).length = 8 :=
    List.foldlRecOn _ _ (motive := fun g : List (BitVec 64) => g.length = 8) rfl fun _ hg _ _ => length_sha2Block hg
  rw [sha384, sha2, List.length_take]
  generalize (chunks (2 * 64) (sha2Pad (2 * 64) m)).foldl (sha2Block rot512 sha512K) sha384H = l at hwords
  have hflat : ((l.map fun x => beBytes (64 / 8) x.toNat).flatten).length = 64 := by
    have hmap : (l.map fun x => beBytes (64 / 8) x.toNat).map List.length = l.map fun _ => 8 := by
      rw [List.map_map]
      exact List.map_congr_left fun _ _ => length_beBytes
    rw [List.length_flatten, hmap, List.map_const', List.sum_replicate, hwords]
    rfl
  rw [hflat]
  rfl

/-! ### Extensions -/

/-- The registers that an extension of W[i] changes. -/
abbrev extendedRegs (i : Nat) : List Nat := R.WMARK_COUNT i :: (List.range 12).map fun k => R.WMARK_VALUE (12 * i + k)

section
variable {d : Bytes}

theorem State.extend_reg (h : k ∉ extendedRegs i) : (s.extend i d).reg k = s.reg k := by
  obtain ⟨hc, hv⟩ := not_or.mp (List.mem_cons.not.mp h)
  refine (State.reg_setReg_other _ _ hc).trans (State.setRegBytes_reg_of_ne (n := 12) length_sha384 fun j hj he => hv ?_)
  exact List.mem_map.mpr ⟨j, List.mem_range.mpr hj, by simp only [R.WMARK_VALUE] at he ⊢; omega⟩

theorem State.extend_onlyRegs : s.onlyRegs (s.extend i d) (extendedRegs i) := by
  obtain ⟨regs, h⟩ := State.setRegBytes_rest (s := s) (k := R.WMARK_VALUE (12 * i)) (bs := sha384 (s.wmark i ++ d))
  refine ⟨?_, ?_, fun _ hk => State.extend_reg hk⟩ <;> rw [State.extend, h] <;> rfl

theorem State.extend_wmark (hi : i < 16) : (s.extend i d).wmark i = sha384 (s.wmark i ++ d) := by
  have hne : ∀ j < 12, R.WMARK_VALUE (12 * i) + 4 * j ≠ R.WMARK_COUNT i := fun j hj => by simp only [R.WMARK_VALUE, R.WMARK_COUNT]; omega
  exact (State.regBytes_of_reg fun j hj => State.reg_setReg_other _ _ (hne j hj)).trans (State.regBytes_setRegBytes length_sha384)

theorem State.extend_count (hi : i < 16) : (s.extend i d).reg (R.WMARK_COUNT i) = satInc (s.reg (R.WMARK_COUNT i)) := by
  refine (State.reg_setReg_same _ _ _).trans (congrArg satInc (State.setRegBytes_reg_of_ne (n := 12) length_sha384 fun j hj => ?_))
  simp only [R.WMARK_VALUE, R.WMARK_COUNT]
  omega

end

section
variable {who : Sender} {v : Word} (hr : s.pw.inReset = false)
include hr

theorem exec_wmarkExtend (hv : bit v 31 = true) : exec (.wmarkExtend who v) s = .next (if extendOk (field v 3 0) s.stage who
    then s.extend (field v 3 0) (s.regBytes (R.WMARK_EXT_DATA 0) 12) else s.errAt errIgnored who .store R.WMARK_EXTEND) :=
  congrArg Host.Outcome.next ((if_neg (by simp [hr])).trans (if_neg (by simp [hv])))

theorem wmarkExtend_refused (hv : bit v 31 = true) (ho : extendOk (field v 3 0) s.stage who = false) : Completes (.wmarkExtend who v) s fun t =>
    t.wmark (field v 3 0) = s.wmark (field v 3 0) ∧ t.reg (R.WMARK_COUNT (field v 3 0)) = s.reg (R.WMARK_COUNT (field v 3 0)) := by
  have hi : field v 3 0 < 16 := Nat.mod_lt _ (by decide)
  have hreg : ∀ {k : Nat}, 0x100b00000 ≤ k → k < 0x100b01000 → (s.errAt errIgnored who .store R.WMARK_EXTEND).reg k = s.reg k := fun h₀ h₁ =>
    State.errAt_reportsOnly.reg _ (.inl (by omega)) (not_eventReg_of_lt (by omega) (by simp only [R.JOURNAL_EVFIFO]; omega))
  refine ⟨_, (exec_wmarkExtend hr hv).trans (congrArg Host.Outcome.next (if_neg (by simp [ho]))), ?_, ?_⟩
  · exact State.regBytes_of_reg fun j hj => hreg (by simp only [R.WMARK_VALUE]; omega) (by simp only [R.WMARK_VALUE]; omega)
  · exact hreg (by simp only [R.WMARK_COUNT]; omega) (by simp only [R.WMARK_COUNT]; omega)

/-! ### Stages -/

/-- The compound device identifier of the watermark and the lifecycle as they stand (R715). -/
def State.cdiNow (s : State) : Bytes := hmacOf 0x22 uds (s.wmark 0 ++ s.wmark 1 ++ s.wmark 2 ++ [by8 (s.life + 16 * b2n (s.regBit R.LIFE_STATUS 4))])

theorem exec_wmarkAdvance (hv : bit v 0 = true) : exec (.wmarkAdvance v) s = .next (if 2 ≤ s.stage then s else
    if (s.setReg R.WMARK_STAGE (w32 (s.stage + 1))).stage = 2 then (s.setReg R.WMARK_STAGE (w32 (s.stage + 1))).deriveAlias
    else s.setReg R.WMARK_STAGE (w32 (s.stage + 1))) := by
  refine congrArg Host.Outcome.next ((if_neg (by simp [hr])).trans ?_)
  by_cases h : 2 ≤ s.stage
  · exact (if_pos (.inr h)).trans (if_pos h).symm
  · exact (if_neg (by simp [hv, h])).trans (if_neg h).symm

end

theorem State.setStage_stage {n : Nat} (h : n < 4) : (s.setReg R.WMARK_STAGE (w32 n)).stage = n := by
  rw [State.stage, State.regField, State.reg_setReg_same, field, w32, BitVec.toNat_ofNat]
  omega

theorem State.deriveAlias_rest : ∃ aliasCert freeCtr, s.deriveAlias =
    ({ s with freeCtr, lf := { s.lf with cdi := some s.cdiNow, aliasCert } } : State).setRegBit R.WMARK_STATUS 1 true := ⟨_, _, rfl⟩

theorem State.cdiNow_of_reg (h : ∀ k, k ≠ R.WMARK_STAGE → t.reg k = s.reg k) : t.cdiNow = s.cdiNow := by
  have hmark : ∀ i, t.wmark i = s.wmark i := fun i => State.regBytes_of_reg fun j _ => h _ (by simp only [R.WMARK_VALUE, R.WMARK_STAGE]; omega)
  have hlife : t.reg R.LIFE_STATUS = s.reg R.LIFE_STATUS := h _ (by decide)
  rw [State.cdiNow, State.cdiNow, hmark, hmark, hmark, State.life, State.life, State.regField_eq_of_reg hlife, State.regBit_eq_of_reg hlife]

theorem State.deriveAlias_facts : s.deriveAlias.stage = s.stage ∧ s.deriveAlias.regBit R.WMARK_STATUS 1 = true ∧ s.onlyRegs s.deriveAlias [R.WMARK_STATUS] ∧
    s.deriveAlias.lf.cdi = some s.cdiNow := by
  obtain ⟨cert, ctr, h⟩ := State.deriveAlias_rest (s := s)
  rw [h]
  refine ⟨State.regField_eq_of_reg (State.reg_setReg_other _ _ (by decide)), (State.regBit_setRegBit (by decide)).trans (if_pos rfl), ?_, rfl⟩
  exact ⟨rfl, rfl, fun k hk => State.reg_setReg_other _ _ (List.mem_singleton.not.mp hk)⟩

/-! ### SPDM -/

/-- A message of SPDM as it leaves on a binding. -/
abbrev State.Sent (s : State) (vdm : Bool) (r : Bytes) (t : State) : Prop := t.out = (⟨.mctp (b2n vdm), s.beat, 5 :: r⟩ : Output) :: s.out

section
variable {vdm : Bool} {c : SpdmConv} {r m : Bytes}

theorem State.spdmSend_eq : s.spdmSend vdm r = { s with out := (⟨.mctp (b2n vdm), s.beat, 5 :: r⟩ : Output) :: s.out } := State.emit_of_passes rfl

theorem State.spdm_setSpdm : (s.setSpdm vdm c).spdm vdm = c := by
  cases vdm <;> rfl

theorem State.spdmSend_spdm : (s.spdmSend vdm r).spdm vdm = s.spdm vdm := by rw [State.spdmSend_eq]; rfl

theorem State.spdmError_facts {code data : Nat} : s.Sent vdm [0x12, 0x7F, by8 code, by8 data] (s.spdmError vdm code data) ∧
    (s.spdmError vdm code data).spdm vdm = s.spdm vdm := by
  refine ⟨?_, State.spdmSend_spdm⟩
  rw [State.spdmError, State.spdmSend_eq]

/-- A conversation goes on, and its response leaves. -/
theorem State.spdmReply_facts (ho : t.out = s.out) (hb : t.beat = s.beat) : s.Sent vdm r ((t.setSpdm vdm c).spdmSend vdm r) ∧
    ((t.setSpdm vdm c).spdmSend vdm r).spdm vdm = c := by
  refine ⟨?_, State.spdmSend_spdm.trans State.spdm_setSpdm⟩
  have hbeat : (t.setSpdm vdm c).beat = s.beat := hb
  have hout : (t.setSpdm vdm c).out = s.out := ho
  rw [State.spdmSend_eq, State.Sent, hbeat, hout]

theorem State.spdmServe_down {f : State → State} (h : s.serviceUp = false) : s.spdmServe vdm m f = s := if_pos (by simp [h])

variable (hup : (s.mctpOn vdm && s.serviceUp) = true)
include hup

theorem State.spdmServe_mismatch {f : State → State} (hm : byteAt m 0 ≠ 0x12) : s.spdmServe vdm m f = s.spdmError vdm 0x41 0 :=
  (if_neg (by simpa using hup)).trans (if_pos hm)

theorem State.spdmServe_serves {f : State → State} (hm : byteAt m 0 = 0x12) : s.spdmServe vdm m f = f s :=
  (if_neg (by simpa using hup)).trans (if_neg (not_not.mpr hm))

end

theorem State.spdmNonce_rest : ∃ spr freeCtr, s.spdmNonce.2 = { s with spr, freeCtr } := by
  unfold State.spdmNonce
  split
  · exact ⟨_, _, State.drawDev_eq⟩
  · exact ⟨_, _, rfl⟩

theorem State.spdmNonce_out : s.spdmNonce.2.out = s.out := by
  obtain ⟨_, _, hn⟩ := State.spdmNonce_rest (s := s)
  rw [hn]

theorem State.spdmNonce_beat : s.spdmNonce.2.beat = s.beat := by
  obtain ⟨_, _, hn⟩ := State.spdmNonce_rest (s := s)
  rw [hn]
  rfl

theorem State.spdmSign_rest {ctx : String} {m : Bytes} : (s.spdmSign ctx m).2 = s.tookFree 56 := rfl

/-- The draws of a nonce and of a signature send nothing. -/
theorem State.spdmSigned_facts {ctx : String} {m : Bytes} :
    (s.spdmNonce.2.spdmSign ctx m).2.out = s.out ∧ (s.spdmNonce.2.spdmSign ctx m).2.beat = s.beat := by
  rw [State.spdmSign_rest]
  exact ⟨State.spdmNonce_out, State.spdmNonce_beat⟩

end Sys2Proof.Machine

namespace Sys2Proof

open Machine

section
variable {s : State} {vdm : Bool} {m : Bytes}

theorem getVersion_facts (hup : (s.mctpOn vdm && s.serviceUp) = true) (hm : byteAt m 0 = 0x10) : Completes (.getVersion vdm m) s fun t =>
    (t.spdm vdm).step = 1 ∧ s.Sent vdm (bytes [0x10, 0x04, 0, 0, 0, 1, 0x00, 0x12]) t := by
  refine ⟨_, congrArg Host.Outcome.next ((if_neg (by simpa using hup)).trans (if_neg (not_not.mpr hm))), ?_⟩
  obtain ⟨hsent, hconv⟩ := State.spdmReply_facts (s := s) (t := s) (vdm := vdm) (r := bytes [0x10, 0x04, 0, 0, 0, 1, 0x00, 0x12])
    (c := { SpdmConv.reset with step := 1, vca := m ++ bytes [0x10, 0x04, 0, 0, 0, 1, 0x00, 0x12] }) rfl rfl
  exact ⟨congrArg SpdmConv.step hconv, hsent⟩

/-- A request of another version than 1.2 is answered with VersionMismatch, and changes nothing of the conversation. -/
theorem spdmMismatch_facts (hup : (s.mctpOn vdm && s.serviceUp) = true) (hm : byteAt m 0 ≠ 0x12) :
    ∀ p ∈ [Instr.getCapabilities vdm m, .negotiateAlgorithms vdm m, .getDigests vdm m, .getCertificate vdm m, .challenge vdm m, .getMeasurements vdm m,
      .spdmUnsupportedRequest vdm m], Completes p s fun t => s.Sent vdm [0x12, 0x7F, 0x41, 0] t ∧ t.spdm vdm = s.spdm vdm := by
  have hany : ∀ {p : Instr} {f : State → State}, exec p s = .next (s.spdmServe vdm m f) →
      Completes p s fun t => s.Sent vdm [0x12, 0x7F, 0x41, 0] t ∧ t.spdm vdm = s.spdm vdm := fun he =>
    ⟨_, he.trans (congrArg Host.Outcome.next (State.spdmServe_mismatch hup hm)), State.spdmError_facts⟩
  simp only [List.forall_mem_cons]
  exact ⟨hany rfl, hany rfl, hany rfl, hany rfl, hany rfl, hany rfl, hany rfl, nofun⟩

section
variable (hup : (s.mctpOn vdm && s.serviceUp) = true) (hm : byteAt m 0 = 0x12)
include hup hm

theorem getCapabilities_facts (hc : (s.spdm vdm).step = 1) (hl : 20 ≤ m.length) : Completes (.getCapabilities vdm m) s fun t => (t.spdm vdm).step = 2 := by
  refine ⟨_, congrArg Host.Outcome.next ((State.spdmServe_serves hup hm).trans ((if_neg (not_not.mpr hc)).trans (if_neg (by omega)))), congrArg SpdmConv.step (State.spdmReply_facts rfl rfl).2⟩

theorem negotiateAlgorithms_facts (hc : (s.spdm vdm).step = 2) (hl : 32 ≤ m.length) (h₁ : byteAt m 6 % 2 = 1) (h₂ : byteAt m 8 / 128 % 2 = 1)
    (h₃ : byteAt m 12 / 2 % 2 = 1) : Completes (.negotiateAlgorithms vdm m) s fun t => (t.spdm vdm).step = 3 := by
  refine ⟨_, congrArg Host.Outcome.next ((State.spdmServe_serves hup hm).trans ((if_neg (not_not.mpr hc)).trans (if_neg (by omega)))), congrArg SpdmConv.step (State.spdmReply_facts rfl rfl).2⟩

/-- A request out of order is answered with UnexpectedRequest (R725). -/
theorem spdmUnexpected_facts (hc : (s.spdm vdm).step ≠ 3) :
    ∀ p ∈ [Instr.getDigests vdm m, .getCertificate vdm m, .challenge vdm m, .getMeasurements vdm m],
      Completes p s fun t => s.Sent vdm [0x12, 0x7F, 4, 0] t ∧ t.spdm vdm = s.spdm vdm := by
  have hany : ∀ {p : Instr}, exec p s = .next (s.spdmError vdm 4 0) →
      Completes p s fun t => s.Sent vdm [0x12, 0x7F, 4, 0] t ∧ t.spdm vdm = s.spdm vdm := fun he => ⟨_, he, State.spdmError_facts⟩
  simp only [List.forall_mem_cons]
  exact ⟨hany (congrArg Host.Outcome.next ((State.spdmServe_serves hup hm).trans (if_pos hc))),
    hany (congrArg Host.Outcome.next ((State.spdmServe_serves hup hm).trans (if_pos hc))),
    hany (congrArg Host.Outcome.next ((State.spdmServe_serves hup hm).trans (if_pos hc))),
    hany (congrArg Host.Outcome.next ((State.spdmServe_serves hup hm).trans (if_pos hc))), nofun⟩

theorem spdmUnsupportedRequest_facts : Completes (.spdmUnsupportedRequest vdm m) s fun t => s.Sent vdm [0x12, 0x7F, 7, by8 (byteAt m 1)] t :=
  ⟨_, congrArg Host.Outcome.next (State.spdmServe_serves hup hm), State.spdmError_facts.1⟩

variable (hc : (s.spdm vdm).step = 3)
include hc

theorem getDigests_facts : Completes (.getDigests vdm m) s fun t => s.Sent vdm (bytes [0x12, 0x01, 0, 1] ++ sha384 s.spdmChain) t :=
  ⟨_, congrArg Host.Outcome.next ((State.spdmServe_serves hup hm).trans (if_neg (not_not.mpr hc))), (State.spdmReply_facts rfl rfl).1⟩

theorem getCertificate_facts (hl : 8 ≤ m.length) (hslot : byteAt m 2 = 0) (hoff : leAt m 4 2 < s.spdmChain.length)
    (hn : leAt m 6 2 ≤ s.spdmChain.length - leAt m 4 2) (hfit : leAt m 6 2 ≤ 4088) : Completes (.getCertificate vdm m) s fun t =>
      ∃ h : Bytes, h.length = 8 ∧ s.Sent vdm (h ++ slice s.spdmChain (leAt m 4 2) (leAt m 6 2)) t := by
  have hmin : min (leAt m 6 2) (min (s.spdmChain.length - leAt m 4 2) (4096 - 8)) = leAt m 6 2 := by omega
  refine ⟨_, congrArg Host.Outcome.next ((State.spdmServe_serves hup hm).trans ((if_neg (not_not.mpr hc)).trans (if_neg (by omega)))), ?_⟩
  rw [hmin]
  refine ⟨bytes [0x12, 0x02, 0, 0] ++ leBytes 2 (leAt m 6 2) ++ leBytes 2 (s.spdmChain.length - leAt m 4 2 - leAt m 6 2), ?_,
    (State.spdmReply_facts rfl rfl).1⟩
  simp only [List.length_append, length_leBytes]
  rfl

theorem challenge_facts (hl : 36 ≤ m.length) (hslot : byteAt m 2 = 0) (hkind : byteAt m 3 = 0) : Completes (.challenge vdm m) s fun t =>
    ∃ g : Bytes, s.Sent vdm (bytes [0x12, 0x03, 0, 1] ++ sha384 s.spdmChain ++ s.spdmNonce.1 ++ s.opaqueData (s.spdm vdm).fmt1 ++ g) t := by
  have hsum : (if byteAt m 3 = 0 then [] else if byteAt m 3 = 1 then sha384 ((List.range 3).map fun i => s.measBlock (i + 1)).flatten
      else sha384 (s.measRecord 0xFF)) = [] := if_pos hkind
  refine ⟨_, congrArg Host.Outcome.next ((State.spdmServe_serves hup hm).trans ((if_neg (not_not.mpr hc)).trans (if_neg (by omega)))), ?_⟩
  rw [hsum]
  dsimp only
  rw [List.append_nil]
  generalize ((s.spdm vdm).vca ++ (s.spdm vdm).cert ++ m ++ _ : Bytes) = signed
  obtain ⟨hout, hbeat⟩ := State.spdmSigned_facts (s := s) (ctx := "responder-challenge_auth signing") (m := signed)
  generalize s.spdmNonce.2.spdmSign "responder-challenge_auth signing" signed = g at hout hbeat ⊢
  exact ⟨g.1, (State.spdmReply_facts hout hbeat).1⟩

theorem getMeasurements_facts (hl : 4 ≤ m.length) (hsig : byteAt m 2 % 2 = 0) (hop : byteAt m 3 ≤ 0x22) : Completes (.getMeasurements vdm m) s fun t =>
    ∃ h : Bytes, h.length = 8 ∧ s.Sent vdm (h ++ s.measRecord (byteAt m 3) ++ s.spdmNonce.1 ++ s.opaqueData (s.spdm vdm).fmt1) t := by
  have hplain : ¬ (byteAt m 2 % 2 == 1) = true := by simp [hsig]
  refine ⟨_, congrArg Host.Outcome.next ((State.spdmServe_serves hup hm).trans ((if_neg (not_not.mpr hc)).trans ((if_neg ?_).trans (if_neg hplain)))), ?_⟩
  · rw [if_neg hplain]
    rintro (h | ⟨h, -⟩ | ⟨h, -⟩)
    · omega
    · exact hplain h
    · omega
  · refine ⟨bytes [0x12, 0x60, if byteAt m 3 = 0 then 34 else 0, 0, if byteAt m 3 = 0 then 0 else if byteAt m 3 = 0xFF then 34 else 1] ++
      leBytes 3 (s.measRecord (byteAt m 3)).length, ?_, (State.spdmReply_facts State.spdmNonce_out State.spdmNonce_beat).1⟩
    rw [List.length_append, length_leBytes]
    rfl

end

end

/-- Settles O53: watermark extensions and stages, and the SPDM answers. -/
theorem watermarkAndAttestation : Obligations.WatermarkAndAttestation := by
  intro s who v vdm m
  have hi : field v 3 0 < 16 := Nat.mod_lt _ (by decide)
  refine ⟨fun hr hv => ⟨fun ho => ⟨_, exec_wmarkExtend hr hv, ?_⟩, wmarkExtend_refused hr hv⟩,
    fun hr hv => ⟨fun hs => ⟨_, exec_wmarkAdvance hr hv, ?_⟩, fun hs => ⟨_, exec_wmarkAdvance hr hv, ?_⟩,
      fun hs => (exec_wmarkAdvance hr hv).trans (congrArg Host.Outcome.next (if_pos hs))⟩,
    getVersion_facts, spdmMismatch_facts,
    fun hup hm => ⟨getCapabilities_facts hup hm, negotiateAlgorithms_facts hup hm, spdmUnexpected_facts hup hm, getDigests_facts hup hm,
      getCertificate_facts hup hm, challenge_facts hup hm, getMeasurements_facts hup hm, spdmUnsupportedRequest_facts hup hm⟩,
    fun hd => ?_⟩
  · rw [if_pos ho]
    exact ⟨State.extend_wmark hi, State.extend_count hi, State.extend_onlyRegs⟩
  · rw [if_neg (by omega), hs, State.setStage_stage (by decide), if_neg (by decide)]
    exact ⟨State.setStage_stage (by decide), State.setReg_onlyRegs.2⟩
  · rw [if_neg (by omega), hs, State.setStage_stage (by decide), if_pos rfl]
    obtain ⟨hstage, hstatus, ⟨hmem, hcores, hregs⟩, hcdi⟩ := State.deriveAlias_facts (s := s.setReg R.WMARK_STAGE (w32 2))
    refine ⟨hstage.trans (State.setStage_stage (by decide)), hstatus, ⟨hmem, hcores, fun k hk => ?_⟩, hcdi.trans (congrArg some ?_)⟩
    · obtain ⟨h₁, h₂⟩ := not_or.mp (List.mem_cons.not.mp hk)
      exact (hregs k h₂).trans (State.reg_setReg_other _ _ h₁)
    · exact State.cdiNow_of_reg fun k hk => State.reg_setReg_other _ _ hk
  · simp only [List.forall_mem_cons]
    exact ⟨congrArg Host.Outcome.next (if_pos (by simp [hd])), congrArg Host.Outcome.next (State.spdmServe_down hd),
      congrArg Host.Outcome.next (State.spdmServe_down hd), congrArg Host.Outcome.next (State.spdmServe_down hd), nofun⟩

end Sys2Proof

/-! SUPPORT. IDENTITY, the lifecycle commands, challenges and the test port (R720, R734, R739 to R744, R945). -/

namespace Sys2Proof.Machine

variable {s t u : State} {i k e cls : Nat} {j : Job} {result output b : Bytes}

/-! ### What a command's answer rests on -/

/-- The jobs and the edge that an answer is released at stay. -/
structure State.BeatKept (s t : State) : Prop where
  jobs : t.bt.jobs = s.bt.jobs
  edge : t.nextEdge = s.nextEdge

namespace State.BeatKept

theorem of_reg (hj : t.bt.jobs = s.bt.jobs) (h : ∀ k < 0x100001000, t.reg k = s.reg k) : s.BeatKept t := by
  refine ⟨hj, ?_⟩
  rw [State.nextEdge, State.nextEdge, State.running, State.running, State.beat, State.beat, State.reg64, State.reg64,
    State.regBit_eq_of_reg (h R.BEAT_STATUS (by decide)), h R.BEAT_COUNT_LO (by decide), h (R.BEAT_COUNT_LO + 4) (by decide)]

theorem refl : s.BeatKept s := ⟨rfl, rfl⟩

theorem trans (h : s.BeatKept t) (h' : t.BeatKept u) : s.BeatKept u := ⟨h'.jobs.trans h.jobs, h'.edge.trans h.edge⟩

theorem setReg {v : Word} (hk : 0x100001000 ≤ k) : s.BeatKept (s.setReg k v) :=
  of_reg (congrArg BeatState.jobs (State.setReg_bt _ _ _)) fun _ hj => State.reg_setReg_other _ _ (by omega)

theorem mapLf {f : LifeState → LifeState} : s.BeatKept (s.mapLf f) := of_reg rfl fun k _ => State.mapLf_reg s f k

theorem ite {p : Prop} [Decidable p] (h : s.BeatKept t) (h' : s.BeatKept u) : s.BeatKept (if p then t else u) := by
  split
  · exact h
  · exact h'

theorem job? (h : s.BeatKept t) : t.job? i = s.job? i := State.job?_of_jobs h.jobs

end State.BeatKept

/-- Job `i` is answered, for the next edge. -/
def State.Answered (s : State) (i : Nat) (t : State) (cls : Nat) (out : Bytes) : Prop :=
  (t.job? i).map (fun y => (y.ready, y.cls, y.output, y.due)) = some (true, cls, out, some s.nextEdge)

theorem State.answerCmd_answered {reason : Nat} (hj : s.job? i = some j) (hk : t.job? i = s.job? i) (he : e = s.nextEdge) :
    s.Answered i (t.answerCmd i e cls reason result output) cls output := by
  rw [State.Answered, State.job?_answerCmd (hk.trans hj), he]
  rfl

/-! ### IDENTITY -/

theorem State.lifeRefuse_facts {cause : Nat} (hj : s.job? i = some j) (hc : cause < 16) :
    s.Answered i (s.lifeRefuse i cause) 1 [] ∧ (s.lifeRefuse i cause).regField R.LIFE_STATUS 19 16 = cause := by
  refine ⟨State.answerCmd_answered hj rfl rfl, ?_⟩
  exact (State.regField_eq_of_reg State.answerCmd_reg).trans ((State.regField_setRegField (by decide)).trans (Nat.mod_eq_of_lt hc))

theorem identity_facts (hj : s.command i 0x8032 = some j) :
    (s.life ≠ 0 → Completes (.identity i) s fun t => s.Answered i t 1 [] ∧ t.regField R.LIFE_STATUS 19 16 = 1) ∧
    (s.life = 0 → byteAt j.desc 0x20 = 0 → Completes (.identity i) s fun t => s.Answered i t 0 (s.uid ++ devicePub) ∧ s.onlyRegs t []) ∧
    (s.life = 0 → byteAt j.desc 0x20 ≠ 0 → s.chainGood j.input = false → Completes (.identity i) s fun t =>
      s.Answered i t 1 [] ∧ t.regField R.LIFE_STATUS 19 16 = 8) := by
  obtain ⟨hjob, -, -⟩ := State.job?_of_command hj
  have hexec : exec (.identity i) s = .next (if s.life ≠ 0 then s.lifeRefuse i 1
      else if byteAt j.desc 0x20 = 0 then s.answerCmd i s.nextEdge clsOk 0 (zeros 16) (s.uid ++ devicePub)
      else if ¬ s.chainGood j.input then s.lifeRefuse i 8
      else
        let old := padTo 5136 ((s.deepData 0x0104).getD [])
        let new := leBytes 2 j.input.length ++ slice old 2 2 ++ zeros 12 ++ padTo 4096 j.input ++ old.drop 0x1010
        (s.deepWrite 0x0104 new).answerCmd i s.nextEdge clsOk 0 (zeros 16) []) := by
    change execIdentity i s = _
    rw [execIdentity, hj]
  refine ⟨fun h => ⟨_, hexec, ?_⟩, fun h hb => ⟨_, hexec, ?_⟩, fun h hb hc => ⟨_, hexec, ?_⟩⟩
  · rw [if_pos h]
    exact State.lifeRefuse_facts hjob (by decide)
  · rw [if_neg (not_not.mpr h), if_pos hb]
    exact ⟨State.answerCmd_answered hjob rfl rfl, rfl, rfl, fun _ _ => State.answerCmd_reg⟩
  · rw [if_neg (not_not.mpr h), if_neg hb, if_pos (by simp [hc])]
    exact State.lifeRefuse_facts hjob (by decide)

/-! ### Challenges -/

/-- Challenge `n` is held for 60 seconds. -/
def State.Holds (s t : State) (n : Bytes) : Prop :=
  t.lf.challenge = some (n, s.rtcSec + 60) ∧ t.reg R.LIFE_CHAL_EXP = w32 (s.rtcSec + 60) ∧ t.regBit R.LIFE_STATUS 5 = true

theorem State.newChallenge_eq : s.newChallenge = ((s.spdmNonce.2.mapLf fun l => { l with challenge := some (s.spdmNonce.1, s.spdmNonce.2.rtcSec + 60) }).setReg
    R.LIFE_CHAL_EXP (w32 (s.spdmNonce.2.rtcSec + 60))).setRegBit R.LIFE_STATUS 5 true := rfl

theorem State.spdmNonce_rtcSec : s.spdmNonce.2.rtcSec = s.rtcSec := by
  obtain ⟨_, _, h⟩ := State.spdmNonce_rest (s := s)
  rw [h]
  rfl

theorem State.spdmNonce_reg : s.spdmNonce.2.reg k = s.reg k := by
  obtain ⟨_, _, h⟩ := State.spdmNonce_rest (s := s)
  rw [h]
  rfl

theorem State.spdmNonce_bt : s.spdmNonce.2.bt = s.bt := by
  obtain ⟨_, _, h⟩ := State.spdmNonce_rest (s := s)
  rw [h]

theorem State.newChallenge_reg (h₁ : k ≠ R.LIFE_CHAL_EXP) (h₂ : k ≠ R.LIFE_STATUS) : s.newChallenge.reg k = s.reg k := by
  rw [State.newChallenge_eq, State.setRegBit, State.reg_setReg_other _ _ h₂, State.reg_setReg_other _ _ h₁, State.mapLf_reg, State.spdmNonce_reg]

theorem State.newChallenge_holds : s.Holds s.newChallenge s.spdmNonce.1 := by
  rw [State.newChallenge_eq, State.spdmNonce_rtcSec]
  refine ⟨rfl, ?_, (State.regBit_setRegBit (by decide)).trans (if_pos rfl)⟩
  rw [State.setRegBit, State.reg_setReg_other _ _ (by decide), State.reg_setReg_same]

theorem State.newChallenge_kept : s.BeatKept s.newChallenge := by
  refine .of_reg ?_ fun k hk => State.newChallenge_reg (by simp only [R.LIFE_CHAL_EXP]; omega) (by simp only [R.LIFE_STATUS]; omega)
  rw [State.newChallenge_eq, State.setRegBit, State.setReg_bt, State.setReg_bt, State.mapLf_bt, State.spdmNonce_bt]

theorem State.newChallenge_uid : s.newChallenge.uid = s.uid := State.regBytes_of_reg fun _ _ =>
  State.newChallenge_reg (by simp only [R.LIFE_UID, R.LIFE_CHAL_EXP]; omega) (by simp only [R.LIFE_UID, R.LIFE_STATUS]; omega)

theorem State.challengeBytes_of {n : Bytes} (h : s.lf.challenge = some (n, e)) : s.challengeBytes = n ++ s.uid ++ leBytes 4 e ++ zeros 12 := by
  rw [State.challengeBytes, h]

theorem lifeChallenge_facts (hj : s.command i 0x8030 = some j) : Completes (.lifeChallenge i) s fun t =>
    ∃ n, s.Holds t n ∧ s.Answered i t 0 (n ++ s.uid ++ leBytes 4 (s.rtcSec + 60) ++ zeros 12) := by
  obtain ⟨hjob, -, -⟩ := State.job?_of_command hj
  obtain ⟨hheld, hexp, hbit⟩ := State.newChallenge_holds (s := s)
  refine ⟨s.newChallenge.answerCmd i s.newChallenge.nextEdge clsOk 0 (zeros 16) s.newChallenge.challengeBytes, ?_, s.spdmNonce.1,
    ⟨hheld, State.answerCmd_reg.trans hexp, (State.regBit_eq_of_reg State.answerCmd_reg).trans hbit⟩, ?_⟩
  · change execLifeChallenge i s = _
    rw [execLifeChallenge, hj]
  · have h := State.answerCmd_answered (cls := clsOk) (reason := 0) (result := zeros 16) (output := s.newChallenge.challengeBytes) hjob
      State.newChallenge_kept.job? State.newChallenge_kept.edge
    rwa [State.challengeBytes_of hheld, State.newChallenge_uid] at h ⊢

theorem State.spend_reg (h₁ : k ≠ R.LIFE_CHAL_EXP) (h₂ : k ≠ R.LIFE_STATUS) : s.spend.reg k = s.reg k :=
  (State.reg_setReg_other _ _ h₂).trans ((State.reg_setReg_other _ _ h₁).trans (State.mapLf_reg _ _ _))

theorem State.spend_status : s.spend.reg R.LIFE_STATUS = setBit (s.reg R.LIFE_STATUS) 5 false := by
  rw [State.spend, State.setRegBit, State.reg_setReg_same, State.reg_setReg_other _ _ (by decide), State.mapLf_reg]

theorem State.spend_facts : s.spend.lf.challenge = none ∧ s.spend.reg R.LIFE_CHAL_EXP = 0 ∧ s.spend.regBit R.LIFE_STATUS 5 = false := by
  refine ⟨rfl, ?_, (State.regBit_setRegBit (by decide)).trans (if_pos rfl)⟩
  rw [State.spend, State.setRegBit, State.reg_setReg_other _ _ (by decide), State.reg_setReg_same]

theorem State.spend_kept : s.BeatKept s.spend := .trans .mapLf (.trans (.setReg (by decide)) (.setReg (by decide)))

theorem lifeChallengeExpiry_facts {n : Bytes} (h : s.lf.challenge = some (n, e)) : Completes .lifeChallengeExpiry s fun t =>
    t.now = max s.now (s.tm.rtcAt + e * 1000000000) ∧ t.lf.challenge = none ∧ t.reg R.LIFE_CHAL_EXP = 0 ∧ t.regBit R.LIFE_STATUS 5 = false := by
  refine ⟨({ s with now := max s.now (s.tm.rtcAt + e * 1000000000) } : State).spend, ?_, ?_, State.spend_facts⟩
  · change execLifeChallengeExpiry s = _
    rw [execLifeChallengeExpiry, h]
  · rw [State.spend, State.setRegBit, State.setReg_now, State.setReg_now]
    rfl

/-! ### The checks -/

section
variable {op c : Nat}

/-- A cause that is shown is that of one of the checks. -/
theorem firstFail_mem : ∀ {l : List (Bool × Nat)}, (firstFail l).getD 0 ∈ 0 :: l.map (·.2)
  | [] => List.mem_cons_self
  | (true, r) :: l => by
    have h : (firstFail l).getD 0 ∈ 0 :: l.map (·.2) := firstFail_mem
    rcases List.mem_cons.mp h with h | h
    · exact List.mem_cons.mpr (.inl h)
    · exact List.mem_cons_of_mem _ (List.mem_cons_of_mem _ h)
  | (false, r) :: l => List.mem_cons_of_mem _ List.mem_cons_self

theorem firstFail_pass {r : Nat} {l : List (Bool × Nat)} : firstFail ((true, r) :: l) = firstFail l := rfl

theorem State.lifeCheck_le : s.lifeCheck op b ≤ 8 := by
  have h : s.lifeCheck op b ∈ [0, 1, 2, 3, 4, 5, 6, 7, 8] := firstFail_mem
  revert h
  generalize s.lifeCheck op b = c
  simp only [List.mem_cons, List.not_mem_nil, or_false]
  omega

/-- The first check is the state's, and no later one has its cause. -/
theorem State.opFrom_of_lifeCheck (h : s.lifeCheck op b = 1) : opFrom op s.life = false := by
  by_contra hf
  rw [Bool.not_eq_false] at hf
  have hrest : s.lifeCheck op b ∈ [0, 2, 3, 4, 5, 6, 7, 8] := by
    unfold State.lifeCheck
    dsimp only
    rw [hf, firstFail_pass]
    exact firstFail_mem
  rw [h] at hrest
  exact absurd hrest (by decide)

/-- What is left of the challenge when an operation's token is checked. -/
def State.tokenTaken (s : State) (op : Nat) : State := if opFrom op s.life ∧ opToken op s.life then s.spend else s

theorem State.tokenTaken_kept : s.BeatKept (s.tokenTaken op) := .ite State.spend_kept .refl

theorem State.tokenTaken_reg (h₁ : k ≠ R.LIFE_CHAL_EXP) (h₂ : k ≠ R.LIFE_STATUS) : (s.tokenTaken op).reg k = s.reg k := by
  unfold State.tokenTaken
  split
  · exact State.spend_reg h₁ h₂
  · rfl

/-- A failing check is shown, and from cause 2 on it spends the challenge and is counted (R742). -/
def State.checkFailed (s : State) (op c : Nat) : State :=
  let t := (s.tokenTaken op).setRegField R.LIFE_STATUS 19 16 c
  if 2 ≤ c then (t.spend).bump R.LIFE_AUTH_FAILS else t

theorem State.lifeTry_eq : s.lifeTry op b = (s.lifeCheck op b, if s.lifeCheck op b = 0 then s.tokenTaken op else s.checkFailed op (s.lifeCheck op b)) := rfl

theorem State.checkFailed_kept : s.BeatKept (s.checkFailed op c) :=
  have h : s.BeatKept ((s.tokenTaken op).setRegField R.LIFE_STATUS 19 16 c) := State.tokenTaken_kept.trans (.setReg (by decide))
  .ite (.trans h (.trans State.spend_kept (.setReg (by decide)))) h

theorem State.checkFailed_cause (hc : c < 16) : (s.checkFailed op c).regField R.LIFE_STATUS 19 16 = c := by
  have hset : ((s.tokenTaken op).setRegField R.LIFE_STATUS 19 16 c).regField R.LIFE_STATUS 19 16 = c :=
    (State.regField_setRegField (by decide)).trans (Nat.mod_eq_of_lt hc)
  unfold State.checkFailed
  dsimp only
  split
  · refine (State.regField_eq_of_reg (State.reg_setReg_other _ _ (by decide))).trans ?_
    rw [State.regField, State.spend_status, field_setBit (.inl (by decide))]
    exact hset
  · exact hset

theorem State.checkFailed_spent (hc : 2 ≤ c) : (s.checkFailed op c).lf.challenge = none ∧
    (s.checkFailed op c).reg R.LIFE_AUTH_FAILS = satInc (s.reg R.LIFE_AUTH_FAILS) := by
  rw [State.checkFailed, if_pos hc]
  refine ⟨rfl, (State.reg_setReg_same _ _ _).trans (congrArg satInc ?_)⟩
  rw [State.spend_reg (by decide) (by decide), State.setRegField, State.reg_setReg_other _ _ (by decide), State.tokenTaken_reg (by decide) (by decide)]

theorem State.checkFailed_one (h : opFrom op s.life = false) : (s.checkFailed op 1).lf.challenge = s.lf.challenge := by
  rw [State.checkFailed, if_neg (by decide), State.tokenTaken, if_neg (by simp [h])]
  rfl

end

/-! ### LIFE_CHANGE -/

section
variable (hj : s.command i 0x8031 = some j) (hm : s.lf.moving = none)
include hj hm

theorem exec_lifeChange : exec (.lifeChange i) s = .next (if s.lifeCheck (byteAt j.desc 0x20) j.input = 0
    then (s.tokenTaken (byteAt j.desc 0x20)).lifeGo (some i) (byteAt j.desc 0x20) j.input
    else (s.checkFailed (byteAt j.desc 0x20) (s.lifeCheck (byteAt j.desc 0x20) j.input)).answerCmd i
      (s.checkFailed (byteAt j.desc 0x20) (s.lifeCheck (byteAt j.desc 0x20) j.input)).nextEdge clsRefused 0 (zeros 16) []) := by
  change execLifeChange i s = _
  simp only [execLifeChange, hj, hm, Option.isSome_none, Bool.false_eq_true, if_false]
  rw [State.lifeTry_eq]
  by_cases h : s.lifeCheck (byteAt j.desc 0x20) j.input = 0
  · simp only [h, if_true]
  · simp only [h, if_false]

theorem lifeChange_refused {c : Nat} (hc : s.lifeCheck (byteAt j.desc 0x20) j.input = c) (h0 : c ≠ 0) : Completes (.lifeChange i) s fun t =>
    s.Answered i t 1 [] ∧ t.regField R.LIFE_STATUS 19 16 = c ∧
    (2 ≤ c → t.lf.challenge = none ∧ t.reg R.LIFE_AUTH_FAILS = satInc (s.reg R.LIFE_AUTH_FAILS)) ∧ (c = 1 → t.lf.challenge = s.lf.challenge) := by
  obtain ⟨hjob, -, -⟩ := State.job?_of_command hj
  have hle : c < 16 := by
    have := State.lifeCheck_le (s := s) (op := byteAt j.desc 0x20) (b := j.input)
    omega
  refine ⟨_, exec_lifeChange hj hm, ?_⟩
  rw [hc, if_neg h0]
  refine ⟨State.answerCmd_answered hjob State.checkFailed_kept.job? State.checkFailed_kept.edge, (State.regField_eq_of_reg State.answerCmd_reg).trans (State.checkFailed_cause hle),
    fun h => ?_, fun h => ?_⟩
  · obtain ⟨hch, hfails⟩ := State.checkFailed_spent (s := s) (op := byteAt j.desc 0x20) h
    exact ⟨hch, State.answerCmd_reg.trans hfails⟩
  · subst h
    exact State.checkFailed_one (State.opFrom_of_lifeCheck hc)

end

/-! ### Operations that are carried out -/

theorem State.deepWrite_kept {id : Nat} {data : Bytes} : s.BeatKept (s.deepWrite id data) :=
  .of_reg (congrArg BeatState.jobs State.queueRec_bt) fun _ _ => State.deepWrite_reg

theorem State.setRegBytes_kept {bs : Bytes} (hk : 0x100001000 ≤ k) : s.BeatKept (s.setRegBytes k bs) := by
  refine .of_reg ?_ fun j hj => State.setRegBytes_reg_other (.inl (by omega))
  obtain ⟨_, h⟩ := State.setRegBytes_rest (s := s) (k := k) (bs := bs)
  rw [h]

theorem State.lifeRecord_kept : s.BeatKept s.lifeRecord :=
  .trans (.setReg (by decide)) (.trans (State.setRegBytes_kept (by decide)) (State.setRegBytes_kept (by decide)))

theorem State.putLife_kept {st op signer : Nat} {up : Bool} {d : Bytes} : s.BeatKept (s.putLife st op signer up d) :=
  State.deepWrite_kept.trans State.lifeRecord_kept

theorem State.lifeState_kept : s.BeatKept s.lifeState := by
  refine .of_reg ?_ fun k hk => State.lifeState_reg (by simp only [R.LIFE_STATUS]; omega)
  obtain ⟨_, _, _, h⟩ := State.lifeState_rest (s := s)
  rw [h]

/-- The end of what the manufacturer may do: the tamper monitors are armed, and the test port leaves its instruction. -/
def State.sealed (s : State) (b : Bytes) : State :=
  let signer := if opToken 1 s.life then byteAt b 5 else 2
  (((s.putLife 2 1 signer false []).setRegBit R.TAMPER_CTRL 31 true).mapLf fun l => { l with tapIr := 0xFF }).lifeState

theorem State.lifeApply_one : s.lifeApply 1 b = s.sealed b := rfl

theorem State.sealed_kept : s.BeatKept (s.sealed b) :=
  .trans State.putLife_kept (.trans (.setReg (by decide)) (.trans .mapLf State.lifeState_kept))

theorem State.sealed_armed : (s.sealed b).regBit R.TAMPER_CTRL 31 = true := by
  rw [State.sealed, State.regBit_eq_of_reg (State.lifeState_reg (by decide)), State.regBit_eq_of_reg (State.mapLf_reg _ _ _),
    State.regBit_setRegBit (by decide), if_pos rfl]

theorem State.sealed_tapIr : (s.sealed b).lf.tapIr = 0xFF := by
  rw [State.sealed]
  obtain ⟨_, _, _, h⟩ := State.lifeState_rest (s := ((s.putLife 2 1 (if opToken 1 s.life then byteAt b 5 else 2) false []).setRegBit
    R.TAMPER_CTRL 31 true).mapLf fun l => { l with tapIr := 0xFF })
  rw [h]
  rfl

/-- The waiting jobs are answered BUSY before a cold reset (R735). -/
def State.waitingBusied (s : State) : State := (s.bt.jobs.filter Job.isWaiting).foldl (fun u x => u.answerAt x clsBusy 0x0104 u.nextEdge) s

theorem State.waitingBusied_fixed : s.waitingBusied = (s.bt.jobs.filter Job.isWaiting).foldl (fun u x => u.answerAt x clsBusy 0x0104 s.nextEdge) s := by
  unfold State.waitingBusied
  generalize s.bt.jobs.filter Job.isWaiting = l
  induction l generalizing s with
  | nil => rfl
  | cons _ _ ih => exact ih

/-- A waiting job is answered, whatever else waits. -/
theorem State.waitingBusied_answered {n : Nat} {x : Job} (hx : s.job? n = some x) (hw : x.isWaiting = true) :
    s.waitingBusied.JobIs n (Job.AnsweredAs clsBusy 0x0104 s.nextEdge) := by
  rw [State.waitingBusied_fixed, ← State.id_of_job? hx]
  exact State.foldl_answered (fun _ _ => rfl) (List.mem_filter.mpr ⟨State.mem_of_job? hx, hw⟩) ⟨x, State.id_of_job? hx ▸ hx, trivial⟩

/-- The beat runs: the operation waits for its edge. -/
theorem State.lifeGo_running {op : Nat} {who : Option Nat} (hc : opCold op = true) (hr : s.running = true) :
    s.lifeGo who op b = (s.waitingBusied.mapBt fun x => { x with stop := true }).mapLf fun l => { l with moving := some ⟨who, op, b, false⟩ } := by
  have hrun : (s.waitingBusied.mapBt fun x => { x with stop := true }).running = true := by
    have hreg : ∀ {l : List Job}, (l.foldl (fun u x => u.answerAt x clsBusy 0x0104 u.nextEdge) s).reg R.BEAT_STATUS = s.reg R.BEAT_STATUS := fun {l} =>
      List.foldlRecOn l _ (motive := fun u : State => u.reg R.BEAT_STATUS = s.reg R.BEAT_STATUS) rfl fun u hu x _ =>
        ((State.mapJn_reg _ _ _).trans (State.mapBt_reg _ _ _)).trans hu
    exact (State.regBit_eq_of_reg ((State.mapBt_reg _ _ _).trans hreg)).trans hr
  exact (if_neg (by simp [hc])).trans (if_pos hrun)

section
variable (hj : s.command i 0x8031 = some j) (hm : s.lf.moving = none) (hc : s.lifeCheck (byteAt j.desc 0x20) j.input = 0)
include hj hm hc

theorem lifeChange_seals (hop : byteAt j.desc 0x20 = 1) : Completes (.lifeChange i) s fun t =>
    s.Answered i t 0 [] ∧ t.regBit R.TAMPER_CTRL 31 = true ∧ t.lf.tapIr = 0xFF := by
  obtain ⟨hjob, -, -⟩ := State.job?_of_command hj
  have hgo : ∀ u : State, u.lifeGo (some i) 1 j.input = (u.sealed j.input).answerCmd i (u.sealed j.input).nextEdge clsOk 0 (zeros 16) [] := fun _ => rfl
  refine ⟨_, exec_lifeChange hj hm, ?_⟩
  rw [if_pos hc, hop, hgo]
  have hkept : s.BeatKept ((s.tokenTaken 1).sealed j.input) := State.tokenTaken_kept.trans State.sealed_kept
  exact ⟨State.answerCmd_answered hjob hkept.job? hkept.edge, (State.regBit_eq_of_reg State.answerCmd_reg).trans State.sealed_armed,
    State.sealed_tapIr⟩

theorem lifeChange_waits (hop : opCold (byteAt j.desc 0x20) = true) (hr : s.running = true) : Completes (.lifeChange i) s fun t =>
    t.lf.moving = some ⟨some i, byteAt j.desc 0x20, j.input, false⟩ ∧ t.bt.stop = true ∧
    ∀ n x, s.job? n = some x → x.isWaiting = true →
      (t.job? n).map (fun y => (y.stage, y.cls, y.reason, y.due)) = some (.answered, 3, 0x0104, some s.nextEdge) := by
  have hkept : s.BeatKept (s.tokenTaken (byteAt j.desc 0x20)) := State.tokenTaken_kept
  have hrun : (s.tokenTaken (byteAt j.desc 0x20)).running = true :=
    (State.regBit_eq_of_reg (State.tokenTaken_reg (by decide) (by decide))).trans hr
  refine ⟨_, exec_lifeChange hj hm, ?_⟩
  rw [if_pos hc, State.lifeGo_running hop hrun]
  refine ⟨rfl, rfl, fun n x hx hw => ?_⟩
  obtain ⟨y, hy, hstage, -, hcls, hreason, hdue⟩ := State.waitingBusied_answered (hkept.job?.trans hx) hw
  generalize (s.tokenTaken (byteAt j.desc 0x20)).waitingBusied = u at hy ⊢
  refine (congrArg (Option.map fun y => (y.stage, y.cls, y.reason, y.due))
    ((State.job?_of_jobs (s := u) rfl).trans hy)).trans ?_
  rw [Option.map_some, hstage, hcls, hreason, hdue, hkept.edge]

end

/-! ### The test port -/

section
variable {ir : BitVec 8} {dr : BitVec 85}

theorem tapInstructionLoad_facts :
    (tapOffered ir.toNat s.life = false → Completes (.tapInstructionLoad ir dr) s fun t => t.lf.tapIr = 0xFF ∧ t.lf.dbgSel = s.lf.dbgSel) ∧
    (tapOffered ir.toNat s.life = true → Completes (.tapInstructionLoad ir dr) s fun t =>
      t.lf.tapIr = ir.toNat ∧ (ir = 0x30 → t.lf.dbgSel = dr.toNat % 256) ∧ (ir ≠ 0x30 → t.lf.dbgSel = s.lf.dbgSel) ∧
      (ir = 0x01 → t.out = (⟨.testPort, s.beat, leBytes 4 (s.reg R.LIFE_IDCODE).toNat⟩ : Output) :: s.out)) := by
  refine ⟨fun h => ⟨_, rfl, ?_⟩, fun h => ⟨_, rfl, ?_⟩⟩
  · simp only [h, Bool.false_eq_true, if_false]
    exact ⟨rfl, rfl⟩
  · simp only [h, if_true]
    have hne : ∀ {a b : BitVec 8}, a.toNat ≠ b.toNat → a ≠ b := fun h h' => h (congrArg _ h')
    split
    next h1 =>
      rw [State.emit_of_passes rfl]
      exact ⟨rfl, fun h => absurd (h ▸ h1) (by decide), fun _ => rfl, fun _ => rfl⟩
    next h1 =>
      split
      next h2 =>
        rw [State.emit_of_passes rfl]
        refine ⟨rfl, fun h => absurd (h ▸ h2) (by decide), fun _ => rfl, fun h => absurd (h ▸ rfl) h1⟩
      next h2 =>
        split
        next h3 => exact ⟨rfl, fun _ => rfl, fun h => absurd (BitVec.eq_of_toNat_eq h3) h, fun h => absurd (h ▸ rfl) h1⟩
        next h3 => exact ⟨rfl, fun h => absurd (h ▸ rfl) h3, fun _ => rfl, fun h => absurd (h ▸ rfl) h1⟩

end

theorem State.authShow_rest : ∃ out, s.authShow = { s with out } := State.emit_eq

/-- A property that looks past what leaves the device holds of what LIFE_AUTH shows. -/
theorem State.authShow_of {P : State → Prop} (h : ∀ out, P { s with out }) : P s.authShow := by
  obtain ⟨out, ho⟩ := State.authShow_rest (s := s)
  rw [ho]
  exact h out

/-- The token in the buffer. -/
def State.tapToken (s : State) : Bytes := (s.lf.token.map fun w => leBytes 4 w.toNat).flatten

/-- The cause of what the token in the buffer asks for (R734, R742). -/
def State.tapCheck (s : State) : Nat :=
  if opToken (byteAt s.tapToken 4) s.life then s.lifeCheck (byteAt s.tapToken 4) s.tapToken
  else if opFrom (byteAt s.tapToken 4) s.life then 3 else 1

/-- The token taken from the buffer. -/
def State.tokenSent (s : State) : State := s.mapLf fun l => { l with token := [], tapDone := false, tapCause := 0 }

theorem State.tokenSent_life : s.tokenSent.life = s.life := State.regField_eq_of_reg (State.mapLf_reg _ _ _)

theorem State.tokenSent_lifeCheck {op : Nat} : s.tokenSent.lifeCheck op b = s.lifeCheck op b := rfl

/-- The check of the token in the buffer, with what it does to the challenge. -/
def State.tapTry (s : State) : Nat × State :=
  if opToken (byteAt s.tapToken 4) s.tokenSent.life then s.tokenSent.lifeTry (byteAt s.tapToken 4) s.tapToken
  else (if opFrom (byteAt s.tapToken 4) s.tokenSent.life then 3 else 1,
    s.tokenSent.setRegField R.LIFE_STATUS 19 16 (if opFrom (byteAt s.tapToken 4) s.tokenSent.life then 3 else 1))

theorem State.tokenTaken_lf_token {op : Nat} : (s.tokenTaken op).lf.token = s.lf.token := by
  unfold State.tokenTaken
  split <;> rfl

theorem State.checkFailed_token {op c : Nat} : (s.checkFailed op c).lf.token = s.lf.token := by
  unfold State.checkFailed
  dsimp only
  split <;> exact State.tokenTaken_lf_token

theorem State.tapTry_facts (h0 : s.tapCheck ≠ 0) :
    s.tapTry.1 = s.tapCheck ∧ s.tapTry.2.lf.token = [] ∧ s.tapTry.2.regField R.LIFE_STATUS 19 16 = s.tapCheck := by
  unfold State.tapTry
  unfold State.tapCheck at h0 ⊢
  rw [State.tokenSent_life]
  by_cases hop : opToken (byteAt s.tapToken 4) s.life = true
  · rw [if_pos hop] at h0 ⊢
    have hle := State.lifeCheck_le (s := s) (op := byteAt s.tapToken 4) (b := s.tapToken)
    rw [if_pos hop, State.lifeTry_eq, State.tokenSent_lifeCheck, if_neg h0]
    exact ⟨rfl, State.checkFailed_token, State.checkFailed_cause (by omega)⟩
  · rw [if_neg hop] at h0 ⊢
    rw [if_neg hop]
    exact ⟨rfl, rfl, (State.regField_setRegField (by decide)).trans (by split <;> rfl)⟩

section
variable (ha : s.authOn = true)
include ha

theorem exec_lifeAuthNewChallenge : exec .lifeAuthNewChallenge s = .next ((s.newChallenge).mapLf fun l => { l with readIdx := 0 }).authShow :=
  congrArg Host.Outcome.next (if_neg (by simp [ha]))

theorem lifeAuthNewChallenge_facts : Completes .lifeAuthNewChallenge s fun t => ∃ n, s.Holds t n ∧ t.lf.readIdx = 0 := by
  refine ⟨_, exec_lifeAuthNewChallenge ha, s.spdmNonce.1, ?_⟩
  have hheld := State.newChallenge_holds (s := s)
  generalize s.newChallenge = u at hheld ⊢
  exact State.authShow_of (P := fun t => s.Holds t s.spdmNonce.1 ∧ t.lf.readIdx = 0) fun _ => ⟨hheld, rfl⟩

theorem lifeAuthReadWord_facts {n : Bytes} (h : s.lf.challenge = some (n, e)) (hi : s.lf.readIdx < 13) : Completes .lifeAuthReadWord s fun t =>
    t.lf.word = w32 (leAt (n ++ s.uid ++ leBytes 4 e ++ zeros 12) (4 * s.lf.readIdx) 4) ∧ t.lf.readIdx = s.lf.readIdx + 1 := by
  refine ⟨_, congrArg Host.Outcome.next (if_neg (by simp [ha])), ?_⟩
  dsimp only
  rw [if_pos ⟨by rw [h]; rfl, hi⟩, State.challengeBytes_of h]
  exact State.authShow_of (P := fun t => t.lf.word = w32 (leAt (n ++ s.uid ++ leBytes 4 e ++ zeros 12) (4 * s.lf.readIdx) 4) ∧
    t.lf.readIdx = s.lf.readIdx + 1) fun _ => ⟨rfl, rfl⟩

theorem lifeAuthAppend_facts {w : Word} (hl : s.lf.token.length < 1388) : Completes (.lifeAuthAppend w) s fun t => t.lf.token = s.lf.token ++ [w] :=
  ⟨_, congrArg Host.Outcome.next (if_neg (by simp [ha]; omega)), State.authShow_of (P := fun t => t.lf.token = s.lf.token ++ [w]) fun _ => rfl⟩

theorem lifeAuthEmpty_facts : Completes .lifeAuthEmpty s fun t => t.lf.token = [] :=
  ⟨_, congrArg Host.Outcome.next (if_neg (by simp [ha])), State.authShow_of (P := fun t => t.lf.token = []) fun _ => rfl⟩

theorem exec_lifeAuthSubmit (hm : s.lf.moving = none) : exec .lifeAuthSubmit s = .next (if s.tapTry.1 = 0
    then s.tapTry.2.lifeGo none (byteAt s.tapToken 4) s.tapToken else s.tapTry.2.mapLf fun l => { l with tapDone := true, tapCause := s.tapTry.1 }).authShow :=
  congrArg Host.Outcome.next (if_neg (by simp [ha, hm]))

theorem lifeAuthSubmit_facts (hm : s.lf.moving = none) (h0 : s.tapCheck ≠ 0) : Completes .lifeAuthSubmit s fun t =>
    t.lf.tapDone = true ∧ t.lf.tapCause = s.tapCheck ∧ t.lf.token = [] ∧ t.regField R.LIFE_STATUS 19 16 = s.tapCheck := by
  obtain ⟨hcause, htoken, hshown⟩ := State.tapTry_facts h0
  refine ⟨_, exec_lifeAuthSubmit ha hm, ?_⟩
  rw [hcause, if_neg h0]
  exact State.authShow_of (P := fun t => t.lf.tapDone = true ∧ t.lf.tapCause = s.tapCheck ∧ t.lf.token = [] ∧
    t.regField R.LIFE_STATUS 19 16 = s.tapCheck) fun _ => ⟨rfl, rfl, htoken, hshown⟩

end

end Sys2Proof.Machine

namespace Sys2Proof

open Machine

/-- Settles O54: IDENTITY, lifecycle challenges and changes, and the test port. -/
theorem lifecycleAndTestPort : Obligations.LifecycleAndTestPort := by
  intro s i j
  refine ⟨identity_facts, lifeChallenge_facts, fun n e => lifeChallengeExpiry_facts,
    fun hj hm => ⟨lifeChange_refused hj hm rfl, lifeChange_seals hj hm, lifeChange_waits hj hm⟩, fun ir dr => tapInstructionLoad_facts,
    fun ha => ⟨lifeAuthNewChallenge_facts ha, fun n e => lifeAuthReadWord_facts ha, fun w => lifeAuthAppend_facts ha,
      fun w hl => congrArg Host.Outcome.next (if_pos (.inr hl)), lifeAuthEmpty_facts ha, lifeAuthSubmit_facts ha⟩,
    fun ha => ?_⟩
  have hoff : ¬ s.authOn = true := by simp [ha]
  simp only [List.forall_mem_cons]
  exact ⟨congrArg Host.Outcome.next (if_pos hoff), congrArg Host.Outcome.next (if_pos hoff), congrArg Host.Outcome.next (if_pos (.inl hoff)),
    congrArg Host.Outcome.next (if_pos (.inl hoff)), congrArg Host.Outcome.next (if_pos hoff), nofun⟩

end Sys2Proof

/-! SUPPORT. The debug extension and the commands of DBG_DATA (R745 to R747). -/

namespace Sys2Proof.Machine

variable {s t u : State} {c : Nat} {x y : CoreState}

/-! ### What a command reports -/

/-- The report of a command: its code and its data. -/
abbrev State.Reports (t : State) (code : Nat) (w : Word) : Prop := t.lf.dbgCode = code ∧ t.lf.dbgData = w

section
variable {code : Nat} {w : Word}

theorem State.dbgShow_rest : ∃ out, s.dbgShow code w = { s.mapLf fun l => { l with dbgCode := code, dbgData := w } with out } := State.emit_eq

theorem State.dbgShow_reports : (s.dbgShow code w).Reports code w := by
  obtain ⟨_, h⟩ := State.dbgShow_rest (s := s) (code := code) (w := w)
  rw [h]
  exact ⟨rfl, rfl⟩

theorem State.dbgShow_cores : (s.dbgShow code w).cores = s.cores := by
  obtain ⟨_, h⟩ := State.dbgShow_rest (s := s) (code := code) (w := w)
  rw [h]
  rfl

theorem State.dbgShow_mem : (s.dbgShow code w).mem = s.mem := by
  obtain ⟨_, h⟩ := State.dbgShow_rest (s := s) (code := code) (w := w)
  rw [h]
  rfl

theorem State.dbgShow_regs : (s.dbgShow code w).regs = s.regs := by
  obtain ⟨_, h⟩ := State.dbgShow_rest (s := s) (code := code) (w := w)
  rw [h]
  rfl

theorem State.dbgShow_dbgAddr : (s.dbgShow code w).lf.dbgAddr = s.lf.dbgAddr := by
  obtain ⟨_, h⟩ := State.dbgShow_rest (s := s) (code := code) (w := w)
  rw [h]
  rfl

theorem State.dbgShow_core {d : Nat} : (s.dbgShow code w).core d = s.core d := congrArg (List.getD · d _) State.dbgShow_cores

end

section
variable {f : Nat → State → State}

theorem State.dbgDo_off (h : s.dbgOn = false) : s.dbgDo f = s := if_pos (by simp [h])

theorem State.dbgDo_of (ho : s.dbgOn = true) (hs : s.dbgCore = some c) : s.dbgDo f = f c s := by
  rw [State.dbgDo, if_neg (by simp [ho]), hs]

theorem State.dbgHalted_of (ho : s.dbgOn = true) (hs : s.dbgCore = some c) (hh : (s.core c).halted = true) : s.dbgHalted f = f c s :=
  (State.dbgDo_of ho hs).trans (if_pos hh)

theorem State.dbgHalted_running (ho : s.dbgOn = true) (hs : s.dbgCore = some c) (hh : (s.core c).halted = false) : s.dbgHalted f = s.dbgShow 1 0 :=
  (State.dbgDo_of ho hs).trans (if_neg (by simp [hh]))

end

/-! ### Debug events at a boundary -/

/-- The core halted by a debug event. -/
def CoreState.stopped (x : CoreState) (why : Nat) : CoreState := { x with haltReq := false, stepping := false, dbgStatus := w32 (1 + 2 * why) }

theorem CoreState.stopped_halted {why : Nat} (h : why < 4) : (x.stopped why).halted = true := by
  have hw : ∀ n < 4, bit (w32 (1 + 2 * n)) 0 = true := by decide
  exact hw why h

section
variable (hl : s.cores.length = 66) (hc : c < 66)
include hl hc

theorem State.debugEvent_stops {why : Nat} (hm : bit x.dbgCtrl 0 = false) : (s.setCore c x).debugEvent c why = s.setCore c (x.stopped why) := by
  have hlen : ∀ z, (s.setCore c z).cores.length = 66 := fun z => (List.length_set).trans hl
  unfold State.debugEvent
  dsimp only
  rw [State.core_setCore_same s c x hl hc, State.setCore_setCore, if_neg (by simp [hm]), State.updCore_setCore hl hc]
  rfl

/-- Where neither a store's report nor the end of a budget is due, a step comes before a halt request. -/
theorem State.boundary_debug (hx : x.Stands) (hr : x.report = none) (hb : x.budgetDue = false) (hm : bit x.dbgCtrl 0 = false) :
    (s.setCore c x).boundary c =
      if x.stepping then s.setCore c (x.stopped 2) else if x.haltReq then s.setCore c (x.stopped 3) else s.setCore c x := by
  obtain ⟨hbound, hlock, hreset, hhalt⟩ := hx
  unfold State.boundary
  dsimp only
  rw [State.core_setCore_same s c x hl hc, if_neg (by simp [hbound, hlock, hreset, hhalt]), hr]
  simp only [State.core_setCore_same s c x hl hc, hb, hlock, Bool.false_eq_true, false_and, if_false, State.debugEvent_stops hl hc hm]

end

/-- An instruction issued by a step runs its body in the state as it is. -/
theorem State.issue_stepping {worst : Nat} {body : CoreState → State → State} (hx : (s.core c).Stands) (hst : (s.core c).stepping = true)
    (hrun : s.coresRun = true) (hw : (s.core c).wfe = false) (hf : s.fetchDeny c = none) (hp : (s.core c).priv = true) :
    s.issue c false worst body = (body (s.core c) s).boundary c := by
  obtain ⟨hbound, hlock, hreset, hhalt⟩ := hx
  obtain ⟨hslot, hload, hwait⟩ := CoreState.atBoundary_iff.mp hbound
  have hready : s.coreReady c = true := by
    unfold State.coreReady
    simp [hrun, hlock, hreset, hhalt, hload, hwait, hw]
  have hself : ({ (s.core c).slotDone with wfe := false, stepping := true } : CoreState) = s.core c := by
    have hdone : (s.core c).slotDone = s.core c := by
      unfold CoreState.slotDone
      rw [hslot]
    rw [hdone, ← hw, ← hst]
  have hbudget : s.spendBudget c worst = s := if_pos (.inl hp)
  unfold State.issue
  rw [if_neg (by simp [hready])]
  dsimp only
  rw [if_neg (by simp [hst]), hst, Bool.true_or, hself, State.setCore_core, hf]
  dsimp only
  rw [if_neg (by simp), hbudget]

/-- Nothing but a debug event awaits the core at its boundary, and it does not enter vector 10 for one. -/
structure CoreState.Free (x : CoreState) : Prop where
  locked : x.locked = false
  inReset : x.inReset = false
  boundary : x.atBoundary = true
  report : x.report = none
  budget : x.budgetDue = false
  mode : bit x.dbgCtrl 0 = false

theorem CoreState.Free.of (h : x.locked = false ∧ x.inReset = false ∧ x.atBoundary = true ∧ x.report = none ∧ x.budgetDue = false ∧
    bit x.dbgCtrl 0 = false) : x.Free := by
  obtain ⟨h₁, h₂, h₃, h₄, h₅, h₆⟩ := h
  exact ⟨h₁, h₂, h₃, h₄, h₅, h₆⟩

/-- The status of a core that is halted no more. -/
theorem halted_cleared {w : Word} : bit (w &&& 6) 0 = false := by
  rw [bit, BitVec.getLsbD_and]
  exact Bool.and_false _

/-! ### The commands -/

/-- The core with a halt asked of it, as it goes on when it is resumed, and as a step finds it. -/
def CoreState.haltAsked (x : CoreState) : CoreState := { x with haltReq := true }
def CoreState.resumed (x : CoreState) : CoreState := { x with dbgStatus := x.dbgStatus &&& 6 }
def CoreState.toStep (x : CoreState) : CoreState := { x with dbgStatus := x.dbgStatus &&& 6, stepping := true }

/-- The core behind a step that puts `v` in `gd`. -/
def CoreState.stepped (x : CoreState) (gd : Gpr) (v : Word) (t : Bool) : CoreState :=
  { x.toStep.put gd v t with pc := x.pc + 4, retired := (x.toStep.put gd v t).retired + 1 }

/-- Behind a step only the step's own debug event is due. -/
theorem CoreState.stepped_due {gd : Gpr} {v : Word} {t : Bool} (hx : x.Free) : (x.stepped gd v t).Stands ∧ (x.stepped gd v t).report = none ∧
    (x.stepped gd v t).budgetDue = false ∧ bit (x.stepped gd v t).dbgCtrl 0 = false ∧ (x.stepped gd v t).stepping = true := by
  obtain ⟨hlock, hreset, hbound, hrep, hbud, hmode⟩ := hx
  rw [CoreState.stepped, CoreState.put_fields]
  exact ⟨⟨hbound, hlock, hreset, halted_cleared⟩, hrep, hbud, hmode, rfl⟩

section
variable (hl : s.cores.length = 66) (hc : c < 66)

theorem exec_debugBreakpoint {d : Core} (hd : d.val = c) (hr : s.coreReady c = true) (hb : (s.core c).atBoundary = true) (hk : s.bkptHit c = true) :
    exec (.debugBreakpoint d) s = .next (s.debugEvent c 1) := by
  subst hd
  exact congrArg Host.Outcome.next (if_pos ⟨hr, hb, hk⟩)

include hl hc in
theorem debugBreakpoint_facts {d : Core} (hd : d.val = c) (hr : s.coreReady c = true) (hb : (s.core c).atBoundary = true) (hk : s.bkptHit c = true)
    (hm : bit (s.core c).dbgCtrl 0 = false) : Completes (.debugBreakpoint d) s fun t =>
      (t.core c).halted = true ∧ (t.core c).dbgStatus = 3 ∧ (t.core c).pc = (s.core c).pc := by
  have h := State.debugEvent_stops (why := 1) hl hc hm
  rw [State.setCore_core] at h
  have hcore : (s.debugEvent c 1).core c = (s.core c).stopped 1 := by rw [h, State.core_setCore_same s c _ hl hc]
  refine ⟨_, exec_debugBreakpoint hd hr hb hk, ?_⟩
  dsimp only
  rw [hcore]
  exact ⟨CoreState.stopped_halted (by decide), rfl, rfl⟩

section
include hl hc

theorem State.fetchWord_setCore (hx : x.EntersAs (s.core c)) (hpc : x.pc = (s.core c).pc) : (s.setCore c x).fetchWord c = s.fetchWord c := by
  unfold State.fetchWord
  rw [State.route_setCore hl hc hx, State.core_setCore_same s c x hl hc, hpc]
  split
  · rw [State.read_setCore]
  · rw [State.read_setCore]
  · rfl

/-- A step over an instruction of the ALU group. -/
theorem State.fetchRun_alu {op : AluOp} {gd ga gb : Gpr} (hx : (s.core c).Free) (hp : (s.core c).priv = true) (hw : (s.core c).wfe = false)
    (hrun : s.coresRun = true) (hf : s.fetchDeny c = none) (hi : axDecode (s.fetchWord c) = some (.alu op gd ga gb)) :
    (s.setCore c (s.core c).toStep).fetchRun c = s.setCore c (((s.core c).stepped gd (op.eval ((s.core c).rd ga) ((s.core c).rd gb))
      ([ga, gb].any (s.core c).tainted)).stopped 2) := by
  have hcore : (s.setCore c (s.core c).toStep).core c = (s.core c).toStep := State.core_setCore_same s c _ hl hc
  have hfetch : (s.setCore c (s.core c).toStep).fetchDeny c = none := (State.fetchDeny_setCore s c (s.core c).toStep hl hc rfl rfl rfl).trans hf
  have hword : (s.setCore c (s.core c).toStep).fetchWord c = s.fetchWord c := State.fetchWord_setCore hl hc ⟨rfl, rfl, rfl, rfl, rfl, rfl, rfl⟩ rfl
  have hrun' : (s.setCore c (s.core c).toStep).fetchRun c =
      (s.setCore c (s.core c).toStep).compute c op.cost gd [ga, gb] fun x => op.eval (x.rd ga) (x.rd gb) := by
    rw [State.fetchRun, hfetch, hword, hi]
    rfl
  have hstands : (s.core c).toStep.Stands := ⟨hx.boundary, hx.locked, hx.inReset, halted_cleared⟩
  have hbody : ((s.setCore c (s.core c).toStep).updCore c fun y => y.put gd (op.eval ((s.core c).toStep.rd ga) ((s.core c).toStep.rd gb))
      ([ga, gb].any (s.core c).toStep.tainted)).retire c ((s.core c).toStep.pc + 4) =
      s.setCore c ((s.core c).stepped gd (op.eval ((s.core c).rd ga) ((s.core c).rd gb)) ([ga, gb].any (s.core c).tainted)) := by
    rw [State.updCore_setCore hl hc, State.retire, State.updCore_setCore hl hc]
    rfl
  rw [hrun', State.compute, State.issue_stepping (s := s.setCore c (s.core c).toStep) (by rw [hcore]; exact hstands) (by rw [hcore]; rfl) hrun (by rw [hcore]; exact hw) hfetch
    (by rw [hcore]; exact hp), hcore, hbody]
  obtain ⟨hstands', hrep', hbud', hmode', hstep⟩ := CoreState.stepped_due (gd := gd) (v := op.eval ((s.core c).rd ga) ((s.core c).rd gb))
    (t := [ga, gb].any (s.core c).tainted) hx
  rw [State.boundary_debug hl hc hstands' hrep' hbud' hmode', if_pos hstep]

end

end

theorem toNat_gprNumber (g : Gpr) : (BitVec.ofNat 12 g.val).toNat = g.val := by
  have := g.isLt
  rw [BitVec.toNat_ofNat, Nat.mod_eq_of_lt (by omega)]

theorem sbBytes_nil_all {a : Nat} : sbAll (sbBytes [] a 4) = false := rfl
theorem sbBytes_nil_none {a : Nat} : sbNone (sbBytes [] a 4) = true := rfl

theorem debugUnselected (h : s.dbgOn = false) :
    ∀ p ∈ [Instr.debugHalt, .debugResume, .debugStep, .debugSetAddress 0, .debugLoad, .debugStore 0], exec p s = .next s := by
  simp only [List.forall_mem_cons]
  refine ⟨?_, ?_, ?_, ?_, ?_, ?_, nofun⟩ <;> exact congrArg Host.Outcome.next (State.dbgDo_off h)

section
variable (ho : s.dbgOn = true) (hs : s.dbgCore = some c)
include ho hs

theorem debugSetAddress_facts (a : Word) : Completes (.debugSetAddress a) s fun t => t.lf.dbgAddr = a ∧ t.Reports 0 0 ∧ t.cores = s.cores :=
  ⟨(s.mapLf fun l => { l with dbgAddr := a }).dbgShow 0 0, congrArg Host.Outcome.next (State.dbgDo_of ho hs),
    State.dbgShow_dbgAddr, State.dbgShow_reports, State.dbgShow_cores⟩

/-- A running core answers every command but a halt with code 1. -/
theorem debug_running (hh : (s.core c).halted = false) (n : BitVec 12) (v : Word) :
    ∀ p ∈ [Instr.debugResume, .debugStep, .debugReadRegister n, .debugWriteRegister n v, .debugReadSystemRegister n,
      .debugWriteSystemRegister n v, .debugLoad, .debugStore v],
    Completes p s fun t => t.Reports 1 0 ∧ t.cores = s.cores ∧ t.mem = s.mem ∧ t.regs = s.regs := by
  have hend : (s.dbgShow 1 0).Reports 1 0 ∧ (s.dbgShow 1 0).cores = s.cores ∧ (s.dbgShow 1 0).mem = s.mem ∧ (s.dbgShow 1 0).regs = s.regs :=
    ⟨State.dbgShow_reports, State.dbgShow_cores, State.dbgShow_mem, State.dbgShow_regs⟩
  simp only [List.forall_mem_cons]
  refine ⟨⟨_, ?_, hend⟩, ⟨_, ?_, hend⟩, ⟨_, ?_, hend⟩, ⟨_, ?_, hend⟩, ⟨_, ?_, hend⟩, ⟨_, ?_, hend⟩, ⟨_, ?_, hend⟩, ⟨_, ?_, hend⟩, nofun⟩ <;>
  exact congrArg Host.Outcome.next (State.dbgHalted_running ho hs hh)

section
variable (hl : s.cores.length = 66) (hc : c < 66)
include hl hc

theorem debugHalt_facts (hh : (s.core c).halted = false) (hx : (s.core c).Free) (hst : (s.core c).stepping = false) : Completes .debugHalt s fun t =>
    t.Reports 0 0 ∧ (t.core c).halted = true ∧ (t.core c).dbgStatus = 7 ∧ (t.core c).pc = (s.core c).pc ∧ (t.core c).gpr = (s.core c).gpr := by
  obtain ⟨hlock, hreset, hbound, hrep, hbud, hmode⟩ := hx
  have hstands : (s.core c).haltAsked.Stands := ⟨hbound, hlock, hreset, hh⟩
  have hstop : (s.setCore c (s.core c).haltAsked).boundary c = s.setCore c ((s.core c).haltAsked.stopped 3) := by
    rw [State.boundary_debug hl hc hstands hrep hbud hmode, if_neg (by simp [CoreState.haltAsked, hst])]
    exact if_pos rfl
  refine ⟨((s.setCore c (s.core c).haltAsked).boundary c).dbgShow 0 0,
    congrArg Host.Outcome.next ((State.dbgDo_of ho hs).trans (if_neg (by simp [hh]))), State.dbgShow_reports, ?_⟩
  rw [State.dbgShow_core, hstop, State.core_setCore_same s c _ hl hc]
  exact ⟨CoreState.stopped_halted (by decide), rfl, rfl, rfl⟩

variable (hh : (s.core c).halted = true)
include hh

theorem debugResume_facts (hx : (s.core c).Free) (hst : (s.core c).stepping = false) (hq : (s.core c).haltReq = false) : Completes .debugResume s fun t =>
    t.Reports 0 0 ∧ (t.core c).halted = false ∧ (t.core c).pc = (s.core c).pc := by
  obtain ⟨hlock, hreset, hbound, hrep, hbud, hmode⟩ := hx
  have hstands : (s.core c).resumed.Stands := ⟨hbound, hlock, hreset, halted_cleared⟩
  have hgo : (s.setCore c (s.core c).resumed).boundary c = s.setCore c (s.core c).resumed := by
    rw [State.boundary_debug hl hc hstands hrep hbud hmode, if_neg (by simp [CoreState.resumed, hst]), if_neg (by simp [CoreState.resumed, hq])]
  refine ⟨((s.setCore c (s.core c).resumed).boundary c).dbgShow 0 0,
    congrArg Host.Outcome.next (State.dbgHalted_of ho hs hh), State.dbgShow_reports, ?_⟩
  rw [State.dbgShow_core, hgo, State.core_setCore_same s c _ hl hc]
  exact ⟨halted_cleared, rfl⟩

theorem debugStep_facts {op : AluOp} {gd ga gb : Gpr} (hx : (s.core c).Free) (hp : (s.core c).priv = true) (hw : (s.core c).wfe = false)
    (hrun : s.coresRun = true) (hf : s.fetchDeny c = none) (hi : axDecode (s.fetchWord c) = some (.alu op gd ga gb)) : Completes .debugStep s fun t =>
      t.Reports 0 0 ∧ (t.core c).halted = true ∧ (t.core c).dbgStatus = 5 ∧ (t.core c).pc = (s.core c).pc + 4 ∧
      (t.core c).retired = (s.core c).retired + 1 ∧
      (gd ≠ 0 → (s.core c).gpr.length = 32 → (t.core c).rd gd = op.eval ((s.core c).rd ga) ((s.core c).rd gb)) := by
  have halu := State.fetchRun_alu hl hc hx hp hw hrun hf hi
  have hslot : ∀ {v : Word} {t : Bool}, (((s.core c).stepped gd v t).stopped 2).slot = none := by
    intro v t
    rw [CoreState.stepped, CoreState.put_fields]
    exact (CoreState.atBoundary_iff.mp hx.boundary).1
  generalize op.eval ((s.core c).rd ga) ((s.core c).rd gb) = v at halu ⊢
  generalize [ga, gb].any (s.core c).tainted = taint at halu
  refine ⟨(s.setCore c (((s.core c).stepped gd v taint).stopped 2)).dbgShow 0 0, ?_, State.dbgShow_reports, ?_⟩
  · refine congrArg Host.Outcome.next ((State.dbgHalted_of ho hs hh).trans ?_)
    change State.dbgShow (if (((s.setCore c (s.core c).toStep).fetchRun c).core c).slot.isSome then
      ((s.setCore c (s.core c).toStep).fetchRun c).fetchRun c else (s.setCore c (s.core c).toStep).fetchRun c) 0 0 = _
    rw [halu, State.core_setCore_same s c _ hl hc, hslot, if_neg (by simp)]
  · rw [State.dbgShow_core, State.core_setCore_same s c _ hl hc]
    refine ⟨CoreState.stopped_halted (by decide), rfl, rfl, ?_, fun hg hgpr => ?_⟩
    · change ((s.core c).toStep.put gd v taint).retired + 1 = _
      rw [CoreState.put_fields]
      rfl
    · exact ((s.core c).toStep.rd_put_same gd v taint hgpr).trans (if_neg hg)

theorem debugWriteRegister_gpr (g : Gpr) (v : Word) (hg : (s.core c).gpr.length = 32) :
    Completes (.debugWriteRegister (BitVec.ofNat 12 g.val) v) s fun t =>
      t.Reports 0 0 ∧ (t.core c).rd g = (if g = 0 then 0 else v) ∧ (∀ h : Gpr, h ≠ g → (t.core c).rd h = (s.core c).rd h) ∧
      (t.core c).pc = (s.core c).pc := by
  have hn : (BitVec.ofNat 12 g.val).toNat = g.val := toNat_gprNumber g
  refine ⟨(s.setCore c ((s.core c).put g v false)).dbgShow 0 0, congrArg Host.Outcome.next ((State.dbgHalted_of ho hs hh).trans ?_),
    State.dbgShow_reports, ?_⟩
  · simp only [hn, g.isLt, dif_pos]
    rfl
  · rw [State.dbgShow_core, State.core_setCore_same s c _ hl hc]
    refine ⟨(s.core c).rd_put_same g v false hg, fun h hne => (s.core c).rd_put_other v false hne, ?_⟩
    rw [CoreState.put_fields]

theorem debugWriteRegister_pc (v : Word) : Completes (.debugWriteRegister 32 v) s fun t =>
    t.Reports 0 0 ∧ (t.core c).pc = v ∧ (t.core c).gpr = (s.core c).gpr := by
  refine ⟨(s.setCore c { s.core c with pc := v }).dbgShow 0 0, congrArg Host.Outcome.next (State.dbgHalted_of ho hs hh), State.dbgShow_reports, ?_⟩
  rw [State.dbgShow_core, State.core_setCore_same s c _ hl hc]
  exact ⟨rfl, rfl⟩

end

variable (hh : (s.core c).halted = true)
include hh

theorem debugHalt_halted : Completes .debugHalt s fun t => t.Reports 0 0 ∧ t.core c = s.core c :=
  ⟨s.dbgShow 0 0, congrArg Host.Outcome.next ((State.dbgDo_of ho hs).trans (if_pos hh)), State.dbgShow_reports, State.dbgShow_core⟩

theorem debugReadRegister_gpr (g : Gpr) : Completes (.debugReadRegister (BitVec.ofNat 12 g.val)) s fun t =>
    t.Reports 0 ((s.core c).rd g) ∧ t.core c = s.core c := by
  have hn : (BitVec.ofNat 12 g.val).toNat = g.val := toNat_gprNumber g
  refine ⟨s.dbgShow 0 ((s.core c).rd g), congrArg Host.Outcome.next ((State.dbgHalted_of ho hs hh).trans ?_), State.dbgShow_reports, State.dbgShow_core⟩
  simp only [hn, g.isLt, dif_pos]

theorem debugReadRegister_pc : Completes (.debugReadRegister 32) s fun t => t.Reports 0 (s.core c).pc :=
  ⟨s.dbgShow 0 (s.core c).pc, congrArg Host.Outcome.next (State.dbgHalted_of ho hs hh), State.dbgShow_reports⟩

theorem debugReadRegister_beyond {n : BitVec 12} (hn : 32 < n.toNat) : Completes (.debugReadRegister n) s fun t =>
    t.Reports 2 0 ∧ t.core c = s.core c := by
  refine ⟨s.dbgShow 2 0, congrArg Host.Outcome.next ((State.dbgHalted_of ho hs hh).trans ?_), State.dbgShow_reports, State.dbgShow_core⟩
  rw [dif_neg (by omega), if_neg (by omega)]

theorem debugWriteRegister_beyond {n : BitVec 12} {v : Word} (hn : 32 < n.toNat) : Completes (.debugWriteRegister n v) s fun t =>
    t.Reports 2 0 ∧ t.core c = s.core c := by
  refine ⟨s.dbgShow 2 0, congrArg Host.Outcome.next ((State.dbgHalted_of ho hs hh).trans ?_), State.dbgShow_reports, State.dbgShow_core⟩
  rw [dif_neg (by omega), if_neg (by omega)]

theorem debugReadSystemRegister_facts (n : BitVec 12) :
    (∀ r, s.sysRead c n.toNat true = some r → Completes (.debugReadSystemRegister n) s fun t => t.Reports 0 r.1) ∧
    (s.sysRead c n.toNat true = none → Completes (.debugReadSystemRegister n) s fun t => t.Reports 2 0) := by
  refine ⟨fun r hr => ⟨r.2.dbgShow 0 r.1, congrArg Host.Outcome.next ((State.dbgHalted_of ho hs hh).trans ?_), State.dbgShow_reports⟩,
    fun hr => ⟨s.dbgShow 2 0, congrArg Host.Outcome.next ((State.dbgHalted_of ho hs hh).trans ?_), State.dbgShow_reports⟩⟩ <;>
  rw [hr]

theorem debugWriteSystemRegister_facts (n : BitVec 12) (v : Word) :
    (∀ t', s.sysWrite c n.toNat v true = some t' → Completes (.debugWriteSystemRegister n v) s fun t => t.Reports 0 0 ∧ t.core c = t'.core c) ∧
    (s.sysWrite c n.toNat v true = none → Completes (.debugWriteSystemRegister n v) s fun t => t.Reports 2 0 ∧ t.core c = s.core c) := by
  refine ⟨fun t' hw => ⟨t'.dbgShow 0 0, congrArg Host.Outcome.next ((State.dbgHalted_of ho hs hh).trans ?_), State.dbgShow_reports, State.dbgShow_core⟩,
    fun hw => ⟨s.dbgShow 2 0, congrArg Host.Outcome.next ((State.dbgHalted_of ho hs hh).trans ?_), State.dbgShow_reports, State.dbgShow_core⟩⟩ <;>
  rw [hw]

/-! ### Memory -/

theorem debugMemory_barred (hb : dbgBarred (s.fabOf c s.lf.dbgAddr) = true ∨ s.lf.dbgAddr.toNat % 4 ≠ 0) (v : Word) :
    ∀ p ∈ [Instr.debugLoad, .debugStore v], Completes p s fun t => t.Reports 2 0 ∧ t.mem = s.mem ∧ t.regs = s.regs := by
  have hend : (s.dbgShow 2 0).Reports 2 0 ∧ (s.dbgShow 2 0).mem = s.mem ∧ (s.dbgShow 2 0).regs = s.regs :=
    ⟨State.dbgShow_reports, State.dbgShow_mem, State.dbgShow_regs⟩
  simp only [List.forall_mem_cons]
  refine ⟨⟨_, ?_, hend⟩, ⟨_, ?_, hend⟩, nofun⟩ <;>
  exact congrArg Host.Outcome.next ((State.dbgHalted_of ho hs hh).trans (if_pos hb))

variable (hb : dbgBarred (s.fabOf c s.lf.dbgAddr) = false) (ha : s.lf.dbgAddr.toNat % 4 = 0)
include hb ha

/-- With an empty store buffer the load goes to its address. -/
theorem debugLoad_facts (hsb : (s.core c).sb = []) :
    (∀ w u, s.coreLoad c true .word s.lf.dbgAddr = (.ok w, u) → Completes .debugLoad s fun t => t.Reports 0 w) ∧
    (∀ d u, s.coreLoad c true .word s.lf.dbgAddr = (.error d, u) → Completes .debugLoad s fun t => t.Reports (dbgCodeOf d) 0) := by
  refine ⟨fun w u hload => ⟨u.dbgShow 0 w, congrArg Host.Outcome.next ((State.dbgHalted_of ho hs hh).trans ?_), State.dbgShow_reports⟩,
    fun d u hload => ⟨u.dbgShow (dbgCodeOf d) 0, congrArg Host.Outcome.next ((State.dbgHalted_of ho hs hh).trans ?_), State.dbgShow_reports⟩⟩ <;>
  · dsimp only
    rw [if_neg (by simp [hb, ha]), hsb, sbBytes_nil_all, if_neg Bool.false_ne_true, sbBytes_nil_none, if_neg (not_not_intro rfl), hload]

theorem debugStore_facts (v : Word) :
    (∀ u, s.coreStore c true .word s.lf.dbgAddr v = (none, u) → Completes (.debugStore v) s fun t =>
      t.Reports 0 0 ∧ t.mem = u.mem ∧ t.regs = u.regs) ∧
    (∀ d u, s.coreStore c true .word s.lf.dbgAddr v = (some d, u) → Completes (.debugStore v) s fun t => t.Reports (dbgCodeOf d) 0) := by
  refine ⟨fun u hstore => ⟨u.dbgShow 0 0, congrArg Host.Outcome.next ((State.dbgHalted_of ho hs hh).trans ?_),
      State.dbgShow_reports, State.dbgShow_mem, State.dbgShow_regs⟩,
    fun d u hstore => ⟨u.dbgShow (dbgCodeOf d) 0, congrArg Host.Outcome.next ((State.dbgHalted_of ho hs hh).trans ?_), State.dbgShow_reports⟩⟩ <;>
  · dsimp only
    rw [if_neg (by simp [hb, ha]), hstore]

end

end Sys2Proof.Machine

namespace Sys2Proof
open Machine

/-- Settles O55, command by command of DBG_DATA; a step goes through the boundary behind its instruction. -/
theorem debugCommands : Obligations.DebugCommands := by
  intro s c hl hc
  refine ⟨fun ho hs => ⟨fun hh => debugHalt_halted ho hs hh, fun hh hx hst => debugHalt_facts ho hs hl hc hh (.of hx) hst,
      fun hh hx hst hq => debugResume_facts ho hs hl hc hh (.of hx) hst hq, fun n v hh => debug_running ho hs hh n v, fun hh => ?_,
      debugSetAddress_facts ho hs⟩,
    debugUnselected, fun hr hb hk hm d hd => debugBreakpoint_facts hl hc hd hr hb hk hm⟩
  refine ⟨fun op gd ga gb hx hp hw hrun hf hi => debugStep_facts ho hs hl hc hh (.of hx) hp hw hrun hf hi, debugReadRegister_gpr ho hs hh,
    debugReadRegister_pc ho hs hh, fun n v hn => ⟨debugReadRegister_beyond ho hs hh hn, debugWriteRegister_beyond ho hs hh hn⟩,
    fun g v hg => debugWriteRegister_gpr ho hs hl hc hh g v hg, debugWriteRegister_pc ho hs hl hc hh, fun n => ?_,
    debugMemory_barred ho hs hh, fun hb ha => ?_⟩
  · obtain ⟨hsome, hnone⟩ := debugReadSystemRegister_facts ho hs hh n
    exact ⟨hsome, hnone, fun v => (debugWriteSystemRegister_facts ho hs hh n v).1, fun v => (debugWriteSystemRegister_facts ho hs hh n v).2⟩
  · exact ⟨fun w u hsb => (debugLoad_facts ho hs hh hb ha hsb).1 w u, fun d u hsb => (debugLoad_facts ho hs hh hb ha hsb).2 d u,
      fun v => (debugStore_facts ho hs hh hb ha v).1, fun v => (debugStore_facts ho hs hh hb ha v).2⟩

end Sys2Proof

/-! SUPPORT. Quarantine, replay runs and release (R752 to R761, R766). -/

namespace Sys2Proof.Machine

variable {s t u : State} {i k v : Nat} {j : Job}

/-! ### What an answered replay command shows -/

/-- REPLAY_STATUS holds the cause above what it shows of the run in progress. -/
theorem State.replayShow_cause {cause : Nat} (hr : ∀ r ∈ s.lf.runs, r.vat < 64) (hc : cause < 256) :
    (s.replayShow cause).regField R.REPLAY_STATUS 23 16 = cause := by
  have hfield : ∀ n < 65536, field (w32 (cause * 65536 + n)) 23 16 = cause := fun n hn => by
    rw [field, w32, BitVec.toNat_ofNat]
    omega
  rw [State.replayShow, State.regField, State.reg_setReg_same]
  refine hfield _ ?_
  cases h : s.lf.runs.head? with
  | none => decide
  | some r =>
    have := hr r (List.mem_of_head? h)
    dsimp only
    omega

theorem State.replayShow_reg {cause : Nat} (h : k ≠ R.REPLAY_STATUS) : (s.replayShow cause).reg k = s.reg k := State.reg_setReg_other _ _ h

theorem State.BeatKept.done {e cls reason cause : Nat} {result output : Bytes} (h : s.BeatKept t) (hj : s.job? i = some j) (he : e = s.nextEdge) :
    ((t.answerCmd i e cls reason result output).replayShow cause).commandDone i cls s.nextEdge := by
  rw [State.commandDone, State.replayShow, State.job?_of_jobs (congrArg BeatState.jobs (State.setReg_bt _ _ _)), State.job?_answerCmd (h.job?.trans hj), he]
  rfl

/-- A replay command that is refused shows its cause. -/
theorem State.BeatKept.refused {cause : Nat} (h : s.BeatKept t) (hlf : t.lf = s.lf) (hr : ∀ r ∈ s.lf.runs, r.vat < 64) (hj : s.job? i = some j)
    (hc : cause < 256) :
    (t.replayRefuse i cause).commandDone i 1 s.nextEdge ∧ (t.replayRefuse i cause).regField R.REPLAY_STATUS 23 16 = cause :=
  ⟨h.done hj h.edge, State.replayShow_cause (s := t.answerCmd i t.nextEdge clsRefused 0 [] []) (fun r hm => hr r (hlf ▸ hm)) hc⟩

/-! ### Records, and the watermark's register 7 -/

section
variable {d op e : Nat} {b : Bytes}

theorem State.measure_rest : ∃ regs, s.measure i b = { s with regs } := by
  unfold State.measure
  split
  · obtain ⟨_, h⟩ := State.setRegBytes_rest (s := s) (k := R.WMARK_VALUE (12 * i)) (bs := sha384 (s.wmark i ++ b))
    rw [State.extend, h]
    exact ⟨_, rfl⟩
  · exact ⟨_, rfl⟩

theorem State.measure_reg (h : k ∉ extendedRegs i) : (s.measure i b).reg k = s.reg k := by
  unfold State.measure
  split
  · exact State.extend_reg h
  · rfl

theorem not_extendedRegs_seven (h : k < 0x100B00000 ∨ 0x100C00000 ≤ k) : k ∉ extendedRegs 7 := by
  simp only [extendedRegs, List.mem_cons, List.mem_map, List.mem_range, R.WMARK_COUNT, R.WMARK_VALUE]
  rintro (rfl | ⟨n, hn, rfl⟩) <;> omega

theorem State.replayMark_lf : (s.replayMark d v op e).lf = s.lf := by
  obtain ⟨_, h⟩ := State.measure_rest (s := s.queueRec { plainRec 3 d 0x22 1 [] [] with clear := [by8 v, by8 op] ++ zeros 6 ++ leBytes 8 e ++ zeros 16 })
    (i := 7) (b := sha384 ([by8 d, by8 v] ++ leBytes 8 e))
  rw [State.replayMark, h, State.queueRec_eq]

theorem State.replayMark_bt : (s.replayMark d v op e).bt = s.bt := by
  obtain ⟨_, h⟩ := State.measure_rest (s := s.queueRec { plainRec 3 d 0x22 1 [] [] with clear := [by8 v, by8 op] ++ zeros 6 ++ leBytes 8 e ++ zeros 16 })
    (i := 7) (b := sha384 ([by8 d, by8 v] ++ leBytes 8 e))
  rw [State.replayMark, h, State.queueRec_eq]

theorem State.replayMark_reg (h : k < 0x100B00000 ∨ 0x100C00000 ≤ k) : (s.replayMark d v op e).reg k = s.reg k :=
  (State.measure_reg (not_extendedRegs_seven h)).trans State.queueRec_reg

theorem State.replayMark_kept : s.BeatKept (s.replayMark d v op e) :=
  .of_reg (congrArg BeatState.jobs State.replayMark_bt) fun _ hk => State.replayMark_reg (.inl (by omega))

theorem State.replayRec_kept {c : Nat} : s.BeatKept (s.replayRec d b c) := .of_reg State.queueRec_jobs fun _ _ => State.queueRec_reg

theorem State.replayRec_lf {c : Nat} : (s.replayRec d b c).lf = s.lf := by rw [State.replayRec, State.queueRec_eq]

end

/-! ### A vat lost, and loaded again -/

theorem State.foldl_reg {α : Type} {l : List α} {f : State → α → State} (hf : ∀ u a, (f u a).reg k = u.reg k) : (l.foldl f s).reg k = s.reg k :=
  List.foldlRecOn l f (motive := fun u => u.reg k = s.reg k) rfl fun u hu a _ => (hf u a).trans hu

section
variable (hk : k < 0x1000000000)
include hk

theorem State.loadVatSet_reg {d : DSet} : (s.loadVatSet v d).reg k = s.reg k := by
  have hdec : ∀ n, k ≠ R.SYM_DECTAB_LO v n ∧ k ≠ R.SYM_DECTAB_HI v n := fun n => by
    simp only [R.SYM_DECTAB_LO, R.SYM_DECTAB_HI]
    omega
  have htok : ∀ n, k ≠ R.SYM_TOKPROF v n := fun n => by
    simp only [R.SYM_TOKPROF]
    omega
  unfold State.loadVatSet
  dsimp only
  rw [State.foldl_reg (l := d.tokprof.zipIdx) fun _ p => State.reg_setReg_other _ _ (htok p.2),
    State.foldl_reg (l := d.dectab.zipIdx) fun _ p => (State.reg_setReg_other _ _ (hdec p.2).2).trans (State.reg_setReg_other _ _ (hdec p.2).1)]
  simp only [R.SYM_POLICY, R.SYM_MAC_LEN, R.PKE_POLICY, R.PKE_ALG_EN]
  iterate 4 rw [State.reg_setReg_other _ _ (by omega)]

theorem State.placeLocal_reg {l : List SluiceLine} : (s.placeLocal v l).reg k = s.reg k := by
  refine State.foldl_reg fun u p => ?_
  refine (State.reg_setReg_other _ _ ?_).trans (State.reg_setReg_other _ _ ?_) <;> simp only [R.VSL_BASE, R.VSL_ATTR] <;> omega

theorem State.loadVat_reg : (s.loadVat v).reg k = s.reg k := by
  unfold State.loadVat
  split
  · rfl
  · rw [State.reg, State.write_regs]
    exact (State.placeLocal_reg hk).trans (State.loadVatSet_reg hk)

theorem State.katShow_reg {bad : Option Nat} : (s.katShow v bad).reg k = s.reg k := by
  refine (State.reg_setReg_other _ _ ?_).trans ((State.reg_setReg_other _ _ ?_).trans (State.reg_setReg_other _ _ ?_)) <;>
  simp only [R.SYM_STATUS, R.PKE_STATUS, R.VDR_STATUS] <;> omega

theorem State.vatLost_reg : (s.vatLost v).reg k = s.reg k := by
  have h : (s.vatLost v).reg k = ((s.wipe (0x1000000000 + 0x1000000 * v) 0x1000000).clearRegs (0x1000000000 + 0x1000000 * v)
    (0x1000000000 + 0x1000000 * v + 0x1000000)).reg k := rfl
  rw [h, State.clearRegs_reg, if_neg (by omega)]
  rfl

theorem State.reloadVat_reg : (s.reloadVat v).reg k = s.reg k := by
  rw [State.reloadVat, State.mapBt_reg, State.resetCore, State.setCore_reg, State.katShow_reg hk, State.loadVat_reg hk, State.vatLost_reg hk]

end

theorem State.loadVatSet_jobs {d : DSet} : (s.loadVatSet v d).bt.jobs = s.bt.jobs := by
  unfold State.loadVatSet
  dsimp only
  rw [State.foldl_jobs, State.foldl_jobs] <;> simp

theorem State.loadVat_jobs : (s.loadVat v).bt.jobs = s.bt.jobs := by
  unfold State.loadVat
  split
  · rfl
  · rw [State.write_bt, State.placeLocal, State.foldl_jobs fun _ _ => State.setRegs_jobs, State.loadVatSet_jobs]

theorem State.reloadVat_bt : (s.reloadVat v).bt = { ((s.vatLost v).loadVat v).bt with up := v :: ((s.vatLost v).loadVat v).bt.up } := by
  rw [State.reloadVat]
  generalize (s.vatLost v).loadVat v = t
  rfl

theorem State.vatLost_jobs : (s.vatLost v).bt.jobs = s.bt.jobs := rfl

theorem State.reloadVat_jobs : (s.reloadVat v).bt.jobs = s.bt.jobs := by
  rw [State.reloadVat_bt]
  dsimp only
  rw [State.loadVat_jobs, State.vatLost_jobs]

theorem State.vatLost_kept : s.BeatKept (s.vatLost v) := .of_reg rfl fun _ h => State.vatLost_reg (by omega)

theorem State.reloadVat_kept : s.BeatKept (s.reloadVat v) := 
  .of_reg State.reloadVat_jobs fun _ h => State.reloadVat_reg (by omega)

theorem State.reloadVat_up : v ∈ (s.reloadVat v).bt.up := by
  rw [State.reloadVat_bt]
  exact List.mem_cons_self

/-! ### Quarantine -/

theorem exec_replayQuarantine (hj : s.command i 0x8040 = some j) (hb : s.replayBegun i = false) : exec (.replayQuarantine i) s =
    .next (if s.othersIn j.deckle (byteAt j.desc 0x20) = false then s.replayRefuse i 8
      else (if s.inAdmission (byteAt j.desc 0x20) then s.parkNext (byteAt j.desc 0x20) else s).mapLf fun l =>
        { l with quarantine := l.quarantine ++ [(byteAt j.desc 0x20, i)] }) := by
  change execReplayQuarantine i s = _
  unfold execReplayQuarantine
  rw [hj]
  dsimp only
  rw [if_neg (by simp [hb])]
  simp only [Bool.not_eq_true]

theorem State.parkNext_parking : ((s.parkNext v).bt.parking.any fun p => p.1 == v) = true := by
  unfold State.parkNext State.parkAt
  split
  next h => exact h
  · simp

theorem State.parkNext_regs : (s.parkNext v).regs = s.regs := by
  unfold State.parkNext State.parkAt
  split <;> rfl

theorem replayQuarantine_facts (hr : ∀ r ∈ s.lf.runs, r.vat < 64) (hj : s.command i 0x8040 = some j) (hb : s.replayBegun i = false) :
    (s.othersIn j.deckle (byteAt j.desc 0x20) = false → Completes (.replayQuarantine i) s fun t =>
      t.commandDone i 1 s.nextEdge ∧ t.regField R.REPLAY_STATUS 23 16 = 8) ∧
    (s.othersIn j.deckle (byteAt j.desc 0x20) = true → Completes (.replayQuarantine i) s fun t =>
      (byteAt j.desc 0x20, i) ∈ t.lf.quarantine ∧ t.regs = s.regs ∧
      (s.inAdmission (byteAt j.desc 0x20) = true → t.bt.parking.any (fun p => p.1 == byteAt j.desc 0x20) = true)) := by
  have hx := exec_replayQuarantine hj hb
  refine ⟨fun ho => ?_, fun ho => ?_⟩
  · rw [if_pos ho] at hx
    exact ⟨_, hx, State.BeatKept.refl.refused rfl hr (State.job?_of_command hj).1 (by decide)⟩
  · rw [if_neg (by simp [ho])] at hx
    refine ⟨_, hx, List.mem_append_right _ List.mem_cons_self, ?_, fun ha => ?_⟩
    · rw [State.mapLf_regs]
      split
      · exact State.parkNext_regs
      · rfl
    · rw [State.mapLf_bt, if_pos ha]
      exact State.parkNext_parking

/-- The quarantine that vat `v` awaits. -/
abbrev State.awaited (s : State) (v : Nat) : Option (Nat × Nat) :=
  s.lf.quarantine.find? fun p => p.1 == v && ((s.job? p.2).any fun j => dVerb j.desc == 0x8040)

theorem State.job?_of_awaited {p : Nat × Nat} (hp : s.awaited v = some p) : ∃ j, s.job? p.2 = some j := by
  have h := List.find?_some (p := fun p : Nat × Nat => p.1 == v && ((s.job? p.2).any fun j => dVerb j.desc == 0x8040)) hp
  obtain ⟨j, hj, _⟩ := (Option.any_eq_true _ _).mp (Bool.and_eq_true_iff.mp h).2
  exact ⟨j, hj⟩

/-- Vat `v` reset, reloaded and quarantined, in state `k` of its domain. -/
def State.shutOff (s : State) (v k : Nat) : State := ((s.reloadVat v).setMaskBit R.REPLAY_QUAR_LO v true).setDom v k

/-- Quarantine `p` done with, and vat `v` of deckle `d` recorded and measured as quarantined. -/
def State.marksIn (s : State) (d v : Nat) (p : Nat × Nat) : State :=
  (s.mapLf fun l => { l with quarantine := l.quarantine.filter (· != p) }).replayMark d v 1 s.nextEdge

/-- Vat `v` quarantined for `p`. -/
def State.quarantineIn (s : State) (v : Nat) (p : Nat × Nat) : State :=
  (s.shutOff v (if s.maskBit R.PMU_PARK_FAULT_LO v then 3 else 2)).marksIn (((s.job? p.2).map (·.deckle)).getD 0) v p

/-- Where PMU_DOM_STATE and the vat masks of REPLAY_QUAR lie. -/
theorem dom_ne_quarantine {n w : Nat} (hn : n < 64) : R.REPLAY_QUAR_LO + 4 * w ≠ R.PMU_DOM_STATE n := by
  simp only [R.REPLAY_QUAR_LO, R.PMU_DOM_STATE]
  omega

theorem State.shutOff_kept : s.BeatKept (s.shutOff v k) :=
  State.reloadVat_kept.trans ((State.BeatKept.setReg (by simp only [R.REPLAY_QUAR_LO]; omega)).trans
    (State.BeatKept.setReg (by simp only [R.PMU_DOM_STATE]; omega)))

theorem State.shutOff_quarantined (hv : v < 64) : (s.shutOff v k).quarantined v = true :=
  (State.maskBit_eq_of_reg (State.reg_setReg_other _ _ (dom_ne_quarantine hv))).trans State.maskBit_setMaskBit_same

theorem State.shutOff_up : v ∈ (s.shutOff v k).bt.up := by
  rw [State.shutOff, State.setDom, State.setRegField, State.setReg_bt, State.setMaskBit, State.setRegBit, State.setReg_bt]
  exact State.reloadVat_up

section
variable {d : Nat} {p : Nat × Nat}

theorem State.marksIn_kept : s.BeatKept (s.marksIn d v p) := State.BeatKept.mapLf.trans State.replayMark_kept

theorem State.marksIn_quarantined : (s.marksIn d v p).quarantined v = s.quarantined v :=
  State.maskBit_eq_of_reg (State.replayMark_reg (.inr (by simp only [R.REPLAY_QUAR_LO]; omega)))

theorem State.marksIn_quarantine : p ∉ (s.marksIn d v p).lf.quarantine := by
  rw [State.marksIn, State.replayMark_lf]
  simp

theorem State.marksIn_up : (s.marksIn d v p).bt.up = s.bt.up := congrArg BeatState.up State.replayMark_bt

theorem State.quarantineIn_facts (hv : v < 64) :
    s.BeatKept (s.quarantineIn v p) ∧ (s.quarantineIn v p).quarantined v = true ∧ p ∉ (s.quarantineIn v p).lf.quarantine ∧
    v ∈ (s.quarantineIn v p).bt.up := by
  rw [State.quarantineIn, State.marksIn_quarantined, State.marksIn_up]
  exact ⟨State.shutOff_kept.trans State.marksIn_kept, State.shutOff_quarantined hv, State.marksIn_quarantine, State.shutOff_up⟩

end

theorem exec_replayQuarantineReady {v : Vat} {p : Nat × Nat} (hp : s.awaited v.val = some p) : exec (.replayQuarantineReady v) s =
    .next (if s.inAdmission v.val ∨ s.vatHolds v.val ∨ s.bt.parking.any (fun q => q.1 == v.val) then s
      else ((s.quarantineIn v.val p).answerCmd p.2 (s.quarantineIn v.val p).nextEdge clsOk 0 (zeros 16) []).replayShow 0) := by
  change execReplayQuarantineReady v s = _
  unfold execReplayQuarantineReady
  dsimp only
  rw [show List.find? _ _ = some p from hp]
  rfl

theorem replayQuarantineReady_facts {v : Vat} {p : Nat × Nat} (hp : s.awaited v.val = some p) :
    (s.inAdmission v = false → s.vatHolds v = false → (s.bt.parking.any fun q => q.1 == v.val) = false →
      Completes (.replayQuarantineReady v) s fun t =>
        t.quarantined v = true ∧ t.commandDone p.2 0 s.nextEdge ∧ p ∉ t.lf.quarantine ∧ v.val ∈ t.bt.up) ∧
    ((s.inAdmission v = true ∨ s.vatHolds v = true) → exec (.replayQuarantineReady v) s = .next s) := by
  have hx := exec_replayQuarantineReady hp
  refine ⟨fun ha hh hpark => ?_, fun h => ?_⟩
  · rw [if_neg (by simp [ha, hh, hpark])] at hx
    obtain ⟨hkept, hquar, hgone, hup⟩ := State.quarantineIn_facts (s := s) (p := p) v.isLt
    obtain ⟨j, hj⟩ := State.job?_of_awaited hp
    generalize s.quarantineIn v.val p = u at hx hkept hquar hgone hup
    refine ⟨_, hx, ?_, hkept.done hj hkept.edge, hgone, hup⟩
    refine (State.maskBit_eq_of_reg (State.replayShow_reg ?_)).trans hquar
    simp only [R.REPLAY_QUAR_LO, R.REPLAY_STATUS]
    omega
  · rwa [if_pos (h.imp_right .inl)] at hx

/-! ### Runs -/

theorem replayCheck_lt {a : ReplayAsk} {c : Nat} (h : s.replayCheck a j = some c) : c < 8 := by
  unfold State.replayCheck at h
  dsimp only at h
  split_ifs at h <;> cases h <;> decide

/-- A run that is refused may show the sequence number of a bad input, and is recorded. -/
theorem exec_replayRun_refused {c : Nat} (hj : s.command i 0x8041 = some j) (hb : s.replayBegun i = false)
    (hc : s.replayCheck (replayAsk j) j = some c) :
    ∃ u, s.BeatKept u ∧ u.lf = s.lf ∧ exec (.replayRun i) s = .next (u.replayRefuse i c) := by
  have hx : exec (.replayRun i) s = execReplayRun i s := rfl
  unfold execReplayRun at hx
  rw [hj] at hx
  dsimp only at hx
  rw [if_neg (by simp [hb]), hc] at hx
  dsimp only at hx
  split at hx
  · refine ⟨_, ?_, ?_, hx⟩
    · exact ((State.BeatKept.setReg (by decide)).trans (State.BeatKept.setReg (by decide))).trans State.replayRec_kept
    · rw [State.replayRec_lf]
      rfl
  · exact ⟨_, State.replayRec_kept, State.replayRec_lf, hx⟩

theorem exec_replayRun (hj : s.command i 0x8041 = some j) (hb : s.replayBegun i = false) (hc : s.replayCheck (replayAsk j) j = none) :
    exec (.replayRun i) s = .next (s.replayGo (replayAsk j) j) := by
  change execReplayRun i s = _
  unfold execReplayRun
  rw [hj]
  dsimp only
  rw [if_neg (by simp [hb]), hc]

theorem State.replayGo_facts {a : ReplayAsk} : (s.replayGo a j).reg R.REPLAY_R0 = w32 s.openEdge ∧
    ∃ r, (s.replayGo a j).lf.runs = r :: s.lf.runs ∧ r.job = j.id ∧ r.vat = a.qvat ∧ r.r0 = s.openEdge := by
  unfold State.replayGo
  extract_lets jobs order fin pairs rows count r0 last nums run u
  refine ⟨(State.replayShow_reg (by decide)).trans (State.reg_setReg_same _ _ _), run, rfl, rfl, rfl, rfl⟩

theorem replayRun_facts (hr : ∀ r ∈ s.lf.runs, r.vat < 64) (hj : s.command i 0x8041 = some j) (hb : s.replayBegun i = false) :
    (∀ c, s.replayCheck (replayAsk j) j = some c → Completes (.replayRun i) s fun t =>
      t.commandDone i 1 s.nextEdge ∧ t.regField R.REPLAY_STATUS 23 16 = c) ∧
    (s.replayCheck (replayAsk j) j = none → Completes (.replayRun i) s fun t =>
      t.reg R.REPLAY_R0 = w32 s.openEdge ∧
      ∃ r, t.lf.runs = r :: s.lf.runs ∧ r.job = i ∧ r.vat = (replayAsk j).qvat ∧ r.r0 = s.openEdge) := by
  have hjob := (State.job?_of_command hj).1
  refine ⟨fun c hc => ?_, fun hc => ⟨_, exec_replayRun hj hb hc, ?_⟩⟩
  · obtain ⟨u, hkept, hlf, hx⟩ := exec_replayRun_refused hj hb hc
    exact ⟨_, hx, hkept.refused hlf hr hjob (Nat.lt_trans (replayCheck_lt hc) (by decide))⟩
  · rw [← State.id_of_job? hjob]
    exact State.replayGo_facts

/-- The run `r` over: recorded, shown, and counted with its mismatches. -/
def State.runOver (s : State) (r : ReplayRun) : State :=
  ((((s.mapLf fun l => { l with runs := l.runs.filter fun x => x.job != r.job }).replayRec (((s.job? r.job).map (·.deckle)).getD 0) r.facts 0).replayShow
    0).bump R.REPLAY_RUNS).bumpBy R.REPLAY_MISMATCH r.misses

theorem State.runOver_kept {r : ReplayRun} : s.BeatKept (s.runOver r) :=
  .trans .mapLf (.trans State.replayRec_kept (.trans (.setReg (by decide)) (.trans (.setReg (by decide)) (.setReg (by decide)))))

theorem State.runOver_runs {r : ReplayRun} : r ∉ (s.runOver r).lf.runs := by
  rw [State.runOver, State.bumpBy, State.setReg_lf, State.bump, State.setReg_lf, State.replayShow, State.setReg_lf, State.replayRec_lf]
  simp

/-- The registers in which a run that is over counts. -/
theorem State.runOver_reg {r : ReplayRun} : (s.runOver r).reg R.REPLAY_RUNS = satInc (s.reg R.REPLAY_RUNS) ∧
    (s.runOver r).reg R.REPLAY_MISMATCH = satAdd (s.reg R.REPLAY_MISMATCH) r.misses := by
  unfold State.runOver
  have hreg : ∀ k, k ≠ R.REPLAY_STATUS → (((s.mapLf fun l => { l with runs := l.runs.filter fun x => x.job != r.job }).replayRec
      (((s.job? r.job).map (·.deckle)).getD 0) r.facts 0).replayShow 0).reg k = s.reg k :=
    fun k hk => (State.replayShow_reg hk).trans State.queueRec_reg
  generalize ((s.mapLf fun l => { l with runs := l.runs.filter fun x => x.job != r.job }).replayRec
    (((s.job? r.job).map (·.deckle)).getD 0) r.facts 0).replayShow 0 = u at hreg
  refine ⟨?_, ?_⟩
  · rw [State.bumpBy, State.reg_setReg_other _ _ (by decide), State.bump, State.reg_setReg_same, hreg _ (by decide)]
  · rw [State.bumpBy, State.reg_setReg_same, State.bump, State.reg_setReg_other _ _ (by decide), hreg _ (by decide)]

theorem exec_replayRunComplete {v : Vat} {r : ReplayRun} (hr : (s.lf.runs.find? fun r => r.vat == v.val) = some r) : exec (.replayRunComplete v) s =
    .next (if s.beat < r.last then s else
      (s.runOver r).answerCmd r.job (max (r.last + 1) (s.runOver r).nextEdge) clsOk 0 r.result r.output) := by
  change execReplayRunComplete v s = _
  unfold execReplayRunComplete
  rw [hr]
  rfl

theorem replayRunComplete_facts {v : Vat} {r : ReplayRun} (hr : (s.lf.runs.find? fun r => r.vat == v.val) = some r)
    (hj : (s.job? r.job).isSome = true) :
    (r.last ≤ s.beat → Completes (.replayRunComplete v) s fun t =>
      (t.job? r.job).map (fun y => (y.ready, y.cls, y.result, y.output, y.due)) = some (true, 0, r.result, r.output, some (max (r.last + 1) s.nextEdge)) ∧
      r ∉ t.lf.runs ∧ t.reg R.REPLAY_RUNS = satInc (s.reg R.REPLAY_RUNS) ∧ t.reg R.REPLAY_MISMATCH = satAdd (s.reg R.REPLAY_MISMATCH) r.misses) ∧
    (s.beat < r.last → exec (.replayRunComplete v) s = .next s) := by
  have hx := exec_replayRunComplete hr
  refine ⟨fun h => ?_, fun h => by rwa [if_pos h] at hx⟩
  rw [if_neg (by omega)] at hx
  obtain ⟨j, hj⟩ := Option.isSome_iff_exists.mp hj
  have hkept := State.runOver_kept (s := s) (r := r)
  have hruns := State.runOver_runs (s := s) (r := r)
  have hreg := State.runOver_reg (s := s) (r := r)
  generalize s.runOver r = u at hx hkept hruns hreg
  refine ⟨_, hx, ?_, hruns, hreg⟩
  rw [State.job?_answerCmd (hkept.job?.trans hj), hkept.edge]
  rfl

/-! ### Release -/

/-- Vat `v` reset and out of quarantine. -/
def State.setFree (s : State) (v : Nat) : State := (s.vatLost v).setMaskBit R.REPLAY_QUAR_LO v false

theorem State.setFree_kept : s.BeatKept (s.setFree v) := State.vatLost_kept.trans (.setReg (by simp only [R.REPLAY_QUAR_LO]; omega))

theorem State.setFree_quarantined : (s.setFree v).quarantined v = false := State.maskBit_setMaskBit_same

theorem State.setFree_fault (hv : v < 64) : (s.setFree v).maskBit R.PMU_PARK_FAULT_LO v = s.maskBit R.PMU_PARK_FAULT_LO v :=
  State.maskBit_eq_of_reg ((State.reg_setReg_other _ _ (by simp only [R.PMU_PARK_FAULT_LO, R.REPLAY_QUAR_LO]; omega)).trans
    (State.vatLost_reg (by simp only [R.PMU_PARK_FAULT_LO]; omega)))

theorem State.setDom_quarantined {n : Nat} (hn : n < 64) : (s.setDom n k).quarantined v = s.quarantined v :=
  State.maskBit_eq_of_reg (State.reg_setReg_other _ _ (dom_ne_quarantine hn))

theorem State.replayMark_quarantined {d w op e : Nat} : (s.replayMark d w op e).quarantined v = s.quarantined v :=
  State.maskBit_eq_of_reg (State.replayMark_reg (.inr (by simp only [R.REPLAY_QUAR_LO]; omega)))

theorem State.replayShow_quarantined {cause : Nat} : (s.replayShow cause).quarantined v = s.quarantined v :=
  State.maskBit_eq_of_reg (State.replayShow_reg (by simp only [R.REPLAY_QUAR_LO, R.REPLAY_STATUS]; omega))

theorem State.unpark_quarantined {n : Nat} (hn : n < 64) : (s.unpark n).quarantined v = s.quarantined v := by
  rw [State.unpark, State.quarantined, (State.raise_eventsOnly (by decide) (by decide)).maskBit
    (not_eventReg_link (by simp only [R.REPLAY_QUAR_LO]; omega))]
  refine State.maskBit_eq_of_reg ?_
  rw [State.mapBt_reg, State.setDom, State.setRegField, State.reg_setReg_other _ _ (dom_ne_quarantine hn), State.mapPw_reg]

theorem exec_replayRelease (hj : s.command i 0x8042 = some j) (hb : s.replayBegun i = false) (hv : v = byteAt j.desc 0x20) :
    exec (.replayRelease i) s = .next (if s.lf.runs.any fun r => r.vat == v then s.replayRefuse i 7
      else if ¬ s.quarantined v then s.replayRefuse i 1
      else if (s.setFree v).maskBit R.PMU_PARK_FAULT_LO v then
        ((((s.setFree v).setDom v 3).replayMark j.deckle v 2 (s.setFree v).nextEdge).answerCmd i (s.setFree v).nextEdge clsOk 0 (zeros 16) []).replayShow 0
      else ((s.setFree v).unpark v).mapLf fun l => { l with quarantine := l.quarantine ++ [(v, i)] }) := by
  subst hv
  change execReplayRelease i s = _
  unfold execReplayRelease
  rw [hj]
  dsimp only
  rw [if_neg (by simp [hb]), State.setFree]

theorem replayRelease_facts (hr : ∀ r ∈ s.lf.runs, r.vat < 64) (hj : s.command i 0x8042 = some j) (hb : s.replayBegun i = false)
    (hv : v = byteAt j.desc 0x20) :
    ((s.lf.runs.any fun r => r.vat == v) = true → Completes (.replayRelease i) s fun t =>
      t.commandDone i 1 s.nextEdge ∧ t.regField R.REPLAY_STATUS 23 16 = 7) ∧
    ((s.lf.runs.any fun r => r.vat == v) = false →
      (s.quarantined v = false → Completes (.replayRelease i) s fun t => t.commandDone i 1 s.nextEdge ∧ t.regField R.REPLAY_STATUS 23 16 = 1) ∧
      (s.quarantined v = true → v < 64 → Completes (.replayRelease i) s fun t =>
        t.quarantined v = false ∧ (s.maskBit R.PMU_PARK_FAULT_LO v = true → t.commandDone i 0 s.nextEdge) ∧
        (s.maskBit R.PMU_PARK_FAULT_LO v = false → (v, i) ∈ t.lf.quarantine))) := by
  have hx := exec_replayRelease hj hb hv
  have hjob := (State.job?_of_command hj).1
  refine ⟨fun hrun => ?_, fun hrun => ⟨fun hq => ?_, fun hq hlt => ?_⟩⟩
  · rw [if_pos hrun] at hx
    exact ⟨_, hx, State.BeatKept.refl.refused rfl hr hjob (by decide)⟩
  · rw [if_neg (by simp [hrun]), if_pos (by simp [hq])] at hx
    exact ⟨_, hx, State.BeatKept.refl.refused rfl hr hjob (by decide)⟩
  · rw [if_neg (by simp [hrun]), if_neg (by simp [hq]), State.setFree_fault hlt] at hx
    have hkept := State.setFree_kept (s := s) (v := v)
    have hout := State.setFree_quarantined (s := s) (v := v)
    generalize s.setFree v = u at hx hkept hout
    by_cases hf : s.maskBit R.PMU_PARK_FAULT_LO v = true
    · rw [if_pos hf] at hx
      have hmark : s.BeatKept ((u.setDom v 3).replayMark j.deckle v 2 u.nextEdge) :=
        hkept.trans (.trans (.setReg (by simp only [R.PMU_DOM_STATE]; omega)) State.replayMark_kept)
      refine ⟨_, hx, ?_, fun _ => hmark.done hjob hkept.edge, fun h => absurd hf (by simp [h])⟩
      refine State.replayShow_quarantined.trans ?_
      exact State.replayMark_quarantined.trans ((State.setDom_quarantined hlt).trans hout)
    · rw [if_neg hf] at hx
      exact ⟨_, hx, (State.unpark_quarantined hlt).trans hout, fun h => absurd h hf, fun _ => List.mem_append_right _ List.mem_cons_self⟩

end Sys2Proof.Machine

namespace Sys2Proof
open Machine

/-- Settles O56: quarantine, a run and release, each with the refusals before it. -/
theorem replayCommands : Obligations.ReplayCommands := by
  intro s i j v hr
  exact ⟨fun hj hb => replayQuarantine_facts hr hj hb, fun p hp => replayQuarantineReady_facts hp, fun hj hb => replayRun_facts hr hj hb,
    fun r hfind hj => replayRunComplete_facts hfind hj, fun hj hb => replayRelease_facts hr hj hb rfl⟩

end Sys2Proof
